-- ==== Sys2Proof/Word.lean ====
section
/-!
DEFINITION. The plain types every other file uses: bytes, 32-bit words and sparse tables.
-/
namespace Sys2Proof

/-- One byte. -/
abbrev Byte := BitVec 8

/-- One 32-bit word of a hewer (R275). -/
abbrev Word := BitVec 32

/-- A sparse table: number and entry, numbers strictly rising. What an absent number holds is said where the table is read. -/
abbrev Tbl (α : Type) := List (Nat × α)

end Sys2Proof
end

