-- ==== Sys2Proof/Syntax.lean ====
section
/-!
DEFINITION. The operands of the commands and the commands themselves (`Instr`), whole: every row of spec/opcode_table.json.
Operands are plain data: what the row's rule says the outside party or the engine supplies.
-/
namespace Sys2Proof

/-- A ring address: node [63:56], partition [55:52], space [51:48] and offset [47:0] (R40). -/
structure RingAddr where
  /-- Node; 0 is this hub. -/
  node : Nat := 0
  /-- Partition. -/
  part : Nat := 0
  /-- Space. -/
  space : Nat := 0
  /-- Offset. -/
  off : Nat := 0
  deriving DecidableEq, Repr

/-- A mailbox command descriptor without its opcode (R383), with the partition that issues it. -/
structure Desc where
  /-- Issuing partition. -/
  part : Nat := 0
  /-- FLAGS, byte 2: bit 0 ASYNC, bit 1 NOTIFY, bit 2 KTX22. -/
  flags : Nat := 0
  /-- Reserved byte 3. -/
  byte3 : Nat := 0
  /-- TAG, bytes 4 to 7. -/
  tag : Nat := 0
  /-- PARAMS, bytes 8 to 55; bytes beyond the list are 0. -/
  params : List Byte := []
  /-- BULK_OFF, bytes 56 to 59. -/
  bulkOff : Nat := 0
  /-- BULK_LEN, bytes 60 to 63. -/
  bulkLen : Nat := 0
  deriving DecidableEq, Repr

/-- On whose behalf a register access is made (R23, R49, R301). -/
structure Acc where
  /-- Requester's node; 0 is this hub. -/
  node : Nat := 0
  /-- Partition the access is made as. -/
  part : Nat := 0
  /-- Attachment of this hub it arrived on; none for a GRT requester. -/
  att : Option Nat := none
  /-- The read is speculative (R326). -/
  spec : Bool := false
  deriving DecidableEq, Repr

/-- A GRT header (R49). -/
structure GrtHdr where
  /-- TYPE (R50). -/
  typ : Nat := 0
  /-- FLAGS: [7:6] VER, [5] SPEC, [4] BCAST. -/
  flags : Nat := 0x40
  /-- SRC_NODE. -/
  srcNode : Nat := 0
  /-- SRC_PART. -/
  srcPart : Nat := 0
  /-- ADDRESS. -/
  addr : RingAddr := {}
  /-- TAG. -/
  tag : Nat := 0
  /-- LENGTH. -/
  len : Nat := 0
  /-- TYPE_INFO, header bytes 16 to 23. -/
  info : List Byte := []
  deriving DecidableEq, Repr

/-- A GRT frame as the port delivers it to the hub's own GRT service. -/
structure GrtFrame where
  /-- Ingress port. -/
  port : Nat := 0
  /-- Source MAC. -/
  smac : Nat := 0
  /-- VLAN ID. -/
  vid : Nat := 0
  /-- The frame was validated by MACsec. -/
  macsec : Bool := false
  /-- Header. -/
  hdr : GrtHdr := {}
  /-- Payload. -/
  payload : List Byte := []
  deriving DecidableEq, Repr

/-- An Ethernet frame as the switch sees it (R72 to R86). -/
structure Frame where
  /-- Destination MAC. -/
  dmac : Nat := 0
  /-- Source MAC. -/
  smac : Nat := 0
  /-- 802.1Q tag: PCP and VLAN ID. -/
  tag : Option (Nat × Nat) := none
  /-- EtherType after the tags. -/
  etherType : Nat := 0
  /-- HSR tag: sequence number. -/
  hsr : Option Nat := none
  /-- GRT header, when the frame carries one. -/
  grt : Option GrtHdr := none
  /-- Payload after the headers. -/
  payload : List Byte := []
  /-- PathId of the HSR tag. -/
  path : Nat := 0
  /-- Frame length in bytes from destination MAC to FCS, the HSR tag included, without SecTAG and ICV (R73). -/
  len : Nat := 64
  /-- Association number and packet number of a MACsec-protected frame. -/
  macsec : Option (Nat × Nat) := none
  /-- Bytes from SecTAG to ICV of a MACsec-protected frame, as the link carries them (R65). -/
  sec : List Byte := []
  deriving DecidableEq, Repr

/-- A CAN frame: ID_WORD (R226), DLC, XL fields (R229) and data. -/
structure CanFrame where
  /-- ID_WORD. -/
  idWord : Nat := 0
  /-- DLC. -/
  dlc : Nat := 0
  /-- XL frame. -/
  xl : Bool := false
  /-- ESI bit. -/
  esi : Bool := false
  /-- XL field block, 8 bytes. -/
  xlFields : List Byte := []
  /-- Data bytes. -/
  data : List Byte := []
  deriving DecidableEq, Repr

/-- A producer bound to a tub queue (R105). -/
inductive Producer where
  /-- No producer. -/
  | none
  /-- The host, through the producer port. -/
  | host
  /-- Switch port 14. -/
  | port14
  /-- Hewer `h`. -/
  | hewer (h : Nat)
  /-- CAN channel `c`: receive queue, subscriber slot or transport queue. -/
  | can (c : Nat)
  /-- Event delivery of partition `p`. -/
  | event (p : Nat)
  /-- Capture unit `u`. -/
  | capture (u : Nat)
  /-- Image subscription of partition `p`. -/
  | image (p : Nat)
  /-- The canary tap. -/
  | canary
  /-- Firmware. -/
  | firmware
  deriving DecidableEq, Repr

/-- A consumer bound to a tub queue (R105). -/
inductive Consumer where
  /-- No consumer. -/
  | none
  /-- The host, through the consumer port. -/
  | host
  /-- Switch port 14. -/
  | port14
  /-- PCIe DMA. -/
  | dma
  /-- Hewer `h`. -/
  | hewer (h : Nat)
  /-- CAN channel `c`: feeder or transport transmit queue. -/
  | can (c : Nat)
  /-- Firmware. -/
  | firmware
  deriving DecidableEq, Repr

/-- A received Sync with its follow-up values (R155, R159). -/
structure SyncMsg where
  /-- domainNumber. -/
  num : Nat := 0
  /-- Ingress port. -/
  port : Nat := 0
  /-- clockIdentity of its grandmaster. -/
  gmId : Nat := 0
  /-- originTimestamp in ns. -/
  origin : Nat := 0
  /-- correctionField, in units of 2^-16 ns. -/
  corr : Int := 0
  /-- ns since its start-of-frame delimiter passed the MAC time-stamp point. -/
  age : Nat := 0
  /-- The grandmaster's rate against LT by the accumulated rate ratio, in units of 2^-48. -/
  rate : Int := 0
  /-- logMessageInterval announced. -/
  log : Int := -3
  deriving DecidableEq, Repr

/-- A received Announce (R152, R166). -/
structure AnnounceMsg where
  /-- domainNumber. -/
  num : Nat := 0
  /-- Ingress port. -/
  port : Nat := 0
  /-- clockIdentity of the grandmaster it announces. -/
  gmId : Nat := 0
  /-- Priority vector as one number: priority1, clockClass, accuracy and variance, priority2, clockIdentity; lower is better. -/
  vector : Nat := 0
  /-- stepsRemoved. -/
  steps : Nat := 0
  /-- clockIdentity of the sender. -/
  sender : Nat := 0
  /-- logMessageInterval of the sender's Announces. -/
  log : Int := 0
  /-- currentUtcOffset. -/
  utc : Int := 0
  /-- timeSource. -/
  source : Nat := 0xA0
  /-- clockIdentities of the path trace. -/
  path : List Nat := []
  deriving DecidableEq, Repr

/-- A received Pdelay_Req (R157). -/
structure PdelayMsg where
  /-- Port on which it is received. -/
  port : Nat := 0
  /-- domainNumber. -/
  num : Nat := 0
  /-- sequenceId. -/
  seq : Nat := 0
  /-- sourcePortIdentity: clockIdentity and port number. -/
  sender : Nat := 0
  /-- correctionField, in units of 2^-16 ns. -/
  corr : Int := 0
  /-- ns since its start-of-frame delimiter passed the MAC time-stamp point. -/
  age : Nat := 0
  deriving DecidableEq, Repr

/-- Where a memory error is found: a cell, a row of R20, a table or a bus, and the byte or entry in it (R375). -/
structure EccPlace where
  /-- Cell, row, table or bus. -/
  loc : Nat := 0
  /-- Byte of the memory, or entry of the table. -/
  addr : Nat := 0
  deriving DecidableEq, Repr

/-- What a debugger's access names (R423, R424). -/
structure DebugPlace where
  /-- Region, in the order of R424. -/
  region : Nat := 0
  /-- Offset from the start of the region. -/
  off : Nat := 0
  /-- Bytes read. -/
  len : Nat := 0
  deriving DecidableEq, Repr

/-- One sample of a power branch (R438). -/
structure BrSample where
  /-- V_IN in mV. -/
  vIn : Nat := 0
  /-- V_OUT in mV. -/
  vOut : Nat := 0
  /-- Signed current in mA. -/
  i : Int := 0
  /-- NTC temperature in 0.25 °C; none when open or short. -/
  ntc : Option Int := none
  /-- The ramp limit acts. -/
  inLimit : Bool := false
  deriving DecidableEq, Repr

/-- What the converters of the assay die have given up to the end of a measuring time (R460). -/
structure AssaySample where
  /-- Conversion outputs in order, newest last, each the raw counts of channels 0 to 3. -/
  outs : List (List Int) := []
  deriving DecidableEq, Repr


/-- The commands of the block: one constructor for each row of spec/opcode_table.json, in its order. -/
inductive Instr where
  /-- DEV_INFO (R344): Command that returns DEV_CAPS0, DEV_CAPS1 and FW_STATUS of the member as the partition sees it. -/
  | devInfo (d : Desc)
  /-- PART_CREATE (R331): Command that creates an ABSENT partition 1 to 15 in the native or KTX22 profile. -/
  | partCreate (d : Desc)
  /-- PART_DESTROY (R332): Command that resets a partition, returns its resources and sources to partition 0, unbinds its attachments and sets it ABSENT. -/
  | partDestroy (d : Desc)
  /-- PART_RESET (R333): Command that resets a partition, keeping its ownership and bindings and resetting its resources as tabled. -/
  | partReset (d : Desc)
  /-- PART_BIND (R336): Command that binds an attachment to one partition or to none. -/
  | partBind (d : Desc)
  /-- HOST_SET (R314): Command that writes one entry of the Ethernet host table. -/
  | hostSet (d : Desc)
  /-- SRAM_REGION_SET (R340): Command that defines, changes or deletes a region of the shared SRAM window. -/
  | sramRegionSet (d : Desc)
  /-- CMD_ABORT (R354): Command that stops the oldest ASYNC command with a given tag if it has not passed its point of no return. -/
  | cmdAbort (d : Desc)
  /-- RES_ASSIGN (R337): Command that moves an idle resource or an event source to a new owner partition. -/
  | resAssign (d : Desc)
  /-- RES_SUBSCRIBE (R338): Command that adds a read-only subscriber partition to a resource. -/
  | resSubscribe (d : Desc)
  /-- RES_UNSUBSCRIBE (R338): Command that removes a read-only subscriber partition from a resource. -/
  | resUnsubscribe (d : Desc)
  /-- RES_QUERY (R393): Command that returns a resource's owner, subscribers, firmware hold and idle state. -/
  | resQuery (d : Desc)
  /-- RES_LIST (R393): Command that writes the handles of owned or subscribed resources of a class to a bulk output. -/
  | resList (d : Desc)
  /-- RING_STATUS (R64): Command that returns the ring status record. -/
  | ringStatus (d : Desc)
  /-- RING_CFG (R394): Command that sets ring ID, GRT VLAN and EtherType, beacon interval, forget time and completion timeout. -/
  | ringCfg (d : Desc)
  /-- LINK_CFG (R27): Command that forces or negotiates the rate of a ring or spur port and retrains the link. -/
  | linkCfg (d : Desc)
  /-- PLCA_CFG (R394): Command that sets the PLCA parameters of a T1S port. -/
  | plcaCfg (d : Desc)
  /-- BARRIER (R71): Command that sends a barrier token round the ring and completes when it returns or times out. -/
  | barrier (d : Desc)
  /-- RING_RESET (R72): Command to the acting manager that sends RING_RESET and later resets the manager itself. -/
  | ringReset (d : Desc)
  /-- MACSEC_SA_ADD (R67): Command that installs a MACsec secure association key on a port and zeroes the bulk key. -/
  | macsecSaAdd (d : Desc)
  /-- MACSEC_TX_AN (R67): Command that switches the transmit association number of a port. -/
  | macsecTxAn (d : Desc)
  /-- MACSEC_SA_DEL (R67): Command that deletes a MACsec secure association. -/
  | macsecSaDel (d : Desc)
  /-- MACSEC_CFG (R394): Command that enables MACsec on a port and sets its replay window. -/
  | macsecCfg (d : Desc)
  /-- MACSEC_STATUS (R394): Command that returns the MACsec association state of a port. -/
  | macsecStatus (d : Desc)
  /-- PORT_CFG (R79): Command that sets a port's MAX_FRAME, PVID, default class, learning, PCP map and flood set. -/
  | portCfg (d : Desc)
  /-- FDB_WRITE (R76): Command that writes a forwarding database entry. -/
  | fdbWrite (d : Desc)
  /-- FDB_DELETE (R396): Command that deletes a forwarding database entry by MAC and VLAN. -/
  | fdbDelete (d : Desc)
  /-- FDB_READ (R396): Command that copies valid forwarding database entries to a bulk output. -/
  | fdbRead (d : Desc)
  /-- FDB_FLUSH (R396): Command that removes learned or all database entries, for one port or all. -/
  | fdbFlush (d : Desc)
  /-- DSET_WRITE (R78): Command that writes a destination set entry. -/
  | dsetWrite (d : Desc)
  /-- STREAM_WRITE (R80): Command that writes a stream table entry with its policer, refilling its bucket. -/
  | streamWrite (d : Desc)
  /-- STREAM_READ (R396): Command that returns a stream table entry. -/
  | streamRead (d : Desc)
  /-- LIMIT_SET (R89): Command that sets an ingress or egress cell limit of a port. -/
  | limitSet (d : Desc)
  /-- POOL_SET (R89): Command that sets RESERVE, RESERVE_MIN_CLASS and PIN_KEEP. -/
  | poolSet (d : Desc)
  /-- AGE_SET (R91): Command that sets the residence limit of a class and the database ageing time. -/
  | ageSet (d : Desc)
  /-- CANARY_SET (R92): Command that writes a canary tap rule and restarts its count. -/
  | canarySet (d : Desc)
  /-- Q_CONFIG (R104): Command that sets a tub queue's control bits, limit, watermark and launch source. -/
  | qConfig (d : Desc)
  /-- Q_BIND (R105): Command that binds or unbinds the producer or consumer of a tub queue. -/
  | qBind (d : Desc)
  /-- Q_FLUSH (R116): Command that requests a flush of a tub queue. -/
  | qFlush (d : Desc)
  /-- Q_DESC (R103): Command that returns a queue descriptor as it stood at one cycle. -/
  | qDesc (d : Desc)
  /-- DMA_RING_SET (R120): Command that configures the host DMA ring of a queue. -/
  | dmaRingSet (d : Desc)
  /-- Q_MAP (R397): Command that lists the queues firmware has taken with their uses. -/
  | qMap (d : Desc)
  /-- SCHED_SET (R125): Command that sets a port's overhead, strict count, gate enable, late limit and weights. -/
  | schedSet (d : Desc)
  /-- ROSTER_SET (R134): Command that writes a port's administrative shift roster and reports its switch-over instant. -/
  | rosterSet (d : Desc)
  /-- ROSTER_READ (R398): Command that returns the operating or administrative roster of a port. -/
  | rosterRead (d : Desc)
  /-- SAMPLE_CFG (R141): Command that sets the depth and sojourn sampling period and bins of an object. -/
  | sampleCfg (d : Desc)
  /-- SAMPLE_READ (R144): Command that returns, and optionally clears, an object's sampling record. -/
  | sampleRead (d : Desc)
  /-- DOMAIN_CFG (R160): Command that sets the parameters of time domains A and B. -/
  | domainCfg (d : Desc)
  /-- PTP_PORT_CFG (R153): Command that sets a port's precision time profile and delays. -/
  | ptpPortCfg (d : Desc)
  /-- STEP_PERMIT (R165): Command that arms or cancels one step of the working clock. -/
  | stepPermit (d : Desc)
  /-- DOMAIN_SWITCH (R167): Command that switches the working clock to the named domain at once. -/
  | domainSwitch (d : Desc)
  /-- TOD_SET (R172): Command that gives the seconds of the next PPS_IN edge and the UTC offset. -/
  | todSet (d : Desc)
  /-- PPS_CFG (R173): Command that sets the PPS_IN edge and the PPS_OUT clock and width. -/
  | ppsCfg (d : Desc)
  /-- TRIG_SET (R176): Command that arms a time trigger unit. -/
  | trigSet (d : Desc)
  /-- TRIG_READ (R399): Command that returns a trigger unit's firing count and arm register. -/
  | trigRead (d : Desc)
  /-- CAPT_SET (R179): Command that sets a capture unit's source, edges and target queue. -/
  | captSet (d : Desc)
  /-- CYCLE_START (R188): Command that sets the cycle parameters, takes units 60 to 63 and starts the cycle. -/
  | cycleStart (d : Desc)
  /-- CYCLE_STOP (R188): Command that ends the cycle at the next snapshot and returns the units. -/
  | cycleStop (d : Desc)
  /-- IMAGE_MAP_SET (R190): Command that writes the input image map to take effect at a later snapshot. -/
  | imageMapSet (d : Desc)
  /-- SEG_CFG (R193): Command that sets a segment's publication and readers. -/
  | segCfg (d : Desc)
  /-- IMAGE_SUB (R195): Command that subscribes a queue to image segments of other nodes. -/
  | imageSub (d : Desc)
  /-- GROUP_SET (R197): Command that writes a disabled output group's descriptor and items. -/
  | groupSet (d : Desc)
  /-- GROUP_ENABLE (R197): Command that enables or disables an output group. -/
  | groupEnable (d : Desc)
  /-- GROUP_SAFE_SET (R212): Command that writes an output group's safe record. -/
  | groupSafeSet (d : Desc)
  /-- GROUP_STATUS (R204): Command that returns an output group's status record. -/
  | groupStatus (d : Desc)
  /-- TWIN_SET (R206): Command that defines or deletes a twin set and returns its digest. -/
  | twinSet (d : Desc)
  /-- TWIN_ENABLE (R206): Command that enables or disables a twin set, starting its listening period. -/
  | twinEnable (d : Desc)
  /-- TWIN_REARM (R210): Command that re-arms twin sets left standby by a last gasp. -/
  | twinRearm (d : Desc)
  /-- TWIN_TAKEOVER (R208): Command that makes a standby twin active. -/
  | twinTakeover (d : Desc)
  /-- DRILL (R215): Command that hands an active twin set to its partner from a named cycle. -/
  | drill (d : Desc)
  /-- TWIN_STATUS (R400): Command that returns a twin set's role, tallies and digest. -/
  | twinStatus (d : Desc)
  /-- TALLY_REGISTER (R211): Command that adds or removes a host tally registration for last-gasp resigns. -/
  | tallyRegister (d : Desc)
  /-- CAN_CFG (R218): Command that sets a CAN channel's bit timing and parameters. -/
  | canCfg (d : Desc)
  /-- CAN_MODE (R222): Command that requests a CAN channel mode change. -/
  | canMode (d : Desc)
  /-- CAN_QUEUE_BIND (R228): Command that binds a channel's receive, subscriber, transport or feeder queue. -/
  | canQueueBind (d : Desc)
  /-- CAN_TX_BUF (R230): Command that writes or replaces a frame in a priority buffer. -/
  | canTxBuf (d : Desc)
  /-- CAN_TX_ABORT (R230): Command that empties pending priority buffers. -/
  | canTxAbort (d : Desc)
  /-- CAN_STATUS (R236): Command that returns a CAN channel's status record. -/
  | canStatus (d : Desc)
  /-- TP_CFG (R237): Command that enables the transport service on a channel. -/
  | tpCfg (d : Desc)
  /-- ACL_CFG (R240): Command that enables the address-claim agent with its NAME and addresses. -/
  | aclCfg (d : Desc)
  /-- ACL_STATUS (R241): Command that returns the agent's address and state and its bus table. -/
  | aclStatus (d : Desc)
  /-- TUNNEL_SET (R242): Command that creates or deletes a CAN tunnel. -/
  | tunnelSet (d : Desc)
  /-- MAP_SET (R249): Command that writes a disabled signal map with its sources, signals and templates. -/
  | mapSet (d : Desc)
  /-- MAP_ENABLE (R249): Command that enables or disables a signal map. -/
  | mapEnable (d : Desc)
  /-- MAP_STATUS (R402): Command that returns a map's status and latest-value records. -/
  | mapStatus (d : Desc)
  /-- PIN_CFG (R268): Command that sets a field pin's options and restarts its input path. -/
  | pinCfg (d : Desc)
  /-- PIN_READ (R403): Command that returns a bank's raw, filtered, debounced and commanded levels. -/
  | pinRead (d : Desc)
  /-- PIN_WRITE (R272): Command that drives levels and directions of masked discrete pins of a bank. -/
  | pinWrite (d : Desc)
  /-- PIN_TIMED (R273): Command that sets or cancels a pin's timed transition. -/
  | pinTimed (d : Desc)
  /-- PIN_COUNT_CLEAR (R271): Command that clears a pin's edge counter and re-arms COUNT_SAT. -/
  | pinCountClear (d : Desc)
  /-- HEWER_CFG (R276): Command that writes a stopped hewer's configuration. -/
  | hewerCfg (d : Desc)
  /-- HEWER_LOAD (R295): Command that loads a program into a stopped hewer. -/
  | hewerLoad (d : Desc)
  /-- HEWER_LOAD_LIB (R297): Command that loads a ROM library program into a stopped hewer. -/
  | hewerLoadLib (d : Desc)
  /-- HEWER_START (R296): Command that starts named hewers at once or arms them on a trigger unit. -/
  | hewerStart (d : Desc)
  /-- HEWER_STOP (R294): Command that stops named hewers at one edge. -/
  | hewerStop (d : Desc)
  /-- HEWER_REG_WRITE (R280): Command that writes U or V of a hewer as an external write. -/
  | hewerRegWrite (d : Desc)
  /-- HEWER_IRQ_SET (R280): Command that sets IRQ_IN bits of a hewer. -/
  | hewerIrqSet (d : Desc)
  /-- HEWER_STATUS (R300): Command that returns a hewer's status record. -/
  | hewerStatus (d : Desc)
  /-- FLAG_ASSIGN (R290): Command that assigns a cluster or global flag to an owner. -/
  | flagAssign (d : Desc)
  /-- FLAG_READ (R403): Command that returns the owned flags of a cluster and the global flags. -/
  | flagRead (d : Desc)
  /-- FLAG_WRITE (R290): Command that sets, clears or toggles owned flags as an external write. -/
  | flagWrite (d : Desc)
  /-- EVQ_SET (R365): Command that binds or moves the partition's event queue. -/
  | evqSet (d : Desc)
  /-- EVT_CFG (R368): Command that sets an event source's masks, storm limits and forwarding, ending storm state. -/
  | evtCfg (d : Desc)
  /-- EVT_STATUS (R405): Command that returns an event source's storm state and suppressed count. -/
  | evtStatus (d : Desc)
  /-- BRANCH_CFG (R435): Command that configures an off power branch and its thermal model. -/
  | branchCfg (d : Desc)
  /-- BRANCH_SET (R436): Command that turns a power branch on or off. -/
  | branchSet (d : Desc)
  /-- RETRY_NOW (R445): Command that raises a start request at once for a branch waiting for retry. -/
  | retryNow (d : Desc)
  /-- BRANCH_STATUS (R406): Command that returns a branch's state, last trip, retries and measurement record. -/
  | branchStatus (d : Desc)
  /-- INRUSH_CFG (R446): Command that sets the inrush arbiter and start slots, taking or returning unit 59. -/
  | inrushCfg (d : Desc)
  /-- ENERGY_CLEAR (R438): Command that returns and clears a branch's energy count. -/
  | energyClear (d : Desc)
  /-- ASSAY_INFO (R466): Command that returns the assay island's identification and latest sequence. -/
  | assayInfo (d : Desc)
  /-- ASSAY_MEASURE (R460): Command that starts a measurement on an assay channel. -/
  | assayMeasure (d : Desc)
  /-- ASSAY_ZERO (R460): Command that sets the zero of a weighing instrument within limits. -/
  | assayZero (d : Desc)
  /-- ASSAY_TARE (R460): Command that sets or clears the tare of a weighing instrument. -/
  | assayTare (d : Desc)
  /-- ASSAY_TRANSFER (R475): Command that copies signed records of owned channels to a bulk output. -/
  | assayTransfer (d : Desc)
  /-- ASSAY_PARAM_SET (R463): Command that changes a legally relevant parameter under the seal with an audit entry. -/
  | assayParamSet (d : Desc)
  /-- AUDIT_READ (R464): Command that copies audit log entries to a bulk output. -/
  | auditRead (d : Desc)
  /-- UPD_BEGIN (R493): Command that starts an update and erases the first sector of the target slot. -/
  | updBegin (d : Desc)
  /-- UPD_DATA (R493): Command that programs the next part of an update image into its slot. -/
  | updData (d : Desc)
  /-- UPD_VERIFY (R489): Command that verifies the update slot and writes its verified marker. -/
  | updVerify (d : Desc)
  /-- UPD_ACTIVATE (R494): Command that writes a boot-control record selecting the verified slot. -/
  | updActivate (d : Desc)
  /-- UPD_CONFIRM (R495): Command that confirms a hub image in trial and raises the OTP thermometer. -/
  | updConfirm (d : Desc)
  /-- UPD_ABORT (R493): Command that abandons an update before activation and erases the slot's first sector. -/
  | updAbort (d : Desc)
  /-- BOOT_INFO (R408): Command that returns slots, versions, trial count and last reset cause. -/
  | bootInfo (d : Desc)
  /-- WARM_RESET (R480): Command that completes and then warm-resets the main die 1 ms later. -/
  | warmReset (d : Desc)
  /-- COUNTERS_READ (R410): Command that writes, and optionally clears, the counters of a scope. -/
  | countersRead (d : Desc)
  /-- TEMP_READ (R382): Command that returns the five junction temperature readings. -/
  | tempRead (d : Desc)
  /-- CELL_HEADER_READ (R98): Command that returns a cell's header word. -/
  | cellHeaderRead (d : Desc)
  /-- DEBUG_UNLOCK (R428): Command that issues a debug challenge or checks its signed answer and unlocks debug. -/
  | debugUnlock (d : Desc)
  /-- LOG_READ (R503): Command that copies entries of the flash log to a bulk output. -/
  | logRead (d : Desc)
  /-- MBX_SQ_TAIL_WRITE (R349): Doorbell write that submits mailbox descriptors or is refused. -/
  | mbxSqTailWrite (a : Acc) (v : Nat)
  /-- MBX_CQ_HEAD_WRITE (R349): Write that frees consumed completion slots or is refused. -/
  | mbxCqHeadWrite (a : Acc) (v : Nat)
  /-- COMMAND_START (R351): A copied descriptor starts once earlier commands have completed or been accepted and its completion slots are reserved. -/
  | commandStart (p : Nat)
  /-- ASYNC_COMPLETE (R351): An ASYNC command finishes in the background and writes its final completion. -/
  | asyncComplete (p : Nat) (tag : Nat)
  /-- COMMAND_OVERRUN (R355): A service command passes ten times its bound and the deputy completes it with FIRMWARE_FAULT. -/
  | commandOverrun (p : Nat)
  /-- PROD_DATA (R110): Write that appends 4 or 8 bytes to the open packet of a host-produced queue. -/
  | prodData (a : Acc) (q : Nat) (data : List Byte)
  /-- PROD_COMMIT (R106): PROD_COMMIT write with COMMIT that ends the open packet, trimming its last bytes. -/
  | prodCommit (a : Acc) (q : Nat) (trim : Nat)
  /-- PROD_ABORT (R107): PROD_COMMIT write with ABORT that rewinds the open packet. -/
  | prodAbort (a : Acc) (q : Nat)
  /-- FLUSH (R116): Write of 1 to the FLUSH register that requests a flush of the queue. -/
  | flush (a : Acc) (q : Nat)
  /-- DMA_HEAD_WRITE (R121): Write of the host read index that frees DMA ring slots and re-arms the ring. -/
  | dmaHeadWrite (a : Acc) (q : Nat) (v : Nat)
  /-- POP (R111): Read of a STREAM queue's POP register that returns and consumes the next bytes of the head packet. -/
  | pop (a : Acc) (q : Nat) (len : Nat)
  /-- HOLD_OFFSET_WRITE (R114): Write that moves the 4 KiB view window of the presented HOLD packet. -/
  | holdOffsetWrite (a : Acc) (q : Nat) (v : Nat)
  /-- HOLD_ACK (R114): Write that releases the presented HOLD packet whose SEQ it carries. -/
  | holdAck (a : Acc) (q : Nat) (seq : Nat)
  /-- WM_PENDING_ACK (R117): Write of 1 to WM_PENDING that acknowledges the watermark notice. -/
  | wmPendingAck (a : Acc) (q : Nat)
  /-- PACKET_VISIBLE (R106): A committed packet becomes visible to the consumer in the cycle after its commit. -/
  | packetVisible (q : Nat)
  /-- HOLD_PRESENT (R114): The next visible packet is presented to a HOLD consumer in the cycle after a release. -/
  | holdPresent (q : Nat)
  /-- CELL_ALLOCATE (R88): A producer needs a new cell and the switch admits or refuses it against limits and pool. -/
  | cellAllocate (q : Nat) (data : List Byte)
  /-- DMA_PACKET_DELIVER (R120): The DMA engine writes a packet into free host ring slots, then the tail, and signals its vector. -/
  | dmaPacketDeliver (q : Nat)
  /-- STAGE_DATA_WRITE (R200): Write of output group data into the source's open staging record. -/
  | stageDataWrite (a : Acc) (g : Nat) (off : Nat) (data : List Byte)
  /-- STAGE_COMMIT (R200): Write that ends a staging record and passes it to the tally rules. -/
  | stageCommit (a : Acc) (g : Nat) (value : Nat)
  /-- STAGE_ABORT (R200): STAGE_COMMIT write with ABORT that discards the open record. -/
  | stageAbort (a : Acc) (g : Nat)
  /-- STAGE_RECORD_EXPIRY (R200): A staging record left open for 1 ms is discarded. -/
  | stageRecordExpiry (node : Nat) (part : Nat) (g : Nat)
  /-- DOMAIN_SWITCH_WRITE (R170): Write of the DOMAIN_SWITCH register that schedules a domain switch. -/
  | domainSwitchWrite (a : Acc) (value : Nat)
  /-- TRIG_ARM_WRITE (R178): Write of TRIG_ARM that arms, rearms or cancels a trigger unit. -/
  | trigArmWrite (a : Acc) (t : Nat) (value : Nat)
  /-- EVQ_HEAD_WRITE (R369): Write of the processed record count that clears FIRED and re-arms notification. -/
  | evqHeadWrite (a : Acc) (v : Nat)
  /-- EVQ_CTRL_WRITE (R367): Write that sets the notification target, vector and moderation. -/
  | evqCtrlWrite (a : Acc) (v : Nat)
  /-- FAULT_FIRST_CLEAR (R376): Write of 1 to VALID that clears FAULT_FIRST and FAULT_COUNT. -/
  | faultFirstClear (a : Acc)
  /-- RCV_STATUS_CLEAR (R327): Write of 1 to VALID that clears the recovery register. -/
  | rcvStatusClear (a : Acc) (att : Nat)
  /-- REGISTER_WRITE (R7): Write to a register or memory location with no row of its own, under the access codes. -/
  | registerWrite (a : Acc) (addr : RingAddr) (data : List Byte)
  /-- PCIE_MEM_READ (R304): PCIe memory read through BAR0 or BAR2, served locally or as GRT reads. -/
  | pcieMemRead (att : Nat) (bar : Nat) (off : Nat) (len : Nat)
  /-- PCIE_MEM_WRITE (R306): PCIe memory write through BAR0 or BAR2, served locally or as WRITE_P. -/
  | pcieMemWrite (att : Nat) (bar : Nat) (off : Nat) (data : List Byte)
  /-- PCIE_ATOMIC (R324): PCIe AtomicOp run as a locked read and write. -/
  | pcieAtomic (att : Nat) (bar : Nat) (off : Nat) (op : Nat) (data : List Byte)
  /-- PCIE_LINK_DOWN (R308): A PCIe attachment goes down by link loss, FLR or enable bits cleared. -/
  | pcieLinkDown (att : Nat) (cause : Nat)
  /-- SPI_READ (R311): SPI READ frame answered with token, status and data. -/
  | spiRead (cs : Nat) (addr : RingAddr) (len : Nat) (spec : Bool)
  /-- SPI_WRITE (R311): SPI posted WRITE frame. -/
  | spiWrite (cs : Nat) (addr : RingAddr) (data : List Byte)
  /-- SPI_WRITE_NP (R311): SPI non-posted write frame answered with status. -/
  | spiWriteNp (cs : Nat) (addr : RingAddr) (data : List Byte)
  /-- SPI_FETCHADD (R324): SPI fetch-and-add atomic frame. -/
  | spiFetchadd (cs : Nat) (addr : RingAddr) (data : List Byte)
  /-- SPI_SWAP (R324): SPI swap atomic frame. -/
  | spiSwap (cs : Nat) (addr : RingAddr) (data : List Byte)
  /-- SPI_CAS (R324): SPI compare-and-swap atomic frame. -/
  | spiCas (cs : Nat) (addr : RingAddr) (data : List Byte)
  /-- SPI_SHORT (R313): An SPI frame ends early and is dropped, discarded or recovered. -/
  | spiShort (cs : Nat) (cmd : Nat) (addr : Option RingAddr) (len : Nat) (spec : Bool) (data : List Byte)
  /-- SPI_CS_IDLE_TIMEOUT (R313): A chip select held inactive for 10 ms marks its attachment down. -/
  | spiCsIdleTimeout (cs : Nat)
  /-- NP_REQUEST_ISSUE (R319): A waiting non-posted request leaves once its completion reservation fits. -/
  | npRequestIssue
  /-- POSTED_WRITE_ISSUE (R318): A waiting posted write leaves once outbound posted space is free. -/
  | postedWriteIssue
  /-- GRT_TIMEOUT (R53): A non-posted request's completion timeout expires and the requester reports TIMEOUT. -/
  | grtTimeout (tag : Nat)
  /-- LOCK_RETRY (R323): The requesting bridge repeats a request refused with LOCKED_RETRY every 1 µs until its limit. -/
  | lockRetry (tag : Nat)
  /-- LOCK_TIMEOUT_EXPIRY (R325): A lock held for LOCK_TIMEOUT is broken and its entry freed. -/
  | lockTimeoutExpiry (space : Nat) (gran : Nat)
  /-- READ (R50): Received GRT READ served under the checks and answered with data. -/
  | read (f : GrtFrame)
  /-- WRITE_P (R50): Received GRT posted write, or broadcast write, applied under the checks. -/
  | writeP (f : GrtFrame)
  /-- WRITE_NP (R50): Received GRT non-posted write applied and answered. -/
  | writeNp (f : GrtFrame)
  /-- LOCK_READ (R322): Received GRT LOCK_READ that locks a granule and returns its data. -/
  | lockRead (f : GrtFrame)
  /-- WRITE_UNLOCK (R323): Received GRT WRITE_UNLOCK that writes and releases a locked granule. -/
  | writeUnlock (f : GrtFrame)
  /-- COMPLETION (R54): Received GRT completion matched to an outstanding request. -/
  | completion (f : GrtFrame)
  /-- EVENT (R368): Received GRT EVENT frame committed to the named partition's event queue. -/
  | event (f : GrtFrame)
  /-- BARRIER_TOKEN (R71): Received barrier token counted, held, passed, turned or ended. -/
  | barrierToken (f : GrtFrame)
  /-- BARRIER_TOKEN_RELEASE (R71): A held token is sent on once the bridge has no outbound posted write waiting. -/
  | barrierTokenRelease
  /-- IMAGE_IN (R195): Received input image segment delivered to subscribing queues. -/
  | imageIn (f : GrtFrame)
  /-- IMAGE_OUT (R202): Received output group data frame passed to the tally rules. -/
  | imageOut (f : GrtFrame)
  /-- SHADOW (R209): Received shadow CRC recorded for comparison at the deadline. -/
  | shadow (f : GrtFrame)
  /-- RESIGN (R202): Received resign frame applied to the named groups. -/
  | resign (f : GrtFrame)
  /-- CAN_TUNNEL (R244): Received tunnel frame whose records enter the local timed queue. -/
  | canTunnel (f : GrtFrame)
  /-- ENUM_WALK (R58): Received walk frame recorded and sent on with HOP + 1. -/
  | enumWalk (f : GrtFrame)
  /-- ENUM_REPORT (R58): Received ring status report resolved by the manager. -/
  | enumReport (f : GrtFrame)
  /-- ENUM_ASSIGN (R58): Received number assignment or withdrawal. -/
  | enumAssign (f : GrtFrame)
  /-- MGR_BEACON (R62): Received manager beacon updating ring state or ending standby takeover. -/
  | mgrBeacon (f : GrtFrame)
  /-- RING_RESET_FRAME (R72): Received RING_RESET performed from the manager or refused from others. -/
  | ringResetFrame (f : GrtFrame)
  /-- BEACON_TIMER (R62): The acting manager's beacon interval expires and it sends MGR_BEACON. -/
  | beaconTimer
  /-- BEACON_LOSS (R63): A standby manager misses 3 beacon intervals and takes over. -/
  | beaconLoss
  /-- WALK_TIMEOUT (R58): The East walk does not return within 1 ms and the manager sends a West walk. -/
  | walkTimeout
  /-- ENUMERATION_START (R58): The manager starts a walk after its firmware runs, its reset or a ring-state change. -/
  | enumerationStart
  /-- LINK_UP (R27): A port's link trains. -/
  | linkUp (port : Nat) (rate : Nat) (partner : List Nat) (crossed : Bool)
  /-- LINK_DOWN (R37): A port's link or recovered clock is lost. -/
  | linkDown (port : Nat)
  /-- FRAME_HEAD (R79): A frame's head arrives and is classified, looked up and copied to its destinations. -/
  | frameHead (port : Nat) (fr : Frame)
  /-- FRAME_END (R84): A frame ends and is found good or bad, committing, stomping or rewinding its copies. -/
  | frameEnd (port : Nat) (bad : Nat) (len : Nat)
  /-- TRANSMITTER_FREE (R127): A port's transmitter becomes free and select() chooses the next copy. -/
  | transmitterFree (port : Nat)
  /-- SELECT_RETRY (R127): select() is rerun at a gate change, launch time or admission after returning none. -/
  | selectRetry (port : Nat)
  /-- ROSTER_ENTRY_BOUNDARY (R132): A shift roster entry ends and the gates change. -/
  | rosterEntryBoundary (port : Nat)
  /-- ROSTER_SWITCHOVER (R134): At instant X the administrative roster becomes the operating roster. -/
  | rosterSwitchover (port : Nat)
  /-- LAUNCH_TIME_REACHED (R137): A head copy's launch time is reached and it becomes eligible. -/
  | launchTimeReached (port : Nat) (cls : Nat)
  /-- AGE_SWEEP (R91): The 64 µs sweep discards egress heads beyond their residence limit. -/
  | ageSweep
  /-- FDB_AGE_EXPIRY (R76): A learned database entry reaching FDB_AGE is removed. -/
  | fdbAgeExpiry (mac : Nat) (vlan : Nat)
  /-- DD_FORGET (R35): A duplicate-discard entry unused for the forget time is freed. -/
  | ddForget (mac : Nat)
  /-- PROXY_FORGET (R36): A proxied node silent for 60 s is forgotten. -/
  | proxyForget (mac : Nat)
  /-- SAMPLE_INSTANT (R142): A sampling instant records depth and sojourn of an object. -/
  | sampleInstant (obj : Nat)
  /-- SYNC_RECEIVED (R159): A Sync of a domain updates its servo, state and the working clock. -/
  | syncReceived (m : SyncMsg)
  /-- ANNOUNCE_RECEIVED (R166): An Announce updates the election and may trigger a quality switch. -/
  | announceReceived (m : AnnounceMsg)
  /-- PDELAY_EXCHANGE (R153): A peer delay request interval expires and an exchange runs. -/
  | pdelayExchange (port : Nat) (trip : Option Int)
  /-- SYNC_LOSS (R166): A domain's loss instant passes without a Sync and it is declared LOST. -/
  | syncLoss (dom : Nat)
  /-- SCHEDULED_SWITCH (R170): A scheduled domain switch instant is reached. -/
  | scheduledSwitch
  /-- SYNC_SEND (R171): As grandmaster, the Sync interval expires and a one-step Sync is sent. -/
  | syncSend (dom : Nat)
  /-- PPS_IN_EDGE (R172): A PPS_IN edge is accepted or ignored. -/
  | ppsInEdge (rising : Bool)
  /-- PPS_IN_LOST (R172): Three expected PPS_IN edges are missing. -/
  | ppsInLost
  /-- PPS_OUT_PULSE (R173): A second boundary of the selected clock drives PPS_OUT. -/
  | ppsOutPulse
  /-- TRIGGER_FIRE (R175): A time trigger unit reaches its instant and signals its consumers. -/
  | triggerFire (t : Nat)
  /-- CAPTURE_EDGE (R180): A capture unit records a source edge and commits its record. -/
  | captureEdge (u : Nat) (rising : Bool)
  /-- SNAPSHOT (R185): At S_n every image source is latched. -/
  | snapshot
  /-- IMAGE_ASSEMBLED (R193): Image assembly completes and the view switches to cycle n. -/
  | imageAssembled
  /-- PUBLISH (R194): At P_n the image segments are launched. -/
  | publish
  /-- DEADLINE (R202): At D_n acceptance closes and shadows, resigns and leases are evaluated. -/
  | deadline
  /-- APPLY (R199): At A_n each group applies its accepted record, its safe record or holds. -/
  | apply
  /-- TWIN_LISTEN_END (R206): A newly enabled twin ends its listening period and takes its role. -/
  | twinListenEnd (set : Nat)
  /-- CAN_FRAME_RECEIVED (R223): A valid CAN frame is committed as a record to the receive and slot queues. -/
  | canFrameReceived (ch : Nat) (fr : CanFrame)
  /-- CAN_ARBITRATION (R232): At an arbitration opportunity the controller offers the winning pending frame. -/
  | canArbitration (ch : Nat) (lost : Option Bool)
  /-- CAN_TX_COMPLETE (R230): A CAN transmission attempt ends in success or error. -/
  | canTxComplete (ch : Nat)
  /-- CAN_ERROR (R234): A bus error changes the error counters and state. -/
  | canError (ch : Nat) (kind : Nat) (tx : Bool) (step : Nat)
  /-- BUS_RETURN (R235): The 128th recessive sequence returns the channel from bus-off. -/
  | busReturn (ch : Nat) (n : Nat)
  /-- PROTOCOL_EXCEPTION (R219): An unhandled frame format puts the channel into protocol exception. -/
  | protocolException (ch : Nat) (xl : Bool)
  /-- CAN_INTEGRATED (R222): 11 recessive bits end integration and the channel takes part. -/
  | canIntegrated (ch : Nat)
  /-- CAN_MODE_EFFECT (R222): A requested mode change takes effect when the bus is idle or the frame ends. -/
  | canModeEffect (ch : Nat)
  /-- FEEDER_HEAD_MOVE (R231): The feeder's head packet is checked and moves into the timed list when an entry is free. -/
  | feederHeadMove (ch : Nat)
  /-- TP_TIMEOUT (R238): A J1939 transport timeout expires and the session aborts. -/
  | tpTimeout (ch : Nat) (sa : Nat) (da : Nat)
  /-- TP_MESSAGE_COMPLETE (R238): A completed transport message is copied and committed to the transport queue. -/
  | tpMessageComplete (ch : Nat) (sa : Nat) (da : Nat)
  /-- TP_TRANSMIT (R239): A message from the transport transmit queue is sent with TP frames. -/
  | tpTransmit (ch : Nat)
  /-- ADDRESS_CLAIM_TIMEOUT (R240): 250 ms pass without a lower contending claim and the agent holds the address. -/
  | addressClaimTimeout (ch : Nat)
  /-- TUNNEL_BATCH (R243): A tunnel's batch time expires and its records are sent as one frame. -/
  | tunnelBatch (ch : Nat)
  /-- CRUSH_RECEPTION (R251): A source message is taken, its signals decoded and its ON_RX templates built. -/
  | crushReception
  /-- CRUSH_OVERRUN (R248): A source packet waiting 10 ms is released undecoded. -/
  | crushOverrun
  /-- CRUSH_STALE (R251): A source silent for TIMEOUT makes its signals STALE. -/
  | crushStale (m : Nat) (src : Nat)
  /-- PERIODIC_TEMPLATE (R260): A PERIODIC template's instant is reached and its message is built. -/
  | periodicTemplate (m : Nat) (t : Nat)
  /-- MIN_GAP_EXPIRY (R260): A held emission is built and sent once MIN_GAP has passed. -/
  | minGapExpiry (m : Nat) (t : Nat)
  /-- SET (R284): Hewer instruction that sets a destination to immediate data. -/
  | hwSet (h : Nat)
  /-- MOV (R284): Hewer instruction that moves an operated source to a destination. -/
  | hwMov (h : Nat)
  /-- JMP (R285): Hewer instruction that jumps on a condition. -/
  | hwJmp (h : Nat)
  /-- DJNZ (R284): Hewer instruction that decrements U or V and jumps if not zero. -/
  | hwDjnz (h : Nat)
  /-- WAIT (R285): Hewer instruction that stalls until a source equals its polarity. -/
  | hwWait (h : Nat)
  /-- IN (R286): Hewer instruction that shifts bits into G, with optional auto-store. -/
  | hwIn (h : Nat)
  /-- OUT (R286): Hewer instruction that shifts bits out of S, with optional auto-fetch. -/
  | hwOut (h : Nat)
  /-- PUSH (R288): Hewer instruction that pushes G into the RX FIFO. -/
  | hwPush (h : Nat)
  /-- PULL (R286): Hewer instruction that fills S from the TX FIFO or LAST_WORD. -/
  | hwPull (h : Nat)
  /-- TSTAMP (R289): Hewer instruction that pushes the working-clock time. -/
  | hwTstamp (h : Nat)
  /-- ABORT (R288): Hewer instruction that rewinds the open packet and clears G. -/
  | hwAbort (h : Nat)
  /-- FLAG (R290): Hewer instruction that sets, clears or toggles a flag. -/
  | hwFlag (h : Nat)
  /-- IRQ (R299): Hewer instruction that raises one of the hewer's event sources. -/
  | hwIrq (h : Nat)
  /-- STALL_COMPLETE (R279): A stalled instruction's test passes at a tick and it completes. -/
  | stallComplete (h : Nat)
  /-- RX_FIFO_DRAIN (R288): RX FIFO words drain into the RX queue, committing at EOP or PKT_WORDS. -/
  | rxFifoDrain (h : Nat)
  /-- TX_FIFO_FILL (R287): Words move from the TX queue into the TX FIFO as room appears. -/
  | txFifoFill (h : Nat)
  /-- HEWER_START_EDGE (R296): Armed hewers start on the edge that sees their unit's firing. -/
  | hewerStartEdge (unit : Nat)
  /-- PIN_INPUT_EDGE (R269): A pad level change passes the glitch filter and changes the filtered level. -/
  | pinInputEdge (p : Nat) (level : Bool) (width : Nat)
  /-- DEBOUNCE_EXPIRY (R271): The filtered level holds for DEBOUNCE and the debounced level changes, raising edge events and counts. -/
  | debounceExpiry (p : Nat)
  /-- STUCK_TIMEOUT (R298): An active debounced level lasting STUCK_MS raises STUCK. -/
  | stuckTimeout (p : Nat)
  /-- TIMED_TRANSITION (R273): A pin's timed transition instant is reached and the pin changes. -/
  | timedTransition (p : Nat)
  /-- BANK_SUPPLY_LOSS (R267): A bank's VIO falls below threshold; inputs read 0 and outputs float. -/
  | bankSupplyLoss (b : Nat)
  /-- BANK_SUPPLY_RETURN (R267): A bank's VIO returns and outputs drive their commanded states again. -/
  | bankSupplyReturn (b : Nat) (mv : Nat)
  /-- NOTIFICATION_TIMEOUT (R369): TIME_MOD passes with records pending and the notification fires. -/
  | notificationTimeout (p : Nat)
  /-- STORM_END (R373): STORM_WINDOW passes without a record and the source leaves storm state. -/
  | stormEnd (src : Nat)
  /-- FAULT_DETECTED (R374): A fault is detected and handled at its level, queued, merged or escalated. -/
  | faultDetected (code : Nat) (detail : Nat)
  /-- FAULT_QUEUED_HANDLE (R377): A queued fault is handled after the one before it ends. -/
  | faultQueuedHandle
  /-- LOCKSTEP_MISMATCH (R413): A core pair's outputs differ or its comparator alarms and its bus port closes. -/
  | lockstepMismatch (pair : Nat)
  /-- FIREWALL_BLOCK (R425): A core access blocked by the bus firewall takes an access fault. -/
  | firewallBlock (pair : Nat)
  /-- WATCHDOG_EXPIRY (R422): The deputy watchdog expires 50 ms after its last refresh. -/
  | watchdogExpiry
  /-- CLOCK_ALARM (R14): An island's clock monitor raises its alarm. -/
  | clockAlarm (island : Nat)
  /-- SUPPLY_ALARM (R517): A main-die rail leaves its monitor band. -/
  | supplyAlarm (rail : Nat)
  /-- TEMP_THRESHOLD (R537): A sensor crosses a temperature threshold upward. -/
  | tempThreshold (sensor : Nat) (reading : Int)
  /-- ECC_ERROR (R381): A memory read or scrub finds a corrected or uncorrectable error. -/
  | eccError (kind : Nat) (place : EccPlace)
  /-- DIE_LINK (R375): A die-to-die link error is found and the link retrained. -/
  | dieLink (die : Nat) (up : Bool)
  /-- DEBUG_HALT (R431): The debugger halts or resumes a main core. -/
  | debugHalt (hart : Nat) (halt : Bool)
  /-- POWER_ON_RESET (R479): VDD_AON rises and the main and power dies reset. -/
  | powerOnReset
  /-- RESET_N (R479): RESET_N held low resets the main and power dies. -/
  | resetN (ns : Nat)
  /-- BROWN_OUT (R481): A core rail below its reset threshold for 10 µs causes a power-on reset. -/
  | brownOut (us : Nat)
  /-- BOOT (R486): ROM runs the self-test and selects and verifies an image to boot. -/
  | boot (failed : List Nat)
  /-- CONFIG_APPLY (R491): The deputy applies the active configuration record once service firmware runs. -/
  | configApply
  /-- TRIAL_WINDOW_EXPIRY (R495): TRIAL_WINDOW passes without confirm and the deputy reverts and resets. -/
  | trialWindowExpiry
  /-- BRANCH_SAMPLE (R438): The power die samples a branch every 10 µs and updates measurements and model. -/
  | branchSample (b : Nat) (m : BrSample)
  /-- BREAKER_TRIP (R443): The breaker content reaches I2T and the branch trips. -/
  | breakerTrip (b : Nat)
  /-- SHORT_TRIP (R444): The short comparator trips and pulls both gates down. -/
  | shortTrip (b : Nat) (ma : Int)
  /-- THERMAL_TRIP (R445): T_MODEL reaches TEMP_TRIP and the branch trips. -/
  | thermalTrip (b : Nat)
  /-- RAMP_DONE (R437): V_OUT comes within 0.5 V of V_IN and the branch goes ON. -/
  | rampDone (b : Nat)
  /-- RETRY_DUE (R445): The retry interval passes with the model cool and a start request is raised. -/
  | retryDue (b : Nat)
  /-- START_GRANT (R446): The inrush arbiter grants a waiting start request and the branch ramps. -/
  | startGrant
  /-- RETRIES_RESTORE (R445): 60 s in ON without a trip restores RETRIES_LEFT. -/
  | retriesRestore (b : Nat)
  /-- SUPPLY_LOW (R448): V_IN below 8.5 V for 1 ms sets SUPPLY_LOW. -/
  | supplyLow (b : Nat) (vin : Nat) (us : Nat)
  /-- SUPPLY_HOLD (R448): V_IN below 6 V or above 60 V switches running branches off into a supply hold. -/
  | supplyHold (b : Nat) (vin : Nat) (us : Nat)
  /-- SUPPLY_RESTORED (R448): V_IN back in band for 10 ms clears SUPPLY_LOW and restarts held branches. -/
  | supplyRestored (b : Nat) (vin : Nat) (us : Nat)
  /-- BACKFEED (R449): V_OUT of an off branch stays above 2 V or below 1 V for 10 ms. -/
  | backfeed (b : Nat) (vout : Nat) (us : Nat)
  /-- NTC_FAULT (R442): A fitted NTC reads open or short and the model falls back to sensor 4. -/
  | ntcFault (b : Nat) (bad : Bool)
  /-- BRANCH_HOLD_EXPIRY (R450): The 50 ms hold ends and branches not retaken are opened. -/
  | branchHoldExpiry
  /-- ASSAY_POWER_ON (R455): The assay die powers on, self-tests and commits a START record. -/
  | assayPowerOn (pass : Bool)
  /-- ASSAY_FAULT (R456): An assay die fault resets the die or puts it in fault hold. -/
  | assayFault (kind : Nat) (pass : Bool)
  /-- MEASUREMENT_COMPLETE (R472): An accepted assay measurement, zero or tare ends and its signed record is committed. -/
  | measurementComplete (c : Nat) (m : AssaySample)
  /-- PARAM_COMMIT (R463): A waiting parameter change commits with its counter and audit entry once the measurement ends. -/
  | paramCommit
  /-- SEAL_CHANGE (R462): ASSAY_SEAL_N holds a new level for 20 ms. -/
  | sealChange (asserted : Bool) (ms : Nat)
  /-- HUB_TIME_UPDATE (R474): The main die sends the working clock to the assay die every ms. -/
  | hubTimeUpdate
  /-- HUB_TIME_LOSS (R474): No hub time arrives for 10 ms and HUB_VALID is cleared. -/
  | hubTimeLoss
  /-- PULSE_INPUT (R458): A debounced pulse on a pulse channel counts up or down. -/
  | pulseInput (c : Nat) (down : Bool) (us : Nat)
  /-- PCIE_LINK_UP (R308): A PCIe attachment comes up again when its link trains, function-level reset ends and Bus Master and Memory Space Enable are set, and DMA delivery resumes where it stopped. -/
  | pcieLinkUp (att : Nat)
  /-- VDD_PWR_FAIL (R448): VDD_PWR fails, every gate is pulled down and every branch is OFF when the power die restarts. -/
  | vddPwrFail
  /-- VDDA_ASSAY_ABSENT (R455): VDDA_ASSAY is lost, the assay die stops running, STATE reads 0 and assay commands and window reads fail until power returns. -/
  | vddaAssayAbsent
  /-- EXC_FAULT (R457): A bridge channel's sense voltage falls below 2.5 V, a SENSE input opens, or the condition clears, changing EXC_FAULT and raising it once per change. -/
  | excFault (c : Nat) (bad : Bool)
  /-- PDELAY_REQ (R157): A neighbour's Pdelay_Req arrives on a gPTP port and the hub answers with a one-step Pdelay_Resp whose correctionField it writes at egress. -/
  | pdelayReq (m : PdelayMsg)
  /-- ONE_STEP_REFUSED (R154): A neighbour signals that it cannot receive one-step Sync; the port stops sending time toward it and raises ONE_STEP_REFUSED. -/
  | oneStepRefused (port : Nat)
  /-- ON_CHANGE_PERIOD (R260): For an ON_CHANGE template with PERIOD other than 0, PERIOD passes since its last send and the message is built and sent. -/
  | onChangePeriod (m : Nat) (t : Nat)
  /-- DRILL_HANDOFF (R215): The partner twin receives a drill with its new tally and n_d, acknowledges it, and prepares to send IMAGE_OUT from n_d. -/
  | drillHandoff (set : Nat) (tally : Nat) (n : Nat) (ack : Bool)
  /-- TEMP_REARM (R537): Every temperature sensor reads below its re-arm level; the temperature events re-arm and a boot held in pass-through after TEMP_SHUTDOWN proceeds to ROM start. -/
  | tempRearm (sensor : Nat) (reading : Int)
  /-- DEBUGGER_ACCESS (R425): The debugger makes a DMI or system bus access; it has no effect while debug is locked, is checked against the firewall, and is counted in DEBUG_DENIED when blocked. -/
  | debuggerAccess (place : DebugPlace) (write : Option (List Byte))
  deriving DecidableEq, Repr

end Sys2Proof
end

