-- ==== Sys2Proof/Config.lean ====
section
/-!
DEFINITION. What the spec leaves to the part or leaves open, as uninterpreted constants: nothing can evaluate them.
-/
namespace Sys2Proof.Config

/-- The free value drawn `n`-th: any 64-bit value (log 5). -/
opaque free : Nat → BitVec 64

/-- The random nonce of a debug challenge, by draw number (R428; log 6). -/
opaque nonce : Nat → List Byte

/-- GCM-AES of a frame (R65): suite, key, salt, SSCI, packet number, bytes from destination MAC to SecTAG, bytes to encrypt; ciphertext
and ICV (log 6). -/
opaque gcmSeal : Nat → List Byte → List Byte → Nat → Nat → List Byte → List Byte → List Byte

/-- Whether an ECDSA signature verifies: key selector, message, signature (R428, R489; log 6). -/
opaque sigOk : Nat → List Byte → List Byte → Bool

/-- A SHA digest: selector (256 or 384) and message (R466, R489; log 6). -/
opaque digest : Nat → List Byte → List Byte

/-- The CRC-32 of R206 over a twin set's firmware version, maps, schedules and groups: the spec does not lay out the bytes that enter it
(log 5). -/
opaque setDigest : List Int → BitVec 32

/-- AES key unwrap under the device key (R490; log 6). -/
opaque unwrap : List Byte → List Byte

/-- The signature of the assay die over a record's bytes 0 to 63 (R472; log 6). -/
opaque recordSig : List Byte → List Byte

/-- The weight, in 2^-32 UNIT, of a summed corrected signal before rounding to D: the zero in force in 2^-30 raw counts, CAL_SPAN,
LIN_A2, signal in 2^-30 raw counts (R459; log 10). -/
opaque weigh : Int → Int → Int → Int → Int

/-- A ROM library program: words, for a program ID, cluster pin base and parameter bytes (R297; log 7). -/
opaque libProgram : Nat → Nat → List Byte → List (BitVec 32)

/-- The configuration, in the layout of HEWER_CFG without its queues, that a ROM library program sets (R276, R297; log 7). -/
opaque libCfg : Nat → Nat → List Byte → List Byte

/-- ENTRY and LOOP_TO of a ROM library program (R293, R297; log 7). -/
opaque libEntry : Nat → Nat → List Byte → Nat × Nat

/-- Whether the divider reaches the rate a ROM library program asks for within ±0.5 % (R297; log 7). -/
opaque libRateOk : Nat → List Byte → Bool

/-- clockAccuracy and offsetScaledLogVariance that this hub announces for a domain, 24 bits (R152, R166; log 13). -/
opaque clockQuality : Nat → Nat

/-- The forwarding database set of a MAC and VLAN (R75; log 11). -/
opaque fdbHash : Nat → Nat → Nat

/-- One update of the three-stage ladder: stage resistances, heat capacities, stage temperatures above the reference in µK, and the
heat that enters the junction in 10^-23 J; the stage temperatures after 10 µs, junction first (R441; log 14). -/
opaque ladder : List Nat → List Nat → List Int → Nat → List Int

end Sys2Proof.Config
end

