-- ==== Sys2Proof/Machine/StateNet.lean ====
section
/-!
DEFINITION. The state of the network side: links, ring, switch, queues and the cell pool, scheduling, network time (chapters 02 to 06).
Each field names the rule of spec/ that gives it; a default is its value at reset.
-/
namespace Sys2Proof.Machine

/-- A switch port's link (R27, R361). -/
structure Link where
  /-- the link has trained (R27). -/
  up : Bool := false
  /-- rate in Mbit/s at which it trained, 0 while down (R27). -/
  rate : Nat := 0
  /-- RATE of the last LINK_CFG: 0 negotiate, else the forced rate (R27, R394). -/
  forced : Nat := 0
  /-- rates the link partner last advertised (R27). -/
  partner : List Nat := []
  /-- up, but carrying no traffic for want of keys (R68, R361). -/
  keyWait : Bool := false
  deriving DecidableEq, Repr

/-- PLCA parameters of a T1S port (R394). -/
structure Plca where
  /-- NODE_ID; 0 coordinator, 255 off (R394). -/
  nodeId : Nat := 255
  /-- NODE_COUNT (R394). -/
  nodeCount : Nat := 1
  /-- TO_TIMER in bit times (R394). -/
  toTimer : Nat := 1
  /-- MAX_BURST (R394). -/
  maxBurst : Nat := 0
  /-- BURST_TIMER in bit times (R394). -/
  burstTimer : Nat := 0
  deriving DecidableEq, Repr

/-- One MACsec secure association (R65 to R69, R394). -/
structure Sa where
  /-- cipher suite (R65, R394). -/
  suite : Nat := 0
  /-- association key (R67, R394). -/
  key : List Byte := []
  /-- SALT (R394). -/
  salt : List Byte := []
  /-- SSCI (R394). -/
  ssci : Nat := 0
  /-- next packet number (R66, R69). -/
  nextPn : Nat := 0
  /-- PN_WARN has been raised (R69). -/
  warned : Bool := false
  deriving DecidableEq, Repr

/-- MACsec of one of ports 0 to 5 (R65 to R69). -/
structure Macsec where
  /-- ENABLE (R394). -/
  enable : Bool := false
  /-- replay window in frames (R66). -/
  replay : Nat := 0
  /-- current transmit association number (R66). -/
  txAn : Nat := 0
  /-- transmit associations by AN (R66). -/
  txSa : Tbl Sa := []
  /-- receive associations by AN (R66). -/
  rxSa : Tbl Sa := []
  /-- transmission stopped at packet number 0xFFFF_FFFF (R69). -/
  exhausted : Bool := false
  deriving DecidableEq, Repr

/-- One duplicate-discard entry (R34). -/
structure DdEntry where
  /-- source MAC (R34). -/
  mac : Nat := 0
  /-- highest sequence number seen (R34). -/
  high : Nat := 0
  /-- time of last use (R34). -/
  lastUse : Nat := 0
  /-- bit k: number high - k delivered (R34). -/
  delivered : Nat := 0
  /-- bit k: number high - k forwarded West to East (R34). -/
  fwdWE : Nat := 0
  /-- bit k: number high - k forwarded East to West (R34). -/
  fwdEW : Nat := 0
  deriving DecidableEq, Repr

/-- One proxied singly attached node (R36). -/
structure ProxyEntry where
  /-- its MAC (R36). -/
  mac : Nat := 0
  /-- time of its last frame (R36). -/
  lastSeen : Nat := 0
  deriving DecidableEq, Repr

/-- What the manager holds of a hub that reported (R58 to R60, R64). -/
structure NodeReport where
  /-- factory MAC (R64). -/
  mac : Nat := 0
  /-- node number (R64). -/
  node : Nat := 0
  /-- NODE_SRC (R64). -/
  nodeSrc : Nat := 0
  /-- position from the East walk (R64). -/
  posEast : Nat := 0
  /-- position from the West walk (R64). -/
  posWest : Nat := 0
  /-- RING_ROLE strap (R39, R56, R64). -/
  role : Nat := 0
  /-- LINK_WEST [1:0] (R30, R64). -/
  linkWest : Nat := 0
  /-- LINK_EAST [1:0] (R30, R64). -/
  linkEast : Nat := 0
  deriving DecidableEq, Repr

/-- A barrier token held or seen (R50, R71). -/
structure Token where
  /-- BARRIER_ID (R50). -/
  barrierId : Nat := 0
  /-- NODES_PASSED (R50). -/
  passed : Nat := 0
  /-- DIR: 0 East, 1 turned West, 2 turned East again (R50). -/
  dir : Nat := 0
  /-- initiator's node number (R50). -/
  initiator : Nat := 0
  /-- when the hub counted itself in (the record lasts one completion timeout, log 30) (R71). -/
  at_ : Nat := 0
  deriving DecidableEq, Repr

/-- A barrier this hub initiated (R71, R394). -/
structure BarrierRun where
  /-- its identity (R71). -/
  token : Token := {}
  /-- partition whose command waits for it (R71). -/
  part : Nat := 0
  /-- TAG of that command (R384). -/
  cmdTag : Nat := 0
  /-- when the token left (R71). -/
  sentAt : Nat := 0
  deriving DecidableEq, Repr

/-- A non-posted request of this hub, waiting or outstanding (R54, R316, R319). -/
structure OutReq where
  /-- transaction tag (R54). -/
  tag : Nat := 0
  /-- GRT TYPE (R50). -/
  kind : Nat := 0
  /-- target address (R40). -/
  addr : RingAddr := {}
  /-- bytes requested or written (R49). -/
  len : Nat := 0
  /-- write data (R50). -/
  data : List Byte := []
  /-- SPEC flag (R326). -/
  spec : Bool := false
  /-- requesting partition (R316). -/
  part : Nat := 0
  /-- attachment whose request it is (R316). -/
  att : Nat := 0
  /-- TAG of a proxied Ethernet host's request, or the tag of the first part of a split read (R306, R315). -/
  hostTag : Nat := 0
  /-- when it left (R53). -/
  sentAt : Nat := 0
  /-- cells reserved for its completion (R318). -/
  cells : Nat := 0
  /-- 0 none, 1 FetchAdd, 2 Swap, 3 CAS (R324). -/
  atomic : Nat := 0
  /-- atomic operand (CAS: compare then swap bytes) (R324). -/
  operand : List Byte := []
  /-- old value kept between LOCK_READ and WRITE_UNLOCK (R324). -/
  oldVal : List Byte := []
  /-- first LOCKED_RETRY of this request, 0 none (R323). -/
  retrySince : Nat := 0
  /-- waits to be repeated (R323). -/
  retryNow : Bool := false
  /-- offset of the host request this is a part of (R306). -/
  base : Nat := 0
  /-- bytes of that whole host request (R306). -/
  total : Nat := 0
  /-- nobody waits for its reply: the SPI frame has ended or the attachment went down (R308, R313). -/
  cut : Bool := false
  /-- it is one part of a split BAR2 read (R306). -/
  read : Bool := false
  deriving DecidableEq, Repr

/-- The ring node (chapter 02). -/
structure RingNode where
  /-- current node number, 0 none (R57, R64). -/
  node : Nat := 0
  /-- NODE_SRC (R64). -/
  nodeSrc : Nat := 0
  /-- acting manager (R56, R64). -/
  actingMgr : Bool := false
  /-- the West link joins two West ports (R28, R64). -/
  crossedWest : Bool := false
  /-- the East link joins two East ports (R28, R64). -/
  crossedEast : Bool := false
  /-- POS_EAST (R58, R64). -/
  posEast : Nat := 0
  /-- POS_WEST (R58, R64). -/
  posWest : Nat := 0
  /-- RING_NODES (R58, R64). -/
  ringNodes : Nat := 0
  /-- withdrawn after a node-number conflict (R60, R64). -/
  withdrawn : Bool := false
  /-- RING_STATE (R62). -/
  ringState : Nat := 0
  /-- MGR_NODE (R64). -/
  mgrNode : Nat := 0
  /-- node west of the break, 0 unknown (R50, R62). -/
  brkWest : Nat := 0
  /-- node east of the break, 0 unknown (R50, R62). -/
  brkEast : Nat := 0
  /-- ring ID (R47). -/
  ringId : Nat := 0
  /-- GRT VLAN ID (R46). -/
  vlan : Nat := 1
  /-- GRT EtherType (R46). -/
  etherType : Nat := 0x88B5
  /-- beacon interval in ms (R62). -/
  beaconMs : Nat := 10
  /-- duplicate-discard forget time in ms (R35). -/
  forgetMs : Nat := 400
  /-- completion timeout in 100 us (R53). -/
  cplTimeout : Nat := 20
  /-- class of the image group (R48). -/
  clsImage : Nat := 6
  /-- class of ring control (R48). -/
  clsControl : Nat := 5
  /-- class of transactions and BARRIER (R48). -/
  clsTrans : Nat := 4
  /-- class of events (R48). -/
  clsEvent : Nat := 3
  /-- class of CAN tunnels (R48). -/
  clsTunnel : Nat := 2
  /-- HSR sequence counter per source MAC (next number; 0 at first use) (R32). -/
  seqs : Tbl Nat := []
  /-- duplicate-discard table (R34). -/
  dd : List DdEntry := []
  /-- proxy node table (R36). -/
  proxies : List ProxyEntry := []
  /-- outstanding non-posted requests (R54). -/
  outst : List OutReq := []
  /-- requests reported TIMEOUT whose completion may still arrive (R53, R327). -/
  late : List OutReq := []
  /-- hubs that reported to this manager (R58). -/
  reports : List NodeReport := []
  /-- when the manager's East walk left, none when none is out (R58). -/
  walkAt : Option Nat := none
  /-- when the acting manager's last beacon left (R62). -/
  beaconAt : Nat := 0
  /-- own beacon came back on West since the last one (R62). -/
  beaconWest : Bool := false
  /-- own beacon came back on East since the last one (R62). -/
  beaconEast : Bool := false
  /-- last beacon heard by a standby manager (R63). -/
  heardAt : Nat := 0
  /-- a standby manager acting as manager (R63). -/
  takenOver : Bool := false
  /-- barriers this hub initiated (R71). -/
  barriers : List BarrierRun := []
  /-- barriers this hub has counted itself in (R71). -/
  counted : List Token := []
  /-- tokens held until the bridge has no outbound posted write (R71). -/
  held : List Token := []
  /-- MGR_CONFLICT has been raised (R56). -/
  conflictRaised : Bool := false
  deriving DecidableEq, Repr

/-- One copy of a frame at the switch (R81). -/
structure Copy where
  /-- the frame (R81). -/
  frame : Frame := {}
  /-- ingress port charged (R87). -/
  inPort : Nat := 0
  /-- egress port (R81). -/
  outPort : Nat := 0
  /-- class (R74). -/
  cls : Nat := 0
  /-- cells held (R87). -/
  cells : List Nat := []
  /-- residence start (R91). -/
  since : Nat := 0
  /-- launch time (R136). -/
  launch : Option Nat := none
  /-- launch prefix missing or out of range (R136). -/
  badLaunch : Bool := false
  /-- cut through (R82). -/
  cut : Bool := false
  /-- dropped or stomped part-way (R84). -/
  dead : Bool := false
  /-- tub queue of a copy toward port 14 (R83). -/
  queue : Nat := 0
  /-- its place among the frame's copies (R81). -/
  place : Nat := 0
  /-- its cells that the egress has read and freed (R87). -/
  gone : Nat := 0
  /-- its tail has arrived (R82, R87). -/
  whole : Bool := true
  /-- byte at which a stomped copy stops, when not its whole length (R85). -/
  stopAt : Option Nat := none
  /-- when its transmission started (R128). -/
  startAt : Nat := 0
  /-- working clock at that moment (R94). -/
  startWork : Nat := 0
  deriving DecidableEq, Repr

/-- A frame being received on a port (R79 to R86). -/
structure RxFrame where
  /-- the frame as its head shows it (R79). -/
  frame : Frame := {}
  /-- class (R74). -/
  cls : Nat := 0
  /-- ingress time-stamp of the head (R91). -/
  since : Nat := 0
  /-- matching stream entry (R80). -/
  stream : Option Nat := none
  /-- its copies (R81). -/
  copies : List Copy := []
  /-- own or proxied frame come back (R33). -/
  returned : Bool := false
  /-- duplicate, nothing to do (R33). -/
  dup : Bool := false
  /-- no destination (R79). -/
  noRoute : Bool := false
  /-- dropped by DISCARD or DEST 0 (R75, R80). -/
  filtered : Bool := false
  /-- refused by MACsec: no association, or outside the replay window (R66). -/
  macBad : Bool := false
  /-- link-local frame, taken by the time unit or the ring processor (R74). -/
  handled : Bool := false
  /-- when the frame's first 64 bytes had arrived (R82). -/
  headAt : Nat := 0
  /-- bytes of the frame that have arrived (R83, R87). -/
  got : Nat := 64
  /-- found longer than MAX_FRAME of its port (R84). -/
  tooLong : Bool := false
  /-- a copy of it was too long for its egress port, and this was counted (R46, R541). -/
  long : Bool := false
  /-- a cell of one of its copies was refused part-way through (R84). -/
  refused : Bool := false
  deriving DecidableEq, Repr

/-- One shift roster entry (R130). -/
structure RosterEntry where
  /-- GATES (R130). -/
  gates : Nat := 0xFF
  /-- INTERVAL in 8 ns (R130). -/
  interval : Nat := 0
  deriving DecidableEq, Repr

/-- A shift roster (R131). -/
structure Roster where
  /-- base time (R131). -/
  base : Nat := 0
  /-- CYCLE in ns (R131). -/
  cycle : Nat := 1000
  /-- SWITCH_NOW (R131). -/
  switchNow : Bool := false
  /-- ENTRIES (R131). -/
  entries : List RosterEntry := []
  deriving DecidableEq, Repr

/-- One switch port (chapters 03, 05, 06). -/
structure Port where
  /-- its link (R27). -/
  link : Link := {}
  /-- PLCA parameters (T1S ports) (R394). -/
  plca : Plca := {}
  /-- MACsec (ports 0 to 5) (R65). -/
  macsec : Macsec := {}
  /-- MAX_FRAME (2,048 on ports 0, 1 and 14) (R73). -/
  maxFrame : Nat := 1522
  /-- PVID (R75). -/
  pvid : Nat := 1
  /-- DEFAULT_CLASS (R74). -/
  defClass : Nat := 0
  /-- learning enabled (R76). -/
  learn : Bool := true
  /-- PCP_MAP (R74). -/
  pcpMap : List Nat := [0, 1, 2, 3, 4, 5, 6, 7]
  /-- FLOOD_SET (1,023 on ports 2 to 13) (R79). -/
  floodSet : Nat := 0
  /-- ING_LIMIT (R89). -/
  ingLimit : Nat := 0
  /-- EGR_LIMIT per class (R89). -/
  egrLimit : List Nat := []
  /-- cells charged to the ingress port (R87). -/
  heldIng : Nat := 0
  /-- cells charged per egress class (R87). -/
  heldEg : List Nat := [0, 0, 0, 0, 0, 0, 0, 0]
  /-- OVERHEAD (0 on port 14) (R124). -/
  overhead : Int := 20
  /-- STRICT_COUNT (R125). -/
  strictCount : Nat := 3
  /-- WEIGHT per class (R125). -/
  weight : List Nat := [1, 2, 3, 4, 5, 6, 7, 8]
  /-- GATE_EN (R125). -/
  gateEn : Bool := false
  /-- GATE_EN 1 to 0 waits for this cycle boundary (R134). -/
  gateOffAt : Option Nat := none
  /-- LATE_LIMIT in ns (R125). -/
  lateLimit : Nat := 1000
  /-- deficit per class (R127). -/
  deficit : List Int := [0, 0, 0, 0, 0, 0, 0, 0]
  /-- place in the weighted group, 0 its highest class (R127). -/
  rr : Nat := 0
  /-- fresh flag per class (R127). -/
  freshRr : List Bool := [true, true, true, true, true, true, true, true]
  /-- waiting copies per class, oldest first (R123). -/
  queues : List (List Copy) := [[], [], [], [], [], [], [], []]
  /-- copy in transmission (R128). -/
  sending : Option Copy := none
  /-- operating shift roster (R130). -/
  operRoster : Option Roster := none
  /-- administrative shift roster (R130). -/
  adminRoster : Option Roster := none
  /-- switch-over instant X of the pending roster (R134). -/
  switchAt : Option Nat := none
  /-- T_a of the pending roster (R134). -/
  adminTa : Nat := 0
  /-- roster entry in force (R132). -/
  curEntry : Nat := 0
  /-- frame being received (R79). -/
  rx : Option RxFrame := none
  /-- PTP_PROFILE (1 on ports 0 and 1) (R153). -/
  ptpProfile : Nat := 0
  /-- PDELAY_LOG (R153). -/
  pdelayLog : Int := 0
  /-- DELAY_THRESH in ns (R153). -/
  delayThresh : Nat := 800
  /-- TX_ADJ (R153). -/
  txAdj : Int := 0
  /-- RX_ADJ (R153). -/
  rxAdj : Int := 0
  /-- the port can carry time (R154). -/
  asCapable : Bool := false
  /-- mean link delay last measured (R153). -/
  meanDelay : Nat := 0
  /-- peer delay exchanges since link-up (R153). -/
  pdelays : Nat := 0
  /-- when the last peer delay exchange ran (R153). -/
  pdelayAt : Option Nat := none
  /-- the neighbour cannot receive one-step Sync (R154). -/
  oneStepRefused : Bool := false
  /-- PORT_NOT_CAPABLE raised for the present condition (R154). -/
  capRaised : Bool := false
  /-- sequenceId of the next gPTP message sent (R157). -/
  ptpSeq : Nat := 0
  deriving DecidableEq, Repr

/-- One forwarding database entry (R75). -/
structure FdbEntry where
  /-- MAC (R75). -/
  mac : Nat := 0
  /-- VLAN ID (R75). -/
  vlan : Nat := 0
  /-- KIND (R75). -/
  kind : Nat := 0
  /-- STATIC (R75). -/
  static : Bool := false
  /-- DISCARD (R75). -/
  discard : Bool := false
  /-- TARGET (R75). -/
  target : Nat := 0
  /-- when the source was last seen (AGE is the time since) (R75). -/
  seenAt : Nat := 0
  deriving DecidableEq, Repr

/-- One destination set (R77). -/
structure Dset where
  /-- PORT_MASK (R77). -/
  mask : Nat := 0
  /-- QUEUES (R77). -/
  queues : List Nat := []
  deriving DecidableEq, Repr

/-- One stream table entry with its policer (R80, R139). -/
structure Stream where
  /-- MODE (R80). -/
  mode : Nat := 0
  /-- CLASS (R80). -/
  cls : Nat := 0
  /-- VLAN (R80). -/
  vlan : Nat := 0
  /-- DMAC (R80). -/
  dmac : Nat := 0
  /-- INGRESS_MASK (R80). -/
  ingress : Nat := 0
  /-- GRT_ADDR (R80). -/
  grtAddr : Nat := 0
  /-- GRT_MASK (R80). -/
  grtMask : Nat := 0
  /-- DEST (R80). -/
  dest : Nat := 0
  /-- POLICE_EN (R80). -/
  police : Bool := false
  /-- SDU_EN (R80). -/
  sduEn : Bool := false
  /-- NO_CUT (R80). -/
  noCut : Bool := false
  /-- CIR in kbit/s (R139). -/
  cir : Nat := 0
  /-- CBS in bytes (R139). -/
  cbs : Nat := 64
  /-- MAX_SDU (R80). -/
  maxSdu : Nat := 0
  /-- OWNER (R80). -/
  owner : Nat := 0
  /-- bucket content (R139). -/
  tokens : Nat := 0
  /-- when the content was last brought up to date (R139). -/
  filledAt : Nat := 0
  deriving DecidableEq, Repr

/-- One canary tap rule (R92, R93). -/
structure Canary where
  /-- ENABLE (R92). -/
  enable : Bool := false
  /-- DIR (R92). -/
  dir : Nat := 0
  /-- PORT (R92). -/
  port : Nat := 0
  /-- CLASS_MASK (R92). -/
  classMask : Nat := 0
  /-- N (R92). -/
  n : Nat := 0
  /-- QUEUE (R92). -/
  queue : Nat := 0
  /-- partition the slot belongs to (R396). -/
  holder : Option Nat := none
  /-- matching frames since the last sample (R93). -/
  count : Nat := 0
  /-- SEQ of the next sample (R94). -/
  seq : Nat := 0
  /-- matching frames since the last committed record (R94). -/
  seen : Nat := 0
  deriving DecidableEq, Repr

/-- Depth and sojourn sampling of one object (R141 to R144). -/
structure Sampler where
  /-- PERIOD in us, 0 off (R141). -/
  period : Nat := 0
  /-- DEPTH_MODE (R143). -/
  depthMode : Bool := false
  /-- SOJ_MODE (R143). -/
  sojMode : Bool := false
  /-- U for depth, in cells (R143). -/
  uDepth : Nat := 1
  /-- U for sojourn, in 8 ns (R143). -/
  uSoj : Nat := 1
  /-- SAMPLES (R144). -/
  samples : Nat := 0
  /-- DEPTH_MIN (R144). -/
  depthMin : Nat := 0xFFFFFFFF
  /-- DEPTH_MAX (R144). -/
  depthMax : Nat := 0
  /-- SOJ_MIN (R144). -/
  sojMin : Nat := 0xFFFFFFFF
  /-- SOJ_MAX (R144). -/
  sojMax : Nat := 0
  /-- DEPTH_HIST (R144). -/
  depthHist : List Nat := [0,0,0,0,0,0,0,0,0,0,0,0,0,0,0,0]
  /-- SOJ_HIST (R144). -/
  sojHist : List Nat := [0,0,0,0,0,0,0,0,0,0,0,0,0,0,0,0]
  /-- instant of the last sample taken (R141). -/
  lastAt : Nat := 0
  deriving DecidableEq, Repr

/-- The switch core (chapter 03). -/
structure Switch where
  /-- ports 0 to 15, each at Port.init until changed (R18). -/
  ports : Tbl Port := []
  /-- forwarding database (R75). -/
  fdb : Tbl FdbEntry := []
  /-- FDB_AGE in s (R76). -/
  fdbAge : Nat := 300
  /-- destination sets (Dset.init: set 1,023 holds 0x3FFD) (R77). -/
  dsets : Tbl Dset := []
  /-- stream table (R80). -/
  streams : Tbl Stream := []
  /-- AGE_LIMIT per class in us (R91). -/
  ageLimit : List Nat := [10000,10000,10000,10000,10000,10000,10000,10000]
  /-- canary rules (R92). -/
  canaries : Tbl Canary := []
  /-- table entries that a parity error has invalidated, with when firmware has restored each (R375). -/
  parity : List (Nat × Nat × Nat) := []
  /-- key 8p + c of a port and class, 128 + q of a queue (R141). -/
  samplers : Tbl Sampler := []
  deriving DecidableEq, Repr

/-- One committed packet of a tub queue (R106). -/
structure Packet where
  /-- its bytes in order (R106). -/
  bytes : List Byte := []
  /-- the cells that hold it (R106). -/
  cells : List Nat := []
  /-- when it was committed (R142). -/
  committedAt : Nat := 0
  /-- holds a poisoned cell (R98). -/
  poison : Bool := false
  /-- ingress port its cells are charged to, for a copy received by the switch (R87). -/
  inPort : Option Nat := none
  /-- launch time given by its trigger unit (R136). -/
  launch : Option Nat := none
  /-- its record carries LOST_BEFORE (R228). -/
  lost : Bool := false
  /-- place of the copy that is being received among its frame's copies (R81, R83). -/
  place : Nat := 0
  /-- port that the bridge answers an Ethernet host on (R315). -/
  egress : Option Nat := none
  /-- its place in the order of commits of the hub (R248, R249). -/
  seq : Nat := 0
  /-- when it was committed (R248). -/
  atLt : Nat := 0
  deriving DecidableEq, Repr

/-- The host DMA ring of a queue (R120). -/
structure DmaRing where
  /-- RING_BASE (R120). -/
  base : Nat := 0
  /-- SLOT_SIZE (R120). -/
  slotSize : Nat := 256
  /-- SLOTS (R120). -/
  slots : Nat := 64
  /-- TAIL_WB (R120). -/
  tailWb : Nat := 0
  /-- MSIX_VECTOR (R120). -/
  vector : Nat := 0
  /-- SEQ of the next packet (R120). -/
  seq : Nat := 0
  /-- its vector was signalled and waits for a DMA_HEAD write (R370). -/
  fired : Bool := false
  /-- oldest pending delivery, or the last DMA_HEAD write if later (R369). -/
  since : Nat := 0
  deriving DecidableEq, Repr

/-- One tub queue: descriptor, packets and ports (chapter 04). -/
structure Queue where
  /-- ENABLE (R103). -/
  enable : Bool := false
  /-- CMODE: false STREAM, true HOLD (R103). -/
  hold : Bool := false
  /-- PIN (R103). -/
  pin : Bool := false
  /-- DMA (R103). -/
  dma : Bool := false
  /-- UR_NOTICE (R103). -/
  urNotice : Bool := false
  /-- NOTICE_EN (R103). -/
  noticeEn : Bool := false
  /-- LIMIT in cells (R103). -/
  limit : Nat := 1024
  /-- WMARK in cells (R103). -/
  wmark : Nat := 0
  /-- LAUNCH_SRC (R136). -/
  launchSrc : Nat := 0
  /-- LAUNCH_UNIT (R136). -/
  launchUnit : Nat := 0
  /-- bound producer (R105). -/
  prod : Producer := .none
  /-- bound consumer (R105). -/
  cons : Consumer := .none
  /-- USE code of a queue firmware has taken, 0 not taken (R105, R397). -/
  fwUse : Nat := 0
  /-- visible packets not yet released, head first (PACKETS, DEPTH, HEAD) (R103, R106). -/
  packets : List Packet := []
  /-- packets committed, visible from the next cycle (R106). -/
  fresh : List Packet := []
  /-- the open packet (OPEN_CELLS) (R106). -/
  opn : Option Packet := none
  /-- open packets of the switch: copies being received, one for each ingress port and place (OPEN_CELLS) (R83, R86). -/
  arriving : List Packet := []
  /-- bytes of the last PROD_DATA write (R110). -/
  lastWrite : Nat := 0
  /-- REFUSED of PROD_STATUS (R108, R110). -/
  refused : Bool := false
  /-- bytes of the head packet already popped, or moved into a TX FIFO (R111). -/
  popped : Nat := 0
  /-- last value a POP read returned (R112). -/
  lastPop : Nat := 0
  /-- POP_LAST by attachment (28 + node for a GRT requester) (R110). -/
  popLast : Tbl Nat := []
  /-- UNDERRUN (R110). -/
  underrun : Bool := false
  /-- WM_PENDING (R117). -/
  wmPending : Bool := false
  /-- WM_ARMED (R117). -/
  wmArmed : Bool := true
  /-- ABOVE (R117). -/
  above : Bool := false
  /-- FLUSH_PENDING (R116). -/
  flushPending : Bool := false
  /-- PRESENTED (R114). -/
  presented : Bool := false
  /-- SEQ of the presented packet (R110). -/
  presentSeq : Nat := 0
  /-- SEQ the next presented packet takes (R110). -/
  nextSeq : Nat := 0
  /-- HOLD_OFFSET (R110). -/
  holdOffset : Nat := 0
  /-- POISON (R110). -/
  poison : Bool := false
  /-- DMA ring, when configured (R120). -/
  ring : Option DmaRing := none
  /-- DMA_HEAD (R120). -/
  dmaHead : Nat := 0
  /-- DMA_TAIL (R120). -/
  dmaTail : Nat := 0
  /-- the next record committed carries LOST_BEFORE (R228, R366). -/
  lostBefore : Bool := false
  deriving DecidableEq, Repr

/-- The cell pool (R98 to R102). -/
structure Pool where
  /-- on-chip cells returned to the free list (R100). -/
  onFreed : List Nat := []
  /-- on-chip cells from here up have not been taken since reset (R100). -/
  onNext : Nat := 0
  /-- external cells returned to the free list (R100). -/
  extFreed : List Nat := []
  /-- external cells (counted from 65,536) from here up not yet taken (R100). -/
  extNext : Nat := 0
  /-- EXT_CELLS in use (R99). -/
  extCells : Nat := 0
  /-- fitted LPDDR4X in MiB (R41, R344). -/
  fittedMiB : Nat := 0
  /-- RESERVE (R89). -/
  reserve : Nat := 4096
  /-- RESERVE_MIN_CLASS (R89). -/
  reserveMinClass : Nat := 5
  /-- PIN_KEEP (R100). -/
  pinKeep : Nat := 8192
  /-- cells whose header has POISON (R98). -/
  poisoned : List Nat := []
  /-- external cell data moved in the present microsecond, in bits (R102). -/
  extBits : Nat := 0
  /-- the microsecond that extBits counts (R102). -/
  extSince : Nat := 0
  /-- cells released in the present 800 MHz cycle, free from its end on (R118). -/
  freed : List Nat := []
  /-- the 800 MHz cycle of LT in which they were released (R118). -/
  cycle : Nat := 0
  /-- cells taken for output group data that waits for its apply instant (R21). -/
  staged : List Nat := []
  /-- packets committed, in order (R248, R249). -/
  commits : Nat := 0
  deriving DecidableEq, Repr

/-- One clock of the time island (R145, R146). -/
structure Clock where
  /-- its time: 48-bit seconds, 30-bit ns, 48 fraction bits (R146). -/
  t : Nat := 0
  /-- RATE, units of 2^-48 (R146). -/
  rate : Int := 0
  deriving DecidableEq, Repr

/-- What a port has last heard in the Announces of one domain (R152). -/
structure PtpMaster where
  /-- the port (R152). -/
  port : Nat := 0
  /-- clockIdentity of the grandmaster announced (R152). -/
  gmId : Nat := 0
  /-- its priority vector, lower is better (R166). -/
  vector : Nat := 0
  /-- stepsRemoved (R152). -/
  steps : Nat := 0
  /-- clockIdentity of the sender (R152). -/
  sender : Nat := 0
  /-- when the information is too old (R152). -/
  until_ : Nat := 0
  deriving DecidableEq, Repr

/-- One gPTP domain (R158 to R171). -/
structure Domain where
  /-- domain clock (R145). -/
  clk : Clock := {}
  /-- A_STATE, B_STATE: 0 OFF 1 SEARCHING 2 LOCKING 3 LOCKED 4 LOST (R161). -/
  st : Nat := 1
  /-- domainNumber (1 for B) (R160). -/
  num : Nat := 0
  /-- GM_CAPABLE (R160). -/
  gmCapable : Bool := false
  /-- GM_SOURCE (R160). -/
  gmSource : Nat := 2
  /-- priority1 (R160). -/
  prio1 : Nat := 248
  /-- priority2 (R160). -/
  prio2 : Nat := 248
  /-- this hub is grandmaster (R151). -/
  isGm : Bool := false
  /-- clockIdentity of the elected grandmaster, 0 none (R161). -/
  gmId : Nat := 0
  /-- priority vector of the elected grandmaster, lower is better (R166). -/
  gmVector : Nat := 0
  /-- port toward the grandmaster (R161). -/
  gmPort : Nat := 0
  /-- what the ports have heard of masters (R152). -/
  heard : List PtpMaster := []
  /-- clockIdentity of the last grandmaster there was, 0 none yet (R161). -/
  lastGm : Nat := 0
  /-- instant of a quality switch that waits (R166). -/
  qualityAt : Option Nat := none
  /-- when the hub last announced itself as grandmaster (R152). -/
  annAt : Option Nat := none
  /-- valid Syncs since entering LOCKING (R159). -/
  syncs : Nat := 0
  /-- consecutive Syncs with error at most 100 ns (R161). -/
  good : Nat := 0
  /-- consecutive Syncs with offset at most 20 ns while converging (R168). -/
  quiet : Nat := 0
  /-- t_F: time carried by the last Sync (R166). -/
  lastOrigin : Nat := 0
  /-- working clock at the last Sync (R166). -/
  lastWork : Nat := 0
  /-- Sync interval announced (R160). -/
  interval : Nat := 125000000
  /-- domain clock minus working clock at the latest Sync (R159). -/
  offset : Int := 0
  /-- an Announce showed a worse grandmaster; switch after the next Sync (R166). -/
  quality : Bool := false
  /-- UTC offset (R172). -/
  utcOffset : Int := 0
  /-- seconds given for the next PPS_IN edge (R172). -/
  todSec : Option Nat := none
  /-- a valid time of day has been given (R171). -/
  todValid : Bool := false
  /-- PPS was lost after a valid time of day (clockClass 7) (R171). -/
  relayed : Bool := false
  /-- when the last Sync was sent as grandmaster (R171). -/
  sentAt : Nat := 0
  deriving DecidableEq, Repr

/-- One time trigger unit (R175 to R178). -/
structure TrigUnit where
  /-- NS (R178). -/
  ns : Nat := 0
  /-- MODE (R178). -/
  mode : Nat := 0
  /-- SEC (R178). -/
  sec : Nat := 0
  /-- PENDING (R178). -/
  pending : Bool := false
  /-- LATE (R178). -/
  late : Bool := false
  /-- PERIOD (R178). -/
  period : Nat := 0
  /-- next instant while PENDING (R175). -/
  next : Nat := 0
  /-- FIRE_COUNT (R175). -/
  fireCount : Nat := 0
  /-- edge that sees its last firing (R16, R282). -/
  firedEdge : Nat := 0
  /-- the hub holds the unit (R175). -/
  held : Bool := false
  deriving DecidableEq, Repr

/-- One capture unit (R179 to R182). -/
structure CaptUnit where
  /-- edges recorded: 0 off 1 rising 2 falling 3 both (R179, R399). -/
  edges : Nat := 0
  /-- SOURCE (R179). -/
  source : Nat := 0
  /-- target queue (R179). -/
  queue : Option Nat := none
  /-- SEQ of the latest edge (R180). -/
  seq : Nat := 0
  /-- the next record carries LOST_BEFORE (R180). -/
  lost : Bool := false
  /-- CAPT_OVERFLOW raised since the last committed record (R181). -/
  overRaised : Bool := false
  /-- working-clock ns at which the unit's held records leave it (R181). -/
  waiting : List Nat := []
  /-- time of the previous edge (R179). -/
  lastEdge : Nat := 0
  /-- CAPT_LAST (R182). -/
  last : List Byte := [0,0,0,0,0,0,0,0,0,0,0,0,0,0,0,0]
  deriving DecidableEq, Repr

/-- The time island (chapter 06). -/
structure Time where
  /-- LT (R145). -/
  lt : Clock := {}
  /-- working clock (R145). -/
  work : Clock := {}
  /-- domain A (R158). -/
  domA : Domain := {}
  /-- domain B (R158). -/
  domB : Domain := { num := 1 }
  /-- SOURCE (R149). -/
  source : Nat := 0
  /-- domain the working clock follows: 0 none (before the first lock, or holdover), 1 A, 2 B (R158). -/
  follow : Nat := 0
  /-- domain the working clock followed last, 0 none yet (R158). -/
  lastFollow : Nat := 0
  /-- CONVERGING (R149). -/
  converging : Bool := false
  /-- VALID (R149). -/
  valid : Bool := false
  /-- STEP_COUNT (R149). -/
  stepCount : Nat := 0
  /-- STEP_ARMED (R151). -/
  stepArmed : Bool := false
  /-- SYNC_LOG (R160). -/
  syncLog : Int := -3
  /-- SYNC_LOSS_COUNT (R160). -/
  lossCount : Nat := 3
  /-- HOLD_LIMIT (R160). -/
  holdLimit : Nat := 1000000
  /-- SLEW_MAX (R160). -/
  slewMax : Nat := 200
  /-- AUTO_QUALITY (R160). -/
  autoQuality : Bool := true
  /-- B_ENABLE (R160). -/
  bEnable : Bool := true
  /-- scheduled DOMAIN_SWITCH: instant and TARGET (R170). -/
  switchAt : Option (Nat × Nat) := none
  /-- PPS_IN edge selected (R172). -/
  ppsFalling : Bool := false
  /-- last accepted PPS_IN edge (R172). -/
  ppsLast : Option Nat := none
  /-- accepted edges in a row (R172). -/
  ppsRun : Nat := 0
  /-- PPS_IN_OK (R172). -/
  ppsOk : Bool := false
  /-- PPS_OUT clock (R173). -/
  outClock : Nat := 0
  /-- PPS_OUT width (R173). -/
  outWidth : Nat := 10000
  /-- PPS_OUT level (R173). -/
  ppsOut : Bool := false
  /-- second last marked by PPS_OUT (R173). -/
  ppsOutSec : Nat := 0
  /-- trigger units (R175). -/
  trigs : Tbl TrigUnit := []
  /-- capture units (R179). -/
  capts : Tbl CaptUnit := []
  deriving DecidableEq, Repr

end Sys2Proof.Machine
end

