-- ==== Sys2Proof/Machine/StateIo.lean ====
section
/-!
DEFINITION. The state of the cycle, output groups and twins, CAN channels, the crusher, hewers and field pins (chapters 07 to 10).
Each field names the rule of spec/ that gives it; a default is its value at reset.
-/
namespace Sys2Proof.Machine

/-- Cycle parameters (R184). -/
structure CycleCfg where
  /-- CYCLE_T in ns (R184). -/
  t : Nat := 0
  /-- BASE_SEC, BASE_NS (R184). -/
  base : Nat := 0
  /-- PUB_OFF in ns (R184). -/
  pubOff : Nat := 8000
  /-- DL_OFF in ns (R184). -/
  dlOff : Nat := 0
  /-- AP_OFF in ns (R184). -/
  apOff : Nat := 0
  deriving DecidableEq, Repr

/-- One image map entry (R190). -/
structure MapEnt where
  /-- KIND (R190). -/
  kind : Nat := 0
  /-- SUB (R190). -/
  sub : Nat := 0
  /-- OFFSET (R190). -/
  off : Nat := 0
  /-- HANDLE (R190). -/
  handle : Nat := 0
  deriving DecidableEq, Repr

/-- One of the two image buffers (R192, R193). -/
structure ImageBuf where
  /-- CYCLE (R192). -/
  cycle : Nat := 0
  /-- SNAP_TIME in the TIME_NOW layout (R192). -/
  snap : Nat := 0
  /-- SIZE (R192). -/
  size : Nat := 0
  /-- SEG_OK (R192). -/
  segOk : Nat := 0
  /-- image data (bytes beyond the list read as 0) (R193). -/
  data : List Byte := []
  deriving DecidableEq, Repr

/-- One subscription to images of other nodes (R195). -/
structure ImageSub where
  /-- subscribing partition (R195). -/
  part : Nat := 0
  /-- its queue (R195). -/
  queue : Nat := 0
  /-- node mask (R195). -/
  nodes : Nat := 0
  /-- segment mask (R195). -/
  segs : Nat := 0
  deriving DecidableEq, Repr

/-- The input image (R190 to R195). -/
structure Image where
  /-- image map in force (R190). -/
  map : List MapEnt := []
  /-- IMAGE_SIZE in force (R190). -/
  size : Nat := 0
  /-- accepted maps, each with its size and the cycle at which it takes effect (R190). -/
  pendMaps : List (List MapEnt × Nat × Nat) := []
  /-- the buffer space 2 shows (R193). -/
  view : ImageBuf := {}
  /-- the buffer being assembled from the last snapshot (R193). -/
  work : Option ImageBuf := none
  /-- segments firmware has committed for the coming publish instant (R194). -/
  built : Nat := 0
  /-- SEG_READERS (R193). -/
  readers : List Nat := [1,1,1,1,1,1,1,1,1,1,1,1,1,1,1,1]
  /-- SEG_PUBLISH, bit s of segment s (R193). -/
  publish : Nat := 0xFFFF
  /-- subscriptions (R195). -/
  subs : List ImageSub := []
  /-- nodes for which IMAGE_OFF_CYCLE stands raised (R195). -/
  offRaised : List Nat := []
  deriving DecidableEq, Repr

/-- One output group item (R197, R198). -/
structure Item where
  /-- KIND (R198). -/
  kind : Nat := 0
  /-- DOFF (R197). -/
  doff : Nat := 0
  /-- DLEN (R197). -/
  dlen : Nat := 0
  /-- HANDLE (R197). -/
  handle : Nat := 0
  deriving DecidableEq, Repr

/-- A record accepted for one cycle (R202). -/
structure Rec where
  /-- cycle (R202). -/
  n : Nat := 0
  /-- source node (R202). -/
  node : Nat := 0
  /-- source partition (R202). -/
  part : Nat := 0
  /-- record (R202). -/
  data : List Byte := []
  /-- the cells that hold it (R21). -/
  cells : List Nat := []
  deriving DecidableEq, Repr

/-- A shadow received for one cycle (R202, R209). -/
structure Shadow where
  /-- cycle (R202). -/
  n : Nat := 0
  /-- source node (R202). -/
  node : Nat := 0
  /-- source partition (R202). -/
  part : Nat := 0
  /-- CRC-32 (R209). -/
  crc : Nat := 0
  /-- LEN (R209). -/
  len : Nat := 0
  deriving DecidableEq, Repr

/-- One output group (R197 to R212). -/
structure OutGroup where
  /-- ENABLE (R197). -/
  enable : Bool := false
  /-- SHADOW_EXPECT (R197). -/
  shadowExpect : Bool := false
  /-- HOLD_EN (R197). -/
  holdEn : Bool := false
  /-- LEN (R197). -/
  len : Nat := 0
  /-- K (R197). -/
  k : Nat := 1
  /-- PHASE (R197). -/
  phase : Nat := 0
  /-- LEASE (R197). -/
  lease : Nat := 3
  /-- HOLD_CYCLES (R197). -/
  holdCycles : Nat := 0
  /-- WRITERS (R197). -/
  writers : Nat := 0
  /-- ITEMS (R197). -/
  items : List Item := []
  /-- earliest D_n at which the enabled group begins (R197). -/
  beginAt : Nat := 0
  /-- accepted source node, 0 none (R202). -/
  accNode : Nat := 0
  /-- accepted source partition (R202). -/
  accPart : Nat := 0
  /-- accepted tally (R202). -/
  accTally : Nat := 0
  /-- EPOCH (R202). -/
  epoch : Nat := 0
  /-- UNHEARD (R202). -/
  unheard : Nat := 0
  /-- records accepted per cycle (R202). -/
  pending : List Rec := []
  /-- cycles with resign_at set (R202). -/
  resigns : List Nat := []
  /-- shadows received (R202). -/
  shadows : List Shadow := []
  /-- cycles whose pending record came from the accepted source as at D_n (R202). -/
  decided : List Nat := []
  /-- LAST_APPLIED (R204). -/
  lastApplied : Nat := 0
  /-- HELD (R204). -/
  held : Nat := 0
  /-- STATE: 0 disabled 1 waiting 2 applying 3 holding 4 safe (R204). -/
  st : Nat := 0
  /-- DIVERGED (R204). -/
  diverged : Bool := false
  /-- ITEM_FAIL raised (R204). -/
  itemFail : Bool := false
  /-- LAST_SHADOW_CRC (R204). -/
  lastShadow : Nat := 0
  /-- safe record (bytes beyond the list are 0) (R212). -/
  safe : List Byte := []
  deriving DecidableEq, Repr

/-- An open staging record (R200). -/
structure StageRec where
  /-- source node (R200). -/
  node : Nat := 0
  /-- source partition (R200). -/
  part : Nat := 0
  /-- group (R200). -/
  group : Nat := 0
  /-- bytes written, by offset (others are 0) (R200). -/
  data : Tbl Byte := []
  /-- when it was opened (R200). -/
  openedAt : Nat := 0
  /-- the cells that hold it (R21). -/
  cells : List Nat := []
  deriving DecidableEq, Repr

/-- One twin set (R206 to R210, R215). -/
structure TwinSet where
  /-- written by TWIN_SET (R206). -/
  defined : Bool := false
  /-- enabled by TWIN_ENABLE (R206). -/
  enable : Bool := false
  /-- PARTNER node (R206). -/
  partner : Nat := 0
  /-- ROLE_PREF: true ACTIVE (R206). -/
  prefActive : Bool := false
  /-- TALLY (R206). -/
  tally : Nat := 1
  /-- LEASE (R206). -/
  lease : Nat := 3
  /-- K (R206). -/
  k : Nat := 1
  /-- PHASE (R206). -/
  phase : Nat := 0
  /-- (node, group) list (R206). -/
  groups : List (Nat × Nat) := []
  /-- signal maps of the set (R206, R264). -/
  maps : List Nat := []
  /-- 0 disabled, 1 listening, 2 active, 3 standby, 4 standby after a last gasp (R206, R400). -/
  role : Nat := 0
  /-- tally the set claims with while active (R208). -/
  useTally : Nat := 0
  /-- highest tally seen from the partner (R208). -/
  heardTally : Nat := 0
  /-- the partner's last tally seen (R400). -/
  lastTally : Nat := 0
  /-- cycles whose D_n is still to come for which the partner has been heard (R208). -/
  heardIn : List Nat := []
  /-- the partner has been heard since the set was enabled (R206). -/
  partnerSeen : Bool := false
  /-- set cycles without a sign of the partner (R208). -/
  silent : Nat := 0
  /-- set cycles listened so far (R206). -/
  listen : Nat := 0
  /-- role taken at the next set cycle (R207). -/
  nextRole : Option Nat := none
  /-- last set cycle sent (R400). -/
  lastSent : Nat := 0
  /-- n_d of a drill in progress (R215). -/
  drillAt : Option Nat := none
  /-- new tally of the drill (R215). -/
  drillTally : Nat := 0
  /-- this hub gave up the active role in the drill (R215). -/
  drillFrom : Bool := false
  /-- partition and TAG of the DRILL command that waits (R215). -/
  drillTag : Option (Nat × Nat) := none
  /-- when the drill was passed to the partner (R215). -/
  drillSent : Nat := 0
  /-- owner when defined (R206). -/
  owner : Nat := 0
  deriving DecidableEq, Repr

/-- One RESIGN frame built for the last gasp (R210, R211). -/
structure Gasp where
  /-- source partition (R210). -/
  part : Nat := 0
  /-- output node that it names (R210). -/
  node : Nat := 0
  /-- groups that it names (R201). -/
  groups : List Nat := []
  /-- pinned on-chip cells that hold it (R210). -/
  cells : List Nat := []
  deriving DecidableEq, Repr

/-- One tally registration of a host partition (R211). -/
structure TallyReg where
  /-- partition (R211). -/
  part : Nat := 0
  /-- output node (R211). -/
  node : Nat := 0
  /-- group (R211). -/
  group : Nat := 0
  /-- tally (R211). -/
  tally : Nat := 0
  deriving DecidableEq, Repr

/-- The cycle, output groups and twins (chapter 07). -/
structure Cycle where
  /-- parameters (R184). -/
  cfg : CycleCfg := {}
  /-- the cycle runs (R188). -/
  running : Bool := false
  /-- n at which an accepted start begins (R188). -/
  startN : Option Nat := none
  /-- first n of the run (R188). -/
  first : Nat := 0
  /-- S_n at which an accepted CYCLE_STOP ends the cycle (R188). -/
  stopAt : Option Nat := none
  /-- last cycle run, or the one before the first while none has run (R188). -/
  last : Nat := 0
  /-- the first S_n of the run has passed: the cycle runs (R188, R192). -/
  begun : Bool := false
  /-- cycles run whose publish instant has not been (R185). -/
  toPublish : List Nat := []
  /-- cycles run whose deadline has not been (R185). -/
  toDeadline : List Nat := []
  /-- cycles run whose apply instant has not been (R185). -/
  toApply : List Nat := []
  /-- input image (R190). -/
  image : Image := {}
  /-- output groups (R197). -/
  groups : Tbl OutGroup := []
  /-- open staging records (R200). -/
  stages : List StageRec := []
  /-- twin sets (R206). -/
  twins : Tbl TwinSet := []
  /-- tally registrations (R211). -/
  regs : List TallyReg := []
  /-- a last gasp has gone out; standby until TWIN_REARM (R210). -/
  needRearm : Bool := false
  /-- the RESIGN frames built for the last gasp (R210). -/
  gasp : List Gasp := []
  deriving DecidableEq, Repr

/-- Parameters of one CAN channel (R218). -/
structure CanCfg where
  /-- NBRP (R218). -/
  nbrp : Nat := 4
  /-- NTSEG1 (R218). -/
  ntseg1 : Nat := 139
  /-- NTSEG2 (R218). -/
  ntseg2 : Nat := 20
  /-- NSJW (R218). -/
  nsjw : Nat := 16
  /-- FD_EN (R218). -/
  fdEn : Bool := true
  /-- DBRP (R218). -/
  dbrp : Nat := 2
  /-- DTSEG1 (R218). -/
  dtseg1 : Nat := 29
  /-- DTSEG2 (R218). -/
  dtseg2 : Nat := 10
  /-- DSJW (R218). -/
  dsjw : Nat := 10
  /-- XL_EN (R218). -/
  xlEn : Bool := false
  /-- XBRP (R218). -/
  xbrp : Nat := 1
  /-- XTSEG1 (R218). -/
  xtseg1 : Nat := 11
  /-- XTSEG2 (R218). -/
  xtseg2 : Nat := 4
  /-- XSJW (R218). -/
  xsjw : Nat := 4
  /-- TDC_EN (R218). -/
  tdcEn : Bool := true
  /-- TDCO (R218). -/
  tdco : Nat := 0
  /-- XL_TMS (R218). -/
  xlTms : Bool := true
  /-- PWMS (R218). -/
  pwms : Nat := 4
  /-- PWML (R218). -/
  pwml : Nat := 12
  /-- PWMO (R218). -/
  pwmo : Nat := 0
  /-- XL_ERRSIG (R218). -/
  xlErrsig : Bool := false
  /-- PEX (R218). -/
  pex : Bool := true
  /-- MODE_FN (R218, R220). -/
  modeFn : Nat := 0
  /-- MODE_POL (R218, R220). -/
  modePol : Bool := false
  /-- RX_OWN (R218). -/
  rxOwn : Bool := true
  /-- AGE_PB in ms (R218). -/
  agePb : Nat := 1000
  /-- AGE_CR in ms (R218). -/
  ageCr : Nat := 1000
  /-- LATE_LIMIT in us (R218). -/
  lateLimit : Nat := 1000
  deriving DecidableEq, Repr

/-- One priority buffer (R230). -/
structure TxBuf where
  /-- frame held (R230). -/
  frame : Option CanFrame := none
  /-- NOTIFY (R230). -/
  notify : Bool := false
  /-- when it was written (R233). -/
  since : Nat := 0
  /-- its frame is on the bus (R230). -/
  onBus : Bool := false
  /-- CAN_TX_ABORT waits for the attempt's end (R230). -/
  abort : Bool := false
  /-- frame a REPLACE stored behind the frame on the bus (R230). -/
  next : Option (CanFrame × Bool × Nat) := none
  deriving DecidableEq, Repr

/-- One entry of the timed queue's launch list (R230, R231). -/
structure TimedEnt where
  /-- frame (R230). -/
  frame : CanFrame := {}
  /-- launch time (R231). -/
  atNs : Nat := 0
  /-- order of entry (R231). -/
  order : Nat := 0
  /-- came through the tunnel (R244). -/
  tunnel : Bool := false
  /-- its frame is on the bus (R231). -/
  onBus : Bool := false
  deriving DecidableEq, Repr

/-- One pending frame of the crusher path (R230, R233, R261). -/
structure CrushEnt where
  /-- 16 * map + template (R230). -/
  tpl : Nat := 0
  /-- frame (R230). -/
  frame : CanFrame := {}
  /-- when it entered the path (R233). -/
  since : Nat := 0
  /-- its frame is on the bus (R233). -/
  onBus : Bool := false
  /-- newer frame of the template behind the one on the bus (R233). -/
  next : Option (CanFrame × Nat) := none
  deriving DecidableEq, Repr

/-- The tunnel of a channel (R242 to R244). -/
structure Tunnel where
  /-- remote node (R242). -/
  remote : Nat := 0
  /-- remote channel (R242). -/
  rchan : Nat := 0
  /-- DELAY (R244). -/
  delay : Nat := 500
  /-- BATCH (R243). -/
  batch : Nat := 0
  /-- SEQ of the next frame sent (R243). -/
  txSeq : Nat := 0
  /-- SEQ expected next (R244). -/
  rxSeq : Option Nat := none
  /-- records waiting for the batch (R243). -/
  held : List (List Byte) := []
  /-- when the oldest of them was received (R243). -/
  heldAt : Nat := 0
  /-- TUNNEL_LATE raised since the last sent frame (R244). -/
  lateRaised : Bool := false
  deriving DecidableEq, Repr

/-- One transport session (R237 to R239). -/
structure TpSession where
  /-- channel (R238). -/
  chan : Nat := 0
  /-- SA (R238). -/
  sa : Nat := 0
  /-- DA (R238). -/
  da : Nat := 0
  /-- 0 BAM 1 CMDT 2 ETP (R238). -/
  kind : Nat := 0
  /-- ACTIVE (R238). -/
  active : Bool := false
  /-- a message this channel sends (R239). -/
  transmit : Bool := false
  /-- PGN (R238). -/
  pgn : Nat := 0
  /-- PRIO (R238). -/
  prio : Nat := 0
  /-- announced message bytes (R238). -/
  len : Nat := 0
  /-- SOF time of the RTS or BAM (R238). -/
  stamp : Nat := 0
  /-- message bytes gathered, or to send (R238). -/
  data : List Byte := []
  /-- number of the next packet (R238). -/
  seq : Nat := 1
  /-- ETP data packet offset (R237). -/
  off : Nat := 0
  /-- last packet of the window granted by CTS (R237). -/
  window : Nat := 0
  /-- 0 data expected, 1 CTS expected, 2 EOMA expected, 3 held (R238). -/
  phase : Nat := 0
  /-- when its timeout runs out (R237). -/
  due : Nat := 0
  /-- staging queue taken under R105 (R238). -/
  stage : Nat := 0
  /-- most packets the originator sends per CTS (R237). -/
  maxCts : Nat := 255
  /-- when the last TP.DT was written into buffer 31 (R239). -/
  sentAt : Nat := 0
  deriving DecidableEq, Repr

/-- The address-claim agent of a channel (R240, R241). -/
structure Claim where
  /-- enabled (R240). -/
  enable : Bool := false
  /-- NAME (R240). -/
  name : Nat := 0
  /-- preferred address (R240). -/
  pref : Nat := 0
  /-- first address of the range (R240). -/
  lo : Nat := 0
  /-- last address of the range (R240). -/
  hi : Nat := 0
  /-- 0 off, 1 claiming, 2 holding, 3 cannot claim (R240, R402). -/
  st : Nat := 0
  /-- address claimed or held (R240). -/
  addr : Nat := 254
  /-- when the claim was sent (R240). -/
  claimAt : Nat := 0
  /-- NAME last claimed at each address (R241). -/
  bus : Tbl Nat := []
  deriving DecidableEq, Repr

/-- One CAN channel (chapter 08). -/
structure CanChan where
  /-- parameters (R218). -/
  cfg : CanCfg := {}
  /-- MODE (R221). -/
  mode : Nat := 0
  /-- mode that takes effect at the end of the frame in progress (R222). -/
  pendMode : Option Nat := none
  /-- waiting for 11 recessive bits (R222, R236). -/
  integrating : Bool := false
  /-- TEC (R234). -/
  tec : Nat := 0
  /-- REC (R234). -/
  recv : Nat := 0
  /-- bus-off (R234). -/
  busOff : Bool := false
  /-- LEC since the previous record (R225). -/
  lec : Nat := 0
  /-- RECOVERY (R235, R236). -/
  recovery : Nat := 0
  /-- a frame is in progress on the bus (R222). -/
  busy : Bool := false
  /-- priority buffers (R230). -/
  bufs : Tbl TxBuf := []
  /-- timed queue (R230). -/
  timed : List TimedEnt := []
  /-- order of the next timed entry (R231). -/
  order : Nat := 0
  /-- crusher path (R230). -/
  crush : List CrushEnt := []
  /-- receive queue (R228). -/
  rxq : Option Nat := none
  /-- subscriber slots: queue, 4,096 crusher, 4,097 tunnel (R228). -/
  slots : List (Option Nat) := [none, none, none, none]
  /-- feeder queue of the timed queue (R231). -/
  feeder : Option Nat := none
  /-- transport queue (R237). -/
  tpq : Option Nat := none
  /-- transport transmit queue (R239). -/
  tpTxq : Option Nat := none
  /-- transport service enabled (R237). -/
  tpEn : Bool := false
  /-- CTS_PACKETS (R237). -/
  ctsPackets : Nat := 16
  /-- address-claim agent (R240). -/
  claim : Claim := {}
  /-- tunnel (R242). -/
  tunnel : Option Tunnel := none
  /-- TX_AGE_DROP raised since the last sent frame (R233). -/
  ageRaised : Bool := false
  /-- TXD ball, true recessive (R220). -/
  txd : Bool := true
  /-- MODE ball (R220). -/
  modeBall : Bool := false
  /-- SOF time of the frame in progress, TIME_NOW layout (R227). -/
  sof : Option Nat := none
  /-- an XL frame of another node is in its data phase (R220). -/
  rxXl : Bool := false
  /-- frames firmware has yet to write into buffer 30 (R237). -/
  fwq : List CanFrame := []
  deriving DecidableEq, Repr

/-- The CAN island (chapter 08). -/
structure Can where
  /-- channels (R217). -/
  ch : Tbl CanChan := []
  /-- transport sessions (R238). -/
  sessions : List TpSession := []
  deriving DecidableEq, Repr

/-- One source entry of a signal map (R250, R251). -/
structure CrushSrc where
  /-- KIND (R250). -/
  kind : Nat := 0
  /-- UNIT (R250). -/
  unit : Nat := 0
  /-- SEGMENT (R250). -/
  segment : Nat := 0
  /-- MATCH (R250). -/
  val : Nat := 0
  /-- MASK (R250). -/
  mask : Nat := 0
  /-- TIMEOUT in ms (R250). -/
  timeout : Nat := 0
  /-- when it last took a message, or the enable (R251). -/
  lastAt : Nat := 0
  /-- its signals are STALE (R251). -/
  stale : Bool := false
  /-- 1 + cycle of the last image segment taken, 0 none (R195). -/
  img : Nat := 0
  deriving DecidableEq, Repr

/-- One signal entry with its latest-value record (R252 to R256). -/
structure Signal where
  /-- SOURCE (R252). -/
  source : Nat := 0
  /-- ORDER (R252). -/
  motorola : Bool := false
  /-- SIGNED (R252). -/
  signed : Bool := false
  /-- RANGES 1 (R252). -/
  ranges : Bool := false
  /-- RAW_COPY (R252). -/
  rawCopy : Bool := false
  /-- START (R252). -/
  start : Nat := 0
  /-- LEN (R252). -/
  len : Nat := 0
  /-- NUM (R252). -/
  num : Int := 0
  /-- DEN (R252). -/
  den : Nat := 1
  /-- OFFSET in Q32.32 (R252). -/
  offset : Int := 0
  /-- latest-value record (R256). -/
  value : Nat := 0x8000000000000000
  /-- 0 VALID, 1 ERROR, 2 NA (R256). -/
  st : Nat := 2
  /-- value latched at the last S_n (R263). -/
  latched : Nat := 0x8000000000000000
  /-- state latched at the last S_n (3 STALE) (R263). -/
  latchedSt : Nat := 2
  deriving DecidableEq, Repr

/-- One destination field (R258, R259). -/
structure DField where
  /-- SIGNAL (R258). -/
  signal : Nat := 0
  /-- ORDER (R258). -/
  motorola : Bool := false
  /-- SIGNED (R258). -/
  signed : Bool := false
  /-- RANGES 1 (R258). -/
  ranges : Bool := false
  /-- FALLBACK (R258). -/
  fallback : Nat := 0
  /-- START (R258). -/
  start : Nat := 0
  /-- LEN (R258). -/
  len : Nat := 0
  /-- D_NUM (R258). -/
  num : Int := 1
  /-- D_DEN (R258). -/
  den : Nat := 1
  /-- D_OFFSET in Q32.32 (R258). -/
  offset : Int := 0
  /-- FILL_VALUE (R258). -/
  fill : Nat := 0
  /-- last encoded value (R259). -/
  lastEnc : Option Nat := none
  deriving DecidableEq, Repr

/-- One destination template (R257, R260). -/
structure Template where
  /-- KIND (R257). -/
  kind : Nat := 0
  /-- TRIGGER (R257). -/
  trigger : Nat := 0
  /-- DRIVE (R257). -/
  drive : Nat := 0
  /-- PERIOD (R257). -/
  period : Nat := 0
  /-- MIN_GAP (R257). -/
  minGap : Nat := 0
  /-- HANDLE (R257). -/
  handle : Nat := 0
  /-- ID_WORD (R257). -/
  idWord : Nat := 0
  /-- LEN (R257). -/
  len : Nat := 0
  /-- FILL (R257). -/
  fill : Nat := 0xFF
  /-- TALLY (R257). -/
  tally : Nat := 0
  /-- K (R257). -/
  k : Nat := 1
  /-- PHASE (R257). -/
  phase : Nat := 0
  /-- its fields (R257). -/
  fields : List DField := []
  /-- last emission and what it held (R260). -/
  lastSent : Option (Nat × List Byte) := none
  /-- an emission waits for MIN_GAP (R260). -/
  heldBack : Bool := false
  /-- the emission that waits is sent whether or not a field changed (R260). -/
  heldForce : Bool := false
  /-- cycle for which the emission that waits is built (R260, R262). -/
  heldN : Nat := 0
  /-- last periodic instant worked (R260). -/
  lastPer : Nat := 0
  /-- 1 + last cycle for which it was built (R260). -/
  lastCyc : Nat := 0
  deriving DecidableEq, Repr

/-- One signal map (R249). -/
structure SigMap where
  /-- MAP_SET has written it (R249). -/
  written : Bool := false
  /-- ENABLE (R249). -/
  enable : Bool := false
  /-- TWIN: twin set and IN_SET (R249). -/
  twin : Option Nat := none
  /-- owner when written (R249). -/
  owner : Nat := 0
  /-- source entries (R249). -/
  sources : List CrushSrc := []
  /-- signal entries (R249). -/
  signals : List Signal := []
  /-- destination templates (R257). -/
  tpls : List Template := []
  /-- CRUSH_STALE raised since the last message taken (R265). -/
  staleRaised : Bool := false
  /-- CRUSH_OVERRUN raised since the last decoded packet (R248, R265). -/
  overRaised : Bool := false
  /-- CRUSH_LATE raised until a cycle without it (R265). -/
  lateRaised : Bool := false
  /-- packets of the hub committed when it was enabled (R249). -/
  enSeq : Nat := 0
  deriving DecidableEq, Repr

/-- A source message that waits for its reception work (R248). -/
structure CrushWork where
  /-- KIND of its source (R250). -/
  kind : Nat := 0
  /-- UNIT (R250). -/
  unit : Nat := 0
  /-- SEGMENT (R250). -/
  segment : Nat := 0
  /-- 1 + cycle of an image segment (R195). -/
  cycle : Nat := 0
  /-- ID_WORD, or packet bytes 0 to 3 (R250). -/
  word : Nat := 0
  /-- payload (R251). -/
  payload : List Byte := []
  /-- when its packet was committed (R263). -/
  atNs : Nat := 0
  /-- that moment on LT (R248). -/
  atLt : Nat := 0
  /-- its place in the order of commits of the hub (R248, R249). -/
  seq : Nat := 0
  deriving DecidableEq, Repr

/-- The crusher (chapter 09). -/
structure Crusher where
  /-- signal maps (R247). -/
  maps : Tbl SigMap := []
  /-- reception work waiting, oldest first (R248). -/
  work : List CrushWork := []
  /-- packets of the hub committed at the last S_n (R263). -/
  snapSeq : Nat := 0
  deriving DecidableEq, Repr

/-- Pin options (R268). -/
structure PinCfg where
  /-- DRIVE (R268). -/
  drive : Nat := 0
  /-- OD (R268). -/
  od : Bool := false
  /-- PULL (its reset value follows the BANK_PULL strap) (R268). -/
  pull : Nat := 0
  /-- SCHMITT (R268). -/
  schmitt : Bool := true
  /-- ACTIVE_LOW (R268). -/
  activeLow : Bool := false
  /-- GLITCH (R268). -/
  glitch : Nat := 0
  /-- EDGE_EV (R268). -/
  edgeEv : Nat := 0
  /-- COUNT_EDGE (R268). -/
  countEdge : Nat := 0
  /-- STUCK_EN (R268). -/
  stuckEn : Bool := false
  /-- DEBOUNCE in us (R268). -/
  debounce : Nat := 0
  /-- STUCK_MS (R268). -/
  stuckMs : Nat := 1000
  deriving DecidableEq, Repr

/-- One field pin (R266 to R274, R298). -/
structure Pin where
  /-- options (R268). -/
  cfg : PinCfg := {}
  /-- level at the pad (R269). -/
  raw : Bool := false
  /-- filtered level (R269). -/
  filt : Bool := false
  /-- debounced level (R271). -/
  deb : Bool := false
  /-- when the filtered level last changed (R271). -/
  filtAt : Nat := 0
  /-- edge counter (R271). -/
  count : Nat := 0
  /-- COUNT_SAT may be raised (R271). -/
  satArmed : Bool := true
  /-- commanded level (R272). -/
  level : Bool := false
  /-- commanded direction: driven (R272). -/
  out : Bool := false
  /-- pending timed transition: instant, level, direction (R273). -/
  timed : Option (Nat × Bool × Bool) := none
  /-- start of the stuck monitor's active time (R298). -/
  activeAt : Nat := 0
  /-- STUCK may be raised (R298). -/
  stuckArmed : Bool := true
  /-- step and kind of the driver that acted last: 0 output group item, 1 timed transition, 2 command (R274). -/
  lastAct : Option (Nat × Nat) := none
  /-- edge and hewer that last wrote its level (R274). -/
  lvlAct : Option (Nat × Nat) := none
  /-- edge and hewer that last wrote its direction (R274). -/
  dirAct : Option (Nat × Nat) := none
  /-- edge from which the pad samples a level of the hub's own driver that the glitch filter has not passed (R269). -/
  selfAt : Option Nat := none
  /-- edges at which the filtered level last changed, with the level before (R270). -/
  hist : List (Nat × Bool) := []
  deriving DecidableEq, Repr

/-- One pin bank (R267). -/
structure Bank where
  /-- supply above its monitor threshold (R267). -/
  present : Bool := true
  /-- voltage detected (R267). -/
  mv : Nat := 3300
  deriving DecidableEq, Repr

/-- Hewer configuration (R276). -/
structure HewerCfg where
  /-- DIV_INT (R276). -/
  divInt : Nat := 1
  /-- DIV_FRAC (R276). -/
  divFrac : Nat := 0
  /-- IN_DIR (R276). -/
  inDir : Bool := false
  /-- OUT_DIR (R276). -/
  outDir : Bool := false
  /-- AUTO_STORE (R276). -/
  autoStore : Bool := false
  /-- AUTO_FETCH (R276). -/
  autoFetch : Bool := false
  /-- SIDE_DIR (R276). -/
  sideDir : Bool := false
  /-- IN_BASE (4(n mod 8) for hewer n) (R276). -/
  inBase : Nat := 0
  /-- IN_COUNT (R276). -/
  inCount : Nat := 4
  /-- OUT_BASE (4(n mod 8)) (R276). -/
  outBase : Nat := 0
  /-- OUT_COUNT (R276). -/
  outCount : Nat := 4
  /-- SET_BASE (4(n mod 8)) (R276). -/
  setBase : Nat := 0
  /-- SET_COUNT (R276). -/
  setCount : Nat := 4
  /-- SIDE_BASE (R276). -/
  sideBase : Nat := 0
  /-- SIDE_COUNT (R276). -/
  sideCount : Nat := 0
  /-- IN_WIDTH (R276). -/
  inWidth : Nat := 32
  /-- OUT_WIDTH (R276). -/
  outWidth : Nat := 32
  /-- TEST_PIN (R276). -/
  testPin : Nat := 0
  /-- time trigger unit of TLATCH_UNIT (R276). -/
  tlatchUnit : Nat := 0
  /-- TLATCH_EN (R276). -/
  tlatchEn : Bool := false
  /-- RX_QUEUE (R276). -/
  rxQueue : Nat := 0xFFFF
  /-- TX_QUEUE (R276). -/
  txQueue : Nat := 0xFFFF
  /-- PKT_WORDS (R276). -/
  pktWords : Nat := 0
  /-- SIDE_PAT (R276). -/
  sidePat : Nat := 0
  deriving DecidableEq, Repr

/-- One hewer (R275). -/
structure Hewer where
  /-- configuration (R276). -/
  cfg : HewerCfg := {}
  /-- program memory (LENGTH words; empty at reset) (R275). -/
  prog : List (BitVec 32) := []
  /-- LOOP_TO (R293). -/
  loopTo : Nat := 0
  /-- ENTRY (R293). -/
  entry : Nat := 0
  /-- ROM library program loaded, if any (R297). -/
  lib : Option Nat := none
  /-- its load parameters (R297). -/
  libParams : List Nat := []
  /-- 0 STOPPED, 1 RUNNING, 2 ARMED (R291). -/
  st : Nat := 0
  /-- unit whose firing starts it (R296). -/
  armUnit : Nat := 0
  /-- FIRE_COUNT of that unit when it was armed (R296). -/
  armCount : Nat := 0
  /-- RESTART of that start (R296). -/
  armRestart : Bool := false
  /-- PC (R275). -/
  pc : Nat := 0
  /-- U (R275). -/
  u : BitVec 32 := 0
  /-- V (R275). -/
  v : BitVec 32 := 0
  /-- edge of an external write of U that no tick has followed (R280). -/
  extU : Option Nat := none
  /-- edge of an external write of V that no tick has followed (R280). -/
  extV : Option Nat := none
  /-- G (R275). -/
  g : BitVec 32 := 0
  /-- G_CNT (R275). -/
  gCnt : Nat := 0
  /-- S (R275). -/
  s : BitVec 32 := 0
  /-- S_CNT (R275). -/
  sCnt : Nat := 0
  /-- LAST_WORD (R275). -/
  lastWord : BitVec 32 := 0
  /-- LAST mark of LAST_WORD (R275). -/
  lastMark : Bool := false
  /-- RX FIFO: word, EOP (R275). -/
  rx : List (BitVec 32 × Bool) := []
  /-- TX FIFO: word, LAST (R275). -/
  tx : List (BitVec 32 × Bool) := []
  /-- TLATCH (R275). -/
  tlatch : Bool := false
  /-- IRQ_IN (R275). -/
  irqIn : BitVec 4 := 0
  /-- DROP_TO_EOP (R288). -/
  dropToEop : Bool := false
  /-- a packet is open (R288). -/
  pktOpen : Bool := false
  /-- words pushed of the packet, discarded ones too (R288). -/
  pktCnt : Nat := 0
  /-- words of the open packet already in the tub queue (R288). -/
  inQueue : Nat := 0
  /-- STALL: 0 none 1 PUSH or TSTAMP 2 PULL 3 WAIT (R300). -/
  stall : Nat := 0
  /-- the instruction at PC has begun and stalls (its side pattern is written, an IN has shifted) (R294). -/
  began : Bool := false
  /-- edge at which the WAIT at PC started (R282). -/
  waitFrom : Nat := 0
  /-- remainder r of the divider (R278). -/
  rem : Nat := 0
  /-- edge of its next tick (R278). -/
  edge : Nat := 0
  /-- delay ticks that remain (R279). -/
  delay : Nat := 0
  deriving DecidableEq, Repr

/-- One hewer flag (R290). -/
structure HFlag where
  /-- value (R290). -/
  val : Bool := false
  /-- owner partition (R290). -/
  owner : Nat := 0
  /-- edge and hewer that acted last; 64 a write from outside (R280, R290). -/
  act : Option (Nat × Nat) := none
  /-- value at the start of that edge (R290). -/
  was : Bool := false
  /-- edges at which hewers last wrote it, with the value before (R290). -/
  hist : List (Nat × Bool) := []
  deriving DecidableEq, Repr

/-- A write on its way to the pad stage (R272, R274). -/
structure PadWrite where
  /-- pin (R272). -/
  pin : Nat := 0
  /-- hewer that wrote it; 64 a PIN_WRITE (R272, R274). -/
  src : Nat := 64
  /-- edge of the instruction that wrote it (R274). -/
  made : Nat := 0
  /-- level written (R272). -/
  lvl : Option Bool := none
  /-- direction written (R272). -/
  dir : Option Bool := none
  deriving DecidableEq, Repr

/-- Hewers and field pins (chapter 10). -/
structure FieldIo where
  /-- field pins (R266). -/
  pins : Tbl Pin := []
  /-- banks (R267). -/
  banks : Tbl Bank := []
  /-- hewers (Hewer.init n until changed) (R275). -/
  hewers : Tbl Hewer := []
  /-- flags: 32 cluster + index, 256 + index of a global flag (R290). -/
  flags : Tbl HFlag := []
  /-- writes that have not reached the pad stage (R272, R274). -/
  pads : List PadWrite := []
  deriving DecidableEq, Repr

end Sys2Proof.Machine
end

