-- ==== Sys2Proof/Machine/StateSys.lean ====
section
/-!
DEFINITION. The state of attachments and the bridge, partitions and mailboxes, events and faults, the control complex, power branches, the assay island, start-up and update (chapters 11 to 18).
Each field names the rule of spec/ that gives it; a default is its value at reset.
-/
namespace Sys2Proof.Machine

/-- One MSI-X table entry (R304, R307). -/
structure MsixEnt where
  /-- message address (R304, R307). -/
  addr : Nat := 0
  /-- message data (R304, R307). -/
  data : Nat := 0
  /-- vector control mask bit (R307). -/
  masked : Bool := true
  deriving DecidableEq, Repr

/-- The completion of a POP read on a PCIe function, as it leaves (R308, R327). -/
structure PopReply where
  /-- when it leaves: a function that goes down in this ns does not send it (R308). -/
  lt : Nat := 0
  /-- address read (R327). -/
  addr : RingAddr := {}
  /-- its data (R327). -/
  data : List Byte := []
  /-- bytes popped (R327). -/
  bytes : Nat := 0
  /-- POP_LAST flags (R110, R327). -/
  flags : Nat := 0
  deriving DecidableEq, Repr

/-- One attachment (R301, R302). -/
structure Att where
  /-- bound partition (attachments 0 and 8 start bound to partition 0) (R301, R335). -/
  bound : Option Nat := none
  /-- the link serves accesses, apart from the PCIe bits below (R302, R313). -/
  up : Bool := true
  /-- WIN_BASE (PART resets to the bound partition) (R305). -/
  winBase : Nat := 0
  /-- SPI_CTRL.QUAD (R302). -/
  quad : Bool := false
  /-- RCV_STATUS (R327). -/
  rcvStatus : Nat := 0
  /-- RCV_ADDR (R302, R327). -/
  rcvAddr : Nat := 0
  /-- RCV_DATA (R302, R327). -/
  rcvData : Nat := 0
  /-- PCIe link trained (R308). -/
  linkUp : Bool := false
  /-- in function-level reset (R308). -/
  flr : Bool := false
  /-- Bus Master Enable (R308). -/
  bme : Bool := false
  /-- Memory Space Enable (R308). -/
  mse : Bool := false
  /-- MSI-X table (R304). -/
  msix : Tbl MsixEnt := []
  /-- pending bit array (R304, R307). -/
  msixPend : Nat := 0
  /-- INT_N line of a chip select driven low (R370). -/
  intLow : Bool := false
  /-- completion of the latest POP read of a PCIe function (R308, R327). -/
  popReply : Option PopReply := none
  deriving DecidableEq, Repr

/-- One Ethernet host table entry (R314). -/
structure HostEnt where
  /-- MAC (R314). -/
  mac : Nat := 0
  /-- PORT (R314). -/
  port : Nat := 0
  /-- VALID (R314). -/
  valid : Bool := false
  /-- MACSEC_REQ (R314). -/
  macsecReq : Bool := false
  /-- VLAN (R314). -/
  vlan : Nat := 0
  /-- PART (R314). -/
  part : Nat := 0
  deriving DecidableEq, Repr

/-- One lock table entry (R322). -/
structure Lock where
  /-- space of the granule (R322). -/
  space : Nat := 0
  /-- granule: offset / 64 (R322). -/
  gran : Nat := 0
  /-- holder node (R322). -/
  node : Nat := 0
  /-- holder partition (R322). -/
  part : Nat := 0
  /-- holder tag (R322). -/
  tag : Nat := 0
  /-- when the lock was taken (R322). -/
  atNs : Nat := 0
  deriving DecidableEq, Repr

/-- A posted write in the outbound posted buffer (R318). -/
structure Posted where
  /-- target (R316). -/
  addr : RingAddr := {}
  /-- data (R316). -/
  data : List Byte := []
  /-- partition (R316). -/
  part : Nat := 0
  /-- attachment (R316). -/
  att : Nat := 0
  deriving DecidableEq, Repr

/-- A completion on its way to its requester (R318, R319). -/
structure OutCpl where
  /-- port of the Ethernet host it answers; none for a ring node (R315). -/
  port : Option Nat := none
  /-- destination MAC (R47, R315). -/
  mac : Nat := 0
  /-- VLAN of an Ethernet host (R315). -/
  vid : Nat := 0
  /-- its header (R50). -/
  hdr : GrtHdr := {}
  /-- its data (R50). -/
  data : List Byte := []
  deriving DecidableEq, Repr

/-- The bridge (chapter 11). -/
structure Bridge where
  /-- attachments (R301). -/
  atts : Tbl Att := []
  /-- Ethernet host table (R314). -/
  hosts : Tbl HostEnt := []
  /-- lock table (R322). -/
  locks : List Lock := []
  /-- LOCK_TIMEOUT (R322). -/
  lockTimeout : Nat := 20
  /-- tags under which proxied LOCK_READs of Ethernet hosts hold locks: attachment, host TAG, hub tag (kept for their WRITE_UNLOCK) (R322, R324). -/
  lockTags : List (Nat × Nat × Nat) := []
  /-- outbound posted buffer, oldest first (R318). -/
  outP : List Posted := []
  /-- outbound non-posted buffer, oldest first (R318). -/
  outNp : List OutReq := []
  /-- completions produced for inbound requests that wait for egress room, oldest first (R318, R319). -/
  outC : List OutCpl := []
  /-- inbound completion reserve in use (R318, R319). -/
  cplIn : Nat := 0
  /-- parts of a split BAR2 read that have completed: tag of its first part, offset, bytes, GRT status (R306). -/
  bParts : List (Nat × Nat × List Byte × Nat) := []
  deriving DecidableEq, Repr

/-- A command in progress behind its ACCEPTED completion, or waiting for an outside answer (R351, R384). -/
structure Async where
  /-- issuing partition (R351). -/
  part : Nat := 0
  /-- opcode (R383). -/
  opcode : Nat := 0
  /-- its descriptor (R383). -/
  desc : Desc := {}
  /-- bulk input as copied (R385). -/
  bulk : List Byte := []
  /-- it was accepted with ASYNC (R351). -/
  async : Bool := true
  /-- past its point of no return (R354). -/
  gone : Bool := false
  /-- its body has run and an outside event completes it (R351). -/
  begun : Bool := false
  /-- start of its bound (R355). -/
  due : Nat := 0
  /-- handled by service firmware (R392). -/
  service : Bool := false
  /-- the resources it changes, each class x 65536 + index (R390). -/
  res : List Nat := []
  /-- it was handed to a service pair that the debugger has halted (R430). -/
  stalled : Bool := false
  deriving DecidableEq, Repr

/-- One partition (chapters 12, 13). -/
structure Partition where
  /-- 0 ABSENT, 1 OPEN, 2 RESETTING (R330). -/
  st : Nat := 0
  /-- KTX22 profile (R331). -/
  ktx22 : Bool := false
  /-- bank b of the KTX22 view (R357). -/
  bank : Nat := 0
  /-- CAN channels of the KTX22 view (R357). -/
  chans : List Nat := []
  /-- QBASE (R357). -/
  qbase : Nat := 0
  /-- submission slots (an unlisted byte reads 0) (R347). -/
  sq : List Host.Cell := []
  /-- completion slots (an unlisted byte reads 0) (R347). -/
  cq : List Host.Cell := []
  /-- MBX_SQ_TAIL (R348). -/
  sqTail : Nat := 0
  /-- MBX_SQ_HEAD (R348). -/
  sqHead : Nat := 0
  /-- MBX_CQ_TAIL (R348). -/
  cqTail : Nat := 0
  /-- MBX_CQ_HEAD (R348). -/
  cqHead : Nat := 0
  /-- DOORBELL_ERR (R346). -/
  doorbellErr : Bool := false
  /-- CQ_WAIT (R346). -/
  cqWait : Bool := false
  /-- LT instant at which a partition reset under way ends (R333). -/
  resetEnd : Nat := 0
  /-- commands in progress, oldest first (ASYNC_ACTIVE counts the ASYNC ones) (R351). -/
  cmds : List Async := []
  /-- EVQ_CTRL.QUEUE and BOUND (R365, R367). -/
  evq : Option Nat := none
  /-- EVQ_HEAD (R367). -/
  evqHead : Nat := 0
  /-- EVQ_TAIL (R367). -/
  evqTail : Nat := 0
  /-- TARGET (R367). -/
  target : Nat := 0
  /-- VECTOR (R367). -/
  vector : Nat := 0
  /-- FIRED (R367). -/
  fired : Bool := false
  /-- COUNT_MOD (R367). -/
  countMod : Nat := 1
  /-- TIME_MOD in us (R367). -/
  timeMod : Nat := 0
  /-- when each pending record was committed, oldest first (R369). -/
  evqTimes : List Nat := []
  /-- last EVQ_HEAD write (R369). -/
  headAt : Nat := 0
  /-- EVT_SUMMARY (R371). -/
  summary : List Nat := [0,0,0,0,0,0,0,0,0,0,0,0,0,0,0,0]
  /-- FAULT_FIRST.VALID (R376). -/
  ffValid : Bool := false
  /-- FAULT_FIRST.LEVEL (R376). -/
  ffLevel : Nat := 0
  /-- FAULT_FIRST.CODE (R376). -/
  ffCode : Nat := 0
  /-- FAULT_FIRST.DETAIL (R376). -/
  ffDetail : Nat := 0
  /-- FAULT_FIRST.TIME_US (R376). -/
  ffTime : Nat := 0
  /-- FAULT_COUNT.COUNT (R376). -/
  fcCount : Nat := 0
  /-- FAULT_COUNT.MAX_LEVEL (R376). -/
  fcMax : Nat := 0
  deriving DecidableEq, Repr

/-- One region of the shared SRAM window (R340). -/
structure Region where
  /-- base (R340). -/
  base : Nat := 0
  /-- size, 0 no region (R340). -/
  size : Nat := 0
  /-- owner (R340). -/
  owner : Nat := 0
  /-- READERS (R340). -/
  readers : Nat := 1
  deriving DecidableEq, Repr

/-- One event source (R368, R373, R542). -/
structure EvSrc where
  /-- CAUSE_MASK (R368). -/
  mask : Nat := 0xFFFF
  /-- CAUSE_OFF_HI (R368). -/
  offHi : Nat := 0
  /-- STORM_N (R368). -/
  stormN : Nat := 100
  /-- STORM_WINDOW in ms (R368). -/
  stormWin : Nat := 100
  /-- FWD_NODE (R368). -/
  fwd : Nat := 0
  /-- start of the running window (R373). -/
  winAt : Option Nat := none
  /-- records in the window (R373). -/
  winCnt : Nat := 0
  /-- storm state (R373). -/
  storm : Bool := false
  /-- last record raised (R373). -/
  lastAt : Nat := 0
  /-- SUPPRESSED (R373). -/
  suppressed : Nat := 0
  /-- records suppressed in the current or last storm (R373, R405). -/
  stormSup : Nat := 0
  /-- the next record carries AFTER_STORM (R373). -/
  after : Bool := false
  /-- MASKED (R368). -/
  masked : Nat := 0
  /-- owner of a source moved by itself (R542). -/
  detached : Option Nat := none
  deriving DecidableEq, Repr

/-- One fault (R375, R377). -/
structure Flt where
  /-- code (R375). -/
  code : Nat := 0
  /-- level (R374). -/
  level : Nat := 0
  /-- DETAIL (R375). -/
  detail : Nat := 0
  /-- detection time (R376). -/
  atNs : Nat := 0
  /-- partitions a contained fault is reported to (R374). -/
  parts : List Nat := []
  /-- merged occurrences (R377). -/
  merged : Nat := 0
  deriving DecidableEq, Repr

/-- Fault handling (R374 to R380). -/
structure Faults where
  /-- the fault being handled first, then those it preempted (R377, R378). -/
  handling : List Flt := []
  /-- faults waiting (R377). -/
  queued : List Flt := []
  /-- from the start of a warm reset until service firmware runs (R378, R379). -/
  resetting : Bool := false
  /-- restarts of the warm reset in a row (R379). -/
  restarts : Nat := 0
  /-- safe halt (R379). -/
  safeHalt : Bool := false
  /-- fatal fault to report when partitions open again (R374). -/
  fatal : Option Flt := none
  /-- level of FAULT_N (low from reset until service firmware runs) (R380, R483). -/
  faultN : Bool := false
  deriving DecidableEq, Repr

/-- One main-die core pair (R411 to R421). -/
structure Pair where
  /-- in service (R417, R419). -/
  ok : Bool := true
  /-- bus port closed by its alarm (R413). -/
  closed : Bool := false
  /-- hart halted by the debugger (R430, R431). -/
  halted : Bool := false
  deriving DecidableEq, Repr

/-- One log entry (R503). -/
structure LogEnt where
  /-- SEQ (R503). -/
  seq : Nat := 0
  /-- TIME (R503). -/
  time : Nat := 0
  /-- KIND (R503). -/
  kind : Nat := 0
  /-- DETAIL (the order of its fields is the model's) (R503). -/
  detail : List Byte := []
  deriving DecidableEq, Repr

/-- A boot-control record (R492). -/
structure BootRec where
  /-- MAGIC and CRC valid (R492). -/
  valid : Bool := false
  /-- SEQ (R492). -/
  seq : Nat := 0
  /-- ACTIVE (R492). -/
  active : Nat := 0
  /-- PREVIOUS (R492). -/
  previous : Nat := 1
  /-- STATE (R492). -/
  trial : Bool := false
  /-- TRIAL_BOOTS (R492). -/
  boots : Nat := 0
  /-- CONFIG (R492). -/
  config : Nat := 0
  /-- TRIAL_WINDOW in minutes (R492). -/
  window : Nat := 10
  deriving DecidableEq, Repr

/-- One image slot of the flash, or of the assay die's MRAM (R454, R487, R488). -/
structure Slot where
  /-- bytes written from the slot's start (those beyond the list are erased) (R487). -/
  bytes : List Byte := []
  /-- verified marker in its last sector (R493). -/
  marked : Bool := false
  deriving DecidableEq, Repr

/-- The update in progress (R493, R494). -/
structure Update where
  /-- TYPE (R493). -/
  typ : Nat := 0
  /-- SLOT (R493). -/
  slot : Nat := 0
  /-- LENGTH (R493). -/
  length : Nat := 0
  /-- bytes received (R493). -/
  got : Nat := 0
  /-- UPD_VERIFY has passed (R493). -/
  verified : Bool := false
  /-- activated, waits for a reset (R494). -/
  activated : Bool := false
  deriving DecidableEq, Repr

/-- Start-up, flash, OTP and update (chapter 18). -/
structure Boot where
  /-- strap BOOT_SRC as sampled (R482). -/
  bootSrc : Nat := 0
  /-- strap RESCUE_N as sampled (R482). -/
  rescueN : Bool := true
  /-- strap NODE_SEL as sampled (R57, R482). -/
  nodeSel : Nat := 0
  /-- strap RING_ROLE as sampled (R56, R482). -/
  ringRole : Nat := 0
  /-- strap BANK_PULL as sampled (R482). -/
  bankPull : Nat := 0
  /-- level of the BOOT_SRC balls (R482). -/
  pinBootSrc : Nat := 0
  /-- level of the RESCUE_N ball (R482). -/
  pinRescueN : Bool := true
  /-- level of the NODE_SEL balls (R482). -/
  pinNodeSel : Nat := 0
  /-- level of the RING_ROLE balls (R482). -/
  pinRingRole : Nat := 0
  /-- level of the BANK_PULL balls (R482). -/
  pinBankPull : Nat := 0
  /-- last reset cause (R504). -/
  cause : Nat := 0
  /-- BOOT_COUNT (R345). -/
  bootCount : Nat := 0
  /-- hub slot started, none before the boot or in rescue (R486). -/
  started : Option Nat := none
  /-- rescue station mode (R499). -/
  rescue : Bool := false
  /-- service firmware runs (R345, R485). -/
  running : Bool := false
  /-- the configuration has been applied since the reset (R491). -/
  configured : Bool := false
  /-- configuration slot in use (R491). -/
  cfgSlot : Nat := 0xFF
  /-- FW_STATUS.TRIAL (R345, R495). -/
  trialRun : Bool := false
  /-- when service firmware first ran in this boot (R495). -/
  runAt : Nat := 0
  /-- TRIAL_WINDOW of the configuration (R490). -/
  window : Nat := 10
  /-- WARM_PIN (R484, R490). -/
  warmPin : Bool := false
  /-- a flash of 32 MiB or more answers SFDP (R487). -/
  flashOk : Bool := true
  /-- entries of the log area (13 MiB / 64 with 32 MiB of flash) (R487, R503). -/
  logSize : Nat := 212992
  /-- boot-control record of sector 0 (R487, R492). -/
  rec0 : BootRec := {}
  /-- boot-control record of sector 1 (R487, R492). -/
  rec1 : BootRec := {}
  /-- hub image slots A and B (R487). -/
  hub : Tbl Slot := []
  /-- configuration record slots A and B (R487). -/
  conf : Tbl Slot := []
  /-- log entries, oldest first (R503). -/
  log : List LogEnt := []
  /-- SEQ of the next entry (R503). -/
  logSeq : Nat := 0
  /-- OTP security version (R497). -/
  thermo : Nat := 0
  /-- OTP key hash of KEY_ID 0 (R489). -/
  rootHash : List Byte := []
  /-- OTP key hash of KEY_ID 1, when programmed (R489). -/
  oemHash : Option (List Byte) := none
  /-- OTP factory MAC (R47, R424). -/
  mac : Nat := 0
  /-- OTP holds the OEM debug key hash (R428). -/
  dbgOem : Bool := false
  /-- OTP holds Yedmio's debug key hash (R428). -/
  dbgVendor : Bool := false
  /-- update in progress (R493). -/
  upd : Option Update := none
  /-- a warm reset that follows a completion or a RING_RESET (R480, R72). -/
  resetAt : Option (Nat × Nat) := none
  /-- FW_VERSION of the running image (R345). -/
  flashVer : Nat := 0
  deriving DecidableEq, Repr

/-- The control complex and its monitors (chapter 15, R381, R382). -/
structure Ctl where
  /-- core pairs 0 to 2 (R411). -/
  pairs : Tbl Pair := []
  /-- start of the deputy watchdog, put off by the time for which hart 0 was halted (R422). -/
  wdAt : Nat := 0
  /-- when hart 0 was halted (R422, R431). -/
  wdHalt : Nat := 0
  /-- the watchdog runs (R422). -/
  wdRun : Bool := false
  /-- 0 locked, 1 OEM, 2 vendor (R428). -/
  debug : Nat := 0
  /-- last challenge and when it was given (R428). -/
  challenge : Option (List Byte × Nat) := none
  /-- temperature readings in 0.25 C (R382, R409). -/
  temps : List Int := [100, 100, 100, 100, 100]
  /-- rails out of band whose SUPPLY waits for partition 0 (R518). -/
  railsLate : List Nat := []
  /-- highest threshold raised and not re-armed, per sensor (R537). -/
  tempRaised : List Nat := [0, 0, 0, 0, 0]
  /-- main-die island clocks running (R11, R14). -/
  islands : List Bool := [true,true,true,true,true,true,true,true,true,true,true]
  /-- die-to-die links: power die, assay die (R375). -/
  dieUp : List Bool := [true, true]
  /-- crossings, source and destination island, whose word a stopped destination has not accepted (R12, R14). -/
  held : List (Nat × Nat) := []
  deriving DecidableEq, Repr

/-- Configuration of one power branch (R435). -/
structure BrCfg where
  /-- SHUNT in uOhm (R435). -/
  shunt : Nat := 1000
  /-- DVDT in 0.1 V/ms (R435). -/
  dvdt : Nat := 1
  /-- NTC_FITTED (R435). -/
  ntcFitted : Bool := false
  /-- RAMP_ILIM in 10 mA (R435). -/
  rampIlim : Nat := 1
  /-- I_NOM in 10 mA (R435). -/
  iNom : Nat := 1
  /-- I2T in A2 ms (R435). -/
  i2t : Nat := 1
  /-- SHORT_I in 100 mA (R435). -/
  shortI : Nat := 10
  /-- RETRIES (R435). -/
  retries : Nat := 0
  /-- DUTY in 0.1 % (R435). -/
  duty : Nat := 20
  /-- RETRY_INT in 0.5 s (R435). -/
  retryInt : Nat := 1
  /-- TEMP_TRIP in 0.25 C (R435). -/
  tempTrip : Int := 0
  /-- TEMP_REENTRY in 0.25 C (R435). -/
  tempReentry : Int := 0
  /-- stage resistances in 0.001 K/W (R406, R441). -/
  res : List Nat := [0, 0, 0]
  /-- stage heat capacities in mJ/K (R406, R441). -/
  cap : List Nat := [1, 1, 1]
  /-- RDS(on) in uOhm (R406, R441). -/
  rdson : Nat := 0
  deriving DecidableEq, Repr

/-- One power branch (chapter 16). -/
structure Branch where
  /-- configuration (R435). -/
  cfg : BrCfg := {}
  /-- a BRANCH_CFG has been accepted since power-on (R435). -/
  accepted : Bool := false
  /-- STATE (R436). -/
  st : Nat := 0
  /-- LAST_TRIP (R406). -/
  lastTrip : Nat := 0
  /-- RETRIES_LEFT (R445). -/
  retriesLeft : Nat := 0
  /-- BACKFEED (R449). -/
  backfeed : Bool := false
  /-- IN_LIMIT (R439). -/
  inLimit : Bool := false
  /-- SUPPLY_HOLD (R448). -/
  supplyHold : Bool := false
  /-- SUPPLY_LOW (R448). -/
  supplyLow : Bool := false
  /-- START_WAIT (R439, R446). -/
  startWait : Bool := false
  /-- the waiting request or running ramp is a retry (R445). -/
  isRetry : Bool := false
  /-- breaker content E (R443). -/
  e : Nat := 0
  /-- stage temperatures of the thermal model above the reference (R441). -/
  temp : List Int := [0, 0, 0]
  /-- T_MODEL in 0.25 C (R439). -/
  tModel : Int := 100
  /-- T_NTC in 0.25 C, 0x8000 when none (R439). -/
  tNtc : Int := -32768
  /-- NTC reads open or short (R442). -/
  ntcFault : Bool := false
  /-- TEMP_WARN raised and not re-armed (R445). -/
  warned : Bool := false
  /-- ENERGY in mJ (R438). -/
  energy : Nat := 0
  /-- remainder of the energy count (R438). -/
  energyRem : Nat := 0
  /-- V_IN in mV (R439). -/
  vIn : Nat := 0
  /-- V_OUT in mV (R439). -/
  vOut : Nat := 0
  /-- I in mA (R439). -/
  i : Int := 0
  /-- P in mW (R439). -/
  p : Int := 0
  /-- SAMPLE (R439). -/
  sample : Nat := 0
  /-- grant of the last start (R445). -/
  grantAt : Nat := 0
  /-- last trip (R445). -/
  tripAt : Nat := 0
  /-- when ON was entered, or the last trip-free restore (R445). -/
  onAt : Nat := 0
  /-- the main die has rewritten its state during the hold (R450). -/
  rewritten : Bool := false
  /-- energy delivered while RAMPING, by sample, over the last second (R446). -/
  rampE : List (Nat × Nat) := []
  /-- power-die cycle in which its waiting start request was raised (R446). -/
  reqCyc : Nat := 0
  /-- power-die cycle in which a command turned it off while it conducted (R451). -/
  offCyc : Option Nat := none
  /-- power-die cycle and data of the last BRANCH_SET (R451). -/
  cmdCyc : Option (Nat × Bool) := none
  /-- energy of trips not yet taken into the thermal model (R444). -/
  heat : Nat := 0
  /-- measurement record in the main die's latest-value register, the last that crossed the link (R9, R439). -/
  latest : List Byte := []
  /-- record of the sample aligned to the snapshot of a cycle (R16, R438). -/
  snapRec : Option (Nat × List Byte) := none
  deriving DecidableEq, Repr

/-- The power die (chapter 16). -/
structure Power where
  /-- branches (R432). -/
  br : Tbl Branch := []
  /-- K (R446). -/
  k : Nat := 2
  /-- ENERGY_BUDGET in mJ (R446). -/
  budget : Nat := 0
  /-- SLOTS_EN (R447). -/
  slotsEn : Bool := false
  /-- SLOT_LEN in us (R447). -/
  slotLen : Nat := 100
  /-- SLOT_COUNT (R447). -/
  slotCount : Nat := 1
  /-- SLOT_INDEX (R447). -/
  slotIndex : Nat := 0
  /-- start requests waiting, oldest first (R446). -/
  requests : List Nat := []
  /-- start of the hold (R450). -/
  holdAt : Option Nat := none
  /-- branches opened by a hold whose HOLD_OPENED waits for partition 0 (R450). -/
  holdOpened : List Nat := []
  /-- output group items that wait for the link to the power die: branch, data (R9, R451). -/
  waiting : List (Nat × Bool) := []
  deriving DecidableEq, Repr

/-- One measurement record (R472). -/
structure ARec where
  /-- SEQ (R472). -/
  seq : Nat := 0
  /-- CHANNEL (R472). -/
  channel : Nat := 0
  /-- the record (R472). -/
  bytes : List Byte := []
  deriving DecidableEq, Repr

/-- One audit entry (R464). -/
structure Audit where
  /-- the entry (R464). -/
  bytes : List Byte := []
  deriving DecidableEq, Repr

/-- A measurement running on a channel (R460, R470). -/
structure Meas where
  /-- 1 MEASURE 2 ZERO 3 TARE 4 TARE_CLEAR (R472). -/
  kind : Nat := 0
  /-- issuing partition (R469). -/
  part : Nat := 0
  /-- SAMPLES (R460). -/
  samples : Nat := 0
  /-- TAG of the command (R384). -/
  tag : Nat := 0
  /-- the die's time at its start (R460). -/
  startAt : Nat := 0
  /-- pulse count at its start (R460). -/
  startCount : Int := 0
  deriving DecidableEq, Repr

/-- A parameter change that waits for a measurement or for its commit (R463). -/
structure ParamWait where
  /-- PARAM_ID (R461). -/
  pid : Nat := 0
  /-- value (R461). -/
  value : Nat := 0
  /-- issuing partition (R469). -/
  part : Nat := 0
  /-- TAG of the command (R384). -/
  tag : Nat := 0
  deriving DecidableEq, Repr

/-- The assay island (chapter 17). -/
structure Assay where
  /-- assay die fitted (KTX7748-AG2, the variant that State.reset stands for; log 1) (R2, R3). -/
  fitted : Bool := true
  /-- VDDA_ASSAY present (R455). -/
  powered : Bool := false
  /-- STATE (R467). -/
  st : Nat := 0
  /-- POWER_COUNT (R455). -/
  powerCount : Nat := 0
  /-- EVENT_COUNTER (R463). -/
  eventCounter : Nat := 0
  /-- FW_VERSION (R466). -/
  fwVersion : Nat := 0
  /-- SEC_VERSION and the die's thermometer (R467, R476). -/
  secVersion : Nat := 0
  /-- firmware slots A and B (R454). -/
  slots : Tbl Slot := []
  /-- active firmware slot (R476). -/
  active : Nat := 0
  /-- PUBKEY (R467). -/
  pubkey : List Byte := []
  /-- KEY_CERT (R467). -/
  keyCert : List Byte := []
  /-- assay key hash in the die's own OTP (R476). -/
  keyHash : List Byte := []
  /-- DIE_ID (R467). -/
  dieId : Nat := 0
  /-- parameters by PARAM_ID (R461). -/
  params : Tbl Nat := []
  /-- seal asserted, as debounced (R462). -/
  sealLevel : Bool := false
  /-- audit log, oldest first (R464). -/
  audit : List Audit := []
  /-- record store, oldest first (R475). -/
  store : List ARec := []
  /-- SEQ of the next record (R472). -/
  nextSeq : Nat := 1
  /-- latest record of each channel (R467). -/
  latest : Tbl ARec := []
  /-- records committed since the last ASSAY_TRANSFER (R475). -/
  sinceXfer : Nat := 0
  /-- STORE_WARN raised (R475). -/
  storeWarned : Bool := false
  /-- measurement running on each channel (kind 0 none) (R470). -/
  running : Tbl Meas := []
  /-- parameter changes waiting (R463). -/
  waiting : List ParamWait := []
  /-- zero of a lead channel, CAL_ZERO when absent (R460). -/
  zero : Tbl Int := []
  /-- tare of a lead channel, 0 none (R460). -/
  tare : Tbl Int := []
  /-- a tare is active (R460). -/
  tareOn : Tbl Bool := []
  /-- EXC_FAULT of a bridge channel (R457). -/
  excFault : Tbl Bool := []
  /-- OVER raised for the present condition (R477). -/
  overUp : Tbl Bool := []
  /-- pulse count of channels 4 and 5 (R458). -/
  pulses : Tbl Int := []
  /-- pulse count kept in MRAM at the last record (R458). -/
  pulsesKept : Tbl Int := []
  /-- ASSAY_TIME of the pulses of the last second (R458). -/
  pulseTimes : Tbl (List Nat) := []
  /-- the die's time since its power-on (ASSAY_TIME in us) (R472). -/
  time : Nat := 0
  /-- last hub time received, TIME layout of R363 (R474). -/
  hubTime : Nat := 0
  /-- the die's time at which it was received (R474). -/
  hubAt : Option Nat := none
  /-- hub time has arrived within 10 ms, as HUB_TIME_LOSS clears it (R474). -/
  hubValid : Bool := false
  /-- self-tests failed in a row (R456). -/
  selfFails : Nat := 0
  /-- a START record waits for the self-test (R455). -/
  startDue : Bool := false
  /-- ASSAY_FAULT to raise once the die runs again, 0 none (R456). -/
  faultKind : Nat := 0
  /-- slot, FW_VERSION and security version to return to while new firmware has not passed its self-test (R476). -/
  trial : Option (Nat × Nat × Nat) := none
  /-- security version of the firmware in trial (R476). -/
  newSec : Nat := 0
  deriving DecidableEq, Repr

/-- The 4,096 KiB of firmware SRAM and the handoff rings (R20, R423). -/
structure FwSram where
  /-- service firmware image (bytes beyond the list read 0) (R423). -/
  image : List Byte := []
  /-- deputy patch (bytes beyond the list read 0) (R423, R426). -/
  patch : List Byte := []
  /-- deputy data, with partition tables and firewall shadow (an unlisted byte reads 0) (R423). -/
  deputyData : List Host.Cell := []
  /-- service data (an unlisted byte reads 0) (R423). -/
  serviceData : List Host.Cell := []
  /-- command handoff ring of pair 1 (an unlisted byte reads 0) (R423). -/
  handoff1 : List Host.Cell := []
  /-- command handoff ring of pair 2 (an unlisted byte reads 0) (R423). -/
  handoff2 : List Host.Cell := []
  deriving DecidableEq, Repr

/-- Memories and tables that belong to no single chapter (R20, R41, R45, R337). -/
structure Island where
  /-- space 4: the shared SRAM window (an unlisted byte reads 0) (R20, R340). -/
  sram : List Host.Cell := []
  /-- space 7: external memory (an unlisted byte reads 0) (R20, R41). -/
  ddr : List Host.Cell := []
  /-- regions of space 4 (Region.init: region 0 covers the window) (R340). -/
  regions : Tbl Region := []
  /-- owner of each resource, by handle bits [23:0]; partition 0 when absent (R45, R337). -/
  owners : Tbl Nat := []
  /-- read-only subscribers of each resource (R338). -/
  subs : Tbl (List Nat) := []
  /-- event sources (R360). -/
  sources : Tbl EvSrc := []
  /-- 64-bit words, by space and index, that hold an uncorrectable data error (R51, R381). -/
  badWords : List (Nat × Nat) := []
  /-- firmware SRAM and handoff rings (R20, R423). -/
  fw : FwSram := {}
  deriving DecidableEq, Repr

end Sys2Proof.Machine
end

