-- ==== Sys2Proof/Machine/State.lean ====
section
/-!
DEFINITION. The whole state of the block, the reasons a command can stop, and the state after reset.
-/
namespace Sys2Proof.Machine

/-- Something that has left the hub, in the order in which it left. -/
inductive Output where
  /-- A frame transmitted on a switch port (R128), and whether it was stomped (R85). -/
  | frame (port : Nat) (f : Frame) (stomped : Bool)
  /-- A reply on an attachment: PCIe completion or SPI status byte as R312 and R317 code it, EP bit, data (R311, R317). -/
  | reply (att : Nat) (status : Nat) (ep : Bool) (data : List Byte)
  /-- A memory write issued by a PCIe function: DMA delivery or MSI-X message (R303). -/
  | memWrite (fn : Nat) (addr : Nat) (data : List Byte)
  /-- A CAN frame sent on a channel's bus (R230). -/
  | can (ch : Nat) (f : CanFrame)
  /-- A drill, or its acknowledge, passed to the hub of node `node` for a twin set: tally and cycle (R215). -/
  | drillHandoff (node set tally n : Nat) (ack : Bool)
  /-- What the debug module answers: a bus error, or the bytes of a read (R425). -/
  | debug (err : Bool) (data : List Byte)
  deriving DecidableEq, Repr

/-- Why the machine stops with a fault. -/
inductive Fault where
  /-- Raised by a command that names a unit (port, pin, hewer, channel, attachment and so on) whose number the spec
  says does not exist; the hardware has no such wire, so stopping is safe. -/
  | noSuchUnit
  deriving DecidableEq, Repr

/-- Why a command is refused. -/
inductive Refusal where
  /-- Raised by the dispatcher for a row of the opcode table that has no meaning yet; safe, since nothing is claimed of it. -/
  | notModelled (mnemonic : String)
  deriving DecidableEq, Repr

/-- The state of the block. -/
structure State where
  /-- The ring node (chapter 02). -/
  ring : RingNode := {}
  /-- The switch core (chapter 03, 05). -/
  sw : Switch := {}
  /-- Tub queues 0 to 4,095 (R103), each at `Queue` defaults until changed. -/
  queues : Tbl Queue := []
  /-- The cell pool (R98 to R102). -/
  pool : Pool := {}
  /-- The time island (chapter 06). -/
  time : Time := {}
  /-- The cycle, output groups and twins (chapter 07). -/
  cycle : Cycle := {}
  /-- CAN channels (chapter 08). -/
  can : Can := {}
  /-- The crusher (chapter 09). -/
  crush : Crusher := {}
  /-- Hewers and field pins (chapter 10). -/
  field : FieldIo := {}
  /-- Attachments and the bridge (chapter 11). -/
  bridge : Bridge := {}
  /-- Partitions 0 to 15 (chapters 12, 13). -/
  parts : Tbl Partition := []
  /-- Fault handling (R374 to R380). -/
  faults : Faults := {}
  /-- Start-up, flash, OTP and update (chapter 18). -/
  boot : Boot := {}
  /-- The control complex (chapter 15). -/
  ctl : Ctl := {}
  /-- The power die (chapter 16). -/
  power : Power := {}
  /-- The assay island (chapter 17). -/
  assay : Assay := {}
  /-- Memories, ownership and event sources. -/
  island : Island := {}
  /-- The 64-bit counters of R97 by scope, index and place in the scope's counter table; an absent counter is 0. -/
  counters : Tbl Nat := []
  /-- The model's own: what has left the hub, oldest first. -/
  out : List Output := []
  /-- The model's own: how many free values have been drawn. -/
  fresh : Nat := 0
  /-- The model's own: commands that wait, first in, first out. -/
  pending : List Instr := []
  deriving DecidableEq, Repr

/-- The machine right after reset: every field at the value the spec gives for power-on, or the one log 1 names. -/
def State.reset : State := {}

end Sys2Proof.Machine
end

