-- ==== Sys2Proof/Machine/Bits.lean ====
section
/-!
DEFINITION. Bit fields, byte orders, sparse tables, byte memories and exact arithmetic that every family uses.
-/
namespace Sys2Proof.Machine

/-- Number of a Boolean. -/
def b2n (b : Bool) : Nat := if b then 1 else 0

/-- Bits `lo` to `lo + w - 1` of `v`. -/
def bitsAt (v lo w : Nat) : Nat := v / 2 ^ lo % 2 ^ w

/-- Bit `k` of `v`. -/
def bitAt (v k : Nat) : Bool := v / 2 ^ k % 2 == 1

/-- `v` with bit `k` set. -/
def orBit (v k : Nat) : Nat := if bitAt v k then v else v + 2 ^ k

/-- `v` with bit `k` cleared. -/
def clrBit (v k : Nat) : Nat := if bitAt v k then v - 2 ^ k else v

/-- `v` with bit `k` equal to `b`. -/
def putBit (v k : Nat) (b : Bool) : Nat := if b then orBit v k else clrBit v k

/-- Little-endian value of a byte list (R5). -/
def leNat : List Byte → Nat
  | [] => 0
  | b :: r => b.toNat + 256 * leNat r

/-- The `n` low bytes of `v`, least significant first (R5). -/
def leBytes : Nat → Nat → List Byte
  | 0, _ => []
  | n + 1, v => BitVec.ofNat 8 v :: leBytes n (v / 256)

/-- Big-endian value of a byte list (R6). -/
def beNat (l : List Byte) : Nat := l.foldl (fun a b => a * 256 + b.toNat) 0

/-- The `n` low bytes of `v`, most significant first (R6). -/
def beBytes (n v : Nat) : List Byte := (leBytes n v).reverse

/-- `n` zero bytes. -/
def zeros (n : Nat) : List Byte := List.replicate n 0

/-- Exactly `n` bytes: `l` cut or filled with zeros. -/
def fitBytes (n : Nat) (l : List Byte) : List Byte := l.take n ++ zeros (n - l.length)

/-- `n` bytes of `l` from offset `k`; bytes beyond the list are 0. -/
def bytesAt (l : List Byte) (k n : Nat) : List Byte := fitBytes n (l.drop k)

/-- `n`-byte little-endian field of `l` at offset `k`. -/
def leAt (l : List Byte) (k n : Nat) : Nat := leNat (bytesAt l k n)

/-- `n`-byte big-endian field of `l` at offset `k`. -/
def beAt (l : List Byte) (k n : Nat) : Nat := beNat (bytesAt l k n)

/-- `l` with `d` written at offset `k`; the list grows with zeros where needed. -/
def putBytes (l : List Byte) (k : Nat) (d : List Byte) : List Byte :=
  fitBytes k l ++ d ++ l.drop (k + d.length)

/-- A `w`-bit two's complement number. -/
def signedOf (w v : Nat) : Int := if v % 2 ^ w < 2 ^ (w - 1) then (v % 2 ^ w : Nat) else (v % 2 ^ w : Nat) - (2 ^ w : Nat)

/-- The `w` low bits of an integer. -/
def unsignedOf (w : Nat) (i : Int) : Nat := (i % (2 ^ w : Nat)).toNat

/-- Quotient rounded to the nearest integer, ties to even (R255). -/
def roundHalfEven (n : Int) (d : Nat) : Int :=
  let q := n / (d : Int)
  let r := n % (d : Int)
  if 2 * r < d then q else if 2 * r > d then q + 1 else if q % 2 = 0 then q else q + 1

/-- `v` held between `lo` and `hi`. -/
def clampInt (lo hi v : Int) : Int := if v < lo then lo else if v > hi then hi else v

/-- `v` saturated at `m`. -/
def satNat (m v : Nat) : Nat := if v > m then m else v

/-- One bit step of the reflected IEEE 802.3 CRC-32 (R209). -/
def crcBit (c : Nat) : Nat := if c % 2 = 1 then (c / 2) ^^^ 0xEDB88320 else c / 2

/-- One byte step of the CRC-32. -/
def crcByte (c : Nat) (b : Byte) : Nat :=
  crcBit (crcBit (crcBit (crcBit (crcBit (crcBit (crcBit (crcBit (c ^^^ b.toNat))))))))

/-- CRC-32: IEEE 802.3, reflected, initial value and final XOR all ones (R209). -/
def crc32 (l : List Byte) : Nat := (l.foldl crcByte 0xFFFFFFFF) ^^^ 0xFFFFFFFF

/-- Entry `k` of a table. -/
def tblGet {α : Type} : Tbl α → Nat → Option α
  | [], _ => none
  | (j, v) :: r, k => if j = k then some v else tblGet r k

/-- Entry `k` of a table, or `d`. -/
def tblGetD {α : Type} (t : Tbl α) (k : Nat) (d : α) : α := (tblGet t k).getD d

/-- The table with entry `k` written; numbers stay strictly rising. -/
def tblSet {α : Type} : Tbl α → Nat → α → Tbl α
  | [], k, v => [(k, v)]
  | (j, w) :: r, k, v =>
    if k < j then (k, v) :: (j, w) :: r else if k = j then (k, v) :: r else (j, w) :: tblSet r k v

/-- The table without entry `k`. -/
def tblDel {α : Type} : Tbl α → Nat → Tbl α
  | [], _ => []
  | (j, w) :: r, k => if k = j then r else (j, w) :: tblDel r k

/-- Element `k` of a list replaced. -/
def listSet {α : Type} : List α → Nat → α → List α
  | [], _, _ => []
  | _ :: r, 0, v => v :: r
  | a :: r, k + 1, v => a :: listSet r k v

/-- The byte at an address; an unlisted address reads 0 (log 3). -/
def memGet : List Host.Cell → Nat → Byte
  | [], _ => 0
  | (j, v) :: r, a => if j = a then v else memGet r a

/-- One byte written: the canonical form is kept, so a written 0 is not listed. -/
def memSet : List Host.Cell → Nat → Byte → List Host.Cell
  | [], a, v => if v = 0 then [] else [(a, v)]
  | (j, w) :: r, a, v =>
    if a < j then (if v = 0 then (j, w) :: r else (a, v) :: (j, w) :: r)
    else if a = j then (if v = 0 then r else (a, v) :: r)
    else (j, w) :: memSet r a v

/-- `n` bytes from address `a` upward. -/
def memRead (m : List Host.Cell) (a : Nat) : Nat → List Byte
  | 0 => []
  | n + 1 => memGet m a :: memRead m (a + 1) n

/-- Bytes written from address `a` upward. -/
def memWrite (m : List Host.Cell) (a : Nat) : List Byte → List Host.Cell
  | [] => m
  | b :: r => memWrite (memSet m a b) (a + 1) r

/-- Addresses rise strictly from above `lo` and no listed byte is 0. -/
def memWfFrom (lo : Nat) : List Host.Cell → Bool
  | [] => true
  | (j, v) :: r => decide (lo ≤ j) && decide (v ≠ 0) && memWfFrom (j + 1) r

/-- The canonical form of a byte memory: addresses strictly rising, no entry equal to what an unlisted address reads as. -/
def Memory.wf (m : List Host.Cell) : Bool := memWfFrom 0 m

/-- The table's numbers rise strictly from `lo`. -/
def tblWfFrom {α : Type} (lo : Nat) : Tbl α → Bool
  | [] => true
  | (j, _) :: r => decide (lo ≤ j) && tblWfFrom (j + 1) r

/-- Sum of a list of numbers. -/
def sumNat (l : List Nat) : Nat := l.foldl (· + ·) 0

/-- Insert into a list kept in rising order of a key; equal keys keep their order of entry. -/
def insertBy {α : Type} (key : α → Nat) (x : α) : List α → List α
  | [] => [x]
  | y :: r => if key x < key y then x :: y :: r else y :: insertBy key x r

/-- Run a state operation over a list, from its front. -/
def forEach {α σ : Type} (l : List α) (s : σ) (f : α → σ → σ) : σ := l.foldl (fun s a => f a s) s

/-- Units 0 to `n - 1` whose bit is set in `m`. -/
def maskList (n m : Nat) : List Nat := (List.range n).filter (bitAt m)

/-- Mask with the bits of the listed units set. -/
def listMask (l : List Nat) : Nat := l.foldl orBit 0

end Sys2Proof.Machine
end

