-- ==== Sys2Proof/Machine/Counters.lean ====
section
/-!
DEFINITION. The 64-bit counters (R97): their scopes and the place of each in its scope's counter table, in the order in which
COUNTERS_READ writes them (R410).
-/
namespace Sys2Proof.Machine

/-- A counter: its scope and its place in the scope's table. -/
structure CtrId where
  /-- Scope. -/
  kind : Nat
  /-- Place in the scope's counter table. -/
  pos : Nat
  deriving DecidableEq, Repr

/-- DROP_POOL of the hub (R51 to R55, R97, R188, R194, R195, R200, R329, R364, R381, R425). -/
def cDropPool : CtrId := ⟨0, 0⟩
/-- RESERVE_USED of the hub (R51 to R55, R97, R188, R194, R195, R200, R329, R364, R381, R425). -/
def cReserveUsed : CtrId := ⟨0, 1⟩
/-- FDB_LEARNED of the hub (R51 to R55, R97, R188, R194, R195, R200, R329, R364, R381, R425). -/
def cFdbLearned : CtrId := ⟨0, 2⟩
/-- FDB_FULL of the hub (R51 to R55, R97, R188, R194, R195, R200, R329, R364, R381, R425). -/
def cFdbFull : CtrId := ⟨0, 3⟩
/-- DD_EVICT of the hub (R51 to R55, R97, R188, R194, R195, R200, R329, R364, R381, R425). -/
def cDdEvict : CtrId := ⟨0, 4⟩
/-- PROXY_FULL of the hub (R51 to R55, R97, R188, R194, R195, R200, R329, R364, R381, R425). -/
def cProxyFull : CtrId := ⟨0, 5⟩
/-- GRT_BCAST_REFUSED of the hub (R51 to R55, R97, R188, R194, R195, R200, R329, R364, R381, R425). -/
def cGrtBcastRefused : CtrId := ⟨0, 6⟩
/-- GRT_POSTED_FAIL of the hub (R51 to R55, R97, R188, R194, R195, R200, R329, R364, R381, R425). -/
def cGrtPostedFail : CtrId := ⟨0, 7⟩
/-- GRT_LATE_CPL of the hub (R51 to R55, R97, R188, R194, R195, R200, R329, R364, R381, R425). -/
def cGrtLateCpl : CtrId := ⟨0, 8⟩
/-- GRT_UNEXP_CPL of the hub (R51 to R55, R97, R188, R194, R195, R200, R329, R364, R381, R425). -/
def cGrtUnexpCpl : CtrId := ⟨0, 9⟩
/-- GRT_BAD_VER of the hub (R51 to R55, R97, R188, R194, R195, R200, R329, R364, R381, R425). -/
def cGrtBadVer : CtrId := ⟨0, 10⟩
/-- GRT_BAD_TYPE of the hub (R51 to R55, R97, R188, R194, R195, R200, R329, R364, R381, R425). -/
def cGrtBadType : CtrId := ⟨0, 11⟩
/-- GRT_MALFORMED of the hub (R51 to R55, R97, R188, R194, R195, R200, R329, R364, R381, R425). -/
def cGrtMalformed : CtrId := ⟨0, 12⟩
/-- GRT_RESET_REFUSED of the hub (R51 to R55, R97, R188, R194, R195, R200, R329, R364, R381, R425). -/
def cGrtResetRefused : CtrId := ⟨0, 13⟩
/-- TIME_BAD_WRITE of the hub (R51 to R55, R97, R188, R194, R195, R200, R329, R364, R381, R425). -/
def cTimeBadWrite : CtrId := ⟨0, 14⟩
/-- PPS_IN_BAD of the hub (R51 to R55, R97, R188, R194, R195, R200, R329, R364, R381, R425). -/
def cPpsInBad : CtrId := ⟨0, 15⟩
/-- CYCLES_SKIPPED of the hub (R51 to R55, R97, R188, R194, R195, R200, R329, R364, R381, R425). -/
def cCyclesSkipped : CtrId := ⟨0, 16⟩
/-- IMAGE_NOT_BUILT of the hub (R51 to R55, R97, R188, R194, R195, R200, R329, R364, R381, R425). -/
def cImageNotBuilt : CtrId := ⟨0, 17⟩
/-- IMAGE_OFF_CYCLE of the hub (R51 to R55, R97, R188, R194, R195, R200, R329, R364, R381, R425). -/
def cImageOffCycle : CtrId := ⟨0, 18⟩
/-- STAGE_FULL of the hub (R51 to R55, R97, R188, R194, R195, R200, R329, R364, R381, R425). -/
def cStageFull : CtrId := ⟨0, 19⟩
/-- HOST_UNKNOWN of the hub (R51 to R55, R97, R188, R194, R195, R200, R329, R364, R381, R425). -/
def cHostUnknown : CtrId := ⟨0, 20⟩
/-- IN_P_FULL of the hub (R51 to R55, R97, R188, R194, R195, R200, R329, R364, R381, R425). -/
def cInPFull : CtrId := ⟨0, 21⟩
/-- IN_NP_FULL of the hub (R51 to R55, R97, R188, R194, R195, R200, R329, R364, R381, R425). -/
def cInNpFull : CtrId := ⟨0, 22⟩
/-- LOCK_BROKEN_COUNT of the hub (R51 to R55, R97, R188, R194, R195, R200, R329, R364, R381, R425). -/
def cLockBrokenCount : CtrId := ⟨0, 23⟩
/-- LOCK_WRITE_LOST of the hub (R51 to R55, R97, R188, R194, R195, R200, R329, R364, R381, R425). -/
def cLockWriteLost : CtrId := ⟨0, 24⟩
/-- HUB_EVQ_LOST of the hub (R51 to R55, R97, R188, R194, R195, R200, R329, R364, R381, R425). -/
def cHubEvqLost : CtrId := ⟨0, 25⟩
/-- SRAM_CE of the hub (R51 to R55, R97, R188, R194, R195, R200, R329, R364, R381, R425). -/
def cSramCe : CtrId := ⟨0, 26⟩
/-- DDR_CE of the hub (R51 to R55, R97, R188, R194, R195, R200, R329, R364, R381, R425). -/
def cDdrCe : CtrId := ⟨0, 27⟩
/-- DEBUG_DENIED of the hub (R51 to R55, R97, R188, R194, R195, R200, R329, R364, R381, R425). -/
def cDebugDenied : CtrId := ⟨0, 28⟩
/-- HANDSHAKE_DISCARD of the hub (R51 to R55, R97, R188, R194, R195, R200, R329, R364, R381, R425). -/
def cHandshakeDiscard : CtrId := ⟨0, 29⟩
/-- Counters of the hub (R51 to R55, R97, R188, R194, R195, R200, R329, R364, R381, R425). -/
def nHubCtrs : Nat := 30

/-- RX_FRAMES of a switch port (R97). -/
def cRxFrames : CtrId := ⟨1, 0⟩
/-- RX_BYTES of a switch port (R97). -/
def cRxBytes : CtrId := ⟨1, 1⟩
/-- RX_FCS_ERR of a switch port (R97). -/
def cRxFcsErr : CtrId := ⟨1, 2⟩
/-- RX_STOMPED of a switch port (R97). -/
def cRxStomped : CtrId := ⟨1, 3⟩
/-- RX_PHY_ERR of a switch port (R97). -/
def cRxPhyErr : CtrId := ⟨1, 4⟩
/-- RX_RUNT of a switch port (R97). -/
def cRxRunt : CtrId := ⟨1, 5⟩
/-- RX_OVERSIZE of a switch port (R97). -/
def cRxOversize : CtrId := ⟨1, 6⟩
/-- MACSEC_DROP of a switch port (R97). -/
def cMacsecDrop : CtrId := ⟨1, 7⟩
/-- RETURNED of a switch port (R97). -/
def cReturned : CtrId := ⟨1, 8⟩
/-- DUP_DISCARD of a switch port (R97). -/
def cDupDiscard : CtrId := ⟨1, 9⟩
/-- NO_TAG of a switch port (R97). -/
def cNoTag : CtrId := ⟨1, 10⟩
/-- DD_OLD of a switch port (R97). -/
def cDdOld : CtrId := ⟨1, 11⟩
/-- DROP_ING_LIMIT of a switch port (R97). -/
def cDropIngLimit : CtrId := ⟨1, 12⟩
/-- DROP_NO_ROUTE of a switch port (R97). -/
def cDropNoRoute : CtrId := ⟨1, 13⟩
/-- DROP_FILTER of a switch port (R97). -/
def cDropFilter : CtrId := ⟨1, 14⟩
/-- TX_FRAMES of a switch port (R97). -/
def cTxFrames : CtrId := ⟨1, 15⟩
/-- TX_BYTES of a switch port (R97). -/
def cTxBytes : CtrId := ⟨1, 16⟩
/-- TX_CUT of a switch port (R97). -/
def cTxCut : CtrId := ⟨1, 17⟩
/-- TX_STORED of a switch port (R97). -/
def cTxStored : CtrId := ⟨1, 18⟩
/-- STOMP_ORIGIN of a switch port (R97). -/
def cStompOrigin : CtrId := ⟨1, 19⟩
/-- STOMP_PROPAGATED of a switch port (R97). -/
def cStompPropagated : CtrId := ⟨1, 20⟩
/-- PTP_NOT_ENABLED of a switch port (R152). -/
def cPtpNotEnabled : CtrId := ⟨1, 21⟩
/-- Counters of a switch port that the table of R97 lists; PTP_NOT_ENABLED (R152) stands in no table. -/
def nPortCtrs : Nat := 21

/-- ENQ_FRAMES of a port and class (index 8p + c) (R97). -/
def cEnqFrames : CtrId := ⟨2, 0⟩
/-- DROP_EGR_LIMIT of a port and class (index 8p + c) (R97). -/
def cDropEgrLimit : CtrId := ⟨2, 1⟩
/-- DROP_AGE of a port and class (index 8p + c) (R97). -/
def cDropAge : CtrId := ⟨2, 2⟩
/-- DROP_LATE of a port and class (index 8p + c) (R97). -/
def cDropLate : CtrId := ⟨2, 3⟩
/-- Counters of a port and class (index 8p + c) (R97). -/
def nClsCtrs : Nat := 4

/-- DROP_QUEUE_LIMIT of a tub queue (R97, R122). -/
def cDropQueueLimit : CtrId := ⟨3, 0⟩
/-- ENQ_PACKETS of a tub queue (R97, R122). -/
def cEnqPackets : CtrId := ⟨3, 1⟩
/-- ENQ_BYTES of a tub queue (R97, R122). -/
def cEnqBytes : CtrId := ⟨3, 2⟩
/-- DEQ_PACKETS of a tub queue (R97, R122). -/
def cDeqPackets : CtrId := ⟨3, 3⟩
/-- ABORTS of a tub queue (R97, R122). -/
def cAborts : CtrId := ⟨3, 4⟩
/-- OVERSIZE of a tub queue (R97, R122). -/
def cOversize : CtrId := ⟨3, 5⟩
/-- BAD_TRIM of a tub queue (R97, R122). -/
def cBadTrim : CtrId := ⟨3, 6⟩
/-- EMPTY_COMMIT of a tub queue (R97, R122). -/
def cEmptyCommit : CtrId := ⟨3, 7⟩
/-- FLUSH_DROP of a tub queue (R97, R122). -/
def cFlushDrop : CtrId := ⟨3, 8⟩
/-- UNDERRUNS of a tub queue (R97, R122). -/
def cUnderruns : CtrId := ⟨3, 9⟩
/-- ACK_STALE of a tub queue (R97, R122). -/
def cAckStale : CtrId := ⟨3, 10⟩
/-- PROD_CONFLICT of a tub queue (R97, R122). -/
def cProdConflict : CtrId := ⟨3, 11⟩
/-- MODE_MISUSE of a tub queue (R97, R122). -/
def cModeMisuse : CtrId := ⟨3, 12⟩
/-- PROD_DISABLED of a tub queue (R97, R122). -/
def cProdDisabled : CtrId := ⟨3, 13⟩
/-- EXT_BW_DROP of a tub queue (R97, R122). -/
def cExtBwDrop : CtrId := ⟨3, 14⟩
/-- DMA_BAD_HEAD of a tub queue (R97, R122). -/
def cDmaBadHead : CtrId := ⟨3, 15⟩
/-- DMA_OVERSIZE of a tub queue (R97, R122). -/
def cDmaOversize : CtrId := ⟨3, 16⟩
/-- POISON_READS of a tub queue (R97, R122). -/
def cPoisonReads : CtrId := ⟨3, 17⟩
/-- Counters of a tub queue (R97, R122). -/
def nQCtrs : Nat := 18

/-- CANARY_TAKEN of a canary rule (R97). -/
def cCanaryTaken : CtrId := ⟨4, 0⟩
/-- CANARY_DROP of a canary rule (R97). -/
def cCanaryDrop : CtrId := ⟨4, 1⟩
/-- Counters of a canary rule (R97). -/
def nCanaryCtrs : Nat := 2

/-- STREAM_FRAMES of a stream entry (R97). -/
def cStreamFrames : CtrId := ⟨5, 0⟩
/-- POLICE_DROP of a stream entry (R97). -/
def cPoliceDrop : CtrId := ⟨5, 1⟩
/-- SDU_DROP of a stream entry (R97). -/
def cSduDrop : CtrId := ⟨5, 2⟩
/-- Counters of a stream entry (R97). -/
def nStreamCtrs : Nat := 3

/-- APPLIED of an output group (R204). -/
def cApplied : CtrId := ⟨6, 0⟩
/-- HELD_CYCLES of an output group (R204). -/
def cHeldCycles : CtrId := ⟨6, 1⟩
/-- TAKEOVERS of an output group (R204). -/
def cTakeovers : CtrId := ⟨6, 2⟩
/-- TALLY_REFUSED of an output group (R204). -/
def cTallyRefused : CtrId := ⟨6, 3⟩
/-- TALLY_LOW of an output group (R204). -/
def cTallyLow : CtrId := ⟨6, 4⟩
/-- LATE_DATA of an output group (R204). -/
def cLateData : CtrId := ⟨6, 5⟩
/-- BAD_CYCLE of an output group (R204). -/
def cBadCycle : CtrId := ⟨6, 6⟩
/-- GROUP_REFUSED of an output group (R204). -/
def cGroupRefused : CtrId := ⟨6, 7⟩
/-- BAD_LEN of an output group (R204). -/
def cBadLen : CtrId := ⟨6, 8⟩
/-- DIVERGE_CYCLES of an output group (R204). -/
def cDivergeCycles : CtrId := ⟨6, 9⟩
/-- SHADOW_MISSING of an output group (R204). -/
def cShadowMissing : CtrId := ⟨6, 10⟩
/-- ITEM_SKIPPED of an output group (R204). -/
def cItemSkipped : CtrId := ⟨6, 11⟩
/-- Counters of an output group (R204). -/
def nGroupCtrs : Nat := 12

/-- CAN_RX_FRAMES of a CAN channel (R238, R246). -/
def cCanRxFrames : CtrId := ⟨7, 0⟩
/-- CAN_RX_BYTES of a CAN channel (R238, R246). -/
def cCanRxBytes : CtrId := ⟨7, 1⟩
/-- ERR_STUFF of a CAN channel (R238, R246). -/
def cErrStuff : CtrId := ⟨7, 2⟩
/-- ERR_FORM of a CAN channel (R238, R246). -/
def cErrForm : CtrId := ⟨7, 3⟩
/-- ERR_ACK of a CAN channel (R238, R246). -/
def cErrAck : CtrId := ⟨7, 4⟩
/-- ERR_BIT1 of a CAN channel (R238, R246). -/
def cErrBit1 : CtrId := ⟨7, 5⟩
/-- ERR_BIT0 of a CAN channel (R238, R246). -/
def cErrBit0 : CtrId := ⟨7, 6⟩
/-- ERR_CRC of a CAN channel (R238, R246). -/
def cErrCrc : CtrId := ⟨7, 7⟩
/-- PEX_COUNT of a CAN channel (R238, R246). -/
def cPexCount : CtrId := ⟨7, 8⟩
/-- CAN_TX_FRAMES of a CAN channel (R238, R246). -/
def cCanTxFrames : CtrId := ⟨7, 9⟩
/-- TX_ARB_LOST of a CAN channel (R238, R246). -/
def cTxArbLost : CtrId := ⟨7, 10⟩
/-- TX_RETRIES of a CAN channel (R238, R246). -/
def cTxRetries : CtrId := ⟨7, 11⟩
/-- BUS_OFF_COUNT of a CAN channel (R238, R246). -/
def cBusOffCount : CtrId := ⟨7, 12⟩
/-- AGE_DROP of a CAN channel (R238, R246). -/
def cAgeDrop : CtrId := ⟨7, 13⟩
/-- TX_LATE of a CAN channel (R238, R246). -/
def cTxLate : CtrId := ⟨7, 14⟩
/-- TX_BAD_DESC of a CAN channel (R238, R246). -/
def cTxBadDesc : CtrId := ⟨7, 15⟩
/-- CRUSH_REPLACED of a CAN channel (R238, R246). -/
def cCrushReplaced : CtrId := ⟨7, 16⟩
/-- RX_LOST_RX of a CAN channel (R238, R246). -/
def cRxLostRx : CtrId := ⟨7, 17⟩
/-- RX_LOST_S0 of a CAN channel (R238, R246). -/
def cRxLostS0 : CtrId := ⟨7, 18⟩
/-- RX_LOST_S1 of a CAN channel (R238, R246). -/
def cRxLostS1 : CtrId := ⟨7, 19⟩
/-- RX_LOST_S2 of a CAN channel (R238, R246). -/
def cRxLostS2 : CtrId := ⟨7, 20⟩
/-- RX_LOST_S3 of a CAN channel (R238, R246). -/
def cRxLostS3 : CtrId := ⟨7, 21⟩
/-- RX_LOST_TP of a CAN channel (R238, R246). -/
def cRxLostTp : CtrId := ⟨7, 22⟩
/-- TP_DONE of a CAN channel (R238, R246). -/
def cTpDone : CtrId := ⟨7, 23⟩
/-- TP_ABORT_CONN of a CAN channel (R238, R246). -/
def cTpAbortConn : CtrId := ⟨7, 24⟩
/-- TP_ABORT_TIMEOUT of a CAN channel (R238, R246). -/
def cTpAbortTimeout : CtrId := ⟨7, 25⟩
/-- TP_ABORT_SEQ of a CAN channel (R238, R246). -/
def cTpAbortSeq : CtrId := ⟨7, 26⟩
/-- TP_ABORT_NEW of a CAN channel (R238, R246). -/
def cTpAbortNew : CtrId := ⟨7, 27⟩
/-- TP_ABORT_SIZE of a CAN channel (R238, R246). -/
def cTpAbortSize : CtrId := ⟨7, 28⟩
/-- TP_ABORT_REFUSED of a CAN channel (R238, R246). -/
def cTpAbortRefused : CtrId := ⟨7, 29⟩
/-- TP_ABORT_OFF of a CAN channel (R238, R246). -/
def cTpAbortOff : CtrId := ⟨7, 30⟩
/-- TP_NO_SESSION of a CAN channel (R238, R246). -/
def cTpNoSession : CtrId := ⟨7, 31⟩
/-- TP_OVERSIZE of a CAN channel (R238, R246). -/
def cTpOversize : CtrId := ⟨7, 32⟩
/-- TUNNEL_SENT of a CAN channel (R238, R246). -/
def cTunnelSent : CtrId := ⟨7, 33⟩
/-- TUNNEL_REFUSED of a CAN channel (R238, R246). -/
def cTunnelRefused : CtrId := ⟨7, 34⟩
/-- TUNNEL_TOO_BIG of a CAN channel (R238, R246). -/
def cTunnelTooBig : CtrId := ⟨7, 35⟩
/-- TUNNEL_DROP of a CAN channel (R238, R246). -/
def cTunnelDrop : CtrId := ⟨7, 36⟩
/-- TUNNEL_LATE of a CAN channel (R238, R246). -/
def cTunnelLate : CtrId := ⟨7, 37⟩
/-- TUNNEL_LOSS of a CAN channel (R238, R246). -/
def cTunnelLoss : CtrId := ⟨7, 38⟩
/-- Counters of a CAN channel (R238, R246). -/
def nCanCtrs : Nat := 39

/-- DECODES of a signal map (R265). -/
def cDecodes : CtrId := ⟨9, 0⟩
/-- ENCODES of a signal map (R265). -/
def cEncodes : CtrId := ⟨9, 1⟩
/-- SHORT_MSG of a signal map (R265). -/
def cShortMsg : CtrId := ⟨9, 2⟩
/-- MAP_OVERRUN of a signal map (R265). -/
def cMapOverrun : CtrId := ⟨9, 3⟩
/-- CRUSH_LATE of a signal map (R265). -/
def cCrushLate : CtrId := ⟨9, 4⟩
/-- CRUSH_LATCH_LATE of a signal map (R265). -/
def cCrushLatchLate : CtrId := ⟨9, 5⟩
/-- Counters of a signal map (R265). -/
def nMapCtrs : Nat := 6

/-- EXEC_TICKS of a hewer (R300). -/
def cExecTicks : CtrId := ⟨10, 0⟩
/-- DELAY_TICKS of a hewer (R300). -/
def cDelayTicks : CtrId := ⟨10, 1⟩
/-- STALL_PUSH of a hewer (R300). -/
def cStallPush : CtrId := ⟨10, 2⟩
/-- STALL_PULL of a hewer (R300). -/
def cStallPull : CtrId := ⟨10, 3⟩
/-- STALL_WAIT of a hewer (R300). -/
def cStallWait : CtrId := ⟨10, 4⟩
/-- PUSH_DROP of a hewer (R300). -/
def cPushDrop : CtrId := ⟨10, 5⟩
/-- RX_REFUSED of a hewer (R300). -/
def cRxRefused : CtrId := ⟨10, 6⟩
/-- HEWER_ABORTS of a hewer (R300). -/
def cHewerAborts : CtrId := ⟨10, 7⟩
/-- TRIG_OVERRUN of a hewer (R300). -/
def cTrigOverrun : CtrId := ⟨10, 8⟩
/-- REG_OVERRIDE of a hewer (R300). -/
def cRegOverride : CtrId := ⟨10, 9⟩
/-- Counters of a hewer (R300). -/
def nHewerCtrs : Nat := 10

/-- PIN_CONFLICT of a field pin (R300). -/
def cPinConflict : CtrId := ⟨11, 0⟩
/-- TIMED_LATE of a field pin (R300). -/
def cTimedLate : CtrId := ⟨11, 1⟩
/-- Counters of a field pin (R300). -/
def nPinCtrs : Nat := 2

/-- ATT_READS of an attachment (R329). -/
def cAttReads : CtrId := ⟨12, 0⟩
/-- ATT_WRITES of an attachment (R329). -/
def cAttWrites : CtrId := ⟨12, 1⟩
/-- ATT_ATOMICS of an attachment (R329). -/
def cAttAtomics : CtrId := ⟨12, 2⟩
/-- LOCK_RETRIES of an attachment (R329). -/
def cLockRetries : CtrId := ⟨12, 3⟩
/-- POP_RECOVERED of an attachment (R329). -/
def cPopRecovered : CtrId := ⟨12, 4⟩
/-- POP_BLOCKED of an attachment (R329). -/
def cPopBlocked : CtrId := ⟨12, 5⟩
/-- RCV_OVERWRITE of an attachment (R329). -/
def cRcvOverwrite : CtrId := ⟨12, 6⟩
/-- SPI_SHORT of an attachment (R329). -/
def cSpiShort : CtrId := ⟨12, 7⟩
/-- SPI_POSTED_FAIL of an attachment (R329). -/
def cSpiPostedFail : CtrId := ⟨12, 8⟩
/-- HOST_TAG_FULL of an attachment (R329). -/
def cHostTagFull : CtrId := ⟨12, 9⟩
/-- HOST_PROXY_TIMEOUT of an attachment (R329). -/
def cHostProxyTimeout : CtrId := ⟨12, 10⟩
/-- Counters of an attachment (R329). -/
def nAttCtrs : Nat := 11

/-- TRIPS_BREAKER of a power branch (R452). -/
def cTripsBreaker : CtrId := ⟨13, 0⟩
/-- TRIPS_SHORT of a power branch (R452). -/
def cTripsShort : CtrId := ⟨13, 1⟩
/-- TRIPS_THERMAL of a power branch (R452). -/
def cTripsThermal : CtrId := ⟨13, 2⟩
/-- RETRIES_MADE of a power branch (R452). -/
def cRetriesMade : CtrId := ⟨13, 3⟩
/-- STARTS of a power branch (R452). -/
def cStarts : CtrId := ⟨13, 4⟩
/-- SUPPLY_HOLDS of a power branch (R452). -/
def cSupplyHolds : CtrId := ⟨13, 5⟩
/-- Counters of a power branch (R452). -/
def nBranchCtrs : Nat := 6

/-- CAPT_LOST of a capture unit (R181). -/
def cCaptLost : CtrId := ⟨14, 0⟩
/-- Counters of a capture unit (R181). -/
def nCaptCtrs : Nat := 1

/-- DOMAIN_STEPS of a time domain (R183). -/
def cDomainSteps : CtrId := ⟨15, 0⟩
/-- Counters of a time domain (R183). -/
def nDomCtrs : Nat := 1

/-- EVQ_LOST of a partition (R349, R366, R367). -/
def cEvqLost : CtrId := ⟨16, 0⟩
/-- EVQ_BAD_WRITE of a partition (R349, R366, R367). -/
def cEvqBadWrite : CtrId := ⟨16, 1⟩
/-- MBX_BAD_WRITE of a partition (R349, R366, R367). -/
def cMbxBadWrite : CtrId := ⟨16, 2⟩
/-- MBX_BAD_DOORBELL of a partition (R349, R366, R367). -/
def cMbxBadDoorbell : CtrId := ⟨16, 3⟩
/-- Counters of a partition (R349, R366, R367). -/
def nPartCtrs : Nat := 4

/-- SAT of a signal or field of a map (index 2,048 map + signal, or 2,048 map + 256 + 64 template + field) (R265). -/
def cSat : CtrId := ⟨17, 0⟩
/-- Counters of a signal or field of a map (index 2,048 map + signal, or 2,048 map + 256 + 64 template + field) (R265). -/
def nMapSatCtrs : Nat := 1

/-- EMITTED of a template of a map (index 16 map + template) (R265). -/
def cEmitted : CtrId := ⟨18, 0⟩
/-- TPL_LATE of a template of a map (index 16 map + template) (R265). -/
def cTplLate : CtrId := ⟨18, 1⟩
/-- Counters of a template of a map (index 16 map + template) (R265). -/
def nMapTplCtrs : Nat := 2

/-- FAULTS of a fault code (R374). -/
def cFaults : CtrId := ⟨19, 0⟩
/-- Counters of a fault code (R374). -/
def nFaultCtrs : Nat := 1

/-- Key of a counter in `State.counters`. -/
def ctrKey (c : CtrId) (i : Nat) : Nat := (c.kind * 4294967296 + i) * 64 + c.pos

end Sys2Proof.Machine
end

