-- ==== Sys2Proof/Machine/Package.lean ====
section
/-!
DEFINITION. The package: what stands at each ball, the supplies, and the figures of chapter 19 that name a number (R505 to R517, R519,
R522 to R524, R532, R533, R535, R537, R538).
-/
namespace Sys2Proof.Machine

/-- Class of a ball (R515). -/
inductive BallClass where
  | signal | supply | ground | nc
  deriving DecidableEq, Repr

/-- What a ball carries: its class, the net's name and the number that the name holds, 0 where it holds none. -/
structure Ball where
  /-- Class. -/
  cls : BallClass
  /-- Name without its number. -/
  net : String
  /-- Number in the name. -/
  n : Nat := 0
  deriving DecidableEq, Repr

/-- A signal ball. -/
def Ball.sig (net : String) (n : Nat := 0) : Ball := { cls := .signal, net := net, n := n }
/-- A supply ball. -/
def Ball.pwr (net : String) (n : Nat := 0) : Ball := { cls := .supply, net := net, n := n }
/-- A ground ball. -/
def Ball.gnd (net : String) : Ball := { cls := .ground, net := net }
/-- VSS. -/
def Ball.vss : Ball := Ball.gnd "VSS"
/-- A ball without connection. -/
def Ball.none : Ball := { cls := .nc, net := "NC" }

/-- The letters of the 34 rows, from the A1 corner (R505). -/
def rowNames : List String :=
  ["A", "B", "C", "D", "E", "F", "G", "H", "J", "K", "L", "M", "N", "P", "T", "U", "V", "W", "Y", "AA"] ++
  ["AB", "AC", "AD", "AE", "AF", "AG", "AH", "AJ", "AK", "AL", "AM", "AN", "AP", "AT"]

/-- Field strips: pins and bank supplies; `r` counts the rows from the edge, `south` banks 8 to 15 (R507). -/
def fieldBall (south : Bool) (r c : Nat) : Ball :=
  if c = 1 ∨ c = 34 then .vss
  else
    let b := (c - 2) / 4 + (if south then 8 else 0)
    let k := (c - 2) % 4
    if r < 4 then .sig "FP" (16 * b + 4 * r + k)
    else if k = 1 then .vss
    else if k = 3 then .sig "BANK_PULL" b
    else .pwr "VIO_BANK" b

/-- West strip: CAN channel `k` (R508). -/
def canBall (k c : Nat) : Ball :=
  if c = 1 then .sig "CAN_TXD" k
  else if c = 2 then .sig "CAN_RXD" k
  else if c = 3 then .sig "CAN_MODE" k
  else if c = 4 ∧ k % 2 = 0 then .pwr "VIO_CAN"
  else .vss

/-- East strip: row `r` of the block of power branch `b`, columns 30 to 34 (R509). -/
def branchBall (b r c : Nat) : Ball :=
  let row : List Ball :=
    if r = 0 then [.pwr "VDD_PWR", .none, .sig "PB_VIN" b, .sig "PB_SHP" b, .sig "PB_SHN" b]
    else if r = 1 then [.gnd "PGND", .none, .sig "PB_GATEA" b, .sig "PB_SRC" b, .sig "PB_GATEB" b]
    else [.gnd "PGND", .sig "PB_NTC" b, .sig "PB_BGND" b, .none, .sig "PB_VOUT" b]
  row.getD (c - 30) .none

/-- Ethernet band (R510). -/
def ethBall (row c : Nat) : Ball :=
  if row = 6 then
    if c < 22 then .sig (if c % 2 = 0 then "T1S_P" else "T1S_N") ((c - 6) / 2)
    else .sig (if c % 2 = 0 then "SPUR_P" else "SPUR_N") ((c - 22) / 2)
  else if row = 7 then .vss
  else if row = 8 then
    if c < 14 then
      (([.sig "RINGW_P", .sig "RINGW_N", .vss, .vss, .sig "RINGE_P", .sig "RINGE_N", .vss, .sig "PHY_REXT"] : List Ball).getD (c - 6) .vss)
    else if c % 2 = 0 then .pwr "VDD_PHY18" else .vss
  else if c % 2 = 0 then .pwr "VDD_PHY09" else .vss

/-- PCIe band: row `r` of the block of lane `l` (R511). -/
def pcieBall (l r c : Nat) : Ball :=
  let row : List Ball :=
    if l = 3 ∧ r = 3 then [.sig "PCIE_REFCLK_P", .sig "PCIE_REFCLK_N", .sig "PERST_N", .sig "PCIE_REXT"]
    else if r = 0 then [.sig "PCIE_TX_P" l, .sig "PCIE_TX_N" l, .vss, .pwr "VDD_PCIE09"]
    else if r = 1 then [.vss, .vss, .vss, .pwr "VDD_PCIE18"]
    else if r = 2 then [.sig "PCIE_RX_P" l, .sig "PCIE_RX_N" l, .vss, .pwr "VDD_PCIE09"]
    else [.vss, .vss, .vss, .vss]
  row.getD (c - 6) .vss

/-- Control block, row by row from K (R512). -/
def controlBalls : List (List Ball) :=
  [[.sig "XTAL_IN", .sig "XTAL_OUT", .vss, .pwr "VDD_AON"],
   [.sig "RESET_N", .sig "FAULT_N", .sig "PPS_IN", .sig "PPS_OUT"],
   [.sig "TCK", .sig "TMS", .sig "TDI", .sig "TDO"],
   [.sig "TRST_N", .vss, .pwr "VDD_AON", .vss],
   [.sig "BOOT_SRC" 0, .sig "BOOT_SRC" 1, .sig "RESCUE_N", .vss],
   [.sig "RING_ROLE" 0, .sig "RING_ROLE" 1, .pwr "VDD_AON", .vss],
   [.sig "NODE_SEL" 0, .sig "NODE_SEL" 1, .sig "NODE_SEL" 2, .sig "NODE_SEL" 3],
   [.sig "NODE_SEL" 4, .sig "NODE_SEL" 5, .sig "NODE_SEL" 6, .sig "NODE_SEL" 7]] ++
  [[.sig "SPI_SCLK", .sig "SPI_CS_N" 0, .sig "SPI_CS_N" 1, .vss],
   [.sig "SPI_CS_N" 2, .sig "SPI_CS_N" 3, .pwr "VDD_AON", .vss],
   [.sig "SPI_IO" 0, .sig "SPI_IO" 1, .sig "SPI_IO" 2, .sig "SPI_IO" 3],
   [.sig "SPI_INT_N" 0, .sig "SPI_INT_N" 1, .sig "SPI_INT_N" 2, .sig "SPI_INT_N" 3],
   [.sig "FSCLK", .sig "FDQS", .sig "FCS0_N", .sig "FRESET_N"],
   [.sig "FIO" 0, .sig "FIO" 1, .sig "FIO" 2, .sig "FIO" 3],
   [.sig "FIO" 4, .sig "FIO" 5, .sig "FIO" 6, .sig "FIO" 7],
   [.vss, .pwr "VDD_AON", .vss, .pwr "VDD_AON"]]

/-- Core (R513). -/
def coreBall (row c : Nat) : Ball :=
  if (row + c) % 2 = 0 then .vss else if c ≤ 21 then .pwr "VDD_CORE" else .pwr "VDD_SRAM"

/-- Assay block, row `r` from K; without the assay die no ball of it is connected (R514). -/
def assayBall (fitted : Bool) (r c : Nat) : Ball :=
  let agnd : Ball := .gnd "AGND"
  let ch := r / 3
  let row : List Ball :=
    if !fitted then []
    else if r < 12 then
      if r % 3 = 0 then [.sig "AS_EXCP" ch, .sig "AS_SENSEP" ch, .sig "AS_SIGP" ch, agnd]
      else if r % 3 = 1 then [.sig "AS_EXCN" ch, .sig "AS_SENSEN" ch, .sig "AS_SIGN" ch, agnd]
      else [agnd, .pwr "VDDA_ASSAY", agnd, agnd]
    else if r = 12 then [.sig "PULSE_CNT" 0, .sig "PULSE_DIR" 0, .sig "PULSE_CNT" 1, agnd]
    else if r = 13 then [.sig "PULSE_DIR" 1, .sig "ASSAY_SEAL_N", .pwr "VDDA_ASSAY", agnd]
    else if r = 14 then [.sig "XA_IN", .sig "XA_OUT", .sig "ASSAY_VCAP", agnd]
    else [agnd, .pwr "VDDA_ASSAY", agnd, agnd]
  row.getD (c - 26) .none

/-- Memory band: row `r` from AG, channel A in columns 6 to 17, B in 18 to 29 (R515). -/
def memBall (r c : Nat) : Ball :=
  let b := 18 ≤ c
  let j := if b then c - 18 else c - 6
  let ch := fun (a x : String) => if b then x else a
  if r ≤ 1 then
    if j < 8 then .sig (ch "DDR_A_DQ" "DDR_B_DQ") (8 * r + j)
    else if j = 8 then .sig (ch "DDR_A_DQS_T" "DDR_B_DQS_T") r
    else if j = 9 then .sig (ch "DDR_A_DQS_C" "DDR_B_DQS_C") r
    else if j = 10 then .sig (ch "DDR_A_DMI" "DDR_B_DMI") r
    else .vss
  else if r = 2 then
    if j ≤ 5 then .sig (ch "DDR_A_CA" "DDR_B_CA") j
    else if j = 6 then .sig (ch "DDR_A_CK_T" "DDR_B_CK_T")
    else if j = 7 then .sig (ch "DDR_A_CK_C" "DDR_B_CK_C")
    else if j = 8 then .sig (ch "DDR_A_CKE" "DDR_B_CKE")
    else if j = 9 then .sig (ch "DDR_A_CS" "DDR_B_CS")
    else if j = 10 then .pwr "VDDQ"
    else .vss
  else if j = 0 then .sig (ch "DDR_RESET_N" "DDR_ZQ")
  else if j % 2 = 1 then .vss
  else if j = 4 ∨ j = 8 then .pwr "VDDQ"
  else .pwr "VDD2"

/-- The ball at row index 1 to 34 and column 1 to 34, on a part with or without the assay die: each lies in one region (R505, R506). -/
def ballAt (fitted : Bool) (row c : Nat) : Option Ball :=
  if row = 0 ∨ 34 < row ∨ c = 0 ∨ 34 < c then Option.none
  else some (
    if row ≤ 5 then fieldBall false (row - 1) c
    else if 30 ≤ row then fieldBall true (34 - row) c
    else if c ≤ 5 then canBall (row - 6) c
    else if 30 ≤ c then branchBall ((row - 6) / 3) ((row - 6) % 3) c
    else if row ≤ 9 then ethBall row c
    else if 26 ≤ row then memBall (row - 26) c
    else if c ≤ 9 then pcieBall ((row - 10) / 4) ((row - 10) % 4) c
    else if c ≤ 13 then (controlBalls.getD (row - 10) []).getD (c - 10) .vss
    else if c ≤ 25 then coreBall row c
    else assayBall fitted (row - 10) c)

/-- Row index and column of field pin `n` (R507). -/
def pinBall (n : Nat) : Nat × Nat :=
  let b := n / 16
  let p := n % 16
  (if b < 8 then 1 + p / 4 else 34 - p / 4, 2 + 4 * (b % 8) + p % 4)

/-- A supply: its SUPPLY code, name, nominal and operating range, monitor band and reset threshold in mV, current in mA (R517). -/
structure Rail where
  /-- DETAIL of a SUPPLY fault; none for a rail that the main die does not watch. -/
  code : Option Nat
  /-- Name. -/
  name : String
  /-- Nominal voltage. -/
  nominal : Nat
  /-- Operating range. -/
  range : Nat × Nat
  /-- Monitor band. -/
  band : Option (Nat × Nat)
  /-- Reset threshold. -/
  reset : Option Nat
  /-- Greatest current. -/
  amps : Nat
  deriving DecidableEq, Repr

/-- The supplies of R517; VIO_BANK at its 3.3 V setting stands for the sixteen (R523). -/
def rails : List Rail :=
  [⟨some 0, "VDD_CORE", 750, (728, 772), some (713, 787), some 680, 5600⟩,
   ⟨some 1, "VDD_SRAM", 800, (776, 824), some (760, 840), some 720, 500⟩,
   ⟨some 2, "VDD_PHY09", 900, (873, 927), some (855, 945), none, 2600⟩,
   ⟨some 3, "VDD_PHY18", 1800, (1710, 1890), some (1665, 1935), none, 800⟩,
   ⟨some 4, "VDD_PCIE09", 900, (873, 927), some (855, 945), none, 600⟩,
   ⟨some 5, "VDD_PCIE18", 1800, (1710, 1890), some (1665, 1935), none, 150⟩,
   ⟨some 6, "VDD2", 1100, (1060, 1170), some (1045, 1185), none, 400⟩] ++
  [⟨some 7, "VDDQ", 600, (570, 650), some (555, 665), none, 300⟩,
   ⟨some 8, "VIO_CAN", 3300, (3135, 3465), some (3000, 3600), none, 60⟩,
   ⟨some 9, "VDD_AON", 1800, (1710, 1890), some (1665, 1935), some 1620, 60⟩,
   ⟨none, "VIO_BANK", 3300, (3135, 3465), none, none, 200⟩,
   ⟨none, "VDD_PWR", 3300, (3135, 3465), none, some 2900, 120⟩,
   ⟨none, "VDDA_ASSAY", 3300, (3135, 3465), none, some 2900, 90⟩]

/-- The main-die rail with a SUPPLY code (R517). -/
def railOf (code : Nat) : Option Rail := rails.find? (fun r => r.code == some code)

/-- Absolute maximum ratings in mV, by what they bound (R519). -/
def ratings : List (String × Int × Int) :=
  [("VDD_CORE, VDD_SRAM", -300, 950), ("VDD_PHY09, VDD_PCIE09", -300, 1050), ("VDD_PHY18, VDD_PCIE18, VDD_AON", -300, 2100),
   ("VDD2", -300, 1500), ("VDDQ", -300, 800), ("VIO_BANK, VIO_CAN, VDD_PWR, VDDA_ASSAY", -300, 3900), ("field pin", -500, 5500)] ++
  [("FAULT_N, SPI_INT_N, PPS_IN, PERST_N", -300, 3900), ("PB_VIN, PB_SHP, PB_SHN, PB_SRC, PB_VOUT", -1000, 65000),
   ("PB_SHP to PB_SHN", -5000, 5000), ("PB_GATEA, PB_GATEB to PB_SRC", -300, 15000), ("PB_NTC", -300, 3900), ("PULSE", -300, 5500)]

/-- Field pin levels in mV at a bank supply of 3.3 V or 1.8 V: V_IH, V_IL, hysteresis, drop of V_OH below VIO, V_OL (R522). -/
def pinLevels (v33 : Bool) : Nat × Nat × Nat × Nat × Nat := if v33 then (2000, 800, 250, 400, 400) else (1170, 630, 150, 450, 450)

/-- A bank's reading from VIO_BANKb in mV: 0 below the threshold of 1.55 V, 1 for 1.8 V, 2 for 3.3 V (R267, R523). -/
def bankReading (mV : Nat) : Nat := if mV ≤ 1550 then 0 else if mV < 2500 then 1 else 2

/-- Output delay of a pad in ps with 15 pF, and its tolerance, by DRIVE and bank supply (R524). -/
def padDelay (drive : Nat) (v33 : Bool) : Nat × Nat :=
  ((if v33 then [(9000, 3000), (6500, 2000), (5000, 1500), (4500, 1500)]
    else [(13000, 4000), (9000, 3000), (7000, 2000), (6000, 2000)]) : List (Nat × Nat)).getD drive (0, 0)

/-- Output delay added in ps by each pF above 15 pF (R524). -/
def padDelayPerPf (drive : Nat) (v33 : Bool) : Nat :=
  ((if v33 then [600, 300, 150, 100] else [850, 420, 210, 140]) : List Nat).getD drive 0

/-- Input delay of a pad in ps and its tolerance (R524). -/
def padInputDelay (v33 : Bool) : Nat × Nat := if v33 then (1500, 500) else (2000, 700)

/-- Whether a low pulse of RESET_N resets: from 1 µs it does, up to 100 ns it does not, between them it is open (R532). -/
def resetPulse (ns : Nat) : Option Bool := if 1000 ≤ ns then some true else if ns ≤ 100 then some false else Option.none

/-- Thresholds of TEMP_HIGH, TEMP_CRIT and TEMP_SHUTDOWN with their re-arm levels, in 0.25 °C (R537). -/
def tempLevels : List (Int × Int) := [(460, 440), (500, 480), (540, 480)]

/-- Highest supply frequency error of the main and the assay crystal in ppm (R533). -/
def crystalPpm : Nat × Nat := (50, 30)

/-- Thermal resistances in mK/W: junction to lid, to board, ψJT, to still air; the greatest the system may have (R535, R536). -/
def thermal : Nat × Nat × Nat × Nat × Nat := (120, 2800, 40, 8500, 1600)

/-- The package in µm: body, lid, seated height, ball diameter, pitch, ball span, A1 offset (R538). -/
def packageUm : Nat × Nat × Nat × Nat × Nat × Nat × Nat := (35000, 31000, 3050, 600, 1000, 33000, 1000)

end Sys2Proof.Machine
end

