-- ==== Sys2Proof/Machine/Ops.lean ====
section
/-!
DEFINITION. Named operations over the state: reading and writing one unit of each kind, counters, free values, clocks, output.
-/
namespace Sys2Proof.Machine

/-- A port at its defaults (R73, R79, R89, R124, R153). -/
def Port.init (p : Nat) : Port :=
  { maxFrame := if p = 0 ∨ p = 1 ∨ p = 14 then 2048 else 1522
    floodSet := if 2 ≤ p ∧ p ≤ 13 then 1023 else 0
    ingLimit := if p ≤ 1 then 8192 else if p ≤ 5 then 4096 else if p = 14 then 16384 else 256
    egrLimit := List.replicate 8 (if p ≤ 1 then 1024 else if p ≤ 5 then 512 else 64)
    overhead := if p = 14 then 0 else 20
    ptpProfile := if p ≤ 1 then 1 else 0 }

/-- An attachment at its defaults: PCIe function 0 and SPI CS0 start bound to partition 0 (R335); WIN_BASE.PART is the bound
partition (R305). -/
def Att.init (a : Nat) : Att :=
  { bound := if a = 0 ∨ a = 8 then some 0 else none }

/-- Hewer `h` at its defaults (R276). -/
def Hewer.init (h : Nat) : Hewer :=
  { cfg := { inBase := 4 * (h % 8), outBase := 4 * (h % 8), setBase := 4 * (h % 8) } }

/-- A field pin at its defaults, with the pull that BANK_PULL gives its bank (R268, R482). -/
def Pin.init (bankPull p : Nat) : Pin :=
  { cfg := { pull := if bitAt bankPull (p / 16) then 2 else 1 }
    raw := bitAt bankPull (p / 16), filt := bitAt bankPull (p / 16), deb := bitAt bankPull (p / 16) }

/-- Destination set `d` at its default: set 1,023 floods the ring and ports 2 to 13 (R79). -/
def Dset.init (d : Nat) : Dset := if d = 1023 then { mask := 0x3FFD } else {}

/-- Region `r` at its default: region 0 covers the whole window (R340). -/
def Region.init (r : Nat) : Region := if r = 0 then { base := 0, size := 1572864, owner := 0, readers := 1 } else {}

/-- Switch port `p`. -/
def State.port (s : State) (p : Nat) : Port := tblGetD s.sw.ports p (Port.init p)
/-- Switch port `p` written. -/
def State.setPort (s : State) (p : Nat) (x : Port) : State := { s with sw := { s.sw with ports := tblSet s.sw.ports p x } }
/-- Tub queue `q`. -/
def State.queue (s : State) (q : Nat) : Queue := tblGetD s.queues q {}
/-- Tub queue `q` written. -/
def State.setQueue (s : State) (q : Nat) (x : Queue) : State := { s with queues := tblSet s.queues q x }
/-- Partition `p`. -/
def State.part (s : State) (p : Nat) : Partition := tblGetD s.parts p {}
/-- Partition `p` written. -/
def State.setPart (s : State) (p : Nat) (x : Partition) : State := { s with parts := tblSet s.parts p x }
/-- Event source `e`. -/
def State.source (s : State) (e : Nat) : EvSrc := tblGetD s.island.sources e {}
/-- Event source `e` written. -/
def State.setSource (s : State) (e : Nat) (x : EvSrc) : State :=
  { s with island := { s.island with sources := tblSet s.island.sources e x } }
/-- Attachment `a`. -/
def State.att (s : State) (a : Nat) : Att := tblGetD s.bridge.atts a (Att.init a)
/-- Attachment `a` written. -/
def State.setAtt (s : State) (a : Nat) (x : Att) : State :=
  { s with bridge := { s.bridge with atts := tblSet s.bridge.atts a x } }
/-- Host table entry `e`. -/
def State.host (s : State) (e : Nat) : HostEnt := tblGetD s.bridge.hosts e {}
/-- Destination set `d`. -/
def State.dset (s : State) (d : Nat) : Dset := tblGetD s.sw.dsets d (Dset.init d)
/-- Canary rule `r`. -/
def State.canary (s : State) (r : Nat) : Canary := tblGetD s.sw.canaries r {}
/-- Canary rule `r` written. -/
def State.setCanary (s : State) (r : Nat) (x : Canary) : State :=
  { s with sw := { s.sw with canaries := tblSet s.sw.canaries r x } }
/-- Sampling object `o`. -/
def State.sampler (s : State) (o : Nat) : Sampler := tblGetD s.sw.samplers o {}
/-- Sampling object `o` written. -/
def State.setSampler (s : State) (o : Nat) (x : Sampler) : State :=
  { s with sw := { s.sw with samplers := tblSet s.sw.samplers o x } }
/-- Stream entry `e`. -/
def State.stream (s : State) (e : Nat) : Stream := tblGetD s.sw.streams e {}
/-- Stream entry `e` written. -/
def State.setStream (s : State) (e : Nat) (x : Stream) : State :=
  { s with sw := { s.sw with streams := tblSet s.sw.streams e x } }
/-- Time trigger unit `t`. -/
def State.trig (s : State) (t : Nat) : TrigUnit := tblGetD s.time.trigs t {}
/-- Time trigger unit `t` written. -/
def State.setTrig (s : State) (t : Nat) (x : TrigUnit) : State :=
  { s with time := { s.time with trigs := tblSet s.time.trigs t x } }
/-- Capture unit `u`. -/
def State.capt (s : State) (u : Nat) : CaptUnit := tblGetD s.time.capts u {}
/-- Capture unit `u` written. -/
def State.setCapt (s : State) (u : Nat) (x : CaptUnit) : State :=
  { s with time := { s.time with capts := tblSet s.time.capts u x } }
/-- Output group `g`. -/
def State.group (s : State) (g : Nat) : OutGroup := tblGetD s.cycle.groups g {}
/-- Output group `g` written. -/
def State.setGroup (s : State) (g : Nat) (x : OutGroup) : State :=
  { s with cycle := { s.cycle with groups := tblSet s.cycle.groups g x } }
/-- Twin set `t`. -/
def State.twin (s : State) (t : Nat) : TwinSet := tblGetD s.cycle.twins t {}
/-- Twin set `t` written. -/
def State.setTwin (s : State) (t : Nat) (x : TwinSet) : State :=
  { s with cycle := { s.cycle with twins := tblSet s.cycle.twins t x } }
/-- CAN channel `c`. -/
def State.chan (s : State) (c : Nat) : CanChan := tblGetD s.can.ch c {}
/-- CAN channel `c` written. -/
def State.setChan (s : State) (c : Nat) (x : CanChan) : State := { s with can := { s.can with ch := tblSet s.can.ch c x } }
/-- Signal map `m`. -/
def State.map (s : State) (m : Nat) : SigMap := tblGetD s.crush.maps m {}
/-- Signal map `m` written. -/
def State.setMap (s : State) (m : Nat) (x : SigMap) : State := { s with crush := { s.crush with maps := tblSet s.crush.maps m x } }
/-- Field pin `p`. -/
def State.pin (s : State) (p : Nat) : Pin := tblGetD s.field.pins p (Pin.init s.boot.bankPull p)
/-- Field pin `p` written. -/
def State.setPin (s : State) (p : Nat) (x : Pin) : State := { s with field := { s.field with pins := tblSet s.field.pins p x } }
/-- Pin bank `b`. -/
def State.bank (s : State) (b : Nat) : Bank := tblGetD s.field.banks b {}
/-- Pin bank `b` written. -/
def State.setBank (s : State) (b : Nat) (x : Bank) : State := { s with field := { s.field with banks := tblSet s.field.banks b x } }
/-- Hewer `h`. -/
def State.hewer (s : State) (h : Nat) : Hewer := tblGetD s.field.hewers h (Hewer.init h)
/-- Hewer `h` written. -/
def State.setHewer (s : State) (h : Nat) (x : Hewer) : State :=
  { s with field := { s.field with hewers := tblSet s.field.hewers h x } }
/-- Hewer flag `f`: 32 cluster + index, or 256 + index of a global flag. -/
def State.flag (s : State) (f : Nat) : HFlag := tblGetD s.field.flags f {}
/-- Hewer flag `f` written. -/
def State.setFlag (s : State) (f : Nat) (x : HFlag) : State := { s with field := { s.field with flags := tblSet s.field.flags f x } }
/-- Power branch `b`. -/
def State.branch (s : State) (b : Nat) : Branch := tblGetD s.power.br b {}
/-- Power branch `b` written. -/
def State.setBranch (s : State) (b : Nat) (x : Branch) : State := { s with power := { s.power with br := tblSet s.power.br b x } }
/-- Core pair `p`. -/
def State.pair (s : State) (p : Nat) : Pair := tblGetD s.ctl.pairs p {}

/-- No service pair runs: a command handed to service firmware then waits and overruns (R419, R430). -/
def State.serviceStalled (s : State) : Bool := [1, 2].all (fun p => !(s.pair p).ok || (s.pair p).halted)

/-- A service pair that is in service is halted by the debugger: what it was given does not move to the other (R430). -/
def State.pairHalted (s : State) : Bool := [1, 2].any (fun p => (s.pair p).ok && (s.pair p).halted)

/-- Service firmware runs on a pair (R26, R355, R430). -/
def State.firmwareRuns (s : State) : Bool := s.boot.running && !s.serviceStalled
/-- Core pair `p` written. -/
def State.setPair (s : State) (p : Nat) (x : Pair) : State := { s with ctl := { s.ctl with pairs := tblSet s.ctl.pairs p x } }
/-- Start-up, flash and update written. -/
def State.setBoot (s : State) (x : Boot) : State := { s with boot := x }
/-- Region `r` of space 4. -/
def State.region (s : State) (r : Nat) : Region := tblGetD s.island.regions r (Region.init r)

/-- A counter's value (R97). -/
def State.ctr (s : State) (c : CtrId) (i : Nat) : Nat := tblGetD s.counters (ctrKey c i) 0
/-- A counter advanced by `n` (R97: it neither wraps nor saturates within the part's life). -/
def State.count (s : State) (c : CtrId) (i : Nat) (n : Nat := 1) : State :=
  { s with counters := tblSet s.counters (ctrKey c i) (s.ctr c i + n) }
/-- A counter advanced by 1 when `b` holds. -/
def State.countIf (s : State) (b : Bool) (c : CtrId) (i : Nat) : State := if b then s.count c i else s
/-- A counter cleared. -/
def State.clearCtr (s : State) (c : CtrId) (i : Nat) : State := { s with counters := tblSet s.counters (ctrKey c i) 0 }

/-- Something leaves the hub. -/
def State.emit (s : State) (o : Output) : State := { s with out := s.out ++ [o] }

/-- A free value and the state after drawing it (log 5). -/
def State.draw (s : State) : BitVec 64 × State := (Config.free s.fresh, { s with fresh := s.fresh + 1 })

/-- `n` free bytes and the state after drawing them (log 5). -/
def State.drawBytes : Nat → State → List Byte × State
  | 0, s => ([], s)
  | n + 1, s =>
    let (r, s) := s.draw
    let (l, s) := State.drawBytes n s
    (r.truncate 8 :: l, s)

/-- Units of a clock in one nanosecond. -/
def nsUnit : Nat := 281474976710656

/-- Whole nanoseconds of a clock. -/
def Clock.ns (c : Clock) : Nat := c.t / nsUnit

/-- The working clock in whole ns. -/
def State.work (s : State) : Nat := s.time.work.ns

/-- LT in whole ns. -/
def State.lt (s : State) : Nat := s.time.lt.ns

/-- SOURCE as TIME_NOW shows it (R149): a hub that serves a domain with its working clock shows that domain (R171). -/
def Time.sourceField (t : Time) : Nat :=
  if t.domA.isGm && t.domA.gmSource == 1 then 1 else if t.domB.isGm && t.domB.gmSource == 1 then 2 else t.source

/-- A clock in the TIME_NOW layout (R149), with the fields of the working clock. -/
def timeLayout (t : Time) (c : Clock) : Nat :=
  c.t % nsUnit / 4294967296 + c.ns % 1000000000 * 2 ^ 16 + (c.ns / 1000000000 % 2 ^ 48) * 2 ^ 48
    + t.sourceField * 2 ^ 96 + b2n t.converging * 2 ^ 98 + b2n t.valid * 2 ^ 99 + t.stepCount % 256 * 2 ^ 104

/-- TIME_NOW as it stands (R149). -/
def State.timeNow (s : State) : Nat := timeLayout s.time s.time.work

/-- The TIME field of an event record (R363). -/
def State.eventTime (s : State) : Nat :=
  s.work % 1000000000 + (s.work / 1000000000 % 2 ^ 32) * 2 ^ 30 + b2n s.time.valid * 2 ^ 62 + b2n s.time.converging * 2 ^ 63

/-- Owner of a resource, by class and index (R337). -/
def State.owner (s : State) (cls idx : Nat) : Nat := tblGetD s.island.owners (cls * 65536 + idx) 0

/-- Subscribers of a resource (R338). -/
def State.subsOf (s : State) (cls idx : Nat) : List Nat := tblGetD s.island.subs (cls * 65536 + idx) []

/-- A partition owns the resource. -/
def State.owns (s : State) (p cls idx : Nat) : Bool := s.owner cls idx == p

/-- A partition may read the resource: owner or subscriber (R23). -/
def State.mayRead (s : State) (p cls idx : Nat) : Bool := s.owns p cls idx || (s.subsOf cls idx).contains p

/-- Run an operation on the state when `b` holds. -/
def State.ifDo (s : State) (b : Bool) (f : State → State) : State := if b then f s else s

/-- The last 400 MHz edge at or before now; edge k lies at 2.5 k ns of the local timer (R269, R278; log 17). -/
def State.edgeNow (s : State) : Nat := s.lt * 2 / 5

/-- The first 400 MHz edge at or after now. -/
def State.edgeNext (s : State) : Nat := (s.lt * 2 + 4) / 5

/-- A level that is `cur` now, as edge `e` sees it `lag` edges later: changes that are too recent have not reached it (R270, R290). -/
def levelAt (hist : List (Nat × Bool)) (cur : Bool) (lag e : Nat) : Bool :=
  match hist.find? (fun c => decide (e < c.1 + lag)) with
  | some c => c.2
  | none => cur

/-- The last changes of a level, with one more. -/
def notedChange (hist : List (Nat × Bool)) (e : Nat) (old : Bool) : List (Nat × Bool) := hist.drop (hist.length - 7) ++ [(e, old)]

/-- This hub's own node number or 0 names this hub (R316). -/
def State.isLocal (s : State) (node : Nat) : Bool := node == 0 || node == s.ring.node

/-- Islands are numbered in the order of R11: 0 the ports, 1 switch and queue, 2 control, 3 hewer, 4 CAN, 5 time, 6 and 7 host, 8 memory,
9 the power die, 10 the assay die. A word can cross into an island whose clock runs and, on the power die, whose link is up (R9, R14). -/
def State.crossable (s : State) (dst : Nat) : Bool :=
  s.ctl.islands.getD dst true && (dst != 9 || s.ctl.dieUp.getD 0 false)

/-- A word that its destination does not accept stays in its crossing; each crossing holds one, and the source waits (R12, R14). -/
def holdWord (s : State) (src dst : Nat) : State :=
  { s with ctl := { s.ctl with held := if s.ctl.held.contains (src, dst) then s.ctl.held else s.ctl.held ++ [(src, dst)] } }

/-- The reset of an island clears the crossings into it: the word that each holds is discarded and counted (R14). -/
def clearCrossings (s : State) (reset : Nat → Bool) : State :=
  let n := (s.ctl.held.filter (fun e => reset e.2)).length
  { s with ctl := { s.ctl with held := s.ctl.held.filter (fun e => !reset e.2) } }.count cHandshakeDiscard 0 n

/-- What a served access answers: GRT status (R51), data, and the state after. -/
structure Ans where
  /-- GRT status (R51); 8 for an access that a stopped island has not accepted, which has no answer (R14). -/
  st : Nat
  /-- Data of a read. -/
  data : List Byte
  /-- The state after. -/
  s : State

/-- The access is done (SC), with data. -/
def ansOk (s : State) (d : List Byte := []) : Ans := ⟨0, d, s⟩
/-- Unsupported request (UR); no effect (R43). -/
def ansUr (s : State) : Ans := ⟨1, [], s⟩
/-- Refused by ownership (CA); no effect (R42). -/
def ansCa (s : State) : Ans := ⟨2, [], s⟩
/-- The partition is absent or resetting, or the configuration is not applied (NOT_READY). -/
def ansNr (s : State) : Ans := ⟨6, [], s⟩

/-- A PCIe function that serves requests: link up, no function-level reset, both enable bits set (R308). -/
def Att.pcieUp (a : Att) : Bool := a.linkUp && !a.flr && a.bme && a.mse

/-- Partition that an access is made as: the bound one on an attachment, none on a PCIe function that is down, else the requester's (R42,
R301, R308). -/
def State.who (s : State) (a : Acc) : Option Nat :=
  match a.att with
  | some n => if n < 8 ∧ !(s.att n).pcieUp then none else (s.att n).bound
  | none => some a.part

/-- Partition `p` takes accesses: it is OPEN and the configuration is applied (R51, R330). -/
def State.isOpen (s : State) (p : Nat) : Bool := (s.part p).st == 1 && (s.boot.configured || s.boot.rescue)

/-- An access that came through an attachment of this hub counts as accepted there (R329). -/
def State.arrived (s : State) (a : Acc) (c : CtrId) : State :=
  match a.att with
  | some n => s.count c n
  | none => s

/-- A write by the partition it is made as, which must be OPEN; without a bound partition it does nothing (R301, R329, R330). -/
def accessAs (a : Acc) (s : State) (f : State → Nat → Ans) : Ans :=
  match s.who a with
  | none => ansNr s
  | some p => if s.isOpen p then f (s.arrived a cAttWrites) p else ansNr (s.arrived a cAttWrites)

/-- A write outside spaces 0, 1 and 4, which rescue station mode does not reach (R501). -/
def accessIn (a : Acc) (s : State) (f : State → Nat → Ans) : Ans :=
  if s.boot.rescue then ansUr ((s.who a).elim s (fun _ => s.arrived a cAttWrites)) else accessAs a s f

/-- The result of a command that runs to its end. -/
abbrev Res := Host.Outcome State Fault Refusal

/-- The command ends in state `s`. -/
def done (s : State) : Res := .next s

/-- The command acts on unit `n` of `m`; a number that does not exist stops (Fault.noSuchUnit). -/
def unit (n m : Nat) (s : State) : Res := if n < m then .next s else .fault .noSuchUnit

end Sys2Proof.Machine
end

