-- ==== Sys2Proof/Machine/Cells.lean ====
section
/-!
DEFINITION. The cell pool and the packet operations of a tub queue that raise no notice (R87, R88, R98 to R108, R116).
-/
namespace Sys2Proof.Machine

/-- Why a cell is refused (R88, R100, R102). -/
inductive Refused where
  /-- ING_LIMIT (R88). -/
  | ingLimit
  /-- The queue limit (R88). -/
  | queueLimit
  /-- EGR_LIMIT (R88). -/
  | egrLimit
  /-- No cell (R88, R100). -/
  | pool
  /-- External bandwidth (R102). -/
  | extBw
  deriving DecidableEq, Repr

/-- A cell asked for: granted with the state after, or refused. -/
inductive Grant where
  /-- Cell `c` was granted. -/
  | ok (c : Nat) (s : State)
  /-- No cell was granted. -/
  | no (why : Refused)

/-- Free on-chip cells (R100). -/
def State.onFree (s : State) : Nat := s.pool.onFreed.length + (65536 - s.pool.onNext)
/-- Free external cells (R100). -/
def State.extFree (s : State) : Nat := s.pool.extFreed.length + (s.pool.extCells - s.pool.extNext)
/-- free_cells of R88. -/
def State.freeCells (s : State) : Nat := s.onFree + s.extFree

/-- An on-chip cell taken from its free list. -/
def takeOn (s : State) : Nat × State :=
  match s.pool.onFreed with
  | c :: r => (c, { s with pool := { s.pool with onFreed := r } })
  | [] => (s.pool.onNext, { s with pool := { s.pool with onNext := s.pool.onNext + 1 } })

/-- An external cell taken from its free list. -/
def takeExt (s : State) : Nat × State :=
  match s.pool.extFreed with
  | c :: r => (c, { s with pool := { s.pool with extFreed := r } })
  | [] => (65536 + s.pool.extNext, { s with pool := { s.pool with extNext := s.pool.extNext + 1 } })

/-- Bits of external cell data moved in the microsecond of LT (R102; the window length is the model's, log 12). -/
def State.extMoved (s : State) : Nat := if s.pool.extSince = s.lt / 1000 then s.pool.extBits else 0

/-- External cell data of one cell moved (R102). -/
def extMove (s : State) : State :=
  { s with pool := { s.pool with extBits := s.extMoved + 1024, extSince := s.lt / 1000 } }

/-- An external cell, unless its write would go beyond 40 Gbit/s (R102). -/
def grantExt (s : State) : Grant :=
  if s.extMoved + 1024 > 40000 then .no .extBw
  else let (c, s) := takeExt s; .ok c (extMove s)

/-- take_cell() of R100. -/
def takeCell (s : State) (pin : Bool) : Grant :=
  if pin then
    if s.onFree > 0 then let (c, s) := takeOn s; .ok c s else .no .pool
  else if s.onFree > s.pool.pinKeep then let (c, s) := takeOn s; .ok c s
  else if s.extFree > 0 then grantExt s
  else if s.onFree > 0 then let (c, s) := takeOn s; .ok c s
  else .no .pool

/-- The pool part of admit() of R88, then take_cell(); cells granted at or below RESERVE are counted. -/
def grantCell (s : State) (pin : Bool) (cls : Nat) (fromEvent : Bool) : Grant :=
  let f := s.freeCells
  if f > s.pool.reserve || (f > 0 && (decide (cls ≥ s.pool.reserveMinClass) || fromEvent)) then
    match takeCell s pin with
    | .ok c s => .ok c (s.countIf (decide (f ≤ s.pool.reserve)) cReserveUsed 0)
    | .no w => .no w
  else .no .pool

/-- Cells that `n` bytes take (R106). -/
def cellsFor (n : Nat) : Nat := (n + 127) / 128

/-- The 800 MHz cycle of LT in which the pool stands (R118). -/
def State.poolCycle (s : State) : Nat := s.lt * 4 / 5

/-- The pool with the cells released in an earlier cycle joined to their own free lists (R100, R118). -/
def Pool.join (p : Pool) : Pool :=
  { p with onFreed := p.onFreed ++ p.freed.filter (· < 65536), extFreed := p.extFreed ++ p.freed.filter (65536 ≤ ·), freed := [] }

/-- At the end of an 800 MHz cycle the cells released in it join the free lists (R118). -/
def joinFreed (s : State) : State := if s.pool.cycle = s.poolCycle then s else { s with pool := s.pool.join }

/-- A cell released: it joins its free list at the end of the cycle (R100, R118); its POISON mark ends with its data. -/
def freeCell (s : State) (c : Nat) : State :=
  let s := joinFreed s
  { s with pool := { s.pool with poisoned := s.pool.poisoned.filter (· ≠ c), freed := s.pool.freed ++ [c], cycle := s.poolCycle } }

/-- Cells returned to their free lists. -/
def freeAll (s : State) (l : List Nat) : State := l.foldl freeCell s

/-- The ingress port's charge changed (R87). -/
def State.chargeIng (s : State) (p : Nat) (d : Int) : State :=
  s.setPort p { s.port p with heldIng := ((s.port p).heldIng + d).toNat }

/-- The charge of an egress port and class changed (R87). -/
def State.chargeEg (s : State) (p c : Nat) (d : Int) : State :=
  s.setPort p { s.port p with heldEg := listSet (s.port p).heldEg c (((s.port p).heldEg.getD c 0 + d).toNat) }

/-- The ingress charge of a packet's cells given back (R87). -/
def unchargePacket (s : State) (k : Packet) : State :=
  match k.inPort with
  | some p => s.chargeIng p (-(k.cells.length : Int))
  | none => s

/-- A packet's cells freed. -/
def freePacket (s : State) (k : Packet) : State := freeAll (unchargePacket s k) k.cells

/-- DEPTH of a queue (R103). -/
def Queue.depth (q : Queue) : Nat := sumNat (q.packets.map (fun k => k.cells.length))
/-- OPEN_CELLS of a queue (R103). -/
def Queue.openCells (q : Queue) : Nat :=
  (match q.opn with | some k => k.cells.length | none => 0) + sumNat (q.arriving.map (fun k => k.cells.length))
/-- A packet of the queue is open (R110). -/
def Queue.isOpen (q : Queue) : Bool := q.opn.isSome || !q.arriving.isEmpty
/-- Cells charged to a queue: DEPTH, OPEN_CELLS and packets committed in this cycle (R87, R104). -/
def Queue.charged (q : Queue) : Nat := q.depth + q.openCells + sumNat (q.fresh.map (fun k => k.cells.length))

/-- An event queue; these are always pinned (R102). -/
def Queue.isEvent (q : Queue) : Bool := match q.prod with | .event _ => true | _ => false
/-- PIN as it acts (R100, R102). -/
def Queue.pinned (q : Queue) : Bool := q.pin || q.isEvent

/-- A cell for queue `q`: ING_LIMIT of a received copy's port, queue limit, pool, take_cell() (R88, R100). -/
def grantForQueue (s : State) (q cls : Nat) (fromEvent : Bool) (inPort : Option Nat) : Grant :=
  if (match inPort with | some i => decide ((s.port i).heldIng ≥ (s.port i).ingLimit) | none => false) then .no .ingLimit
  else if (s.queue q).charged < (s.queue q).limit then grantCell s (s.queue q).pinned cls fromEvent else .no .queueLimit

/-- `n` cells for the open packet of queue `q`, added to it one by one. -/
def growOpen (s : State) (q cls : Nat) (fromEvent : Bool) : Nat → State × Option Refused
  | 0 => (s, none)
  | n + 1 =>
    match grantForQueue s q cls fromEvent none with
    | .no w => (s, some w)
    | .ok c s =>
      let k := (s.queue q).opn.getD {}
      growOpen (s.setQueue q { s.queue q with opn := some { k with cells := k.cells ++ [c] } }) q cls fromEvent n

/-- A refusal counted once, in the counter of the step that refused it (R88, R102, R108). -/
def countRefused (s : State) (q : Nat) : Refused → State
  | .queueLimit => s.count cDropQueueLimit q
  | .extBw => s.count cExtBwDrop q
  | .pool => s.count cDropPool 0
  | .ingLimit => s
  | .egrLimit => s

/-- Discard the visible packets of a queue except a presented HOLD packet, and those committed before the flush that are
not visible yet (R116). A flush clears ABOVE, the last POP value returns to 0, and WM_ARMED follows R117. -/
def flushNow (s : State) (q : Nat) : State :=
  let x := s.queue q
  let keep := if x.presented then x.packets.take 1 else []
  let drop := (if x.presented then x.packets.drop 1 else x.packets) ++ x.fresh
  let s := forEach drop s (fun k s => freePacket s k)
  let s := s.count cFlushDrop q drop.length
  let x := { s.queue q with packets := keep, fresh := [], popped := 0, lastPop := 0, above := false, flushPending := false }
  s.setQueue q { x with wmArmed := x.wmArmed || (!x.wmPending && (x.wmark == 0 || decide (x.depth < x.wmark))) }

/-- A flush request (R116). -/
def flushReq (s : State) (q : Nat) : State :=
  if (s.queue q).isOpen then s.setQueue q { s.queue q with flushPending := true } else flushNow s q

/-- A pending flush takes effect when no packet is open any more (R116; log 35). -/
def flushIfPending (s : State) (q : Nat) : State :=
  if (s.queue q).flushPending && !(s.queue q).isOpen then flushNow s q else s

/-- The open packet rewound (R107); nothing when none is open. -/
def abortOpen (s : State) (q : Nat) : State :=
  match (s.queue q).opn with
  | none => s
  | some k =>
    let s := (freePacket s k).count cAborts q
    flushIfPending (s.setQueue q { s.queue q with opn := none, lastWrite := 0 }) q

/-- Bytes in the open packet. -/
def Queue.openBytes (q : Queue) : Nat := match q.opn with | some k => k.bytes.length | none => 0

/-- Append bytes to the open packet, opening it if need be; false when the write was refused and the packet rewound
(R104, R106 to R108). -/
def appendOpen (s : State) (q : Nat) (d : List Byte) (cls : Nat) (fromEvent : Bool) : State × Bool :=
  let x := s.queue q
  if !x.enable then (abortOpen (s.count cProdDisabled q) q, false)
  else if x.openBytes + d.length > 2097152 then (abortOpen (s.count cOversize q) q, false)
  else
    let k := x.opn.getD {}
    match growOpen (s.setQueue q { x with opn := some k }) q cls fromEvent (cellsFor (x.openBytes + d.length) - k.cells.length) with
    | (s, some w) => (abortOpen (countRefused s q w) q, false)
    | (s, none) =>
      let k := (s.queue q).opn.getD {}
      (s.setQueue q { s.queue q with opn := some { k with bytes := k.bytes ++ d }, lastWrite := d.length }, true)

/-- A packet that has ended joins the committed ones, visible from the next cycle (R106). A pending flush discards it (R116). -/
def commitPacket (s : State) (q : Nat) (k : Packet) (launch : Option Nat) : State :=
  let k := { k with committedAt := s.work, launch := launch, lost := (s.queue q).lostBefore, seq := s.pool.commits, atLt := s.lt }
  let s := { s with pool := { s.pool with commits := s.pool.commits + 1 } }
  let s := s.setQueue q { s.queue q with fresh := (s.queue q).fresh ++ [k], lostBefore := false }
  flushIfPending ((s.count cEnqPackets q).count cEnqBytes q k.bytes.length) q

/-- Commit the open packet (R106). -/
def commitOpen (s : State) (q : Nat) (launch : Option Nat) : State :=
  let x := s.queue q
  if !x.enable then abortOpen (s.count cProdDisabled q) q
  else match x.opn with
    | none => s.count cEmptyCommit q
    | some k =>
      if k.bytes.isEmpty then (s.setQueue q { x with opn := none }).count cEmptyCommit q
      else commitPacket (s.setQueue q { x with opn := none, lastWrite := 0 }) q k launch

/-- One whole packet appended and committed by a hardware or firmware producer; false when refused (R106, R108). -/
def putPacket (s : State) (q : Nat) (d : List Byte) (cls : Nat) (fromEvent : Bool) : State × Bool :=
  match appendOpen s q d cls fromEvent with
  | (s, false) => (s, false)
  | (s, true) => (commitOpen s q none, true)

/-- The open packet of the switch for the copy at `place` of the frame that port `i` receives (R83). -/
def Queue.arrival (x : Queue) (i place : Nat) : Option Packet := x.arriving.find? (fun k => k.inPort == some i && k.place == place)

/-- The queue without that open packet. -/
def Queue.dropArrival (x : Queue) (i place : Nat) : Queue :=
  { x with arriving := x.arriving.filter (fun k => !(k.inPort == some i && k.place == place)) }

/-- The queue with that open packet written. -/
def Queue.putArrival (x : Queue) (i place : Nat) (k : Packet) : Queue :=
  { x.dropArrival i place with arriving := (x.dropArrival i place).arriving ++ [k] }

/-- `n` cells for a copy that port `i` receives toward queue `q`, each admitted and charged on its own (R87, R88). -/
def growArrival (s : State) (q i place cls : Nat) : Nat → State × Option Refused
  | 0 => (s, none)
  | n + 1 =>
    match grantForQueue s q cls false (some i) with
    | .no w => (s, some w)
    | .ok c s =>
      let k := ((s.queue q).arrival i place).getD { inPort := some i, place := place }
      growArrival ((s.chargeIng i 1).setQueue q ((s.queue q).putArrival i place { k with cells := k.cells ++ [c] })) q i place cls n

/-- A copy toward port 14 rewound (R83, R107); nothing when it has no open packet. -/
def abortArrival (s : State) (q i place : Nat) : State :=
  match (s.queue q).arrival i place with
  | none => s
  | some k =>
    let s := (freePacket s k).count cAborts q
    flushIfPending (s.setQueue q ((s.queue q).dropArrival i place)) q

/-- The bytes that have arrived of a copy toward queue `q` (R83): false when a cell or the queue refused it (R88, R104, R108). -/
def arriveInQueue (s : State) (q i place cls : Nat) (b : List Byte) : State × Bool :=
  if !(s.queue q).enable then (abortArrival (s.count cProdDisabled q) q i place, false)
  else
    let k := ((s.queue q).arrival i place).getD { inPort := some i, place := place }
    match growArrival (s.setQueue q ((s.queue q).putArrival i place k)) q i place cls (cellsFor b.length - k.cells.length) with
    | (s, some w) => (abortArrival (if w = .ingLimit then s.count cDropIngLimit i else countRefused s q w) q i place, false)
    | (s, none) =>
      let k := ((s.queue q).arrival i place).getD { inPort := some i, place := place }
      (s.setQueue q ((s.queue q).putArrival i place { k with bytes := b }), true)

/-- The copy toward queue `q` has ended good and is committed (R83); a disabled queue refuses the commit (R104). -/
def commitArrival (s : State) (q i place : Nat) : State × Bool :=
  match (s.queue q).arrival i place with
  | none => (s, false)
  | some k =>
    if !(s.queue q).enable then (abortArrival (s.count cProdDisabled q) q i place, false)
    else (commitPacket (s.setQueue q ((s.queue q).dropArrival i place)) q k none, true)

/-- The head packet of a queue leaves it and its cells are freed. -/
def dropPacket (s : State) (q : Nat) : State :=
  match (s.queue q).packets with
  | [] => s
  | k :: r =>
    let s := freePacket s k
    s.setQueue q { s.queue q with packets := r, popped := 0, presented := false, holdOffset := 0 }

/-- Release the head packet of a queue by its consumer (R111, R114, R118, R122). -/
def releaseHead (s : State) (q : Nat) : State :=
  match (s.queue q).packets with
  | [] => s
  | _ :: _ => dropPacket (s.count cDeqPackets q) q

/-- Cells read from a queue: external cells move data (R102), poisoned ones are counted and shown (R98, R110). -/
def readCells (s : State) (q : Nat) (cs : List Nat) : State :=
  let s := forEach (cs.filter (fun c => decide (c ≥ 65536))) s (fun _ s => extMove s)
  let n := (cs.filter (fun c => s.pool.poisoned.contains c)).length
  if n = 0 then s else (s.count cPoisonReads q n).setQueue q { s.queue q with poison := true }

/-- Bytes of a frame before its payload: MACs, tags, EtherType and GRT header (R46). -/
def frameHead (f : Frame) : Nat :=
  14 + (if f.tag.isSome then 4 else 0) + (if f.hsr.isSome then 6 else 0) + (if f.grt.isSome then 24 else 0)

/-- A frame's length from destination MAC to FCS, the HSR tag included, without SecTAG and ICV (R73). -/
def frameLenOf (f : Frame) : Nat := max 64 (frameHead f + f.payload.length + 4)

/-- The frame without its HSR tag, as it leaves the ring; a MAC sends at least 64 bytes (R33). -/
def untag (f : Frame) : Frame := if f.hsr.isSome then { f with hsr := none, path := 0, len := max 64 (f.len - 6) } else f

/-- The frame with an HSR tag of number `n`, as ring port `p` sends it (R32, R124). -/
def retag (f : Frame) (n p : Nat) : Frame := { untag f with hsr := some n, path := p, len := (untag f).len + 6 }

/-- `n` cells for a copy that leaves on port `o` in class `c`, with the checks of R88. -/
def grantCopy (s : State) (i o c : Nat) : Nat → List Nat → State × List Nat × Option Refused
  | 0, l => (s, l, none)
  | n + 1, l =>
    if (s.port i).heldIng ≥ (s.port i).ingLimit then (s, l, some .ingLimit)
    else if (s.port o).heldEg.getD c 0 ≥ (s.port o).egrLimit.getD c 0 then (s, l, some .egrLimit)
    else match grantCell s false c false with
      | .no w => (s, l, some w)
      | .ok x s => grantCopy ((s.chargeIng i 1).chargeEg o c 1) i o c n (l ++ [x])

/-- The cells that a copy holds, freed and uncharged (R87). -/
def freeCopy (s : State) (k : Copy) : State :=
  freeAll ((s.chargeIng k.inPort (-(k.cells.length : Int))).chargeEg k.outPort k.cls (-(k.cells.length : Int))) k.cells

/-- A refused copy counted once, in the counter of the limit (R88); a refusal for external bandwidth, for which R102 names a counter of
tub queues only, counts in DROP_POOL (log 69). -/
def countCopyRefused (s : State) (i o c : Nat) : Refused → State
  | .ingLimit => s.count cDropIngLimit i
  | .queueLimit => s
  | .egrLimit => s.count cDropEgrLimit (8 * o + c)
  | .pool => s.count cDropPool 0
  | .extBw => s.count cDropPool 0

/-- A copy placed at the end of its egress queue (R123). -/
def State.pushCopy (s : State) (k : Copy) : State :=
  let p := s.port k.outPort
  (s.setPort k.outPort { p with queues := listSet p.queues k.cls (p.queues.getD k.cls [] ++ [k]) }).count cEnqFrames (8 * k.outPort + k.cls)

/-- A whole frame admitted toward an egress port and queued there, or refused and counted (R87, R88, R123). -/
def enqueueFrame (s : State) (f : Frame) (i o c : Nat) (launch : Option Nat) : State :=
  match grantCopy s i o c (cellsFor f.len) [] with
  | (s, l, none) =>
    s.pushCopy { frame := f, inPort := i, outPort := o, cls := c, cells := l, since := s.work, launch := launch }
  | (s, l, some w) => countCopyRefused (freeCopy s { frame := f, inPort := i, outPort := o, cls := c, cells := l }) i o c w

/-- The HSR sequence number of a source MAC's next frame, and the state after using it (R32). -/
def nextSeq (s : State) (mac : Nat) : Nat × State :=
  let n := tblGetD s.ring.seqs mac 0
  (n, { s with ring := { s.ring with seqs := tblSet s.ring.seqs mac ((n + 1) % 65536) } })

/-- A frame sent out of both ring ports, with one sequence number (R32). -/
def sendRing (s : State) (f : Frame) (i c : Nat) (launch : Option Nat) : State :=
  let (n, s) := nextSeq s f.smac
  enqueueFrame (enqueueFrame s (retag f n 0) i 0 c launch) (retag f n 1) i 1 c launch

end Sys2Proof.Machine
end

