-- ==== Sys2Proof/Machine/Grt.lean ====
section
/-!
DEFINITION. Ring addresses, GRT MACs, classes and the sending of GRT frames (R40 to R50).
-/
namespace Sys2Proof.Machine

/-- The 64-bit value of a ring address (R40). -/
def addrValue (a : RingAddr) : Nat := a.node * 2 ^ 56 + a.part * 2 ^ 52 + a.space * 2 ^ 48 + a.off

/-- A ring address from its 64-bit value (R40). -/
def addrOf (v : Nat) : RingAddr := { node := bitsAt v 56 8, part := bitsAt v 52 4, space := bitsAt v 48 4, off := bitsAt v 0 48 }

/-- Unicast GRT MAC of a node (R47). -/
def macOfNode (ringId n : Nat) : Nat := 0x024B52000000 + ringId * 256 + n
/-- All-nodes GRT MAC (R47). -/
def macAll (ringId : Nat) : Nat := 0x034B52000000 + ringId * 256 + 0xFF
/-- Link-local GRT MAC (R47). -/
def macLink (ringId : Nat) : Nat := 0x034B52000000 + ringId * 256 + 0xFE

/-- This hub's GRT MAC: unicast of its node, or its factory MAC while it is unnumbered (R47). -/
def State.grtMac (s : State) : Nat := if s.ring.node = 0 then s.boot.mac else macOfNode s.ring.ringId s.ring.node

/-- GRT types (R50). -/
def tRead : Nat := 0x01
/-- WRITE_P (R50). -/
def tWriteP : Nat := 0x02
/-- WRITE_NP (R50). -/
def tWriteNp : Nat := 0x03
/-- LOCK_READ (R50). -/
def tLockRead : Nat := 0x04
/-- WRITE_UNLOCK (R50). -/
def tWriteUnlock : Nat := 0x05
/-- COMPLETION (R50). -/
def tCompletion : Nat := 0x08
/-- EVENT (R50). -/
def tEvent : Nat := 0x10
/-- BARRIER (R50). -/
def tBarrier : Nat := 0x11
/-- IMAGE_IN (R50). -/
def tImageIn : Nat := 0x20
/-- IMAGE_OUT (R50). -/
def tImageOut : Nat := 0x21
/-- SHADOW (R50). -/
def tShadow : Nat := 0x22
/-- RESIGN (R50). -/
def tResign : Nat := 0x23
/-- CAN_TUNNEL (R50). -/
def tCanTunnel : Nat := 0x28
/-- ENUM_WALK (R50). -/
def tEnumWalk : Nat := 0x40
/-- ENUM_REPORT (R50). -/
def tEnumReport : Nat := 0x41
/-- ENUM_ASSIGN (R50). -/
def tEnumAssign : Nat := 0x42
/-- MGR_BEACON (R50). -/
def tMgrBeacon : Nat := 0x43
/-- RING_RESET (R50). -/
def tRingReset : Nat := 0x44

/-- The 24 bytes of a GRT header (R49). -/
def hdrBytes (h : GrtHdr) : List Byte :=
  beBytes 1 h.typ ++ beBytes 1 h.flags ++ beBytes 1 h.srcNode ++ beBytes 1 h.srcPart ++ beBytes 8 (addrValue h.addr)
    ++ beBytes 2 h.tag ++ beBytes 2 h.len ++ fitBytes 8 h.info

/-- A GRT header from its 24 bytes (R49); reserved bits are ignored (R8). -/
def grtHdrOf (b : List Byte) : GrtHdr :=
  { typ := beAt b 0 1, flags := beAt b 1 1, srcNode := beAt b 2 1, srcPart := beAt b 3 1 % 16, addr := addrOf (beAt b 4 8)
    tag := beAt b 12 2, len := beAt b 14 2 % 2048, info := bytesAt b 16 8 }

/-- Class in which a GRT type travels (R48); no command or record field of the spec writes a group's class, so the defaults stay (log 70). -/
def RingNode.classOf (r : RingNode) (t : Nat) : Nat :=
  if t = tImageIn ∨ t = tImageOut ∨ t = tShadow ∨ t = tResign then r.clsImage
  else if t ≥ tEnumWalk then r.clsControl
  else if t = tEvent then r.clsEvent
  else if t = tCanTunnel then r.clsTunnel
  else r.clsTrans

/-- A GRT frame as Ethernet carries it (R46). -/
def grtFrameOf (s : State) (dmac : Nat) (h : GrtHdr) (d : List Byte) : Frame :=
  let f : Frame := { dmac := dmac, smac := s.grtMac, tag := some (s.ring.classOf h.typ, s.ring.vlan),
                     etherType := s.ring.etherType, grt := some h, payload := d }
  { f with len := frameLenOf f }

/-- A frame's bytes from destination MAC to the last payload byte, without HSR tag and FCS (R541). -/
def frameBytes (f : Frame) : List Byte :=
  beBytes 6 f.dmac ++ beBytes 6 f.smac
    ++ (match f.tag with | some (pcp, vid) => beBytes 2 0x8100 ++ beBytes 2 (pcp * 8192 + vid) | none => [])
    ++ beBytes 2 f.etherType ++ (match f.grt with | some h => hdrBytes h | none => []) ++ f.payload

/-- The queue through which the bridge's frames reach the switch (R17; log 26). -/
def qBridgeTx : Nat := 4024
/-- The queue of the other frames that service firmware sends (R17; log 26). -/
def qFirmwareTx : Nat := 4023
/-- The queue of the EVENT frames that event delivery forwards (R17, R368; log 26). -/
def qEventTx : Nat := 4022
/-- The image publish queue (R194; log 26). -/
def qImageTx : Nat := 4094

/-- Firmware has taken queue `q` for frames to send (R105). -/
def State.sends (s : State) (q : Nat) : Bool := (s.queue q).fwUse != 0 && (s.queue q).cons == .port14

/-- A frame put as one packet into a queue that switch port 14 consumes (R17, R541), and whether it was taken; `egress` is the port that R315
names. -/
def offerFrame (s : State) (q : Nat) (f : Frame) (cls : Nat) (egress : Option Nat) : State × Bool :=
  match appendOpen s q (frameBytes f) cls (q == qEventTx) with
  | (s, false) => (s, false)
  | (s, true) => (commitOpen (s.setQueue q { s.queue q with opn := (s.queue q).opn.map (fun k => { k with egress := egress }) }) q none, true)

/-- A frame put as one packet into a queue that switch port 14 consumes (R17, R541). -/
def putFrame (s : State) (q : Nat) (f : Frame) (cls : Nat) (egress : Option Nat) : State := (offerFrame s q f cls egress).1

/-- A GRT frame of a unit of the hub, through its queue on port 14 (R17, R48); what leaves before firmware has taken its queues, an
ENUM_REPORT, goes to the ring ports at once (log 26). -/
def sendVia (s : State) (q dmac : Nat) (h : GrtHdr) (d : List Byte) : State :=
  let f := grtFrameOf s dmac h d
  let c := s.ring.classOf h.typ
  if s.sends q then putFrame s q f c none else sendRing s f 14 c none

/-- A GRT frame that service firmware sends (R17). -/
def sendGrt (s : State) (dmac : Nat) (h : GrtHdr) (d : List Byte) : State := sendVia s qFirmwareTx dmac h d

/-- A link-local GRT frame, without HSR tag, sent on one ring port (R47). -/
def sendLink (s : State) (port : Nat) (h : GrtHdr) : State :=
  enqueueFrame s (grtFrameOf s (macLink s.ring.ringId) h []) 14 port (s.ring.classOf h.typ) none

/-- A GRT frame of the bridge to an Ethernet host, on the port of its entry (R17, R315): over the ring on ports 0 and 1. -/
def sendToHost (s : State) (port mac vid : Nat) (h : GrtHdr) (d : List Byte) : State :=
  let c := s.ring.classOf h.typ
  let f := { grtFrameOf s mac h d with tag := some (c, vid) }
  if s.sends qBridgeTx then putFrame s qBridgeTx f c (some port)
  else if port ≤ 1 then sendRing s f 14 c none else enqueueFrame s f 14 port c none

/-- A header of this hub: source node and partition, address, TYPE_INFO (R49). -/
def hdrOf (s : State) (typ part : Nat) (a : RingAddr) (tag len : Nat) (info : List Byte) : GrtHdr :=
  { typ := typ, flags := 0x40, srcNode := s.ring.node, srcPart := part, addr := a, tag := tag, len := len, info := info }

/-- TYPE_INFO of the image types: cycle, segment or group, tally (R50). -/
def imageInfo (n g tally : Nat) : List Byte := beBytes 4 n ++ beBytes 2 g ++ beBytes 2 tally

/-- Big-endian TYPE_INFO field, by header byte (R50). -/
def infoAt (h : GrtHdr) (b n : Nat) : Nat := beAt h.info (b - 16) n

end Sys2Proof.Machine
end

