-- ==== Sys2Proof/Machine/Events.lean ====
section
/-!
DEFINITION. Event sources, records, event queues, notification and storm control (R360 to R373).
-/
namespace Sys2Proof.Machine

/-- First source of the CAN block (R360). -/
def srcCan (c e : Nat) : Nat := 4096 + 16 * c + e
/-- Source of a pin (R360). -/
def srcPin (p : Nat) : Nat := 4480 + p
/-- Source of a hewer (R360). -/
def srcHewer (h e : Nat) : Nat := 4736 + 4 * h + e
/-- Source of a switch port (R360, R361). -/
def srcPort (p e : Nat) : Nat := 4992 + 16 * p + e
/-- Source of the time block (R183, R360). -/
def srcTime (e : Nat) : Nat := 5248 + e
/-- Source of an output group (R360). -/
def srcGroup (g : Nat) : Nat := 5312 + g
/-- Source of a power branch (R360, R452). -/
def srcBranch (b e : Nat) : Nat := 5824 + 16 * b + e
/-- Source of the assay block (R360, R477). -/
def srcAssay (e : Nat) : Nat := 5952 + e
/-- Source of the errors-and-diagnostics block (R360, R362). -/
def srcDiag (e : Nat) : Nat := 5984 + e
/-- Source of a trigger unit (R360). -/
def srcTrig (t : Nat) : Nat := 6496 + t
/-- Source of a capture unit (R360). -/
def srcCapt (u : Nat) : Nat := 6560 + u

/-- The resource that a source follows (R360, R362, R542): class and index. -/
def sourceResource (e : Nat) : Option (Nat × Nat) :=
  if e < 4096 then some (5, e)
  else if e < 4480 then some (1, (e - 4096) / 16)
  else if e < 4736 then some (3, e - 4480)
  else if e < 4992 then some (2, (e - 4736) / 4)
  else if e < 5248 then some (9, (e - 4992) / 16)
  else if e < 5312 then some (10, 1)
  else if e < 5824 then some (7, e - 5312)
  else if e < 5952 then some (4, (e - 5824) / 16)
  else if 5960 ≤ e ∧ e ≤ 5965 then some (12, e - 5960)
  else if e < 5984 then none
  else if e < 6240 then some (11, e - 5984)
  else if 6496 ≤ e ∧ e < 6560 then some (13, e - 6496)
  else if 6560 ≤ e ∧ e < 6688 then some (14, e - 6560)
  else none

/-- Owner of an event source (R362, R542); none for an attachment's source while the attachment is unbound. -/
def State.sourceOwner (s : State) (e : Nat) : Option Nat :=
  if 6240 ≤ e ∧ e < 6268 then (s.att (e - 6240)).bound
  else if 6268 ≤ e ∧ e < 6284 then some (e - 6268)
  else if 6284 ≤ e ∧ e < 6300 then some (e - 6284)
  else if 6320 ≤ e ∧ e < 6336 then
    some (if (s.twin (e - 6320)).defined then (s.twin (e - 6320)).owner else 0)
  else match (s.source e).detached with
    | some o => some o
    | none => match sourceResource e with
      | some (c, i) => some (s.owner c i)
      | none => some 0

/-- An MSI-X message: held in the pending bit while the vector is masked or the function is down (R307, R308). -/
def sendMsix (s : State) (fn vec : Nat) : State :=
  let a := s.att fn
  let m := tblGetD a.msix vec {}
  if m.masked || !(a.linkUp && !a.flr && a.bme && a.mse) then s.setAtt fn { a with msixPend := orBit a.msixPend vec }
  else s.emit (.memWrite fn m.addr (leBytes 4 m.data))

/-- Attachments of a kind bound to a partition, lowest first. -/
def State.boundAtts (s : State) (p lo hi : Nat) : List Nat :=
  (List.range 28).filter (fun a => decide (lo ≤ a) && decide (a < hi) && (s.att a).bound == some p)

/-- TARGET signalled: the vector of the lowest-numbered PCIe function, or INT_N low on every chip select (R370). -/
def signalTarget (s : State) (p : Nat) : State :=
  if (s.part p).target = 1 then
    match s.boundAtts p 0 8 with
    | a :: _ => sendMsix s a (s.part p).vector
    | [] => s
  else if (s.part p).target = 2 then
    forEach (s.boundAtts p 8 12) s (fun a s => s.setAtt a { s.att a with intLow := true })
  else s

/-- INT_N of the chip selects bound to a partition: low while FIRED is set and TARGET is INT_N (R370). -/
def intSettle (s : State) (p : Nat) : State :=
  let low := (s.part p).fired && (s.part p).target == 2
  forEach (s.boundAtts p 8 12) s (fun a s => s.setAtt a { s.att a with intLow := low })

/-- The notification test of R369, with `pending` records, the commit time of the oldest and the last head write. -/
def notifyDue (lt pending countMod timeMod oldest headAt : Nat) : Bool :=
  decide (pending ≥ countMod) ||
    (decide (pending ≥ 1) && decide (timeMod ≠ 0) && decide (lt ≥ max oldest headAt + timeMod * 1000))

/-- Pending records of a partition (R369). -/
def Partition.pendingRecs (x : Partition) : Nat := (x.evqTail + 4294967296 - x.evqHead) % 4294967296

/-- The notification of a partition fires when it is armed and due (R369). -/
def testNotify (s : State) (p : Nat) : State :=
  let x := s.part p
  if !x.fired && notifyDue s.lt x.pendingRecs x.countMod x.timeMod (x.evqTimes.headD 0) x.headAt then
    signalTarget (s.setPart p { x with fired := true }) p
  else s

/-- An event record (R363), little-endian. -/
def recordBytes (src node cause flags data time : Nat) : List Byte :=
  leBytes 2 src ++ leBytes 1 node ++ leBytes 1 cause ++ leBytes 1 flags ++ leBytes 3 data ++ leBytes 8 time

/-- Commit a record to a partition's event queue (R364, R366, R371). -/
def commitRecord (s : State) (p src node cause flags data time : Nat) : State :=
  let x := s.part p
  if x.st ≠ 1 then s.count cHubEvqLost 0
  else match x.evq with
    | none => s.count cEvqLost p
    | some q =>
      let f := flags + (if (s.queue q).lostBefore then 4 else 0)
      match putPacket s q (recordBytes src node cause f data time) 0 true with
      | (s, false) => (s.setQueue q { s.queue q with lostBefore := true }).count cEvqLost p
      | (s, true) =>
        let x := s.part p
        let own := node == 0 && s.sourceOwner src == some p
        let sum := if own then listSet x.summary (src / 512) (orBit (x.summary.getD (src / 512) 0) (src / 8 % 64)) else x.summary
        let x := { x with evqTail := (x.evqTail + 1) % 4294967296, evqTimes := x.evqTimes ++ [s.lt], summary := sum }
        testNotify (s.setPart p x) p

/-- Deliver a record of a source: to its owner here, or forwarded as a GRT EVENT frame (R364, R368). -/
def deliverRecord (s : State) (src cause flags data : Nat) : State :=
  match s.sourceOwner src with
  | none => s
  | some p =>
    let f := (s.source src).fwd
    if f ≠ 0 ∧ (s.part p).st ≠ 1 then s.count cHubEvqLost 0
    else if f = 0 then commitRecord s p src 0 cause flags data s.eventTime
    else
      let a : RingAddr := { node := f, part := p }
      let r := beBytes 2 src ++ beBytes 1 0 ++ beBytes 1 cause ++ beBytes 1 flags ++ beBytes 3 data ++ beBytes 8 s.eventTime
      sendVia s qEventTx (macOfNode s.ring.ringId f) (hdrOf s tEvent p a 0 16 []) r

/-- A cause that CAUSE_MASK or CAUSE_OFF_HI holds back (R368). -/
def EvSrc.masks (x : EvSrc) (cause : Nat) : Bool :=
  if 1 ≤ cause ∧ cause ≤ 16 then !bitAt x.mask (cause - 1)
  else if 17 ≤ cause ∧ cause ≤ 32 then bitAt x.offHi (cause - 17)
  else false

/-- Leave storm state when STORM_WINDOW has passed without a record (R373). -/
def EvSrc.settle (x : EvSrc) (now : Nat) : EvSrc :=
  if x.storm && decide (now ≥ x.lastAt + x.stormWin * 1000000) then { x with storm := false, after := true, winAt := none } else x

/-- A notice is raised: masked, counted in a storm, or delivered as one record (R364, R368, R372, R373). -/
def raise (s : State) (src cause data : Nat) : State :=
  let x := (s.source src).settle s.lt
  if x.masks cause then s.setSource src { x with masked := x.masked + 1 }
  else if x.storm then
    s.setSource src { x with suppressed := x.suppressed + 1, stormSup := x.stormSup + 1, lastAt := s.lt }
  else
    let running := match x.winAt with | some t => decide (s.lt < t + x.stormWin * 1000000) | none => false
    let x := if running then { x with winCnt := x.winCnt + 1, lastAt := s.lt }
             else { x with winAt := some s.lt, winCnt := 1, lastAt := s.lt }
    if x.winCnt > x.stormN then
      deliverRecord (s.setSource src { x with storm := true, suppressed := x.suppressed + 1, stormSup := 1 }) src 0xFF 1 x.stormN
    else if x.after then
      deliverRecord (s.setSource src { x with after := false }) src cause 2 (satNat 0xFFFFFF x.stormSup)
    else deliverRecord (s.setSource src x) src cause 0 (data % 16777216)

/-- A notice raised when `b` holds. -/
def raiseIf (s : State) (b : Bool) (src cause data : Nat) : State := if b then raise s src cause data else s

/-- STORM_END: STORM_WINDOW has passed without a record; the source leaves storm state and raises nothing (R373). -/
def execStormEnd (src : Nat) (s : State) : Res :=
  if src < 8192 then .next (s.setSource src ((s.source src).settle s.lt)) else .fault .noSuchUnit

/-- EVENT: a record from another hub is committed with NODE = SRC_NODE (R364, R366, R368). -/
def eventFrame (f : GrtFrame) (s : State) : State :=
  let d := f.payload
  commitRecord s f.hdr.addr.part (beAt d 0 2 % 8192) f.hdr.srcNode (beAt d 3 1) (beAt d 4 1 % 8) (beAt d 5 3) (beAt d 8 8)

end Sys2Proof.Machine
end

