-- ==== Sys2Proof/Machine/Queues.lean ====
section
/-!
DEFINITION. The queue engine: watermark, producer and consumer ports, HOLD view, flush and DMA delivery (R103 to R122).
-/
namespace Sys2Proof.Machine

/-- The watermark evaluation at the end of a cycle (R117). -/
def wmEval (s : State) (q : Nat) : State :=
  let x := s.queue q
  let above := decide (x.wmark ≠ 0) && decide (x.depth ≥ x.wmark)
  if above && x.wmArmed then
    raiseIf (s.setQueue q { x with wmPending := true, wmArmed := false, above := true }) x.noticeEn q 1 x.depth
  else s.setQueue q { x with above := above, wmArmed := x.wmArmed || (!above && !x.wmPending) }

/-- One packet committed earlier becomes visible (R106); the watermark sees it (R117). -/
def showOne (s : State) (q : Nat) : State :=
  let x := s.queue q
  match x.fresh with
  | [] => s
  | k :: r => wmEval (s.setQueue q { x with packets := x.packets ++ [k], fresh := r }) q

/-- HOLD_PRESENT: the head visible packet of a HOLD queue is presented (R114). -/
def holdPresent (s : State) (q : Nat) : State :=
  let x := s.queue q
  if x.enable && x.hold && x.cons == .host && !x.presented && !x.packets.isEmpty then
    s.setQueue q { x with presented := true, presentSeq := x.nextSeq, nextSeq := (x.nextSeq + 1) % 4294967296, holdOffset := 0 }
  else s

/-- The event HOLD_PRESENT (R114). -/
def execHoldPresent (q : Nat) (s : State) : Res := unit q 4096 (holdPresent s q)

/-- Q_STATUS (R110). -/
def Queue.status (x : Queue) : Nat :=
  x.depth % 8388608 + b2n x.packets.isEmpty * 2 ^ 23 + b2n x.underrun * 2 ^ 24 + b2n x.wmPending * 2 ^ 25
    + b2n x.above * 2 ^ 26 + b2n x.isOpen * 2 ^ 27 + b2n x.flushPending * 2 ^ 28 + b2n x.presented * 2 ^ 29
    + b2n x.poison * 2 ^ 30 + b2n x.enable * 2 ^ 31 + x.packets.length % 8388608 * 2 ^ 32

/-- The descriptor of a queue (R103), for its owner partition. -/
def Queue.descriptor (x : Queue) (owner : Nat) : List Byte :=
  let first := (x.packets.head?.bind (fun k => k.cells.head?))
  let written := ((x.packets ++ x.fresh ++ x.arriving ++ x.opn.toList).flatMap (fun k => k.cells)).getLast?
  leBytes 4 (first.getD 0 + b2n first.isSome * 2 ^ 22) ++ leBytes 4 (written.getD 0 + b2n written.isSome * 2 ^ 22)
    ++ leBytes 4 x.depth ++ leBytes 2 x.openCells
    ++ leBytes 2 (b2n x.enable + b2n x.hold * 2 + b2n x.pin * 4 + b2n x.dma * 8 + b2n x.urNotice * 16 + b2n x.noticeEn * 32 + owner * 256)
    ++ leBytes 4 x.packets.length ++ leBytes 4 x.limit ++ leBytes 4 x.wmark
    ++ leBytes 4 (b2n x.packets.isEmpty + b2n x.underrun * 2 + b2n x.wmPending * 4 + b2n x.wmArmed * 8 + b2n x.above * 16
        + b2n x.flushPending * 32 + b2n x.presented * 64 + b2n x.poison * 128)

/-- Byte length of the head visible packet, 0 if none (HEAD_LEN, R110). -/
def Queue.headLen (x : Queue) : Nat := match x.packets with | k :: _ => k.bytes.length | [] => 0

/-- HOLD_INFO (R110): a STREAM queue, and a disabled one (R104), reads with PRESENT 0. -/
def holdInfo (s : State) (q : Nat) : Nat :=
  let x := s.queue q
  match x.packets with
  | k :: _ =>
    if x.enable && x.hold && x.presented then
      k.bytes.length + 2 ^ 22 + b2n (k.cells.any (fun c => s.pool.poisoned.contains c)) * 2 ^ 23 + x.presentSeq * 2 ^ 32
    else 0
  | [] => 0

/-- PROD_STATUS (R110). -/
def Queue.prodStatus (x : Queue) : Nat := x.openBytes + b2n x.isOpen * 2 ^ 22 + b2n x.refused * 2 ^ 23

/-- Key under which POP_LAST of a requester is kept: its attachment, or 28 and the node of a GRT requester (R110). -/
def accKey (a : Acc) : Nat := match a.att with | some n => n | none => 28 + a.node

/-- The owner's access to a port of queue `q`; others receive CA (R110). -/
def ownQueue (s : State) (p q : Nat) (f : Ans) : Ans := if s.owns p 5 q then f else ansCa s

/-- A PROD_DATA write of 4 or 8 bytes (R108, R110). -/
def prodDataReg (s : State) (q : Nat) (d : List Byte) : State :=
  let x := s.queue q
  if x.prod ≠ .host then s.count cProdConflict q
  else if x.refused then s
  else match appendOpen s q d 0 false with
    | (s, true) => s
    | (s, false) => s.setQueue q { s.queue q with refused := true }

/-- PROD_DATA write (R110). -/
def execProdData (a : Acc) (q : Nat) (data : List Byte) (s : State) : Res :=
  unit q 4096 (accessIn a s (fun s p =>
    if data.length = 4 ∨ data.length = 8 then ownQueue s p q (ansOk (prodDataReg s q data)) else ansUr s)).s

/-- `n` bytes removed from the end of the open packet, its unneeded cells freed (TRIM, R110). -/
def trimOpen (s : State) (q n : Nat) : State :=
  match (s.queue q).opn with
  | none => s
  | some k =>
    let b := k.bytes.take (k.bytes.length - n)
    let keep := cellsFor b.length
    let s := freeAll s (k.cells.drop keep)
    s.setQueue q { s.queue q with opn := some { k with bytes := b, cells := k.cells.take keep } }

/-- A PROD_COMMIT write with COMMIT (R106, R108, R110). -/
def prodCommitReg (s : State) (q trim : Nat) : State :=
  let x := s.queue q
  if x.prod ≠ .host then s.count cProdConflict q
  else if x.refused then (s.setQueue q { x with refused := false }).countIf (!x.enable) cProdDisabled q
  else if !x.enable then abortOpen (s.count cProdDisabled q) q
  else if trim > x.lastWrite ∨ (x.lastWrite = 4 ∧ trim > 3) then abortOpen (s.count cBadTrim q) q
  else commitOpen (trimOpen s q trim) q none

/-- PROD_COMMIT write with COMMIT = 1 (R106, R110). -/
def execProdCommit (a : Acc) (q trim : Nat) (s : State) : Res :=
  unit q 4096 (accessIn a s (fun s p => ownQueue s p q (ansOk (prodCommitReg s q (trim % 8))))).s

/-- A PROD_COMMIT write with ABORT (R107, R110); it clears REFUSED. -/
def prodAbortReg (s : State) (q : Nat) : State :=
  let x := s.queue q
  if x.prod ≠ .host then s.count cProdConflict q
  else abortOpen (s.setQueue q { x with refused := false }) q

/-- PROD_COMMIT write with ABORT = 1 (R107). -/
def execProdAbort (a : Acc) (q : Nat) (s : State) : Res :=
  unit q 4096 (accessIn a s (fun s p => ownQueue s p q (ansOk (prodAbortReg s q)))).s

/-- A FLUSH write of `b` in bit 0; a firmware queue is not changed and counts the write (R105, R116). -/
def flushReg (s : State) (q : Nat) (b : Bool) : State :=
  if (s.queue q).fwUse ≠ 0 then s.count cModeMisuse q else if b then flushReq s q else s

/-- FLUSH write (R116). -/
def execFlush (a : Acc) (q : Nat) (s : State) : Res :=
  unit q 4096 (accessIn a s (fun s p => ownQueue s p q (ansOk (flushReg s q true)))).s

/-- Slots pending in the DMA ring of a queue (R121, R370). -/
def Queue.ringPending (x : Queue) : Nat :=
  let n := match x.ring with | some r => r.slots | none => 64
  (x.dmaTail + n - x.dmaHead % n) % n

/-- The notification of a DMA ring, under its owner's COUNT_MOD and TIME_MOD (R369, R370). -/
def testRing (s : State) (q : Nat) : State :=
  let x := s.queue q
  match x.ring with
  | none => s
  | some r =>
    let o := s.owner 5 q
    if !r.fired && notifyDue s.lt x.ringPending (s.part o).countMod (s.part o).timeMod r.since r.since then
      let s := s.setQueue q { x with ring := some { r with fired := true } }
      match s.boundAtts o 0 8 with
      | f :: _ => sendMsix s f r.vector
      | [] => s
    else s

/-- A DMA_HEAD write (R105, R121, R370). -/
def dmaHeadReg (s : State) (q v : Nat) : State :=
  let x := s.queue q
  let n := match x.ring with | some r => r.slots | none => 64
  if x.fwUse ≠ 0 then s.count cModeMisuse q
  else if v ≥ n ∨ (x.dmaTail + n - v) % n > x.ringPending then s.count cDmaBadHead q
  else testRing (s.setQueue q
    { x with dmaHead := v, ring := x.ring.map (fun r => { r with fired := false, since := s.lt }) }) q

/-- DMA_HEAD write (R121). -/
def execDmaHeadWrite (a : Acc) (q v : Nat) (s : State) : Res :=
  unit q 4096 (accessIn a s (fun s p => ownQueue s p q (ansOk (dmaHeadReg s q v)))).s

/-- POP_LAST (R110). -/
def popLastOf (valid : Nat) (eop underrun poison : Bool) : Nat := valid + b2n eop * 16 + b2n underrun * 32 + b2n poison * 64

/-- The consumer port serves STREAM pops of this queue (R110). -/
def Queue.popOk (x : Queue) : Bool := x.cons == .host && !x.hold

/-- A POP read that finds no visible packet (R112). -/
def popEmpty (s : State) (q key n : Nat) : List Byte × State :=
  let x := s.queue q
  let s := (s.setQueue q { x with underrun := true, popLast := tblSet x.popLast key (popLastOf 0 false true false) }).count cUnderruns q
  (leBytes n x.lastPop, raiseIf s (!x.underrun && x.urNotice && x.noticeEn) q 2 0)

/-- A POP read that takes the next bytes of head packet `k` (R111). -/
def popTake (s : State) (q key n : Nat) (k : Packet) : List Byte × State :=
  let x := s.queue q
  let b := bytesAt k.bytes x.popped n
  let valid := min n (k.bytes.length - x.popped)
  let eop := decide (x.popped + n ≥ k.bytes.length)
  let c0 := x.popped / 128
  let here := (k.cells.drop c0).take ((x.popped + valid - 1) / 128 - c0 + 1)
  let first := if x.popped % 128 = 0 then here else here.drop 1
  let bad := here.any (fun c => s.pool.poisoned.contains c)
  let s := readCells s q first
  let s := s.setQueue q { s.queue q with
    popped := x.popped + n, lastPop := leNat b
    popLast := tblSet x.popLast key (popLastOf valid eop false bad) }
  (b, if eop then wmEval (releaseHead s q) q else s)

/-- A POP read of `n` bytes (R110 to R113). -/
def popReg (s : State) (q key n : Nat) (spec : Bool) : List Byte × State :=
  let x := s.queue q
  if !x.popOk then (leBytes n x.status, s.count cModeMisuse q)
  else if spec then (leBytes n x.status, s)
  else match (if x.enable then x.packets else []) with
    | [] => popEmpty s q key n
    | k :: _ => popTake s q key n k

/-- A HOLD_OFFSET write (R110, R114). -/
def holdOffsetReg (s : State) (q v : Nat) : State :=
  let x := s.queue q
  if x.cons ≠ .host ∨ !x.hold then s.count cModeMisuse q
  else s.setQueue q { x with holdOffset := v / 4096 % 512 * 4096 }

/-- HOLD_OFFSET write (R110). -/
def execHoldOffsetWrite (a : Acc) (q v : Nat) (s : State) : Res :=
  unit q 4096 (accessIn a s (fun s p => ownQueue s p q (ansOk (holdOffsetReg s q v)))).s

/-- A HOLD_ACK write (R114, R115). -/
def holdAckReg (s : State) (q seq : Nat) : State :=
  let x := s.queue q
  if x.cons ≠ .host ∨ !x.hold then s.count cModeMisuse q
  else if x.enable && x.presented && seq == x.presentSeq then wmEval (releaseHead s q) q
  else s.count cAckStale q

/-- HOLD_ACK write (R114). -/
def execHoldAck (a : Acc) (q seq : Nat) (s : State) : Res :=
  unit q 4096 (accessIn a s (fun s p => ownQueue s p q (ansOk (holdAckReg s q seq)))).s

/-- A w1c write of Q_STATUS: UNDERRUN, WM_PENDING and POISON (R110); the watermark is evaluated after it (R117). -/
def qStatusReg (s : State) (q v : Nat) : State :=
  let x := s.queue q
  wmEval (s.setQueue q { x with underrun := x.underrun && !bitAt v 24, wmPending := x.wmPending && !bitAt v 25,
                                poison := x.poison && !bitAt v 30 }) q

/-- Q_STATUS write with WM_PENDING 1: the watermark notice is acknowledged (R117). -/
def execWmPendingAck (a : Acc) (q : Nat) (s : State) : Res :=
  unit q 4096 (accessIn a s (fun s p => ownQueue s p q (ansOk (qStatusReg s q (2 ^ 25))))).s

/-- One slot of a packet as the DMA engine writes it (R120). -/
def dmaSlot (r : DmaRing) (k : Packet) (bad : Bool) (count i : Nat) : List Byte :=
  leBytes 4 k.bytes.length ++ leBytes 4 r.seq ++ leBytes 2 i ++ leBytes 2 count ++ leBytes 4 (b2n bad)
    ++ (k.bytes.drop (i * (r.slotSize - 16))).take (r.slotSize - 16)

/-- Delivery of the head packet into the host ring of function `f` (R120, R121). -/
def dmaDeliver (s : State) (q f : Nat) (r : DmaRing) (k : Packet) : State :=
  let n := (k.bytes.length + (r.slotSize - 16) - 1) / (r.slotSize - 16)
  let x := s.queue q
  if n > r.slots - 1 then wmEval ((dropPacket s q).count cDmaOversize q) q
  else if n > r.slots - 1 - x.ringPending then s
  else
    let bad := k.cells.any (fun c => s.pool.poisoned.contains c)
    let s := readCells s q k.cells
    let s := forEach (List.range n) s (fun i s =>
      s.emit (.memWrite f (r.base + (x.dmaTail + i) % r.slots * r.slotSize) (dmaSlot r k bad n i)))
    let tail := (x.dmaTail + n) % r.slots
    let s := s.emit (.memWrite f r.tailWb (leBytes 8 tail))
    let r := { r with seq := (r.seq + 1) % 4294967296, since := if x.ringPending = 0 then s.lt else r.since }
    let s := s.setQueue q { s.queue q with dmaTail := tail, ring := some r }
    testRing (wmEval (releaseHead s q) q) q

/-- A PCIe function that can move data to the host: link up, no function-level reset, bus mastering on (R121). -/
def Att.masterUp (a : Att) : Bool := a.linkUp && !a.flr && a.bme

/-- The event DMA_PACKET_DELIVER: the engine delivers the head packet when its slots are free and the function is up (R120, R121). -/
def dmaRun (s : State) (q : Nat) : State :=
  let x := s.queue q
  match x.ring, x.packets, s.boundAtts (s.owner 5 q) 0 8 with
  | some r, k :: _, f :: _ => if x.dma && x.enable && x.cons == .dma && (s.att f).masterUp then dmaDeliver s q f r k else s
  | _, _, _ => s

/-- The event DMA_PACKET_DELIVER (R120). -/
def execDmaPacketDeliver (q : Nat) (s : State) : Res := unit q 4096 (dmaRun s q)

/-- NOTIFICATION_TIMEOUT: the time trigger of a partition's moderation is tested, for its event queue and its DMA rings
(R369, R370). -/
def execNotificationTimeout (p : Nat) (s : State) : Res :=
  unit p 16 (forEach (s.queues.filter (fun e => s.owner 5 e.1 == p)) (testNotify s p) (fun e s => testRing s e.1))

/-- A read of the HOLD view (R110, R114): bytes from HOLD_OFFSET; zeros where nothing is presented. -/
def holdView (s : State) (q off len : Nat) : Ans :=
  let x := s.queue q
  if x.cons ≠ .host then ansOk (s.count cModeMisuse q) (zeros len)
  else match x.packets with
    | k :: _ =>
      if x.enable && x.hold && x.presented then
        let b := bytesAt k.bytes (x.holdOffset + off) len
        let c0 := (x.holdOffset + off) / 128
        ansOk (readCells s q ((k.cells.drop c0).take ((x.holdOffset + off + len - 1) / 128 - c0 + 1))) b
      else ansOk s (zeros len)
    | [] => ansOk s (zeros len)

/-- A read of the status and producer block (R110). -/
def statusRead (s : State) (q r : Nat) : Nat :=
  let x := s.queue q
  if r = 0x00 then x.status
  else if r = 0x08 then x.headLen
  else if r = 0x20 then x.prodStatus
  else if r = 0x30 then x.dmaHead
  else if r = 0x38 then x.dmaTail
  else 0

/-- A read of the consumer block (R110): POP has its side effect, the others none. -/
def consumerRead (s : State) (a : Acc) (q r len : Nat) : Ans :=
  let x := s.queue q
  if r = 0 then let o := popReg s q (accKey a) len a.spec; ansOk o.2 o.1
  else if r ≥ 0x28 then ansOk s (zeros 8)
  else if x.cons ≠ .host then ansOk (s.count cModeMisuse q) (zeros 8)
  else if r = 0x08 then ansOk s (leBytes 8 (tblGetD x.popLast (accKey a) 0))
  else if r = 0x10 then ansOk s (leBytes 8 (holdInfo s q))
  else if r = 0x18 then ansOk s (leBytes 8 x.holdOffset)
  else ansOk s (zeros 8)

/-- The queue that an offset of space 3 names for partition `p`: in a KTX22 partition, the view's (R358). -/
def State.viewQueue (s : State) (p q : Nat) : Option Nat :=
  if (s.part p).ktx22 then (if q < 256 then some ((s.part p).qbase + q) else none) else some q

/-- A read of space 3, as partition `p` (R109, R110): form first, then ownership. -/
def queueRead (a : Acc) (p off len : Nat) (s : State) : Ans :=
  if off < 0x200000 then
    let r := off % 256
    match s.viewQueue p (off % 0x100000 / 256) with
    | none => ansUr s
    | some q =>
      if off < 0x100000 then
        if len = 8 ∧ r % 8 = 0 then
          if s.owns p 5 q ∨ (s.mayRead p 5 q ∧ r ≤ 8) then ansOk s (leBytes 8 (statusRead s q r)) else ansCa s
        else ansUr s
      else if (len = 8 ∧ r % 8 = 0) ∨ (len = 4 ∧ r = 0) then ownQueue s p q (consumerRead s a q r len)
      else ansUr s
  else if 0x1000000 ≤ off ∧ off < 0x2000000 then
    match s.viewQueue p ((off - 0x1000000) / 4096) with
    | none => ansUr s
    | some q => if off % 4096 + len ≤ 4096 then ownQueue s p q (holdView s q (off % 4096) len) else ansUr s
  else ansUr s

/-- A write of the status and producer block (R110). -/
def statusWrite (s : State) (q r : Nat) (d : List Byte) : State :=
  let v := leNat d
  if r = 0x00 then qStatusReg s q v
  else if r = 0x10 then prodDataReg s q d
  else if r = 0x18 then
    if bitAt v 1 then prodAbortReg s q else if bitAt v 0 then prodCommitReg s q (bitsAt v 4 3)
    else if (s.queue q).prod ≠ .host then s.count cProdConflict q else s
  else if r = 0x28 then flushReg s q (bitAt v 0)
  else if r = 0x30 then dmaHeadReg s q v
  else s

/-- A write of the consumer block (R110). -/
def consumerWrite (s : State) (q r v : Nat) : State :=
  if r = 0x18 then holdOffsetReg s q v
  else if r = 0x20 then holdAckReg s q (v % 4294967296)
  else if r < 0x28 ∧ (s.queue q).cons ≠ .host then s.count cModeMisuse q
  else s

/-- A write of space 3, as partition `p` (R109, R110, R115). -/
def queueWrite (p off : Nat) (d : List Byte) (s : State) : Ans :=
  if off < 0x200000 then
    let r := off % 256
    match s.viewQueue p (off % 0x100000 / 256) with
    | none => ansUr s
    | some q =>
      if off < 0x100000 then
        if (d.length = 8 ∧ r % 8 = 0) ∨ (d.length = 4 ∧ r = 0x10) then ownQueue s p q (ansOk (statusWrite s q r d)) else ansUr s
      else if d.length = 8 ∧ r % 8 = 0 then ownQueue s p q (ansOk (consumerWrite s q r (leNat d)))
      else ansUr s
  else ansUr s

end Sys2Proof.Machine
end

