-- ==== Sys2Proof/Machine/Sched.lean ====
section
/-!
DEFINITION. Egress scheduling: counted length, shift rosters, eligibility, selection, ageing and lateness, transmission,
the canary tap and the depth and sojourn sampler (chapter 05, R91 to R95).
-/
namespace Sys2Proof.Machine

/-- The frame in a producer's packet (R541): padded with zero bytes to 60, FCS counted. -/
def frameOfPacket (grtType : Nat) (b : List Byte) : Frame :=
  let b := if b.length < 60 then fitBytes 60 b else b
  let tagged := beAt b 12 2 = 0x8100
  let t := if tagged then 16 else 12
  let ty := beAt b t 2
  let r := b.drop (t + 2)
  { dmac := beAt b 0 6, smac := beAt b 6 6
    tag := if tagged then some (beAt b 14 2 / 8192, beAt b 14 2 % 4096) else none
    etherType := ty
    grt := if ty = grtType ∧ r.length ≥ 24 then some (grtHdrOf r) else none
    payload := if ty = grtType ∧ r.length ≥ 24 then r.drop 24 else r
    len := b.length + 4 }

/-- A frame's bytes as the MAC has them, from destination MAC to the last byte before the FCS: the HSR tag stands before the
EtherType (R46), its fields as IEC 62439-3 has them (log 71). -/
def wireBytes (f : Frame) : List Byte :=
  let r := beBytes 2 f.etherType ++ (match f.grt with | some h => hdrBytes h | none => []) ++ f.payload
  let b := beBytes 6 f.dmac ++ beBytes 6 f.smac
    ++ (match f.tag with | some (pcp, vid) => beBytes 2 0x8100 ++ beBytes 2 (pcp * 8192 + vid) | none => [])
    ++ (match f.hsr with | some n => beBytes 2 0x892F ++ beBytes 2 (f.path * 4096 + (4 + r.length) % 4096) ++ beBytes 2 n | none => []) ++ r
  if b.length < 60 then fitBytes 60 b else b

/-- The FCS of a frame (R84, R85): right, or the complement of the right one on a stomped frame. -/
def fcsBytes (b : List Byte) (stomped : Bool) : List Byte := leBytes 4 (if stomped then crc32 b ^^^ 0xFFFFFFFF else crc32 b)

/-- The multicast bit of a MAC. -/
def isMulticast (mac : Nat) : Bool := bitAt mac 40

/-- Link rate of a port in Mbit/s: port 14 is faster than any, port 15 counts as 10 Gbit/s (R82, R124). -/
def State.rate (s : State) (p : Nat) : Nat := if p = 14 then 1000000 else if p = 15 then 10000 else (s.port p).link.rate

/-- A port can transmit: its link is up with keys, and its packet numbers are not exhausted (R68, R69). -/
def State.canSend (s : State) (p : Nat) : Bool :=
  p == 15 || ((s.port p).link.up && !(s.port p).link.keyWait && !(s.port p).macsec.exhausted)

/-- Counted length at port `p` of a frame of `len` bytes, its HSR tag included (R124). -/
def State.counted (s : State) (p len : Nat) : Nat :=
  let n : Int := (len : Nat) + (if (s.port p).macsec.enable then 24 else 0) + (s.port p).overhead
  if n < 1 then 1 else n.toNat

/-- The entry of a roster in force at position `pos` of its cycle, with the position at which it ends (R132). -/
def entryAt (cycle pos : Nat) : List RosterEntry → Nat → Nat → RosterEntry × Nat × Nat
  | [], k, _ => ({}, cycle, k)
  | [e], k, _ => (e, cycle, k)
  | e :: r, k, from_ => if pos < from_ + e.interval * 8 then (e, min cycle (from_ + e.interval * 8), k)
                        else entryAt cycle pos r (k + 1) (from_ + e.interval * 8)

/-- Position of an instant in a roster's cycle (R132). -/
def Roster.pos (r : Roster) (t : Nat) : Nat := ((t : Int) - (r.base : Int)).emod r.cycle |>.toNat

/-- GATES of a roster at an instant, and the instant at which its entry ends (R132). -/
def Roster.gatesAt (r : Roster) (t : Nat) : Nat × Nat :=
  let e := entryAt r.cycle (r.pos t) r.entries 0 0
  (e.1.gates, t + (e.2.1 - r.pos t))

/-- The roster that drives a port's gates at an instant, on the combined timeline, and when that may change (R132, R134). -/
def Port.rosterAt (p : Port) (t : Nat) : Option Roster × Option Nat :=
  match p.gateOffAt with
  | some g => if t ≥ g then (none, none) else (p.operRoster, some g)
  | none => match p.switchAt with
    | some x => if t ≥ x then (p.adminRoster, none) else (p.operRoster, some x)
    | none => (p.operRoster, none)

/-- The gate of class `c` is open from `t` without a break up to `upto`, followed over at most `fuel` entries (R132). -/
def gateOpenFor (p : Port) (c upto : Nat) : Nat → Nat → Bool
  | 0, _ => true
  | n + 1, t =>
    match p.rosterAt t with
    | (none, none) => true
    | (none, some x) => if x ≥ upto then true else gateOpenFor p c upto n x
    | (some r, x) =>
      let g := r.gatesAt t
      if !bitAt g.1 c then false
      else
        let e := match x with | some x => min g.2 x | none => g.2
        if e ≥ upto then true else gateOpenFor p c upto n e

/-- The gate of class `c` is open now and until `counted` bytes have been sent at the port's rate (R126, R132). -/
def State.gateFits (s : State) (p c counted : Nat) : Bool :=
  if !(s.port p).gateEn then true
  else
    let d := (counted * 8000 + (s.rate p - 1)) / s.rate p
    gateOpenFor (s.port p) c (s.work + d) (d / 8 + 4) s.work

/-- The head copy of a class. -/
def Port.head (p : Port) (c : Nat) : Option Copy := (p.queues.getD c []).head?

/-- A class of a port is eligible (R126). -/
def State.eligible (s : State) (p c : Nat) : Bool :=
  match (s.port p).head c with
  | none => false
  | some k =>
    (match k.launch with | some t => decide (t ≤ s.work) | none => true) && s.gateFits p c (s.counted p k.frame.len)

/-- A copy waiting in a class is discarded: its cells are freed and it is counted (R91, R138). -/
def dropHead (s : State) (p c : Nat) (ctr : CtrId) : State :=
  match (s.port p).head c with
  | none => s
  | some k =>
    let s := s.setPort p { s.port p with queues := listSet (s.port p).queues c ((s.port p).queues.getD c []).tail }
    (freeCopy s k).count ctr (8 * p + c)

/-- A copy is beyond its late limit (R136, R138). -/
def State.tooLate (s : State) (p : Nat) (k : Copy) : Bool :=
  k.badLaunch || (match k.launch with | some t => decide (s.work > t + (s.port p).lateLimit) | none => false)

/-- A copy is beyond the residence limit of its class (R91). -/
def State.tooOld (s : State) (k : Copy) : Bool := decide (s.work > k.since + s.sw.ageLimit.getD k.cls 10000 * 1000)

/-- A new head copy of a class is checked for age and lateness, and dropped until one passes (R91, R138). -/
def newHead (s : State) (p c : Nat) : Nat → State
  | 0 => s
  | n + 1 =>
    match (s.port p).head c with
    | none => s
    | some k =>
      if s.tooOld k then newHead (dropHead s p c cDropAge) p c n
      else if s.tooLate p k then newHead (dropHead s p c cDropLate) p c n
      else s

/-- Copies waiting in a class. -/
def Port.waiting (p : Port) (c : Nat) : Nat := (p.queues.getD c []).length

/-- A copy joins its class; the first one becomes the head and is checked (R91, R123, R138). -/
def joinClass (s : State) (k : Copy) : State :=
  let s := s.pushCopy k
  if (s.port k.outPort).waiting k.cls = 1 then newHead s k.outPort k.cls 1 else s

/-- Highest class of the weighted group is 7 - STRICT_COUNT; class at place `i` of the group (R127). -/
def Port.groupClass (p : Port) (i : Nat) : Nat := 7 - p.strictCount - i

/-- The weighted part of select() (R127), over at most `fuel` looks. -/
def selectWrr (s : State) (p : Nat) : Nat → Option Nat × State
  | 0 => (none, s)
  | n + 1 =>
    let x := s.port p
    let c := x.groupClass x.rr
    let e := s.eligible p c
    let isFresh := x.freshRr.getD c true
    let d := x.deficit.getD c 0 + (if isFresh && e then ((x.weight.getD c 1 * 64 : Nat) : Int) else 0)
    let x := { x with freshRr := listSet x.freshRr c false, deficit := listSet x.deficit c d }
    let need := match x.head c with | some k => s.counted p k.frame.len | none => 0
    if e && decide (d ≥ (need : Int)) then (some c, s.setPort p { x with deficit := listSet x.deficit c (d - need) })
    else
      let x := if x.waiting c = 0 then { x with deficit := listSet x.deficit c 0 } else x
      let r := (x.rr + 1) % (8 - x.strictCount)
      selectWrr (s.setPort p { x with rr := r, freshRr := listSet x.freshRr (x.groupClass r) true }) p n

/-- select() of R127. -/
def selectClass (s : State) (p : Nat) : Option Nat × State :=
  let k := (s.port p).strictCount
  match ((List.range k).map (fun i => 7 - i)).find? (fun c => s.eligible p c) with
  | some c => (some c, s)
  | none => if (List.range (8 - k)).any (fun i => s.eligible p (7 - k - i)) then selectWrr s p 512 else (none, s)

/-- A protected frame from SecTAG to ICV (R65): EtherType, TCI and AN without an SCI, short length, packet number as IEEE 802.1AE lays
them out (log 66), then everything after the source MAC, encrypted. -/
def secBytes (a : Sa) (an pn : Nat) (f : Frame) : List Byte :=
  let b := wireBytes f
  let plain := b.drop 12
  let tag := beBytes 2 0x88E5 ++ beBytes 1 (0x0C + an) ++ beBytes 1 (if plain.length < 48 then plain.length else 0) ++ beBytes 4 pn
  tag ++ Config.gcmSeal a.suite a.key a.salt a.ssci pn (b.take 12 ++ tag) plain

/-- The packet number of a frame protected at transmission; PN_WARN and PN_EXHAUSTED at their thresholds (R66, R69). -/
def protectTx (s : State) (p : Nat) (f : Frame) : Frame × State :=
  let m := (s.port p).macsec
  match tblGet m.txSa m.txAn with
  | none => (f, s)
  | some a =>
    if !m.enable || f.etherType == 0x88F7 then (f, s)
    else
      let pn := a.nextPn
      let short := decide (a.suite < 2)
      let warn := short && decide (pn ≥ 0xC0000000) && !a.warned
      let a := { a with nextPn := pn + 1, warned := a.warned || warn }
      let stop := short && decide (pn + 1 ≥ 0xFFFFFFFF)
      let m := { m with txSa := tblSet m.txSa m.txAn a, exhausted := stop }
      let s := s.setPort p { s.port p with macsec := m }
      let s := raiseIf s warn (srcPort p 3) 1 m.txAn
      ({ f with macsec := some (m.txAn, pn), sec := secBytes a m.txAn pn f }, raiseIf s stop (srcPort p 4) 1 m.txAn)

/-- The chosen head copy starts its transmission (R128). -/
def startTx (s : State) (p c : Nat) : State :=
  match (s.port p).head c with
  | none => s
  | some k =>
    let x := s.port p
    let s := s.setPort p { x with queues := listSet x.queues c (x.queues.getD c []).tail }
    let (f, s) := protectTx s p k.frame
    let s := s.setPort p { s.port p with sending := some { k with frame := f, startAt := s.lt, startWork := s.work } }
    newHead s p c (x.waiting c)

/-- select() and the start of the chosen copy; a copy found late is dropped and another is chosen (R127, R138). -/
def selectStart (s : State) (p : Nat) : Nat → State
  | 0 => s
  | n + 1 =>
    match selectClass s p with
    | (none, s) => s
    | (some c, s) =>
      match (s.port p).head c with
      | none => s
      | some k =>
        if s.tooLate p k then
          let s := dropHead s p c cDropLate
          selectStart (newHead s p c ((s.port p).waiting c)) p n
        else startTx s p c

/-- Every waiting copy of a port whose packet numbers have run out is dropped and counted (R69; log 66). -/
def dropStopped (s : State) (p : Nat) : State :=
  let l := (s.port p).queues.flatMap id
  let s := s.setPort p { s.port p with queues := List.replicate 8 [] }
  forEach l s (fun k s => (freeCopy s k).count cMacsecDrop p)

/-- An idle port that may send selects (R127). -/
def trySelect (s : State) (p : Nat) : State :=
  if (s.port p).macsec.exhausted then dropStopped s p
  else if (s.port p).sending.isNone && s.canSend p then selectStart s p (sumNat ((s.port p).queues.map List.length)) else s

/-- The TIMESTAMP of an instant of the working clock, in the TIME_NOW layout (R94, R149). -/
def State.stamp (s : State) (ns : Nat) : Nat := timeLayout s.time { t := ns * nsUnit }

/-- One canary record (R94): the first 128 bytes of the frame with its FCS. -/
def canaryRecord (s : State) (r : Nat) (x : Canary) (cls since : Nat) (bad stomped cut : Bool) (f : Frame) (fcs : List Byte) : List Byte :=
  let b := (wireBytes f ++ fcs).take 128
  leBytes 1 r ++ leBytes 1 (x.dir + b2n bad * 2 + b2n stomped * 4 + b2n (decide (f.len > 128)) * 8 + b2n cut * 16)
    ++ leBytes 1 x.port ++ leBytes 1 cls ++ leBytes 2 f.len ++ leBytes 2 b.length ++ leBytes 16 (s.stamp since)
    ++ leBytes 4 x.seq ++ leBytes 4 (x.seen + 1) ++ b

/-- A rule's sample: charged to its queue and the pool, never to the reserve (R94, R95). A sample that is refused takes a SEQ too, and
counts only in CANARY_DROP unless its queue has counted the refusal (log 69). -/
def canarySample (s : State) (r cls since : Nat) (bad stomped cut : Bool) (f : Frame) (fcs : List Byte) : State :=
  let x := s.canary r
  let rec_ := canaryRecord s r x cls since bad stomped cut f fcs
  let s := s.setCanary r { x with count := 0, seq := (x.seq + 1) % 4294967296, seen := x.seen + 1 }
  if s.freeCells < s.pool.reserve + cellsFor rec_.length then s.count cCanaryDrop r
  else match putPacket s x.queue rec_ 0 false with
    | (s, true) => (s.setCanary r { s.canary r with seen := 0 }).count cCanaryTaken r
    | (s, false) => s.count cCanaryDrop r

/-- A frame of a port, direction and class passes every canary rule that matches it (R93). -/
def canaryTap (s : State) (dir port cls since : Nat) (bad stomped cut : Bool) (f : Frame) (fcs : List Byte) : State :=
  forEach s.sw.canaries s (fun e s =>
    let x := s.canary e.1
    if x.enable && x.dir == dir && x.port == port && bitAt x.classMask cls then
      if x.count + 1 ≥ x.n then canarySample s e.1 cls since bad stomped cut f fcs
      else s.setCanary e.1 { x with count := x.count + 1, seen := x.seen + 1 }
    else s)

/-- A stomped copy stops at its byte `n`, where four bytes of complemented CRC end it (R85). -/
def stopFrame (f : Frame) (n : Nat) : Frame := { f with len := n + 4, payload := f.payload.take (n - frameHead f) }

/-- What leaves of a copy: the whole frame, or what the transmitter had sent when its cause was found (R85). -/
def Copy.sent (k : Copy) : Frame := match k.stopAt with | some n => if n + 4 < k.frame.len then stopFrame k.frame n else k.frame | none => k.frame

/-- The copy in transmission has been sent: its cells are freed, the frame has left, and counters follow (R87, R97); a copy whose tail
is still arriving has not been sent (R82). -/
def finishTx (s : State) (p : Nat) : Option Copy × State :=
  match (s.port p).sending with
  | none => (none, s)
  | some k =>
    if !k.whole then (none, s)
    else
      let s := freeCopy (s.setPort p { s.port p with sending := none }) k
      let f := k.sent
      let s := ((s.count cTxFrames p).count cTxBytes p f.len).count (if k.cut then cTxCut else cTxStored) p
      let s := s.emit (.frame p f k.dead)
      (some k, canaryTap s 1 p k.cls k.startWork k.dead k.dead k.cut f (fcsBytes (wireBytes f) k.dead))

/-- Bytes that a port of rate `rate` Mbit/s moves in `ns`. -/
def bytesIn (rate ns : Nat) : Nat := ns * rate / 8000

/-- The cells that the egress of port `p` has read by now are freed (R87). -/
def drainSending (s : State) (p : Nat) : State :=
  match (s.port p).sending with
  | none => s
  | some k =>
    let n := min (bytesIn (s.rate p) (s.lt - k.startAt) / 128 - k.gone) (k.cells.length - 1)
    if n = 0 then s
    else
      let s := s.setPort p { s.port p with sending := some { k with cells := k.cells.drop n, gone := k.gone + n } }
      let s := forEach ((k.cells.take n).filter (65536 ≤ ·)) s (fun _ s => extMove s)
      freeCopy s { k with cells := k.cells.take n }

/-- SELECT_RETRY: select() runs again on an idle port (R127). -/
def execSelectRetry (port : Nat) (s : State) : Res := if port < 16 ∧ port ≠ 14 then .next (trySelect s port) else .fault .noSuchUnit

/-- LAUNCH_TIME_REACHED: a head copy has become eligible; select() runs again (R127, R137). -/
def execLaunchTimeReached (port cls : Nat) (s : State) : Res :=
  if port < 16 ∧ port ≠ 14 ∧ cls < 8 then
    .next (match (s.port port).head cls with
      | some k => (match k.launch with
        | some t => if s.work ≥ t then trySelect s port else s
        | none => s)
      | none => s)
  else .fault .noSuchUnit

/-- The gates of a port at the present instant: the entry in force is noted, and a pending GATE_EN change takes effect (R132, R134). -/
def gateStep (s : State) (p : Nat) : State :=
  let x := s.port p
  let x := match x.gateOffAt with
    | some g => if s.work ≥ g then { x with gateEn := false, gateOffAt := none } else x
    | none => x
  let k := match x.operRoster with | some r => (entryAt r.cycle (r.pos s.work) r.entries 0 0).2.2 | none => 0
  trySelect (s.setPort p { x with curEntry := k }) p

/-- ROSTER_ENTRY_BOUNDARY: the gate state changes and select() runs again (R127, R132). -/
def execRosterEntryBoundary (port : Nat) (s : State) : Res :=
  if port < 16 ∧ port ≠ 14 then .next (gateStep s port) else .fault .noSuchUnit

/-- ROSTER_SWITCHOVER: at X the administrative roster becomes the operating one (R134). -/
def execRosterSwitchover (port : Nat) (s : State) : Res :=
  if port < 16 ∧ port ≠ 14 then
    .next (match (s.port port).switchAt with
      | some x =>
        if s.work ≥ x then
          gateStep (s.setPort port { s.port port with operRoster := (s.port port).adminRoster, adminRoster := none, switchAt := none }) port
        else s
      | none => s)
  else .fault .noSuchUnit

/-- First instant at or after `t` of the form base + n x cycle with n ≥ 0 (R134). -/
def nextCycle (base cycle t : Nat) : Nat := if t ≤ base then base else base + (t - base + cycle - 1) / cycle * cycle

/-- First cycle boundary of a roster at or after `t`; its cycles run for whole n of either sign (R132, R134). -/
def Roster.boundary (r : Roster) (t : Nat) : Nat := let q := r.pos t; if q = 0 then t else t + (r.cycle - q)

/-- The switch-over instant X of the administrative roster accepted at `a` (R134). -/
def switchInstant (p : Port) (r : Roster) (a : Nat) : Nat × Nat :=
  let ta := if r.switchNow then a + 10000 else nextCycle r.base r.cycle (a + 10000)
  match p.operRoster with
  | some o => if p.gateEn then (ta, o.boundary ta) else (ta, ta)
  | none => (ta, ta)

/-- A step of the working clock at an egress port: a pending X and a pending end of the gates are found anew and heads are examined
again (R134, R135). -/
def portStep (s : State) (p : Nat) : State :=
  let x := s.port p
  let x := match x.switchAt, x.adminRoster with
    | some _, some r => let q := switchInstant x r s.work; { x with switchAt := some q.2, adminTa := q.1 }
    | _, _ => x
  let x := match x.gateOffAt, x.operRoster with
    | some _, some o => { x with gateOffAt := some (o.boundary s.work) }
    | _, _ => x
  let s := s.setPort p x
  let s := forEach (List.range 8) s (fun c s =>
    match (s.port p).head c with
    | some k => if s.tooLate p k then
                  let s := dropHead s p c cDropLate
                  newHead s p c ((s.port p).waiting c)
                else s
    | none => s)
  gateStep s p

/-- AGE_SWEEP: every egress head beyond its residence limit is discarded (R91). -/
def execAgeSweep (s : State) : Res :=
  .next (forEach (List.range 16) s (fun p s => forEach (List.range 8) s (fun c s =>
    match (s.port p).head c with
    | some k => if s.tooOld k then
                  let s := dropHead s p c cDropAge
                  newHead s p c ((s.port p).waiting c)
                else s
    | none => s)))

/-- The histogram bin of a value (R143). -/
def binOf (log : Bool) (u v : Nat) : Nat :=
  if log then
    if v = 0 then 0 else ((List.range 14).filter (fun k => decide (v ≥ 2 ^ (k + 1) * u))).length + 1
  else min 15 (v / u)

/-- Depth and sojourn of a sampled object: key 8 p + c of a port and class, 128 + q of a queue (R142). -/
def sampleOf (s : State) (obj : Nat) : Nat × Nat :=
  if obj < 128 then
    let p := s.port (obj / 8)
    let c := obj % 8
    (p.heldEg.getD c 0, match p.head c with | some k => (s.work - k.since) / 8 | none => 0)
  else
    let q := s.queue (obj - 128)
    (q.depth, match q.packets with | k :: _ => (s.work - k.committedAt) / 8 | [] => 0)

/-- A saturating 32-bit count (R144). -/
def sat32 (v : Nat) : Nat := satNat 0xFFFFFFFF v

/-- One sample added to an object's record (R142 to R144). -/
def Sampler.add (x : Sampler) (depth soj : Nat) : Sampler :=
  let soj := sat32 soj
  let bd := binOf x.depthMode x.uDepth depth
  let bs := binOf x.sojMode x.uSoj soj
  { x with samples := sat32 (x.samples + 1), depthMin := min x.depthMin depth, depthMax := max x.depthMax depth
           sojMin := min x.sojMin soj, sojMax := max x.sojMax soj
           depthHist := listSet x.depthHist bd (sat32 (x.depthHist.getD bd 0 + 1))
           sojHist := listSet x.sojHist bs (sat32 (x.sojHist.getD bs 0 + 1)) }

/-- After a step of the working clock sampling goes on from the next multiple of each PERIOD (R141). -/
def resample (s : State) : State :=
  { s with sw := { s.sw with samplers := s.sw.samplers.map (fun e =>
      (e.1, if e.2.period = 0 then e.2 else { e.2 with lastAt := s.work / 1000 / e.2.period * e.2.period })) } }

/-- SAMPLE_INSTANT: an object is sampled once at each whole multiple of its PERIOD (R141). -/
def execSampleInstant (obj : Nat) (s : State) : Res :=
  unit obj 4224 (
    let x := s.sampler obj
    let us := s.work / 1000
    if x.period ≠ 0 ∧ us / x.period * x.period > x.lastAt then
      let v := sampleOf s obj
      s.setSampler obj { x.add v.1 v.2 with lastAt := us / x.period * x.period }
    else s)

end Sys2Proof.Machine
end

