-- ==== Sys2Proof/Machine/Switch.lean ====
section
/-!
DEFINITION. The switch core: classification, HSR duplicate discard, lookup, copies, cut-through, frames found bad, learning,
policing, and packets that producers send through port 14 (R31 to R36, R73 to R86, R139, R140, R541).
-/
namespace Sys2Proof.Machine

/-- The hub is in pass-through (R31, R61). -/
def State.passThrough (s : State) : Bool :=
  !s.boot.running || !s.boot.configured || s.ring.node == 0 || s.faults.resetting || s.boot.rescue || s.faults.safeHalt
    || s.ring.withdrawn

/-- The queue with a USE code that firmware reads, if it has taken one (R105, R397). -/
def State.fwQueue (s : State) (use : Nat) : Option Nat := (s.queues.find? (fun e => e.2.fwUse == use && e.2.cons == .firmware)).map Prod.fst

/-- A MAC is the hub's own: its GRT MAC or its factory MAC (R33, R47). -/
def State.ownMac (s : State) (m : Nat) : Bool := m == s.grtMac || m == s.boot.mac

/-- A MAC is that of a proxied node (R36). -/
def State.proxied (s : State) (m : Nat) : Bool := s.ring.proxies.any (fun e => e.mac == m)

/-- A link-local frame: gPTP, ENUM_WALK or BARRIER (R33, R74). -/
def isLinkLocal (f : Frame) : Bool :=
  f.etherType == 0x88F7 || (match f.grt with | some h => h.typ == tEnumWalk || h.typ == tBarrier | none => false)

/-- VLAN ID under which a frame is looked up (R75). -/
def Port.vidOf (p : Port) (f : Frame) : Nat := match f.tag with | some (_, v) => if v = 0 then p.pvid else v | none => p.pvid

/-- A GRT frame of this hub's ring (R46). -/
def State.ringGrt (s : State) (f : Frame) : Bool :=
  f.etherType == s.ring.etherType && f.grt.isSome && (match f.tag with | some (_, v) => v == s.ring.vlan | none => false)

/-- A stream entry matches a frame (R80). -/
def streamMatches (s : State) (port : Nat) (f : Frame) (e : Stream) : Bool :=
  bitAt e.ingress port &&
    (if e.mode = 1 then f.dmac == e.dmac && (s.port port).vidOf f == e.vlan
     else if e.mode = 2 then
       match f.grt with
       | some h => f.etherType == s.ring.etherType && (addrValue h.addr &&& e.grtMask) == (e.grtAddr &&& e.grtMask)
       | none => false
     else false)

/-- The lowest valid stream entry that matches (R80). -/
def streamOf (s : State) (port : Nat) (f : Frame) : Option Nat := (s.sw.streams.find? (fun e => streamMatches s port f e.2)).map Prod.fst

/-- Class of a frame (R74). -/
def frameClass (s : State) (port : Nat) (f : Frame) (stream : Option Nat) : Nat :=
  if f.etherType = 0x88F7 then 7
  else if isLinkLocal f then s.ring.classOf ((f.grt.map (fun h => h.typ)).getD 0)
  else match stream with
    | some e => (s.stream e).cls
    | none => match f.tag with
      | some (pcp, _) => (s.port port).pcpMap.getD pcp 0
      | none => (s.port port).defClass

/-- Destinations of a frame (R77 to R79). -/
structure Route where
  /-- Onto the ring. -/
  ring : Bool := false
  /-- Ports 2 to 13 and 15. -/
  ports : List Nat := []
  /-- Tub queues on port 14. -/
  queues : List Nat := []
  /-- Dropped by DISCARD or DEST 0. -/
  filtered : Bool := false

/-- Destinations of a destination set (R77, R78). -/
def routeOfSet (s : State) (d : Nat) : Route :=
  if d = 0 then {}
  else
    let x := s.dset d
    { ring := bitAt x.mask 0 || bitAt x.mask 1
      ports := (maskList 16 x.mask).filter (fun p => decide (p ≥ 2) && decide (p ≠ 14)), queues := x.queues }

/-- Forwarding database entry of a key (R75). -/
def fdbFind (s : State) (mac vlan : Nat) : Option (Nat × FdbEntry) :=
  s.sw.fdb.find? (fun e => e.2.kind != 0 && e.2.mac == mac && e.2.vlan == vlan)

/-- Destinations that a database entry gives (R75, R76). -/
def routeOfFdb (s : State) (e : FdbEntry) : Route :=
  if e.discard then { filtered := true }
  else if e.kind = 1 then (if e.target ≤ 1 then { ring := true } else { ports := [e.target] })
  else if e.kind = 2 then { queues := [e.target] }
  else routeOfSet s e.target

/-- The queue of the bridge, or of received image frames, for a GRT frame (R79, R397). -/
def grtQueue (s : State) (f : Frame) : List Nat :=
  let img := match f.grt with | some h => decide (0x20 ≤ h.typ) && decide (h.typ ≤ 0x23) | none => false
  (s.fwQueue (if img then 8 else 2)).toList

/-- A frame of port 14 for another node of this hub's ring, or for all of them (R47, R79). -/
def State.forNodes (s : State) (port : Nat) (f : Frame) : Bool :=
  port == 14 && (f.dmac == macAll s.ring.ringId ||
    (List.range 250).any (fun n => n + 1 != s.ring.node && f.dmac == macOfNode s.ring.ringId (n + 1)))

/-- A table entry that a parity error has invalidated and firmware has not restored; tables as log 75 numbers them (R375). -/
def State.entryBad (s : State) (table e : Nat) : Bool := s.sw.parity.any (fun x => x.1 == table && x.2.1 == e && decide (s.lt < x.2.2))

/-- The lookup of R79, before the ingress port is removed. GRT frames for all nodes that come from the ring go to the hub's own queues
ahead of the stream table and the database (log 69). -/
def route79 (s : State) (port : Nat) (f : Frame) (stream : Option Nat) : Route :=
  if s.ringGrt f && (f.dmac == s.grtMac || (decide (port ≤ 1) && f.dmac == macAll s.ring.ringId)) then { queues := grtQueue s f }
  else
    let byStream := match stream with
      | some e => let d := (s.stream e).dest
                  if d = 0xFFFF then none else if d = 0 then some { filtered := true } else some (routeOfSet s d)
      | none => none
    match byStream with
    | some r => r
    | none => match fdbFind s f.dmac ((s.port port).vidOf f) with
      | some (_, e) => if s.forNodes port f && !e.static then { ring := true } else routeOfFdb s e
      | none => if s.forNodes port f then { ring := true } else routeOfSet s (s.port port).floodSet

/-- The lookup of a frame; one that meets an invalidated entry is dropped (R79, R375). -/
def lookup (s : State) (port : Nat) (f : Frame) (stream : Option Nat) : Route :=
  let r := route79 s port f stream
  if s.sw.parity.isEmpty then r
  else
    let bad := (match stream with | some e => s.entryBad 1 e | none => false)
      || (match fdbFind s f.dmac ((s.port port).vidOf f) with | some (i, _) => s.entryBad 0 i | none => false)
      || r.queues.any (fun q => s.entryBad 4 q)
    if bad then { filtered := true } else r

/-- An ENUM_REPORT of this hub, the one frame it originates without a number (R61). -/
def isReport (port : Nat) (f : Frame) : Bool := port == 14 && (match f.grt with | some h => h.typ == tEnumReport | none => false)

/-- Destinations without the port the frame arrived on; in pass-through nothing is delivered and nothing but an ENUM_REPORT is sent
(R31, R61, R78). -/
def routeFrom (s : State) (port : Nat) (f : Frame) (r : Route) : Route :=
  let off := s.passThrough && !isReport port f
  { r with
    ring := r.ring && decide (port > 1) && !off && s.boot.ringRole != 3
    ports := r.ports.filter (fun p => p != port && (!off || p == 15))
    queues := if off then [] else r.queues }

/-- Duplicate-discard entry of a source, when it has not been forgotten (R34, R35). -/
def ddFind (s : State) (mac : Nat) : Option DdEntry :=
  s.ring.dd.find? (fun e => e.mac == mac && decide (s.lt < e.lastUse + s.ring.forgetMs * 1000000))

/-- A duplicate-discard entry written in the place of its source's. -/
def ddPut (s : State) (e : DdEntry) : State :=
  { s with ring := { s.ring with dd := (s.ring.dd.filter (fun x => x.mac != e.mac)) ++ [e] } }

/-- Room for a new source: forgotten entries are freed, then the least recently used one is evicted (R35). -/
def ddRoom (s : State) : State :=
  let l := s.ring.dd.filter (fun e => decide (s.lt < e.lastUse + s.ring.forgetMs * 1000000))
  if l.length < 512 then { s with ring := { s.ring with dd := l } }
  else
    let oldest := l.foldl (fun m e => min m e.lastUse) s.lt
    match l.find? (fun e => e.lastUse == oldest) with
    | some v => ({ s with ring := { s.ring with dd := l.filter (fun e => e.mac != v.mac) } }).count cDdEvict 0
    | none => s

/-- An entry's three bit rows moved up by `d` numbers. -/
def DdEntry.slide (e : DdEntry) (d sn : Nat) : DdEntry :=
  let sh := fun v => if d ≥ 64 then 0 else v * 2 ^ d % 2 ^ 64
  { e with high := sn, delivered := sh e.delivered, fwdWE := sh e.fwdWE, fwdEW := sh e.fwdEW }

/-- A numbered frame arrives from a source: its place in the window, or none when it is older (R34). -/
def ddArrive (s : State) (mac sn : Nat) : Option Nat × State :=
  match ddFind s mac with
  | none => (some 0, ddPut (ddRoom s) { mac := mac, high := sn, lastUse := s.lt })
  | some e =>
    let d := (sn + 65536 - e.high) % 65536
    let e := { e with lastUse := s.lt }
    if d = 0 then (some 0, ddPut s e)
    else if d ≤ 32767 then (some 0, ddPut s (e.slide d sn))
    else if d ≥ 65473 then (some (65536 - d), ddPut s e)
    else (none, s)

/-- What a ring port decides of a numbered frame (R33, R34, R86). -/
structure HsrView where
  /-- Own or proxied source: RETURNED. -/
  returned : Bool := false
  /-- Nothing to do: DUP_DISCARD. -/
  dup : Bool := false
  /-- Older than the window, or no HSR tag. -/
  dropped : Bool := false
  /-- Local delivery, if it is the first copy to end good. -/
  deliver : Bool := false
  /-- Forward to the other ring port. -/
  forward : Bool := false

/-- The forwarded bit of the direction of ingress port `i` (R34). -/
def DdEntry.fwd (e : DdEntry) (i k : Nat) : Bool := if i = 0 then bitAt e.fwdWE k else bitAt e.fwdEW k

/-- A frame arrives on ring port `i` (R33): what is done with it; the forwarded bit is set at the head, the delivered one
is looked at when a copy commits (R86). -/
def hsrArrive (s : State) (i : Nat) (f : Frame) : HsrView × State :=
  match f.hsr with
  | none => ({ dropped := true }, s.count cNoTag i)
  | some sn =>
    if s.ownMac f.smac || s.proxied f.smac then ({ returned := true }, s.count cReturned i)
    else match ddArrive s f.smac sn with
      | (none, s) => ({ dropped := true }, s.count cDdOld i)
      | (some k, s) =>
        let e := (ddFind s f.smac).getD {}
        let mine := f.dmac == s.grtMac || s.proxied f.dmac
        let deliver := isMulticast f.dmac || mine
        let forward := !mine && !e.fwd i k
        let e := if forward then (if i = 0 then { e with fwdWE := orBit e.fwdWE k } else { e with fwdEW := orBit e.fwdEW k }) else e
        let dup := !deliver && !forward
        ({ dup := dup, deliver := deliver, forward := forward }, (ddPut s e).countIf dup cDupDiscard i)

/-- The entry of a numbered frame's source and its place in the window, while they last (R34). -/
def ddPlace (s : State) (mac sn : Nat) : Option (DdEntry × Nat) := (ddFind s mac).map (fun e => (e, (e.high + 65536 - sn) % 65536))

/-- A copy of a numbered frame has been delivered (R86). -/
def State.delivered (s : State) (mac sn : Nat) : Bool := match ddPlace s mac sn with | some (e, k) => bitAt e.delivered k | none => false

/-- The delivered bit of a numbered frame, set by a copy that ends good (R86). -/
def setDelivered (s : State) (mac sn : Nat) : State :=
  match ddPlace s mac sn with
  | some (e, k) => if k < 64 then ddPut s { e with delivered := orBit e.delivered k } else s
  | none => s

/-- A singly attached node's source MAC, learned on ports 2 to 13; false when the table is full without it (R36). -/
def learnProxy (s : State) (mac : Nat) : Bool × State :=
  let l := s.ring.proxies.filter (fun e => e.mac != mac)
  if l.length < 256 then (true, { s with ring := { s.ring with proxies := l ++ [{ mac := mac, lastSeen := s.lt }] } })
  else (false, s.count cProxyFull 0)

/-- The five conditions of cut-through (R82). -/
def cutOk (s : State) (i o c : Nat) (launch : Option Nat) (stream : Option Nat) : Bool :=
  let x := s.port o
  let held := fun k => decide (x.waiting k ≠ 0)
  decide (s.rate i ≥ s.rate o) && s.canSend o && x.sending.isNone && launch.isNone
    && !held c && !((List.range 8).any (fun k => decide (k > c) && decide (k ≥ 8 - x.strictCount) && held k))
    && !(decide (c ≤ 7 - x.strictCount) && (List.range 8).any (fun k => decide (k ≤ 7 - x.strictCount) && held k))
    && s.gateFits o c (s.counted o x.maxFrame)
    && (match stream with | some e => !(s.stream e).police && !(s.stream e).noCut | none => true)

/-- Bytes of a copy that have arrived when `n` bytes of its frame have: copies differ from it by an HSR tag (R32, R81). -/
def Copy.arrived (k : Copy) (f : Frame) (n : Nat) : Nat := ((n : Int) + k.frame.len - f.len).toNat

/-- Bytes of a frame that a copy toward a queue holds when `n` bytes of the frame have arrived: HSR tag and FCS are not among them
(R83, R541). -/
def queueBytes (f : Frame) (n : Nat) : List Byte := (frameBytes f).take (n - (if f.hsr.isSome then 6 else 0))

/-- One copy toward an egress port at a frame's head: its first cell admitted, all of them for a frame of port 14, which is whole;
then cut through or kept (R81, R82, R88). A frame of port 14 too long for the egress port is counted once (R541). -/
def copyToPort (s : State) (i o : Nat) (f : Frame) (r : RxFrame) (launch : Option Nat) (badLaunch : Bool) : RxFrame × State :=
  if i = 14 ∧ f.len > (s.port o).maxFrame then ({ r with long := true }, s.countIf (!r.long) cRxOversize 14)
  else
    let k : Copy := { frame := f, inPort := i, outPort := o, cls := r.cls, since := r.since, launch := launch, badLaunch := badLaunch
                      place := r.copies.length }
    match grantCopy s i o r.cls (if i = 14 then cellsFor f.len else 1) [] with
    | (s, l, some w) => ({ r with copies := r.copies ++ [{ k with dead := true }] }, countCopyRefused (freeCopy s { k with cells := l }) i o r.cls w)
    | (s, l, none) =>
      if cutOk s i o r.cls launch r.stream && !badLaunch then
        let (f, s) := protectTx s o f
        let t := { k with frame := f, cells := l, cut := true, whole := i == 14, startAt := s.lt, startWork := s.work }
        ({ r with copies := r.copies ++ [{ k with cut := true }] },
          (s.setPort o { s.port o with sending := some t }).count cEnqFrames (8 * o + r.cls))
      else ({ r with copies := r.copies ++ [{ k with cells := l }] }, s)

/-- One copy toward a queue of port 14 at a frame's head: what has arrived of it is written (R83). -/
def copyToQueue (s : State) (i q : Nat) (f : Frame) (r : RxFrame) : RxFrame × State :=
  let k : Copy := { frame := untag f, inPort := i, outPort := 14, cls := r.cls, since := r.since, queue := q, place := r.copies.length }
  let (s, ok) := arriveInQueue s q i k.place r.cls (queueBytes f (if i = 14 then f.len else r.got))
  ({ r with copies := r.copies ++ [{ k with dead := !ok }] }, s)

/-- Copies of a frame at its head (R81): the ring in both directions with one sequence number (R32), ports, then queues. -/
def makeCopies (s : State) (i : Nat) (f : Frame) (rt : Route) (fwd : Option Nat) (r : RxFrame) (launch : Option Nat)
    (badLaunch : Bool) : RxFrame × State :=
  let (r, s) := match fwd with | some o => copyToPort s i o f r launch badLaunch | none => (r, s)
  let (r, s) :=
    if rt.ring then
      let (n, s) := nextSeq s f.smac
      let (r, s) := copyToPort s i 0 (retag f n 0) r launch badLaunch
      copyToPort s i 1 (retag f n 1) r launch badLaunch
    else (r, s)
  let (r, s) := rt.ports.foldl (fun x o => copyToPort x.2 i o (untag f) x.1 launch badLaunch) (r, s)
  rt.queues.foldl (fun x q => copyToQueue x.2 i q f x.1) (r, s)

/-- MACsec at the head of a received frame: an association exists and the packet number lies in the replay window (R66). -/
def macsecBad (m : Macsec) (f : Frame) : Bool :=
  m.enable && f.etherType != 0x88F7 &&
    (match f.macsec with
     | none => true
     | some (an, pn) => match tblGet m.rxSa an with
       | none => true
       | some a => decide (pn + m.replay < a.nextPn))

/-- Content of a policer's bucket now, in units of 2^-24 byte: INC a switch-island cycle, up to CBS (R139). -/
def Stream.content (e : Stream) (lt : Nat) : Nat :=
  min (e.cbs * 16777216) (e.tokens + e.cir * 8192 / 3125 * (lt * 4 / 5 - e.filledAt * 4 / 5))

/-- The checks of a policed frame at its last byte: some counter when it is dropped (R140). -/
def police (s : State) (i len e : Nat) : Option CtrId × State :=
  let x := s.stream e
  if x.sduEn ∧ len > x.maxSdu then (some cSduDrop, s)
  else if !x.police then (none, s)
  else
    let have_ := x.content s.lt
    let need := s.counted i len * 16777216
    if have_ ≥ need then (none, s.setStream e { x with tokens := have_ - need, filledAt := s.lt })
    else (some cPoliceDrop, s.setStream e { x with tokens := have_, filledAt := s.lt })

/-- A protected frame on a port whose MACsec is off: everything after the source MAC is unreadable (R65, R68). -/
def coverFrame (f : Frame) : Frame :=
  if f.macsec.isSome then { f with tag := none, hsr := none, etherType := 0x88E5, grt := none, payload := f.sec.drop 2 } else f

/-- A frame of ring port `i` at its head (R33): copies for the other ring port and for local delivery. -/
def headRing (s : State) (i : Nat) (f : Frame) (r : RxFrame) : RxFrame × State :=
  let (v, s) := hsrArrive s i f
  if v.returned then ({ r with returned := true }, s)
  else if v.dropped ∨ v.dup then ({ r with dup := true }, s)
  else
    let rt := if v.deliver then routeFrom s i f (lookup s i f r.stream) else {}
    let none_ := rt.ports.isEmpty && rt.queues.isEmpty && !v.forward
    if none_ && isMulticast f.dmac then ({ r with dup := true }, s.count cDupDiscard i)
    else
      let (r, s) := makeCopies s i f rt (if v.forward then some (1 - i) else none) r none false
      ({ r with noRoute := none_ && !rt.filtered, filtered := rt.filtered }, s)

/-- A frame of port 14 at its head (R82, R136, R140): it is whole, so it is policed now; `egress` is the port that the bridge names (R315).
What has an unusable launch prefix goes to no queue, and counts in DROP_LATE of port 14 when it has no egress port (log 69). -/
def headInternal (s : State) (f : Frame) (egress : Option Nat) (r : RxFrame) (launch : Option Nat) (badLaunch : Bool) : RxFrame × State :=
  match (match r.stream with | some e => police s 14 f.len e | none => (none, s)) with
  | (some c, s) => (r, s.count c (r.stream.getD 0))
  | (none, s) =>
    let l := match egress with
      | some p => if p ≤ 1 then { ring := true } else { ports := [p] }
      | none => lookup s 14 f r.stream
    let rt := routeFrom s 14 f l
    let rt := if badLaunch then { rt with queues := [] } else rt
    let none_ := !rt.ring && rt.ports.isEmpty && rt.queues.isEmpty
    let (r, s) := makeCopies s 14 f rt none r launch badLaunch
    ({ r with noRoute := none_ && !rt.filtered && !badLaunch, filtered := rt.filtered }, s.countIf (none_ && badLaunch) cDropLate (8 * 14 + r.cls))

/-- A frame of a port outside the ring at its head (R79): its source may use the ring when it is in the proxy table (R36). -/
def headLocal (s : State) (i : Nat) (f : Frame) (r : RxFrame) : RxFrame × State :=
  let rt := routeFrom s i f (lookup s i f r.stream)
  let (known, s) := if i ≤ 13 then learnProxy s f.smac else (true, s)
  let rt := { rt with ring := rt.ring && known }
  let (r, s) := makeCopies s i f rt none r none false
  ({ r with noRoute := !rt.ring && rt.ports.isEmpty && rt.queues.isEmpty && !rt.filtered, filtered := rt.filtered }, s)

/-- The head of a frame on ingress port `i`: class, destinations and copies are decided (R74, R79, R81); a link that waits for keys
delivers nothing (R68). -/
def headCore (s : State) (i : Nat) (f : Frame) (since : Nat) (egress launch : Option Nat) (badLaunch : Bool) : State :=
  let x := s.port i
  let f := if x.macsec.enable then f else coverFrame f
  let stream := if isLinkLocal f then none else streamOf s i f
  let r : RxFrame := { frame := f, cls := frameClass s i f stream, since := since, stream := stream, headAt := s.lt, got := min 64 f.len }
  let put := fun (r : RxFrame × State) => r.2.setPort i { r.2.port i with rx := some r.1 }
  if macsecBad x.macsec f || (x.link.keyWait && f.etherType != 0x88F7) then put ({ r with macBad := true }, s)
  else if f.len < 64 then put (r, s)
  else if isLinkLocal f then put ({ r with handled := true }, s)
  else
    let s := match stream with | some e => s.count cStreamFrames e | none => s
    put (if i ≤ 1 then headRing s i f r else if i = 14 then headInternal s f egress r launch badLaunch else headLocal s i f r)

/-- Why a received frame is bad, as FRAME_END reports it: 1 FCS, 2 stomped, 3 PHY error symbol, 4 MACsec ICV (R84). -/
def badCounter (bad : Nat) : CtrId :=
  if bad = 1 then cRxFcsErr else if bad = 2 then cRxStomped else if bad = 3 then cRxPhyErr else cMacsecDrop

/-- The copy cut through from port `i` that port `o` is sending while its tail arrives. -/
def State.cutOf (s : State) (i o : Nat) : Option Copy :=
  match (s.port o).sending with
  | some t => if t.cut && t.inPort == i && !t.whole then some t else none
  | none => none

/-- A copy cut through is stomped (R85): at its byte `n` when the cause is found on the way, else at its end. -/
def stompCopy (s : State) (i o : Nat) (n : Option Nat) (propagated : Bool) : State :=
  match s.cutOf i o with
  | some t =>
    (s.setPort o { s.port o with sending := some { t with dead := true, whole := true, stopAt := n } }).count
      (if propagated then cStompPropagated else cStompOrigin) o
  | none => s

/-- A copy of a bad frame: a stored one is freed, one cut through is stomped, one toward port 14 is rewound (R84, R85). -/
def killCopy (s : State) (n : Option Nat) (propagated : Bool) (k : Copy) : State :=
  if k.dead then s
  else if k.outPort = 14 then abortArrival s k.queue k.inPort k.place
  else if k.cut then stompCopy s k.inPort k.outPort n propagated
  else freeCopy s k

/-- The cells that a copy toward an egress port needs for `b` bytes: each is admitted on its own; a refusal part-way frees a stored
copy and stomps one cut through (R81, R84, R88). -/
def growCopy (s : State) (k : Copy) (b : Nat) : Copy × State :=
  if k.cut then
    match s.cutOf k.inPort k.outPort with
    | none => (k, s)
    | some t =>
      let (s, l, no) := grantCopy s k.inPort k.outPort k.cls (cellsFor b - (t.cells.length + t.gone)) t.cells
      let s := s.setPort k.outPort { s.port k.outPort with sending := some { t with cells := l } }
      match no with
      | none => (k, s)
      | some w => ({ k with dead := true }, countCopyRefused (stompCopy s k.inPort k.outPort (some ((t.gone + l.length) * 128)) false)
          k.inPort k.outPort k.cls w)
  else match grantCopy s k.inPort k.outPort k.cls (cellsFor b - k.cells.length) k.cells with
    | (s, l, none) => ({ k with cells := l }, s)
    | (s, l, some w) => ({ k with dead := true, cells := [] }, countCopyRefused (freeCopy s { k with cells := l }) k.inPort k.outPort k.cls w)

/-- `n` bytes of a frame have arrived on port `i`: its copy `k` follows (R83, R84, R87). A copy that would be longer than 2,048 bytes
on the ring is dropped; the frame is counted once (R46; log 69). -/
def arriveCopy (i n : Nat) (x : RxFrame × State) (k : Copy) : RxFrame × State :=
  let r := x.1
  let s := x.2
  if k.dead then ({ r with copies := r.copies ++ [k] }, s)
  else if k.outPort = 14 then
    let (s, ok) := arriveInQueue s k.queue i k.place k.cls (queueBytes r.frame n)
    ({ r with copies := r.copies ++ [{ k with dead := !ok }], refused := r.refused || !ok }, s)
  else if k.outPort ≤ 1 ∧ k.arrived r.frame n > 2048 then
    ({ r with copies := r.copies ++ [{ k with dead := true }], long := true }, (killCopy s (some 2048) false k).countIf (!r.long) cRxOversize i)
  else
    let (k, s) := growCopy s k (k.arrived r.frame n)
    ({ r with copies := r.copies ++ [k], refused := r.refused || k.dead }, s)

/-- `n` bytes of the frame being received on port `i` have arrived: at the byte past MAX_FRAME it is found too long (R84). -/
def arriveTo (s : State) (i n : Nat) : State :=
  match (s.port i).rx with
  | none => s
  | some r =>
    if n ≤ r.got ∨ r.tooLong then s
    else
      let m := (s.port i).maxFrame
      let (r, s) := r.copies.foldl (arriveCopy i (min n m)) ({ r with copies := [], got := n }, s)
      if n > m then
        let s := (forEach r.copies s (fun k s => killCopy s (some m) false k)).count cRxOversize i
        s.setPort i { s.port i with rx := some { r with tooLong := true, copies := [] } }
      else s.setPort i { s.port i with rx := some r }

/-- What has arrived by now of the frame being received on port `i`, at the rate of its link (R83, R87). -/
def arriveNow (s : State) (i : Nat) : State :=
  match (s.port i).rx with
  | none => s
  | some r => arriveTo s i (min r.frame.len (64 + bytesIn (s.rate i) (s.lt - r.headAt)))

/-- A copy of a good frame toward an egress port: a stored one joins its class, one cut through has its tail (R82, R84, R123); false when
it was refused on the way. -/
def keepCopy (s : State) (f : Frame) (len : Nat) (k : Copy) : State × Bool :=
  let n := k.arrived f len
  if k.dead then (s, false)
  else if k.cut then
    (match s.cutOf k.inPort k.outPort with
      | some t => s.setPort k.outPort { s.port k.outPort with sending := some { t with whole := true, frame := { t.frame with len := n } } }
      | none => s, true)
  else (joinClass s { k with frame := { k.frame with len := n } }, true)

/-- Cells of completion or posted space that `n` bytes take (R318). -/
def cplCells (n : Nat) : Nat := (n + 24 + 127) / 128

/-- GRT TYPE and LENGTH of a packet of the GRT queue: its header stands after the 18 bytes of MACs, tag and EtherType (R46). -/
def grtOfPacket (k : Packet) : Nat × Nat := (beAt k.bytes 18 1, beAt k.bytes 32 2 % 2048)

/-- Cells of the posted writes that wait in the inbound posted buffer: the WRITE_P frames in the GRT queue (R318). -/
def Queue.inPosted (x : Queue) : Nat :=
  sumNat ((x.packets ++ x.fresh).map (fun k => if (grtOfPacket k).1 = 2 then cplCells (grtOfPacket k).2 else 0))

/-- Requests that wait in the inbound non-posted buffer: READ, WRITE_NP, LOCK_READ and WRITE_UNLOCK in the GRT queue (R318). -/
def Queue.inNonPosted (x : Queue) : Nat :=
  ((x.packets ++ x.fresh).filter (fun k => [1, 3, 4, 5].contains (grtOfPacket k).1)).length

/-- A full inbound buffer refuses a request: counted, and a lost posted write raises BRIDGE_FULL (R318). -/
def inboundFull (s : State) (k : Copy) : Option State :=
  match k.frame.grt with
  | none => none
  | some h =>
    let x := s.queue k.queue
    if x.fwUse ≠ 2 then none
    else if h.typ = 2 ∧ x.inPosted + cplCells h.len > 2048 then
      some (raise ((s.count cInPFull 0).count cGrtPostedFail 0) (srcDiag 333) 2 0)
    else if [1, 3, 4, 5].contains h.typ && decide (x.inNonPosted ≥ 256) then some (s.count cInNpFull 0)
    else none

/-- A copy of a good frame toward port 14 is committed (R83), unless the bridge's inbound buffer is full (R318); false when it was
refused. A queue bound to another producer takes it too (log 69). -/
def keepInQueue (s : State) (k : Copy) : State × Bool :=
  if k.dead then (s, false)
  else match inboundFull s k with
    | some s => (abortArrival s k.queue k.inPort k.place, false)
    | none => commitArrival s k.queue k.inPort k.place

/-- The way of a set to use for a source: its own entry, a free way, else the learned entry seen longest ago (R76). -/
def fdbWay (s : State) (set mac vlan : Nat) : Option Nat :=
  let at_ := fun w => tblGet s.sw.fdb (4 * set + w)
  match (List.range 4).find? (fun w => match at_ w with | some e => e.mac == mac && e.vlan == vlan && e.kind != 0 | none => false) with
  | some w => some w
  | none => match (List.range 4).find? (fun w => match at_ w with | some e => e.kind == 0 | none => true) with
    | some w => some w
    | none =>
      let seen := fun w => match at_ w with | some e => if e.static then none else some e.seenAt | none => none
      let best := (List.range 4).foldl (fun b w => match seen w, b with
        | some t, some (_, u) => if t < u then some (w, t) else b
        | some t, none => some (w, t)
        | none, b => b) (none : Option (Nat × Nat))
      best.map Prod.fst

/-- A database entry written at an index. -/
def fdbPut (s : State) (k : Nat) (e : FdbEntry) : State := { s with sw := { s.sw with fdb := tblSet s.sw.fdb k e } }

/-- The source MAC and VLAN of a good frame are learned (R76). -/
def learn (s : State) (i mac vlan : Nat) : State :=
  let set := Config.fdbHash mac vlan % 4096
  match fdbFind s mac vlan with
  | some (k, e) =>
    if e.static then fdbPut s k { e with seenAt := s.lt / 1000000000 }
    else fdbPut s k { e with kind := 1, target := if i ≤ 1 then 0 else i, seenAt := s.lt / 1000000000 }
  | none => match fdbWay s set mac vlan with
    | some w => (fdbPut s (4 * set + w)
        { mac := mac, vlan := vlan, kind := 1, target := if i ≤ 1 then 0 else i, seenAt := s.lt / 1000000000 }).count cFdbLearned 0
    | none => s.count cFdbFull 0

/-- The replay window moves up with a good frame (R66). -/
def macsecTake (s : State) (i : Nat) (f : Frame) : State :=
  let m := (s.port i).macsec
  match f.macsec with
  | some (an, pn) => match tblGet m.rxSa an with
    | some a => s.setPort i { s.port i with macsec := { m with rxSa := tblSet m.rxSa an { a with nextPn := max a.nextPn (pn + 1) } } }
    | none => s
  | none => s

/-- Copies of a good frame kept, with whether any was. -/
def keepAll (s : State) (f : Frame) (len : Nat) (l : List Copy) : State × Bool :=
  l.foldl (fun x k =>
    let (s, ok) := if k.outPort = 14 then keepInQueue x.1 k else keepCopy x.1 f len k
    (s, x.2 || ok)) (s, false)

/-- A frame that ends good (R83, R84, R86): on a ring port its local copies are kept only when no other copy was delivered, and one
that is kept sets the delivered bit. A duplicate's copy that was cut through to a local port cannot be rewound: it is stomped
(log 69). A gPTP frame on a port without precision time is counted (R152). -/
def endGood (s : State) (i : Nat) (r : RxFrame) (len : Nat) : State :=
  let here := r.copies.filter (fun k => decide (k.outPort ≥ 2))
  let s := (keepAll s r.frame len (r.copies.filter (fun k => decide (k.outPort < 2)))).1
  let s := match (if i ≤ 1 then r.frame.hsr else none) with
    | none => (keepAll s r.frame len here).1
    | some n =>
      if here.isEmpty then s
      else if s.delivered r.frame.smac n then (forEach here s (fun k s => killCopy s none false k)).count cDupDiscard i
      else
        let (s, ok) := keepAll s r.frame len here
        if ok then setDelivered s r.frame.smac n else s
  let s := s.countIf (r.frame.etherType == 0x88F7 && i != 14 && (decide (6 ≤ i) || (s.port i).ptpProfile == 0)) cPtpNotEnabled i
  (s.countIf r.noRoute cDropNoRoute i).countIf r.filtered cDropFilter i

/-- The source of a good frame is learned (R76), but for the hub's own and its proxied nodes' frames come back from the ring (log 34). -/
def learnFrom (s : State) (i : Nat) (r : RxFrame) : State :=
  if i ≤ 13 ∧ (s.port i).learn ∧ !r.returned ∧ !isMulticast r.frame.smac then learn s i r.frame.smac ((s.port i).vidOf r.frame) else s

/-- The last byte of a frame without error: policing, then its copies, then learning (R66, R76, R140). A frame that lost a copy part-way
takes no tokens and teaches nothing (R84; log 69). -/
def endWhole (s : State) (i : Nat) (r : RxFrame) (len : Nat) : Option CtrId × State :=
  let (drop, s) := match r.stream with
    | some e => if i = 14 || r.refused then (none, s) else police s i len e
    | none => (none, s)
  let s := if i ≤ 5 then macsecTake s i r.frame else s
  let s := match drop with
    | none => endGood s i r len
    | some c => forEach r.copies (s.count c (r.stream.getD 0)) (fun k s => killCopy s none false k)
  (drop, if drop = some cSduDrop ∨ r.refused then s else learnFrom s i r)

/-- Whether a frame that has ended is bad under R84. -/
def RxFrame.isBad (r : RxFrame) (bad len : Nat) (drop : Option CtrId) : Bool :=
  decide (bad ≠ 0) || r.macBad || decide (len < 64) || r.tooLong || r.refused || drop == some cSduDrop

/-- The FCS of a received frame as a canary rule sees it: the wire's, open where the frame is in error (R84, R94). -/
def rxFcs (s : State) (bad : Nat) (f : Frame) : List Byte × State :=
  if bad = 1 ∨ bad = 3 then let (v, s) := s.draw; (leBytes 4 v.toNat, s) else (fcsBytes (wireBytes f) (bad == 2), s)

/-- The end of the frame being received on port `i` (R84 to R86, R140). -/
def endCore (s : State) (i bad len : Nat) : State :=
  let s := arriveTo s i len
  match (s.port i).rx with
  | none => s
  | some r =>
    let s := s.setPort i { s.port i with rx := none }
    let s := (s.count cRxFrames i).count cRxBytes i len
    let kill := fun (s : State) => forEach r.copies s (fun k s => killCopy s none (bad == 2) k)
    let (drop, s) :=
      if len < 64 then (none, kill (s.count cRxRunt i))
      else if r.tooLong then (none, s)
      else if bad ≠ 0 then (none, kill (s.count (badCounter bad) i))
      else if r.macBad then (none, s.count cMacsecDrop i)
      else endWhole s i r len
    let f := { r.frame with len := len }
    let (fcs, s) := rxFcs s bad f
    canaryTap s 0 i r.cls r.since (r.isBad bad len drop) false false f fcs

/-- FRAME_HEAD: the head of a frame on ports 0 to 13 or 15 (R79); a stopped switch island does not accept it (R14). -/
def execFrameHead (port : Nat) (fr : Frame) (s : State) : Res :=
  if port < 16 ∧ port ≠ 14 then
    .next (if (s.port port).rx.isSome ∨ (port ≠ 15 ∧ !(s.port port).link.up) then s
      else if s.crossable 1 then headCore s port fr s.work none none false
      else holdWord s 0 1)
  else .fault .noSuchUnit

/-- FRAME_END: the frame being received ends; `bad` is 0 for a good one, else the cause of R84 as `badCounter` codes it. -/
def execFrameEnd (port bad len : Nat) (s : State) : Res :=
  if port < 16 ∧ port ≠ 14 then .next (endCore s port bad len) else .fault .noSuchUnit

/-- TRANSMITTER_FREE: the copy in transmission has been sent and the next is selected; port 15 loops its frame back in
(R96, R127). -/
def execTransmitterFree (port : Nat) (s : State) : Res :=
  if port < 16 ∧ port ≠ 14 then
    .next (match finishTx s port with
      | (some k, s) =>
        let s := if port = 15 ∧ (s.port 15).rx.isNone then
                   let f := { untag k.sent with macsec := none, sec := [] }
                   endCore (headCore s 15 f s.work none none false) 15 0 f.len
                 else s
        trySelect s port
      | (none, s) => trySelect s port)
  else .fault .noSuchUnit

/-- The instant within 2^31 s of now whose seconds have these low 32 bits (R136). -/
def nearSeconds (nowSec low : Nat) : Nat :=
  let b := nowSec / 4294967296 * 4294967296 + low
  if b > nowSec + 2147483648 ∧ b ≥ 4294967296 then b - 4294967296
  else if b + 2147483648 ≤ nowSec then b + 4294967296 else b

/-- Launch time from the 8-byte prefix of a packet, and whether the prefix is unusable (R136). -/
def prefixLaunch (now : Nat) (b : List Byte) : Option Nat × Bool :=
  let v := leAt b 0 8
  if b.length < 8 ∨ bitsAt v 0 30 > 999999999 then (none, true)
  else if !bitAt v 63 then (none, false)
  else (some (nearSeconds (now / 1000000000) (bitsAt v 30 32) * 1000000000 + bitsAt v 0 30), false)

/-- The head visible packet of a queue that switch port 14 consumes is forwarded as one frame (R136, R541). -/
def forwardHead (s : State) (q : Nat) : State :=
  let x := s.queue q
  match x.packets with
  | [] => s
  | k :: _ =>
    if !x.enable || x.cons != .port14 || (x.launchSrc == 2 && k.launch.isNone) then s
    else
      let l := if x.launchSrc = 1 then prefixLaunch s.work k.bytes else (if x.launchSrc = 2 then k.launch else none, false)
      let f := frameOfPacket s.ring.etherType (if x.launchSrc = 1 then k.bytes.drop 8 else k.bytes)
      let s := wmEval (releaseHead (readCells s q k.cells) q) q
      if f.len > (s.port 14).maxFrame then s.count cRxOversize 14
      else endCore (headCore s 14 f k.committedAt k.egress l.1 l.2) 14 0 f.len

/-- Every packet of a queue that port 14 may take now is forwarded, in commit order (R105, R123). -/
def forwardAll (s : State) (q : Nat) : Nat → State
  | 0 => s
  | n + 1 => forwardAll (forwardHead s q) q n

/-- PACKET_VISIBLE: a committed packet becomes visible in the next cycle; port 14 takes it when it is the consumer
(R106, R117, R541). -/
def execPacketVisible (q : Nat) (s : State) : Res := unit q 4096 (let s := showOne s q; forwardAll s q (s.queue q).packets.length)

/-- A producer's new bytes: the cells they need are admitted or refused; a refusal rewinds the packet (R88, R106, R108). The bytes of
the switch are those of the frame that it is receiving toward the queue (R83). -/
def cellAllocate (s : State) (q : Nat) (d : List Byte) : State :=
  match (s.queue q).prod with
  | .none => s
  | .host => prodDataReg s q d
  | .event _ => (appendOpen s q d 0 true).1
  | .port14 =>
    match (s.queue q).arriving.head?.bind (fun k => k.inPort) with
    | some i => (match (s.port i).rx with | some r => arriveTo s i (min r.frame.len (r.got + d.length)) | none => s)
    | none => s
  | _ => (appendOpen s q d 0 false).1

/-- The event CELL_ALLOCATE (R88). -/
def execCellAllocate (q : Nat) (data : List Byte) (s : State) : Res := unit q 4096 (cellAllocate s q data)

/-- A removal of learned database entries that satisfy a test. -/
def fdbDrop (s : State) (p : FdbEntry → Bool) : State := { s with sw := { s.sw with fdb := s.sw.fdb.filter (fun e => !p e.2) } }

/-- AGE of an entry (R75). -/
def State.ageOf (s : State) (e : FdbEntry) : Nat := satNat 65535 (s.lt / 1000000000 - e.seenAt)

/-- FDB_AGE_EXPIRY: a learned entry whose AGE has reached FDB_AGE is removed (R76). -/
def execFdbAgeExpiry (mac vlan : Nat) (s : State) : Res :=
  .next (fdbDrop s (fun e => e.mac == mac && e.vlan == vlan && !e.static && decide (s.ageOf e ≥ s.sw.fdbAge)))

/-- DD_FORGET: a duplicate-discard entry not used for the forget time is freed (R35). -/
def execDdForget (mac : Nat) (s : State) : Res :=
  .next { s with ring := { s.ring with
    dd := s.ring.dd.filter (fun e => e.mac != mac || decide (s.lt < e.lastUse + s.ring.forgetMs * 1000000)) } }

/-- PROXY_FORGET: a proxied node is forgotten after 60 s without a frame (R36). -/
def execProxyForget (mac : Nat) (s : State) : Res :=
  .next { s with ring := { s.ring with
    proxies := s.ring.proxies.filter (fun e => e.mac != mac || decide (s.lt < e.lastSeen + 60000000000)) } }

end Sys2Proof.Machine
end

