-- ==== Sys2Proof/Machine/Mailbox.lean ====
section
/-!
DEFINITION. The mailbox: descriptors and completions, the common checks of a command, ASYNC commands, bulk buffers, handles
and ownership as commands see them (R337 to R358, R383 to R391).
-/
namespace Sys2Proof.Machine

/-- OK (R387). -/
def stOk : Nat := 0x0000
/-- ACCEPTED (R387). -/
def stAccepted : Nat := 0x0001
/-- BAD_OPCODE (R387). -/
def stBadOpcode : Nat := 0x0100
/-- BAD_PARAM (R387). -/
def stBadParam : Nat := 0x0101
/-- NOT_OWNER (R387). -/
def stNotOwner : Nat := 0x0102
/-- BUSY (R387). -/
def stBusy : Nat := 0x0103
/-- NO_RESOURCE (R387). -/
def stNoResource : Nat := 0x0104
/-- WRONG_STATE (R387). -/
def stWrongState : Nat := 0x0105
/-- DENIED (R387). -/
def stDenied : Nat := 0x0106
/-- TIMEOUT (R387). -/
def stTimeout : Nat := 0x0107
/-- SEALED (R387). -/
def stSealed : Nat := 0x0108
/-- ROLLBACK (R387). -/
def stRollback : Nat := 0x0109
/-- FIRMWARE_FAULT (R387). -/
def stFwFault : Nat := 0x010A
/-- NOT_PRESENT (R387). -/
def stNotPresent : Nat := 0x010B
/-- ABORTED (R387). -/
def stAborted : Nat := 0x010C

/-- A command as its body sees it: descriptor, bulk input, and whether the bulk buffer lies in an owned region (R385). -/
structure Cmd where
  /-- The descriptor. -/
  d : Desc
  /-- Bytes of the bulk buffer. -/
  bulk : List Byte
  /-- The buffer lies wholly in one region of space 4 that the issuing partition owns. -/
  owned : Bool

/-- Unsigned little-endian parameter of `n` bytes at descriptor byte `k` (R383, R384). -/
def Cmd.u (c : Cmd) (k n : Nat) : Nat := leAt c.d.params (k - 8) n
/-- Signed little-endian parameter. -/
def Cmd.i (c : Cmd) (k n : Nat) : Int := signedOf (8 * n) (c.u k n)
/-- Parameter bytes. -/
def Cmd.bytes (c : Cmd) (k n : Nat) : List Byte := bytesAt c.d.params (k - 8) n
/-- Issuing partition. -/
def Cmd.p (c : Cmd) : Nat := c.d.part
/-- BULK_LEN. -/
def Cmd.len (c : Cmd) : Nat := c.d.bulkLen

/-- How a command ends. -/
inductive CmdRes where
  /-- A check failed: this status, no effect. -/
  | fail (st : Nat)
  /-- OK with these results and bulk output. -/
  | ok (res out : List Byte) (s : State)
  /-- Another status with results and an effect. -/
  | ends (st : Nat) (res : List Byte) (s : State)
  /-- It has begun and completes when an outside party answers. -/
  | later (s : State)
  /-- It leaves no completion (R392). -/
  | silent (s : State)

/-- Go on when `b` holds, else end with status `st` and no effect (R388). -/
def chk (b : Bool) (st : Nat) (k : CmdRes) : CmdRes := if b then k else .fail st

/-- OK without results. -/
def okS (s : State) : CmdRes := .ok [] [] s

/-- Results laid out from completion byte 8: entries of offset from byte 8, size and value (R384). -/
def resOf (l : List (Nat × Nat × Nat)) : List Byte := l.foldl (fun b e => putBytes b e.1 (leBytes e.2.1 e.2.2)) []

/-- How a row uses the bulk buffer (R385). -/
inductive Bulk where
  /-- No bulk buffer. -/
  | no
  /-- The row names one. -/
  | yes
  deriving DecidableEq, Repr

/-- What a command changes (R390): nothing, the resource whose handle stands at byte 8, the masked pins of a bank, the masked
hewers, the queue numbered at byte 8, a twin set, the domains A and B. -/
inductive Chg where
  | none | handle | pins | hewers | queue | twinSet | domains
  deriving DecidableEq, Repr

/-- The fixed facts of a command's row in chapter 14. -/
structure CmdInfo where
  /-- Opcode. -/
  op : Nat
  /-- In the KTX22 subset. -/
  k : Bool := false
  /-- Partition 0 only. -/
  p0 : Bool := false
  /-- Listed parameter bytes: byte and size. -/
  bytes : List (Nat × Nat) := []
  /-- Listed parameters some bits of which are reserved: byte, size and the mask of the bits that are not. -/
  bits : List (Nat × Nat × Nat) := []
  /-- Its bulk buffer. -/
  bulk : Bulk := .no
  /-- What it changes. -/
  chg : Chg := .none
  /-- Handled by service firmware. -/
  svc : Bool := true

/-- The mailbox of a partition takes commands: it is OPEN, and service firmware runs, or it is partition 0's in rescue
station mode (R346, R355, R356). -/
def State.mbxReady (s : State) (p : Nat) : Bool := s.isOpen p && (s.boot.running || (s.boot.rescue && p == 0))

/-- A command without ASYNC has begun and is not complete: later ones wait (R351). -/
def Partition.blocked (x : Partition) : Bool := x.cmds.any (fun a => !a.async)

/-- ASYNC commands in progress (R346). -/
def Partition.asyncActive (x : Partition) : Nat := (x.cmds.filter (fun a => a.async)).length

/-- Completion slots neither used nor reserved (R352). -/
def Partition.cqRoom (x : Partition) : Nat := 256 - (x.cqTail + 65536 - x.cqHead) % 65536 - x.cmds.length

/-- The 32 bytes of a completion (R384). -/
def completion (tag st : Nat) (res : List Byte) : List Byte :=
  leBytes 4 tag ++ leBytes 2 st ++ zeros 2 ++ fitBytes 24 res

/-- A completion written into the partition's ring, CQ_TAIL advanced (R348). -/
def writeCpl (s : State) (p tag st : Nat) (res : List Byte) : State :=
  let x := s.part p
  s.setPart p { x with cq := memWrite x.cq (x.cqTail % 256 * 32) (completion tag st res), cqTail := (x.cqTail + 1) % 65536 }

/-- A final completion; with NOTIFY it raises MBX_DONE (R353). -/
def finalCpl (s : State) (d : Desc) (st : Nat) (res : List Byte) : State :=
  raiseIf (writeCpl s d.part d.tag st res) (bitAt d.flags 1) (srcDiag (284 + d.part)) 1 0

/-- A range of space 4 lies wholly within one region that the partition owns; in rescue station mode, anywhere in space 4
(R385, R501). -/
def bulkOwned (s : State) (p off len : Nat) : Bool :=
  len == 0 || (if s.boot.rescue then decide (off + len ≤ 1572864)
    else (List.range 16).any (fun r =>
      let x := s.region r
      x.size != 0 && x.owner == p && decide (x.base ≤ off) && decide (off + len ≤ x.base + x.size)))

/-- The command of a descriptor, its bulk read from space 4 (R385). -/
def cmdOf (s : State) (d : Desc) : Cmd :=
  { d := d, bulk := if d.bulkOff + d.bulkLen ≤ 1572864 then memRead s.island.sram d.bulkOff d.bulkLen else []
    owned := bulkOwned s d.part d.bulkOff d.bulkLen }

/-- A bulk output written into space 4 (R385). -/
def writeBulk (s : State) (off : Nat) (b : List Byte) : State :=
  if b.isEmpty then s else { s with island := { s.island with sram := memWrite s.island.sram off b } }

/-- The state and completion that a command's end gives (R384, R385). -/
def endCmd (s : State) (d : Desc) (op : Nat) (bulk : List Byte) (async : Bool) : CmdRes → State
  | .fail st => finalCpl s d st []
  | .ok res out s => finalCpl (writeBulk s d.bulkOff out) d stOk res
  | .ends st res s => finalCpl s d st res
  | .later s =>
    s.setPart d.part { s.part d.part with
      cmds := (s.part d.part).cmds ++ [{ part := d.part, opcode := op, desc := d, bulk := bulk, async := async, gone := true,
                                         service := op / 256 != 0x0E && op != 0x0102 && op != 0x0103, begun := true, due := s.lt }] }
  | .silent s => s

/-- No byte outside the listed parameters and no reserved bit of a listed one is set, and no bulk where the row names none (R8, R385). -/
def reservedOk (i : CmdInfo) (d : Desc) : Bool :=
  let listed := fun k => i.bytes.any (fun e => decide (e.1 ≤ k) && decide (k < e.1 + e.2))
  ((List.range 48).all (fun k => listed (k + 8) || d.params.getD k 0 == 0))
    && i.bits.all (fun e => let v := leAt d.params (e.1 - 8) e.2.1; v &&& e.2.2 == v)
    && (i.bulk == .yes || (d.bulkOff == 0 && d.bulkLen == 0))

/-- The checks 1 to 5 of R350; the status of the first that fails. -/
def precheck (i : CmdInfo) (d : Desc) (s : State) : Option Nat :=
  let x := s.part d.part
  if x.ktx22 && !i.k then some stBadOpcode
  else if d.flags / 8 ≠ 0 ∨ d.byte3 ≠ 0 ∨ !reservedOk i d then some stBadParam
  else if bitAt d.flags 2 != x.ktx22 then some stDenied
  else if i.p0 ∧ d.part ≠ 0 then some stDenied
  else if s.boot.rescue ∧ i.op / 256 ≠ 0x0F then some stWrongState
  else none

/-- Number of resources of a class (R45). -/
def classSize (cls : Nat) : Nat :=
  if cls = 1 then 24 else if cls = 2 then 64 else if cls = 3 then 256 else if cls = 4 then 8 else if cls = 5 then 4096
  else if cls = 6 then 8192 else if cls = 7 then 512 else if cls = 8 then 4096 else if cls = 9 then 16 else if cls = 10 then 3
  else if cls = 11 then 256 else if cls = 12 then 6 else if cls = 13 then 64 else if cls = 14 then 128 else 0

/-- Index of a resource as a KTX22 partition's handle names it (R357, R358); none outside the view. -/
def viewIndex (x : Partition) (cls i : Nat) : Option Nat :=
  if !x.ktx22 then some i
  else if cls = 1 then (if i < 4 then x.chans[i]? else none)
  else if cls = 2 then (if i < 4 then some (8 * (x.bank / 2) + 4 * (x.bank % 2) + i) else none)
  else if cls = 3 then (if i < 16 then some (16 * x.bank + i) else none)
  else if cls = 5 then (if i < 256 then some (x.qbase + i) else none)
  else some i

/-- Class and index of a local resource that a handle names; none makes the command end with BAD_PARAM (R45, R339, R386). -/
def localRes (s : State) (p h : Nat) : Option (Nat × Nat) :=
  let cls := bitsAt h 16 8
  if !s.isLocal (h / 16777216) || decide (h % 65536 ≥ classSize cls) then none
  else (viewIndex (s.part p) cls (h % 65536)).map (fun i => (cls, i))

/-- The resources that a command would change, each as one number, class x 65536 + index; twin sets as class 256 (R45, R390). -/
def resKeys (s : State) (i : CmdInfo) (d : Desc) : List Nat :=
  let h := (localRes s d.part (leAt d.params 0 4)).toList
  match i.chg with
  | .none => []
  | .handle => h.map (fun r => r.1 * 65536 + r.2)
  | .pins => h.flatMap (fun r => (maskList 16 (leAt d.params 4 2)).map (fun k => r.1 * 65536 + r.2 + k))
  | .hewers => (maskList 64 (leAt d.params 0 8)).map (fun k => 2 * 65536 + (viewIndex (s.part d.part) 2 k).getD 65535)
  | .queue => (localRes s d.part (5 * 65536 + leAt d.params 0 2)).toList.map (fun r => r.1 * 65536 + r.2)
  | .twinSet => [256 * 65536 + leAt d.params 0 1]
  | .domains => [10 * 65536 + 1, 10 * 65536 + 2]

/-- Another command, accepted with ASYNC, is still changing a resource that this one would change (R390). -/
def changing (s : State) (i : CmdInfo) (d : Desc) : Bool :=
  (resKeys s i d).any (fun k => s.parts.any (fun e => e.2.cmds.any (fun a => a.res.contains k)))

/-- Island that a command's effect crosses into from the control island, by its group; 2 where it crosses into none (R12, R14; log 74). -/
def cmdIsland (op : Nat) : Nat :=
  let g := op / 256
  if g = 0x04 ∨ g = 0x05 ∨ g = 0x06 then 1
  else if g = 0x07 then 5
  else if g = 0x09 then 4
  else if g = 0x0B then 3
  else if g = 0x0D then 9
  else if g = 0x0E then 10
  else 2

/-- A command's own checks and effect: NOT_PRESENT of an assay command without the die (R407), bulk alignment (R385, R388), BUSY while
its resource is being changed (R390); its effect waits where the island that it crosses into does not accept it (R14). -/
def runBody (i : CmdInfo) (body : Cmd → State → CmdRes) (c : Cmd) (s : State) : CmdRes :=
  if i.op / 256 = 0x0E ∧ !s.assay.fitted then .fail stNotPresent
  else if i.bulk = .yes ∧ c.d.bulkOff % 8 ≠ 0 then .fail stBadParam
  else match body c s with
    | .fail st => .fail (if changing s i c.d && (st == stNoResource) then stBusy else st)
    | r =>
      if changing s i c.d then .fail stBusy
      else if s.crossable (cmdIsland i.op) then r
      else .later (holdWord s 2 (cmdIsland i.op))

/-- Whether a command handed to service firmware stays with a pair that does not run it: always while none runs; while one of them
alone is halted, which of the two is given the command is free (R430; log 82). -/
def handed (svc : Bool) (s : State) : Bool × State :=
  if !svc then (false, s)
  else if s.serviceStalled then (true, s)
  else if s.pairHalted then
    let (r, s) := s.draw
    (r.getLsbD 0, s)
  else (false, s)

/-- A command starts (R350 to R353): it waits while the mailbox is not ready or lacks completion room; the checks of R350; with
ASYNC it is accepted, otherwise it runs. -/
def runCmd (i : CmdInfo) (d : Desc) (body : Cmd → State → CmdRes) (s : State) : State :=
  let x := s.part d.part
  let async := bitAt d.flags 0
  if !s.mbxReady d.part || x.blocked || (s.pair 0).halted then s
  else if x.cqRoom < (if async then 2 else 1) then s.setPart d.part { x with cqWait := true }
  else
    let s := s.setPart d.part { x with cqWait := false }
    match precheck i d s with
    | some st => finalCpl s d st []
    | none =>
      if async then
        if i.op = 0x0107 then finalCpl s d stBadParam []
        else if x.asyncActive ≥ 16 then finalCpl s d stBusy []
        else
          let (held, s) := handed i.svc (writeCpl s d.part d.tag stAccepted [])
          let a : Async := { part := d.part, opcode := i.op, desc := d, bulk := (cmdOf s d).bulk, due := s.lt, service := i.svc,
                             res := resKeys s i d, stalled := held }
          s.setPart d.part { s.part d.part with cmds := (s.part d.part).cmds ++ [a] }
      else
        let c := cmdOf s d
        let (held, s) := handed i.svc s
        if held then
          s.setPart d.part { s.part d.part with
            cmds := (s.part d.part).cmds ++ [{ part := d.part, opcode := i.op, desc := d, bulk := c.bulk, async := false, due := s.lt
                                               service := true, stalled := true }] }
        else endCmd s d i.op c.bulk false (runBody i body c s)

/-- The row of a mailbox command: it starts, from partition 0 to 15. -/
def cmdRow (i : CmdInfo) (d : Desc) (body : Cmd → State → CmdRes) (s : State) : Res :=
  if d.part < 16 then .next (runCmd i d body s) else .fault .noSuchUnit

/-- The first entry of a list that satisfies a test taken out. -/
def takeFirst {α : Type} (p : α → Bool) : List α → Option (α × List α)
  | [] => none
  | a :: r => if p a then some (a, r) else (takeFirst p r).map (fun x => (x.1, a :: x.2))

/-- The accepted command taken from the partition's list and run, its final completion written (R351). -/
def finishAsync (s : State) (p : Nat) (i : CmdInfo) (body : Cmd → State → CmdRes) (a : Async) (rest : List Async) : State :=
  let s := s.setPart p { s.part p with cmds := rest }
  let c : Cmd := { cmdOf s a.desc with bulk := a.bulk }
  endCmd s a.desc a.opcode a.bulk a.async (runBody i body c s)

/-- A command that has begun ends by an outside answer, oldest first: status and results (R351). -/
def finishBegun (s : State) (p op tag st : Nat) (res : List Byte) : State :=
  match takeFirst (fun a => a.begun && a.opcode == op && a.desc.tag == tag) (s.part p).cmds with
  | some (a, rest) => finalCpl (s.setPart p { s.part p with cmds := rest }) a.desc st res
  | none => s

/-- Index of the resource of class `cls` whose handle stands at byte `k` of the descriptor; otherwise BAD_PARAM. -/
def handle (s : State) (c : Cmd) (k cls : Nat) (f : Nat → CmdRes) : CmdRes :=
  match localRes s c.p (c.u k 4) with
  | some (cl, i) => if cl = cls then f i else .fail stBadParam
  | none => .fail stBadParam

/-- A resource that firmware or the hub holds (R105, R175, R337). -/
def State.fwHeld (s : State) (cls i : Nat) : Bool :=
  (cls == 5 && (s.queue i).fwUse != 0) || (cls == 13 && (s.trig i).held)

/-- The issuer owns the resource and firmware does not hold it; else NOT_OWNER, or DENIED (R339, R388). -/
def ownRes (s : State) (c : Cmd) (cls i : Nat) (k : CmdRes) : CmdRes :=
  if !s.owns c.p cls i then .fail stNotOwner else if s.fwHeld cls i then .fail stDenied else k

/-- The issuer may read the resource; else NOT_OWNER (R338, R339). -/
def readRes (s : State) (c : Cmd) (cls i : Nat) (k : CmdRes) : CmdRes := if s.mayRead c.p cls i then k else .fail stNotOwner

/-- A doorbell write (R349): refused when it would pass 256 slots or move backward. -/
def sqTailReg (s : State) (p v : Nat) : State :=
  let x := s.part p
  let v := v % 65536
  if (v + 65536 - x.sqHead) % 65536 > 256 ∨ (v + 65536 - x.sqHead) % 65536 < (x.sqTail + 65536 - x.sqHead) % 65536 then
    raise ((s.setPart p { x with doorbellErr := true }).count cMbxBadDoorbell p) (srcDiag (284 + p)) 2 0
  else s.setPart p { x with sqTail := v }

/-- A write of MBX_CQ_HEAD (R349): refused when it would pass CQ_TAIL or move backward. -/
def cqHeadReg (s : State) (p v : Nat) : State :=
  let x := s.part p
  let v := v % 65536
  if (x.cqTail + 65536 - v) % 65536 > (x.cqTail + 65536 - x.cqHead) % 65536 then
    raise ((s.setPart p { x with doorbellErr := true }).count cMbxBadDoorbell p) (srcDiag (284 + p)) 2 0
  else s.setPart p { x with cqHead := v }

/-- MBX_SQ_TAIL write (R349). -/
def execMbxSqTailWrite (a : Acc) (v : Nat) (s : State) : Res := .next (accessAs a s (fun s p => ansOk (sqTailReg s p v))).s

/-- MBX_CQ_HEAD write (R349). -/
def execMbxCqHeadWrite (a : Acc) (v : Nat) (s : State) : Res := .next (accessAs a s (fun s p => ansOk (cqHeadReg s p v))).s

/-- The descriptor in a submission slot: its opcode and the rest (R383). -/
def slotDesc (s : State) (p slot : Nat) : Nat × Desc :=
  let b := memRead (s.part p).sq (slot * 64) 64
  (leAt b 0 2, { part := p, flags := leAt b 2 1, byte3 := leAt b 3 1, tag := leAt b 4 4, params := bytesAt b 8 48
                 bulkOff := leAt b 56 4, bulkLen := leAt b 60 4 })

/-- PART_INFO (R343). -/
def partInfo (s : State) (p : Nat) : Nat :=
  let x := s.part p
  p + x.st * 16 + b2n x.ktx22 * 64 + b2n (p == 0) * 128 + s.ring.node * 256 + listMask (s.boundAtts p 0 28) * 2 ^ 32

/-- DEV_CAPS0 (R344). -/
def devCaps0 (ktx22 : Bool) : Nat :=
  if ktx22 then 0x2204 + 0xB1 * 2 ^ 16 + 4 * 2 ^ 32 + 4 * 2 ^ 40 + 16 * 2 ^ 48
  else 0x7748 + 0xB1 * 2 ^ 16 + 2 * 2 ^ 24 + 3 * 2 ^ 26 + 24 * 2 ^ 32 + 64 * 2 ^ 40 + 256 * 2 ^ 48

/-- DEV_CAPS1 (R3, R344). -/
def devCaps1 (s : State) (ktx22 : Bool) : Nat :=
  if ktx22 then 1 + 256 * 2 ^ 32
  else 16 + 8 * 2 ^ 8 + b2n s.assay.fitted * 2 ^ 12 + s.pool.fittedMiB / 256 * 2 ^ 16 + 4096 * 2 ^ 32
    + s.pool.extCells / 65536 * 2 ^ 48 + 4 * 2 ^ 56 + 8 * 2 ^ 60

/-- FW_STATUS (R26, R345). -/
def fwStatus (s : State) : Nat :=
  let one := (s.pair 1).ok && (s.pair 2).ok
  let st := if s.boot.rescue then 3 else if !s.boot.running then 0 else if one then 1 else 2
  let run := s.boot.running
  st + b2n (run && (s.pair 1).ok) * 4 + b2n (run && (s.pair 2).ok) * 8 + b2n s.boot.trialRun * 16 + s.boot.bootCount * 256
    + s.boot.flashVer * 2 ^ 32

/-- MBX_STATUS (R346). -/
def mbxStatus (s : State) (p : Nat) : Nat :=
  let x := s.part p
  b2n (s.mbxReady p) + b2n x.doorbellErr * 2 + b2n x.cqWait * 4 + x.asyncActive * 256

/-- A read of space 1 (R347): within one ring, any length up to 1,024 bytes. -/
def mbxRead (s : State) (p off len : Nat) : Ans :=
  if off + len ≤ 0x4000 then ansOk s (memRead (s.part p).sq off len)
  else if 0x4000 ≤ off ∧ off + len ≤ 0x6000 then ansOk s (memRead (s.part p).cq (off - 0x4000) len)
  else ansUr s

/-- A write of space 1 (R347): the completion ring takes none. -/
def mbxWrite (s : State) (p off : Nat) (d : List Byte) : Ans :=
  if off + d.length ≤ 0x4000 then ansOk (s.setPart p { s.part p with sq := memWrite (s.part p).sq off d })
  else if 0x4000 ≤ off ∧ off + d.length ≤ 0x6000 then ansOk (s.count cMbxBadWrite p)
  else ansUr s

end Sys2Proof.Machine
end

