-- ==== Sys2Proof/Machine/QueueCmds.lean ====
section
/-!
DEFINITION. Binding the two ends of a tub queue (R105) and the 0x05xx commands (R104, R116, R120, R397).
-/
namespace Sys2Proof.Machine

/-- Producer and consumer form a pair that R105 lists; the feeder of a CAN channel (R231) counts as a hewer TX FIFO does (log 20). -/
def pairOk : Producer → Consumer → Bool
  | .none, _ => true
  | _, .none => true
  | _, .dma => true
  | .host, .port14 => true
  | .host, .hewer _ => true
  | .host, .can _ => true
  | .host, _ => false
  | .firmware, _ => true
  | .canary, .host => true
  | .canary, .firmware => true
  | .canary, _ => false
  | .port14, .host => true
  | .port14, _ => false
  | .hewer _, .host => true
  | .hewer _, .port14 => true
  | .hewer _, .firmware => true
  | .hewer _, _ => false
  | .can _, .host => true
  | .can _, .firmware => true
  | .can _, _ => false
  | .image _, .host => true
  | .image _, .port14 => true
  | .image _, .firmware => true
  | .image _, _ => false
  | .event _, .host => true
  | .event _, _ => false
  | .capture _, .host => true
  | .capture _, .firmware => true
  | .capture _, _ => false

/-- Status of binding a producer to queue `q`: the pair first, then a second producer (R105, R388). -/
def prodBindStatus (s : State) (q : Nat) (p : Producer) : Nat :=
  if !pairOk p (s.queue q).cons then stWrongState else if (s.queue q).prod ≠ .none then stBusy else stOk

/-- Status of binding a consumer to queue `q` (R105, R388). -/
def consBindStatus (s : State) (q : Nat) (k : Consumer) : Nat :=
  if !pairOk (s.queue q).prod k then stWrongState else if (s.queue q).cons ≠ .none then stBusy else stOk

/-- Producer of queue `q` set; the queue is configured anew, so the last value of R112 is 0. -/
def bindProd (s : State) (q : Nat) (p : Producer) : State := s.setQueue q { s.queue q with prod := p, lastPop := 0 }

/-- Consumer of queue `q` set; port 14 takes the packets already visible (R105, R106), and the last value of R112 is 0. -/
def bindCons (s : State) (q : Nat) (k : Consumer) : State :=
  forwardAll (s.setQueue q { s.queue q with cons := k, presented := false, popped := 0, lastPop := 0 }) q (s.queue q).packets.length

/-- Go on when a binding status is OK, else end with it. -/
def chkSt (st : Nat) (k : CmdRes) : CmdRes := if st = stOk then k else .fail st

/-- PACKETS = 0, OPEN_CELLS = 0 and PRESENTED = 0 (R104). -/
def Queue.quiet (x : Queue) : Bool := x.packets.isEmpty && x.fresh.isEmpty && x.openCells == 0 && !x.presented

/-- The partition may bind a consumer to a trigger unit (R175). -/
def State.mayBind (s : State) (p t : Nat) : Bool := s.mayRead p 13 t || (decide (59 ≤ t) && decide (t ≤ 63) && (s.trig t).held)

/-- Facts of Q_CONFIG (R397). -/
def iQConfig : CmdInfo :=
  { op := 0x0500, k := true, bytes := [(8, 4), (12, 2), (16, 4), (20, 4), (24, 1), (25, 1)], bits := [(12, 2, 0x3F)], chg := .handle }
/-- Q_CONFIG (R104, R112, R120, R136): the watermark is evaluated in the cycle of the change (R117); an event queue stays pinned (R102). -/
def bodyQConfig (c : Cmd) (s : State) : CmdRes :=
  handle s c 8 5 (fun q =>
    let v := c.u 12 2
    let x := s.queue q
    chk (decide (v < 64) && decide (c.u 16 4 ≤ 4194304) && decide (c.u 20 4 ≤ 4194304) && decide (c.u 24 1 ≤ 2)
        && decide (c.u 25 1 < 64)) stBadParam (
    ownRes s c 5 q (
    chk (c.u 24 1 != 2 || s.mayBind c.p (c.u 25 1)) stNotOwner (
    chk ((bitAt v 1 == x.hold && bitAt v 3 == x.dma) || x.quiet) stWrongState (
    chk (!bitAt v 3 || !(s.boundAtts (s.owner 5 q) 0 8).isEmpty) stWrongState (
      let s := s.setQueue q { x with enable := bitAt v 0, hold := bitAt v 1, pin := bitAt v 2 || x.isEvent, dma := bitAt v 3, urNotice := bitAt v 4
                                     noticeEn := bitAt v 5, limit := c.u 16 4, wmark := c.u 20 4, launchSrc := c.u 24 1
                                     launchUnit := c.u 25 1, lastPop := 0 }
      okS (forwardAll (wmEval s q) q (s.queue q).packets.length)))))))
/-- Q_CONFIG (R104, R397). -/
def execQConfig (d : Desc) (s : State) : Res := cmdRow iQConfig d bodyQConfig s

/-- Producer that KIND of Q_BIND names (R397). -/
def prodOfKind (k : Nat) : Option Producer :=
  if k = 0 then some .none else if k = 1 then some .host else if k = 2 then some .port14 else none

/-- Consumer that KIND of Q_BIND names (R397). -/
def consOfKind (k : Nat) : Option Consumer :=
  if k = 0 then some .none else if k = 1 then some .host else if k = 2 then some .port14 else if k = 3 then some .dma else none

/-- Facts of Q_BIND (R397). -/
def iQBind : CmdInfo := { op := 0x0501, k := true, bytes := [(8, 4), (12, 1), (13, 1)], chg := .handle }
/-- Q_BIND (R105): binds or unbinds one end. -/
def bodyQBind (c : Cmd) (s : State) : CmdRes :=
  handle s c 8 5 (fun q =>
    if c.u 12 1 = 0 then
      match prodOfKind (c.u 13 1) with
      | none => .fail stBadParam
      | some p => ownRes s c 5 q (chkSt (if p = .none then stOk else prodBindStatus s q p) (okS (bindProd s q p)))
    else if c.u 12 1 = 1 then
      match consOfKind (c.u 13 1) with
      | none => .fail stBadParam
      | some k => ownRes s c 5 q (
          chk (k != .dma || !(s.boundAtts (s.owner 5 q) 0 8).isEmpty) stWrongState (
          chkSt (if k = .none then stOk else consBindStatus s q k) (okS (bindCons s q k))))
    else .fail stBadParam)
/-- Q_BIND (R105, R397). -/
def execQBind (d : Desc) (s : State) : Res := cmdRow iQBind d bodyQBind s

/-- Facts of Q_FLUSH (R397). -/
def iQFlush : CmdInfo := { op := 0x0502, k := true, bytes := [(8, 4)], chg := .handle }
/-- Q_FLUSH (R116). -/
def bodyQFlush (c : Cmd) (s : State) : CmdRes :=
  handle s c 8 5 (fun q => ownRes s c 5 q (
    let s := wmEval (flushReq s q) q
    .ok (resOf [(0, 1, b2n (s.queue q).flushPending)]) [] s))
/-- Q_FLUSH (R116, R397). -/
def execQFlush (d : Desc) (s : State) : Res := cmdRow iQFlush d bodyQFlush s

/-- Facts of Q_DESC (R397). -/
def iQDesc : CmdInfo := { op := 0x0503, k := true, bytes := [(8, 4)] }
/-- Q_DESC (R103): descriptor bytes 8 to 31. -/
def bodyQDesc (c : Cmd) (s : State) : CmdRes :=
  handle s c 8 5 (fun q => readRes s c 5 q (.ok (((s.queue q).descriptor (s.owner 5 q)).drop 8) [] s))
/-- Q_DESC (R103, R397). -/
def execQDesc (d : Desc) (s : State) : Res := cmdRow iQDesc d bodyQDesc s

/-- `v` is a power of two between `2 ^ lo` and `2 ^ hi`. -/
def powerBetween (lo hi v : Nat) : Bool := (List.range (hi + 1 - lo)).any (fun i => v == 2 ^ (lo + i))

/-- A packet fits the ring (R121). -/
def fitsRing (slotSize slots : Nat) (k : Packet) : Bool :=
  decide ((k.bytes.length + (slotSize - 16) - 1) / (slotSize - 16) ≤ slots - 1)

/-- Facts of DMA_RING_SET (R397). -/
def iDmaRingSet : CmdInfo := { op := 0x0504, bytes := [(8, 4), (12, 1), (16, 8), (24, 8), (32, 4), (36, 4)], chg := .handle }
/-- DMA_RING_SET (R120, R121): the ring starts empty. -/
def bodyDmaRingSet (c : Cmd) (s : State) : CmdRes :=
  handle s c 8 5 (fun q =>
    let x := s.queue q
    let r : DmaRing := { base := c.u 16 8, slotSize := c.u 32 4, slots := c.u 36 4, tailWb := c.u 24 8, vector := c.u 12 1, since := s.lt }
    chk (decide (r.vector < 64) && r.base % 4096 == 0 && r.tailWb % 8 == 0 && powerBetween 8 16 r.slotSize && powerBetween 6 16 r.slots
        && (x.packets ++ x.fresh ++ x.arriving ++ x.opn.toList).all (fitsRing r.slotSize r.slots)) stBadParam (
    ownRes s c 5 q (chk x.quiet stWrongState (
      okS (s.setQueue q { x with ring := some r, dmaHead := 0, dmaTail := 0 })))))
/-- DMA_RING_SET (R120, R397). -/
def execDmaRingSet (d : Desc) (s : State) : Res := cmdRow iDmaRingSet d bodyDmaRingSet s

/-- Facts of Q_MAP (R397). -/
def iQMap : CmdInfo := { op := 0x0505, bytes := [], bulk := .yes }
/-- Q_MAP (R105, R397). -/
def bodyQMap (c : Cmd) (s : State) : CmdRes :=
  let l := s.queues.filter (fun e => e.2.fwUse != 0)
  chk (c.len % 8 == 0) stBadParam (chk c.owned stNotOwner (chk (decide (4 * l.length ≤ c.len)) stNoResource (
    .ok (resOf [(0, 2, l.length)]) (l.flatMap (fun e => leBytes 4 (e.1 + e.2.fwUse * 65536))) s)))
/-- Q_MAP (R397). -/
def execQMap (d : Desc) (s : State) : Res := cmdRow iQMap d bodyQMap s

end Sys2Proof.Machine
end

