-- ==== Sys2Proof/Machine/Twins.lean ====
section
/-!
DEFINITION. Cycle instants, the acceptance of output data by tally, shadows, the deadline of a group, staging, twin sets and
the last gasp (R185, R186, R200 to R211, R215).
-/
namespace Sys2Proof.Machine

/-- Snapshot instant S_n on the working clock, ns (R185). -/
def Cycle.snap (c : Cycle) (n : Nat) : Nat := c.cfg.base + n * c.cfg.t
/-- Deadline D_n (R185). -/
def Cycle.dl (c : Cycle) (n : Nat) : Nat := c.snap n + c.cfg.dlOff
/-- Publish instant P_n (R185). -/
def Cycle.pub (c : Cycle) (n : Nat) : Nat := c.snap n + c.cfg.pubOff
/-- Apply instant A_n (R185). -/
def Cycle.ap (c : Cycle) (n : Nat) : Nat := c.snap n + c.cfg.apOff

/-- The full cycle number with these low 32 bits that lies nearest to the current one (R186). -/
def fullCycle (cur low : Nat) : Nat :=
  let b := cur / 4294967296 * 4294967296 + low % 4294967296
  if b > cur + 2147483648 ∧ b ≥ 4294967296 then b - 4294967296
  else if b + 2147483648 ≤ cur then b + 4294967296 else b

/-- The hub's own current cycle number: the n of the latest S_n passed (R185, R186); 0 before S_0, or while no cycle has been set. -/
def State.cycleNow (s : State) : Nat :=
  let c := s.cycle.cfg
  if c.t = 0 ∨ s.work < c.base then 0 else (s.work - c.base) / c.t

/-- Cycle `n` belongs to a group or twin set with period `k` and phase `ph` (R197, R206). -/
def ofCycle (k ph n : Nat) : Bool := decide (n ≥ ph % k) && (n - ph % k) % k == 0

/-- The checks every record and frame passes before the tally rules (R201): the counter of the first that fails. -/
def groupCheck (s : State) (g part n : Nat) : Option CtrId :=
  let x := s.group g
  if !bitAt x.writers part then some cGroupRefused
  else if !x.enable || !s.cycle.running || decide (n < s.cycle.first) || !ofCycle x.k x.phase n || decide (s.cycle.dl n < x.beginAt)
      || decide (n > s.cycleNow + 16) then some cBadCycle
  else if s.work ≥ s.cycle.dl n then some cLateData
  else none

/-- Cells of the pool for `n` bytes of output group data that waits, beside those already taken; none when one is refused (R21, R88; the
class that counts for RESERVE is that of the image types, log 77). -/
def stageCells (s : State) (have_ : List Nat) (n : Nat) : Option (List Nat × State) :=
  (List.range (cellsFor n - have_.length)).foldl (fun a _ =>
    match a with
    | none => none
    | some (l, s) =>
      match grantCell s false s.ring.clsImage false with
      | .ok c s => some (l ++ [c], { s with pool := { s.pool with staged := s.pool.staged ++ [c] } })
      | .no _ => none) (some (have_, s))

/-- The cells of output group data that no longer waits are free (R21). -/
def reapStaged (s : State) : State :=
  if s.pool.staged.isEmpty then s
  else
    let held := s.cycle.stages.flatMap (fun r => r.cells) ++ s.cycle.groups.flatMap (fun e => e.2.pending.flatMap (fun r => r.cells))
    let gone := s.pool.staged.filter (fun c => !held.contains c)
    freeAll { s with pool := { s.pool with staged := s.pool.staged.filter (fun c => held.contains c) } } gone

/-- on_data of R202; `cells` hold the data. -/
def takeData (s : State) (g node part tally n : Nat) (data : List Byte) (cells : List Nat) : State :=
  let x := s.group g
  let mine := x.accNode == node && x.accPart == part && (x.accNode != 0 || x.epoch != 0)
  let put := fun (x : OutGroup) => { x with pending := (x.pending.filter (fun r => r.n != n)) ++ [{ n := n, node := node, part := part, data := data, cells := cells }] }
  if tally = 0 then (if mine then s.setGroup g { x with resigns := (x.resigns.filter (· != n)) ++ [n] } else s)
  else if mine then
    if tally < x.accTally then s.count cTallyLow g else s.setGroup g (put { x with accTally := tally })
  else if tally > x.accTally then
    raise ((s.setGroup g (put { x with accNode := node, accPart := part, accTally := tally, epoch := (x.epoch + 1) % 4294967296 })).count
      cTakeovers g) (srcGroup g) 1 0
  else s.count cTallyRefused g

/-- Output data that has reached this hub as a frame, or from a twin of this hub: it takes its cells; without them it is lost and counted
in DROP_POOL (R21, R202; log 77). -/
def onData (s : State) (g node part tally n : Nat) (data : List Byte) : State :=
  match stageCells s [] data.length with
  | some (l, s) => takeData s g node part tally n data l
  | none => s.count cDropPool 0

/-- on_shadow of R202. -/
def onShadow (s : State) (g node part n crc len : Nat) : State :=
  s.setGroup g { s.group g with shadows := (s.group g).shadows ++ [{ n := n, node := node, part := part, crc := crc, len := len }] }

/-- Output data, a resign or a shadow that has reached this hub: checked, then given to the tally rules (R201, R202). -/
def offer (s : State) (g part n : Nat) (f : State → State) : State :=
  match groupCheck s g part n with
  | some c => s.count c g
  | none => f s

/-- The source node of what this hub itself supplies. -/
def State.me (s : State) : Nat := s.ring.node

/-- The comparison of the shadows of cycle `n` with the accepted data (R209). -/
def compareShadows (s : State) (g n : Nat) : State :=
  let x := s.group g
  match x.pending.find? (fun r => r.n == n && r.node == x.accNode && r.part == x.accPart) with
  | none => s
  | some r =>
    let l := x.shadows.filter (fun h => h.n == n && !(h.node == x.accNode && h.part == x.accPart))
    let crc := crc32 r.data
    let bad := l.any (fun h => h.crc != crc || h.len != r.data.length)
    let x := { x with lastShadow := (l.getLast?.map (fun (h : Shadow) => h.crc)).getD x.lastShadow }
    if l.isEmpty then s.countIf x.shadowExpect cShadowMissing g
    else if bad then
      raiseIf ((s.setGroup g { x with diverged := true }).count cDivergeCycles g) (!x.diverged) (srcGroup g) 4 0
    else s.setGroup g { x with diverged := false }

/-- The group is enabled and its owner's partition is open: otherwise it holds its last applied state and counts nothing (R212). -/
def State.groupLive (s : State) (g : Nat) : Bool := (s.group g).enable && (s.part (s.owner 7 g)).st == 1

/-- The deadline of one enabled group in one of its cycles (R202). -/
def groupDeadline (s : State) (g n : Nat) : State :=
  let x := s.group g
  if !s.groupLive g || !ofCycle x.k x.phase n || decide (s.cycle.dl n < x.beginAt) then s
  else
    let good := x.pending.any (fun r => r.n == n && r.node == x.accNode && r.part == x.accPart)
    let x := { x with unheard := if good then 0 else if x.accTally ≠ 0 then x.unheard + 1 else x.unheard
                      decided := if good then x.decided ++ [n] else x.decided }
    let s := compareShadows (s.setGroup g x) g n
    let x := { s.group g with shadows := (s.group g).shadows.filter (fun h => decide (h.n > n)) }
    let resigned := x.resigns.contains n
    let x := { x with resigns := x.resigns.filter (fun k => decide (k > n)) }
    if resigned then raise (s.setGroup g { x with accTally := 0 }) (srcGroup g) 2 0
    else if x.accTally ≠ 0 ∧ x.unheard ≥ x.lease then raise (s.setGroup g { x with accTally := 0 }) (srcGroup g) 3 0
    else s.setGroup g x

/-- Lengths that the type table gives a GRT frame (R50, R55). -/
def grtLenOk (f : GrtFrame) : Bool :=
  let n := f.hdr.len
  let m := f.payload.length
  let t := f.hdr.typ
  if t = tRead then decide (1 ≤ n) && decide (n ≤ 1024) && m == 0
  else if t = tWriteP ∨ t = tWriteNp then decide (1 ≤ n) && decide (n ≤ 1024) && m == n
  else if t = tLockRead then decide (1 ≤ n) && decide (f.hdr.addr.off % 64 + n ≤ 64) && m == 0
  else if t = tWriteUnlock then decide (f.hdr.addr.off % 64 + n ≤ 64) && m == n
  else if t = tCompletion then
    (if infoAt f.hdr 16 1 = 0 ∧ (infoAt f.hdr 17 1 = tRead ∨ infoAt f.hdr 17 1 = tLockRead) then decide (1 ≤ n) && decide (n ≤ 1024) else n == 0)
      && m == n
  else if t = tEvent then n == 16 && m == 16
  else if t = tEnumReport then n == 24 && m == 24
  else if t = tBarrier ∨ t = tEnumWalk ∨ t = tEnumAssign ∨ t = tMgrBeacon ∨ t = tRingReset then n == 0 && m == 0
  else decide (n ≤ 1024) && m == n

/-- The packet of a GRT frame leaves the firmware queue that received it (R79, R397). -/
def takeFromQueue (s : State) (use : Nat) (f : GrtFrame) : State :=
  match s.fwQueue use with
  | none => s
  | some q => match (s.queue q).packets with
    | k :: _ =>
      let b := hdrBytes f.hdr ++ f.payload
      if (k.bytes.drop 18).take b.length == b then wmEval (releaseHead (readCells s q k.cells) q) q else s
    | [] => s

/-- A GRT frame came from a node of this ring, judged by its source MAC alone (R47, R315). -/
def State.fromNode (s : State) (f : GrtFrame) : Bool :=
  decide (macOfNode s.ring.ringId 1 ≤ f.smac) && decide (f.smac ≤ macOfNode s.ring.ringId 250)

/-- A received GRT frame of type `t`: discarded and counted when its version, type or length is bad (R55); nothing is served
in pass-through (R31). A frame that no node of the ring sent is of an unknown host (R315); requests may be an Ethernet host's. -/
def grtServe (s : State) (t : Nat) (f : GrtFrame) (g : State → State) : State :=
  if s.passThrough then s
  else
    let s := takeFromQueue s (if 0x20 ≤ t ∧ t ≤ 0x23 then 8 else 2) f
    if bitsAt f.hdr.flags 6 2 ≠ 1 then s.count cGrtBadVer 0
    else if f.hdr.typ ≠ t then s.count cGrtBadType 0
    else if !grtLenOk f then s.count cGrtMalformed 0
    else if t ≠ tCompletion ∧ (t < tEvent ∨ tEnumWalk ≤ t) ∨ s.fromNode f then g s
    else s.count cHostUnknown 0

/-- The twin set pairs of a set on one node. -/
def TwinSet.onNode (t : TwinSet) (node : Nat) : List Nat := (t.groups.filter (fun e => e.1 == node)).map Prod.snd

/-- A set is enabled with this partner. -/
def State.partnerSets (s : State) (node : Nat) : List Nat :=
  (List.range 16).filter (fun t => (s.twin t).defined && (s.twin t).enable && (s.twin t).partner == node)

/-- What MAP_SET wrote of a signal map, as numbers (R249 to R258). -/
def SigMap.content (x : SigMap) : List Int :=
  x.sources.flatMap (fun e => [(e.kind : Int), e.unit, e.segment, e.val, e.mask, e.timeout])
    ++ x.signals.flatMap (fun g => [(g.source : Int), b2n g.motorola, b2n g.signed, b2n g.ranges, b2n g.rawCopy, g.start, g.len, g.num, g.den, g.offset])
    ++ x.tpls.flatMap (fun t =>
      [(t.kind : Int), t.trigger, t.drive, t.period, t.minGap, t.handle, t.idWord, t.len, t.fill, t.tally, t.k, t.phase]
        ++ t.fields.flatMap (fun f =>
          [(f.signal : Int), b2n f.motorola, b2n f.signed, b2n f.ranges, f.fallback, f.start, f.len, f.num, f.den, f.offset, f.fill]))

/-- SET_DIGEST of a set (R206): a function of the firmware version that runs, the set's schedule, its group list and what its maps hold. -/
def State.setDigest (s : State) (x : TwinSet) : Nat :=
  (Config.setDigest ([(s.boot.flashVer : Int), x.k, x.phase] ++ x.groups.flatMap (fun e => [(e.1 : Int), e.2])
    ++ x.maps.flatMap (fun m => (s.map m).content))).toNat

/-- The tally in use by a set. -/
def TwinSet.inUse (t : TwinSet) : Nat := if t.useTally = 0 then t.tally else t.useTally

/-- The standby becomes active: it claims with the partner's highest tally plus 1, or with its own TALLY when that would
exceed 0xFFFF (R208). -/
def becomeActive (s : State) (t : Nat) : State :=
  let x := s.twin t
  let out := decide (x.heardTally + 1 > 0xFFFF)
  let x := { x with role := 2, useTally := if out then x.tally else x.heardTally + 1, silent := 0, nextRole := none }
  raiseIf (s.setTwin t x) out (srcDiag (336 + t)) 1 x.useTally

/-- What a twin hears of its partner: IMAGE_OUT with its tally, SHADOW or RESIGN for a group of the set (R206 to R208). -/
def twinHear (s : State) (node g target typ tally n : Nat) : State :=
  forEach (s.partnerSets node) s (fun t s =>
    let x := s.twin t
    if !x.groups.contains (target, g) then s
    else if typ = tResign then (if x.role = 3 then becomeActive s t else s)
    else
      let x := { x with heardIn := if x.heardIn.contains n then x.heardIn else x.heardIn ++ [n], partnerSeen := true }
      if typ = tImageOut then
        let up := (x.role == 2 && (decide (tally > x.inUse) || (tally == x.inUse && decide (s.me > x.partner))))
          || (x.role == 1 && decide (tally > x.tally))
        let x := { x with heardTally := max x.heardTally tally, lastTally := tally, nextRole := if up then some 3 else x.nextRole
                          drillFrom := x.drillFrom && (x.role == 2 || decide (tally < x.drillTally)) }
        s.setTwin t x
      else s.setTwin t x)

/-- Groups that a RESIGN frame names (R201). -/
def resignGroups (f : GrtFrame) : List Nat :=
  if infoAt f.hdr 20 2 = 0xFFFF then (List.range (min 512 (f.payload.length / 2))).map (fun i => beAt f.payload (2 * i) 2)
  else [infoAt f.hdr 20 2]

/-- Group index that a frame's TYPE_INFO names. -/
def frameGroup (f : GrtFrame) : Nat := infoAt f.hdr 20 2

/-- The frame's ADDRESS names this node (R201). -/
def State.addressed (s : State) (f : GrtFrame) : Bool := f.hdr.addr.node == s.ring.node && s.ring.node != 0

/-- IMAGE_OUT: output group data of a twin hub or host (R201, R202). -/
def execImageOut (f : GrtFrame) (s : State) : Res :=
  .next (grtServe s tImageOut f (fun s =>
    let n := fullCycle s.cycleNow (infoAt f.hdr 16 4)
    let g := frameGroup f
    let tally := infoAt f.hdr 22 2
    let s := twinHear s f.hdr.srcNode g f.hdr.addr.node tImageOut tally n
    if s.addressed f ∧ g < 512 then
      offer s g f.hdr.srcPart n (fun s =>
        if tally ≠ 0 ∧ f.payload.length ≠ (s.group g).len then s.count cBadLen g
        else onData s g f.hdr.srcNode f.hdr.srcPart tally n f.payload)
    else s))

/-- SHADOW: the CRC-32 and length of what the standby would have sent (R201, R209). -/
def execShadow (f : GrtFrame) (s : State) : Res :=
  .next (grtServe s tShadow f (fun s =>
    let n := fullCycle s.cycleNow (infoAt f.hdr 16 4)
    let g := frameGroup f
    let s := twinHear s f.hdr.srcNode g f.hdr.addr.node tShadow 0 n
    if s.addressed f ∧ g < 512 then
      offer s g f.hdr.srcPart n (fun s => onShadow s g f.hdr.srcNode f.hdr.srcPart n (beAt f.payload 0 4) (beAt f.payload 4 2))
    else s))

/-- RESIGN: the groups it names are resigned by its source; a standby twin of the sender becomes active (R201, R208). -/
def execResign (f : GrtFrame) (s : State) : Res :=
  .next (grtServe s tResign f (fun s =>
    let n := fullCycle s.cycleNow (infoAt f.hdr 16 4)
    let l := resignGroups f
    let s := forEach l s (fun g s => twinHear s f.hdr.srcNode g f.hdr.addr.node tResign 0 n)
    if s.addressed f then
      forEach l s (fun g s => if g < 512 then offer s g f.hdr.srcPart n (fun s => onData s g f.hdr.srcNode f.hdr.srcPart 0 n []) else s)
    else s))

/-- A write of STAGE_DATA: into the open record of its source, opened if need be, in cells of the pool (R21, R200); a write that would
open one too many, or finds no cell, is discarded (log 77). -/
def stageData (s : State) (node part g off : Nat) (d : List Byte) : State :=
  let mine := fun (r : StageRec) => r.node == node && r.part == part && r.group == g
  match s.cycle.stages.find? mine with
  | none =>
    if s.cycle.stages.length ≥ 1024 then s.count cStageFull 0
    else match stageCells s [] (off + d.length) with
      | none => s.count cStageFull 0
      | some (l, s) =>
        let r : StageRec := { node := node, part := part, group := g, openedAt := s.lt, data := memWrite [] off d, cells := l }
        { s with cycle := { s.cycle with stages := s.cycle.stages ++ [r] } }
  | some r =>
    match stageCells s r.cells (off + d.length) with
    | none => s.count cStageFull 0
    | some (l, s) =>
      { s with cycle := { s.cycle with
          stages := s.cycle.stages.map (fun r => if mine r then { r with data := memWrite r.data off d, cells := l } else r) } }

/-- An open staging record taken out (R200). -/
def takeStage (s : State) (node part g : Nat) : Option StageRec × State :=
  match takeFirst (fun (r : StageRec) => r.node == node && r.part == part && r.group == g) s.cycle.stages with
  | some (r, rest) => (some r, { s with cycle := { s.cycle with stages := rest } })
  | none => (none, s)

/-- A write of STAGE_COMMIT (R200 to R202). -/
def stageCommit (s : State) (node part g v : Nat) : State :=
  let (r, s) := takeStage s node part g
  let n := fullCycle s.cycleNow (bitsAt v 0 32)
  let tally := bitsAt v 32 16
  let len := bitsAt v 48 9
  if bitAt v 63 then s
  else if tally = 0 ∧ !bitAt v 62 then offer s g part n (fun s => onData s g node part 0 n [])
  else match r with
    | none => s
    | some r =>
      if len ≠ (s.group g).len then s.count cBadLen g
      else
        let d := memRead r.data 0 len
        offer s g part n (fun s =>
          if bitAt v 62 then onShadow s g node part n (crc32 d) len
          else match stageCells s r.cells len with
            | some (l, s) => takeData s g node part tally n d l
            | none => s.count cDropPool 0)

/-- Node of the source of an access: the requester's, or this hub's own (R200). -/
def srcNode (s : State) (a : Acc) : Nat := if a.node = 0 then s.me else a.node

/-- STAGE_DATA write of group `g` (R200). -/
def execStageDataWrite (a : Acc) (g off : Nat) (data : List Byte) (s : State) : Res :=
  unit g 512 (accessIn a s (fun s p =>
    if off + data.length ≤ 256 ∧ !(s.part p).ktx22 then ansOk (stageData s (srcNode s a) p g off data) else ansUr s)).s

/-- STAGE_COMMIT write of group `g` (R200). -/
def execStageCommit (a : Acc) (g value : Nat) (s : State) : Res :=
  unit g 512 (accessIn a s (fun s p => if (s.part p).ktx22 then ansCa s else ansOk (stageCommit s (srcNode s a) p g value))).s

/-- STAGE_COMMIT write with ABORT: the open record is discarded (R200). -/
def execStageAbort (a : Acc) (g : Nat) (s : State) : Res :=
  unit g 512 (accessIn a s (fun s p => if (s.part p).ktx22 then ansCa s else ansOk (takeStage s (srcNode s a) p g).2)).s

/-- STAGE_RECORD_EXPIRY: a record open for 1 ms is discarded (R200). -/
def execStageRecordExpiry (node part g : Nat) (s : State) : Res :=
  .next { s with cycle := { s.cycle with stages := s.cycle.stages.filter (fun r =>
    !(r.node == node && r.part == part && r.group == g && decide (s.lt ≥ r.openedAt + 1000000))) } }

/-- A set changes role at the set cycle that begins (R207, R215). -/
def twinSnapshot (s : State) (n : Nat) : State :=
  forEach (List.range 16) s (fun t s =>
    let x := s.twin t
    if !x.defined || !x.enable || !ofCycle x.k x.phase n then s
    else
      let x := match x.nextRole with
        | some r => if x.role = 2 then { x with role := r, nextRole := none, silent := 0 } else if x.role = 1 then x else { x with nextRole := none }
        | none => x
      let x := if x.drillAt = some n ∧ x.drillTag.isNone then
          (if x.drillFrom then { x with role := if x.role = 2 then 3 else x.role, drillAt := none, silent := 0, heardTally := max x.heardTally x.drillTally }
           else { x with role := if x.role = 3 then 2 else x.role, useTally := x.drillTally, drillAt := none })
        else x
      s.setTwin t x)

/-- DRILL of a set ends without the partner's acknowledge in the completion timeout (R53, R215). -/
def drillTimeout (s : State) (t : Nat) : State :=
  let x := s.twin t
  match x.drillTag with
  | some (p, tag) =>
    if s.lt ≥ x.drillSent + s.ring.cplTimeout * 100000 then
      finishBegun (s.setTwin t { x with drillTag := none, drillAt := none, drillFrom := false }) p 0x080D tag stTimeout []
    else s
  | none => s

/-- Every set's drill looked at (R53, R215). -/
def drillTimeouts (s : State) : State := forEach (List.range 16) s (fun t s => drillTimeout s t)

/-- A set's own deadline of set cycle `n`: listening counts on, a silent partner is noticed, a standby takes over (R206, R208, R215). -/
def twinDeadline (s : State) (n : Nat) : State :=
  forEach (List.range 16) s (fun t s =>
    let x := s.twin t
    if !x.defined || !x.enable || !ofCycle x.k x.phase n then s
    else
      let x := if x.role = 1 then { x with listen := x.listen + 1 } else x
      let x := { x with silent := if x.heardIn.contains n then 0 else if x.partnerSeen then x.silent + 1 else x.silent
                        heardIn := x.heardIn.filter (fun k => decide (n < k)) }
      let s := s.setTwin t x
      if x.role = 3 ∧ x.silent ≥ x.lease then
        let s := becomeActive s t
        let y := s.twin t
        raiseIf (s.setTwin t { y with drillFrom := false }) x.drillFrom (srcDiag (336 + t)) 2 y.inUse
      else s)

/-- The end of a set's listening: standby when the partner claims above its own tally, else the role of ROLE_PREF (R206). -/
def listenEnd (s : State) (t : Nat) : State :=
  let x := s.twin t
  if x.defined && x.enable && x.role == 1 && decide (x.listen ≥ x.lease) then
    if x.nextRole = some 3 ∨ !x.prefActive then s.setTwin t { x with role := 3, silent := 0, nextRole := none }
    else s.setTwin t { x with role := 2, useTally := x.tally, nextRole := none }
  else s

/-- TWIN_LISTEN_END (R206). -/
def execTwinListenEnd (set : Nat) (s : State) : Res := unit set 16 (listenEnd s set)

/-- A handoff message of a drill between the hubs of two twins; how it travels is not given (log 78). -/
def sendHandoff (s : State) (t tally n : Nat) (ack : Bool) : State := s.emit (.drillHandoff (s.twin t).partner t tally n ack)

/-- DRILL_HANDOFF: the partner receives a drill and acknowledges it, or the acknowledge reaches the hub of the active twin; one that
comes after the completion timeout, or is for another drill, has no effect (R215). -/
def execDrillHandoff (set tally n : Nat) (ack : Bool) (s : State) : Res :=
  unit set 16 (
    let s := drillTimeout s set
    let x := s.twin set
    if ack then match x.drillTag with
      | some (p, tag) =>
        if x.drillAt = some n ∧ x.drillTally = tally then
          finishBegun (s.setTwin set { x with drillTag := none, drillFrom := true }) p 0x080D tag stOk []
        else s
      | none => s
    else if x.defined && x.enable && x.role == 3 then
      sendHandoff (s.setTwin set { x with drillAt := some n, drillTally := tally, drillFrom := false, drillTag := none }) set tally n true
    else s)

/-- Earliest cycle whose D_n has not passed (R210). -/
def earliestOpen (s : State) : Nat :=
  let c := s.cycle
  if s.work < c.cfg.base + c.cfg.dlOff then 0
  else if c.cfg.t = 0 then 0 else (s.work - (c.cfg.base + c.cfg.dlOff)) / c.cfg.t + 1

/-- A RESIGN frame of a source partition for groups of one node (R201). -/
def resignHdr (s : State) (part node n : Nat) (groups : List Nat) : GrtHdr × List Byte :=
  let d := (groups.take 512).flatMap (beBytes 2)
  (hdrOf s tResign part { node := node, part := part, space := 2, off := 0x80000 } 0 d.length (imageInfo n 0xFFFF 0), d)

/-- Resigns of a source for groups of this hub's own, applied directly (R210). -/
def resignLocal (s : State) (part n : Nat) (groups : List Nat) : State :=
  forEach groups s (fun g s => offer s g part n (fun s => onData s g s.me part 0 n []))

/-- Pairs that a partition's registrations name (R211). -/
def State.regPairs (s : State) (p : Nat) : List (Nat × Nat) :=
  (s.cycle.regs.filter (fun r => r.part == p)).map (fun r => (r.node, r.group))

/-- Pairs of every set of a partition in which this hub is active (R210). -/
def State.activePairs (s : State) (p : Nat) : List (Nat × Nat) :=
  (List.range 16).flatMap (fun t =>
    let x := s.twin t
    if x.defined && x.enable && x.role == 2 && x.owner == p then x.groups else [])

/-- Pairs that a source partition's resigns name: its active sets' and its registrations (R210, R211). -/
def State.gaspPairs (s : State) (p : Nat) : List (Nat × Nat) := s.activePairs p ++ s.regPairs p

/-- The groups that a list of pairs names on each node. -/
def byNode (l : List (Nat × Nat)) : List (Nat × List Nat) :=
  ((l.map Prod.fst).eraseDups).map (fun node => (node, ((l.filter (fun e => e.1 == node)).map Prod.snd).eraseDups))

/-- The last-gasp frames that should stand ready, at most 256, in order of source partition (R210; log 79). -/
def State.gaspWanted (s : State) : List Gasp :=
  ((List.range 16).flatMap (fun p =>
    (byNode ((s.gaspPairs p).filter (fun e => !s.isLocal e.1))).map (fun e => { part := p, node := e.1, groups := e.2 }))).take 256

/-- `n` pinned on-chip cells, or none of them (R88, R210). -/
def pinnedCells (s : State) : Nat → Option (List Nat × State)
  | 0 => some ([], s)
  | n + 1 => match takeCell s true with
    | .no _ => none
    | .ok c s => (pinnedCells s n).map (fun e => (c :: e.1, e.2))

/-- Two last-gasp frames name the same groups for the same source. -/
def Gasp.same (a b : Gasp) : Bool := a.part == b.part && a.node == b.node && a.groups == b.groups

/-- Service firmware keeps the last-gasp frames built (R210): frames no longer wanted give their cells back, missing ones are built when
pinned on-chip cells can be had. -/
def settleGasp (s : State) : State :=
  if !s.boot.running || (s.cycle.twins.isEmpty && s.cycle.regs.isEmpty && s.cycle.gasp.isEmpty) then s
  else
    let want := s.gaspWanted
    let old := s.cycle.gasp.filter (fun a => !want.any a.same)
    let s := freeAll { s with cycle := { s.cycle with gasp := s.cycle.gasp.filter (fun a => want.any a.same) } } (old.flatMap (fun a => a.cells))
    forEach (want.filter (fun a => !s.cycle.gasp.any a.same)) s (fun a s =>
      match pinnedCells s (cellsFor (frameLenOf (grtFrameOf s (macAll s.ring.ringId) (resignHdr s a.part a.node 0 a.groups).1
          (resignHdr s a.part a.node 0 a.groups).2))) with
      | some (l, s) => { s with cycle := { s.cycle with gasp := s.cycle.gasp ++ [{ a with cells := l }] } }
      | none => s)

/-- A last-gasp frame put before every ring port that can send, without admission: its cells are allocated (R88, R210). -/
def sendBuilt (s : State) (h : GrtHdr) (d : List Byte) : State :=
  let f := grtFrameOf s (macAll s.ring.ringId) h d
  let c := s.ring.classOf h.typ
  let (n, s) := nextSeq s f.smac
  forEach ([0, 1].filter s.canSend) s (fun o s => s.pushCopy { frame := retag f n o, inPort := 14, outPort := o, cls := c, since := s.work })

/-- A set waits for TWIN_REARM (R210). -/
def restTwin (s : State) (t : Nat) : State :=
  let x := s.twin t
  if x.defined && x.enable then s.setTwin t { x with role := 4, nextRole := none } else s

/-- The last gasp (R210, R211): the frames that stand ready go out with the earliest open cycle, this hub's own groups are resigned
directly, then the hub is standby in every set until TWIN_REARM. -/
def lastGasp (s : State) : State :=
  let n := earliestOpen s
  let s := forEach s.cycle.gasp s (fun a s => let (h, d) := resignHdr s a.part a.node n a.groups; sendBuilt s h d)
  let s := forEach (List.range 16) s (fun p s =>
    resignLocal s p n (((s.gaspPairs p).filter (fun e => s.isLocal e.1)).map Prod.snd))
  let s := forEach (List.range 16) s (fun t s => restTwin s t)
  { s with cycle := { s.cycle with needRearm := true } }

/-- The resigns of a source partition for a list of (node, group) pairs, node by node (R211). -/
def resignPairs (s : State) (p : Nat) (l : List (Nat × Nat)) : State :=
  let n := earliestOpen s
  forEach (byNode l) s (fun e s =>
    if s.isLocal e.1 then resignLocal s p n e.2
    else let (h, d) := resignHdr s p e.1 n e.2; sendGrt s (macAll s.ring.ringId) h d)

/-- An attachment of a partition is down: the groups it registered are resigned (R211). -/
def resignPart (s : State) (p : Nat) : State := resignPairs s p (s.regPairs p)

/-- Locks of a partition are freed (R325). -/
def freeLocks (s : State) (p : Nat) : State :=
  { s with bridge := { s.bridge with locks := s.bridge.locks.filter (fun l => !(l.part == p && (l.node == s.me || l.node == 0))) } }

/-- An attachment counts as down for the partition it is bound to (R211, R325). -/
def attDown (s : State) (a : Nat) : State :=
  match (s.att a).bound with
  | some p => freeLocks (resignPart s p) p
  | none => s

end Sys2Proof.Machine
end

