-- ==== Sys2Proof/Machine/Can.lean ====
section
/-!
DEFINITION. CAN channels: frames, records, transmit paths, error confinement, bus-off and tunnels (R217 to R236, R242 to R246).
-/
namespace Sys2Proof.Machine

/-- FORMAT of a frame (R226). -/
def canFormat (f : CanFrame) : Nat := bitsAt f.idWord 30 2
/-- FD frame (R226). -/
def canFd (f : CanFrame) : Bool := !f.xl && decide (canFormat f ≥ 2)
/-- Remote frame (R226). -/
def canRemote (f : CanFrame) : Bool := !f.xl && canFormat f == 1
/-- Extended format (R226). -/
def canIde (f : CanFrame) : Bool := !f.xl && bitAt f.idWord 29

/-- Data bytes that an FD DLC gives (ISO 11898-1; R225). -/
def fdLen (dlc : Nat) : Nat := [0, 1, 2, 3, 4, 5, 6, 7, 8, 12, 16, 20, 24, 32, 48, 64].getD dlc 64

/-- Data length of a frame (R225, R229). -/
def canLen (f : CanFrame) : Nat :=
  if f.xl then f.data.length else if canRemote f then 0 else if canFd f then fdLen f.dlc else min f.dlc 8

/-- Data bytes of a frame. -/
def canData (f : CanFrame) : List Byte := fitBytes (canLen f) f.data

/-- The order of R232 as one number, lower first: base identifier, base before extended, extension, data before remote. -/
def canRank (f : CanFrame) : Nat :=
  let id := bitsAt f.idWord 0 29
  let ide := canIde f
  let base := if ide then id / 262144 else id % 2048
  ((base * 2 + b2n ide) * 262144 + (if ide then id % 262144 else 0)) * 2 + b2n (canRemote f)

/-- The channel handles the frame's format (R219, R229). -/
def CanCfg.handles (c : CanCfg) (f : CanFrame) : Bool := if f.xl then c.xlEn else (!canFd f || c.fdEn)

/-- A frame that a transmit path accepts (R229). -/
def CanCfg.accepts (c : CanCfg) (f : CanFrame) : Bool :=
  c.handles f && (!f.xl || (bitsAt f.idWord 11 18 == 0 && decide (1 ≤ f.data.length) && decide (f.data.length ≤ 2048)))

/-- Error-passive (R234). -/
def CanChan.passive (x : CanChan) : Bool := decide (x.tec > 127) || decide (x.recv > 127)

/-- The error counters follow the bus in this mode (R221). -/
def CanChan.counting (x : CanChan) : Bool := x.mode == 1 || x.mode == 4

/-- The transmit paths are active in this mode (R221). -/
def CanChan.sends (x : CanChan) : Bool := x.mode == 1 || x.mode == 3 || x.mode == 4

/-- The channel takes part: on, neither bus-off nor integrating (R221, R222, R235). -/
def CanChan.takesPart (x : CanChan) : Bool := x.mode != 0 && !x.busOff && !x.integrating

/-- A frame of this channel is on the bus. -/
def CanChan.ownOnBus (x : CanChan) : Bool :=
  x.bufs.any (fun e => e.2.onBus) || x.timed.any (fun e => e.onBus) || x.crush.any (fun e => e.onBus)

/-- An XL frame, sent or received, is in its data phase: it has won arbitration (R220). -/
def CanChan.xlOnBus (x : CanChan) : Bool :=
  x.rxXl || x.bufs.any (fun e => e.2.onBus && (e.2.frame.getD {}).xl) || x.timed.any (fun e => e.onBus && e.frame.xl)

/-- Level of the MODE ball (R220). -/
def CanChan.modeLevel (x : CanChan) : Bool :=
  if x.cfg.modeFn = 0 then x.cfg.modePol
  else if x.cfg.modeFn = 1 then (if x.mode = 0 then x.cfg.modePol else !x.cfg.modePol)
  else (if x.xlOnBus then x.cfg.modePol else !x.cfg.modePol)

/-- Channel `c` written, its MODE ball following (R220). -/
def State.putChan (s : State) (c : Nat) (x : CanChan) : State := s.setChan c { x with modeBall := x.modeLevel }

/-- The notices that a change of the error counters raises (R234). -/
def errEvents (s : State) (ch : Nat) (a b : CanChan) : State :=
  let s := raiseIf s ((decide (a.tec < 96) && decide (b.tec ≥ 96)) || (decide (a.recv < 96) && decide (b.recv ≥ 96))) (srcCan ch 0) 1 0
  let s := raiseIf s (!a.passive && b.passive && !b.busOff) (srcCan ch 1) 1 0
  raiseIf s (a.passive && !b.passive && !a.busOff) (srcCan ch 2) 1 0

/-- A record (R225), little-endian in a queue and big-endian in a tunnel frame (R5, R243). -/
def canRecord (be : Bool) (f : CanFrame) (stamp : Nat) (own tun lost passive : Bool) (lec : Nat) : List Byte :=
  let w := if be then beBytes else leBytes
  let x := fitBytes 8 f.xlFields
  w 16 stamp ++ w 4 f.idWord ++ w 2 (canLen f + (if f.xl then 0 else f.dlc * 4096))
    ++ leBytes 1 (b2n f.xl + b2n f.esi * 2 + b2n own * 4 + b2n tun * 8 + b2n lost * 16) ++ leBytes 1 (b2n passive + lec * 4)
    ++ (if f.xl then (if be then x.take 4 ++ (x.drop 4).reverse else x) else []) ++ canData f

/-- A copy of a record committed to a queue; a refused one is counted and the first loss raises RX_LOST (R228). -/
def recordTo (s : State) (ch q : Nat) (ctr : CtrId) (b : Bool → List Byte) : State × Bool :=
  let lost := (s.queue q).lostBefore
  match putPacket s q (b lost) 0 false with
  | (s, true) => (s, true)
  | (s, false) => (raiseIf ((s.setQueue q { s.queue q with lostBefore := true }).count ctr ch) (!lost) (srcCan ch 8) 1 0, false)

/-- One tunnel frame sent with the records given (R243). -/
def tunnelSend (s : State) (ch : Nat) (t : Tunnel) (l : List (List Byte)) : State :=
  let p := s.owner 1 ch
  let info := beBytes 1 ch ++ beBytes 1 t.rchan ++ beBytes 2 t.txSeq ++ beBytes 1 l.length ++ zeros 3
  let d := l.flatten
  let h := hdrOf s tCanTunnel p { node := t.remote, part := p } 0 d.length info
  let s := (sendGrt s (macOfNode s.ring.ringId t.remote) h d).count cTunnelSent ch
  s.setChan ch { s.chan ch with tunnel := some { t with txSeq := (t.txSeq + 1) % 65536, held := [] } }

/-- The records that wait for a batch sent as one frame (R243). -/
def tunnelFlush (s : State) (ch : Nat) : State :=
  match (s.chan ch).tunnel with
  | some t => if t.held.isEmpty then s else tunnelSend s ch t t.held
  | none => s

/-- Bytes padded with zeros to a multiple of 4 (R243). -/
def pad4 (b : List Byte) : List Byte := b ++ zeros ((4 - b.length % 4) % 4)

/-- A record given to the tunnel: too long ones are counted; BATCH 0 sends it alone (R243). -/
def tunnelTake (s : State) (ch : Nat) (b : List Byte) : State :=
  match (s.chan ch).tunnel with
  | none => s
  | some t =>
    let r := pad4 b
    if b.length > 1024 then s.count cTunnelTooBig ch
    else if t.batch = 0 then tunnelSend s ch t [r]
    else
      let s := if sumNat (t.held.map List.length) + r.length > 1024 ∨ t.held.length ≥ 32 then tunnelFlush s ch else s
      let t := (s.chan ch).tunnel.getD t
      s.setChan ch { s.chan ch with tunnel := some { t with
        held := t.held ++ [r], heldAt := if t.held.isEmpty then s.lt else t.heldAt } }

/-- A queue's head packet released by firmware, made visible first if it is not yet (R106, R118). -/
def fwRelease (s : State) (q : Nat) : State :=
  let s := if (s.queue q).packets.isEmpty then showOne s q else s
  wmEval (releaseHead s q) q

/-- Reception work for the crusher, with its place in the order of commits (R248). -/
def crushAdd (s : State) (w : CrushWork) : State :=
  { s with pool := { s.pool with commits := s.pool.commits + 1 }
           crush := { s.crush with work := s.crush.work ++ [{ w with atNs := s.work, atLt := s.lt, seq := s.pool.commits }] } }

/-- RX_LOST of a subscriber slot's queue (R228, R246). -/
def cRxLostSlot (i : Nat) : CtrId := if i = 0 then cRxLostS0 else if i = 1 then cRxLostS1 else if i = 2 then cRxLostS2 else cRxLostS3

/-- One subscriber slot's copy of a record: a queue, the crusher or the tunnel (R228, R242). -/
def slotTake (s : State) (ch i : Nat) (v : Option Nat) (f : CanFrame) (tun : Bool) (b be : Bool → List Byte) : State :=
  match v with
  | none => s
  | some 4096 =>
    match s.fwQueue 5 with
    | none => s
    | some q =>
      match recordTo s ch q (cRxLostSlot i) b with
      | (s, true) => crushAdd s { kind := 1, unit := ch, word := f.idWord, payload := canData f }
      | (s, false) => s
  | some 4097 =>
    if tun then s
    else match s.fwQueue 6 with
      | none => tunnelTake s ch (be false)
      | some q =>
        let lost := (s.queue q).lostBefore
        match recordTo s ch q (cRxLostSlot i) b with
        | (s, true) => tunnelTake (fwRelease s q) ch (be lost)
        | (s, false) => s
  | some q => (recordTo s ch q (cRxLostSlot i) b).1

/-- One record copied into the receive queue and every bound slot (R223, R225, R228). -/
def chanRecord (s : State) (ch : Nat) (f : CanFrame) (own tun : Bool) (stamp : Nat) (passive : Bool) : State :=
  let x := s.chan ch
  let b := fun lost => canRecord false f stamp own tun lost passive x.lec
  let be := fun lost => canRecord true f stamp own tun lost passive x.lec
  let s := s.setChan ch { x with lec := 0 }
  let s := match x.rxq with
    | none => s
    | some q => match recordTo s ch q cRxLostRx b with
      | (s, true) => (s.count cCanRxFrames ch).count cCanRxBytes ch (canLen f)
      | (s, false) => s
  forEach x.slots.zipIdx s (fun e s => slotTake s ch e.2 e.1 f tun b be)

/-- The queues into which the channel's records are copied: its receive queue and the slots' queues (R228). -/
def CanChan.copies (x : CanChan) : List Nat := x.rxq.toList ++ x.slots.filterMap (fun v => v.filter (fun q => decide (q < 4096)))

/-- A packet opened in each queue that will take the frame's record, at its arbitration field (R223). -/
def openRecords (s : State) (ch : Nat) : State :=
  forEach (s.chan ch).copies s (fun q s =>
    if (s.queue q).enable && (s.queue q).opn.isNone then s.setQueue q { s.queue q with opn := some {} } else s)

/-- The record of a frame that ends in an error, a protocol exception or a mode change is aborted (R107, R223). -/
def abortRecords (s : State) (ch : Nat) : State := forEach (s.chan ch).copies s (fun q s => abortOpen s q)

/-- What a transmit path offers. -/
inductive TxSrc where
  /-- Priority buffer `i`. -/
  | buf (i : Nat)
  /-- Timed entry by its order of entry. -/
  | timed (order : Nat)
  /-- Crusher frame of a template. -/
  | crush (tpl : Nat)
  deriving DecidableEq, Repr

/-- The timed queue's offered entry: eligible, earliest launch time, first entered (R231). -/
def timedNext (now : Nat) (l : List TimedEnt) : Option TimedEnt :=
  (l.filter (fun e => decide (e.atNs ≤ now) && !e.onBus)).foldl (fun o e => match o with
    | none => some e
    | some b => if e.atNs < b.atNs ∨ (e.atNs = b.atNs ∧ e.order < b.order) then some e else some b) none

/-- A timed entry dropped for lateness and counted: TUNNEL_LATE for one that came through the tunnel, else TX_LATE (R231, R244). -/
def dropLate (s : State) (ch : Nat) (e : TimedEnt) : State :=
  let x := s.chan ch
  let s := s.setChan ch { x with timed := x.timed.filter (fun t => t.order != e.order) }
  if e.tunnel then
    let raised := match x.tunnel with | some t => t.lateRaised | none => false
    let s := s.setChan ch { s.chan ch with tunnel := x.tunnel.map (fun t => { t with lateRaised := true }) }
    raiseIf (s.count cTunnelLate ch) (!raised) (srcCan ch 14) 1 0
  else raise (s.count cTxLate ch) (srcCan ch 7) 1 0

/-- The entry is beyond LATE_LIMIT (R231). -/
def CanChan.isLate (x : CanChan) (now : Nat) (e : TimedEnt) : Bool := decide (now - e.atNs > x.cfg.lateLimit * 1000)

/-- The timed path drops late entries until the one it would offer is not late (R231). -/
def timedSettle (s : State) (ch : Nat) : Nat → State
  | 0 => s
  | n + 1 =>
    match timedNext s.work (s.chan ch).timed with
    | some e => if (s.chan ch).isLate s.work e then timedSettle (dropLate s ch e) ch n else s
    | none => s

/-- The PENDING frames of a channel in the order in which equal ones are offered (R232). -/
def CanChan.offers (x : CanChan) (now : Nat) : List (TxSrc × CanFrame) :=
  ((timedNext now x.timed).toList.map (fun e => (TxSrc.timed e.order, e.frame)))
    ++ x.bufs.filterMap (fun e => if e.2.onBus then none else e.2.frame.map (fun f => (TxSrc.buf e.1, f)))
    ++ x.crush.filterMap (fun e => if e.onBus then none else some (TxSrc.crush e.tpl, e.frame))

/-- The frame that ranks first (R232). -/
def bestOffer (l : List (TxSrc × CanFrame)) : Option (TxSrc × CanFrame) :=
  l.foldl (fun o e => match o with
    | none => some e
    | some b => if canRank e.2 < canRank b.2 then some e else some b) none

/-- A buffered or crusher frame is beyond its age limit (R233). -/
def CanChan.aged (x : CanChan) (now : Nat) : TxSrc → Bool
  | .buf i => x.cfg.agePb != 0 && decide (now - (tblGetD x.bufs i {}).since > x.cfg.agePb * 1000000)
  | .crush t => x.cfg.ageCr != 0 && x.crush.any (fun e => e.tpl == t && decide (now - e.since > x.cfg.ageCr * 1000000))
  | .timed _ => false

/-- A command's or event's frame put into a buffer that firmware owns, or kept until buffer 30 is free (R237, R240). -/
def fwFrame (s : State) (ch : Nat) (f : CanFrame) : State :=
  let x := s.chan ch
  if (tblGetD x.bufs 30 {}).frame.isNone && x.fwq.isEmpty then
    s.setChan ch { x with bufs := tblSet x.bufs 30 { frame := some f, since := s.lt } }
  else s.setChan ch { x with fwq := x.fwq ++ [f] }

/-- The next frame of firmware written into buffer 30 when it is empty (R237, R240). -/
def fwNext (s : State) (ch : Nat) : State :=
  let x := s.chan ch
  match x.fwq with
  | f :: r =>
    if (tblGetD x.bufs 30 {}).frame.isNone then
      s.setChan ch { x with bufs := tblSet x.bufs 30 { frame := some f, since := s.lt }, fwq := r }
    else s
  | [] => s

/-- A frame dropped by age; the first drop after a frame has been sent raises TX_AGE_DROP (R233). -/
def dropAged (s : State) (ch : Nat) (src : TxSrc) : State :=
  let x := s.chan ch
  let y := match src with
    | .buf i => { x with bufs := tblDel x.bufs i }
    | .crush t => { x with crush := x.crush.filter (fun e => e.tpl != t) }
    | .timed _ => x
  fwNext (raiseIf ((s.setChan ch { y with ageRaised := true }).count cAgeDrop ch) (!x.ageRaised) (srcCan ch 6) 1 0) ch

/-- The frame the channel offers, late and aged ones dropped as they would be offered (R231 to R233). -/
def offerBest (s : State) (ch : Nat) : Nat → State × Option (TxSrc × CanFrame)
  | 0 => (s, none)
  | n + 1 =>
    let s := timedSettle s ch 64
    match bestOffer ((s.chan ch).offers s.work) with
    | none => (s, none)
    | some (src, f) => if (s.chan ch).aged s.lt src then offerBest (dropAged s ch src) ch n else (s, some (src, f))

/-- Every pending frame checked for age and lateness (R235). -/
def checkAll (s : State) (ch : Nat) : State :=
  let s := forEach ((s.chan ch).timed.filter (fun e => !e.onBus && decide (e.atNs ≤ s.work) && (s.chan ch).isLate s.work e)) s
    (fun e s => dropLate s ch e)
  forEach (((s.chan ch).offers 0).map Prod.fst) s (fun src s => if (s.chan ch).aged s.lt src then dropAged s ch src else s)

/-- The offered frame is on the bus from here. -/
def CanChan.markBus (x : CanChan) : TxSrc → CanChan
  | .buf i => { x with bufs := tblSet x.bufs i { tblGetD x.bufs i {} with onBus := true } }
  | .timed o => { x with timed := x.timed.map (fun e => if e.order = o then { e with onBus := true } else e) }
  | .crush t => { x with crush := x.crush.map (fun e => if e.tpl = t then { e with onBus := true } else e) }

/-- The stamp of a frame whose SOF begins now: the working clock at the sample point of SOF, in the TIME_NOW layout (R223, R227). -/
def State.sofStamp (s : State) (ch : Nat) : Nat :=
  let c := (s.chan ch).cfg
  timeLayout s.time { s.time.work with t := s.time.work.t + (c.nbrp * (1 + c.ntseg1) * 25 * nsUnit : Nat) / 4 }

/-- The frame of another node begins (R220, R223, R227): its SOF is stamped and its record opened. -/
def foreignSof (s : State) (ch : Nat) (xl : Bool) : State :=
  let x := s.chan ch
  openRecords (s.putChan ch { x with busy := true, sof := some (s.sofStamp ch), rxXl := xl && x.cfg.xlEn }) ch

/-- A frame of the channel begins: it is recorded when RX_OWN, the mode or its tunnel asks for it (R224). -/
def ownSof (s : State) (ch : Nat) (src : TxSrc) : State :=
  let x := s.chan ch
  let tun := match src with | .timed o => x.timed.any (fun e => e.order == o && e.tunnel) | _ => false
  let s := s.putChan ch (({ x with busy := true, sof := some (s.sofStamp ch) } : CanChan).markBus src)
  if x.cfg.rxOwn || x.mode == 3 || x.mode == 4 || tun then openRecords s ch else s

/-- CAN_ARBITRATION: a SOF on the bus. The channel offers the frame that ranks first; it goes on the bus, or loses to a frame of another
node, CAN XL or not as `lost` says, which may also begin while this channel has nothing to send (R223, R232). -/
def canArbitrate (s : State) (ch : Nat) (lost : Option Bool) : State :=
  let x := s.chan ch
  if !x.takesPart || x.busy || x.pendMode.isSome then s
  else
    let (s, o) := if x.sends then offerBest s ch 4096 else (s, none)
    match (if x.mode = 3 then none else lost), o with
    | some xl, o => (foreignSof s ch xl).countIf o.isSome cTxArbLost ch
    | none, none => s
    | none, some (src, _) => ownSof s ch src

/-- CAN_ARBITRATION (R232). -/
def execCanArbitration (ch : Nat) (lost : Option Bool) (s : State) : Res := unit ch 24 (canArbitrate s ch lost)

/-- The attempt of the channel's frame ended without success: it is pending again, emptied, or gives way to the frame stored
behind it (R230, R233). -/
def attemptFailed (s : State) (ch : Nat) : State :=
  let x := s.chan ch
  let rep := (x.crush.filter (fun e => e.onBus && e.next.isSome)).length
  let bufs := x.bufs.filterMap (fun e =>
    if !e.2.onBus then some e
    else if e.2.abort then none
    else match e.2.next with
      | some (f, n, t) => some (e.1, { frame := some f, notify := n, since := t })
      | none => some (e.1, { e.2 with onBus := false }))
  let crush := x.crush.map (fun e =>
    if !e.onBus then e
    else match e.next with
      | some (f, t) => { e with frame := f, since := t, onBus := false, next := none }
      | none => { e with onBus := false })
  (s.setChan ch { x with bufs := bufs, crush := crush, timed := x.timed.map (fun e => { e with onBus := false })
                         busy := false, sof := none }).count cCrushReplaced ch rep

/-- Counter of an error kind, by LEC code (R225, R246). -/
def cErrOf (kind : Nat) : CtrId :=
  if kind = 1 then cErrStuff else if kind = 2 then cErrForm else if kind = 3 then cErrAck else if kind = 4 then cErrBit1
  else if kind = 5 then cErrBit0 else cErrCrc

/-- An extended CC frame of 8 bytes as the services send it: priority, PDU format, PDU specific, source address (R237, R240). -/
def svcFrame (prio pf ps sa : Nat) (d : List Byte) : CanFrame :=
  { idWord := prio * 2 ^ 26 + pf * 2 ^ 16 + ps * 2 ^ 8 + sa + 2 ^ 29, dlc := 8, data := fitBytes 8 d }

/-- A session other than these ended (R238). -/
def State.sessions (s : State) (ch : Nat) : List TpSession := s.can.sessions.filter (fun t => t.chan == ch)

/-- A session's place in the table. -/
def TpSession.same (a b : TpSession) : Bool := a.chan == b.chan && a.sa == b.sa && a.da == b.da && a.transmit == b.transmit

/-- The session written. -/
def State.setSession (s : State) (t : TpSession) : State :=
  { s with can := { s.can with sessions := s.can.sessions.map (fun a => if a.same t then t else a) } }

/-- The session removed; its staging packet is rewound, or the message it sends leaves the transport transmit queue (R238, R239). -/
def dropSession (s : State) (t : TpSession) : State :=
  let s := { s with can := { s.can with sessions := s.can.sessions.filter (fun a => !a.same t) } }
  if t.transmit then (match (s.chan t.chan).tpTxq with | some q => wmEval (releaseHead s q) q | none => s) else abortOpen s t.stage

/-- A connection-management frame of a session: control byte, six bytes, its PGN last (R237). -/
def tpCm (t : TpSession) (fromDa : Bool) (b : List Byte) : CanFrame :=
  let (a, d) := if fromDa then (t.da, t.sa) else (t.sa, t.da)
  svcFrame (if t.transmit then t.prio else 7) (if t.kind = 2 then 0xC8 else 0xEC) d a (fitBytes 5 b ++ leBytes 3 t.pgn)

/-- An abort of a session: counted in its cause, TP_ABORT raised, and Conn_Abort sent where a reason is given (R238, R239). -/
def tpAbort (s : State) (t : TpSession) (ctr : CtrId) (reason : Option Nat) : State :=
  let s := raise ((dropSession s t).count ctr t.chan) (srcCan t.chan 9) 1 0
  match reason with
  | some r => if t.kind ≠ 0 ∧ (t.active ∨ t.transmit) then fwFrame s t.chan (tpCm t (!t.transmit) (leBytes 1 255 ++ leBytes 1 r ++ List.replicate 3 0xFF)) else s
  | none => s

/-- Every session of a channel aborted by bus-off or a change to OFF (R238). -/
def tpAbortAll (s : State) (ch : Nat) : State := forEach (s.sessions ch) s (fun t s => tpAbort s t cTpAbortOff none)

/-- The error counters after an error: a transmit error adds 8 or nothing, a receive error 1 or 8 (R234, ISO 11898-1). -/
def errCount (x : CanChan) (tx : Bool) (step : Nat) : CanChan :=
  if !x.counting then x
  else if tx then { x with tec := if step = 0 then x.tec else min 263 (x.tec + 8) }
  else { x with recv := min 255 (x.recv + (if step ≥ 8 then 8 else 1)) }

/-- A bus error that the channel detects (R221, R234, R235). -/
def canErr (s : State) (ch kind : Nat) (tx : Bool) (step : Nat) : State :=
  let x := s.chan ch
  if !x.takesPart || x.mode == 3 || kind == 0 || decide (kind > 6) || tx != x.ownOnBus || (x.mode == 4 && kind == 3) then s
  else
    let s := abortRecords (s.count (cErrOf kind) ch) ch
    let s := if tx then (attemptFailed s ch).count cTxRetries ch else s.setChan ch { x with busy := false, sof := none, rxXl := false }
    let y := errCount { s.chan ch with rxXl := false, lec := kind, integrating := x.mode == 5 } tx step
    if y.tec > 255 then
      let s := errEvents (s.putChan ch { y with busOff := true, recovery := 0 }) ch x { y with busOff := true }
      tpAbortAll (raise (s.count cBusOffCount ch) (srcCan ch 3) 1 0) ch
    else errEvents (s.putChan ch y) ch x y

/-- CAN_ERROR (R234). -/
def execCanError (ch kind : Nat) (tx : Bool) (step : Nat) (s : State) : Res := unit ch 24 (canErr s ch kind tx step)

/-- PROTOCOL_EXCEPTION: a format the channel does not handle (R219). -/
def protoException (s : State) (ch : Nat) (xl : Bool) : State :=
  let x := s.chan ch
  if !x.takesPart || x.mode == 3 || x.ownOnBus || (if xl then x.cfg.xlEn else x.cfg.fdEn) then s
  else if x.cfg.pex then (abortRecords (s.putChan ch { x with integrating := true, busy := false, sof := none, rxXl := false }) ch).count cPexCount ch
  else canErr s ch 2 false 1

/-- PROTOCOL_EXCEPTION (R219). -/
def execProtocolException (ch : Nat) (xl : Bool) (s : State) : Res := unit ch 24 (protoException s ch xl)

/-- CAN_INTEGRATED: 11 recessive bits end integration or a protocol exception (R219, R222). -/
def execCanIntegrated (ch : Nat) (s : State) : Res :=
  unit ch 24 (let x := s.chan ch
    if x.mode ≠ 0 ∧ !x.busOff then s.setChan ch { x with integrating := false } else s)

/-- A requested mode takes effect (R222); clearing the counters may end error-passive (R234). -/
def modeEffect (s : State) (ch m : Nat) : State :=
  let x := s.chan ch
  let fromOff := x.mode == 0 && m != 0 && !x.busOff
  let y := { x with mode := m, pendMode := none, integrating := m != 0, tec := if fromOff then 0 else x.tec
                    recv := if fromOff then 0 else x.recv }
  let s := errEvents (s.putChan ch y) ch x y
  if m = 0 then tpAbortAll s ch else s

/-- CAN_MODE_EFFECT: the bus is idle or the frame in progress has ended (R222). -/
def canModeEffect (s : State) (ch : Nat) : State :=
  match (s.chan ch).pendMode with
  | some m =>
    if (s.chan ch).ownOnBus then s
    else modeEffect (abortRecords (s.setChan ch { s.chan ch with busy := false, sof := none, rxXl := false }) ch) ch m
  | none => s

/-- CAN_MODE_EFFECT (R222). -/
def execCanModeEffect (ch : Nat) (s : State) : Res := unit ch 24 (canModeEffect s ch)

/-- Sequences of 11 recessive bits counted in bus-off; the 128th returns the channel (R235). -/
def busRecover (s : State) (ch n : Nat) : State :=
  let x := s.chan ch
  if !x.busOff then s
  else if x.recovery + n < 128 then s.setChan ch { x with recovery := x.recovery + n }
  else
    let s := s.putChan ch { x with busOff := false, recovery := 0, tec := 0, recv := 0, integrating := false }
    checkAll (raise s (srcCan ch 4) 1 0) ch

/-- BUS_RETURN (R235). -/
def execBusReturn (ch n : Nat) (s : State) : Res := unit ch 24 (busRecover s ch n)

/-- An entry of the timed queue's launch list, when one is free (R230, R231). -/
def timedPut (s : State) (ch : Nat) (f : CanFrame) (launch : Nat) (tun : Bool) : State × Bool :=
  let x := s.chan ch
  if x.timed.length < 64 then
    (s.setChan ch { x with timed := x.timed ++ [{ frame := f, atNs := launch, order := x.order, tunnel := tun }], order := x.order + 1 }, true)
  else (s, false)

/-- A frame enters the crusher path, replacing its template's pending frame (R233, R261). -/
def crushPut (s : State) (ch tpl : Nat) (f : CanFrame) : State :=
  let x := s.chan ch
  match x.crush.find? (fun e => e.tpl == tpl) with
  | none => s.setChan ch { x with crush := x.crush ++ [{ tpl := tpl, frame := f, since := s.lt }] }
  | some e =>
    let y := if e.onBus then { e with next := some (f, s.lt) } else { e with frame := f, since := s.lt }
    let s := s.setChan ch { x with crush := x.crush.map (fun a => if a.tpl = tpl then y else a) }
    s.countIf (!e.onBus || e.next.isSome) cCrushReplaced ch

/-- The frame of a transmit descriptor and the data that follows it (R229). -/
def frameOfDesc (b : List Byte) (data : List Byte) : CanFrame :=
  let f : CanFrame := { idWord := leAt b 0 4, dlc := leAt b 4 1 % 16, xl := bitAt (leAt b 5 1) 0, xlFields := bytesAt b 8 8 }
  if f.xl then { f with data := fitBytes (leAt b 6 2 % 4096) data }
  else { f with xlFields := [], data := fitBytes (canLen { f with data := data }) data }

/-- Data length that a descriptor gives (R229). -/
def descLen (b : List Byte) : Nat := (frameOfDesc b []).data.length

/-- The feeder's head packet dropped as a bad descriptor (R231). -/
def feederBad (s : State) (ch q : Nat) : State :=
  let s := readCells s q (((s.queue q).packets.head?.map (fun k => k.cells)).getD [])
  (wmEval (releaseHead s q) q).count cTxBadDesc ch

/-- FEEDER_HEAD_MOVE: the feeder's head packet is checked, and enters the list when an entry is free (R231). -/
def feederMove (s : State) (ch : Nat) : State :=
  match (s.chan ch).feeder with
  | none => s
  | some q =>
    let x := s.queue q
    match x.packets with
    | [] => s
    | k :: _ =>
      if !x.enable || (x.launchSrc == 2 && k.launch.isNone) then s
      else
        let (l, bad) := if x.launchSrc = 1 then prefixLaunch s.work k.bytes else (if x.launchSrc = 2 then k.launch else none, false)
        let b := if x.launchSrc = 1 then k.bytes.drop 8 else k.bytes
        let f := frameOfDesc b (b.drop 16)
        if bad || decide (b.length < 16) || decide (b.length < 16 + descLen b) || !(s.chan ch).cfg.accepts f then feederBad s ch q
        else match timedPut s ch f (l.getD s.work) false with
          | (s, true) => let s := readCells s q k.cells; wmEval (releaseHead s q) q
          | (s, false) => s

/-- FEEDER_HEAD_MOVE (R231). -/
def execFeederHeadMove (ch : Nat) (s : State) : Res := unit ch 24 (feederMove s ch)

/-- TUNNEL_BATCH: BATCH has passed since the oldest held record (R243). -/
def execTunnelBatch (ch : Nat) (s : State) : Res :=
  unit ch 24 (match (s.chan ch).tunnel with
    | some t => if s.lt ≥ t.heldAt + t.batch * 1000 then tunnelFlush s ch else s
    | none => s)

/-- The first record of a tunnel payload: SOF time in ns, frame, and the rest (R243). -/
def tunnelRecord (b : List Byte) : Option (Nat × CanFrame × List Byte) :=
  let w := beAt b 20 2
  let fl := leAt b 22 1
  let xl := bitAt fl 0
  let h := if xl then 32 else 24
  let n := w % 4096
  let x := bytesAt b 24 8
  let v := beAt b 0 16
  if b.length < h + n then none
  else some (bitsAt v 48 48 * 1000000000 + bitsAt v 16 32,
    { idWord := beAt b 16 4, dlc := w / 4096, xl := xl, esi := bitAt fl 1
      xlFields := if xl then x.take 4 ++ (x.drop 4).reverse else [], data := (b.drop h).take n },
    b.drop (h + n + (4 - (h + n) % 4) % 4))

/-- The records of a tunnel payload; none when it does not hold `n` of them (R243). -/
def tunnelRecords : Nat → List Byte → Option (List (Nat × CanFrame))
  | 0, b => if b.isEmpty then some [] else none
  | n + 1, b => match tunnelRecord b with
    | none => none
    | some (t, f, r) => (tunnelRecords n r).map (fun l => (t, f) :: l)

/-- One carried frame enters the timed queue of the channel (R231, R244). -/
def tunnelFrameIn (s : State) (ch : Nat) (t : Tunnel) (stamp : Nat) (f : CanFrame) : State :=
  if !(s.chan ch).cfg.accepts f then s.count cTxBadDesc ch
  else match timedPut s ch f (if t.delay = 0 then s.work else stamp + t.delay * 1000) true with
    | (s, true) => s
    | (s, false) => s.count cTunnelDrop ch

/-- A tunnel frame received for channel `ch` (R242 to R244). -/
def tunnelIn (s : State) (f : GrtFrame) : State :=
  let ch := infoAt f.hdr 17 1
  let sq := infoAt f.hdr 18 2
  let n := infoAt f.hdr 20 1
  match tunnelRecords n f.payload with
  | none => s.count cGrtMalformed 0
  | some l =>
    if n = 0 ∨ n > 32 ∨ ch ≥ 24 then s.count cGrtMalformed 0
    else match (s.chan ch).tunnel with
      | none => s.count cTunnelRefused ch
      | some t =>
        if s.owner 1 ch ≠ f.hdr.addr.part ∨ t.remote ≠ f.hdr.srcNode ∨ t.rchan ≠ infoAt f.hdr 16 1 then s.count cTunnelRefused ch
        else
          let gap := match t.rxSeq with | some e => e != sq | none => false
          let s := s.setChan ch { s.chan ch with tunnel := some { t with rxSeq := some ((sq + 1) % 65536) } }
          let s := raiseIf (s.countIf gap cTunnelLoss ch) gap (srcCan ch 13) 1 0
          forEach l s (fun e s => tunnelFrameIn s ch t e.1 e.2)

/-- CAN_TUNNEL (R244). -/
def execCanTunnel (f : GrtFrame) (s : State) : Res := .next (grtServe s tCanTunnel f (fun s => tunnelIn s f))

end Sys2Proof.Machine
end

