-- ==== Sys2Proof/Machine/CanServices.lean ====
section
/-!
DEFINITION. What follows a CAN frame received or sent: records, counters, the J1939 transport service and the address-claim
agent (R223, R224, R230, R234, R237 to R241). Frame layouts are those of J1939-21, J1939-81 and ISO 11783-3 (log 21).
-/
namespace Sys2Proof.Machine

/-- PDU format, PDU specific and source address of an identifier (log 21). -/
def pfOf (f : CanFrame) : Nat := bitsAt f.idWord 16 8
/-- PDU specific: destination address or group extension (log 21). -/
def psOf (f : CanFrame) : Nat := bitsAt f.idWord 8 8
/-- Source address (log 21). -/
def saOf (f : CanFrame) : Nat := bitsAt f.idWord 0 8

/-- NAME of the agent at the address claimed by it written into the bus table, and Address Claimed sent (R240, R241). -/
def claimSend (s : State) (ch : Nat) : State :=
  let x := s.chan ch
  let c := x.claim
  let s := s.setChan ch { x with claim := { c with bus := tblSet c.bus c.addr c.name } }
  fwFrame s ch (svcFrame 6 0xEE 0xFF c.addr (leBytes 8 c.name))

/-- Cannot Claim sent from address 254 (R240). -/
def cannotClaim (s : State) (ch : Nat) : State :=
  let x := s.chan ch
  let s := s.setChan ch { x with claim := { x.claim with st := 3, addr := 254 } }
  fwFrame s ch (svcFrame 6 0xEE 0xFF 254 (leBytes 8 x.claim.name))

/-- A claim of an address begins (R240). -/
def claimStart (s : State) (ch a : Nat) : State :=
  let x := s.chan ch
  claimSend (s.setChan ch { x with claim := { x.claim with st := 1, addr := a, claimAt := s.lt } }) ch

/-- The lowest address of the range that the bus table shows free (R240). -/
def Claim.freeAddr (c : Claim) : Option Nat :=
  (List.range (c.hi + 1)).find? (fun a => decide (c.lo ≤ a) && tblGet c.bus a == none)

/-- The address is given up: another is claimed when the NAME is arbitrary-address capable and one is free (R240). -/
def claimLose (s : State) (ch : Nat) : State :=
  let c := (s.chan ch).claim
  let s := raise s (srcCan ch 12) 1 0
  if bitAt c.name 63 then
    match c.freeAddr with
    | some a => claimStart s ch a
    | none => cannotClaim s ch
  else cannotClaim s ch

/-- Address Claimed received from address `a` (R240, R241). -/
def claimHeard (s : State) (ch a name : Nat) : State :=
  let x := s.chan ch
  let c := x.claim
  let s := if a ≤ 253 then s.setChan ch { x with claim := { c with bus := tblSet c.bus a name } } else s
  if (c.st = 1 ∨ c.st = 2) ∧ a = c.addr then
    if name < c.name then claimLose s ch else if name > c.name then claimSend s ch else s
  else s

/-- A request for PGN 0xEE00 to the agent's address or to all (R240). -/
def claimAsked (s : State) (ch dest : Nat) : State :=
  let c := (s.chan ch).claim
  if dest ≠ 255 ∧ dest ≠ c.addr then s
  else if c.st = 1 ∨ c.st = 2 then claimSend s ch
  else if c.st = 3 then cannotClaim s ch else s

/-- ADDRESS_CLAIM_TIMEOUT: 250 ms without a contending claim of lower NAME value (R240). -/
def execAddressClaimTimeout (ch : Nat) (s : State) : Res :=
  unit ch 24 (let x := s.chan ch
    if x.claim.enable && x.claim.st == 1 && decide (s.lt ≥ x.claim.claimAt + 250000000) then
      raise (s.setChan ch { x with claim := { x.claim with st := 2 } }) (srcCan ch 11) 1 0
    else s)

/-- A session by channel, addresses and direction. -/
def sessionOf (s : State) (ch sa da : Nat) (transmit : Bool) : Option TpSession :=
  s.can.sessions.find? (fun t => t.chan == ch && t.sa == sa && t.da == da && t.transmit == transmit)

/-- A staging queue that no session uses (R238). -/
def freeStage (s : State) : Option Nat :=
  (s.queues.find? (fun e => e.2.fwUse == 4 && !s.can.sessions.any (fun t => !t.transmit && t.stage == e.1))).map Prod.fst

/-- Packets of a message. -/
def TpSession.packets (t : TpSession) : Nat := (t.len + 6) / 7

/-- The session waits `ms` from now (R237). -/
def TpSession.wait (t : TpSession) (lt ms : Nat) : TpSession := { t with due := lt + ms * 1000000 }

/-- CTS of an active session for its next packets (R237). -/
def sendCts (s : State) (t : TpSession) : State :=
  let n := min (min (s.chan t.chan).ctsPackets t.maxCts) (t.packets + 1 - t.seq)
  let t := ({ t with window := t.seq + n - 1, phase := 0 } : TpSession).wait s.lt 1250
  let b := if t.kind = 2 then leBytes 1 21 ++ leBytes 1 n ++ leBytes 3 t.seq else leBytes 1 17 ++ leBytes 1 n ++ leBytes 1 t.seq ++ [0xFF, 0xFF]
  fwFrame (s.setSession t) t.chan (tpCm t true b)

/-- End of message acknowledged by an active session (R237). -/
def sendEoma (s : State) (t : TpSession) : State :=
  let b := if t.kind = 2 then leBytes 1 23 ++ leBytes 4 t.len else leBytes 1 19 ++ leBytes 2 t.len ++ leBytes 1 t.packets ++ [0xFF]
  fwFrame s t.chan (tpCm t true b)

/-- A BAM or RTS opens a session (R237, R238). -/
def sessionOpen (s : State) (t : TpSession) : State :=
  let s := match sessionOf s t.chan t.sa t.da false with
    | some o => tpAbort s o cTpAbortNew none
    | none => s
  let refuse := fun (r : Nat) => fwFrame s t.chan (tpCm t true (leBytes 1 255 ++ leBytes 1 r ++ List.replicate 3 0xFF))
  if t.len < 9 then s
  else if t.len > 1048576 then
    if t.active then raise ((refuse 2).count cTpAbortSize t.chan) (srcCan t.chan 9) 1 0 else s.count cTpOversize t.chan
  else match freeStage s with
    | some q =>
      if ((s.sessions t.chan).filter (fun e => !e.transmit)).length ≥ 16 ∨ (s.can.sessions.filter (fun e => !e.transmit)).length ≥ 64 then
        (if t.active then refuse 1 else s.count cTpNoSession t.chan)
      else
        let t := ({ t with stage := q } : TpSession).wait s.lt (if t.kind = 0 then 750 else 1250)
        let s := { s with can := { s.can with sessions := s.can.sessions ++ [t] } }
        if t.active then sendCts s t else s
    | none => if t.active then refuse 1 else s.count cTpNoSession t.chan

/-- A data packet of a session (R238). -/
def sessionData (s : State) (t : TpSession) (num : Nat) (d : List Byte) : State :=
  let num := if t.kind = 2 then t.off + num else num
  if t.phase ≠ 0 ∨ num ≠ t.seq ∨ t.seq > t.packets then tpAbort s t cTpAbortSeq (some 7)
  else
    let b := d.take (t.len - t.data.length)
    match appendOpen s t.stage b 0 false with
    | (s, false) => tpAbort s t cTpAbortRefused (some 2)
    | (s, true) =>
      let t := ({ t with data := t.data ++ b, seq := t.seq + 1 } : TpSession).wait s.lt 750
      if t.data.length < t.len then
        if t.active ∧ t.seq > t.window then sendCts s t else s.setSession t
      else if t.kind = 0 then s.setSession { t with phase := 4 }
      else if t.active then sendEoma (s.setSession { t with phase := 4 }) { t with phase := 4 }
      else s.setSession (({ t with phase := 2 } : TpSession).wait s.lt 1250)

/-- A message that this channel sends is done or failed. -/
def sendDone (s : State) (t : TpSession) : State := raise (dropSession s t) (srcCan t.chan 10) 1 0

/-- ETP data packet offset announced before a window (R237; log 21). -/
def sendDpo (s : State) (t : TpSession) : State :=
  if t.kind = 2 then
    fwFrame s t.chan (tpCm t false (leBytes 1 22 ++ leBytes 1 (t.window + 1 - t.seq) ++ leBytes 3 (t.seq - 1)))
  else s

/-- A connection-management frame: PDU format 0xEC, or 0xC8 for ETP (R237, R238; log 21). -/
def tpControl (s : State) (ch : Nat) (f : CanFrame) (stamp : Nat) : State :=
  let d := f.data
  let etp := pfOf f == 0xC8
  let c := leAt d 0 1
  let sa := saOf f
  let da := psOf f
  let pgn := leAt d 5 3 % 262144
  let held := fun a => (s.chan ch).claim.enable && (s.chan ch).claim.st == 2 && (s.chan ch).claim.addr == a
  let mk : TpSession := { chan := ch, sa := sa, da := da, kind := if etp then 2 else 1, active := held da, pgn := pgn
                          prio := bitsAt f.idWord 26 3, stamp := stamp }
  if c = 32 ∧ !etp then sessionOpen s { mk with kind := 0, active := false, da := 255, len := leAt d 1 2 }
  else if c = 16 ∧ !etp then sessionOpen s { mk with len := leAt d 1 2, maxCts := if leAt d 4 1 = 0 then 255 else leAt d 4 1 }
  else if c = 20 ∧ etp then sessionOpen s { mk with len := leAt d 1 4 }
  else if (c = 17 ∧ !etp) ∨ (c = 21 ∧ etp) then
    match sessionOf s ch da sa true, sessionOf s ch da sa false with
    | some t, _ =>
      let n := leAt d 1 1
      let next := if etp then leAt d 2 3 else leAt d 2 1
      if n = 0 then s.setSession (({ t with phase := 1 } : TpSession).wait s.lt 1050)
      else
        let t := ({ t with phase := 0, seq := next, off := next - 1, window := min t.packets (next + n - 1) } : TpSession).wait s.lt 1250
        sendDpo (s.setSession t) t
    | none, some t => s.setSession (t.wait s.lt (if leAt d 1 1 = 0 then 1050 else 1250))
    | none, none => s
  else if c = 22 ∧ etp then
    match sessionOf s ch sa da false with
    | some t => s.setSession (({ t with off := leAt d 2 3 } : TpSession).wait s.lt 750)
    | none => s
  else if (c = 19 ∧ !etp) ∨ (c = 23 ∧ etp) then
    match sessionOf s ch da sa true, sessionOf s ch da sa false with
    | some t, _ => sendDone s t
    | none, some t => if t.phase = 2 ∧ !t.active then s.setSession { t with phase := 4 } else s
    | none, none => s
  else if c = 255 then
    let l := s.can.sessions.filter (fun t =>
      t.chan == ch && t.kind != 0 && t.phase != 4 && ((t.sa == sa && t.da == da) || (t.sa == da && t.da == sa)))
    forEach l s (fun t s => tpAbort s t cTpAbortConn none)
  else s

/-- What the services do with a frame received on a channel (R237, R240, R241). -/
def serviceFrame (s : State) (ch : Nat) (f : CanFrame) (stamp : Nat) : State :=
  let x := s.chan ch
  if !s.firmwareRuns || f.xl || canFormat f != 0 || !canIde f || bitsAt f.idWord 24 2 != 0 then s
  else
    let pf := pfOf f
    if x.claim.enable ∧ pf = 0xEE ∧ psOf f = 0xFF ∧ canLen f = 8 then claimHeard s ch (saOf f) (leAt f.data 0 8)
    else if x.claim.enable ∧ pf = 0xEA ∧ canLen f ≥ 3 ∧ leAt f.data 0 3 % 262144 = 0xEE00 then claimAsked s ch (psOf f)
    else if x.tpEn ∧ (pf = 0xEC ∨ pf = 0xC8) ∧ canLen f = 8 then tpControl s ch f stamp
    else if x.tpEn ∧ (pf = 0xEB ∨ pf = 0xC7) ∧ canLen f = 8 then
      match (sessionOf s ch (saOf f) (psOf f) false).filter (fun t => (t.kind == 2) == (pf == 0xC7) && t.phase != 4) with
      | some t => sessionData s { t with prio := bitsAt f.idWord 26 3 } (leAt f.data 0 1) (bytesAt f.data 1 7)
      | none => s
    else s

/-- SOF time of a received frame: of the arbitration the channel lost to it, or a free instant before now (R227; log 5). -/
def rxStamp (s : State) (ch : Nat) : Nat × State :=
  match (s.chan ch).sof with
  | some t => (t, s)
  | none => let (v, s) := s.draw; (s.stamp (s.work - v.toNat % 20000000), s)

/-- CAN_FRAME_RECEIVED: a frame of another node becomes valid for a receiver (R219, R221, R223, R234). -/
def frameReceived (s : State) (ch : Nat) (f : CanFrame) : State :=
  let x := s.chan ch
  if !x.takesPart || x.mode == 3 || x.ownOnBus || !x.cfg.handles f || (f.xl && f.data.isEmpty) || decide (f.data.length > 2048) then s
  else
    let (stamp, s) := rxStamp s ch
    let recv := if !x.counting then x.recv else if x.recv > 127 then 127 else x.recv - 1
    let y := { x with recv := recv, busy := false, sof := none, rxXl := false }
    let s := chanRecord (errEvents (s.putChan ch y) ch x y) ch f false false stamp x.passive
    serviceFrame s ch f stamp

/-- CAN_FRAME_RECEIVED (R223). -/
def execCanFrameReceived (ch : Nat) (fr : CanFrame) (s : State) : Res := unit ch 24 (frameReceived s ch fr)

/-- The frame of the channel that is on the bus: its path, its frame, and whether it came through the tunnel. -/
def CanChan.onBusFrame (x : CanChan) : Option (TxSrc × CanFrame × Bool) :=
  match x.bufs.find? (fun e => e.2.onBus) with
  | some (i, b) => b.frame.map (fun f => (.buf i, f, false))
  | none => match x.timed.find? (fun e => e.onBus) with
    | some e => some (.timed e.order, e.frame, e.tunnel)
    | none => (x.crush.find? (fun e => e.onBus)).map (fun e => (.crush e.tpl, e.frame, false))

/-- The sent frame leaves its path; what a REPLACE or the crusher stored behind it becomes PENDING (R230, R233). -/
def CanChan.sent (x : CanChan) : TxSrc → CanChan
  | .buf i =>
    let b := tblGetD x.bufs i {}
    match b.abort, b.next with
    | false, some (f, n, t) => { x with bufs := tblSet x.bufs i { frame := some f, notify := n, since := t } }
    | _, _ => { x with bufs := tblDel x.bufs i }
  | .timed o => { x with timed := x.timed.filter (fun e => e.order != o) }
  | .crush t => { x with crush := x.crush.filterMap (fun e =>
      if e.tpl ≠ t then some e else e.next.map (fun n => { tpl := t, frame := n.1, since := n.2 })) }

/-- The transport service goes on after a frame from buffer 31 has been sent (R239). -/
def tpSent (s : State) (ch i : Nat) : State :=
  match (s.sessions ch).find? (fun t => t.transmit && t.phase == 0) with
  | none => s
  | some t =>
    if i ≠ 31 then s
    else if t.seq > t.packets then
      if t.kind = 0 then sendDone s t else s.setSession (({ t with phase := 2 } : TpSession).wait s.lt 1250)
    else if t.seq > t.window then s.setSession (({ t with phase := 1 } : TpSession).wait s.lt 1250)
    else s

/-- What the services do with the record of a frame that this channel has sent (R237): the transport service's own frames from buffers 30
and 31 are seen only where they make up a BAM. -/
def serviceOwn (s : State) (ch : Nat) (f : CanFrame) (firmware : Bool) (stamp : Nat) : State :=
  if firmware && !((pfOf f == 0xEC || pfOf f == 0xEB) && psOf f == 0xFF) then s else serviceFrame s ch f stamp

/-- CAN_TX_COMPLETE: the channel's frame on the bus is sent (R224, R230, R231, R233, R234). -/
def txComplete (s : State) (ch : Nat) : State :=
  let x := s.chan ch
  match x.onBusFrame with
  | none => s
  | some (src, f, tun) =>
    let f := { f with esi := f.esi || ((canFd f || f.xl) && x.passive) }
    let fw := match src with | .buf i => decide (30 ≤ i) && (x.tpEn || x.claim.enable) | _ => false
    let stamp := x.sof.getD s.timeNow
    let note := match src with | .buf i => (tblGetD x.bufs i {}).notify | _ => false
    let y := { x.sent src with tec := if x.counting then x.tec - 1 else x.tec, busy := false, sof := none, ageRaised := false
                               tunnel := x.tunnel.map (fun t => { t with lateRaised := false }) }
    let s := errEvents (s.putChan ch y) ch x y
    let s := (if x.mode = 3 then s else s.emit (.can ch f)).count cCanTxFrames ch
    let s := raiseIf s note (srcCan ch 5) 1 0
    let s := if x.cfg.rxOwn || x.mode == 3 || x.mode == 4 || tun then
        serviceOwn (chanRecord s ch f true tun stamp x.passive) ch f fw stamp else s
    match src with
    | .buf i => if i ≥ 30 then fwNext (tpSent s ch i) ch else s
    | _ => s

/-- CAN_TX_COMPLETE (R230). -/
def execCanTxComplete (ch : Nat) (s : State) : Res := unit ch 24 (txComplete s ch)

/-- TP_TIMEOUT: a timeout of a session runs out (R237, R238). -/
def tpTimeout (s : State) (ch sa da : Nat) : State :=
  forEach ((s.sessions ch).filter (fun t => t.sa == sa && t.da == da && t.phase != 4 && decide (s.lt ≥ t.due))) s
    (fun t s => tpAbort s t cTpAbortTimeout (some 3))

/-- TP_TIMEOUT (R238). -/
def execTpTimeout (ch sa da : Nat) (s : State) : Res := unit ch 24 (tpTimeout s ch sa da)

/-- The packet of a complete message (R238). -/
def TpSession.packet (t : TpSession) : List Byte :=
  leBytes 16 t.stamp ++ leBytes 4 t.pgn ++ leBytes 1 t.sa ++ leBytes 1 t.da ++ leBytes 1 (t.kind + b2n t.active * 128)
    ++ leBytes 1 t.prio ++ leBytes 4 t.len ++ zeros 4 ++ t.data

/-- TP_MESSAGE_COMPLETE: the message is copied into the transport queue and its staging packet freed (R238). -/
def tpComplete (s : State) (ch sa da : Nat) : State :=
  match (sessionOf s ch sa da false).filter (fun t => t.phase == 4) with
  | none => s
  | some t =>
    let s := dropSession s t
    match (s.chan ch).tpq with
    | none => s
    | some q => match putPacket s q t.packet 0 false with
      | (s, true) => s.count cTpDone ch
      | (s, false) => s.count cRxLostTp ch

/-- TP_MESSAGE_COMPLETE (R238). -/
def execTpMessageComplete (ch sa da : Nat) (s : State) : Res := unit ch 24 (tpComplete s ch sa da)

/-- The next message of the transport transmit queue starts (R239): BAM, or RTS of a connection-mode transfer. -/
def tpStart (s : State) (ch q : Nat) (b : List Byte) : State :=
  let len := leAt b 24 4
  let k := leAt b 22 1 % 4
  let kind := if k = 0 then 0 else if len ≤ 1785 then 1 else 2
  let t : TpSession := { chan := ch, sa := (s.chan ch).claim.addr, da := if kind = 0 then 255 else leAt b 21 1, kind := kind, transmit := true
                         pgn := leAt b 16 4 % 262144, prio := leAt b 23 1 % 8, len := len, data := bytesAt b 32 len }
  if k = 3 ∨ len < 9 ∨ len > 1048576 ∨ (kind = 0 ∧ len > 1785) ∨ b.length < 32 + len then
    raise ((wmEval (releaseHead s q) q).count cTpAbortSize ch) (srcCan ch 9) 1 0
  else
    let t := ({ t with phase := if kind = 0 then 0 else 1, window := if kind = 0 then t.packets else 0, sentAt := s.lt } : TpSession).wait s.lt 1250
    let c := if kind = 0 then leBytes 1 32 ++ leBytes 2 len ++ leBytes 1 t.packets ++ [0xFF]
             else if kind = 1 then leBytes 1 16 ++ leBytes 2 len ++ leBytes 1 t.packets ++ [0xFF]
             else leBytes 1 20 ++ leBytes 4 len
    fwFrame { s with can := { s.can with sessions := s.can.sessions ++ [t] } } ch (tpCm t false c)

/-- TP_TRANSMIT: the service takes the next message, or writes the next TP.DT of the one it sends into buffer 31; a BAM's
packets are at least 50 ms apart (R239; log 21). -/
def tpTransmit (s : State) (ch : Nat) : State :=
  let x := s.chan ch
  if !x.tpEn || !s.firmwareRuns then s
  else match (s.sessions ch).find? (fun t => t.transmit), x.tpTxq with
    | some t, _ =>
      if t.phase ≠ 0 ∨ t.seq > t.window ∨ (tblGetD x.bufs 31 {}).frame.isSome ∨ (t.kind = 0 ∧ s.lt < t.sentAt + 50000000) then s
      else
        let num := if t.kind = 2 then t.seq - t.off else t.seq
        let d := (bytesAt (t.data ++ List.replicate 7 0xFF) (7 * (t.seq - 1)) 7)
        let f := svcFrame t.prio (if t.kind = 2 then 0xC7 else 0xEB) t.da t.sa (leBytes 1 num ++ d)
        (s.setChan ch { x with bufs := tblSet x.bufs 31 { frame := some f, since := s.lt } }).setSession
          (({ t with seq := t.seq + 1, sentAt := s.lt } : TpSession).wait s.lt 1250)
    | none, some q =>
      match (s.queue q).packets with
      | k :: _ => if (s.queue q).enable then tpStart s ch q k.bytes else s
      | [] => s
    | none, none => s

/-- TP_TRANSMIT (R239). -/
def execTpTransmit (ch : Nat) (s : State) : Res := unit ch 24 (tpTransmit s ch)

end Sys2Proof.Machine
end

