-- ==== Sys2Proof/Machine/CanCmds.lean ====
section
/-!
DEFINITION. The 0x09xx commands of CAN channels (R217, R218, R221, R222, R228 to R230, R236, R237, R240 to R242, R401).
-/
namespace Sys2Proof.Machine

/-- `v` lies between `lo` and `hi`. -/
def within (lo hi v : Nat) : Bool := decide (lo ≤ v) && decide (v ≤ hi)

/-- Cycles of a bit: BRP × (1 + TSEG1 + TSEG2) (R218). -/
def bitCycles (brp t1 t2 : Nat) : Nat := brp * (1 + t1 + t2)

/-- Ranges, bit times and combinations of the parameters (R217, R218). -/
def CanCfg.ok (c : CanCfg) : Bool :=
  within 1 32 c.nbrp && within 2 256 c.ntseg1 && within 1 128 c.ntseg2 && within 1 c.ntseg2 c.nsjw
    && within 1 32 c.dbrp && within 1 64 c.dtseg1 && within 1 32 c.dtseg2 && within 1 c.dtseg2 c.dsjw
    && within 1 32 c.xbrp && within 1 64 c.xtseg1 && within 1 32 c.xtseg2 && within 1 c.xtseg2 c.xsjw
    && within 160 640 (bitCycles c.nbrp c.ntseg1 c.ntseg2) && within 20 160 (bitCycles c.dbrp c.dtseg1 c.dtseg2)
    && within 8 160 (bitCycles c.xbrp c.xtseg1 c.xtseg2) && within 0 127 c.tdco && within 1 63 c.pwms && within 1 63 c.pwml
    && within 0 63 c.pwmo && c.pwms + c.pwml == bitCycles c.xbrp c.xtseg1 c.xtseg2 && decide (c.modeFn ≤ 2)
    && decide (c.lateLimit ≤ 1000000) && (!c.xlEn || c.fdEn) && (c.modeFn != 2 || (c.xlEn && c.xlTms))

/-- The parameters of CAN_CFG (R218, R401). -/
def canCfgOf (c : Cmd) : CanCfg :=
  let f := c.u 29 1
  { nbrp := c.u 12 1, ntseg2 := c.u 13 1, ntseg1 := c.u 14 2, nsjw := c.u 16 1, dbrp := c.u 17 1, dtseg1 := c.u 18 1
    dtseg2 := c.u 19 1, dsjw := c.u 20 1, xbrp := c.u 21 1, xtseg1 := c.u 22 1, xtseg2 := c.u 23 1, xsjw := c.u 24 1, tdco := c.u 25 1
    pwms := c.u 26 1, pwml := c.u 27 1, pwmo := c.u 28 1, fdEn := bitAt f 0, xlEn := bitAt f 1, tdcEn := bitAt f 2, xlTms := bitAt f 3
    xlErrsig := bitAt f 4, pex := bitAt f 5, modePol := bitAt f 6, rxOwn := bitAt f 7, modeFn := c.u 30 1, agePb := c.u 32 2
    ageCr := c.u 34 2, lateLimit := c.u 36 4 }

/-- The fields that may change in any mode taken from another configuration: what is left are the fields marked † (R218). -/
def CanCfg.daggered (a b : CanCfg) : CanCfg :=
  { a with modeFn := b.modeFn, modePol := b.modePol, rxOwn := b.rxOwn, agePb := b.agePb, ageCr := b.ageCr, lateLimit := b.lateLimit }

/-- Facts of CAN_CFG (R401). -/
def iCanCfg : CmdInfo :=
  { op := 0x0900, k := true, bytes := [(8, 4), (12, 19), (32, 8)], chg := .handle }
/-- CAN_CFG (R218). -/
def bodyCanCfg (c : Cmd) (s : State) : CmdRes :=
  handle s c 8 1 (fun ch =>
    let n := canCfgOf c
    let x := s.chan ch
    chk n.ok stBadParam (ownRes s c 1 ch (
      chk (x.mode == 0 || n == x.cfg.daggered n) stWrongState (okS (s.putChan ch { x with cfg := n })))))
/-- CAN_CFG (R218, R401). -/
def execCanCfg (d : Desc) (s : State) : Res := cmdRow iCanCfg d bodyCanCfg s

/-- Facts of CAN_MODE (R401). -/
def iCanMode : CmdInfo := { op := 0x0901, k := true, bytes := [(8, 4), (12, 1)], chg := .handle }
/-- CAN_MODE (R1, R222): the change takes effect at once on an idle bus, else at the end of the frame in progress. -/
def bodyCanMode (c : Cmd) (s : State) : CmdRes :=
  handle s c 8 1 (fun ch =>
    let m := c.u 12 1
    let x := s.chan ch
    chk (decide (m ≤ 5)) stBadParam (ownRes s c 1 ch (
      chk (m != 5 || (s.part c.p).ktx22) stDenied (
      chk (!x.busOff || m == 0) stWrongState (
        okS (if x.busy then s.setChan ch { x with pendMode := some m } else if m = x.mode then s else modeEffect s ch m))))))
/-- CAN_MODE (R222, R401). -/
def execCanMode (d : Desc) (s : State) : Res := cmdRow iCanMode d bodyCanMode s

/-- The queue that a channel's binding names (R228, R231, R237, R239). -/
def CanChan.bound (x : CanChan) (w : Nat) : Option Nat :=
  if w = 0 then x.rxq else if w = 2 then x.tpq else if w = 3 then x.tpTxq else x.feeder

/-- A channel's binding set. -/
def CanChan.setBound (x : CanChan) (w : Nat) (q : Option Nat) : CanChan :=
  if w = 0 then { x with rxq := q } else if w = 2 then { x with tpq := q } else if w = 3 then { x with tpTxq := q } else { x with feeder := q }

/-- Status of binding queue `q` as `w` of channel `ch`: receive and slot queues take the channel as producer, the transport
queue firmware, the transport transmit queue firmware as consumer, the feeder the channel as consumer (R105, log 20). -/
def canBindStatus (s : State) (ch w q : Nat) : Nat :=
  if w ≤ 1 then prodBindStatus s q (.can ch) else if w = 2 then prodBindStatus s q .firmware
  else if w = 3 then consBindStatus s q .firmware else consBindStatus s q (.can ch)

/-- The end of queue `q` that `w` uses, bound or unbound. -/
def canBindEnd (s : State) (ch w q : Nat) (on : Bool) : State :=
  if w ≤ 1 then bindProd s q (if on then .can ch else .none)
  else if w = 2 then bindProd s q (if on then .firmware else .none)
  else if w = 3 then bindCons s q (if on then .firmware else .none)
  else bindCons s q (if on then .can ch else .none)

/-- The first free subscriber slot of a channel (R228). -/
def CanChan.freeSlot (x : CanChan) : Option Nat := (List.range 4).find? (fun i => x.slots.getD i none == none)

/-- Facts of CAN_QUEUE_BIND (R401). -/
def iCanQueueBind : CmdInfo := { op := 0x0902, k := true, bytes := [(8, 4), (12, 1), (13, 1), (14, 2)], chg := .handle }
/-- CAN_QUEUE_BIND (R228, R231, R237, R239). -/
def bodyCanQueueBind (c : Cmd) (s : State) : CmdRes :=
  handle s c 8 1 (fun ch =>
    let w := c.u 12 1
    let slot := c.u 13 1
    let v := c.u 14 2
    let x := s.chan ch
    let may := if w = 1 then s.mayRead c.p 1 ch else s.owns c.p 1 ch
    chk (decide (w ≤ 4) && (v == 0xFFFF || decide (v < 4096)) && (if w == 1 && v == 0xFFFF then decide (slot < 4) else slot == 0)) stBadParam (
    if v = 0xFFFF then
      chk may stNotOwner (
      if w = 1 then
        match x.slots.getD slot none with
        | some q =>
          chk (decide (q < 4096)) stWrongState (
          chk (s.owns c.p 5 q) stNotOwner (
            .ok (resOf [(0, 1, slot)]) [] (canBindEnd (s.setChan ch { x with slots := listSet x.slots slot none }) ch 1 q false)))
        | none => .fail stWrongState
      else match x.bound w with
        | some q => okS (canBindEnd (s.setChan ch (x.setBound w none)) ch w q false)
        | none => okS s)
    else match s.viewQueue c.p v with
      | none => .fail stBadParam
      | some q =>
        chk (may && s.owns c.p 5 q) stNotOwner (
        chk (!s.fwHeld 5 q) stDenied (
        if w = 1 then
          chkSt (canBindStatus s ch 1 q) (
          match x.freeSlot with
          | none => .fail stNoResource
          | some i => .ok (resOf [(0, 1, i)]) [] (canBindEnd (s.setChan ch { x with slots := listSet x.slots i (some q) }) ch 1 q true))
        else if x.bound w = some q then okS s
        else chkSt (canBindStatus s ch w q) (
          let s := match x.bound w with | some o => canBindEnd s ch w o false | none => s
          okS (canBindEnd (s.setChan ch ((s.chan ch).setBound w (some q))) ch w q true))))))
/-- CAN_QUEUE_BIND (R228, R401). -/
def execCanQueueBind (d : Desc) (s : State) : Res := cmdRow iCanQueueBind d bodyCanQueueBind s

/-- A buffer belongs to firmware while a service runs on the channel (R230). -/
def CanChan.fwBuf (x : CanChan) (i : Nat) : Bool := decide (i ≥ 30) && (x.tpEn || x.claim.enable)

/-- Reserved bits of a CC or FD transmit descriptor are 0 (R8, R229). -/
def descClean (b : List Byte) : Bool := leAt b 4 1 / 16 == 0 && leAt b 5 11 == 0

/-- Facts of CAN_TX_BUF (R401). -/
def iCanTxBuf : CmdInfo :=
  { op := 0x0903, k := true, bytes := [(8, 4), (12, 1), (13, 1), (16, 16), (32, 24)], bits := [(13, 1, 1)], bulk := .yes, chg := .handle }
/-- CAN_TX_BUF (R229, R230). -/
def bodyCanTxBuf (c : Cmd) (s : State) : CmdRes :=
  handle s c 8 1 (fun ch =>
    let b := c.bytes 16 16
    let i := c.u 12 1
    let n := descLen b
    let f := frameOfDesc b (if n ≤ 24 then c.bytes 32 24 else c.bulk)
    let x := s.chan ch
    let y := tblGetD x.bufs i {}
    let note := bitAt c.d.flags 1
    chk (decide (i < 32) && decide (c.u 13 1 < 2) && descClean b && x.cfg.accepts f && !f.xl
        && c.len == (if n ≤ 24 then 0 else n) && ((c.bytes 32 24).drop (if n ≤ 24 then n else 0)).all (· == 0)) stBadParam (
    ownRes s c 1 ch (
    chk c.owned stNotOwner (
    chk (!x.fwBuf i && (y.frame.isNone || c.u 13 1 == 1)) stBusy (
      let z : TxBuf := if y.onBus then { y with next := some (f, note, s.lt), abort := false } else { frame := some f, notify := note, since := s.lt }
      okS (s.setChan ch { x with bufs := tblSet x.bufs i z }))))))
/-- CAN_TX_BUF (R230, R401). -/
def execCanTxBuf (d : Desc) (s : State) : Res := cmdRow iCanTxBuf d bodyCanTxBuf s

/-- Facts of CAN_TX_ABORT (R401). -/
def iCanTxAbort : CmdInfo := { op := 0x0904, k := true, bytes := [(8, 4), (12, 4)], chg := .handle }
/-- CAN_TX_ABORT (R230): PENDING buffers are emptied, those on the bus when their attempt ends. -/
def bodyCanTxAbort (c : Cmd) (s : State) : CmdRes :=
  handle s c 8 1 (fun ch =>
    let x := s.chan ch
    let hit := fun (e : Nat × TxBuf) => bitAt (c.u 12 4) e.1 && !x.fwBuf e.1 && e.2.frame.isSome
    ownRes s c 1 ch (
      let gone := (x.bufs.filter (fun e => hit e && !e.2.onBus)).map Prod.fst
      let bus := (x.bufs.filter (fun e => hit e && e.2.onBus)).map Prod.fst
      let bufs := x.bufs.filterMap (fun e =>
        if !hit e then some e else if e.2.onBus then some (e.1, { e.2 with abort := true, next := none }) else none)
      .ok (resOf [(0, 4, listMask gone), (4, 4, listMask bus)]) [] (s.setChan ch { x with bufs := bufs })))
/-- CAN_TX_ABORT (R230, R401). -/
def execCanTxAbort (d : Desc) (s : State) : Res := cmdRow iCanTxAbort d bodyCanTxAbort s

/-- The status record of a channel (R236). -/
def CanChan.status (x : CanChan) : List Byte :=
  let st := if x.busOff then 2 else if x.integrating then 3 else b2n x.passive
  leBytes 2 x.tec ++ leBytes 1 x.recv ++ leBytes 1 st ++ leBytes 1 x.mode ++ leBytes 1 x.lec ++ leBytes 2 x.recovery
    ++ leBytes 4 (listMask ((x.bufs.filter (fun e => e.2.frame.isSome)).map Prod.fst)) ++ leBytes 1 x.timed.length ++ zeros 3

/-- Facts of CAN_STATUS (R401). -/
def iCanStatus : CmdInfo := { op := 0x0905, k := true, bytes := [(8, 4)] }
/-- CAN_STATUS (R236). -/
def bodyCanStatus (c : Cmd) (s : State) : CmdRes := handle s c 8 1 (fun ch => readRes s c 1 ch (.ok (s.chan ch).status [] s))
/-- CAN_STATUS (R236, R401). -/
def execCanStatus (d : Desc) (s : State) : Res := cmdRow iCanStatus d bodyCanStatus s

/-- Buffer 30 or 31 holds a frame of the host: neither service ran before (R401). -/
def CanChan.hostIn30 (x : CanChan) : Bool :=
  !x.tpEn && !x.claim.enable && ((tblGetD x.bufs 30 {}).frame.isSome || (tblGetD x.bufs 31 {}).frame.isSome)

/-- Facts of TP_CFG (R401). -/
def iTpCfg : CmdInfo := { op := 0x0906, k := true, bytes := [(8, 4), (12, 1), (13, 1)], chg := .handle }
/-- TP_CFG (R237): a disabled service drops its sessions. -/
def bodyTpCfg (c : Cmd) (s : State) : CmdRes :=
  handle s c 8 1 (fun ch =>
    let en := c.u 12 1 == 1
    let x := s.chan ch
    chk (decide (c.u 12 1 ≤ 1) && decide (1 ≤ c.u 13 1)) stBadParam (ownRes s c 1 ch (
      chk (!(en && x.hostIn30)) stBusy (
        let s := s.setChan ch { x with tpEn := en, ctsPackets := c.u 13 1 }
        okS (if en then s else forEach (s.sessions ch) s (fun t s => dropSession s t))))))
/-- TP_CFG (R237, R401). -/
def execTpCfg (d : Desc) (s : State) : Res := cmdRow iTpCfg d bodyTpCfg s

/-- Facts of ACL_CFG (R401). -/
def iAclCfg : CmdInfo := { op := 0x0907, k := true, bytes := [(8, 4), (12, 1), (13, 1), (14, 1), (15, 1), (16, 8)], chg := .handle }
/-- ACL_CFG (R240): enabling sends a claim of the preferred address. -/
def bodyAclCfg (c : Cmd) (s : State) : CmdRes :=
  handle s c 8 1 (fun ch =>
    let en := c.u 12 1 == 1
    let x := s.chan ch
    let n : Claim := { x.claim with enable := en, name := c.u 16 8, pref := c.u 13 1, lo := c.u 14 1, hi := c.u 15 1, st := 0, addr := 254 }
    chk (decide (c.u 12 1 ≤ 1) && decide (n.pref ≤ 253) && (!bitAt n.name 63 || (decide (n.lo ≤ n.hi) && decide (n.hi ≤ 253)))) stBadParam (
    ownRes s c 1 ch (
      chk (!(en && x.hostIn30)) stBusy (
        let s := s.setChan ch { x with claim := n }
        okS (if en then claimStart s ch n.pref else s)))))
/-- ACL_CFG (R240, R401). -/
def execAclCfg (d : Desc) (s : State) : Res := cmdRow iAclCfg d bodyAclCfg s

/-- Facts of ACL_STATUS (R401). -/
def iAclStatus : CmdInfo := { op := 0x0908, k := true, bytes := [(8, 4)], bulk := .yes }
/-- ACL_STATUS (R240, R241): with a bulk output, the NAME at each address 0 to 253. -/
def bodyAclStatus (c : Cmd) (s : State) : CmdRes :=
  handle s c 8 1 (fun ch =>
    let x := (s.chan ch).claim
    chk (c.len == 0 || c.len == 2032) stBadParam (readRes s c 1 ch (
      chk c.owned stNotOwner (
        let out := if c.len = 0 then [] else (List.range 254).flatMap (fun a => leBytes 8 (tblGetD x.bus a 0))
        .ok (resOf [(0, 1, if x.st = 0 then 255 else x.addr), (1, 1, x.st)]) out s))))
/-- ACL_STATUS (R241, R401). -/
def execAclStatus (d : Desc) (s : State) : Res := cmdRow iAclStatus d bodyAclStatus s

/-- Facts of TUNNEL_SET (R401). -/
def iTunnelSet : CmdInfo := { op := 0x0909, bytes := [(8, 4), (12, 1), (13, 1), (16, 4), (20, 4)], chg := .handle }
/-- TUNNEL_SET (R242): a tunnel takes a subscriber slot; remote node 0 deletes it and frees the slot. -/
def bodyTunnelSet (c : Cmd) (s : State) : CmdRes :=
  handle s c 8 1 (fun ch =>
    let x := s.chan ch
    let n := c.u 12 1
    chk (decide (n ≤ 250) && decide (c.u 13 1 < 24) && decide (c.u 16 4 ≤ 100000) && decide (c.u 20 4 ≤ 1000)) stBadParam (
    ownRes s c 1 ch (
      if n = 0 then okS (s.setChan ch { x with tunnel := none, slots := x.slots.map (fun v => if v = some 4097 then none else v) })
      else
        chk x.tunnel.isNone stBusy (
        match x.freeSlot with
        | none => .fail stNoResource
        | some i => okS (s.setChan ch { x with
            slots := listSet x.slots i (some 4097)
            tunnel := some { remote := n, rchan := c.u 13 1, delay := c.u 16 4, batch := c.u 20 4 } })))))
/-- TUNNEL_SET (R242, R401). -/
def execTunnelSet (d : Desc) (s : State) : Res := cmdRow iTunnelSet d bodyTunnelSet s

end Sys2Proof.Machine
end

