-- ==== Sys2Proof/Machine/Crusher.lean ====
section
/-!
DEFINITION. The crusher signal gateway: bit fields, decode and encode, templates, reception, cycle work and the 0x0Axx commands
(R247 to R265, R402).
-/
namespace Sys2Proof.Machine

/-- Bit positions of a field from its first raw bit: `n` steps of walk() (R253); Motorola fields go from the most significant bit. -/
def walkFrom (motorola : Bool) : Nat → Nat → List Nat
  | 0, _ => []
  | n + 1, pos => pos :: walkFrom motorola n (if motorola then (if pos % 8 = 0 then pos + 15 else pos - 1) else pos + 1)

/-- Payload positions of the raw bits 0 to LEN − 1 (R253). -/
def walk (start len : Nat) (motorola : Bool) : List Nat :=
  if motorola then (walkFrom true len start).reverse else walkFrom false len start

/-- extract() of R253, unsigned; `p` is the payload as a little-endian number. -/
def extractRaw (p start len : Nat) (motorola : Bool) : Nat :=
  (walk start len motorola).zipIdx.foldl (fun a e => a + b2n (bitAt p e.1) * 2 ^ e.2) 0

/-- `raw` placed into the message number `m` by the same walk (R253). -/
def placeRaw (m raw start len : Nat) (motorola : Bool) : Nat :=
  (walk start len motorola).zipIdx.foldl (fun a e => putBit a e.1 (bitAt raw e.2)) m

/-- Classes of a raw value (R254): 0 VALID, 1 ERROR, 2 NA. -/
def rangeClass (len raw : Nat) : Nat :=
  if len % 8 = 0 then
    let top := raw / 2 ^ (len - 8)
    if top ≤ 0xFA then 0 else if top ≤ 0xFE then 1 else 2
  else if raw + 3 ≤ 2 ^ len then 0 else if raw + 2 = 2 ^ len then 1 else 2

/-- The error code the crusher writes (R254). -/
def errorCode (len : Nat) : Nat := if len % 8 = 0 then 2 ^ len - 1 - 2 ^ (len - 8) else 2 ^ len - 2
/-- The NA code (R254). -/
def naCode (len : Nat) : Nat := 2 ^ len - 1
/-- Highest value of the VALID row (R254). -/
def validTop (len : Nat) : Nat := if len % 8 = 0 then 0xFB * 2 ^ (len - 8) - 1 else 2 ^ len - 3

/-- decode() of R255 before its clamp. -/
def decodeExact (r num : Int) (den : Nat) (offset : Int) : Int := roundHalfEven (r * num * 4294967296) den + offset
/-- Lowest physical value (R255). -/
def physLo : Int := -9223372036854775805
/-- Highest physical value (R255). -/
def physHi : Int := 9223372036854775807

/-- encode() of R258 before its clamp. -/
def encodeExact (p offset num : Int) (den : Nat) : Int :=
  roundHalfEven ((p - offset) * den * num.sign) (num.natAbs * 4294967296)

/-- Lowest raw value of a destination field (R258). -/
def DField.lo (f : DField) : Int := if f.signed then -(2 ^ (f.len - 1) : Nat) else 0
/-- Highest raw value of a destination field (R258). -/
def DField.hi (f : DField) : Int :=
  if f.signed then (2 ^ (f.len - 1) : Nat) - 1 else if f.ranges then validTop f.len else (2 ^ f.len : Nat) - 1

/-- State of a signal as its source stands: 0 VALID, 1 ERROR, 2 NA, 3 STALE, which a RAW_COPY signal never shows here (R251, R256). -/
def SigMap.stateOf (m : SigMap) (g : Signal) : Nat := if (m.sources.getD g.source {}).stale && !g.rawCopy then 3 else g.st

/-- A latest-value record (R256): a code unless VALID; a RAW_COPY signal's record never holds a code. -/
def recordOf (rawCopy : Bool) (st value : Nat) : Nat :=
  if rawCopy then value else if st = 0 then value else if st = 1 then 0x8000000000000001
  else if st = 2 then 0x8000000000000000 else 0x8000000000000002

/-- The latest-value record of a signal now (R256). -/
def SigMap.recordNow (m : SigMap) (g : Signal) : Nat := recordOf g.rawCopy (m.stateOf g) g.value

/-- Place of a signal's or field's SAT counter: signal g of map m, or field f of template t (R265). -/
def satSignal (m g : Nat) : Nat := m * 2048 + g
/-- Place of a field's SAT counter. -/
def satField (m t f : Nat) : Nat := m * 2048 + 256 + t * 64 + f

/-- One signal decoded from a payload that holds it, and whether it was clamped (R254, R255). -/
def Signal.decode (g : Signal) (p : Nat) : Signal × Bool :=
  let raw := extractRaw p g.start g.len g.motorola
  let r : Int := if g.signed then signedOf g.len raw else raw
  if g.rawCopy then ({ g with value := unsignedOf 64 r, st := 0 }, false)
  else
    let c := if g.ranges then rangeClass g.len raw else 0
    if c ≠ 0 then ({ g with st := c }, false)
    else
      let e := decodeExact r g.num g.den g.offset
      ({ g with value := unsignedOf 64 (clampInt physLo physHi e), st := 0 }, decide (e < physLo) || decide (e > physHi))

/-- A signal's positions all lie in a payload of `n` bytes (R253). -/
def Signal.fits (g : Signal) (n : Nat) : Bool := (walk g.start g.len g.motorola).all (fun k => decide (k < 8 * n))

/-- A source entry takes a message (R250, R251). -/
def CrushSrc.takes (e : CrushSrc) (me : Nat) (w : CrushWork) : Bool :=
  e.kind == w.kind && (e.unit == w.unit || (e.kind == 2 && e.unit == me && w.unit == 0))
    && (if e.kind = 2 then e.segment == w.segment else (e.val &&& e.mask) == (w.word &&& e.mask))

/-- One signal of map `m` decoded from a message of source `i`: value, counters; in a cycle's assembly the value latched too when
the message was committed at or before S_n (R251, R253, R263). -/
def decodeOne (s : State) (m i g : Nat) (w : CrushWork) (p : Nat) (latch : Bool) : State × Bool :=
  let x := s.map m
  let y := x.signals.getD g {}
  if y.source ≠ i then (s, false)
  else if !y.fits w.payload.length then (s, true)
  else
    let (y, sat) := y.decode p
    let y := if latch then { y with latched := y.value, latchedSt := y.st } else y
    (((s.setMap m { x with signals := listSet x.signals g y }).count cDecodes m).countIf sat cSat (satSignal m g), false)

/-- A field's raw value for a signal's state and value, the field with its last encoded value, and whether it was clamped
(R258, R259). -/
def DField.encode (f : DField) (rawCopy : Bool) (st value : Nat) : Nat × DField × Bool :=
  if st ≠ 0 then
    ((if f.fallback = 0 then (if st = 1 then errorCode f.len else naCode f.len)
      else if f.fallback = 1 then f.lastEnc.getD f.fill else f.fill) % 2 ^ f.len, f, false)
  else if rawCopy then
    let r := value % 2 ^ f.len
    (r, { f with lastEnc := some r }, false)
  else
    let e := encodeExact (signedOf 64 value) f.offset f.num f.den
    let r := unsignedOf f.len (clampInt f.lo f.hi e)
    (r, { f with lastEnc := some r }, decide (e < f.lo) || decide (e > f.hi))

/-- State and value of a signal for a template: as latched at S_n for a CYCLE template, else as it stands (R260, R263). -/
def SigMap.view (x : SigMap) (cyc : Bool) (g : Nat) : Nat × Nat :=
  let y := x.signals.getD g {}
  if cyc then (y.latchedSt, y.latched) else (x.stateOf y, y.value)

/-- A template's whole message built from its signals (R257 to R260): the bytes, the template with what its fields encoded, and
the fields that were clamped. -/
def buildTpl (x : SigMap) (t : Template) : List Byte × Template × List Nat :=
  let cyc := t.trigger == 1
  let start := leNat (List.replicate t.len (BitVec.ofNat 8 t.fill))
  let r := t.fields.zipIdx.foldl (fun (a : Nat × List DField × List Nat) e =>
    let (st, v) := x.view cyc e.1.signal
    let (raw, f, sat) := e.1.encode (x.signals.getD e.1.signal {}).rawCopy st v
    (placeRaw a.1 raw e.1.start e.1.len e.1.motorola, a.2.1 ++ [f], if sat then a.2.2 ++ [e.2] else a.2.2)) (start, [], [])
  (leBytes t.len r.1, { t with fields := r.2.1 }, r.2.2)

/-- A KIND 1 message as a CAN frame (R257). -/
def tplFrame (t : Template) (b : List Byte) : CanFrame :=
  let dlc := if bitsAt t.idWord 30 2 ≥ 2 then ((List.range 16).find? (fun d => fdLen d == t.len)).getD 15 else t.len
  { idWord := t.idWord, dlc := dlc, data := b }

/-- An IMAGE_OUT or SHADOW of a twin set for one group, with the set's tally (R201, R207, R264): this hub's own group takes it directly,
and the frame goes out on the ring either way, where the partner hears it. -/
def twinSendGroup (s : State) (part node g n tally : Nat) (shadow : Bool) (b : List Byte) : State :=
  let s := if s.isLocal node then
      offer s g part n (fun s => if shadow then onShadow s g s.me part n (crc32 b) b.length else onData s g s.me part tally n b)
    else s
  let at_ := if node = 0 then s.me else node
  if at_ = 0 then s
  else
    let a : RingAddr := { node := at_, part := part, space := 2, off := 0x80000 + g * 0x400 }
    let d := if shadow then beBytes 4 (crc32 b) ++ beBytes 2 b.length ++ zeros 2 else b
    let typ := if shadow then tShadow else tImageOut
    sendGrt s (macAll s.ring.ringId) (hdrOf s typ part a 0 d.length (imageInfo n g tally)) d

/-- A KIND 2 record outside a twin set, staged and committed at the output node (R200, R262). -/
def stageRecord (s : State) (part node g n tally : Nat) (b : List Byte) : State :=
  let v := n % 2 ^ 32 + tally * 2 ^ 32 + b.length * 2 ^ 48
  if s.isLocal node then stageCommit (stageData s s.me part g 0 b) s.me part g v
  else
    let a : RingAddr := { node := node, part := part, space := 2, off := 0x80000 + g * 0x400 }
    let mac := macOfNode s.ring.ringId node
    let s := sendGrt s mac (hdrOf s tWriteP part a 0 b.length []) b
    sendGrt s mac (hdrOf s tWriteP part { a with off := a.off + 0x100 } 0 8 []) (leBytes 8 v)

/-- A template's message sent (R261, R262, R264), and whether it was: a disabled set sends nothing, and a standby no CAN message; after a
last gasp (role 4) it sends SHADOW like any standby. -/
def sendTpl (s : State) (m k n : Nat) (t : Template) (b : List Byte) : Bool × State :=
  let x := s.map m
  let node := t.handle / 16777216
  let g := t.handle % 65536
  let part := s.owner 11 m
  match x.twin with
  | some tw =>
    let y := s.twin tw
    if !y.enable then (false, s)
    else if t.kind = 1 then (if y.role = 2 then (true, crushPut s g (16 * m + k) (tplFrame t b)) else (false, s))
    else if y.role = 2 ∨ y.role = 3 ∨ y.role = 4 then
      (true, twinSendGroup (s.setTwin tw { y with lastSent := n }) part node g n y.inUse (y.role != 2) b)
    else (false, s)
  | none =>
    if t.kind = 1 then
      (if (s.chan g).cfg.accepts (tplFrame t b) then (true, crushPut s g (16 * m + k) (tplFrame t b)) else (false, s.count cTxBadDesc g))
    else (true, stageRecord s part node g n t.tally b)

/-- A KIND 2 record outside a twin set is committed at D_n or later (R262): counted for the template and the map, and raised once until a
cycle without it (R265). -/
def lateTpl (s : State) (m k n : Nat) (t : Template) : State :=
  let x := s.map m
  if t.kind = 2 ∧ x.twin.isNone ∧ s.work ≥ s.cycle.dl n then
    raiseIf (((s.setMap m { x with lateRaised := true }).count cTplLate (16 * m + k)).count cCrushLate m) (!x.lateRaised) (srcDiag m) 3 0
  else s

/-- The map as a CYCLE template of a twin set sees it in cycle `n`: the values that the published images of cycle `n` gave, NA where a
source has had none (R195, R207, R264). -/
def SigMap.imaged (x : SigMap) (n : Nat) : SigMap :=
  { x with signals := x.signals.map (fun g =>
      let e := x.sources.getD g.source {}
      { g with latched := g.value, latchedSt := if e.kind == 2 && decide (e.img < n + 1) then 2 else x.stateOf g }) }

/-- The map from which template `t` is built for cycle `n` (R260, R264). -/
def SigMap.forTpl (x : SigMap) (t : Template) (n : Nat) : SigMap := if t.trigger == 1 && x.twin.isSome then x.imaged n else x

/-- Fields of a template whose signals are VALID, the ones that are encoded (R259, R265). -/
def encodedIn (x : SigMap) (t : Template) : Nat := (t.fields.filter (fun f => (x.view (t.trigger == 1) f.signal).1 == 0)).length

/-- A template built now for cycle `n` and sent, unless ON_CHANGE finds nothing changed (R260); MIN_GAP counts from the sending. -/
def emitTpl (s : State) (m k n : Nat) (force : Bool) : State :=
  let x := s.map m
  let t := x.tpls.getD k {}
  let v := x.forTpl t n
  let (b, t, sats) := buildTpl v t
  let t := { t with heldBack := false, heldForce := false }
  let s := forEach sats (s.count cEncodes m (encodedIn v t)) (fun f s => s.count cSat (satField m k f))
  let same := match t.lastSent with | some (_, l) => l == b | none => false
  let keep := fun (s : State) (t : Template) => s.setMap m { s.map m with tpls := listSet (s.map m).tpls k t }
  if t.trigger == 3 && same && !force then keep s t
  else match sendTpl (keep s t) m k n t b with
    | (false, s) => s
    | (true, s) => lateTpl ((keep s { t with lastSent := some (s.lt, b) }).count cEmitted (16 * m + k)) m k n t

/-- MIN_GAP has not passed since the last emission (R260). -/
def Template.tooSoon (t : Template) (lt : Nat) : Bool :=
  match t.lastSent with | some (a, _) => decide (lt < a + t.minGap * 1000) | none => false

/-- A trigger of a template: emitted, or held until MIN_GAP has passed (R260). -/
def trigTpl (s : State) (m k n : Nat) (force : Bool) : State :=
  let x := s.map m
  let t := x.tpls.getD k {}
  if t.tooSoon s.lt then
    s.setMap m { x with tpls := listSet x.tpls k { t with heldBack := true, heldForce := (t.heldBack && t.heldForce) || force, heldN := n } }
  else emitTpl s m k n force

/-- The CYCLE templates of map `m` for cycle `n` that have not been built (R260, R262, R263). -/
def cycleTpls (s : State) (m n : Nat) : State :=
  let l := (List.range (s.map m).tpls.length).filter (fun k =>
    let t := (s.map m).tpls.getD k {}
    t.trigger == 1 && ofCycle (max 1 t.k) t.phase n && decide (t.lastCyc < n + 1))
  forEach l s (fun k s =>
    let x := s.map m
    let t := x.tpls.getD k {}
    trigTpl (s.setMap m { x with tpls := listSet x.tpls k { t with lastCyc := n + 1 } }) m k n false)

/-- Every image of cycle `n` that a map's sources name has been taken. -/
def SigMap.whole (x : SigMap) (n : Nat) : Bool := x.sources.all (fun e => e.kind != 2 || decide (n < e.img))

/-- The instant at which a twin set's maps wait no longer for images of cycle `n`: halfway from P_n to D_n (log 80). -/
def Cycle.setAt (c : Cycle) (n : Nat) : Nat := (c.pub n + c.dl n) / 2

/-- The CYCLE templates of a twin set's map, for every cycle whose D_n is still to come: built when the images of the cycle have been
taken, or when they are waited for no longer, and in any case before an image of a later cycle than `before` is taken (R207, R264). -/
def setTpls (s : State) (m : Nat) (before : Option Nat) : State :=
  let x := s.map m
  if !x.enable || x.twin.isNone || !s.boot.running then s
  else forEach s.cycle.toDeadline s (fun n s =>
    if (s.map m).whole n || decide (s.work ≥ s.cycle.setAt n) || (match before with | some k => decide (n < k) | none => false)
    then cycleTpls s m n else s)

/-- The twin sets' maps looked at once (log 80). -/
def setsDue (s : State) : State := forEach (s.crush.maps.map Prod.fst) s (fun m s => setTpls s m none)

/-- Message `w` taken by source `i` of map `m`: its signals decoded, then its ON_RX and ON_CHANGE templates (R251, R253, R260). -/
def takeMessage (s : State) (m i : Nat) (w : CrushWork) (latch : Bool) : State :=
  let s := if w.kind = 2 then setTpls s m (some (w.cycle - 1)) else s
  let x := s.map m
  let e := x.sources.getD i {}
  let src := listSet x.sources i { e with lastAt := s.lt, stale := false, img := w.cycle }
  let s := s.setMap m { x with sources := src, overRaised := false, staleRaised := false }
  let p := leNat w.payload
  let (s, short) := (List.range x.signals.length).foldl (fun (a : State × Bool) g =>
    let (s, b) := decodeOne a.1 m i g w p latch
    (s, a.2 || b)) (s, false)
  let s := s.countIf short cShortMsg m
  let s := forEach (List.range x.tpls.length) s (fun k s =>
    let t := (s.map m).tpls.getD k {}
    if (t.trigger = 0 ∨ t.trigger = 3) ∧ t.drive = i then trigTpl s m k s.cycle.last false else s)
  if w.kind = 2 then setTpls s m none else s

/-- The enabled maps and sources that take a message: those enabled before it was committed (R249, R251). -/
def State.takers (s : State) (w : CrushWork) : List (Nat × Nat) :=
  s.crush.maps.flatMap (fun e =>
    if e.2.enable && decide (w.seq ≥ e.2.enSeq) then
      (e.2.sources.zipIdx.filter (fun c => c.1.takes s.me w)).map (fun c => (e.1, c.2))
    else [])

/-- A message whose reception work has come: from the crusher's own work list, or the head packet of a hewer's RX queue that the
crusher consumes (R248, R250). -/
inductive CrushNext where
  /-- Work list entry. -/
  | listed (w : CrushWork)
  /-- Head packet of queue `q`. -/
  | packet (q : Nat) (w : CrushWork)

/-- The message itself. -/
def CrushNext.work : CrushNext → CrushWork
  | .listed w => w
  | .packet _ w => w

/-- Head packets of the hewer queues that the crusher consumes (R105, R250). -/
def State.hewerHeads (s : State) : List CrushNext :=
  s.queues.filterMap (fun e =>
    match e.2.prod, e.2.packets with
    | .hewer h, k :: _ =>
      if e.2.cons = .firmware then
        some (.packet e.1 { kind := 3, unit := h, word := leAt k.bytes 0 4, payload := k.bytes, atNs := k.committedAt, atLt := k.atLt, seq := k.seq })
      else none
    | _, _ => none)

/-- Every message that waits for its reception work. -/
def State.waiting (s : State) : List CrushNext := s.crush.work.map CrushNext.listed ++ s.hewerHeads

/-- The message committed first of a list (R248). -/
def earliest (l : List CrushNext) : Option CrushNext :=
  l.foldl (fun o e => match o with
    | none => some e
    | some b => if e.work.seq < b.work.seq then some e else some b) none

/-- The message committed first among those that wait (R248). -/
def State.nextMessage (s : State) : Option CrushNext := earliest s.waiting

/-- Cycle whose image is being assembled (R263). -/
def State.assembling (s : State) : Option Nat := s.cycle.image.work.map (fun b => b.cycle)

/-- A message counts toward the last snapshot: committed before it, or in the nanosecond of S_n (R263). -/
def State.inTime (s : State) (w : CrushWork) : Bool :=
  decide (w.seq < s.crush.snapSeq) || (match s.assembling with | some n => decide (w.atNs = s.cycle.snap n) | none => false)

/-- Map `m` feeds the image or has CYCLE templates, outside a twin set: the cycle's assembly needs its decodes (R263). -/
def State.feedsCycle (s : State) (m : Nat) : Bool :=
  ((s.map m).tpls.any (fun t => t.trigger == 1) && (s.map m).twin.isNone) || s.cycle.image.map.any (fun e => e.kind == 6 && e.handle % 65536 == m)

/-- A message committed at or before S_n still waits for map `m` (R263). -/
def State.undecoded (s : State) (m : Nat) : Bool :=
  s.waiting.any (fun e => s.inTime e.work && (s.takers e.work).any (fun c => c.1 == m))

/-- While an image is assembled, the messages that its maps and CYCLE templates need (R248, R263). -/
def State.cycleWork (s : State) : List CrushNext :=
  if s.assembling.isNone then []
  else s.waiting.filter (fun e => s.inTime e.work && (s.takers e.work).any (fun c => s.feedsCycle c.1))

/-- A waiting message released from where it waits. -/
def dropMessage (s : State) : CrushNext → State
  | .listed w =>
    let s := { s with crush := { s.crush with work := s.crush.work.filter (fun v => v.seq != w.seq) } }
    (match w.kind, s.fwQueue 5 with
      | 1, some q => fwRelease s q
      | _, _ => s)
  | .packet q _ => wmEval (releaseHead s q) q

/-- A message has waited 10 ms (R248). -/
def State.waitedOut (s : State) (w : CrushWork) : Bool := decide (s.lt ≥ w.atLt + 10000000)

/-- A message released undecoded (R248): counted for each of its maps, the first after a decoded packet raised. -/
def overrunMessage (s : State) (e : CrushNext) : State :=
  forEach (((s.takers e.work).map Prod.fst).eraseDups) (dropMessage s e) (fun m s =>
    let x := s.map m
    raiseIf ((s.setMap m { x with overRaised := true }).count cMapOverrun m) (!x.overRaised) (srcDiag m) 2 0)

/-- Template `k` exists in enabled map `m`. -/
def SigMap.hasTpl (x : SigMap) (k : Nat) : Bool := x.enable && decide (k < x.tpls.length)

/-- PERIODIC_TEMPLATE: an instant that is a whole multiple of PERIOD has been reached (R260). -/
def periodicTpl (s : State) (m k : Nat) : State :=
  let x := s.map m
  let t := x.tpls.getD k {}
  let i := s.work / (t.period * 1000)
  if s.firmwareRuns && x.hasTpl k && t.trigger == 2 && t.period != 0 && decide (i > t.lastPer) then
    trigTpl (s.setMap m { x with tpls := listSet x.tpls k { t with lastPer := i } }) m k s.cycle.last false
  else s

/-- PERIODIC_TEMPLATE (R260). -/
def execPeriodicTemplate (m t : Nat) (s : State) : Res := unit m 256 (periodicTpl s m t)

/-- An entry put in its place in a list ordered by instant. -/
def putInstant (e : Nat × Nat × Nat) : List (Nat × Nat × Nat) → List (Nat × Nat × Nat)
  | [] => [e]
  | a :: r => if e.1 < a.1 then e :: a :: r else a :: putInstant e r

/-- The PERIODIC templates whose instant has been reached, each with it, in order of instant (R248, R260). -/
def State.periodicDue (s : State) : List (Nat × Nat × Nat) :=
  (s.crush.maps.flatMap (fun e => if e.2.enable then
      (e.2.tpls.zipIdx.filter (fun t => t.1.trigger == 2 && t.1.period != 0 && decide (s.work / (t.1.period * 1000) > t.1.lastPer))).map
        (fun t => (s.work / (t.1.period * 1000) * (t.1.period * 1000), e.1, t.2))
    else [])).foldl (fun l e => putInstant e l) []

/-- The CYCLE templates of map `m` for the cycle being assembled, once nothing is left to decode for it (R260, R263). -/
def settleMap (s : State) (m n : Nat) : State :=
  if (s.map m).enable && (s.map m).twin.isNone && !s.undecoded m then cycleTpls s m n else s

/-- One message decoded for every source that fits it (R248, R251), or released when it has waited too long. -/
def serveMessage (s : State) (e : CrushNext) : State :=
  if s.waitedOut e.work then overrunMessage s e
  else
    let l := s.takers e.work
    let s := forEach l (dropMessage s e) (fun c s => takeMessage s c.1 c.2 e.work (s.assembling.isSome && s.inTime e.work))
    match s.assembling with
    | some n => forEach ((l.map Prod.fst).eraseDups) s (fun m s => settleMap s m n)
    | none => s

/-- CRUSH_RECEPTION: the next message has its turn, after cycle work and after periodic work whose instant has been reached (R248). -/
def crushReceive (s : State) : State :=
  match earliest s.cycleWork with
  | some e => serveMessage s e
  | none =>
    let s := forEach s.periodicDue s (fun e s => periodicTpl s e.2.1 e.2.2)
    match s.nextMessage with
    | none => s
    | some e => serveMessage s e

/-- CRUSH_RECEPTION (R251); nothing while service firmware does not run. -/
def execCrushReception (s : State) : Res := .next (if s.firmwareRuns then crushReceive s else s)

/-- CRUSH_OVERRUN: a message that has waited 10 ms is released undecoded (R248). -/
def crushOverrun (s : State) : State :=
  match s.nextMessage with
  | none => s
  | some e => if s.waitedOut e.work then overrunMessage s e else s

/-- CRUSH_OVERRUN (R248). -/
def execCrushOverrun (s : State) : Res := .next (crushOverrun s)

/-- CRUSH_STALE: a source that has taken nothing for TIMEOUT makes its signals STALE; raised once per map until a message (R251, R265). -/
def crushStale (s : State) (m i : Nat) : State :=
  let x := s.map m
  let e := x.sources.getD i {}
  if x.enable && decide (i < x.sources.length) && e.timeout != 0 && !e.stale && decide (s.lt ≥ e.lastAt + e.timeout * 1000000) then
    raiseIf (s.setMap m { x with sources := listSet x.sources i { e with stale := true }, staleRaised := true }) (!x.staleRaised) (srcDiag m) 1 0
  else s

/-- CRUSH_STALE (R251). -/
def execCrushStale (m src : Nat) (s : State) : Res := unit m 256 (crushStale s m src)

/-- MIN_GAP_EXPIRY: a held emission is built from the values current at this moment and sent (R260). -/
def minGapTpl (s : State) (m k : Nat) : State :=
  let x := s.map m
  let t := x.tpls.getD k {}
  if s.firmwareRuns && x.hasTpl k && t.heldBack && !t.tooSoon s.lt then emitTpl s m k t.heldN t.heldForce else s

/-- MIN_GAP_EXPIRY (R260). -/
def execMinGapExpiry (m t : Nat) (s : State) : Res := unit m 256 (minGapTpl s m t)

/-- ON_CHANGE_PERIOD: PERIOD has passed since the last send of an ON_CHANGE template (R260). -/
def onChangePeriodTpl (s : State) (m k : Nat) : State :=
  let x := s.map m
  let t := x.tpls.getD k {}
  let due := match t.lastSent with | some (a, _) => decide (s.lt ≥ a + t.period * 1000) | none => false
  if s.firmwareRuns && x.hasTpl k && t.trigger == 3 && t.period != 0 && due then trigTpl s m k s.cycle.last true else s

/-- ON_CHANGE_PERIOD (R260). -/
def execOnChangePeriod (m t : Nat) (s : State) : Res := unit m 256 (onChangePeriodTpl s m t)

/-- Every enabled map's values latched at S_n; a segment source without an image of cycle n − 1 or later has its signals NA
(R195, R263). -/
def latchMaps (s : State) (n : Nat) : State :=
  forEach (s.crush.maps.map Prod.fst) s (fun m s =>
    let x := s.map m
    if !x.enable then s
    else s.setMap m { x with signals := x.signals.map (fun g =>
      let e := x.sources.getD g.source {}
      let miss := e.kind == 2 && decide (e.img < n)
      { g with latched := g.value, latchedSt := if miss then 2 else x.stateOf g }) })

/-- Cycle work of the crusher at S_n: values latched, and the CYCLE templates built of every map with no decode left (R248, R263). -/
def crushSnapshot (s : State) (n : Nat) : State :=
  let s := latchMaps { s with crush := { s.crush with snapSeq := s.pool.commits } } n
  if s.firmwareRuns then forEach (s.crush.maps.map Prod.fst) s (fun m s => settleMap s m n) else s

/-- Cycle work that is left when the image is assembled: late decodes are counted, their templates built (R263). -/
def crushAssembled (s : State) (n : Nat) : State :=
  forEach (s.crush.maps.map Prod.fst) s (fun m s =>
    let x := s.map m
    if !x.enable then s
    else
      let s := s.countIf (s.feedsCycle m && s.undecoded m) cCrushLatchLate m
      if x.twin.isNone && s.firmwareRuns then cycleTpls s m n else s)

/-- At D_n a map whose KIND 2 templates of the cycle have all been committed has had a cycle without CRUSH_LATE (R262, R265). -/
def crushDeadline (s : State) (n : Nat) : State :=
  forEach (s.crush.maps.map Prod.fst) s (fun m s =>
    let x := s.map m
    let l := x.tpls.filter (fun t => t.kind == 2 && ofCycle (max 1 t.k) t.phase n)
    if !x.enable || x.twin.isSome || l.isEmpty || l.any (fun t => decide (t.lastCyc < n + 1) || (t.heldBack && decide (t.heldN ≤ n))) then s
    else s.setMap m { x with lateRaised := false })

/-- The crusher at CYCLE_START: no template has been built and no image taken in the cycles to come (R188, R260). -/
def crushStart (s : State) : State :=
  forEach (s.crush.maps.map Prod.fst) s (fun m s =>
    let x := s.map m
    s.setMap m { x with sources := x.sources.map (fun e => { e with img := 0 })
                        tpls := x.tpls.map (fun t => { t with lastCyc := 0, heldBack := t.heldBack && t.trigger != 1 }) })

/-- The periodic instants after a step of the working clock go on from the next whole multiple of PERIOD (R141, R260). -/
def periodStep (s : State) : State :=
  forEach (s.crush.maps.map Prod.fst) s (fun m s =>
    let x := s.map m
    s.setMap m { x with tpls := x.tpls.map (fun t =>
      { t with lastPer := (s.work + t.period * 1000 - 1) / (t.period * 1000) - 1 }) })

/-- A source entry (R250). -/
def srcOf (b : List Byte) : CrushSrc :=
  { kind := leAt b 0 1, unit := leAt b 1 1, segment := leAt b 2 1, val := leAt b 4 4, mask := leAt b 8 4, timeout := leAt b 12 2 }

/-- A source entry is in range (R250). -/
def CrushSrc.ok (e : CrushSrc) : Bool :=
  (e.kind == 1 && decide (e.unit < 24)) || (e.kind == 2 && decide (e.unit ≤ 250) && decide (e.segment < 16))
    || (e.kind == 3 && decide (e.unit < 64))

/-- A signal entry (R252). -/
def signalOf (b : List Byte) : Signal :=
  let f := leAt b 1 1
  { source := leAt b 0 1, motorola := bitAt f 0, signed := bitAt f 1, ranges := bitAt f 2, rawCopy := bitAt f 4, start := leAt b 2 2
    len := leAt b 4 1, num := signedOf 32 (leAt b 8 4), den := leAt b 12 4, offset := signedOf 64 (leAt b 16 8) }

/-- The bit walk stays in positions 0 to `n` − 1 and has 1 to 64 bits (R252, R253, R258). -/
def walkOk (start len n : Nat) (motorola : Bool) : Bool :=
  decide (1 ≤ len) && decide (len ≤ 64) && (walk start len motorola).all (fun k => decide (k < n))

/-- A signal entry is acceptable (R252). -/
def signalOk (nsrc : Nat) (b : List Byte) : Bool :=
  let g := signalOf b
  decide (g.source < nsrc) && within 1 2147483647 g.den && walkOk g.start g.len 16384 g.motorola && !bitAt (leAt b 1 1) 3
    && !(g.ranges && (g.signed || g.rawCopy || g.len == 1))

/-- A destination field (R258). -/
def dfieldOf (b : List Byte) : DField :=
  let f := leAt b 1 1
  { signal := leAt b 0 1, motorola := bitAt f 0, signed := bitAt f 1, ranges := bitAt f 2, fallback := bitsAt f 4 2, start := leAt b 2 2
    len := leAt b 4 1, num := signedOf 32 (leAt b 8 4), den := leAt b 12 4, offset := signedOf 64 (leAt b 16 8), fill := leAt b 24 8 }

/-- A destination field is acceptable in a message of `n` bytes (R258). -/
def dfieldOk (sigs : List Signal) (n : Nat) (b : List Byte) : Bool :=
  let f := dfieldOf b
  let g := sigs.getD f.signal {}
  decide (f.signal < sigs.length) && walkOk f.start f.len (8 * n) f.motorola && !bitAt (leAt b 1 1) 3 && decide (f.fallback ≤ 2)
    && f.num != 0 && f.den != 0 && (if g.rawCopy then f.len == g.len else decide (f.den ≤ 2147483647))
    && !(f.ranges && (f.signed || f.len == 1)) && !(f.fallback == 0 && !f.ranges)

/-- No two fields of a template share a bit (R258). -/
def noOverlap (l : List DField) : Bool :=
  let p := l.flatMap (fun f => walk f.start f.len f.motorola)
  p.length == p.eraseDups.length

/-- A template with its fields (R257, R258). -/
def tplOf (b : List Byte) : Template :=
  { kind := leAt b 0 1, trigger := leAt b 1 1, drive := leAt b 3 1, period := leAt b 4 4, minGap := leAt b 8 4, handle := leAt b 12 4
    idWord := leAt b 16 4, len := leAt b 20 2, fill := leAt b 22 1, tally := leAt b 24 2, k := leAt b 26 2, phase := leAt b 28 2
    fields := (List.range (leAt b 2 1)).map (fun i => dfieldOf (bytesAt b (32 + 32 * i) 32)) }

/-- A template is acceptable (R257, R258, R260). -/
def tplOk (s : State) (nsrc : Nat) (sigs : List Signal) (twin : Bool) (b : List Byte) : Bool :=
  let t := tplOf b
  let cls := bitsAt t.handle 16 8
  let node := t.handle / 16777216
  let idx := t.handle % 65536
  let fd := decide (bitsAt t.idWord 30 2 ≥ 2)
  within 1 64 (leAt b 2 1) && decide (t.trigger ≤ 3) && (decide (t.drive < nsrc) || (t.trigger != 0 && t.trigger != 3))
    && (t.period == 0 || within 1000 60000000 t.period) && decide (t.minGap ≤ 60000000) && !(t.trigger == 2 && t.period == 0)
    && (if t.kind = 1 then
          cls == 1 && s.isLocal node && decide (idx < 24)
            && (if fd then (List.range 16).any (fun d => fdLen d == t.len) else decide (t.len ≤ 8))
        else t.kind == 2 && cls == 7 && decide (node ≤ 250) && decide (idx < 512) && t.trigger == 1 && within 1 256 t.len
            && within 1 1024 t.k && (twin || decide (1 ≤ t.tally)))
    && (List.range (leAt b 2 1)).all (fun i => dfieldOk sigs t.len (bytesAt b (32 + 32 * i) 32)) && noOverlap t.fields

/-- The byte ranges of the templates in a bulk buffer, from offset `k`; the end after the last (R402). -/
def tplCuts (b : List Byte) : Nat → Nat → List (List Byte) × Nat
  | 0, k => ([], k)
  | n + 1, k =>
    let m := 32 + 32 * leAt b (k + 2) 1
    let (l, e) := tplCuts b n (k + m)
    (bytesAt b k m :: l, e)

/-- Entries of the hub's tables in use, this map apart (R247): sources, signals, templates, fields. -/
def State.crushUse (s : State) (m : Nat) : Nat × Nat × Nat × Nat :=
  (s.crush.maps.filter (fun e => e.1 != m)).foldl (fun a e =>
    (a.1 + e.2.sources.length, a.2.1 + e.2.signals.length, a.2.2.1 + e.2.tpls.length,
      a.2.2.2 + sumNat (e.2.tpls.map (fun t => t.fields.length)))) (0, 0, 0, 0)

/-- RX queue of a hewer, when it has one. -/
def State.hewerRxq (s : State) (h : Nat) : Option Nat := let q := (s.hewer h).cfg.rxQueue; if q = 0xFFFF then none else some q

/-- A KIND 3 source's hewer is owned, and its RX queue is the crusher's or free to be bound to it (R105, R250; log 22). -/
def hewerSrcOk (s : State) (p h : Nat) : Bool :=
  s.owns p 2 h && (match s.hewerRxq h with | some q => (s.queue q).cons == .firmware || (s.queue q).cons == .none | none => false)

/-- The group that a handle names is in a twin set's list (R264). -/
def groupIn (s : State) (groups : List (Nat × Nat)) (h : Nat) : Bool :=
  groups.any (fun e => e.2 == h % 65536 && (e.1 == h / 16777216 || (s.isLocal e.1 && s.isLocal (h / 16777216))))

/-- The sources and templates of a map in a twin set (R264): image segments only, KIND 2 templates for groups of the set. -/
def twinFits (s : State) (tw : Option Nat) (srcs : List CrushSrc) (tpls : List Template) : Bool :=
  match tw with
  | none => true
  | some k => srcs.all (fun e => e.kind == 2) && tpls.all (fun t => t.kind != 2 || groupIn s (s.twin k).groups t.handle)

/-- Facts of MAP_SET (R402). -/
def iMapSet : CmdInfo := { op := 0x0A00, bytes := [(8, 4)], bulk := .yes, chg := .handle }
/-- MAP_SET (R247, R249 to R258, R264). -/
def bodyMapSet (c : Cmd) (s : State) : CmdRes :=
  handle s c 8 11 (fun m =>
    let b := c.bulk
    let x := s.map m
    let nsrc := leAt b 1 1
    let nsig := leAt b 2 2
    let ntpl := leAt b 4 1
    let srcs := (List.range nsrc).map (fun i => srcOf (bytesAt b (16 + 16 * i) 16))
    let sigAt := 16 + 16 * nsrc
    let sigs := (List.range nsig).map (fun i => signalOf (bytesAt b (sigAt + 24 * i) 24))
    let (cuts, last) := tplCuts b ntpl (sigAt + 24 * nsig)
    let tpls := cuts.map tplOf
    chk (within 1 16 nsrc && within 1 256 nsig && decide (ntpl ≤ 16) && !bitAt (leAt b 0 1) 0 && c.len == last && srcs.all CrushSrc.ok
        && (List.range nsig).all (fun i => signalOk nsrc (bytesAt b (sigAt + 24 * i) 24))
        && cuts.all (tplOk s nsrc sigs x.twin.isSome) && twinFits s x.twin srcs tpls) stBadParam (
    ownRes s c 11 m (
    chk (c.owned && srcs.all (fun e => (e.kind != 1 || s.mayRead c.p 1 e.unit) && (e.kind != 3 || hewerSrcOk s c.p e.unit))
        && tpls.all (fun t => t.kind != 1 || s.owns c.p 1 (t.handle % 65536))) stNotOwner (
    chk (!x.enable) stWrongState (
    let u := s.crushUse m
    chk (decide (u.1 + nsrc ≤ 4096) && decide (u.2.1 + nsig ≤ 8192) && decide (u.2.2.1 + ntpl ≤ 1024)
        && decide (u.2.2.2 + sumNat (tpls.map (fun t => t.fields.length)) ≤ 4096)) stNoResource (
      let s := forEach (srcs.filter (fun e => e.kind == 3)) s (fun e s =>
        match s.hewerRxq e.unit with | some q => bindCons s q .firmware | none => s)
      okS (s.setMap m { written := true, twin := x.twin, owner := c.p, sources := srcs, signals := sigs, tpls := tpls })))))))
/-- MAP_SET (R249, R402). -/
def execMapSet (d : Desc) (s : State) : Res := cmdRow iMapSet d bodyMapSet s

/-- CAN channels that a map's sources name. -/
def SigMap.channels (x : SigMap) : List Nat := ((x.sources.filter (fun e => e.kind == 1)).map (fun e => e.unit)).eraseDups

/-- The crusher holds a subscriber slot of the channel (R228). -/
def CanChan.crusherSlot (x : CanChan) : Bool := x.slots.any (· == some 4096)

/-- The crusher takes a slot of a channel if it has none (R250). -/
def takeCrusherSlot (s : State) (ch : Nat) : State :=
  let x := s.chan ch
  if x.crusherSlot then s
  else match x.freeSlot with
    | some i => s.setChan ch { x with slots := listSet x.slots i (some 4096) }
    | none => s

/-- The crusher gives a channel's slot back when no enabled map uses the channel (R250). -/
def freeCrusherSlot (s : State) (ch : Nat) : State :=
  if s.crush.maps.any (fun e => e.2.enable && e.2.channels.contains ch) then s
  else s.setChan ch { s.chan ch with slots := (s.chan ch).slots.map (fun v => if v = some 4096 then none else v) }

/-- A map disabled; its channels' slots are given back (R249, R250). -/
def disableMap (s : State) (m : Nat) : State :=
  let x := s.map m
  forEach x.channels (s.setMap m { x with enable := false }) (fun ch s => freeCrusherSlot s ch)

/-- A map as it stands right after its enable: signals NA, TIMEOUT counted from here, nothing sent yet (R249, R251, R260). -/
def SigMap.fresh (x : SigMap) (lt work seq : Nat) : SigMap :=
  { x with
    enable := true, enSeq := seq, overRaised := false, lateRaised := false, staleRaised := false
    sources := x.sources.map (fun e => { e with lastAt := lt, stale := false, img := 0 })
    signals := x.signals.map (fun g => { g with st := 2, value := 0, latchedSt := 2, latched := 0 })
    tpls := x.tpls.map (fun t => { t with lastSent := none, heldBack := false, heldForce := false, lastPer := work / (t.period * 1000), lastCyc := 0
                                          fields := t.fields.map (fun f => { f with lastEnc := none }) }) }

/-- Facts of MAP_ENABLE (R402). -/
def iMapEnable : CmdInfo := { op := 0x0A01, bytes := [(8, 4), (12, 1)], chg := .handle }
/-- MAP_ENABLE (R249, R250). -/
def bodyMapEnable (c : Cmd) (s : State) : CmdRes :=
  handle s c 8 11 (fun m =>
    let x := s.map m
    let en := c.u 12 1 == 1
    chk (decide (c.u 12 1 ≤ 1)) stBadParam (ownRes s c 11 m (
      if !en then okS (if x.enable then disableMap s m else s)
      else
        chk x.written stWrongState (
        if x.enable then okS s
        else chk (x.channels.all (fun ch => (s.chan ch).crusherSlot || (s.chan ch).freeSlot.isSome)) stNoResource (
          okS ((forEach x.channels s (fun ch s => takeCrusherSlot s ch)).setMap m (x.fresh s.lt s.work s.pool.commits)))))))
/-- MAP_ENABLE (R249, R402). -/
def execMapEnable (d : Desc) (s : State) : Res := cmdRow iMapEnable d bodyMapEnable s

/-- Facts of MAP_STATUS (R402). -/
def iMapStatus : CmdInfo := { op := 0x0A02, bytes := [(8, 4)], bulk := .yes }
/-- MAP_STATUS (R256): with a bulk output, the latest-value records. -/
def bodyMapStatus (c : Cmd) (s : State) : CmdRes :=
  handle s c 8 11 (fun m =>
    let x := s.map m
    chk (c.len == 0 || c.len == 8 * x.signals.length) stBadParam (readRes s c 11 m (chk c.owned stNotOwner (
      let stale := listMask ((x.sources.zipIdx.filter (fun e => e.1.stale)).map Prod.snd)
      .ok (resOf [(0, 1, b2n x.enable), (2, 2, stale)])
        (if c.len = 0 then [] else x.signals.flatMap (fun g => leBytes 8 (x.recordNow g))) s))))
/-- MAP_STATUS (R256, R402). -/
def execMapStatus (d : Desc) (s : State) : Res := cmdRow iMapStatus d bodyMapStatus s

end Sys2Proof.Machine
end

