-- ==== Sys2Proof/Machine/Pins.lean ====
section
/-!
DEFINITION. Field pins: banks, the input path, the drivers of a discrete pin, and the 0x0Bxx commands of pins (R266 to R274, R298,
R299, R403).
-/
namespace Sys2Proof.Machine

/-- Pins of a hewer's group: cluster pins (BASE + i) mod 32 of cluster `h / 8` (R266, R277). -/
def groupPins (h base count : Nat) : List Nat := (List.range count).map (fun i => 32 * (h / 8) + (base + i) % 32)

/-- Pins in the OUT, SET and SIDE groups of a hewer. -/
def Hewer.drives (x : Hewer) (h : Nat) : List Nat :=
  groupPins h x.cfg.outBase x.cfg.outCount ++ groupPins h x.cfg.setBase x.cfg.setCount ++ groupPins h x.cfg.sideBase x.cfg.sideCount

/-- A pin lies in the OUT, SET or SIDE group of a running hewer (R272). -/
def State.hewerHeld (s : State) (p : Nat) : Bool :=
  s.field.hewers.any (fun e => e.2.st == 1 && (e.2.drives e.1).contains p)

/-- The pad level that a pin's own driver gives; none at high impedance (R267, R268). -/
def State.padDriven (s : State) (p : Nat) : Option Bool :=
  let x := s.pin p
  if x.out && (s.bank (p / 16)).present && !(x.cfg.od && x.level) then some x.level else none

/-- The active level of the stuck monitor (R268). -/
def Pin.active (x : Pin) : Bool := x.deb != x.cfg.activeLow

/-- Edge selection: 0 none, 1 rising, 2 falling, 3 both. -/
def edgeSel (sel : Nat) (rising : Bool) : Bool := if rising then sel % 2 == 1 else sel / 2 % 2 == 1

/-- The debounced level changes: count, COUNT_SAT, edge event, stuck monitor (R271, R298, R360). -/
def debChange (s : State) (p : Nat) (lvl : Bool) : State :=
  let x := s.pin p
  if x.deb = lvl then s
  else
    let cnt := edgeSel x.cfg.countEdge lvl && decide (x.count < 0xFFFFFFFF)
    let n := if cnt then x.count + 1 else x.count
    let sat := cnt && n == 0xFFFFFFFF && x.satArmed
    let x := { x with deb := lvl, count := n, satArmed := x.satArmed && !sat }
    let x := if x.active then { x with activeAt := s.lt } else { x with stuckArmed := true }
    let s := s.setPin p x
    raiseIf (raiseIf s (edgeSel x.cfg.edgeEv lvl) (srcPin p) (if lvl then 1 else 2) n) sat (srcPin p) 4 n

/-- The filtered level changes; without debounce the debounced level follows it (R271). -/
def filtChange (s : State) (p : Nat) (lvl : Bool) : State :=
  let x := s.pin p
  if x.filt = lvl then s
  else
    let s := s.setPin p { x with filt := lvl, filtAt := s.lt, hist := notedChange x.hist s.edgeNext x.filt }
    if x.cfg.debounce = 0 then debChange s p lvl else s

/-- A pad holds a level for `width` units of 0.1 ns: G + 1 samples of 2.5 ns pass the glitch filter, G samples never do for
G ≥ 1, and what lies between may pass or not (R269). -/
def padEdge (s : State) (p : Nat) (lvl : Bool) (width : Nat) : State :=
  let lvl := lvl && (s.bank (p / 16)).present
  let s := s.setPin p { s.pin p with raw := lvl, selfAt := none }
  let g := (s.pin p).cfg.glitch
  if width ≥ (g + 1) * 25 then filtChange s p lvl
  else if g ≥ 1 ∧ width ≤ g * 25 then s
  else
    let (v, s) := s.draw
    if v.toNat % 2 = 1 then filtChange s p lvl else s

/-- PIN_INPUT_EDGE (R269); `width` in units of 0.1 ns. -/
def execPinInputEdge (p : Nat) (level : Bool) (width : Nat) (s : State) : Res := unit p 256 (padEdge s p level width)

/-- DEBOUNCE_EXPIRY: the filtered level has held for DEBOUNCE µs (R271). -/
def execDebounceExpiry (p : Nat) (s : State) : Res :=
  unit p 256 (
    let x := s.pin p
    if x.filt != x.deb && decide (s.lt ≥ x.filtAt + x.cfg.debounce * 1000) then debChange s p x.filt else s)

/-- STUCK_TIMEOUT: a debounced level active for STUCK_MS raises STUCK once (R298). -/
def execStuckTimeout (p : Nat) (s : State) : Res :=
  unit p 256 (
    let x := s.pin p
    if x.cfg.stuckEn && x.active && x.stuckArmed && decide (s.lt ≥ x.activeAt + x.cfg.stuckMs * 1000000) then
      raise (s.setPin p { x with stuckArmed := false }) (srcPin p) 3 x.count
    else s)

/-- The pad shows what its own driver drives, and the glitch filter samples a new level from the next edge on (R267, R269). -/
def showPad (s : State) (p : Nat) : State :=
  match s.padDriven p with
  | some l => if (s.pin p).raw = l then s else s.setPin p { s.pin p with raw := l, selfAt := some s.edgeNext }
  | none => s

/-- A pin takes a commanded level and direction; the pad shows it when it is driven (R267, R272). -/
def putLevel (s : State) (p : Nat) (lvl dir : Bool) : State := showPad (s.setPin p { s.pin p with level := lvl, out := dir }) p

/-- A driven level that G + 1 samples have shown passes the glitch filter (R269). -/
def passOwn (s : State) (p : Nat) : State :=
  match (s.pin p).selfAt with
  | some e =>
    if e + (s.pin p).cfg.glitch + 1 ≤ s.edgeNow then filtChange (s.setPin p { s.pin p with selfAt := none }) p (s.pin p).raw else s
  | none => s

/-- A driver of a discrete pin acts in the present 1 ns step: 0 output group item, 1 timed transition, 2 command. Of several
in one step the last of that order is applied and each one overridden is counted (R274). -/
def drivePin (s : State) (kind p : Nat) (lvl dir : Bool) : State :=
  let put := fun (s : State) => putLevel (s.setPin p { s.pin p with lastAct := some (s.work, kind) }) p lvl dir
  match (s.pin p).lastAct with
  | some (t, k) =>
    if t ≠ s.work then put s
    else if k > kind then s.count cPinConflict p
    else put (s.countIf (decide (k < kind)) cPinConflict p)
  | none => put s

/-- One edge at which hewers act: an act of edge `e` by hewer `h` comes before act `a`, which stands (R274, R290; log 17). -/
def outranked (e h : Nat) (a : Option (Nat × Nat)) : Bool :=
  match a with | some (t, k) => decide (e < t) || (t == e && decide (h < k)) | none => false

/-- A write reaches the pad stage. A hewer's stands unless a higher-numbered one has written that edge; a PIN_WRITE is discarded and
counted where a hewer holds the pin by now (R272, R274). -/
def padReach (s : State) (w : PadWrite) : State :=
  let p := w.pin
  let x := s.pin p
  if w.src = 64 then if s.hewerHeld p then s.count cPinConflict p else drivePin s 2 p (w.lvl.getD x.level) (w.dir.getD x.out)
  else
    let l := if outranked w.made w.src x.lvlAct then none else w.lvl
    let d := if outranked w.made w.src x.dirAct then none else w.dir
    let m := some (w.made, w.src)
    putLevel (s.setPin p { x with lvlAct := if l.isSome then m else x.lvlAct, dirAct := if d.isSome then m else x.dirAct }) p
      (l.getD x.level) (d.getD x.out)

/-- A write has reached the pad stage: a PIN_WRITE at the next 1 ns step, an instruction's one edge after its own (R272, R274). -/
def PadWrite.due (w : PadWrite) (now : Nat) : Bool := w.src == 64 || decide (w.made + 1 ≤ now)

/-- What the pad stage does in a 1 ns step: writes arrive, driven levels pass the glitch filters (R269, R272, R274). -/
def padStage (s : State) : State :=
  let l := s.field.pads
  let s := { s with field := { s.field with pads := l.filter (fun w => !w.due s.edgeNow) } }
  let s := forEach (l.filter (fun w => w.due s.edgeNow)) s (fun w s => padReach s w)
  forEach s.field.pins s (fun e s => passOwn s e.1)

/-- A write sets out for the pad stage (R272, R274). -/
def State.sendPad (s : State) (w : PadWrite) : State := { s with field := { s.field with pads := s.field.pads ++ [w] } }

/-- A timed transition falls due: discarded on a hewer-held pin (R272, R273). -/
def actTimed (s : State) (p : Nat) (late : Bool) : State :=
  match (s.pin p).timed with
  | none => s
  | some (_, l, d) =>
    let s := s.setPin p { s.pin p with timed := none }
    let s := raiseIf s late (srcPin p) 5 (s.pin p).count
    if s.hewerHeld p then s.count cPinConflict p else drivePin s 1 p l d

/-- TIMED_TRANSITION (R273). -/
def execTimedTransition (p : Nat) (s : State) : Res :=
  unit p 256 (match (s.pin p).timed with
    | some (t, _, _) => if s.work ≥ t then actTimed s p false else s
    | none => s)

/-- A forward step of the working clock past pending instants: each transition acts at the step and raises TIMED_LATE (R273). -/
def timedStep (s : State) : State :=
  forEach s.field.pins s (fun e s => match e.2.timed with
    | some (t, _, _) => if s.work ≥ t then actTimed s e.1 true else s
    | none => s)

/-- Each pin of a bank. -/
def bankPins (b : Nat) : List Nat := (List.range 16).map (fun i => 16 * b + i)

/-- BANK_SUPPLY_LOSS: inputs read 0, outputs float, BANK_SUPPLY is raised (R267). -/
def execBankSupplyLoss (b : Nat) (s : State) : Res :=
  unit b 16 (
    if !(s.bank b).present then s
    else
      let s := s.setBank b { s.bank b with present := false, mv := 0 }
      let s := forEach (bankPins b) s (fun p s => filtChange (s.setPin p { s.pin p with raw := false, selfAt := none }) p false)
      raise s (srcDiag (316 + b)) 1 0)

/-- BANK_SUPPLY_RETURN: outputs drive their last commanded states again (R267, R523). -/
def execBankSupplyReturn (b mv : Nat) (s : State) : Res :=
  unit b 16 (
    if bankReading mv = 0 then s
    else
      let s := s.setBank b { s.bank b with present := true, mv := mv }
      forEach (bankPins b) s (fun p s => showPad s p))

/-- The input path of a pin restarts (R268, R484): glitch filter from the raw level where `glitch` holds, debounce stage from
the filtered level; no edge event, count or stuck transition. -/
def restartInput (s : State) (p : Nat) (glitch : Bool) : State :=
  let x := s.pin p
  let x := if glitch then { x with
      filt := x.raw, selfAt := none, hist := if x.filt = x.raw then x.hist else notedChange x.hist s.edgeNext x.filt } else x
  let x := { x with deb := x.filt, filtAt := s.lt, activeAt := s.lt }
  s.setPin p { x with stuckArmed := x.stuckArmed || !x.active }

/-- Pin configuration from its 64-bit layout (R268). -/
def pinCfgOf (v : Nat) : PinCfg :=
  { drive := bitsAt v 0 2, od := bitAt v 2, pull := bitsAt v 3 2, schmitt := bitAt v 5, activeLow := bitAt v 6, glitch := bitsAt v 8 8
    edgeEv := bitsAt v 16 2, countEdge := bitsAt v 18 2, stuckEn := bitAt v 20, debounce := bitsAt v 32 16, stuckMs := bitsAt v 48 16 }

/-- Facts of PIN_CFG (R403). -/
def iPinCfg : CmdInfo := { op := 0x0B00, k := true, bytes := [(8, 4), (16, 8)], chg := .handle }
/-- PIN_CFG (R268). -/
def bodyPinCfg (c : Cmd) (s : State) : CmdRes :=
  handle s c 8 3 (fun p =>
    let v := c.u 16 8
    let n := pinCfgOf v
    chk (n.pull != 3 && !bitAt v 7 && bitsAt v 21 11 == 0 && n.stuckMs != 0) stBadParam (ownRes s c 3 p (
      let o := (s.pin p).cfg
      let s := showPad (s.setPin p { s.pin p with cfg := n, activeAt := if n.stuckEn && !o.stuckEn then s.lt else (s.pin p).activeAt }) p
      okS (if n.glitch ≠ o.glitch then restartInput s p true else if n.debounce ≠ o.debounce then restartInput s p false else s))))
/-- PIN_CFG (R268, R403). -/
def execPinCfg (d : Desc) (s : State) : Res := cmdRow iPinCfg d bodyPinCfg s

/-- Bits of a bank's pins, pin 0 of the bank at bit 0. -/
def bankMask (b : Nat) (f : Nat → Bool) : Nat := listMask ((List.range 16).filter (fun i => f (16 * b + i)))

/-- Facts of PIN_READ (R403). -/
def iPinRead : CmdInfo := { op := 0x0B01, k := true, bytes := [(8, 4)] }
/-- PIN_READ (R267, R403). -/
def bodyPinRead (c : Cmd) (s : State) : CmdRes :=
  handle s c 8 3 (fun p => chk (p % 16 == 0) stBadParam (readRes s c 3 p (
    let b := p / 16
    let k := s.bank b
    .ok (resOf [(0, 2, bankMask b (fun p => (s.pin p).raw)), (2, 2, bankMask b (fun p => (s.pin p).filt)),
      (4, 2, bankMask b (fun p => (s.pin p).deb)), (6, 2, bankMask b (fun p => (s.pin p).out)),
      (8, 2, bankMask b (fun p => (s.pin p).level)), (10, 2, bankMask b (fun p => s.hewerHeld p)),
      (12, 1, if !k.present then 0 else bankReading k.mv)]) [] s)))
/-- PIN_READ (R267, R403). -/
def execPinRead (d : Desc) (s : State) : Res := cmdRow iPinRead d bodyPinRead s

/-- Facts of PIN_WRITE (R403). -/
def iPinWrite : CmdInfo := { op := 0x0B02, k := true, bytes := [(8, 4), (12, 2), (14, 2), (16, 2)], chg := .pins }
/-- PIN_WRITE (R272, R274): it acts at the first 1 ns step after it reaches the pad stage. -/
def bodyPinWrite (c : Cmd) (s : State) : CmdRes :=
  handle s c 8 3 (fun p => chk (p % 16 == 0) stBadParam (
    let l := (maskList 16 (c.u 12 2)).map (fun i => p + i)
    chk (l.all (fun q => s.owns c.p 3 q)) stNotOwner (chk (l.all (fun q => !s.hewerHeld q)) stWrongState (
      okS (forEach l s (fun q s => s.sendPad { pin := q, lvl := some (bitAt (c.u 14 2) (q % 16)), dir := some (bitAt (c.u 16 2) (q % 16)) }))))))
/-- PIN_WRITE (R272, R403). -/
def execPinWrite (d : Desc) (s : State) : Res := cmdRow iPinWrite d bodyPinWrite s

/-- Facts of PIN_TIMED (R403). -/
def iPinTimed : CmdInfo := { op := 0x0B03, k := true, bytes := [(8, 4), (12, 1), (16, 8), (24, 4)], bits := [(12, 1, 0x83)] }
/-- PIN_TIMED (R273): an instant less than 50 ns ahead acts at once. -/
def bodyPinTimed (c : Cmd) (s : State) : CmdRes :=
  handle s c 8 3 (fun p =>
    let b := c.u 12 1
    chk (bitsAt b 2 5 == 0 && decide (c.u 16 8 < 2 ^ 48) && decide (c.u 24 4 < 1000000000)) stBadParam (ownRes s c 3 p (
      let t := c.u 16 8 * 1000000000 + c.u 24 4
      if bitAt b 7 then okS (s.setPin p { s.pin p with timed := none })
      else
        let s := s.setPin p { s.pin p with timed := some (t, bitAt b 0, bitAt b 1) }
        okS (if t < s.work + 50 then actTimed (s.count cTimedLate p) p true else s))))
/-- PIN_TIMED (R273, R403). -/
def execPinTimed (d : Desc) (s : State) : Res := cmdRow iPinTimed d bodyPinTimed s

/-- Facts of PIN_COUNT_CLEAR (R403). -/
def iPinCountClear : CmdInfo := { op := 0x0B04, k := true, bytes := [(8, 4)], chg := .handle }
/-- PIN_COUNT_CLEAR (R271). -/
def bodyPinCountClear (c : Cmd) (s : State) : CmdRes :=
  handle s c 8 3 (fun p => ownRes s c 3 p (
    .ok (leBytes 4 (s.pin p).count) [] (s.setPin p { s.pin p with count := 0, satArmed := true })))
/-- PIN_COUNT_CLEAR (R271, R403). -/
def execPinCountClear (d : Desc) (s : State) : Res := cmdRow iPinCountClear d bodyPinCountClear s

end Sys2Proof.Machine
end

