-- ==== Sys2Proof/Machine/Hewers.lean ====
section
/-!
DEFINITION. The hewers: ticks, pin groups, FIFOs and packets, flags and the instructions (R275 to R290, R294 to R299).
-/
namespace Sys2Proof.Machine

/-- The word that PC names, as a number (R283). -/
def Hewer.word (x : Hewer) : Nat := (x.prog.getD x.pc 0).toNat

/-- OPC of an instruction word (R283). -/
def opcOf (w : Nat) : Nat := bitsAt w 27 5
/-- DELAY of an instruction word (R283). -/
def delayOf (w : Nat) : Nat := bitsAt w 22 5
/-- SIDE_SEL of an instruction word (R283). -/
def sideOf (w : Nat) : Nat := bitsAt w 19 3

/-- `n` ticks of the divider: the edges they take and the remainder they leave (R278). -/
def Hewer.ticks (x : Hewer) (n : Nat) : Hewer :=
  let t := x.rem + n * x.cfg.divFrac
  { x with rem := t % 256, edge := x.edge + n * x.cfg.divInt + t / 256 }

/-- A 32-bit word from a number. -/
def w32 (n : Nat) : Word := BitVec.ofNat 32 n

/-- The filtered level of a pin two edges before the tick of hewer `h` (R270). -/
def seenPin (s : State) (h p : Nat) : Bool := levelAt (s.pin p).hist (s.pin p).filt 2 (s.hewer h).edge

/-- The filtered levels of a group, pin i at bit i (R270, R277). -/
def readGroup (s : State) (h base count : Nat) : Nat :=
  listMask ((List.range count).filter (fun i => seenPin s h (32 * (h / 8) + (base + i) % 32)))

/-- A group's levels written; they reach the pad stage at the next edge (R272, R274, R277, R285). -/
def writeLevels (s : State) (h base count v : Nat) : State :=
  forEach (List.range count) s (fun i s =>
    s.sendPad { pin := 32 * (h / 8) + (base + i) % 32, src := h, made := (s.hewer h).edge, lvl := some (bitAt v i) })

/-- A group's directions written; they reach the pad stage at the next edge (R272, R274, R277, R285). -/
def writeDirs (s : State) (h base count v : Nat) : State :=
  forEach (List.range count) s (fun i s =>
    s.sendPad { pin := 32 * (h / 8) + (base + i) % 32, src := h, made := (s.hewer h).edge, dir := some (bitAt v i) })

/-- The side pattern of an instruction: levels, or directions with SIDE_DIR (R283). -/
def sideAct (s : State) (h w : Nat) : State :=
  let c := (s.hewer h).cfg
  if sideOf w = 0 then s
  else
    let v := bitsAt c.sidePat (4 * (sideOf w - 1)) 4
    if c.sideDir then writeDirs s h c.sideBase c.sideCount v else writeLevels s h c.sideBase c.sideCount v

/-- How an instruction's action ends in a tick: it completes, with a jump target when one is taken, or stalls. -/
inductive HwEnd where
  /-- It completes. -/
  | fin (jump : Option Nat) (s : State)
  /-- It stalls: 1 PUSH or TSTAMP, 2 PULL, 3 WAIT. -/
  | stall (code : Nat) (s : State)

/-- A target at or beyond LENGTH goes to LOOP_TO (R285, R293). -/
def Hewer.target (x : Hewer) (a : Nat) : Nat := if a % 64 < x.prog.length then a % 64 else x.loopTo

/-- The counter that a stalled tick is counted in (R279). -/
def stallCtr (code : Nat) : CtrId := if code = 1 then cStallPush else if code = 2 then cStallPull else cStallWait

/-- The instruction at PC completes in this tick: PC moves, delay ticks follow (R279, R284). -/
def completeHw (s : State) (h w : Nat) (jump : Option Nat) : State :=
  let x := s.hewer h
  let pc := match jump with
    | some a => x.target a
    | none => if x.pc + 1 < x.prog.length then x.pc + 1 else x.loopTo
  let s := s.setHewer h ({ x with pc := pc, stall := 0, began := false, extU := none, extV := none, delay := delayOf w }.ticks 1)
  s.count cExecTicks h

/-- A tick in which the instruction at PC stalls (R279). -/
def stallHw (s : State) (h code : Nat) : State :=
  let x := s.hewer h
  (s.setHewer h ({ x with stall := code, began := true, extU := none, extV := none }.ticks 1)).count (stallCtr code) h

/-- The hewer runs and its next tick has come, the clock of the hewer island running (R14, R278). -/
def State.tickDue (s : State) (h : Nat) : Bool :=
  (s.hewer h).st == 1 && decide ((s.hewer h).edge ≤ s.edgeNow) && s.ctl.islands.getD 3 true

/-- The next tick of the hewer has come and is the first of an instruction with this opcode (R278, R279). -/
def State.hwStarts (s : State) (h opc : Nat) : Bool :=
  let x := s.hewer h
  s.tickDue h && x.stall == 0 && x.delay == 0 && decide (x.pc < x.prog.length) && opcOf x.word == opc

/-- The instruction at PC starts: its action, then its side pattern, which wins over the action at the same pin (R274, R279, R283). -/
def startHw (h opc : Nat) (act : Nat → State → HwEnd) (s : State) : State :=
  if s.hwStarts h opc then
    let w := (s.hewer h).word
    match act w s with
    | .fin j s => completeHw (sideAct s h w) h w j
    | .stall c s => stallHw (sideAct s h w) h c
  else s

/-- Words up to the last one marked EOP (R288). -/
def keepEnded (l : List (Word × Bool)) : List (Word × Bool) := (l.reverse.dropWhile (fun e => !e.2)).reverse

/-- The open packet is broken: its words in the RX FIFO go, the queue rewinds its part (R288). -/
def breakPacket (s : State) (h : Nat) : State :=
  let x := s.hewer h
  let keep := keepEnded x.rx
  let s := s.setHewer h { x with rx := keep, pktOpen := false, inQueue := if keep.isEmpty then 0 else x.inQueue }
  if keep.isEmpty && decide (x.inQueue > 0) then abortOpen s x.cfg.rxQueue else s

/-- `n` more words end the packet: by EOP or as its PKT_WORDS-th word (R288). -/
def Hewer.endsPkt (x : Hewer) (n : Nat) (eop : Bool) : Bool :=
  eop || (x.cfg.pktWords != 0 && decide (x.pktCnt + n ≥ x.cfg.pktWords))

/-- One word enters the RX FIFO; EOP or PKT_WORDS marks it as the packet's last (R288). -/
def Hewer.pushWord (x : Hewer) (w : Word) (eop : Bool) : Hewer :=
  let e := x.endsPkt 1 eop
  { x with rx := x.rx ++ [(w, e)], pktOpen := !e, pktCnt := if e then 0 else x.pktCnt + 1 }

/-- Words pushed, EOP on the last; none when a blocking push stalls (R286, R288, R289). -/
def pushWords (s : State) (h : Nat) (l : List Word) (eop block : Bool) : Option State :=
  let x := s.hewer h
  let e := x.endsPkt l.length eop
  let cnt := if e then 0 else x.pktCnt + l.length
  if x.dropToEop then some (s.setHewer h { x with dropToEop := !e, pktCnt := cnt })
  else if x.rx.length + l.length > 8 then
    if block then none
    else
      let s := (breakPacket s h).count cPushDrop h
      some (raise (s.setHewer h { s.hewer h with dropToEop := !e, pktCnt := cnt }) (srcHewer h 3) 2 0)
  else
    let x := (l.dropLast).foldl (fun (x : Hewer) w => x.pushWord w false) x
    some (s.setHewer h (x.pushWord (l.getLast?.getD 0) eop))

/-- S filled from the TX FIFO; false when it is empty (R286). -/
def pullWord (s : State) (h : Nat) : Option State :=
  let x := s.hewer h
  match x.tx with
  | [] => none
  | (w, last) :: r => some (s.setHewer h { x with s := w, sCnt := 0, lastWord := w, lastMark := last, tx := r })

/-- Number of a flag as an instruction indexes it: 32 to 47 are the global flags (R285, R290). -/
def flagNo (h i : Nat) : Nat := if i < 32 then 32 * (h / 8) + i else 256 + (i - 32)

/-- A flag set, cleared or toggled by hewer `k`, or by a write from outside with `k` 64. Of several at one edge the one with the highest
number stands and toggles the value at the edge's start; an instruction that loses to a write from outside is counted (R280, R290;
log 17). A hewer's write is on its way to the hewers that see it later. -/
def flagOp (s : State) (k f op : Nat) : State :=
  let x := s.flag f
  let e := if k = 64 then s.edgeNext else (s.hewer k).edge
  let prev := match x.act with | some (t, j) => if t = e ∧ j ≠ k then some j else none | none => none
  if outranked e k x.act then s.countIf (k != 64 && prev == some 64) cRegOverride k
  else
    let b := if prev.isSome then x.was else x.val
    let s := match prev with | some j => s.countIf (k == 64) cRegOverride j | none => s
    s.setFlag f { x with val := if op = 0 then true else if op = 1 then false else !b, act := some (e, k), was := b
                         hist := if k = 64 then [] else notedChange x.hist e x.val }

/-- A flag as hewer `h` sees it at its tick: a cluster flag one edge after a hewer wrote it, a global one two edges after (R290). -/
def seenFlag (s : State) (h f : Nat) : Bool :=
  levelAt (s.flag f).hist (s.flag f).val (if f < 256 then 1 else 2) (s.hewer h).edge

/-- U or V written by an instruction; it is lost to an external write at the same edge (R280; log 17). -/
def setUV (s : State) (h : Nat) (v : Bool) (a : Word) : State :=
  let x := s.hewer h
  if (if v then x.extV else x.extU) = some x.edge then s.count cRegOverride h
  else s.setHewer h (if v then { x with v := a } else { x with u := a })

/-- A value reaches a destination of SET, MOV or OUT: codes 0 to 3 (R285). -/
def destCommon (s : State) (h dest v base count : Nat) : State :=
  if dest = 0 then writeLevels s h base count v
  else if dest = 1 then writeDirs s h base count v
  else if dest = 2 then setUV s h false (w32 v)
  else if dest = 3 then setUV s h true (w32 v)
  else s

/-- SET (R284, R285). -/
def hwSet (h w : Nat) (s : State) : HwEnd :=
  let c := (s.hewer h).cfg
  .fin none (destCommon s h (bitsAt w 16 3) (bitsAt w 0 16) c.setBase c.setCount)

/-- Bits of a word reversed. -/
def bitReverse (v : Word) : Word := v.reverse
/-- Bytes of a word reversed. -/
def byteReverse (v : Word) : Word := w32 (beNat (leBytes 4 v.toNat))

/-- OP of a MOV (R285). -/
def movOp (op : Nat) (v : Word) : Word :=
  if op = 1 then ~~~v else if op = 2 then bitReverse v else if op = 3 then byteReverse v
  else if op = 4 then v + 1 else if op = 5 then v - 1 else v

/-- Source of a MOV (R285). -/
def movSrc (s : State) (h src : Nat) : Word :=
  let x := s.hewer h
  if src = 0 then w32 (readGroup s h x.cfg.inBase x.cfg.inCount) else if src = 1 then x.u else if src = 2 then x.v
  else if src = 4 then x.g else if src = 5 then x.s else if src = 6 then w32 (x.rx.length + 16 * x.tx.length) else 0

/-- MOV (R284, R285). -/
def hwMov (h w : Nat) (s : State) : HwEnd :=
  let v := movOp (bitsAt w 13 3) (movSrc s h (bitsAt w 10 3))
  let x := s.hewer h
  let d := bitsAt w 16 3
  if d = 4 then .fin none (s.setHewer h { x with g := v, gCnt := 0 })
  else if d = 5 then .fin none (s.setHewer h { x with s := v, sCnt := 0 })
  else if d = 6 then .fin (some v.toNat) s
  else .fin none (destCommon s h d v.toNat x.cfg.outBase x.cfg.outCount)

/-- The level of TEST_PIN (R285). -/
def testPin (s : State) (h : Nat) : Bool := seenPin s h (32 * (h / 8) + (s.hewer h).cfg.testPin)

/-- The condition of a JMP (R285). -/
def jmpCond (s : State) (h w : Nat) : Bool :=
  let x := s.hewer h
  let c := bitsAt w 15 4
  let f := seenFlag s h (flagNo h (bitsAt w 8 6))
  if c = 0 then true else if c = 1 then x.u == 0 else if c = 2 then x.v == 0 else if c = 3 then x.u != x.v
  else if c = 4 then decide (x.u.toNat < x.v.toNat) else if c = 5 then testPin s h else if c = 6 then !testPin s h
  else if c = 7 then f else if c = 8 then !f else if c = 9 then x.tlatch else if c = 10 then x.lastMark
  else if c = 11 then decide (x.rx.length ≥ 8) else if c = 12 then x.tx.isEmpty else false

/-- JMP (R284, R285): condition 9 clears TLATCH when the jump is taken. -/
def hwJmp (h w : Nat) (s : State) : HwEnd :=
  if jmpCond s h w then
    .fin (some (bitsAt w 0 6)) (if bitsAt w 15 4 = 9 then s.setHewer h { s.hewer h with tlatch := false } else s)
  else .fin none s

/-- DJNZ (R284). -/
def hwDjnz (h w : Nat) (s : State) : HwEnd :=
  let x := s.hewer h
  let r := (if bitAt w 18 then x.v else x.u) - 1
  let s := setUV s h (bitAt w 18) r
  .fin (if r ≠ 0 then some (bitsAt w 0 6) else none) s

/-- The source of a WAIT as a level (R282, R285). -/
def waitLevel (s : State) (h src i : Nat) : Bool :=
  let x := s.hewer h
  if src = 0 then x.tlatch
  else if src = 1 then (decide (0 < (s.trig i).fireCount) && decide (x.waitFrom ≤ (s.trig i).firedEdge) && decide ((s.trig i).firedEdge ≤ x.edge))
  else if src = 2 then seenPin s h (32 * (h / 8) + i % 32)
  else if src = 3 then seenPin s h (32 * (h / 8) + (x.cfg.inBase + i) % 32)
  else if src = 4 then seenFlag s h (flagNo h (i % 32))
  else if src = 5 then seenFlag s h (256 + i % 16)
  else bitAt x.irqIn.toNat (i % 4)

/-- The clearing that a passed WAIT does (R285). -/
def waitClear (s : State) (h src i : Nat) (clr : Bool) : State :=
  let x := s.hewer h
  if src = 0 then s.setHewer h { x with tlatch := false }
  else if !clr then s
  else if src = 4 then flagOp s h (flagNo h (i % 32)) 1
  else if src = 5 then flagOp s h (256 + i % 16) 1
  else if src = 6 then s.setHewer h { x with irqIn := BitVec.ofNat 4 (clrBit x.irqIn.toNat (i % 4)) }
  else s

/-- WAIT (R279, R281, R282, R285): a TRIG source passes only on a firing seen at or after the edge
at which the WAIT starts. -/
def hwWait (h w : Nat) (s : State) : HwEnd :=
  let src := bitsAt w 15 3
  let i := bitsAt w 9 6
  let s := if (s.hewer h).began then s else s.setHewer h { s.hewer h with waitFrom := (s.hewer h).edge }
  if waitLevel s h src i = bitAt w 18 then .fin none (waitClear s h src i (bitAt w 8)) else .stall 3 s

/-- G after COUNT bits of a source have entered (R286). -/
def gather (right : Bool) (g : Word) (v n : Nat) : Word :=
  if n ≥ 32 then w32 v
  else if right then w32 (g.toNat / 2 ^ n + v % 2 ^ n * 2 ^ (32 - n))
  else w32 (g.toNat * 2 ^ n + v % 2 ^ n)

/-- G rotated by COUNT bits (R286). -/
def rotateG (right : Bool) (g : Word) (n : Nat) : Word :=
  if n ≥ 32 then g
  else if right then w32 (g.toNat / 2 ^ n + g.toNat % 2 ^ n * 2 ^ (32 - n))
  else w32 (g.toNat * 2 ^ n + g.toNat / 2 ^ (32 - n))

/-- The working clock at the edge of the tick of hewer `h`, in ns (R285, R289). -/
def edgeWork (s : State) (h : Nat) : Nat := s.work - (s.lt * 2 - (s.hewer h).edge * 5) / 2

/-- Source of an IN (R285). -/
def inSrc (s : State) (h src : Nat) : Nat :=
  let x := s.hewer h
  if src = 0 then readGroup s h x.cfg.inBase x.cfg.inCount else if src = 1 then x.u.toNat else if src = 2 then x.v.toNat
  else if src = 4 then 0xFFFFFFFF else if src = 5 then edgeWork s h % 1000000000 else if src = 7 then x.s.toNat else 0

/-- IN: COUNT bits into G, then the automatic push of AUTO_STORE, which can stall (R284, R286). -/
def hwIn (h w : Nat) (s : State) : HwEnd :=
  let n := bitsAt w 0 6
  let src := bitsAt w 16 3
  let x := s.hewer h
  let s := if x.began then s
    else s.setHewer h { x with
      g := if src = 6 then rotateG x.cfg.inDir x.g n else gather x.cfg.inDir x.g (inSrc s h src) n, gCnt := min 32 (x.gCnt + n) }
  let x := s.hewer h
  if x.cfg.autoStore ∧ x.gCnt ≥ x.cfg.inWidth then
    match pushWords s h [x.g] false true with
    | some s => .fin none (s.setHewer h { s.hewer h with g := 0, gCnt := 0 })
    | none => .stall 1 s
  else .fin none s

/-- COUNT bits out of S (R286): the bits and S after them. -/
def spread (right : Bool) (v : Word) (n : Nat) : Nat × Word :=
  if n ≥ 32 then (v.toNat, 0)
  else if right then (v.toNat % 2 ^ n, w32 (v.toNat / 2 ^ n))
  else (v.toNat / 2 ^ (32 - n), w32 (v.toNat * 2 ^ n))

/-- Bits spread reach the destination of an OUT (R285). -/
def outBits (h w : Nat) (s : State) : HwEnd :=
  let x := s.hewer h
  let n := bitsAt w 0 6
  let d := bitsAt w 16 3
  let (v, r) := spread x.cfg.outDir x.s n
  let s := s.setHewer h { x with s := r, sCnt := min 32 (x.sCnt + n) }
  if d = 5 then .fin (some v) s
  else if d = 6 then .fin none (s.setHewer h { s.hewer h with g := w32 v, gCnt := n })
  else .fin none (destCommon s h d v x.cfg.outBase x.cfg.outCount)

/-- OUT, with the automatic pull of AUTO_FETCH, which can stall (R284, R286). -/
def hwOut (h w : Nat) (s : State) : HwEnd :=
  let x := s.hewer h
  if x.cfg.autoFetch ∧ x.sCnt ≥ x.cfg.outWidth then
    match pullWord s h with
    | some s => outBits h w s
    | none => .stall 2 s
  else if x.sCnt ≥ 32 then outBits h w (s.setHewer h { x with s := 0 })
  else outBits h w s

/-- PUSH (R284, R286, R288). -/
def hwPush (h w : Nat) (s : State) : HwEnd :=
  let x := s.hewer h
  if bitAt w 16 ∧ x.gCnt < x.cfg.inWidth then .fin none s
  else match pushWords s h [x.g] (bitAt w 18) (bitAt w 17) with
    | some s => .fin none (s.setHewer h { s.hewer h with g := 0, gCnt := 0 })
    | none => .stall 1 s

/-- PULL (R284, R286). -/
def hwPull (h w : Nat) (s : State) : HwEnd :=
  let x := s.hewer h
  if bitAt w 16 ∧ x.sCnt < x.cfg.outWidth then .fin none s
  else match pullWord s h with
    | some s => .fin none s
    | none => if bitAt w 17 then .stall 2 s else .fin none (s.setHewer h { x with s := x.lastWord, sCnt := 0 })

/-- The working-clock time as a TSTAMP reads it, within 2.5 ns of the edge (R289; a free offset, log 5). -/
def stampNs (s : State) (h : Nat) : Nat × State :=
  let (v, s) := s.draw
  (((edgeWork s h : Int) + (v.toNat % 5 : Nat) - 2).toNat, s)

/-- TSTAMP (R284, R289). -/
def hwTstamp (h w : Nat) (s : State) : HwEnd :=
  let (t, s) := stampNs s h
  let v := s.stamp t
  let l := if bitAt w 18 then (List.range 4).map (fun i => w32 (v / 2 ^ (32 * i))) else [w32 (t % 1000000000)]
  match pushWords s h l false (bitAt w 17) with
  | some s => .fin none s
  | none => .stall 1 s

/-- ABORT (R284, R288). -/
def hwAbort (h _w : Nat) (s : State) : HwEnd :=
  let op := (s.hewer h).pktOpen
  let s := if op then (breakPacket s h).count cHewerAborts h else s
  let x := s.hewer h
  .fin none (s.setHewer h { x with g := 0, gCnt := 0, pktCnt := if op then 0 else x.pktCnt })

/-- FLAG (R284, R290). -/
def hwFlag (h w : Nat) (s : State) : HwEnd := .fin none (flagOp s h (flagNo h (bitsAt w 0 6)) (bitsAt w 17 2))

/-- IRQ (R284, R299). -/
def hwIrq (h w : Nat) (s : State) : HwEnd := .fin none (raise s (srcHewer h (bitsAt w 0 2)) 1 0)

/-- The action of the instruction word `w` (R284). -/
def hwAct (h w : Nat) (s : State) : HwEnd :=
  match opcOf w with
  | 0x01 => hwSet h w s
  | 0x02 => hwMov h w s
  | 0x04 => hwJmp h w s
  | 0x05 => hwDjnz h w s
  | 0x06 => hwWait h w s
  | 0x08 => hwIn h w s
  | 0x09 => hwOut h w s
  | 0x0A => hwPush h w s
  | 0x0B => hwPull h w s
  | 0x0C => hwTstamp h w s
  | 0x0D => hwAbort h w s
  | 0x10 => hwFlag h w s
  | 0x11 => hwIrq h w s
  | _ => .fin none s

/-- SET (R284). -/
def execHwSet (h : Nat) (s : State) : Res := unit h 64 (startHw h 0x01 (hwSet h) s)
/-- MOV (R284). -/
def execHwMov (h : Nat) (s : State) : Res := unit h 64 (startHw h 0x02 (hwMov h) s)
/-- JMP (R285). -/
def execHwJmp (h : Nat) (s : State) : Res := unit h 64 (startHw h 0x04 (hwJmp h) s)
/-- DJNZ (R284). -/
def execHwDjnz (h : Nat) (s : State) : Res := unit h 64 (startHw h 0x05 (hwDjnz h) s)
/-- WAIT (R285). -/
def execHwWait (h : Nat) (s : State) : Res := unit h 64 (startHw h 0x06 (hwWait h) s)
/-- IN (R286). -/
def execHwIn (h : Nat) (s : State) : Res := unit h 64 (startHw h 0x08 (hwIn h) s)
/-- OUT (R286). -/
def execHwOut (h : Nat) (s : State) : Res := unit h 64 (startHw h 0x09 (hwOut h) s)
/-- PUSH (R288). -/
def execHwPush (h : Nat) (s : State) : Res := unit h 64 (startHw h 0x0A (hwPush h) s)
/-- PULL (R286). -/
def execHwPull (h : Nat) (s : State) : Res := unit h 64 (startHw h 0x0B (hwPull h) s)
/-- TSTAMP (R289). -/
def execHwTstamp (h : Nat) (s : State) : Res := unit h 64 (startHw h 0x0C (hwTstamp h) s)
/-- ABORT (R288). -/
def execHwAbort (h : Nat) (s : State) : Res := unit h 64 (startHw h 0x0D (hwAbort h) s)
/-- FLAG (R290). -/
def execHwFlag (h : Nat) (s : State) : Res := unit h 64 (startHw h 0x10 (hwFlag h) s)
/-- IRQ (R299). -/
def execHwIrq (h : Nat) (s : State) : Res := unit h 64 (startHw h 0x11 (hwIrq h) s)

/-- A stalled instruction repeats its test at a tick that has come and completes when it passes (R279). -/
def stallRetry (s : State) (h : Nat) : State :=
  let x := s.hewer h
  if s.tickDue h ∧ x.stall ≠ 0 then
    match hwAct h x.word s with
    | .fin j s => completeHw s h x.word j
    | .stall c s => stallHw s h c
  else s

/-- Delay ticks that have come are counted, at most `n` of them (R278, R279). -/
def delayTicks (s : State) (h : Nat) : Nat → State
  | 0 => s
  | n + 1 =>
    let x := s.hewer h
    if s.tickDue h && x.delay != 0 then delayTicks ((s.setHewer h ({ x with delay := x.delay - 1 }.ticks 1)).count cDelayTicks h) h n
    else s

/-- Ticks of the hewers that no command names: delay ticks, and stalled instructions that repeat their test (R279). -/
def hewerTicks (s : State) : State :=
  forEach s.field.hewers s (fun e s => if (s.hewer e.1).st = 1 then stallRetry (delayTicks s e.1 e.2.delay) e.1 else s)

/-- STALL_COMPLETE (R279). -/
def execStallComplete (h : Nat) (s : State) : Res := unit h 64 (stallRetry s h)

/-- The RX FIFO of a hewer drains into its RX queue, word by word (R287, R288, R294). -/
def drainRx (s : State) (h : Nat) : Nat → State
  | 0 => s
  | n + 1 =>
    let x := s.hewer h
    match x.rx with
    | [] => s
    | (w, e) :: r =>
      if x.cfg.rxQueue ≥ 4096 || (x.st != 1 && !x.rx.any (fun e => e.2)) then s
      else match appendOpen s x.cfg.rxQueue (leBytes 4 w.toNat) 0 false with
        | (s, true) =>
          let s := s.setHewer h { s.hewer h with rx := r, inQueue := if e then 0 else x.inQueue + 1 }
          drainRx (if e then commitOpen s x.cfg.rxQueue none else s) h n
        | (s, false) =>
          let s := s.count cRxRefused h
          let l := x.rx.dropWhile (fun e => !e.2)
          let s := if l.isEmpty then s.setHewer h { s.hewer h with rx := [], inQueue := 0, dropToEop := true, pktOpen := false }
                   else s.setHewer h { s.hewer h with rx := l.drop 1, inQueue := 0 }
          drainRx (raise s (srcHewer h 3) 3 0) h n

/-- RX_FIFO_DRAIN (R288). -/
def execRxFifoDrain (h : Nat) (s : State) : Res := unit h 64 (drainRx s h (s.hewer h).rx.length)

/-- Words of the head packet of the TX queue move into the TX FIFO while there is room and it runs (R287, R294). -/
def fillTx (s : State) (h : Nat) : Nat → State
  | 0 => s
  | n + 1 =>
    let x := s.hewer h
    let q := x.cfg.txQueue
    match (s.queue q).packets with
    | [] => s
    | k :: _ =>
      if q ≥ 4096 || x.tx.length ≥ 8 || !(s.queue q).enable || x.st != 1 then s
      else
        let o := (s.queue q).popped
        let last := decide (o + 4 ≥ k.bytes.length)
        let s := s.setHewer h { x with tx := x.tx ++ [(w32 (leAt k.bytes o 4), last)] }
        let s := if last then wmEval (releaseHead (readCells s q k.cells) q) q else s.setQueue q { s.queue q with popped := o + 4 }
        fillTx s h n

/-- TX_FIFO_FILL (R287). -/
def execTxFifoFill (h : Nat) (s : State) : Res := unit h 64 (fillTx s h (8 - (s.hewer h).tx.length))

/-- A hewer becomes RUNNING on start edge `e` (R278, R296). -/
def startEdge (x : Hewer) (restart : Bool) (e : Nat) : Hewer :=
  let x := { x with st := 1, rem := 0, edge := e, delay := 0 }
  if restart then { x with pc := x.entry, stall := 0, began := false } else x

/-- HEWER_START_EDGE: armed hewers start on the edge that sees their unit's firing (R296). -/
def execHewerStartEdge (u : Nat) (s : State) : Res :=
  unit u 64 (forEach s.field.hewers s (fun e s =>
    let x := e.2
    if x.st == 2 && x.armUnit == u && decide ((s.trig u).fireCount > x.armCount) then s.setHewer e.1 (startEdge x x.armRestart (s.trig u).firedEdge)
    else s))

/-- A firing of a trigger unit reaches the hewers bound to it: TLATCH is set, or TRIG_OVERRUN is counted and raised (R282, R291). -/
def hewersSee (s : State) (t : Nat) : State :=
  forEach s.field.hewers s (fun e s =>
    let x := e.2
    if x.st ≠ 0 ∧ x.cfg.tlatchEn ∧ x.cfg.tlatchUnit = t then
      if x.tlatch then raise (s.count cTrigOverrun e.1) (srcHewer e.1 3) 4 0 else s.setHewer e.1 { x with tlatch := true }
    else s)

/-- A hewer stops: the rest of a delay is discarded (R291, R294). -/
def stopHewer (s : State) (h : Nat) : State := s.setHewer h { s.hewer h with st := 0, delay := 0 }

end Sys2Proof.Machine
end

