-- ==== Sys2Proof/Machine/HewerCmds.lean ====
section
/-!
DEFINITION. The 0x0Bxx commands of hewers and flags: configuration, program checks, loading, library programs, starting and
stopping (R276, R277, R283 to R285, R290 to R297, R300, R403, R404).
-/
namespace Sys2Proof.Machine

/-- A configuration from the 32 bytes of HEWER_CFG (R276). -/
def hewerCfgOf (b : List Byte) : HewerCfg :=
  { divInt := leAt b 0 2, divFrac := leAt b 2 1, inDir := bitAt (leAt b 3 1) 0, outDir := bitAt (leAt b 3 1) 1
    autoStore := bitAt (leAt b 3 1) 2, autoFetch := bitAt (leAt b 3 1) 3, sideDir := bitAt (leAt b 3 1) 4
    inBase := leAt b 4 1, inCount := leAt b 5 1, outBase := leAt b 6 1, outCount := leAt b 7 1, setBase := leAt b 8 1
    setCount := leAt b 9 1, sideBase := leAt b 10 1, sideCount := leAt b 11 1, inWidth := leAt b 12 1, outWidth := leAt b 13 1
    testPin := leAt b 14 1, tlatchUnit := leAt b 15 1 % 64, tlatchEn := bitAt (leAt b 15 1) 7, rxQueue := leAt b 16 2
    txQueue := leAt b 18 2, pktWords := leAt b 20 2, sidePat := leAt b 24 4 }

/-- Every field of a configuration lies in its range and no reserved bit is set (R276). -/
def hewerCfgOk (b : List Byte) : Bool :=
  let x := hewerCfgOf b
  let q := fun n => decide (n < 4096) || n == 0xFFFF
  x.divInt != 0 && leAt b 3 1 / 32 == 0 && !bitAt (leAt b 15 1) 6 && leAt b 22 2 == 0 && leAt b 28 4 == 0 && x.sidePat / 2 ^ 28 == 0
    && decide (x.inBase < 32) && decide (x.inCount ≤ 32) && decide (x.outBase < 32) && decide (x.outCount ≤ 32)
    && decide (x.setBase < 32) && decide (x.setCount ≤ 16) && decide (x.sideBase < 32) && decide (x.sideCount ≤ 4)
    && decide (1 ≤ x.inWidth) && decide (x.inWidth ≤ 32) && decide (1 ≤ x.outWidth) && decide (x.outWidth ≤ 32)
    && decide (x.testPin < 32) && q x.rxQueue && q x.txQueue && decide (x.pktWords ≤ 512)

/-- First cluster pin of a partition's view (R357). -/
def viewPin (x : Partition) : Nat := if x.ktx22 then 16 * (x.bank % 2) else 0

/-- The pins and queues of a configuration translated from a KTX22 view; none outside it (R357, R358). -/
def viewCfg (x : Partition) (c : HewerCfg) : Option HewerCfg :=
  if !x.ktx22 then some c
  else if c.inBase ≥ 16 ∨ c.outBase ≥ 16 ∨ c.setBase ≥ 16 ∨ c.sideBase ≥ 16 ∨ c.testPin ≥ 16
      ∨ (c.rxQueue ≠ 0xFFFF ∧ c.rxQueue ≥ 256) ∨ (c.txQueue ≠ 0xFFFF ∧ c.txQueue ≥ 256) then none
  else
    let b := viewPin x
    let q := fun n => if n = 0xFFFF then n else x.qbase + n
    some { c with inBase := b + c.inBase, outBase := b + c.outBase, setBase := b + c.setBase, sideBase := b + c.sideBase
                  testPin := b + c.testPin, rxQueue := q c.rxQueue, txQueue := q c.txQueue }

/-- The ownership checks of a configuration (R277), for the hewer's owner `p`. -/
def cfgOwned (s : State) (p h : Nat) (c : HewerCfg) : Bool :=
  let mine := fun l : List Nat => l.all (fun q => s.owns p 3 q)
  mine (groupPins h c.outBase c.outCount) && mine (groupPins h c.setBase c.setCount) && mine (groupPins h c.sideBase c.sideCount)
    && (groupPins h c.inBase c.inCount).all (fun q => s.mayRead p 3 q) && s.mayRead p 3 (32 * (h / 8) + c.testPin)
    && (c.rxQueue == 0xFFFF || s.owns p 5 c.rxQueue) && (c.txQueue == 0xFFFF || s.owns p 5 c.txQueue)
    && (!c.tlatchEn || s.mayBind p c.tlatchUnit)

/-- Status of binding the queues that a configuration newly names (R105, R277). -/
def cfgBindStatus (s : State) (h : Nat) (c : HewerCfg) : Nat :=
  let old := (s.hewer h).cfg
  let a := if c.rxQueue = 0xFFFF ∨ c.rxQueue = old.rxQueue then stOk else prodBindStatus s c.rxQueue (.hewer h)
  let b := if c.txQueue = 0xFFFF ∨ c.txQueue = old.txQueue then stOk else consBindStatus s c.txQueue (.hewer h)
  if c.rxQueue ≠ 0xFFFF ∧ c.rxQueue = c.txQueue then stWrongState
  else if a = stWrongState ∨ b = stWrongState then stWrongState else if a ≠ stOk then a else b

/-- The hewer bound as producer and consumer of the queues its configuration names, and of no others (R105, R277). -/
def cfgBind (s : State) (h : Nat) (c : HewerCfg) : State :=
  let old := (s.hewer h).cfg
  let s := s.ifDo (c.rxQueue != old.rxQueue && old.rxQueue != 0xFFFF) (fun s => bindProd s old.rxQueue .none)
  let s := s.ifDo (c.txQueue != old.txQueue && old.txQueue != 0xFFFF) (fun s => bindCons s old.txQueue .none)
  let s := s.ifDo (c.rxQueue != old.rxQueue && c.rxQueue != 0xFFFF) (fun s => bindProd s c.rxQueue (.hewer h))
  let s := s.ifDo (c.txQueue != old.txQueue && c.txQueue != 0xFFFF) (fun s => bindCons s c.txQueue (.hewer h))
  s.setHewer h { s.hewer h with cfg := c }

/-- Facts of HEWER_CFG (R403). -/
def iHewerCfg : CmdInfo := { op := 0x0B05, k := true, bytes := [(8, 4), (16, 32)], chg := .handle }
/-- HEWER_CFG (R276, R277). -/
def bodyHewerCfg (c : Cmd) (s : State) : CmdRes :=
  handle s c 8 2 (fun h =>
    let b := c.bytes 16 32
    match viewCfg (s.part c.p) (hewerCfgOf b) with
    | none => .fail stBadParam
    | some n => chk (hewerCfgOk b) stBadParam (ownRes s c 2 h (chk (cfgOwned s c.p h n) stNotOwner (
        chk (!(n.rxQueue != 0xFFFF && s.fwHeld 5 n.rxQueue) && !(n.txQueue != 0xFFFF && s.fwHeld 5 n.txQueue)) stDenied (
        chk ((s.hewer h).st == 0) stWrongState (chkSt (cfgBindStatus s h n) (okS (cfgBind s h n))))))))
/-- HEWER_CFG (R276, R403). -/
def execHewerCfg (d : Desc) (s : State) : Res := cmdRow iHewerCfg d bodyHewerCfg s

/-- A WAIT's source, index and polarity are none of the reserved ones (R285). -/
def waitOk (w : Nat) : Bool :=
  let src := bitsAt w 15 3
  let i := bitsAt w 9 6
  let pol := bitAt w 18
  let clr := bitAt w 8
  bitsAt w 0 8 == 0 &&
    (if src = 0 then i == 0 && pol && !clr else if src = 1 then pol && !clr else if src = 2 ∨ src = 3 then decide (i < 32) && !clr
     else if src = 4 then decide (i < 32) else if src = 5 then decide (i < 16) else if src = 6 then decide (i < 4) else false)

/-- An instruction word is legal in a program of `len` words (R283 to R285). -/
def wordOk (len sideCount w : Nat) : Bool :=
  let ops := bitsAt w 0 19
  let target := decide (bitsAt w 0 6 < len)
  let count := decide (1 ≤ bitsAt w 0 6) && decide (bitsAt w 0 6 ≤ 32) && bitsAt w 6 10 == 0
  (sideOf w == 0 || sideCount != 0) &&
    (match opcOf w with
     | 0x01 => decide (bitsAt w 16 3 ≤ 3)
     | 0x02 => decide (bitsAt w 16 3 ≤ 6) && decide (bitsAt w 13 3 ≤ 5) && decide (bitsAt w 10 3 ≤ 6) && bitsAt w 0 10 == 0
     | 0x04 =>
       let cond := bitsAt w 15 4
       let f := bitsAt w 8 6
       decide (cond ≤ 12) && !bitAt w 14 && bitsAt w 6 2 == 0 && target
         && (if cond = 7 ∨ cond = 8 then decide (f < 48) else f == 0)
     | 0x05 => bitsAt w 6 12 == 0 && target
     | 0x06 => waitOk w
     | 0x08 => count
     | 0x09 => decide (bitsAt w 16 3 ≤ 6) && count
     | 0x0A => bitsAt w 0 16 == 0
     | 0x0B => bitsAt w 0 16 == 0 && !bitAt w 18
     | 0x0C => bitsAt w 0 17 == 0
     | 0x0D => ops == 0
     | 0x10 => decide (bitsAt w 17 2 ≤ 2) && bitsAt w 6 11 == 0 && decide (bitsAt w 0 6 < 48)
     | 0x11 => bitsAt w 2 17 == 0 && decide (bitsAt w 0 2 ≤ 2)
     | _ => false)

/-- The flag that an instruction names, if any (R284, R285). -/
def flagNamed (h w : Nat) : Option Nat :=
  match opcOf w with
  | 0x04 => if bitsAt w 15 4 = 7 ∨ bitsAt w 15 4 = 8 then some (flagNo h (bitsAt w 8 6)) else none
  | 0x06 =>
    if bitsAt w 15 3 = 4 then some (flagNo h (bitsAt w 9 6)) else if bitsAt w 15 3 = 5 then some (256 + bitsAt w 9 6) else none
  | 0x10 => some (flagNo h (bitsAt w 0 6))
  | _ => none

/-- Pins, units and flags that an instruction names are ones the hewer's owner may use (R277, R290). -/
def wordOwned (s : State) (p h : Nat) (w : Nat) : Bool :=
  let i := bitsAt w 9 6
  (match flagNamed h w with | some f => (s.flag f).owner == p | none => true) &&
    (if opcOf w = 0x06 then
       (if bitsAt w 15 3 = 1 then s.mayBind p i
        else if bitsAt w 15 3 = 2 then s.mayRead p 3 (32 * (h / 8) + i)
        else if bitsAt w 15 3 = 3 then s.mayRead p 3 (32 * (h / 8) + ((s.hewer h).cfg.inBase + i) % 32) else true)
     else true)

/-- A WAIT on a cluster pin translated from a KTX22 view (R357); other words stand as they are. -/
def viewWord (x : Partition) (w : Nat) : Nat :=
  if x.ktx22 ∧ opcOf w = 0x06 ∧ bitsAt w 15 3 = 2 ∧ bitsAt w 9 6 < 16 then w + viewPin x * 512 else w

/-- A WAIT on a cluster pin outside a KTX22 view. -/
def outsideView (x : Partition) (w : Nat) : Bool :=
  x.ktx22 && opcOf w == 0x06 && bitsAt w 15 3 == 2 && decide (bitsAt w 9 6 ≥ 16)

/-- The words of a bulk buffer (R283). -/
def wordsOf (b : List Byte) (n : Nat) : List Nat := (List.range n).map (fun i => leAt b (4 * i) 4)

/-- A program enters a stopped hewer: an open packet is aborted with LOAD_ABORT, the registers are cleared, U and V take the
load values and PC goes to ENTRY (R295). -/
def loadProgram (s : State) (h : Nat) (prog : List Word) (entry loopTo : Nat) (u v : Word) : State :=
  let op := (s.hewer h).pktOpen
  let s := if op then raise ((breakPacket s h).count cHewerAborts h) (srcHewer h 3) 1 0 else s
  s.setHewer h { s.hewer h with
    prog := prog, entry := entry, loopTo := loopTo, lib := none, libParams := [], pc := entry, u := u, v := v, g := 0, gCnt := 0
    s := 0, sCnt := 0, lastWord := 0, lastMark := false, dropToEop := false, tlatch := false, pktOpen := false, pktCnt := 0
    stall := 0, began := false }

/-- Facts of HEWER_LOAD (R403). -/
def iHewerLoad : CmdInfo :=
  { op := 0x0B06, k := true, bytes := [(8, 4), (12, 1), (13, 1), (14, 1), (16, 4), (20, 4)], bulk := .yes, chg := .handle }
/-- HEWER_LOAD (R283, R293, R295). -/
def bodyHewerLoad (c : Cmd) (s : State) : CmdRes :=
  handle s c 8 2 (fun h =>
    let n := c.u 12 1
    let x := s.part c.p
    let raw := wordsOf c.bulk n
    let l := raw.map (viewWord x)
    chk (decide (1 ≤ n) && decide (n ≤ 64) && decide (c.u 13 1 < n) && decide (c.u 14 1 < n) && c.len == 4 * n
      && l.all (wordOk n (s.hewer h).cfg.sideCount) && raw.all (fun w => !outsideView x w)) stBadParam (
    ownRes s c 2 h (chk (c.owned && l.all (wordOwned s c.p h)) stNotOwner (chk ((s.hewer h).st == 0) stWrongState (
      okS (loadProgram s h (l.map w32) (c.u 13 1) (c.u 14 1) (w32 (c.u 16 4)) (w32 (c.u 20 4))))))))
/-- HEWER_LOAD (R295, R403). -/
def execHewerLoad (d : Desc) (s : State) : Res := cmdRow iHewerLoad d bodyHewerLoad s

/-- The listed parameter bytes of a library program (R404), by descriptor byte. -/
def libBytes (id : Nat) : List (Nat × Nat) :=
  match id with
  | 1 => [(16, 4), (20, 1), (21, 1), (22, 1), (23, 1), (24, 2)]
  | 2 => [(16, 4), (20, 1), (21, 1), (22, 1), (23, 1), (24, 2), (26, 1)]
  | 3 => [(16, 4), (20, 1), (21, 1), (24, 8)]
  | 4 => [(16, 2), (18, 1), (19, 1)]
  | 5 => [(16, 1), (17, 1), (18, 1), (19, 1)]
  | 6 => [(16, 4), (20, 1), (21, 1)]
  | 7 => [(16, 2)]
  | 8 => [(16, 1)]
  | 9 => [(16, 4), (20, 1)]
  | 10 => [(16, 1), (18, 2)]
  | 11 => [(16, 1), (17, 1), (20, 4)]
  | _ => []

/-- `v` lies between `lo` and `hi`. -/
def inRange (lo hi v : Nat) : Bool := decide (lo ≤ v) && decide (v ≤ hi)

/-- The load parameters of a library program are in range (R297, R404). -/
def libParamOk (c : Cmd) (id : Nat) : Bool :=
  let uart := inRange 110 12500000 (c.u 16 4) && inRange 5 9 (c.u 20 1) && decide (c.u 21 1 ≤ 2) && inRange 1 2 (c.u 22 1)
    && decide (1 ≤ c.u 23 1) && inRange 1 4096 (c.u 24 2)
  match id with
  | 1 => uart
  | 2 => uart
  | 3 => inRange 1000 20000 (c.u 16 4) && decide (c.u 20 1 ≤ 1) && decide (c.u 21 1 ≤ 1)
  | 4 => inRange 30 900 (c.u 16 2) && inRange 1 6 (c.u 18 1) && decide (c.u 19 1 ≤ 1)
  | 5 => decide (c.u 16 1 ≤ 1) && inRange 10 28 (c.u 17 1) && decide (c.u 18 1 ≤ 1) && decide (c.u 19 1 < 64)
  | 6 => inRange 1 50000000 (c.u 16 4) && decide (c.u 20 1 ≤ 3) && inRange 4 32 (c.u 21 1)
  | 7 => c.u 16 2 == 100 || c.u 16 2 == 400 || c.u 16 2 == 1000
  | 8 => c.u 16 1 == 1 || c.u 16 1 == 2 || c.u 16 1 == 4
  | 9 => decide (2 ≤ c.u 16 4) && !bitAt (c.u 20 1) 6
  | 10 => decide (c.u 16 1 ≤ 1) && decide (1 ≤ c.u 18 2)
  | 11 => inRange 1 100 (c.u 16 1) && inRange 1 100 (c.u 17 1) && decide (c.u 20 4 ≤ 1000000)
  | _ => false

/-- Pins of a library program from BASE: whether each is driven (R297). -/
def libPins (id : Nat) : List Bool :=
  match id with
  | 1 => [false, true]
  | 2 => [false, true, true]
  | 3 => [false, true]
  | 4 => [false]
  | 5 => [false, true]
  | 6 => [false, true, true, true]
  | 7 => [true, true]
  | 8 => [false, false, false]
  | 9 => [true]
  | 10 => [false]
  | 11 => [true, true]
  | _ => []

/-- SYNC_UNIT of a library program, if it names one (R297, R404). -/
def libUnit (c : Cmd) (id : Nat) : Option Nat :=
  if id = 5 then some (c.u 19 1) else if id = 9 ∧ bitAt (c.u 20 1) 7 then some (c.u 20 1 % 64) else none

/-- The configuration a library program sets, its queues kept from HEWER_CFG (R297). -/
def libConfig (old : HewerCfg) (id base : Nat) (b : List Byte) : HewerCfg :=
  let n := hewerCfgOf (Config.libCfg id base b)
  { n with divInt := max 1 n.divInt, rxQueue := old.rxQueue, txQueue := old.txQueue }

/-- Parameter bytes of HEWER_LOAD_LIB for this program and no others are set (R385, R404). -/
def libListed (c : Cmd) (id : Nat) : Bool :=
  (List.range 32).all (fun k => (libBytes id).any (fun e => decide (e.1 ≤ 16 + k) && decide (16 + k < e.1 + e.2)) || c.u (16 + k) 1 == 0)

/-- Facts of HEWER_LOAD_LIB (R403). -/
def iHewerLoadLib : CmdInfo := { op := 0x0B07, k := true, bytes := [(8, 4), (12, 1), (13, 1), (16, 32)], chg := .handle }
/-- HEWER_LOAD_LIB (R297, R404): words, configuration and the reach of the divider are the ROM's (log 7). -/
def bodyHewerLoadLib (c : Cmd) (s : State) : CmdRes :=
  handle s c 8 2 (fun h =>
    let id := c.u 12 1
    let v := c.u 13 1
    let x := s.part c.p
    let base := if v = 0xFF then 4 * (h % 8) else viewPin x + v
    let b := c.bytes 16 32
    chk (inRange 1 11 id && (v == 0xFF || decide (v < if x.ktx22 then 16 else 32)) && libListed c id && libParamOk c id
        && Config.libRateOk id b) stBadParam (
    ownRes s c 2 h (
      let l := (libPins id).zipIdx.all (fun e =>
        let q := 32 * (h / 8) + (base + e.2) % 32
        if e.1 then s.owns c.p 3 q else s.mayRead c.p 3 q)
      chk (l && (match libUnit c id with | some u => s.mayBind c.p u | none => true)) stNotOwner (
      chk ((s.hewer h).st == 0) stWrongState (
        let prog := (Config.libProgram id base b).take 64
        let (e, t) := Config.libEntry id base b
        let s := loadProgram s h prog (if e < prog.length then e else 0) (if t < prog.length then t else 0) 0 0
        okS (s.setHewer h { s.hewer h with
          cfg := libConfig (s.hewer h).cfg id base b, lib := some id, libParams := b.map BitVec.toNat }))))))
/-- HEWER_LOAD_LIB (R297, R403). -/
def execHewerLoadLib (d : Desc) (s : State) : Res := cmdRow iHewerLoadLib d bodyHewerLoadLib s

/-- A hewer passes the checks of a start (R291, R292). -/
def Hewer.canStart (x : Hewer) : Bool :=
  let has := fun l : List Nat => x.prog.any (fun w => l.contains (opcOf w.toNat))
  x.st == 0 && !x.prog.isEmpty && !((has [0x0A, 0x0C] || x.cfg.autoStore) && x.cfg.rxQueue == 0xFFFF)
    && !((has [0x0B] || x.cfg.autoFetch) && x.cfg.txQueue == 0xFFFF)
    && !(x.cfg.sideCount == 0 && x.prog.any (fun w => sideOf w.toNat != 0))

/-- Hewers that a HEWER_MASK names; none when it names one outside a KTX22 view (R403). -/
def maskHewers (x : Partition) (m : Nat) : Option (List Nat) :=
  if !x.ktx22 then some (maskList 64 m)
  else if m / 16 ≠ 0 then none
  else some ((maskList 4 m).map (fun i => 8 * (x.bank / 2) + 4 * (x.bank % 2) + i))

/-- Facts of HEWER_START (R403). -/
def iHewerStart : CmdInfo := { op := 0x0B08, k := true, bytes := [(8, 8), (16, 1), (17, 1)], bits := [(16, 1, 3)], chg := .hewers }
/-- HEWER_START (R296): all named hewers start at once, or are armed on a unit; if one cannot, none does. -/
def bodyHewerStart (c : Cmd) (s : State) : CmdRes :=
  match maskHewers (s.part c.p) (c.u 8 8) with
  | none => .fail stBadParam
  | some l =>
    let f := c.u 16 1
    let u := c.u 17 1
    chk (f / 4 == 0 && decide (u < 64)) stBadParam (
    chk (l.all (fun h => s.owns c.p 2 h) && (!bitAt f 1 || s.mayBind c.p u)) stNotOwner (
    chk (l.all (fun h => (s.hewer h).canStart)) stWrongState (
      okS (forEach l s (fun h s =>
        let x := s.hewer h
        if bitAt f 1 then s.setHewer h { x with st := 2, armUnit := u, armCount := (s.trig u).fireCount, armRestart := bitAt f 0 }
        else s.setHewer h (startEdge x (bitAt f 0) s.edgeNext))))))
/-- HEWER_START (R296, R403). -/
def execHewerStart (d : Desc) (s : State) : Res := cmdRow iHewerStart d bodyHewerStart s

/-- Facts of HEWER_STOP (R403). -/
def iHewerStop : CmdInfo := { op := 0x0B09, k := true, bytes := [(8, 8)], chg := .hewers }
/-- HEWER_STOP (R291, R294). -/
def bodyHewerStop (c : Cmd) (s : State) : CmdRes :=
  match maskHewers (s.part c.p) (c.u 8 8) with
  | none => .fail stBadParam
  | some l => chk (l.all (fun h => s.owns c.p 2 h)) stNotOwner (okS (forEach l s (fun h s => stopHewer s h)))
/-- HEWER_STOP (R294, R403). -/
def execHewerStop (d : Desc) (s : State) : Res := cmdRow iHewerStop d bodyHewerStop s

/-- U or V of a hewer takes a value from outside; an instruction's write of it at this edge is lost (R280). -/
def extWrite (s : State) (h : Nat) (v : Bool) (x : Word) : State :=
  s.setHewer h (if v then { s.hewer h with v := x, extV := some s.edgeNext } else { s.hewer h with u := x, extU := some s.edgeNext })

/-- Facts of HEWER_REG_WRITE (R403). -/
def iHewerRegWrite : CmdInfo := { op := 0x0B0A, k := true, bytes := [(8, 4), (12, 1), (16, 4)], chg := .handle }
/-- HEWER_REG_WRITE (R280). -/
def bodyHewerRegWrite (c : Cmd) (s : State) : CmdRes :=
  handle s c 8 2 (fun h => chk (decide (c.u 12 1 ≤ 1)) stBadParam (ownRes s c 2 h (
    okS (extWrite s h (c.u 12 1 == 1) (w32 (c.u 16 4))))))
/-- HEWER_REG_WRITE (R280, R403). -/
def execHewerRegWrite (d : Desc) (s : State) : Res := cmdRow iHewerRegWrite d bodyHewerRegWrite s

/-- Facts of HEWER_IRQ_SET (R403). -/
def iHewerIrqSet : CmdInfo := { op := 0x0B0B, k := true, bytes := [(8, 4), (12, 1)], bits := [(12, 1, 15)], chg := .handle }
/-- HEWER_IRQ_SET (R280). -/
def bodyHewerIrqSet (c : Cmd) (s : State) : CmdRes :=
  handle s c 8 2 (fun h => chk (decide (c.u 12 1 < 16)) stBadParam (ownRes s c 2 h (
    okS (s.setHewer h { s.hewer h with irqIn := (s.hewer h).irqIn ||| BitVec.ofNat 4 (c.u 12 1) }))))
/-- HEWER_IRQ_SET (R280, R403). -/
def execHewerIrqSet (d : Desc) (s : State) : Res := cmdRow iHewerIrqSet d bodyHewerIrqSet s

/-- The status record of a hewer (R300). -/
def Hewer.record (x : Hewer) : List Byte :=
  leBytes 1 x.st ++ leBytes 1 x.pc ++ leBytes 1 x.stall ++ leBytes 1 (x.rx.length + 16 * x.tx.length) ++ leBytes 4 x.u.toNat
    ++ leBytes 4 x.v.toNat ++ leBytes 4 x.g.toNat ++ leBytes 4 x.s.toNat ++ leBytes 1 x.gCnt ++ leBytes 1 x.sCnt
    ++ leBytes 1 (b2n x.pktOpen + 2 * b2n x.dropToEop + 4 * b2n x.tlatch + 8 * x.irqIn.toNat) ++ zeros 1

/-- Facts of HEWER_STATUS (R403). -/
def iHewerStatus : CmdInfo := { op := 0x0B0C, k := true, bytes := [(8, 4)] }
/-- HEWER_STATUS (R300). -/
def bodyHewerStatus (c : Cmd) (s : State) : CmdRes := handle s c 8 2 (fun h => readRes s c 2 h (.ok (s.hewer h).record [] s))
/-- HEWER_STATUS (R300, R403). -/
def execHewerStatus (d : Desc) (s : State) : Res := cmdRow iHewerStatus d bodyHewerStatus s

/-- A running hewer's program names the flag (R403). -/
def State.flagInUse (s : State) (f : Nat) : Bool :=
  s.field.hewers.any (fun e => e.2.st == 1 && e.2.prog.any (fun w => flagNamed e.1 w.toNat == some f))

/-- Facts of FLAG_ASSIGN (R403). -/
def iFlagAssign : CmdInfo := { op := 0x0B0D, p0 := true, bytes := [(8, 2), (10, 1)] }
/-- FLAG_ASSIGN (R290). -/
def bodyFlagAssign (c : Cmd) (s : State) : CmdRes :=
  let f := c.u 8 2
  chk (decide (f < 272) && decide (c.u 10 1 < 16) && (s.part (c.u 10 1)).st != 0) stBadParam (
    chk (!s.flagInUse f) stBusy (okS (s.setFlag f { s.flag f with owner := c.u 10 1 })))
/-- FLAG_ASSIGN (R290, R403). -/
def execFlagAssign (d : Desc) (s : State) : Res := cmdRow iFlagAssign d bodyFlagAssign s

/-- Values of the flags that a partition owns, from flag `base` on. -/
def ownFlags (s : State) (p base n : Nat) : Nat :=
  listMask ((List.range n).filter (fun i => (s.flag (base + i)).val && (s.flag (base + i)).owner == p))

/-- Facts of FLAG_READ (R403). -/
def iFlagRead : CmdInfo := { op := 0x0B0E, bytes := [(8, 1)] }
/-- FLAG_READ (R403). -/
def bodyFlagRead (c : Cmd) (s : State) : CmdRes :=
  chk (decide (c.u 8 1 < 8)) stBadParam (.ok (leBytes 4 (ownFlags s c.p (32 * c.u 8 1) 32) ++ leBytes 2 (ownFlags s c.p 256 16)) [] s)
/-- FLAG_READ (R403). -/
def execFlagRead (d : Desc) (s : State) : Res := cmdRow iFlagRead d bodyFlagRead s

/-- Facts of FLAG_WRITE (R403). -/
def iFlagWrite : CmdInfo := { op := 0x0B0F, bytes := [(8, 1), (12, 4), (16, 4)] }
/-- FLAG_WRITE (R290): a bit in both masks toggles. -/
def bodyFlagWrite (c : Cmd) (s : State) : CmdRes :=
  let k := c.u 8 1
  let a := c.u 12 4
  let b := c.u 16 4
  let base := if k = 8 then 256 else 32 * k
  let l := (List.range 32).filter (fun i => bitAt a i || bitAt b i)
  chk (decide (k ≤ 8) && (k != 8 || l.all (fun i => decide (i < 16)))) stBadParam (
    chk (l.all (fun i => (s.flag (base + i)).owner == c.p)) stNotOwner (
      okS (forEach l s (fun i s => flagOp s 64 (base + i) (if bitAt a i && bitAt b i then 2 else if bitAt a i then 0 else 1)))))
/-- FLAG_WRITE (R290, R403). -/
def execFlagWrite (d : Desc) (s : State) : Res := cmdRow iFlagWrite d bodyFlagWrite s

end Sys2Proof.Machine
end

