-- ==== Sys2Proof/Machine/Time.lean ====
section
/-!
DEFINITION. Network time: the servos of the domains, the working clock, domain switches, PPS, gPTP ports, trigger units and capture
units, and the 0x07xx commands (R145 to R183, R188, R399).
-/
namespace Sys2Proof.Machine

/-- Domain 1 is A, domain 2 is B. -/
def State.dom (s : State) (d : Nat) : Domain := if d = 2 then s.time.domB else s.time.domA
/-- A domain written. -/
def State.setDom (s : State) (d : Nat) (x : Domain) : State :=
  { s with time := if d = 2 then { s.time with domB := x } else { s.time with domA := x } }
/-- The time island written. -/
def State.setTime (s : State) (t : Time) : State := { s with time := t }

/-- The clock of a domain as it stands: a grandmaster's domain carries the clock it serves (R145, R171). -/
def State.domClock (s : State) (d : Nat) : Clock :=
  let x := s.dom d
  if x.isGm && x.gmSource == 1 then s.time.work else if x.isGm && x.gmSource == 2 then s.time.lt else x.clk

/-- Δ: domain clock minus working clock, in units of 2^-48 ns (R146, R159). -/
def State.delta (s : State) (d : Nat) : Int := ((s.domClock d).t : Int) - (s.time.work.t : Int)

/-- An offset in units of 2^-48 ns lies within `ns` nanoseconds. -/
def within_ (delta : Int) (ns : Nat) : Bool := decide (delta.natAbs ≤ ns * nsUnit)

/-- The second of the clock that PPS_OUT marks, noted without an edge (R173). -/
def State.outClk (s : State) : Clock :=
  if s.time.outClock = 1 then s.domClock 1 else if s.time.outClock = 2 then s.domClock 2
  else if s.time.outClock = 3 then s.time.lt else s.time.work

/-- A step of a clock is no passing of NS through 0: PPS_OUT's next rising edge waits for one (R173). -/
def markSecond (s : State) : State := s.setTime { s.time with ppsOutSec := s.outClk.ns / 1000000000 }

/-- The other domain. -/
def other (d : Nat) : Nat := if d = 2 then 1 else 2

/-- A rate word within its 40-bit range (R146). -/
def clampRate (r : Int) : Int := clampInt (-281474976710) 281474976710 r

/-- The correction c of R159 for an offset of `delta` in 2^-48 ns, in units of 2^-48. -/
def slewOf (delta : Int) (interval slewMax : Nat) : Int :=
  let tau : Nat := max 250000000 (2 * interval)
  let lim : Int := (slewMax * nsUnit / 1000000 : Nat)
  clampInt (-lim) lim (delta / tau)

/-- The rate word of the working clock that follows a domain at rate `r` with correction `c` (R159). -/
def workRate (r c : Int) : Int := clampRate (r + c + r * c / nsUnit)

/-- A working-clock instant is held and firings happen: what one firing of a trigger unit does (R175, R136, R282). -/
def fireUnit (s : State) (t : Nat) (late : Bool) : State :=
  let x := s.trig t
  let at_ := x.next
  let s := s.setTrig t { x with
    fireCount := x.fireCount + 1, firedEdge := s.edgeNext, late := x.late || late, pending := x.mode == 2, next := if x.mode = 2 then x.next + x.period else x.next }
  let s := raiseIf s late (srcTrig t) 1 0
  let s := hewersSee s t
  forEach s.queues s (fun e s =>
    let q := e.1
    let x := s.queue q
    if x.launchSrc = 2 ∧ x.launchUnit = t ∧ x.cons = .port14 then
      let give := fun (k : Packet) => if k.launch.isNone then { k with launch := some at_ } else k
      let s := s.setQueue q { x with packets := x.packets.map give, fresh := x.fresh.map give }
      forwardAll s q x.packets.length
    else s)

/-- The first instant of a periodic unit's grid that lies at or after `t` (R176, R177). -/
def gridFrom (at_ period t : Nat) : Nat := if t ≤ at_ then at_ else if period = 0 then at_ else at_ + (t - at_ + period - 1) / period * period

/-- TRIGGER_FIRE: the unit's instant is reached (R175). -/
def execTriggerFire (t : Nat) (s : State) : Res :=
  unit t 64 (if (s.trig t).pending && decide (s.work ≥ (s.trig t).next) then fireUnit s t false else s)

/-- A unit is armed (R176): a one-shot instant less than 50 ns ahead fires at once, a periodic one starts on its grid. -/
def armUnit (s : State) (t mode sec ns period : Nat) : State :=
  let at_ := sec * 1000000000 + ns
  let x := { s.trig t with ns := ns, mode := mode, sec := sec, period := period }
  if mode = 0 then s.setTrig t { x with pending := false }
  else if mode = 1 then
    let s := s.setTrig t { x with pending := true, next := at_ }
    if at_ < s.work + 50 then fireUnit s t true else s
  else s.setTrig t { x with pending := true, next := if at_ < s.work + 50 then gridFrom at_ period (s.work + 50) else at_ }

/-- Trigger units at a step of the working clock (R177). -/
def trigStep (s : State) : State :=
  forEach s.time.trigs s (fun e s =>
    let x := s.trig e.1
    if !x.pending then s
    else
      let s := if s.work ≥ x.next then fireUnit s e.1 true else s
      let y := s.trig e.1
      if y.mode = 2 then s.setTrig e.1 { y with next := gridFrom (y.sec * 1000000000 + y.ns) y.period (s.work + 1) } else s)

/-- First n whose S_n lies after `t` (R185, R188). -/
def Cycle.firstAfter (c : Cycle) (t : Nat) : Nat := if t < c.cfg.base ∨ c.cfg.t = 0 then 0 else (t - c.cfg.base) / c.cfg.t + 1

/-- First n ≥ 0 whose S_n lies at or after `t` (R188). -/
def Cycle.firstAt (c : Cycle) (t : Nat) : Nat := if t ≤ c.cfg.base ∨ c.cfg.t = 0 then 0 else (t - c.cfg.base + c.cfg.t - 1) / c.cfg.t

/-- The units that the cycle holds, each with the offset of its instants from S_n (R187). -/
def cycleUnits (c : CycleCfg) : List (Nat × Nat) := [(63, 0), (62, c.pubOff), (61, c.dlOff), (60, c.apOff)]

/-- The held units armed at the instants of the first cycle, n, from which on they run with PERIOD CYCLE_T (R175, R187, R188). -/
def armCycle (s : State) (n : Nat) : State :=
  let c := s.cycle.cfg
  forEach (cycleUnits c) s (fun e s =>
    let at_ := c.base + n * c.t + e.2
    s.setTrig e.1 { s.trig e.1 with
      held := true, mode := 2, sec := at_ / 1000000000, ns := at_ % 1000000000, period := c.t, pending := true, next := at_ })

/-- The cycle at a step of the working clock: jumped cycles do not run, their data is discarded and counted; a cycle that waits for
VALID starts at the first S_n after it (R188). -/
def cyclesStep (s : State) (wasValid : Bool) : State :=
  let c := s.cycle
  let n := c.firstAfter s.work
  let first := match c.startN with | some k => k | none => c.last + 1
  if !c.running then s
  else if !wasValid && c.startN.isSome then
    let k := max first (c.firstAt s.work)
    armCycle { s with cycle := { c with startN := some k, first := k } } k
  else if n ≤ first then s
  else
    let skipped := n - first
    let gone := fun k : Nat => decide (first ≤ k) && decide (k < n)
    let s := { s with cycle := { c with last := n - 1, startN := none } }
    let s := forEach s.cycle.groups s (fun e s =>
      let x := s.group e.1
      s.setGroup e.1 { x with
        pending := x.pending.filter (fun r => !gone r.n), shadows := x.shadows.filter (fun r => !gone r.n)
        resigns := x.resigns.filter (fun k => !gone k) })
    raise (s.count cCyclesSkipped 0 skipped) (srcDiag 334) 1 0

/-- A step of the working clock to a domain's clock (R162, R165): STEP_COUNT and STEPPED, and SWITCHED when it follows the other domain than before (R183); trigger units, timed transitions,
rosters and the cycle follow the step (R135, R177, R188, R273). -/
def stepWork (s : State) (d : Nat) : State :=
  let was := s.time.valid
  let sw := s.time.lastFollow != 0 && s.time.lastFollow != d
  let s := s.setTime { s.time with
    work := { s.time.work with t := (s.domClock d).t }, valid := true, stepCount := (s.time.stepCount + 1) % 256
    follow := d, lastFollow := d, source := d, converging := false }
  let s := raiseIf (raise s (srcTime 6) 1 0) sw (srcTime 4) 1 0
  let s := markSecond s
  let s := forEach (List.range 16) s (fun p s => portStep s p)
  cyclesStep (periodStep (resample (timedStep (trigStep s)))) was

/-- The working clock may follow a domain: LOCKED, within HOLD_LIMIT and not served from the working clock (R167). -/
def State.canFollow (s : State) (d : Nat) : Bool :=
  (s.dom d).st == 3 && within_ (s.delta d) s.time.holdLimit && !((s.dom d).isGm && (s.dom d).gmSource == 1)

/-- The rate of the working clock that follows domain `d`: its rate with the correction for Δ at its latest Sync (R159). -/
def State.followRate (s : State) (d : Nat) : Int :=
  workRate (s.domClock d).rate (slewOf (s.dom d).offset (s.dom d).interval s.time.slewMax)

/-- The working clock starts to follow a domain by rate, from its present value; another domain than before is a switch (R164, R168). -/
def followDom (s : State) (d : Nat) : State :=
  let sw := s.time.lastFollow ≠ d
  let s := s.setDom d { s.dom d with quiet := 0 }
  let s := s.setTime { s.time with
    work := { s.time.work with rate := s.followRate d }, follow := d, lastFollow := d, source := d, converging := s.time.converging || sw }
  raiseIf s sw (srcTime 4) 1 0

/-- Holdover: RATE frozen, SOURCE 3 (R164). -/
def holdover (s : State) : State := raise (s.setTime { s.time with follow := 0, source := 3, converging := false }) (srcTime 7) 1 0

/-- In holdover, a domain that may be followed is followed; a permit steps the clock to one that is beyond HOLD_LIMIT
(R164, R165). -/
def leaveHoldover (s : State) : State :=
  if s.time.source ≠ 3 then s
  else if s.canFollow 1 then followDom s 1
  else if s.canFollow 2 then followDom s 2
  else
    let far := fun d => (s.dom d).st == 3 && !within_ (s.delta d) s.time.holdLimit
    if !s.time.stepArmed then s
    else if far 1 then stepWork (s.setTime { s.time with stepArmed := false }) 1
    else if far 2 then stepWork (s.setTime { s.time with stepArmed := false }) 2
    else s

/-- The followed domain is lost or beyond HOLD_LIMIT: switch at once, else SWITCH_REFUSED and holdover (R164, R167). -/
def loseFollowed (s : State) (d : Nat) : State :=
  if s.time.follow ≠ d then s
  else if s.canFollow (other d) then followDom s (other d)
  else leaveHoldover (holdover (raise s (srcTime 8) 1 0))

/-- A domain enters LOST (R161, R183). -/
def markLost (s : State) (d : Nat) : State :=
  raise (s.setDom d { s.dom d with st := 4, good := 0, syncs := 0 }) (srcTime (2 * d - 1)) 1 0

/-- A domain enters LOCKED; the first one to do so steps the working clock (R161, R162). -/
def enterLocked (s : State) (d : Nat) : State :=
  let s := raise (s.setDom d { s.dom d with st := 3 }) (srcTime (2 * d - 2)) 1 0
  if !s.time.valid && !((s.dom d).isGm && (s.dom d).gmSource == 1) then stepWork s d else s

/-- A quality or command switch to a domain: refused, the followed domain stays followed (R167). -/
def trySwitch (s : State) (d : Nat) : State :=
  if s.time.follow = d then s
  else if s.canFollow d then followDom s d
  else raise s (srcTime 8) 1 0

/-- The working clock at a Sync of a domain: Δ, HOLD_LIMIT, the rate, convergence, the end of holdover (R159, R164, R168). -/
def followSync (s : State) (d : Nat) : State :=
  let x := s.dom d
  let delta := s.delta d
  let s := s.setDom d { x with offset := delta }
  if s.time.follow ≠ d then leaveHoldover s
  else if !within_ delta s.time.holdLimit then loseFollowed (markLost s d) d
  else
    let s := s.setTime { s.time with work := { s.time.work with rate := s.followRate d } }
    let quiet := if within_ delta 20 then x.quiet + 1 else 0
    let s := s.setDom d { s.dom d with quiet := quiet }
    if s.time.converging ∧ quiet ≥ 4 then raise (s.setTime { s.time with converging := false }) (srcTime 5) 1 0 else s

/-- A domain clock stepped to a time in units of 2^-48 ns; counted in DOMAIN_STEPS (R159). -/
def stepDom (s : State) (d at_ : Nat) : State :=
  (markSecond (s.setDom d { s.dom d with clk := { (s.dom d).clk with t := at_ } })).count cDomainSteps d

/-- The servo of a domain takes a measurement: the grandmaster's time now, in 2^-48 ns, and its rate (R159, R161). -/
def servo (s : State) (d at_ : Nat) (rate : Int) : State :=
  let x := s.dom d
  let err : Int := (at_ : Int) - ((x.clk.t : Nat) : Int)
  let x := { x with clk := { x.clk with rate := clampRate rate } }
  if x.st = 1 ∨ x.st = 4 then s.setDom d { x with st := 2, syncs := 0, good := 0 }
  else
    let x := { x with syncs := x.syncs + 1, good := if within_ err 100 then x.good + 1 else 0 }
    let s := s.setDom d x
    let s := if (x.st = 2 ∧ x.syncs = 2) ∨ ((x.st = 3 ∨ x.syncs > 2) ∧ !within_ err 1000) then stepDom s d at_ else s
    if x.st = 2 ∧ x.good ≥ 4 then enterLocked s d else s

/-- Transmit correction constant of a port at its rate, in ns (R155). -/
def txCorr (s : State) (p : Nat) : Nat :=
  let r := (s.port p).link.rate
  if p ≤ 1 then (if r = 10000 then 352 else if r = 5000 then 520 else 760)
  else if p ≤ 5 then (if r = 1000 then 184 else 428) else if p = 15 then 0 else 1040

/-- Receive correction constant of a port at its rate, in ns (R155). -/
def rxCorr (s : State) (p : Nat) : Nat :=
  let r := (s.port p).link.rate
  if p ≤ 1 then (if r = 10000 then 596 else if r = 5000 then 900 else 1335)
  else if p ≤ 5 then (if r = 1000 then 312 else 752) else if p = 15 then 0 else 1480

/-- A port exchanges gPTP messages: profile on, link up, hub out of pass-through (R152, R174). -/
def State.ptpOn (s : State) (p : Nat) : Bool := decide (p < 6) && (s.port p).ptpProfile != 0 && (s.port p).link.up && !s.passThrough

/-- A gPTP message on a port that carries no precision time, or whose profile is off, is discarded and counted (R152). -/
def ptpOff (s : State) (p : Nat) : State := s.countIf (decide ((s.port p).ptpProfile = 0) || decide (p ≥ 6)) cPtpNotEnabled p

/-- A port carries time: asCapable, with a link delay within DELAY_THRESH (R153, R154). -/
def State.carries (s : State) (p : Nat) : Bool :=
  s.ptpOn p && (s.port p).asCapable && decide ((s.port p).meanDelay ≤ (s.port p).delayThresh)

/-- clockIdentity of this hub, from its factory MAC (log 13). -/
def ownClockId (s : State) : Nat := s.boot.mac / 2 ^ 24 * 2 ^ 40 + 0xFFFE * 2 ^ 24 + s.boot.mac % 2 ^ 24

/-- The domain that a domainNumber names (R160). -/
def State.domOf (s : State) (num : Nat) : Option Nat :=
  if num = s.time.domA.num then some 1 else if num = s.time.domB.num then some 2 else none

/-- A message interval of 2^l s, in ns (R153, R160). -/
def logNs (l : Int) : Nat := if l < 0 then 1000000000 / 2 ^ l.natAbs else 1000000000 * 2 ^ l.natAbs

/-- A gPTP message of a port as a frame: the common header of IEEE 1588-2019, then the body (log 13). -/
def ptpFrame (s : State) (p typ num seq : Nat) (corr log : Int) (body : List Byte) : Frame :=
  let as_ := (s.port p).ptpProfile == 1
  let d := beBytes 1 (b2n as_ * 16 + typ) ++ beBytes 1 0x12 ++ beBytes 2 (34 + body.length) ++ beBytes 1 num ++ zeros 1 ++ beBytes 2 8
    ++ beBytes 8 (unsignedOf 64 corr) ++ zeros 4 ++ beBytes 8 (ownClockId s) ++ beBytes 2 (p + 1) ++ beBytes 2 seq ++ zeros 1
    ++ beBytes 1 (unsignedOf 8 log) ++ body
  let f : Frame := { dmac := 0x0180C200000E, smac := s.boot.mac, etherType := 0x88F7, payload := d }
  { f with len := frameLenOf f }

/-- A gPTP frame leaves a port, past its egress canary rules (R93, R157). -/
def sendPtp (s : State) (p : Nat) (f : Frame) : State :=
  let s := (((s.count cTxFrames p).count cTxBytes p f.len).setPort p { s.port p with ptpSeq := ((s.port p).ptpSeq + 1) % 65536 }).emit (.frame p f false)
  canaryTap s 1 p 7 s.work false false false f (fcsBytes (wireBytes f) false)

/-- Whether what a port has heard beats what this hub would send there, `steps` hops from grandmaster vector `v` (R152; log 13). -/
def PtpMaster.beats (m : PtpMaster) (v steps own : Nat) : Bool :=
  decide (m.vector < v) || (m.vector == v && (decide (m.steps < steps) || (m.steps == steps && decide (m.sender < own))))

/-- The best master heard on a port that carries time (R152; log 13). -/
def State.bestHeard (s : State) (d : Nat) : Option PtpMaster :=
  ((s.dom d).heard.filter (fun m => s.carries m.port)).foldl (fun o m => match o with
    | none => some m
    | some b => if m.beats b.vector b.steps b.sender then some m else some b) none

/-- A port is master of a domain: it carries time, its neighbour takes one-step Syncs, and what this hub sends there is better than what it
hears (R152, R154; log 13). -/
def State.masterPort (s : State) (d p : Nat) : Bool :=
  let x := s.dom d
  let steps := match s.bestHeard d with | some b => b.steps + 1 | none => 0
  s.carries p && !(s.port p).oneStepRefused && (x.isGm || x.gmPort != p)
    && (x.isGm || !x.heard.any (fun m => m.port == p && m.beats x.gmVector steps (ownClockId s)))

/-- A one-step Sync sent on every master port of a domain, with originTimestamp in ns, correctionField in 2^-16 ns, and the grandmaster's
rate in the follow-up TLV of profile 1 (R154, R157, R171; log 13). -/
def sendSync (s : State) (d : Nat) (log rate : Int) (f : Nat → Nat × Int) : State :=
  forEach (List.range 6) s (fun p s =>
    if s.masterPort d p then
      let (o, c) := f p
      let tlv := if (s.port p).ptpProfile = 1 then
          beBytes 2 3 ++ beBytes 2 28 ++ beBytes 3 0x0080C2 ++ beBytes 3 1 ++ beBytes 4 (unsignedOf 32 (rate / 128)) ++ zeros 18 else []
      sendPtp s p (ptpFrame s p 0 (s.dom d).num (s.port p).ptpSeq c log (beBytes 6 (o / 1000000000) ++ beBytes 4 (o % 1000000000) ++ tlv))
    else s)

/-- An Announce sent on every master port of a domain (R152; log 13). -/
def sendAnnounce (s : State) (d : Nat) (log utc : Int) (vector steps source : Nat) (path : List Nat) : State :=
  forEach (List.range 6) s (fun p s =>
    if s.masterPort d p then
      let l := path ++ [ownClockId s]
      let tlv := if (s.port p).ptpProfile = 1 then beBytes 2 8 ++ beBytes 2 (8 * l.length) ++ l.flatMap (beBytes 8) else []
      sendPtp s p (ptpFrame s p 11 (s.dom d).num (s.port p).ptpSeq 0 log
        (zeros 10 ++ beBytes 2 (unsignedOf 16 utc) ++ zeros 1 ++ beBytes 14 vector ++ beBytes 2 steps ++ beBytes 1 source ++ tlv))
    else s)

/-- Nanoseconds of LT between the passing of a received message at the MDI and that of one which leaves port `p` now (R155, R157). -/
def residence (s : State) (inPort p age : Nat) : Int :=
  (age : Nat) + ((rxCorr s inPort : Nat) + (s.port inPort).rxAdj) + ((txCorr s p : Nat) + (s.port p).txAdj)

/-- The grandmaster's time at this moment that a Sync shows, in 2^-48 ns: its time, the link delay, and what has passed since the ingress
time-stamp at the MDI, at the grandmaster's rate (R155, R159). -/
def syncNow (m : SyncMsg) (link : Nat) (rx : Int) : Nat :=
  (((m.origin * 65536 : Nat) + m.corr) * 4294967296 + ((link : Nat) + (m.age : Nat) + rx) * (nsUnit + m.rate)).toNat

/-- The time that a Sync carries, in ns (R166). -/
def syncCarried (m : SyncMsg) : Nat := (((m.origin * 65536 : Nat) + m.corr) / 65536).toNat

/-- A Sync of domain `d`: from the elected grandmaster on its port it drives the domain's servo and the working clock, is relayed, and
lets a quality switch that waits for it take its instant (R157 to R168). -/
def syncReceived (s : State) (m : SyncMsg) (d : Nat) : State :=
  let x := s.dom d
  if !s.carries m.port || x.st == 0 || x.isGm || x.gmId != m.gmId || m.gmId == 0 || x.gmPort != m.port then s
  else
    let s := s.setDom d { x with
      interval := logNs m.log, lastOrigin := syncCarried m, lastWork := s.work, quality := false
      qualityAt := if x.quality && s.time.follow == d then some (syncCarried m + 1000000) else x.qualityAt }
    let rx : Int := (rxCorr s m.port : Nat) + (s.port m.port).rxAdj
    let link := (s.port m.port).meanDelay
    let s := servo s d (syncNow m link rx) m.rate
    let s := followSync s d
    sendSync s d m.log m.rate (fun p =>
      (m.origin, m.corr + ((link : Nat) + residence s m.port p m.age) * 65536 * (nsUnit + m.rate) / nsUnit))

/-- SYNC_RECEIVED (R152, R159): a Sync of no domain of the hub has no effect. -/
def execSyncReceived (m : SyncMsg) (s : State) : Res :=
  unit m.port 16 (if !s.ptpOn m.port then ptpOff s m.port
    else match s.domOf m.num with
      | some d => syncReceived s m d
      | none => s)

/-- clockClass in a priority vector (log 13). -/
def vectorClass (v : Nat) : Nat := bitsAt v 96 8

/-- clockClass that this hub announces for a domain (R171). -/
def ownClass (s : State) (d : Nat) : Nat :=
  let x := s.dom d
  if x.gmSource = 0 then (if !x.todValid then 248 else if s.time.ppsOk then 6 else 7)
  else if x.gmSource = 1 then
    (if s.time.source = 3 then 7 else if s.time.follow = 0 then 248 else vectorClass (s.dom s.time.follow).gmVector)
  else 248

/-- Priority vector of this hub for a domain (R152, R166; log 13). -/
def ownVector (s : State) (d : Nat) : Nat :=
  let x := s.dom d
  (((x.prio1 * 256 + ownClass s d) * 2 ^ 24 + Config.clockQuality d % 2 ^ 24) * 256 + x.prio2) * 2 ^ 64 + ownClockId s

/-- The source a grandmaster serves is valid (R161, R171). -/
def sourceValid (s : State) (d : Nat) : Bool :=
  let x := s.dom d
  if x.gmSource = 0 then x.todValid else if x.gmSource = 1 then s.time.valid else true

/-- A grandmaster of a domain holds it LOCKED while its source is valid (R161). -/
def holdGm (s : State) (d : Nat) : State :=
  let x := s.dom d
  if x.isGm && sourceValid s d && x.st != 3 && x.st != 0 then enterLocked s d else s

/-- A change of the grandmaster's clockIdentity raises GM_CHANGE (R161, R183). -/
def gmIs (s : State) (d id : Nat) : State :=
  let last := (s.dom d).lastGm
  raiseIf (s.setDom d { s.dom d with lastGm := id }) (last != 0 && last != id) (srcTime (11 + d)) 1 0

/-- No port has a master for a domain (R161): it searches, unless it is LOCKED, when its loss instant comes first; a hub that was its
grandmaster stops following it. -/
def noMaster (s : State) (d : Nat) : State :=
  let x := s.dom d
  if !x.isGm && x.gmId == 0 && (x.st == 1 || x.st == 3) then s
  else
    let y := { x with isGm := false, gmId := 0, gmVector := 0, quality := false, clk := s.domClock d
                      st := if x.st = 3 ∧ !x.isGm then 3 else 1 }
    if x.isGm then loseFollowed (s.setDom d y) d else s.setDom d y

/-- The election of a domain seen from this hub (R151, R152, R171): it becomes grandmaster when it may be and no better one is heard. -/
def elect (s : State) (d : Nat) : State :=
  let x := s.dom d
  if x.st = 0 then s
  else
    let best := s.bestHeard d
    let own := ownVector s d
    if x.gmCapable && (match best with | none => true | some m => decide (own < m.vector)) then
      let s := gmIs s d (ownClockId s)
      holdGm (s.setDom d { s.dom d with isGm := true, gmId := ownClockId s, gmVector := own }) d
    else match best with
      | none => noMaster s d
      | some m =>
        let s := gmIs s d m.gmId
        s.setDom d { s.dom d with
          isGm := false, gmId := m.gmId, gmVector := m.vector, gmPort := m.port, st := if x.isGm then 1 else x.st, clk := s.domClock d }

/-- Both domains' elections looked at again (R152). -/
def elects (s : State) : State := elect (elect s 1) 2

/-- What a port heard is too old: it is forgotten (R152; log 13). -/
def agePtp (s : State) : State :=
  let old := fun (x : Domain) => x.heard.any (fun m => decide (m.until_ ≤ s.lt))
  let forget := fun (x : Domain) => { x with heard := x.heard.filter (fun m => decide (s.lt < m.until_)) }
  if old s.time.domA || old s.time.domB then
    elects (s.setTime { s.time with domA := forget s.time.domA, domB := forget s.time.domB })
  else s

/-- An Announce of domain `d`: noted for its port, relayed when it is the elected grandmaster's, and looked at for the quality trigger
(R152, R161, R166). -/
def announceReceived (s : State) (m : AnnounceMsg) (d : Nat) : State :=
  let x := s.dom d
  if x.st == 0 || m.path.contains (ownClockId s) || m.gmId == ownClockId s then s
  else
    let e : PtpMaster := { port := m.port, gmId := m.gmId, vector := m.vector, steps := m.steps, sender := m.sender, until_ := s.lt + 3 * logNs m.log }
    let s := elect (s.setDom d { x with heard := x.heard.filter (fun a => a.port != m.port) ++ [e] }) d
    let y := s.dom d
    let s := if !y.isGm && y.gmPort == m.port && y.gmId == m.gmId then
        sendAnnounce s d m.log m.utc m.vector (m.steps + 1) m.source m.path else s
    let f := s.time.follow
    if f ≠ 0 ∧ s.time.autoQuality ∧ (s.dom (other f)).gmId ≠ 0 ∧ (s.dom f).gmVector > (s.dom (other f)).gmVector then
      s.setDom f { s.dom f with quality := true }
    else s

/-- ANNOUNCE_RECEIVED (R152, R166): an Announce of no domain of the hub has no effect. -/
def execAnnounceReceived (m : AnnounceMsg) (s : State) : Res :=
  unit m.port 16 (if !s.ptpOn m.port then ptpOff s m.port
    else match s.domOf m.num with
      | some d => announceReceived s m d
      | none => s)

/-- The instant at which a domain without Syncs is lost: L of R166, on the working clock for the followed domain and on its
own clock otherwise. -/
def lossDue (s : State) (d : Nat) : Bool :=
  let x := s.dom d
  let l := x.lastOrigin + s.time.lossCount * x.interval + 1000000
  decide ((if s.time.follow = d then s.work else x.clk.ns) ≥ l)

/-- SYNC_LOSS: the loss instant of a domain passes without a Sync (R161, R166, R167). Another master that is heard, or this hub if it may
be grandmaster, takes the place of the silent one; otherwise that one's Announces may still keep it elected (log 13). -/
def syncLoss (s : State) (d : Nat) : State :=
  let x := s.dom d
  if (x.st == 2 || x.st == 3) && !x.isGm && lossDue s d then
    let s := loseFollowed (markLost s d) d
    let t := s.setDom d { s.dom d with heard := (s.dom d).heard.filter (fun m => m.gmId != x.gmId) }
    if (s.dom d).gmCapable || (t.bestHeard d).isSome then elect t d else elect s d
  else s

/-- SYNC_LOSS (R166). -/
def execSyncLoss (d : Nat) (s : State) : Res := if d = 1 ∨ d = 2 then .next (syncLoss s d) else .fault .noSuchUnit

/-- A switch on grandmaster quality away from domain `f` whose instant has come (R166, R167). -/
def qualitySwitch (s : State) (f : Nat) : State :=
  match (s.dom f).qualityAt with
  | some t =>
    if s.work < t then s
    else
      let s := s.setDom f { s.dom f with qualityAt := none }
      if s.time.follow = f then trySwitch s (other f) else s
  | none => s

/-- SCHEDULED_SWITCH: a switch written to DOMAIN_SWITCH, or one on grandmaster quality, reaches its instant (R166, R167, R170). -/
def execScheduledSwitch (s : State) : Res :=
  let s := match s.time.switchAt with
    | some (t, d) => if s.work ≥ t then trySwitch (s.setTime { s.time with switchAt := none }) d else s
    | none => s
  .next (qualitySwitch (qualitySwitch s 1) 2)

/-- A write of DOMAIN_SWITCH (R167, R170). -/
def domainSwitchReg (s : State) (v : Nat) : State :=
  let d := bitsAt v 80 2
  let t := bitsAt v 32 48 * 1000000000 + bitsAt v 0 30
  if d = 0 ∨ d = 3 ∨ bitsAt v 0 30 > 999999999 ∨ ((s.dom d).isGm ∧ (s.dom d).gmSource = 1) then s.count cTimeBadWrite 0
  else if t < s.work + 1000 then trySwitch (s.setTime { s.time with switchAt := none }) d
  else s.setTime { s.time with switchAt := some (t, d) }

/-- DOMAIN_SWITCH_WRITE: partition 0 only (R148, R170). -/
def execDomainSwitchWrite (a : Acc) (value : Nat) (s : State) : Res :=
  .next (accessIn a s (fun s p => if p = 0 then ansOk (domainSwitchReg s value) else ansCa s)).s

/-- The hub's own Announce as grandmaster, at its first Sync and then every second (R152; log 13). -/
def announceOwn (s : State) (d : Nat) : State :=
  let x := s.dom d
  if (match x.annAt with | some t => decide (s.lt < t + 1000000000) | none => false) then s
  else sendAnnounce (s.setDom d { x with annAt := some s.lt }) d 0 x.utcOffset x.gmVector 0 (if x.gmSource = 0 then 0x20 else 0xA0) []

/-- SYNC_SEND: as grandmaster the hub sends a one-step Sync at its interval; its working clock follows its own domain (R157,
R171). -/
def syncSend (s : State) (d : Nat) : State :=
  let x := s.dom d
  let i := logNs s.time.syncLog
  if !x.isGm || x.st == 0 || s.passThrough || (x.sentAt != 0 && decide (s.lt < x.sentAt + i)) then s
  else
    let s := holdGm (s.setDom d { x with sentAt := s.lt, interval := i }) d
    let s := announceOwn (followSync s d) d
    let c := s.domClock d
    sendSync s d s.time.syncLog c.rate (fun p => ((((c.ns : Nat) : Int) + (txCorr s p : Nat) + (s.port p).txAdj).toNat, (c.t % nsUnit / 4294967296 : Nat)))

/-- SYNC_SEND (R171). -/
def execSyncSend (d : Nat) (s : State) : Res := if d = 1 ∨ d = 2 then .next (syncSend s d) else .fault .noSuchUnit

/-- PORT_NOT_CAPABLE once per change (R154). -/
def capCheck (s : State) (p : Nat) : State :=
  let x := s.port p
  let bad := !x.asCapable || decide (x.meanDelay > x.delayThresh)
  raiseIf (s.setPort p { x with capRaised := bad }) (bad && !x.capRaised) (srcTime 14) 1 0

/-- Peer delay interval of a port in ns (R153). -/
def Port.pdelayNs (x : Port) : Nat := if x.pdelays < 4 then 31250000 else logNs x.pdelayLog

/-- The mean link delay that an exchange gives (R155): half of what the two turns differ by at the MAC time-stamp points, less the
corrections to the MDI. -/
def linkDelay (s : State) (p : Nat) (trip : Int) : Nat :=
  ((trip - ((txCorr s p : Nat) + (s.port p).txAdj) - ((rxCorr s p : Nat) + (s.port p).rxAdj)) / 2).toNat

/-- PDELAY_EXCHANGE: a Pdelay_Req leaves, and the exchange gives the mean link delay, or none when the neighbour does not answer (R153,
R154); `trip` is (t4 − t1) − (t3 − t2), with t1 and t4 at this hub's MAC point. -/
def execPdelayExchange (p : Nat) (trip : Option Int) (s : State) : Res :=
  unit p 16 (
    let x := s.port p
    if !s.ptpOn p || (match x.pdelayAt with | some t => decide (s.lt < t + x.pdelayNs) | none => false) then s
    else
      let s := sendPtp s p (ptpFrame s p 2 0 x.ptpSeq 0 (if x.pdelays < 4 then -5 else x.pdelayLog) (zeros 20))
      elects (capCheck (s.setPort p { s.port p with
        pdelayAt := some s.lt, pdelays := x.pdelays + 1, asCapable := trip.isSome
        meanDelay := (trip.map (fun v => linkDelay s p v)).getD x.meanDelay }) p))

/-- PDELAY_REQ: the hub answers with a one-step Pdelay_Resp, whose correctionField it writes at egress (R157). -/
def execPdelayReq (m : PdelayMsg) (s : State) : Res :=
  let p := m.port
  unit p 16 (
    if !s.ptpOn p then ptpOff s p
    else sendPtp s p (ptpFrame s p 3 m.num m.seq (m.corr + residence s p p m.age * 65536) 0x7F (zeros 10 ++ beBytes 10 m.sender)))

/-- ONE_STEP_REFUSED: the port sends no time toward its neighbour (R154). -/
def execOneStepRefused (p : Nat) (s : State) : Res :=
  unit p 6 (if (s.port p).oneStepRefused then s
            else raise (s.setPort p { s.port p with oneStepRefused := true }) (srcTime 17) 1 0)

/-- A PPS edge measures the domain that this hub serves from it (R171, R172): the rate from the LT interval, the time from the seconds
given; a hub that is not its grandmaster only has a valid time of day from here. -/
def ppsMeasure (s : State) (d : Nat) (dt : Option Nat) : State :=
  let x := s.dom d
  match x.todSec with
  | none => s
  | some sec =>
    if x.gmSource ≠ 0 then s
    else
      let ns := sec * 1000000000
      let rate : Int := match dt with
        | some n => if n = 0 then x.clk.rate else ((1000000000 : Int) - n) * nsUnit / n
        | none => x.clk.rate
      let err := (ns * nsUnit : Nat) - ((x.clk.t : Nat) : Int)
      let s := s.setDom d { x with todSec := some (sec + 1), todValid := true, relayed := false }
      if !x.isGm then elect s d
      else
        let s := s.setDom d { s.dom d with clk := { x.clk with rate := clampRate rate } }
        holdGm (if within_ err 1000 then s else stepDom s d (ns * nsUnit)) d

/-- PPS_IN_EDGE (R172): accepted 1 s ± 1 ms after the previously accepted edge; the first one starts the sequence. -/
def ppsInEdge (s : State) (rising : Bool) : State :=
  let t := s.time
  if rising == t.ppsFalling then s
  else
    let ok := match t.ppsLast with
      | none => true
      | some l => decide (s.lt + 1000000 ≥ l + 1000000000) && decide (s.lt ≤ l + 1001000000)
    if !ok then s.count cPpsInBad 0
    else
      let dt := t.ppsLast.map (fun l => s.lt - l)
      let n := t.ppsRun + 1
      let up := !t.ppsOk && decide (n ≥ 3)
      let s := s.setTime { t with ppsLast := some s.lt, ppsRun := n, ppsOk := t.ppsOk || up }
      let s := raiseIf s up (srcTime 10) 1 0
      ppsMeasure (ppsMeasure s 1 dt) 2 dt

/-- PPS_IN_EDGE (R172). -/
def execPpsInEdge (rising : Bool) (s : State) : Res := .next (ppsInEdge s rising)

/-- PPS_IN_LOST: three expected edges are missing (R172). -/
def execPpsInLost (s : State) : Res :=
  .next (match s.time.ppsLast with
    | none => s
    | some l =>
      if s.lt ≤ l + 3001000000 then s
      else
        let was := s.time.ppsOk
        let lose := fun (x : Domain) => { x with relayed := x.relayed || x.todValid, todSec := none }
        let s := s.setTime { s.time with
          ppsOk := false, ppsRun := 0, ppsLast := none, domA := lose s.time.domA, domB := lose s.time.domB }
        raiseIf s was (srcTime 9) 1 0)

/-- PPS_OUT_PULSE: PPS_OUT rises where NS of its clock passes 0, stays high for its width, and is held low for a working clock that is not
valid (R173). -/
def execPpsOutPulse (s : State) : Res :=
  let c := s.outClk.ns
  let held := s.time.outClock == 0 && !s.time.valid
  .next (s.setTime { s.time with
    ppsOut := !held && decide (c % 1000000000 < s.time.outWidth * 1000) && (s.time.ppsOut || c / 1000000000 != s.time.ppsOutSec)
    ppsOutSec := c / 1000000000 })

/-- TRIG_ARM as it reads (R178). -/
def TrigUnit.value (x : TrigUnit) : Nat :=
  x.ns + x.mode * 2 ^ 30 + x.sec * 2 ^ 32 + b2n x.pending * 2 ^ 80 + b2n x.late * 2 ^ 81 + x.period * 2 ^ 96

/-- An arm value that TRIG_ARM takes (R178). -/
def armOk (v : Nat) : Bool :=
  bitsAt v 30 2 != 3 && decide (bitsAt v 0 30 ≤ 999999999) && (bitsAt v 30 2 != 2 || decide (bitsAt v 96 32 ≥ 100))

/-- A write of TRIG_ARM (R176, R178). -/
def trigArmReg (s : State) (t v : Nat) : State :=
  if !armOk v || (s.trig t).held then s.count cTimeBadWrite 0
  else
    let s := if bitAt v 81 then s.setTrig t { s.trig t with late := false } else s
    armUnit s t (bitsAt v 30 2) (bitsAt v 32 48) (bitsAt v 0 30) (bitsAt v 96 32)

/-- TRIG_ARM_WRITE: by the unit's owner (R148, R178). -/
def execTrigArmWrite (a : Acc) (t value : Nat) (s : State) : Res :=
  unit t 64 (accessIn a s (fun s p => if s.owns p 13 t then ansOk (trigArmReg s t value) else ansCa s)).s

/-- The record of a capture edge (R180). -/
def captRecord (s : State) (u : Nat) (x : CaptUnit) (rising lost : Bool) : List Byte :=
  leBytes 16 s.timeNow ++ leBytes 1 u ++ leBytes 1 (b2n rising + 2 * b2n lost) ++ leBytes 2 x.source ++ leBytes 4 x.seq

/-- A lost edge: counted, CAPT_OVERFLOW once until the next record (R181). -/
def captLose (s : State) (u : Nat) : State :=
  let x := s.capt u
  let s := (s.setCapt u { x with lost := true, overRaised := true }).count cCaptLost u
  raiseIf s (!x.overRaised) (srcCapt u) 1 x.seq

/-- CAPTURE_EDGE (R179 to R182). -/
def captureEdge (s : State) (u : Nat) (rising : Bool) : State :=
  let x := s.capt u
  if !edgeSel x.edges rising || (x.seq != 0 && decide (s.lt < x.lastEdge + 2)) then s
  else
    let wait := x.waiting.filter (fun t => decide (t > s.lt))
    let x := { x with seq := (x.seq + 1) % 4294967296, lastEdge := s.lt, waiting := wait }
    let last := leBytes 16 (s.timeNow % 2 ^ 112 + b2n rising * 2 ^ 112 + x.seq % 32768 * 2 ^ 113)
    let s := s.setCapt u x
    match x.queue with
    | none => s.setCapt u { x with last := last }
    | some q =>
      if wait.length ≥ 4 then captLose s u
      else match putPacket s q (captRecord s u x rising x.lost) 0 false with
        | (s, false) => captLose s u
        | (s, true) =>
          s.setCapt u { x with
            last := last, lost := false, overRaised := false, waiting := wait ++ [max s.lt (wait.getLast?.getD 0) + 20] }

/-- CAPTURE_EDGE (R180). -/
def execCaptureEdge (u : Nat) (rising : Bool) (s : State) : Res := unit u 128 (captureEdge s u rising)

/-- Own A, B: the partition owns both time domain resources (R160). -/
def ownDomains (s : State) (c : Cmd) (k : CmdRes) : CmdRes := chk (s.owns c.p 10 1 && s.owns c.p 10 2) stNotOwner k

/-- Facts of DOMAIN_CFG (R399). -/
def iDomainCfg : CmdInfo :=
  { op := 0x0700, bytes := [(8, 1), (9, 1), (10, 1), (11, 1), (12, 1), (13, 1), (14, 1), (16, 4), (20, 2), (24, 1), (25, 1), (26, 1), (27, 1)]
    bits := [(10, 1, 15)], chg := .domains }
/-- DOMAIN_CFG (R160, R171). -/
def bodyDomainCfg (c : Cmd) (s : State) : CmdRes :=
  let f := c.u 10 1
  let sl := c.i 11 1
  chk (decide (c.u 8 1 < 128) && decide (c.u 9 1 < 128) && c.u 8 1 != c.u 9 1 && f / 16 == 0 && decide (-7 ≤ sl) && decide (sl ≤ 0)
    && decide (2 ≤ c.u 12 1) && decide (c.u 13 1 ≤ 2) && decide (c.u 14 1 ≤ 2) && inRange 10000 2000000 (c.u 16 4)
    && inRange 1 200 (c.u 20 2)) stBadParam (ownDomains s c (
  chk (!(c.u 13 1 == 1 && s.time.follow == 1) && !(c.u 14 1 == 1 && s.time.follow == 2)) stWrongState (
    let t := s.time
    let a := { t.domA with clk := s.domClock 1, num := c.u 8 1, gmCapable := bitAt f 2, gmSource := c.u 13 1, prio1 := c.u 24 1, prio2 := c.u 25 1 }
    let b := { t.domB with clk := s.domClock 2, num := c.u 9 1, gmCapable := bitAt f 3, gmSource := c.u 14 1, prio1 := c.u 26 1, prio2 := c.u 27 1 }
    let be := bitAt f 0
    let off := !be && b.st != 0
    let b := if !be then { b with st := 0, isGm := false, gmId := 0, heard := [] } else { b with st := if b.st = 0 then 1 else b.st }
    let s := s.setTime { t with
      domA := a, domB := b, syncLog := sl, lossCount := c.u 12 1, holdLimit := c.u 16 4, slewMax := c.u 20 2
      autoQuality := bitAt f 1, bEnable := be }
    okS (markSecond (elects (if off then loseFollowed s 2 else s))))))
/-- DOMAIN_CFG (R160, R399). -/
def execDomainCfg (d : Desc) (s : State) : Res := cmdRow iDomainCfg d bodyDomainCfg s

/-- Facts of PTP_PORT_CFG (R399). -/
def iPtpPortCfg : CmdInfo := { op := 0x0701, bytes := [(8, 4), (12, 1), (13, 1), (14, 2), (16, 4), (20, 4)], chg := .handle }
/-- PTP_PORT_CFG (R152, R153). -/
def bodyPtpPortCfg (c : Cmd) (s : State) : CmdRes :=
  handle s c 8 9 (fun p =>
    let adj := fun v : Int => decide (-1000 ≤ v) && decide (v ≤ 1000)
    chk (decide (c.u 12 1 ≤ 2) && (decide (p < 6) || c.u 12 1 == 0) && decide (-5 ≤ c.i 13 1) && decide (c.i 13 1 ≤ 3)
      && inRange 100 10000 (c.u 14 2) && adj (c.i 16 4) && adj (c.i 20 4)) stBadParam (ownRes s c 9 p (
      let s := s.setPort p { s.port p with
        ptpProfile := c.u 12 1, pdelayLog := c.i 13 1, delayThresh := c.u 14 2, txAdj := c.i 16 4, rxAdj := c.i 20 4 }
      okS (elects (if s.ptpOn p && (s.port p).pdelays != 0 then capCheck s p else s)))))
/-- PTP_PORT_CFG (R153, R399). -/
def execPtpPortCfg (d : Desc) (s : State) : Res := cmdRow iPtpPortCfg d bodyPtpPortCfg s

/-- Facts of STEP_PERMIT (R399). -/
def iStepPermit : CmdInfo := { op := 0x0702, bytes := [(8, 1)], chg := .domains }
/-- STEP_PERMIT (R165). -/
def bodyStepPermit (c : Cmd) (s : State) : CmdRes :=
  chk (decide (c.u 8 1 ≤ 1)) stBadParam (ownDomains s c (
    let s := if c.u 8 1 = 1 then s.setTime { s.time with stepArmed := false } else leaveHoldover (s.setTime { s.time with stepArmed := true })
    .ok (leBytes 1 (b2n s.time.stepArmed)) [] s))
/-- STEP_PERMIT (R165, R399). -/
def execStepPermit (d : Desc) (s : State) : Res := cmdRow iStepPermit d bodyStepPermit s

/-- Facts of DOMAIN_SWITCH (R399). -/
def iDomainSwitch : CmdInfo := { op := 0x0703, bytes := [(8, 1)], chg := .domains }
/-- DOMAIN_SWITCH (R167). -/
def bodyDomainSwitch (c : Cmd) (s : State) : CmdRes :=
  let d := c.u 8 1
  chk (d == 1 || d == 2) stBadParam (ownDomains s c (
    if s.time.follow = d then okS s
    else chk (!((s.dom d).isGm && (s.dom d).gmSource == 1)) stWrongState (
      if s.canFollow d then okS (followDom s d) else .ends stWrongState [] (raise s (srcTime 8) 1 0))))
/-- DOMAIN_SWITCH (R167, R399). -/
def execDomainSwitch (d : Desc) (s : State) : Res := cmdRow iDomainSwitch d bodyDomainSwitch s

/-- Facts of TOD_SET (R399). -/
def iTodSet : CmdInfo := { op := 0x0704, bytes := [(8, 1), (10, 2), (16, 8)], bits := [(16, 8, 0xFFFFFFFFFFFF)], chg := .domains }
/-- TOD_SET (R172): only between 100 ms and 900 ms after an accepted edge. -/
def bodyTodSet (c : Cmd) (s : State) : CmdRes :=
  let d := c.u 8 1
  chk ((d == 1 || d == 2) && decide (c.u 16 8 < 2 ^ 48)) stBadParam (ownDomains s c (
    let ok := match s.time.ppsLast with
      | some l => decide (s.lt ≥ l + 100000000) && decide (s.lt ≤ l + 900000000)
      | none => false
    if ok then okS (s.setDom d { s.dom d with todSec := some (c.u 16 8), utcOffset := c.i 10 2 })
    else .ends stWrongState [] (raise s (srcTime 11) 1 0)))
/-- TOD_SET (R172, R399). -/
def execTodSet (d : Desc) (s : State) : Res := cmdRow iTodSet d bodyTodSet s

/-- Facts of PPS_CFG (R399). -/
def iPpsCfg : CmdInfo := { op := 0x0705, bytes := [(8, 1), (9, 1), (12, 4)], chg := .domains }
/-- PPS_CFG (R172, R173). -/
def bodyPpsCfg (c : Cmd) (s : State) : CmdRes :=
  chk (decide (c.u 8 1 ≤ 1) && decide (c.u 9 1 ≤ 3) && inRange 1 500000 (c.u 12 4)) stBadParam (ownDomains s c (
    okS (markSecond (s.setTime { s.time with ppsFalling := c.u 8 1 == 1, outClock := c.u 9 1, outWidth := c.u 12 4 }))))
/-- PPS_CFG (R173, R399). -/
def execPpsCfg (d : Desc) (s : State) : Res := cmdRow iPpsCfg d bodyPpsCfg s

/-- Facts of TRIG_SET (R399). -/
def iTrigSet : CmdInfo := { op := 0x0706, bytes := [(8, 4), (16, 16)], chg := .handle }
/-- TRIG_SET (R176, R178): PENDING and LATE are ignored. -/
def bodyTrigSet (c : Cmd) (s : State) : CmdRes :=
  handle s c 8 13 (fun t =>
    let v := c.u 16 16
    chk (armOk v && bitsAt v 82 14 == 0) stBadParam (ownRes s c 13 t (
      okS (armUnit s t (bitsAt v 30 2) (bitsAt v 32 48) (bitsAt v 0 30) (bitsAt v 96 32)))))
/-- TRIG_SET (R176, R399). -/
def execTrigSet (d : Desc) (s : State) : Res := cmdRow iTrigSet d bodyTrigSet s

/-- Facts of TRIG_READ (R399). -/
def iTrigRead : CmdInfo := { op := 0x0707, bytes := [(8, 4)] }
/-- TRIG_READ (R175, R178). -/
def bodyTrigRead (c : Cmd) (s : State) : CmdRes :=
  handle s c 8 13 (fun t => readRes s c 13 t (.ok (leBytes 8 (s.trig t).fireCount ++ leBytes 16 (s.trig t).value) [] s))
/-- TRIG_READ (R399). -/
def execTrigRead (d : Desc) (s : State) : Res := cmdRow iTrigRead d bodyTrigRead s

/-- A capture unit's queue released as that unit's (R179). -/
def unbindCapt (s : State) (u : Nat) : State :=
  match (s.capt u).queue with
  | some q => s.setQueue q { s.queue q with prod := .none }
  | none => s

/-- The consumers that may stand with a capture producer (R105). -/
def captCons (x : Consumer) : Bool := match x with | .none => true | .host => true | .firmware => true | .dma => true | _ => false

/-- Facts of CAPT_SET (R399). -/
def iCaptSet : CmdInfo := { op := 0x0708, bytes := [(8, 4), (12, 2), (14, 1), (16, 2)], chg := .handle }
/-- CAPT_SET (R179, R180). -/
def bodyCaptSet (c : Cmd) (s : State) : CmdRes :=
  handle s c 8 14 (fun u =>
    let q := c.u 16 2
    let src := c.u 12 2
    let has := q != 0xFFFF
    chk (decide (src ≤ 256) && decide (c.u 14 1 ≤ 3) && (!has || decide (q < 4096))) stBadParam (ownRes s c 14 u (
    chk ((src == 256 || s.mayRead c.p 3 src) && (!has || s.owns c.p 5 q)) stNotOwner (
    chk (!has || (s.queue q).fwUse == 0) stDenied (
    chk (!has || captCons (s.queue q).cons) stWrongState (
    chk (!has || (s.queue q).prod == .none || (s.queue q).prod == .capture u) stBusy (
      let s := unbindCapt s u
      let s := if has then s.setQueue q { s.queue q with prod := .capture u } else s
      okS (s.setCapt u { s.capt u with
        edges := c.u 14 1, source := src, queue := if has then some q else none, seq := 0, lost := false, overRaised := false
        waiting := [] }))))))))
/-- CAPT_SET (R179, R399). -/
def execCaptSet (d : Desc) (s : State) : Res := cmdRow iCaptSet d bodyCaptSet s

/-- TIME_STATUS (R151). -/
def timeStatus (s : State) : Nat :=
  let t := s.time
  t.sourceField + 4 * b2n t.converging + 8 * b2n t.valid + 16 * t.domA.st + 128 * t.domB.st + 1024 * b2n t.stepArmed
    + 2048 * b2n t.ppsOk + 4096 * b2n t.domA.isGm + 8192 * b2n t.domB.isGm + 65536 * (t.stepCount % 256)

/-- OFFSET_A and OFFSET_B (R148): 0 unless LOCKING or LOCKED. -/
def offsetReg (s : State) (d : Nat) : Nat :=
  if (s.dom d).st = 2 ∨ (s.dom d).st = 3 then unsignedOf 64 (s.delta d / nsUnit) else 0

/-- A read of space 6 (R148, R150): form first, then ownership. -/
def timeRead (s : State) (p off len : Nat) : Ans :=
  let k := off % 16
  let in16 := (len == 4 || len == 8 || len == 16) && off % len == 0 && decide (k + len ≤ 16)
  let part := fun v : Nat => if in16 then ansOk s (bytesAt (leBytes 16 v) k len) else ansUr s
  if off + len > 4096 ∨ len = 0 then ansUr s
  else if off < 0x10 then part s.timeNow
  else if off < 0x18 then (if off = 0x10 ∧ len = 8 then ansOk s (leBytes 8 (timeStatus s)) else ansUr s)
  else if off < 0x20 then (if in16 then ansOk s (zeros len) else ansUr s)
  else if off < 0x30 then part (timeLayout s.time (s.domClock 1))
  else if off < 0x40 then part (timeLayout s.time (s.domClock 2))
  else if off < 0x50 then part (timeLayout s.time s.time.lt)
  else if off = 0x50 then (if len = 8 then ansOk s (leBytes 8 (offsetReg s 1)) else ansUr s)
  else if off = 0x58 then (if len = 8 then ansOk s (leBytes 8 (offsetReg s 2)) else ansUr s)
  else if off < 0x60 then ansUr s
  else if off < 0x70 then (if len ≠ 16 ∨ off ≠ 0x60 then ansUr s else if p = 0 then ansOk s (zeros 16) else ansCa s)
  else if off < 0x400 then (if in16 then ansOk s (zeros len) else ansUr s)
  else if off < 0x800 then
    let t := (off - 0x400) / 16
    if !in16 then ansUr s else if s.mayRead p 13 t then part (s.trig t).value else ansCa s
  else
    let u := (off - 0x800) / 16
    if !in16 then ansUr s else if s.mayRead p 14 u then ansOk s (bytesAt (s.capt u).last k len) else ansCa s

/-- A write of space 6 (R7, R148): DOMAIN_SWITCH and TRIG_ARM in single 16-byte accesses; other registers take none. -/
def timeWrite (s : State) (p off : Nat) (d : List Byte) : Ans :=
  let len := d.length
  let in16 := (len == 4 || len == 8 || len == 16) && off % len == 0 && decide (off % 16 + len ≤ 16)
  if off + len > 4096 ∨ len = 0 then ansUr s
  else if 0x60 ≤ off ∧ off < 0x70 then
    if len ≠ 16 ∨ off ≠ 0x60 then ansUr s else if p = 0 then ansOk (domainSwitchReg s (leNat d)) else ansCa s
  else if 0x400 ≤ off ∧ off < 0x800 then
    let t := (off - 0x400) / 16
    if len ≠ 16 ∨ off % 16 ≠ 0 then ansUr s else if s.owns p 13 t then ansOk (trigArmReg s t (leNat d)) else ansCa s
  else if (0x10 ≤ off ∧ off < 0x18) ∨ (0x50 ≤ off ∧ off < 0x60) then (if len = 8 ∧ off % 8 = 0 then ansOk s else ansUr s)
  else if !in16 then ansUr s
  else if off ≥ 0x800 then (if s.mayRead p 14 ((off - 0x800) / 16) then ansOk s else ansCa s)
  else ansOk s

end Sys2Proof.Machine
end

