-- ==== Sys2Proof/Machine/Power.lean ====
section
/-!
DEFINITION. Power branches: the 0x0Dxx commands, samples and the thermal model, trips and retries, the inrush arbiter, supply holds
and the hold of the power die (R432 to R452, R406).
-/
namespace Sys2Proof.Machine

/-- Temperature sensor 4, in 0.25 °C (R442). -/
def State.sensor4 (s : State) : Int := s.ctl.temps.getD 4 0

/-- The branch conducts: RAMPING or ON (R436). -/
def Branch.running (x : Branch) : Bool := x.st == 1 || x.st == 2

/-- I2T_PCT: the breaker content in per cent of I2T; E is held in 10^-8 A²·ms (R439, R443). -/
def Branch.i2tPct (x : Branch) : Nat := min 100 (x.e * 100 / (x.cfg.i2t * 100000000))

/-- The flags of the measurement record (R439). -/
def Branch.flags (x : Branch) : Nat :=
  b2n x.backfeed + 2 * b2n x.inLimit + 4 * b2n x.supplyHold + 8 * b2n x.supplyLow + 16 * b2n x.startWait

/-- The 32-byte measurement record (R439). -/
def Branch.record (x : Branch) : List Byte :=
  leBytes 2 x.vIn ++ leBytes 2 x.vOut ++ leBytes 4 (unsignedOf 32 x.i) ++ leBytes 4 (unsignedOf 32 x.p) ++ leBytes 8 x.energy
    ++ leBytes 2 (unsignedOf 16 x.tModel) ++ leBytes 2 (unsignedOf 16 x.tNtc) ++ leBytes 1 x.st ++ leBytes 1 x.flags
    ++ leBytes 1 x.i2tPct ++ leBytes 1 x.retriesLeft ++ leBytes 4 x.sample

/-- Positive power of a sample in µW (R433, R438). -/
def sampleUw (m : BrSample) : Nat := m.vOut * m.i.toNat

/-- Conduction loss of both FETs over 10 µs, in 10^-23 J: 2 I² RDS(on) (1 + 0.0045 (T − 25 °C)), for positive current (R433, R441). -/
def Branch.conduction (x : Branch) (i : Nat) : Nat :=
  2 * i * i * x.cfg.rdson * ((1000000 : Int) + 1125 * (x.tModel - 100)).toNat

/-- Linear loss during the ramp over 10 µs, in 10^-23 J (R437, R441). -/
def Branch.linear (x : Branch) (m : BrSample) : Nat :=
  if x.st = 1 then (m.vIn - m.vOut) * m.i.toNat * 1000000000000 else 0

/-- Energy delivered while RAMPING, kept for one second (R446). -/
def Branch.rampLog (x : Branch) (lt uW : Nat) : List (Nat × Nat) :=
  let old := x.rampE.filter (fun e => decide (lt < e.1 + 1000000000))
  if x.st = 1 then old ++ [(lt, uW)] else old

/-- A sample taken into the measurements, the breaker content, the energy and the thermal model (R438, R441 to R443). -/
def Branch.take (x : Branch) (m : BrSample) (ref : Int) (lt : Nat) : Branch :=
  let pos := m.i.toNat
  let en := x.energyRem + sampleUw m
  let e : Int := (x.e : Int) + (m.i.natAbs * m.i.natAbs : Nat) * (if 0 ≤ m.i then 1 else 0) - ((x.cfg.iNom * 10) ^ 2 : Nat)
  let temp := Config.ladder x.cfg.res x.cfg.cap x.temp (x.conduction pos + x.linear m + x.heat)
  let ntc := if x.cfg.ntcFitted then m.ntc.getD (-32768) else -32768
  let base := if x.cfg.ntcFitted && !x.ntcFault && m.ntc.isSome then ntc else ref
  { x with vIn := m.vIn, vOut := m.vOut, i := m.i, p := (m.vOut * m.i).tdiv 1000, inLimit := m.inLimit && x.st == 1
           energy := (x.energy + en / 100000000) % 2 ^ 64, energyRem := en % 100000000, e := e.toNat, temp := temp, heat := 0
           tNtc := ntc, tModel := clampInt (-32768) 32767 (base + (temp.headD 0).fdiv 250000)
           sample := (x.sample + 1) % 4294967296, rampE := x.rampLog lt (sampleUw m) }

/-- TEMP_WARN once at TEMP_TRIP − 10 °C, re-armed below TEMP_TRIP − 15 °C (R445). -/
def warnStep (s : State) (b : Nat) : State :=
  let x := s.branch b
  if !x.warned && decide (x.cfg.tempTrip - 40 ≤ x.tModel) then
    raise (s.setBranch b { x with warned := true }) (srcBranch b 8) 1 (unsignedOf 24 x.tModel)
  else if x.warned && decide (x.tModel < x.cfg.tempTrip - 60) then s.setBranch b { x with warned := false }
  else s

/-- The cycle whose snapshot samples the branches now: its S_n lies less than 26 ns back (R16, R438). -/
def State.snapNow (s : State) : Option Nat :=
  let y := s.cycle
  if !y.running || y.cfg.t == 0 || decide (s.work < y.cfg.base) || decide (26 ≤ (s.work - y.cfg.base) % y.cfg.t) then none
  else
    let n := (s.work - y.cfg.base) / y.cfg.t
    if y.first ≤ n then some n else none

/-- A branch's record crosses into the main die's latest-value register; the first sample of a snapshot is kept for it (R9, R16, R438). -/
def crossRecord (s : State) (b : Nat) : State :=
  if s.crossable 9 then
    let x := s.branch b
    let keep := fun n => match x.snapRec with | some e => if e.1 = n then some e else some (n, x.record) | none => some (n, x.record)
    s.setBranch b { x with latest := x.record, snapRec := match s.snapNow with | some n => keep n | none => x.snapRec }
  else s

/-- The record that the image of cycle `n` latches: that of the sample aligned to S_n where one came, else the present one, and while the
link is down the last that crossed it (R9, R190, R438). -/
def State.branchRecord (s : State) (b n : Nat) : List Byte :=
  let x := s.branch b
  match x.snapRec with
  | some (k, r) => if k = n then r else if s.crossable 9 then x.record else fitBytes 32 x.latest
  | none => if s.crossable 9 then x.record else fitBytes 32 x.latest

/-- BRANCH_SAMPLE: a configured branch also watches its warning temperature (R438, R445). -/
def execBranchSample (b : Nat) (m : BrSample) (s : State) : Res :=
  unit b 8 (
    let s := crossRecord (s.setBranch b ((s.branch b).take m s.sensor4 s.lt)) b
    if (s.branch b).accepted then warnStep s b else s)

/-- The power-die cycle of 25 ns that runs now (R11; log 15). -/
def State.powerCycle (s : State) : Nat := s.lt / 25

/-- A branch put into a list of waiting requests: last, but before a higher branch whose request was raised in the same power-die
cycle (R446). -/
def putRequest (s : State) (b : Nat) : List Nat → List Nat
  | [] => [b]
  | a :: r => if (s.branch a).reqCyc = s.powerCycle ∧ b < a then b :: a :: r else a :: putRequest s b r

/-- A start request is raised; one that already waits stays (R436, R446, R451). -/
def startReq (s : State) (b : Nat) (retry : Bool) : State :=
  let x := s.branch b
  if x.startWait then s
  else
    let l := putRequest s b s.power.requests
    let s := s.setBranch b { x with startWait := true, isRetry := retry, reqCyc := s.powerCycle }
    { s with power := { s.power with requests := l } }

/-- The branch is OFF and its request withdrawn (R436). -/
def openBranch (s : State) (b : Nat) : State :=
  let s := s.setBranch b { s.branch b with st := 0, startWait := false, isRetry := false, supplyHold := false, inLimit := false }
  { s with power := { s.power with requests := s.power.requests.filter (· != b) } }

/-- BRANCH_SET ON 0: the branch is OFF and RETRIES_LEFT returns to RETRIES (R436, R445). -/
def branchOff (s : State) (b : Nat) : State :=
  let off := if (s.branch b).running then some s.powerCycle else none
  let s := openBranch s b
  s.setBranch b { s.branch b with retriesLeft := (s.branch b).cfg.retries, offCyc := off }

/-- The main die writes the branch's state over the link: it stays as it is after the hold (R450). -/
def branchRewritten (s : State) (b : Nat) : State :=
  if s.power.holdAt.isSome then s.setBranch b { s.branch b with rewritten := true } else s

/-- An output group item that the link to the power die does not carry waits for it (R9, R12). -/
def waitItem (s : State) (b : Nat) (on : Bool) : State := { s with power := { s.power with waiting := s.power.waiting ++ [(b, on)] } }

/-- A BRANCH output group item with data 1 or 0 acts; false when the branch cannot act and the item is skipped (R198, R199, R451).
A locked out branch skips either item, and a branch with no accepted configuration cannot start (DEDUCED, log 15). An item with data 0
also ends a wait for a retry and leaves RETRIES_LEFT as it is, which only a command restores (DEDUCED, log 15). An item that follows a
command of the same power-die cycle acts as if it had come first (R451). -/
def branchItem (s : State) (b : Nat) (on : Bool) : State × Bool :=
  let x := s.branch b
  if !s.crossable 9 then (waitItem s b on, true)
  else if x.st = 4 ∨ (on && !x.accepted) then (s, false)
  else
    let s := branchRewritten s b
    let act := fun (s : State) (on : Bool) =>
      if !on then openBranch s b else if (s.branch b).st = 0 then startReq s b false else s
    (match x.cmdCyc with
      | some (k, cmd) => if k = s.powerCycle ∧ cmd != on then (if cmd then act (act s on) cmd else s) else act s on
      | none => act s on, true)

/-- Every branch off (R379, R450, R499). -/
def allBranchesOff (s : State) : State := forEach (List.range 8) s (fun b s => openBranch s b)

/-- A trip of a conducting branch: 1 breaker, 2 short, 3 thermal (R443 to R445); of one that a command has turned off in the same
power-die cycle it is counted and raised alone (R451). -/
def tripBranch (s : State) (b kind : Nat) : State :=
  let x := s.branch b
  if !x.running then
    if x.offCyc = some s.powerCycle then
      raise ((s.setBranch b { x with offCyc := none, lastTrip := kind }).count
        (if kind = 1 then cTripsBreaker else if kind = 2 then cTripsShort else cTripsThermal) b) (srcBranch b 1) 1 kind
    else s
  else
    let locked := x.retriesLeft == 0
    let s := s.setBranch b { x with st := if locked then 4 else 3, lastTrip := kind, tripAt := s.lt, inLimit := false
                                    e := if kind = 1 then 0 else x.e }
    let s := s.count (if kind = 1 then cTripsBreaker else if kind = 2 then cTripsShort else cTripsThermal) b
    raiseIf (raise s (srcBranch b 1) 1 kind) locked (srcBranch b 3) 1 0

/-- BREAKER_TRIP: E has reached I2T (R443). -/
def execBreakerTrip (b : Nat) (s : State) : Res :=
  unit b 8 (if decide ((s.branch b).cfg.i2t * 100000000 ≤ (s.branch b).e) then tripBranch s b 1 else s)

/-- Threshold of the short comparator for positive current, mA (R444). -/
def Branch.shortLimit (x : Branch) : Nat :=
  if x.st = 1 then min (x.cfg.shortI * 100) (x.cfg.rampIlim * 25 / 2) else x.cfg.shortI * 100

/-- The current trips the comparator: above the threshold, or negative and beyond SHORT_I (R433, R444). -/
def Branch.shorted (x : Branch) (i : Int) : Bool := decide ((x.shortLimit : Int) < i) || decide (i < -((x.cfg.shortI * 100 : Nat) : Int))

/-- SHORT_TRIP: the energy V_IN × threshold × 1 µs enters the thermal model (R444). -/
def execShortTrip (b : Nat) (i : Int) (s : State) : Res :=
  unit b 8 (
    let x := s.branch b
    if (x.running || x.offCyc == some s.powerCycle) && x.shorted i then
      let lim := if i < 0 then x.cfg.shortI * 100 else x.shortLimit
      tripBranch (s.setBranch b { x with heat := x.heat + x.vIn * lim * 100000000000 }) b 2
    else s)

/-- THERMAL_TRIP: T_MODEL has reached TEMP_TRIP (R445). -/
def execThermalTrip (b : Nat) (s : State) : Res :=
  unit b 8 (if decide ((s.branch b).cfg.tempTrip ≤ (s.branch b).tModel) then tripBranch s b 3 else s)

/-- RAMP_DONE: V_OUT within 0.5 V of V_IN ends the ramp (R437). -/
def execRampDone (b : Nat) (s : State) : Res :=
  unit b 8 (
    let x := s.branch b
    if x.st == 1 && decide (x.vIn ≤ x.vOut + 500) && decide (x.vOut ≤ x.vIn + 500) then
      raise (s.setBranch b { x with st := 2, onAt := s.lt, inLimit := false }) (srcBranch b 0) 1
        (satNat 0xFFFFFF ((s.lt - x.grantAt) / 10000))
    else s)

/-- The retry interval in ns: max(RETRY_INT, t_on × (1,000 / DUTY − 1)) (R445). -/
def Branch.retryAfter (x : Branch) : Nat :=
  max (x.cfg.retryInt * 500000000) (((x.tripAt - x.grantAt) * (1000 - x.cfg.duty) + x.cfg.duty - 1) / x.cfg.duty)

/-- RETRY_DUE: the interval has passed and T_MODEL is at or below TEMP_REENTRY (R445). -/
def execRetryDue (b : Nat) (s : State) : Res :=
  unit b 8 (
    let x := s.branch b
    if x.st == 3 && !x.supplyHold && decide (x.tripAt + x.retryAfter ≤ s.lt) && decide (x.tModel ≤ x.cfg.tempReentry) then
      startReq s b true
    else s)

/-- Energy delivered by branches while RAMPING over the last 1 s, in 10^-8 mJ (R446). -/
def rampEnergy (s : State) : Nat :=
  sumNat (s.power.br.map (fun e => sumNat ((e.2.rampE.filter (fun r => decide (s.lt < r.1 + 1000000000))).map (fun r => r.2))))

/-- The hub's start slot is open (R447). -/
def slotOpen (s : State) : Bool :=
  !s.power.slotsEn || (s.time.valid && s.work / (s.power.slotLen * 1000) % s.power.slotCount == s.power.slotIndex)

/-- The arbiter may grant a start (R446, R447); in safe halt and rescue station mode every branch is OFF (R450). -/
def mayGrant (s : State) : Bool :=
  decide ((s.power.br.filter (fun e => e.2.st == 1)).length < s.power.k)
    && (s.power.budget == 0 || decide (rampEnergy s < s.power.budget * 100000000)) && slotOpen s && !s.faults.safeHalt && !s.boot.rescue

/-- A request granted: the branch ramps; a retry falls on RETRIES_LEFT (R436, R445, R446). -/
def grantStart (s : State) (b : Nat) : State :=
  let x := s.branch b
  let left := if x.isRetry && x.retriesLeft != 255 then x.retriesLeft - 1 else x.retriesLeft
  let s := s.setBranch b { x with st := 1, startWait := false, isRetry := false, supplyHold := false, grantAt := s.lt, retriesLeft := left }
  let s := s.count cStarts b
  raiseIf (s.countIf x.isRetry cRetriesMade b) x.isRetry (srcBranch b 2) 1 left

/-- START_GRANT: the arbiter grants the oldest waiting request when it may (R446, R447). -/
def execStartGrant (s : State) : Res :=
  match s.power.requests with
  | b :: rest => if mayGrant s then .next (grantStart { s with power := { s.power with requests := rest } } b) else .next s
  | [] => .next s

/-- RETRIES_RESTORE: 60 s in ON without a trip (R445). -/
def execRetriesRestore (b : Nat) (s : State) : Res :=
  unit b 8 (
    let x := s.branch b
    if x.st == 2 && decide (x.onAt + 60000000000 ≤ s.lt) then s.setBranch b { x with retriesLeft := x.cfg.retries } else s)

/-- SUPPLY_LOW: V_IN below 8.5 V for 1 ms (R448). -/
def execSupplyLow (b vin us : Nat) (s : State) : Res :=
  unit b 8 (
    let x := s.branch b
    if !x.supplyLow && decide (vin < 8500) && decide (1000 ≤ us) then
      raise (s.setBranch b { x with supplyLow := true, vIn := vin }) (srcBranch b 5) 1 vin
    else s)

/-- SUPPLY_HOLD: below 6.0 V for 100 µs or above 60.0 V for 50 µs a conducting branch waits without a trip (R448). -/
def execSupplyHold (b vin us : Nat) (s : State) : Res :=
  unit b 8 (
    let x := s.branch b
    let out := (decide (vin < 6000) && decide (100 ≤ us)) || (decide (60000 < vin) && decide (50 ≤ us))
    if x.running && out then
      raise ((s.setBranch b { x with st := 3, supplyHold := true, inLimit := false, vIn := vin }).count cSupplyHolds b) (srcBranch b 6) 1 vin
    else s)

/-- SUPPLY_RESTORED: between 8.5 V and 58.0 V for 10 ms (R448). -/
def execSupplyRestored (b vin us : Nat) (s : State) : Res :=
  unit b 8 (
    let x := s.branch b
    if (x.supplyLow || x.supplyHold) && decide (8500 ≤ vin) && decide (vin ≤ 58000) && decide (10000 ≤ us) then
      let s := s.setBranch b { x with supplyLow := false, supplyHold := false, vIn := vin }
      raise (if x.supplyHold then startReq s b false else s) (srcBranch b 7) 1 vin
    else s)

/-- BACKFEED: 2.0 V or more for 10 ms at an off branch sets it, below 1.0 V for 10 ms clears it (R449). -/
def execBackfeed (b vout us : Nat) (s : State) : Res :=
  unit b 8 (
    let x := s.branch b
    if !x.running && !x.backfeed && decide (2000 ≤ vout) && decide (10000 ≤ us) then
      raise (s.setBranch b { x with backfeed := true, vOut := vout }) (srcBranch b 4) 1 vout
    else if x.backfeed && decide (vout < 1000) && decide (10000 ≤ us) then s.setBranch b { x with backfeed := false, vOut := vout }
    else s)

/-- NTC_FAULT: a fitted NTC reads open or short; the model falls back to sensor 4 until it reads valid again (R442). -/
def execNtcFault (b : Nat) (bad : Bool) (s : State) : Res :=
  unit b 8 (
    let x := s.branch b
    if bad && x.cfg.ntcFitted && !x.ntcFault then raise (s.setBranch b { x with ntcFault := true, tNtc := -32768 }) (srcBranch b 9) 1 0
    else if !bad then s.setBranch b { x with ntcFault := false }
    else s)

/-- The hold of the power die begins: no branch has been rewritten yet (R10, R450). -/
def startHold (s : State) : State :=
  let s := forEach (List.range 8) s (fun b s => s.setBranch b { s.branch b with rewritten := false })
  { s with power := { s.power with holdAt := some s.lt } }

/-- HOLD_OPENED of the branches that a hold has opened, once partition 0 is open again (R450). -/
def reportHold (s : State) : State :=
  if (s.part 0).st = 1 then
    let l := s.power.holdOpened
    forEach l { s with power := { s.power with holdOpened := [] } } (fun b s => raise s (srcBranch b 10) 1 0)
  else s

/-- A conducting branch that was not rewritten is opened (R450). -/
def holdOpen (b : Nat) (s : State) : State :=
  let x := s.branch b
  if x.running && !x.rewritten then
    let s := s.setBranch b { x with st := 0, inLimit := false, isRetry := false }
    { s with power := { s.power with holdOpened := s.power.holdOpened ++ [b] } }
  else s

/-- BRANCH_HOLD_EXPIRY: 50 ms after the hold began (R450). -/
def execBranchHoldExpiry (s : State) : Res :=
  match s.power.holdAt with
  | some t =>
    if s.lt ≥ t + 50000000 then
      let s := forEach (List.range 8) s holdOpen
      .next (reportHold { s with power := { s.power with holdAt := none } })
    else .next s
  | none => .next s

/-- VDD_PWR_FAIL: every gate is pulled down, and every branch is OFF when the power die restarts (R448). -/
def execVddPwrFail (s : State) : Res := .next (allBranchesOff s)

/-- The hub takes a trigger unit that partition 0 owns and that is in MODE 0, or that it holds already (R175). -/
def State.mayTake (s : State) (t : Nat) : Bool := (s.trig t).held || (s.owns 0 13 t && (s.trig t).mode == 0)

/-- The hub takes unit `t` and arms it periodically at an instant in ns (R175, R187, R447). -/
def takeUnit (s : State) (t at_ period : Nat) : State :=
  let s := armUnit s t 2 (at_ / 1000000000) (at_ % 1000000000) period
  s.setTrig t { s.trig t with held := true }

/-- The hub returns unit `t` in MODE 0 (R175). -/
def returnUnit (s : State) (t : Nat) : State := s.setTrig t { s.trig t with held := false, mode := 0, pending := false }

/-- Facts of BRANCH_CFG (R406). -/
def iBranchCfg : CmdInfo :=
  { op := 0x0D00, bytes := [(8, 4), (12, 2), (14, 1), (15, 1), (16, 2), (18, 2), (20, 4), (24, 2), (26, 1), (27, 1), (28, 2), (30, 2), (32, 2)]
    bits := [(15, 1, 1)]
    bulk := .yes, chg := .handle }

/-- The configuration that BRANCH_CFG carries (R406). -/
def brCfgOf (c : Cmd) : BrCfg :=
  { shunt := c.u 12 2, dvdt := c.u 14 1, ntcFitted := c.u 15 1 == 1, rampIlim := c.u 16 2, iNom := c.u 18 2, i2t := c.u 20 4
    shortI := c.u 24 2, retries := c.u 26 1, duty := c.u 27 1, retryInt := c.u 28 2, tempTrip := c.i 30 2, tempReentry := c.i 32 2
    res := [leAt c.bulk 0 4, leAt c.bulk 4 4, leAt c.bulk 8 4], cap := [leAt c.bulk 12 4, leAt c.bulk 16 4, leAt c.bulk 20 4]
    rdson := leAt c.bulk 24 4 }

/-- A temperature threshold lies in −40 °C to 200 °C (R435). -/
def tempOk (t : Int) : Bool := decide (-160 ≤ t) && decide (t ≤ 800)

/-- Ranges and combinations of R435. -/
def BrCfg.ok (x : BrCfg) : Bool :=
  within 500 5000 x.shunt && within 1 100 x.dvdt && within 1 4000 x.rampIlim && within 1 4000 x.iNom && decide (1 ≤ x.i2t)
    && within 10 1000 x.shortI && (decide (x.retries ≤ 15) || x.retries == 255) && within 1 100 x.duty && within 1 128 x.retryInt
    && tempOk x.tempTrip && tempOk x.tempReentry && x.res.all (within 1 100000) && x.cap.all (within 1 1000000)
    && within 100 100000 x.rdson && decide (x.rampIlim * 10 < x.shortI * 100) && decide (x.iNom * 10 < x.shortI * 100)
    && decide (x.tempReentry < x.tempTrip)

/-- BRANCH_CFG (R435, R445). -/
def bodyBranchCfg (c : Cmd) (s : State) : CmdRes :=
  handle s c 8 4 (fun b =>
    chk (decide (c.u 15 1 ≤ 1) && c.len == 32 && (brCfgOf c).ok) stBadParam (
    ownRes s c 4 b (chk c.owned stNotOwner (
    chk ((s.branch b).st == 0) stWrongState (
      okS (s.setBranch b { s.branch b with cfg := brCfgOf c, accepted := true, retriesLeft := (brCfgOf c).retries }))))))
/-- BRANCH_CFG (R406, R435). -/
def execBranchCfg (d : Desc) (s : State) : Res := cmdRow iBranchCfg d bodyBranchCfg s

/-- Facts of BRANCH_SET (R406). -/
def iBranchSet : CmdInfo := { op := 0x0D01, bytes := [(8, 4), (12, 1)], chg := .handle }
/-- BRANCH_SET (R436, R451). -/
def bodyBranchSet (c : Cmd) (s : State) : CmdRes :=
  handle s c 8 4 (fun b =>
    let x := s.branch b
    chk (decide (c.u 12 1 ≤ 1)) stBadParam (
    ownRes s c 4 b (
    chk (c.u 12 1 == 0 || (x.st != 4 && x.accepted)) stWrongState (
      let s := branchRewritten (s.setBranch b { x with cmdCyc := some (s.powerCycle, c.u 12 1 == 1) }) b
      okS (if c.u 12 1 = 0 then branchOff s b else if x.st = 0 then startReq s b false else s)))))
/-- BRANCH_SET (R406, R436). -/
def execBranchSet (d : Desc) (s : State) : Res := cmdRow iBranchSet d bodyBranchSet s

/-- Facts of RETRY_NOW (R406). -/
def iRetryNow : CmdInfo := { op := 0x0D02, bytes := [(8, 4)], chg := .handle }
/-- RETRY_NOW (R445, R451): a request that already waits stays the one request. -/
def bodyRetryNow (c : Cmd) (s : State) : CmdRes :=
  handle s c 8 4 (fun b =>
    let x := s.branch b
    ownRes s c 4 b (chk (x.st == 3 && decide (x.tModel ≤ x.cfg.tempReentry)) stWrongState (okS (startReq s b true))))
/-- RETRY_NOW (R406, R445). -/
def execRetryNow (d : Desc) (s : State) : Res := cmdRow iRetryNow d bodyRetryNow s

/-- Facts of BRANCH_STATUS (R406). -/
def iBranchStatus : CmdInfo := { op := 0x0D03, bytes := [(8, 4)], bulk := .yes }
/-- BRANCH_STATUS (R406, R439). -/
def bodyBranchStatus (c : Cmd) (s : State) : CmdRes :=
  handle s c 8 4 (fun b =>
    let x := s.branch b
    chk (c.len == 0 || c.len == 32) stBadParam (
    readRes s c 4 b (chk c.owned stNotOwner (
      .ok (resOf [(0, 1, x.st), (1, 1, x.lastTrip), (2, 1, x.retriesLeft), (3, 1, b2n x.backfeed), (8, 8, x.energy)])
        (if c.len = 0 then [] else x.record) s))))
/-- BRANCH_STATUS (R406, R439). -/
def execBranchStatus (d : Desc) (s : State) : Res := cmdRow iBranchStatus d bodyBranchStatus s

/-- Facts of INRUSH_CFG (R406). -/
def iInrushCfg : CmdInfo :=
  { op := 0x0D04, p0 := true, bytes := [(8, 1), (12, 4), (16, 4), (20, 2), (22, 2), (24, 1)] }
/-- INRUSH_CFG (R446, R447): takes unit 59 for the slots, or returns it. -/
def bodyInrushCfg (c : Cmd) (s : State) : CmdRes :=
  let len := c.u 16 4
  let en := c.u 24 1 == 1
  chk (within 1 8 (c.u 8 1) && within 100 1000000 len && within 1 250 (c.u 20 2) && decide (c.u 22 2 < c.u 20 2)
      && decide (c.u 24 1 ≤ 1)) stBadParam (
  chk (!en || s.mayTake 59) stBusy (
    let s := { s with power := { s.power with k := c.u 8 1, budget := c.u 12 4, slotLen := len, slotCount := c.u 20 2
                                              slotIndex := c.u 22 2, slotsEn := en } }
    okS (if en then takeUnit s 59 0 (len * 1000) else if (s.trig 59).held then returnUnit s 59 else s)))
/-- INRUSH_CFG (R406, R446, R447). -/
def execInrushCfg (d : Desc) (s : State) : Res := cmdRow iInrushCfg d bodyInrushCfg s

/-- Facts of ENERGY_CLEAR (R406). -/
def iEnergyClear : CmdInfo := { op := 0x0D05, bytes := [(8, 4)], chg := .handle }
/-- ENERGY_CLEAR (R438). -/
def bodyEnergyClear (c : Cmd) (s : State) : CmdRes :=
  handle s c 8 4 (fun b =>
    ownRes s c 4 b (
      .ok (leBytes 8 (s.branch b).energy) [] (s.setBranch b { s.branch b with energy := 0, energyRem := 0 })))
/-- ENERGY_CLEAR (R406, R438). -/
def execEnergyClear (d : Desc) (s : State) : Res := cmdRow iEnergyClear d bodyEnergyClear s

/-- The facts and the body of a command of group 0x0D (R406). -/
def branchRow (op : Nat) : CmdInfo × (Cmd → State → CmdRes) :=
  if op = 0x0D00 then (iBranchCfg, bodyBranchCfg)
  else if op = 0x0D01 then (iBranchSet, bodyBranchSet)
  else if op = 0x0D02 then (iRetryNow, bodyRetryNow)
  else if op = 0x0D03 then (iBranchStatus, bodyBranchStatus)
  else if op = 0x0D04 then (iInrushCfg, bodyInrushCfg)
  else (iEnergyClear, bodyEnergyClear)

/-- What waited for the link to the power die crosses it: items, then commands, oldest first in each partition (R9, R12, R451). -/
def powerLinkUp (s : State) : State :=
  let l := s.power.waiting
  let s := forEach l { s with power := { s.power with waiting := [] } } (fun e s => (branchItem s e.1 e.2).1)
  let s := { s with ctl := { s.ctl with held := s.ctl.held.filter (fun e => e.2 != 9) } }
  forEach (List.range 16) s (fun p s =>
    forEach (s.part p).cmds s (fun a s =>
      if a.begun && a.opcode / 256 == 0x0D then
        match takeFirst (fun b => b == a) (s.part p).cmds with
        | some (a, rest) => let (i, body) := branchRow a.opcode; finishAsync s p i body a rest
        | none => s
      else s))

end Sys2Proof.Machine
end

