-- ==== Sys2Proof/Machine/Cycle.lean ====
section
/-!
DEFINITION. The cycle: its commands, snapshot, input image, publish, deadline and apply, output group and twin set commands, image
subscriptions, and space 2 (R184 to R215, R400).
-/
namespace Sys2Proof.Machine

/-- The cycle written. -/
def State.setCycle (s : State) (x : Cycle) : State := { s with cycle := x }

/-- First n from `lo` on that is a cycle of period `k` and phase `ph` (R197, R206). -/
def firstOf (k ph lo : Nat) : Nat := lo + (ph + k - lo % k) % k

/-- The next cycle to run (R188). -/
def Cycle.next (c : Cycle) : Nat := c.startN.getD (c.last + 1)

/-- Facts of CYCLE_START (R400). -/
def iCycleStart : CmdInfo :=
  { op := 0x0800, p0 := true, bytes := [(8, 4), (12, 4), (16, 8), (24, 4), (28, 4), (32, 4)] }

/-- The parameters that CYCLE_START carries; PUB_OFF 0 selects 8,000 ns (R184, R400). -/
def cycleCfgOf (c : Cmd) : CycleCfg :=
  { t := c.u 8 4, base := c.u 16 8 * 1000000000 + c.u 12 4, pubOff := if c.u 24 4 = 0 then 8000 else c.u 24 4, dlOff := c.u 28 4
    apOff := c.u 32 4 }

/-- Ranges of R184. -/
def CycleCfg.ok (x : CycleCfg) : Bool :=
  within 31250 1000000000 x.t && x.t % 250 == 0 && within 8000 (x.t - 1000) x.pubOff && within (x.pubOff + 1000) (16 * x.t) x.dlOff
    && within (x.dlOff + 5000) (16 * x.t) x.apOff

/-- Units 60 to 63 taken but not yet armed: the cycle waits for VALID (R187, R188). -/
def holdUnits (s : State) : State :=
  forEach (cycleUnits s.cycle.cfg) s (fun e s =>
    s.setTrig e.1 { s.trig e.1 with held := true, mode := 2, period := s.cycle.cfg.t, pending := false })

/-- CYCLE_START (R187, R188): the units run from the first cycle's instants on (log 68); with VALID 0 the first n is not known, and a
free value is reported (log 5). -/
def bodyCycleStart (c : Cmd) (s : State) : CmdRes :=
  let x := cycleCfgOf c
  chk (x.ok && decide (c.u 12 4 < 1000000000) && decide (c.u 16 8 < 2 ^ 48)) stBadParam (
  chk (!s.cycle.running) stWrongState (
  chk ((cycleUnits x).all (fun e => s.mayTake e.1)) stBusy (
    let y := { s.cycle with cfg := x }
    let n := y.firstAt (s.work + 1000000)
    let s := s.setCycle { y with
      running := true, begun := false, startN := some n, first := n, stopAt := none, last := n - 1, toPublish := [], toDeadline := []
      toApply := [], image := { y.image with pendMaps := y.image.pendMaps.map (fun m => (m.1, m.2.1, 0)) } }
    let s := crushStart s
    let s := if s.time.valid then armCycle s n else holdUnits s
    if s.time.valid then .ok (leBytes 8 n) [] s
    else
      let (r, s) := s.draw
      .ok (leBytes 8 r.toNat) [] s)))
/-- CYCLE_START (R188, R400). -/
def execCycleStart (d : Desc) (s : State) : Res := cmdRow iCycleStart d bodyCycleStart s

/-- Facts of CYCLE_STOP (R400). -/
def iCycleStop : CmdInfo := { op := 0x0801, p0 := true }
/-- CYCLE_STOP (R188): it ends at the next S_n. -/
def bodyCycleStop (_c : Cmd) (s : State) : CmdRes :=
  chk s.cycle.running stWrongState (
    let n := s.cycle.stopAt.getD s.cycle.next
    .ok (leBytes 8 n) [] (s.setCycle { s.cycle with stopAt := some n }))
/-- CYCLE_STOP (R188, R400). -/
def execCycleStop (d : Desc) (s : State) : Res := cmdRow iCycleStop d bodyCycleStop s

/-- The cycle ends: groups hold, staged data is discarded, the units return, and a segment that still waits for its launch is dropped
(R175, R188, R194). -/
def endCycle (s : State) : State :=
  let s := flushReq s qImageTx
  let s := forEach [63, 62, 61, 60] s (fun t s => returnUnit s t)
  let s := s.setCycle { s.cycle with
    running := false, begun := false, startN := none, stopAt := none, toPublish := [], toDeadline := [], toApply := [], stages := []
    image := { s.cycle.image with work := none, built := 0 } }
  forEach (s.cycle.groups.map Prod.fst) s (fun g s =>
    s.setGroup g { s.group g with pending := [], resigns := [], shadows := [], decided := [] })

/-- Class of the resource that an image map entry's KIND names, and its bytes (R190). -/
def mapKind : Nat → Option (Nat × Nat)
  | 1 => some (3, 2)
  | 2 => some (3, 4)
  | 3 => some (14, 16)
  | 4 => some (2, 4)
  | 5 => some (2, 4)
  | 6 => some (11, 8)
  | 7 => some (4, 32)
  | 8 => some (7, 8)
  | _ => none

/-- Bytes that an image map entry covers (R190). -/
def MapEnt.size (e : MapEnt) : Nat := ((mapKind e.kind).map Prod.snd).getD 0

/-- An image map entry is in range: a local resource of the right class, within the image (R190). -/
def MapEnt.ok (s : State) (p size : Nat) (e : MapEnt) : Bool :=
  match mapKind e.kind, localRes s p e.handle with
  | some (cls, n), some (k, i) => k == cls && decide (e.off + n ≤ size) && (e.kind != 1 || i % 16 == 0)
  | _, _ => false

/-- No two entries of an image map overlap (R190). -/
def mapDisjoint : List MapEnt → Bool
  | [] => true
  | e :: r => r.all (fun f => decide (e.off + e.size ≤ f.off) || decide (f.off + f.size ≤ e.off)) && mapDisjoint r

/-- Entries of a bulk, `k` bytes each. -/
def entriesOf {α : Type} (b : List Byte) (k n : Nat) (f : List Byte → α) : List α := (List.range n).map (fun i => f (bytesAt b (k * i) k))

/-- Facts of IMAGE_MAP_SET (R400). -/
def iImageMapSet : CmdInfo := { op := 0x0802, p0 := true, bytes := [(8, 2), (10, 2)], bulk := .yes }
/-- IMAGE_MAP_SET (R190): in force at the first S_n at least 100 µs ahead; with no cycle running, at the first cycle run. -/
def bodyImageMapSet (c : Cmd) (s : State) : CmdRes :=
  let size := c.u 8 2
  let n := c.u 10 2
  let l := entriesOf c.bulk 8 n (fun b => ({ kind := leAt b 0 1, sub := leAt b 1 1, off := leAt b 2 2, handle := leAt b 4 4 } : MapEnt))
  chk (decide (size ≤ 16128) && decide (n ≤ 1024) && c.len == 8 * n && l.all (MapEnt.ok s c.p size) && mapDisjoint l) stBadParam (
  chk c.owned stNotOwner (
    let y := s.cycle
    let at_ := if y.running then max y.next (y.firstAt (s.work + 100000)) else 0
    .ok (leBytes 8 at_) [] (s.setCycle { y with
      image := { y.image with pendMaps := y.image.pendMaps.filter (fun m => decide (m.2.2 < at_)) ++ [(l, size, at_)] } })))
/-- IMAGE_MAP_SET (R190, R400). -/
def execImageMapSet (d : Desc) (s : State) : Res := cmdRow iImageMapSet d bodyImageMapSet s

/-- Facts of SEG_CFG (R400). -/
def iSegCfg : CmdInfo := { op := 0x0803, p0 := true, bytes := [(8, 1), (9, 1), (10, 2)] }
/-- SEG_CFG (R193). -/
def bodySegCfg (c : Cmd) (s : State) : CmdRes :=
  let k := c.u 8 1
  let y := s.cycle
  chk (decide (k < 16) && decide (c.u 9 1 ≤ 1)) stBadParam (
    okS (s.setCycle { y with
      image := { y.image with publish := putBit y.image.publish k (c.u 9 1 == 1), readers := listSet y.image.readers k (c.u 10 2) } }))
/-- SEG_CFG (R193, R400). -/
def execSegCfg (d : Desc) (s : State) : Res := cmdRow iSegCfg d bodySegCfg s

/-- Facts of IMAGE_SUB (R400). -/
def iImageSub : CmdInfo := { op := 0x0804, bytes := [(8, 2), (10, 2), (16, 32)], chg := .queue }
/-- IMAGE_SUB (R105, R195): a subscription is kept per queue. -/
def bodyImageSub (c : Cmd) (s : State) : CmdRes :=
  let q := c.u 8 2
  let segs := c.u 10 2
  let nodes := c.u 16 32
  let y := s.cycle
  let rest := y.image.subs.filter (fun e => e.queue != q)
  let put := fun (s : State) (l : List ImageSub) => s.setCycle { s.cycle with image := { s.cycle.image with subs := l } }
  chk (decide (q < 4096)) stBadParam (ownRes s c 5 q (
    let mine := (s.queue q).prod == .image c.p
    if segs = 0 ∧ nodes = 0 then okS (put (if mine then bindProd s q .none else s) rest)
    else chkSt (if mine then stOk else prodBindStatus s q (.image c.p)) (
      okS (put (bindProd s q (.image c.p)) (rest ++ [{ part := c.p, queue := q, nodes := nodes, segs := segs }])))))
/-- IMAGE_SUB (R195, R400). -/
def execImageSub (d : Desc) (s : State) : Res := cmdRow iImageSub d bodyImageSub s

/-- The 32-byte status record of an output group (R204). -/
def OutGroup.record (x : OutGroup) : List Byte :=
  leBytes 1 x.accNode ++ leBytes 1 (x.accPart % 16) ++ leBytes 2 x.accTally ++ leBytes 4 x.epoch ++ leBytes 8 x.lastApplied
    ++ leBytes 2 (satNat 0xFFFF x.unheard) ++ leBytes 2 (satNat 0xFFFF x.held) ++ leBytes 1 x.st
    ++ leBytes 1 (b2n x.diverged + 2 * b2n x.itemFail) ++ zeros 2 ++ leBytes 4 x.lastShadow ++ zeros 4

/-- The value that an image map entry latches (R190). -/
def latchOf (s : State) (e : MapEnt) : List Byte :=
  let i := e.handle % 65536
  if e.kind = 1 then leBytes 2 (bankMask (i / 16) (fun p => (s.pin p).filt))
  else if e.kind = 2 then leBytes 4 (s.pin i).count
  else if e.kind = 3 then fitBytes 16 (s.capt i).last
  else if e.kind = 4 then leBytes 4 (s.hewer i).u.toNat
  else if e.kind = 5 then leBytes 4 (s.hewer i).v.toNat
  else if e.kind = 6 then
    (match (s.map i).signals[e.sub]? with
    | some g => leBytes 8 (recordOf g.rawCopy g.latchedSt g.latched)
    | none => leBytes 8 (recordOf false 2 0))
  else if e.kind = 7 then s.branchRecord i ((s.cycle.image.work.map (fun w => w.cycle)).getD s.cycle.last)
  else (s.group i).record.take 8

/-- The image of the entries of a map that satisfy `f`, put over `b` (R190). -/
def latchInto (s : State) (m : List MapEnt) (f : MapEnt → Bool) (b : List Byte) : List Byte :=
  (m.filter f).foldl (fun b e => putBytes b e.off (latchOf s e)) b

/-- The accepted maps that take effect at cycle `n` (R190). -/
def takeMaps (s : State) (n : Nat) : State :=
  let i := s.cycle.image
  let due := i.pendMaps.filter (fun m => decide (m.2.2 ≤ n))
  match due.getLast? with
  | some m => s.setCycle { s.cycle with image := { i with
      map := m.1, size := m.2.1, pendMaps := i.pendMaps.filter (fun m => decide (n < m.2.2)) } }
  | none => s

/-- The snapshot of cycle `n` (R185, R187, R189, R190): sources latched, twin roles taken, the crusher's cycle work begun. -/
def snapshotAt (s : State) (n : Nat) : State :=
  let y := s.cycle
  let s := takeMaps (s.setCycle { y with
    last := n, begun := true, startN := none, toPublish := y.toPublish ++ [n], toDeadline := y.toDeadline ++ [n], toApply := y.toApply ++ [n] }) n
  let i := s.cycle.image
  let b := latchInto s i.map (fun e => e.kind != 6 && e.kind != 7) (zeros i.size)
  let s := s.setCycle { s.cycle with image := { i with
    work := some { cycle := n, snap := s.stamp (s.cycle.snap n), size := i.size, data := b }, built := 0 } }
  crushSnapshot (twinSnapshot s n) n

/-- SNAPSHOT: the next S_n is reached; an accepted CYCLE_STOP ends the cycle there; with VALID 0 nothing is latched (R185, R188). -/
def execSnapshot (s : State) : Res :=
  let y := s.cycle
  let n := y.next
  if !y.running || decide (s.work < y.snap n) then .next s
  else if y.stopAt.isSome && decide (y.stopAt.getD 0 ≤ n) then .next (endCycle s)
  else if !s.time.valid then .next s
  else .next (snapshotAt (drillTimeouts s) n)

/-- Segments that an image of this size has (R191). -/
def segCount (size : Nat) : Nat := (size + 1007) / 1008

/-- The IMAGE_IN frame of segment `k` of an image (R194). -/
def imageFrame (s : State) (w : ImageBuf) (k : Nat) : Frame :=
  let d := beBytes 16 w.snap ++ (w.data.drop (k * 1008)).take 1008
  let a : RingAddr := { node := s.ring.node, part := 0, space := 2, off := 0x100 + k * 1008 }
  grtFrameOf s (macAll s.ring.ringId) (hdrOf s tImageIn 0 a 0 d.length (imageInfo w.cycle k 0)) d

/-- The segments that an image of `size` bytes publishes: with no data, one frame without any (R193, R194). -/
def Image.published (i : Image) (size : Nat) : List Nat :=
  if size = 0 then [0] else (List.range (segCount size)).filter (fun k => bitAt i.publish k)

/-- Service firmware commits the published segments to their queue, where unit 62 gives them their launch time: only before P_n (R194),
and not from a hub that originates no frames (R31, R61). -/
def commitImage (s : State) (w : ImageBuf) : State :=
  if !s.firmwareRuns || !s.sends qImageTx || s.passThrough || decide (s.work ≥ s.cycle.pub w.cycle) then s
  else forEach (s.cycle.image.published w.size) s (fun k s =>
    match offerFrame s qImageTx (imageFrame s w k) (s.ring.classOf tImageIn) none with
    | (s, ok) => if ok then s.setCycle { s.cycle with image := { s.cycle.image with built := putBit s.cycle.image.built k true } } else s)

/-- IMAGE_ASSEMBLED: the crusher's values enter the image, the view switches whole, the node's own segments reach the crusher, and
firmware commits the published ones (R187, R192 to R194, R250, R263). -/
def execImageAssembled (s : State) : Res :=
  match s.cycle.image.work with
  | none => .next s
  | some w =>
    let s := crushAssembled s w.cycle
    let i := s.cycle.image
    let w := { w with data := latchInto s i.map (fun e => e.kind == 6 || e.kind == 7) w.data }
    let s := s.setCycle { s.cycle with image := { i with view := w, work := none, built := 0 } }
    let s := commitImage s w
    .next (forEach (List.range (segCount w.size)) s (fun k s =>
      crushAdd s { kind := 2, unit := 0, segment := k, cycle := w.cycle + 1, payload := (w.data.drop (k * 1008)).take 1008 }))

/-- The publish instant of cycle `n` (R194): unit 62 launches what was committed; a segment that was not is counted. -/
def publishAt (s : State) (n : Nat) : State :=
  let i := s.cycle.image
  let v := i.view
  let ready := v.cycle == n && i.work.isNone
  let segs := i.published (if ready then v.size else i.size)
  let go := if ready then segs.filter (fun k => bitAt i.built k) else []
  let s := s.count cImageNotBuilt 0 (segs.length - go.length)
  if ready then s.setCycle { s.cycle with image := { s.cycle.image with view := { v with segOk := listMask go }, built := 0 } } else s

/-- PUBLISH: P_n is reached (R185, R188, R194). -/
def execPublish (s : State) : Res :=
  let y := s.cycle
  match y.toPublish with
  | n :: rest =>
    if !y.running || decide (s.work < y.pub n) then .next s
    else
      let s := s.setCycle { y with toPublish := rest }
      .next (if s.time.valid then publishAt s n else s)
  | [] => .next s

/-- DEADLINE: D_n is reached; every group and twin set is evaluated (R185, R202, R208); drills that time out are settled first. -/
def execDeadline (s : State) : Res :=
  let y := s.cycle
  match y.toDeadline with
  | n :: rest =>
    if !y.running || decide (s.work < y.dl n) then .next s
    else
      let s := s.setCycle { y with toDeadline := rest }
      let s := forEach (s.cycle.groups.map Prod.fst) (crushDeadline (drillTimeouts s) n) (fun g s => groupDeadline s g n)
      .next (twinDeadline s n)
  | [] => .next s

/-- The frame of a CAN_TX item's data (R198, R226). -/
def itemFrame (d : List Byte) : CanFrame :=
  let f : CanFrame := { idWord := leAt d 0 4, dlc := leAt d 4 1 % 16, data := d.drop 8 }
  { f with data := fitBytes (canLen f) f.data }

/-- A pin item acts on pin `p`; false when a running hewer holds it (R199, R272). -/
def pinItem (s : State) (p : Nat) (lvl dir : Bool) : State × Bool :=
  if s.hewerHeld p then (s, false) else (drivePin s 0 p lvl dir, true)

/-- One item acts with its data at apply instant `at_`; false when its resource cannot act (R198, R199). -/
def actItem (s : State) (e : Item) (d : List Byte) (at_ : Nat) : State × Bool :=
  let i := e.handle % 65536
  let v := leNat d
  if e.kind = 1 then pinItem s i (bitAt v 0) (bitAt v 1)
  else if e.kind = 2 then
    (List.range 16).foldl (fun a k =>
      if bitAt v k then
        let (s, ok) := pinItem a.1 (i + k) (bitAt v (16 + k)) true
        (s, a.2 && ok)
      else a) (s, true)
  else if e.kind = 3 ∨ e.kind = 4 then
    if (s.hewer i).st = 0 then (s, false) else (extWrite s i (e.kind == 4) (w32 v), true)
  else if e.kind = 5 then
    let q := (s.hewer i).cfg.txQueue
    if (s.hewer i).st = 0 ∨ q = 0xFFFF then (s, false) else putPacket s q d 0 false
  else if e.kind = 6 then
    if !bitAt v 40 then (s, true)
    else if (s.chan i).cfg.accepts (itemFrame d) then timedPut s i (itemFrame d) at_ false
    else (s.count cTxBadDesc i, false)
  else branchItem s i (bitAt v 0)

/-- Every item of group `g` acts from one record (R199): skipped items are counted, and the first raises ITEM_FAIL. -/
def applyRecord (s : State) (g : Nat) (b : List Byte) (at_ : Nat) : State :=
  let (s, skipped) := (s.group g).items.foldl (fun (a : State × Nat) e =>
    let (s, ok) := actItem a.1 e (bytesAt (fitBytes 256 b) e.doff e.dlen) at_
    (s, if ok then a.2 else a.2 + 1)) (s, 0)
  let x := s.group g
  let s := s.count cItemSkipped g skipped
  raiseIf (s.setGroup g { x with itemFail := decide (0 < skipped) }) (decide (0 < skipped) && !x.itemFail) (srcGroup g) 6 0

/-- The apply instant of one group in one of its cycles (R199, R202, R212). -/
def groupApply (s : State) (g n : Nat) : State :=
  let x := s.group g
  if !s.groupLive g || !ofCycle x.k x.phase n || decide (s.cycle.dl n < x.beginAt) then s
  else
    let r := if x.decided.contains n then x.pending.find? (fun r => r.n == n) else none
    let x := { x with pending := x.pending.filter (fun r => decide (n < r.n)), decided := x.decided.filter (fun k => decide (n < k)) }
    let s := s.setGroup g x
    match r with
    | some r =>
      let s := applyRecord s g r.data (s.cycle.ap n)
      (s.setGroup g { s.group g with lastApplied := n, held := 0, st := 2 }).count cApplied g
    | none =>
      if x.holdEn && decide (x.holdCycles ≤ x.held) && x.st != 4 then
        let s := applyRecord s g x.safe (s.cycle.ap n)
        raise (s.setGroup g { s.group g with st := 4 }) (srcGroup g) 5 0
      else
        (s.setGroup g { x with held := satNat 0xFFFF (x.held + 1), st := if x.st = 2 then 3 else x.st }).count cHeldCycles g

/-- APPLY: A_n is reached (R185, R188, R199). -/
def execApply (s : State) : Res :=
  let y := s.cycle
  match y.toApply with
  | n :: rest =>
    if !y.running || decide (s.work < y.ap n) then .next s
    else
      let s := s.setCycle { y with toApply := rest }
      if s.time.valid then
        .next (forEach (s.cycle.groups.map Prod.fst) s (fun g s => groupApply s g n))
      else .next s
  | [] => .next s

/-- The packet of a delivered image segment (R195). -/
def imagePacket (node seg late n snap : Nat) (d : List Byte) : List Byte :=
  leBytes 1 node ++ leBytes 1 seg ++ leBytes 2 late ++ leBytes 4 n ++ leBytes 16 snap ++ d

/-- IMAGE_IN: a segment of another node: off-cycle ones are counted, others delivered to the subscriptions and to the crusher (R195). -/
def imageInBody (f : GrtFrame) (s : State) : State :=
  let node := f.hdr.srcNode
  let seg := infoAt f.hdr 20 2
  let low := infoAt f.hdr 16 4
  let y := s.cycle
  let n := if y.running then fullCycle s.cycleNow low else low
  let i := y.image
  if f.payload.length < 16 ∨ 16 ≤ seg then s.count cGrtMalformed 0
  else if y.running && (decide (n + 16 < s.cycleNow) || decide (s.cycleNow + 1 < n)) then
    raiseIf ((s.setCycle { y with image := { i with offRaised := if i.offRaised.contains node then i.offRaised else i.offRaised ++ [node] } }).count
      cImageOffCycle 0) (!i.offRaised.contains node) (srcDiag 334) 2 node
  else
    let s := s.setCycle { y with image := { i with offRaised := i.offRaised.filter (· != node) } }
    let late := y.running && decide (y.dl n < s.work)
    let d := f.payload.drop 16
    let k := imagePacket node seg (b2n late) n (beAt f.payload 0 16) d
    let s := forEach (i.subs.filter (fun e => bitAt e.nodes node && bitAt e.segs seg)) s (fun e s => (putPacket s e.queue k 0 false).1)
    crushAdd s { kind := 2, unit := node, segment := seg, cycle := n + 1, payload := d }
/-- IMAGE_IN (R195). -/
def execImageIn (f : GrtFrame) (s : State) : Res := .next (grtServe s tImageIn f (imageInBody f))

/-- Class and least and greatest DLEN of an item KIND (R198). -/
def itemKind : Nat → Option (Nat × Nat × Nat)
  | 1 => some (3, 1, 1)
  | 2 => some (3, 4, 4)
  | 3 => some (2, 4, 4)
  | 4 => some (2, 4, 4)
  | 5 => some (2, 4, 64)
  | 6 => some (1, 8, 72)
  | 7 => some (4, 1, 1)
  | _ => none

/-- The resources that an item drives (R198): the three resources of a hewer are numbered 20 to 22. -/
def itemKeys (e : Item) : List (Nat × Nat) :=
  let i := e.handle % 65536
  if e.kind = 1 then [(3, i)] else if e.kind = 2 then (List.range 16).map (fun k => (3, i + k))
  else if e.kind = 3 then [(20, i)] else if e.kind = 4 then [(21, i)] else if e.kind = 5 then [(22, i)]
  else if e.kind = 6 then [(1, i)] else [(4, i)]

/-- Resources that items of the enabled groups other than `g` drive (R198, R337). -/
def State.driven (s : State) (g : Nat) : List (Nat × Nat) :=
  s.cycle.groups.flatMap (fun e => if e.1 != g && e.2.enable then e.2.items.flatMap itemKeys else [])

/-- An item is in range: a local resource of its class, DLEN as its KIND gives it, within LEN (R198). -/
def Item.ok (s : State) (p len : Nat) (e : Item) : Bool :=
  match itemKind e.kind, localRes s p e.handle with
  | some (cls, lo, hi), some (k, i) =>
    k == cls && within lo hi e.dlen && (e.kind != 5 || e.dlen % 4 == 0) && decide (e.doff + e.dlen ≤ len) && (e.kind != 2 || i % 16 == 0)
  | _, _ => false

/-- Items whose keys repeat (R198). -/
def itemsClash : List Item → List (Nat × Nat) → Bool
  | [], _ => false
  | e :: r, l => (itemKeys e).any (fun k => l.contains k) || itemsClash r (itemKeys e ++ l)

/-- The issuer owns everything an item drives (R198). -/
def Item.owned (s : State) (p : Nat) (e : Item) : Bool :=
  match itemKind e.kind with
  | some (cls, _, _) => (itemKeys e).all (fun k => s.owns p cls k.2)
  | none => false

/-- A group starts enabled: no accepted source, first cycle at least 10 µs ahead of its D_n (R197). -/
def startGroup (s : State) (x : OutGroup) : OutGroup :=
  { x with enable := true, beginAt := s.work + 10000, accNode := 0, accPart := 0, accTally := 0, epoch := 0, unheard := 0, held := 0
           st := 1, pending := [], resigns := [], shadows := [], decided := [], diverged := false, itemFail := false }

/-- The first group cycle of an enabled group, of the cycles whose D is still to come; 0 while no cycle runs (R197, R400). -/
def firstGroupCycle (s : State) (x : OutGroup) : Nat :=
  let y := s.cycle
  if !y.running ∨ y.cfg.t = 0 then 0
  else
    let lo := if x.beginAt ≤ y.cfg.base + y.cfg.dlOff then 0 else (x.beginAt - (y.cfg.base + y.cfg.dlOff) + y.cfg.t - 1) / y.cfg.t
    (y.toDeadline.find? (fun n => decide (lo ≤ n) && n % x.k == x.phase)).getD (firstOf x.k x.phase (max lo (max y.next y.first)))

/-- Facts of GROUP_SET (R400). -/
def iGroupSet : CmdInfo := { op := 0x0805, bytes := [(8, 4)], bulk := .yes, chg := .handle }
/-- GROUP_SET (R197, R198): LEASE 0 and WRITERS 0 take their defaults; a changed LEN brings back the default safe record. -/
def bodyGroupSet (c : Cmd) (s : State) : CmdRes :=
  handle s c 8 7 (fun g =>
    let b := c.bulk
    let x := s.group g
    let ctrl := leAt b 0 1
    let n := leAt b 1 1
    let len := leAt b 2 2
    let k := leAt b 4 2
    let lease := if leAt b 8 1 = 0 then 3 else leAt b 8 1
    let writers := if leAt b 12 2 = 0 then 2 ^ c.p else leAt b 12 2
    let items := entriesOf (b.drop 32) 8 n (fun e =>
      ({ kind := leAt e 0 1, doff := leAt e 1 1, dlen := leAt e 2 1, handle := leAt e 4 4 } : Item))
    chk (within 1 32 n && c.len == 32 + 8 * n && within 1 256 len && within 1 1024 k && decide (leAt b 6 2 < k) && decide (2 ≤ lease)
        && (!bitAt ctrl 2 || decide (1 ≤ leAt b 10 2)) && items.all (Item.ok s c.p len) && !itemsClash items (s.driven g)) stBadParam (
    ownRes s c 7 g (chk (c.owned && items.all (Item.owned s c.p)) stNotOwner (
    chk (!x.enable) stWrongState (
      let y := { x with shadowExpect := bitAt ctrl 1, holdEn := bitAt ctrl 2, len := len, k := k, phase := leAt b 6 2, lease := lease
                        holdCycles := leAt b 10 2, writers := writers, items := items
                        safe := if len = x.len then x.safe else [] }
      okS (s.setGroup g (if bitAt ctrl 0 then startGroup s y else y)))))))
/-- GROUP_SET (R197, R400). -/
def execGroupSet (d : Desc) (s : State) : Res := cmdRow iGroupSet d bodyGroupSet s

/-- Facts of GROUP_ENABLE (R400). -/
def iGroupEnable : CmdInfo := { op := 0x0806, bytes := [(8, 4), (12, 1)], chg := .handle }
/-- GROUP_ENABLE (R197, R198, R212): a group never written cannot be enabled, nor one whose items another enabled group drives. -/
def bodyGroupEnable (c : Cmd) (s : State) : CmdRes :=
  handle s c 8 7 (fun g =>
    let x := s.group g
    let on := c.u 12 1 == 1
    chk (decide (c.u 12 1 ≤ 1) && (!on || x.enable || !itemsClash x.items (s.driven g))) stBadParam (
    ownRes s c 7 g (chk (!on || !x.items.isEmpty) stWrongState (
      let y := if !on then { x with enable := false, st := 0, pending := [], resigns := [], shadows := [], decided := [] }
               else if x.enable then x else startGroup s x
      .ok (leBytes 8 (if on then firstGroupCycle s y else 0)) [] (s.setGroup g y)))))
/-- GROUP_ENABLE (R197, R400). -/
def execGroupEnable (d : Desc) (s : State) : Res := cmdRow iGroupEnable d bodyGroupEnable s

/-- Facts of GROUP_SAFE_SET (R400). -/
def iGroupSafeSet : CmdInfo := { op := 0x0807, bytes := [(8, 4)], bulk := .yes, chg := .handle }
/-- GROUP_SAFE_SET (R212): a group never written has no LEN. -/
def bodyGroupSafeSet (c : Cmd) (s : State) : CmdRes :=
  handle s c 8 7 (fun g =>
    let x := s.group g
    chk (x.len != 0 && c.len == x.len) stBadParam (ownRes s c 7 g (chk c.owned stNotOwner (
      okS (s.setGroup g { x with safe := c.bulk.take x.len })))))
/-- GROUP_SAFE_SET (R212, R400). -/
def execGroupSafeSet (d : Desc) (s : State) : Res := cmdRow iGroupSafeSet d bodyGroupSafeSet s

/-- Facts of GROUP_STATUS (R400). -/
def iGroupStatus : CmdInfo := { op := 0x0808, bytes := [(8, 4)], bulk := .yes }
/-- GROUP_STATUS (R204). -/
def bodyGroupStatus (c : Cmd) (s : State) : CmdRes :=
  handle s c 8 7 (fun g =>
    let r := (s.group g).record
    chk (c.len == 0 || c.len == 32) stBadParam (readRes s c 7 g (chk c.owned stNotOwner (
      .ok (r.take 24) (if c.len = 0 then [] else r) s))))
/-- GROUP_STATUS (R204, R400). -/
def execGroupStatus (d : Desc) (s : State) : Res := cmdRow iGroupStatus d bodyGroupStatus s

/-- The set that a command's SET byte names, and its issuer owns it; a free set is no one's (R400). -/
def ownSet (s : State) (c : Cmd) (f : Nat → CmdRes) : CmdRes :=
  let t := c.u 8 1
  chk (decide (t < 16)) stBadParam (
    chk ((s.twin t).defined && (s.twin t).owner == c.p) stNotOwner (f t))

/-- A group pair of a set: a node of the ring and a group; a local one shares K and PHASE (R206). -/
def pairFits (s : State) (k ph : Nat) (e : Nat × Nat) : Bool :=
  decide (e.1 ≤ 250) && decide (e.2 < 512)
    && (!s.isLocal e.1 || ((s.group e.2).k == k && (s.group e.2).phase == ph))

/-- A map of a set: sources from input image segments only, KIND 2 templates on CYCLE for groups of the set (R264). -/
def mapFits (s : State) (groups : List (Nat × Nat)) (m : Nat) : Bool :=
  let x := s.map m
  decide (m < 256) && x.sources.all (fun e => e.kind == 2)
    && x.tpls.all (fun t => t.kind != 2 || (t.trigger == 1 && groupIn s groups t.handle))

/-- Maps of set `t` marked, or the marks taken away (R264). -/
def markMaps (s : State) (l : List Nat) (v : Option Nat) : State := forEach l s (fun m s => s.setMap m { s.map m with twin := v })

/-- Facts of TWIN_SET (R400). -/
def iTwinSet : CmdInfo :=
  { op := 0x0809, bytes := [(8, 1), (9, 1), (10, 1), (11, 1), (12, 2), (14, 2), (16, 2), (18, 2), (20, 2)], bulk := .yes, chg := .twinSet }
/-- TWIN_SET (R206, R264). -/
def bodyTwinSet (c : Cmd) (s : State) : CmdRes :=
  let t := c.u 8 1
  let x := s.twin t
  let ng := c.u 18 2
  let nm := c.u 20 2
  let k := c.u 14 2
  let ph := c.u 16 2
  let l := entriesOf c.bulk 4 ng (fun b => (leAt b 0 1, leAt b 2 2))
  let maps := entriesOf (c.bulk.drop (4 * ng)) 2 nm (fun b => leAt b 0 2)
  let free := chk (!x.defined || x.owner == c.p) stNotOwner
  if 16 ≤ t ∨ c.len ≠ 4 * ng + 2 * nm ∨ 512 < ng ∨ 256 < nm then .fail stBadParam
  else if ng = 0 then
    chk (nm == 0) stBadParam (free (chk (!x.enable) stWrongState (
      .ok (leBytes 4 0) [] ((markMaps s x.maps none).setTwin t {}))))
  else
    chk (within 1 250 (c.u 9 1) && decide (c.u 10 1 ≤ 1) && within 2 255 (c.u 11 1) && within 1 65534 (c.u 12 2) && within 1 1024 k
        && decide (ph < k) && l.all (pairFits s k ph) && maps.all (mapFits s l)) stBadParam (
    free (chk (c.owned && l.all (fun e => !s.isLocal e.1 || s.owns c.p 7 e.2) && maps.all (fun m => s.owns c.p 11 m)) stNotOwner (
    chk (!x.enable) stWrongState (
      let y : TwinSet := { defined := true, partner := c.u 9 1, prefActive := c.u 10 1 == 0, lease := c.u 11 1, tally := c.u 12 2, k := k
                           phase := ph, groups := l, maps := maps, owner := c.p }
      .ok (leBytes 4 (s.setDigest y)) [] ((markMaps (markMaps s x.maps none) maps (some t)).setTwin t y)))))
/-- TWIN_SET (R206, R400). -/
def execTwinSet (d : Desc) (s : State) : Res := cmdRow iTwinSet d bodyTwinSet s

/-- Facts of TWIN_ENABLE (R400). -/
def iTwinEnable : CmdInfo := { op := 0x080A, bytes := [(8, 1), (9, 1)], chg := .twinSet }
/-- TWIN_ENABLE (R206, R210): an enabled set listens; after a last gasp it waits for TWIN_REARM. -/
def bodyTwinEnable (c : Cmd) (s : State) : CmdRes :=
  chk (decide (c.u 9 1 ≤ 1)) stBadParam (ownSet s c (fun t =>
    let x := s.twin t
    if c.u 9 1 = 0 then okS (s.setTwin t { x with enable := false, role := 0, nextRole := none, drillAt := none })
    else if x.enable then okS s
    else okS (s.setTwin t { x with
      enable := true, role := if s.cycle.needRearm then 4 else 1, useTally := 0, heardTally := 0, lastTally := 0, heardIn := []
      partnerSeen := false, silent := 0, listen := 0, nextRole := none, drillAt := none })))
/-- TWIN_ENABLE (R206, R400). -/
def execTwinEnable (d : Desc) (s : State) : Res := cmdRow iTwinEnable d bodyTwinEnable s

/-- Facts of TWIN_REARM (R400). -/
def iTwinRearm : CmdInfo := { op := 0x080B, bytes := [(8, 1)] }
/-- TWIN_REARM (R210): by partition 0 or the set's owner; a set that is armed again listens first, as the worked example of R216 has it. -/
def bodyTwinRearm (c : Cmd) (s : State) : CmdRes :=
  let t := c.u 8 1
  let may := fun t => c.p == 0 || ((s.twin t).defined && (s.twin t).owner == c.p)
  chk (decide (t < 16) || t == 0xFF) stBadParam (
  chk (t == 0xFF || may t) stNotOwner (
  chk s.cycle.needRearm stWrongState (
    let l := if t = 0xFF then (List.range 16).filter may else [t]
    let s := forEach l s (fun t s => if (s.twin t).role = 4 then s.setTwin t { s.twin t with role := 1, silent := 0, listen := 0, partnerSeen := false, nextRole := none } else s)
    let left := (List.range 16).any (fun t => (s.twin t).role == 4)
    okS (s.setCycle { s.cycle with needRearm := left }))))
/-- TWIN_REARM (R210, R400). -/
def execTwinRearm (d : Desc) (s : State) : Res := cmdRow iTwinRearm d bodyTwinRearm s

/-- Facts of TWIN_TAKEOVER (R400). -/
def iTwinTakeover : CmdInfo := { op := 0x080C, bytes := [(8, 1)], chg := .twinSet }
/-- TWIN_TAKEOVER (R208). -/
def bodyTwinTakeover (c : Cmd) (s : State) : CmdRes :=
  ownSet s c (fun t => chk ((s.twin t).role == 3) stWrongState (okS (becomeActive s t)))
/-- TWIN_TAKEOVER (R208, R400). -/
def execTwinTakeover (d : Desc) (s : State) : Res := cmdRow iTwinTakeover d bodyTwinTakeover s

/-- Facts of DRILL (R400). -/
def iDrill : CmdInfo := { op := 0x080D, bytes := [(8, 1), (16, 8)], chg := .twinSet }
/-- DRILL (R215): n_d is a set cycle at least two ahead; the hub passes it to the partner and waits for the acknowledge. -/
def bodyDrill (c : Cmd) (s : State) : CmdRes :=
  let x := s.twin (c.u 8 1)
  let n := c.u 16 8
  chk (decide (16 ≤ c.u 8 1) || !x.defined || (ofCycle x.k x.phase n && decide (firstOf x.k x.phase (s.cycleNow + 1) + x.k ≤ n))) stBadParam (
  ownSet s c (fun t => chk (x.role == 2) stWrongState (
    let tally := if x.inUse + 1 ≤ 0xFFFF then x.inUse + 1 else x.tally
    let y := { x with drillAt := some n, drillTally := tally, drillTag := some (c.p, c.d.tag), drillFrom := false, drillSent := s.lt }
    .later (sendHandoff (s.setTwin t y) t tally n false))))
/-- DRILL (R215, R400). -/
def execDrill (d : Desc) (s : State) : Res := cmdRow iDrill d bodyDrill s

/-- Facts of TWIN_STATUS (R400). -/
def iTwinStatus : CmdInfo := { op := 0x080E, bytes := [(8, 1)] }
/-- TWIN_STATUS (R400). -/
def bodyTwinStatus (c : Cmd) (s : State) : CmdRes :=
  ownSet s c (fun t =>
    let x := s.twin t
    .ok (resOf [(0, 1, x.role), (2, 2, x.inUse), (4, 2, x.lastTally), (8, 4, s.setDigest x), (16, 8, x.lastSent)]) [] s)
/-- TWIN_STATUS (R400). -/
def execTwinStatus (d : Desc) (s : State) : Res := cmdRow iTwinStatus d bodyTwinStatus s

/-- Facts of TALLY_REGISTER (R400). -/
def iTallyRegister : CmdInfo := { op := 0x080F, bytes := [(8, 1), (9, 1), (10, 2), (12, 2)] }
/-- TALLY_REGISTER (R211): up to 512 registrations in the hub; adding a registered group again writes its tally. -/
def bodyTallyRegister (c : Cmd) (s : State) : CmdRes :=
  let same := fun (r : TallyReg) => r.part == c.p && r.node == c.u 8 1 && r.group == c.u 10 2
  let l := s.cycle.regs
  let rest := l.filter (fun r => !same r)
  chk (decide (c.u 8 1 ≤ 250) && decide (c.u 9 1 ≤ 1) && decide (c.u 10 2 < 512) && decide (1 ≤ c.u 12 2)) stBadParam (
    if c.u 9 1 = 1 then chk (l.any same) stWrongState (okS (s.setCycle { s.cycle with regs := rest }))
    else chk (decide (rest.length < 512)) stNoResource (
      okS (s.setCycle { s.cycle with regs := rest ++ [{ part := c.p, node := c.u 8 1, group := c.u 10 2, tally := c.u 12 2 }] })))
/-- TALLY_REGISTER (R211, R400). -/
def execTallyRegister (d : Desc) (s : State) : Res := cmdRow iTallyRegister d bodyTallyRegister s

/-- IMAGE_STATUS (R192). -/
def imageStatus (s : State) : List Byte :=
  let v := s.cycle.image.view
  leBytes 8 v.cycle ++ leBytes 16 v.snap ++ leBytes 2 (v.size % 16384 + 16384 * b2n (s.cycle.running && s.cycle.begun)) ++ leBytes 2 v.segOk ++ zeros 4

/-- A read of space 2 (R191 to R193): every segment touched must name the reader. -/
def cycleRead (s : State) (p off len : Nat) : Ans :=
  let i := s.cycle.image
  if len = 0 then ansUr s
  else if off + len ≤ 32 then ansOk s (bytesAt (imageStatus s) off len)
  else if 0x100 ≤ off ∧ off + len ≤ 0x4000 then
    let lo := (off - 0x100) / 1008
    let hi := (off + len - 1 - 0x100) / 1008
    if (List.range 16).all (fun k => decide (k < lo) || decide (hi < k) || bitAt (i.readers.getD k 0) p) then
      ansOk s (bytesAt (fitBytes 16128 i.view.data) (off - 0x100) len)
    else ansCa s
  else ansUr s

/-- A write of space 2 by partition `p` of node `node` (R191, R200). -/
def cycleWrite (s : State) (node p off : Nat) (d : List Byte) : Ans :=
  let g := (off - 0x80000) / 0x400
  let k := (off - 0x80000) % 0x400
  if off < 0x80000 ∨ 512 ≤ g ∨ d.isEmpty then ansUr s
  else if k + d.length ≤ 0x100 then ansOk (stageData s node p g k d)
  else if k = 0x100 ∧ d.length = 8 then ansOk (stageCommit s node p g (leNat d))
  else ansUr s

end Sys2Proof.Machine
end

