-- ==== Sys2Proof/Machine/Assay.lean ====
section
/-!
DEFINITION. The assay island: parameters and audit log, measurements and records, the seal, power and faults of the assay die, the
0x0Exx commands and space 5 (R453 to R478, R407).
-/
namespace Sys2Proof.Machine

/-- The assay island written. -/
def State.setAssay (s : State) (x : Assay) : State := { s with assay := x }

/-- PARAM_ID of parameter `k` of channel `c` (R461). -/
def pid (k c : Nat) : Nat := 16 * k + c

/-- What a parameter holds before it is first set: the least value of its range, a CORNER of 1.0 (DESIGN CHOICE, log 1). -/
def paramDefault (k : Nat) : Nat :=
  if k = 2 then 10 else if k = 5 then 2 ^ 30 else if k = 7 then 1 else if k = 8 then 1 + 2 ^ 32 else if k = 10 then 1 + 100 * 65536
  else if k = 13 then 20 else 0

/-- Parameter `k` of channel `c` (R461). -/
def Assay.param (a : Assay) (k c : Nat) : Nat := tblGetD a.params (pid k c) (paramDefault k)

/-- INSTR_MASK of a bridge channel (R459, R461). -/
def Assay.mask (a : Assay) (c : Nat) : Nat := a.param 1 c % 16
/-- MAX. -/
def Assay.maxLoad (a : Assay) (c : Nat) : Nat := a.param 7 c
/-- D. -/
def Assay.d (a : Assay) (c : Nat) : Nat := a.param 8 c % 2 ^ 32
/-- E. -/
def Assay.e (a : Assay) (c : Nat) : Nat := a.param 8 c / 2 ^ 32
/-- MOTION_BAND in 0.1 E. -/
def Assay.band (a : Assay) (c : Nat) : Nat := a.param 10 c % 65536
/-- MOTION_TIME in ms. -/
def Assay.motionMs (a : Assay) (c : Nat) : Nat := a.param 10 c / 65536 % 2 ^ 32

/-- Bridge channels summed for a channel's instrument (R459). -/
def Assay.channels (a : Assay) (c : Nat) : List Nat := if a.mask c = 0 then [c] else maskList 4 (a.mask c)

/-- A bridge channel is masked by another lead and cannot be used on its own (R459). -/
def Assay.masked (a : Assay) (c : Nat) : Bool := (List.range 4).any (fun l => l != c && bitAt (a.mask l) c)

/-- The rates of R457. -/
def assayRates : List Nat := [10, 20, 40, 80, 160, 320, 640, 1280, 2400, 4800]

/-- Parameter `k` applies to channel `c` (R461). -/
def paramApplies (k c : Nat) : Bool :=
  (within 1 10 k && decide (c < 4)) || (k == 11 && c == 15) || ((k == 12 || k == 13) && (c == 4 || c == 5))

/-- A parameter's value is in range (R461). -/
def Assay.paramOk (a : Assay) (k c v : Nat) : Bool :=
  let d := v % 2 ^ 32
  let e := v / 2 ^ 32
  if k = 1 then decide (v < 16)
  else if k = 2 then assayRates.contains v
  else if k = 5 then decide (2 ^ 29 ≤ v) && decide (v ≤ 2 ^ 31)
  else if k = 7 then within 1 (2 ^ 31 - 1) v
  else if k = 8 then decide (1 ≤ d) && decide (1 ≤ e) && e % d == 0 && decide (a.maxLoad c ≤ 10000 * e)
  else if k = 9 then decide (25 * v * a.e c ≤ a.maxLoad c)
  else if k = 10 then within 1 50 (v % 65536) && within 100 10000 (v / 65536)
  else if k = 11 then decide (v ≤ 4)
  else if k = 13 then within 20 1000 v
  else true

/-- The bytes of the active firmware slot (R454, R476). -/
def Assay.fw (a : Assay) : List Byte := (tblGetD a.slots a.active {}).bytes
/-- SHA-256 digest of a firmware, 32 bytes (R466). -/
def fwDigest (b : List Byte) : List Byte := fitBytes 32 (Config.digest 256 b)
/-- ID_DIGEST: the first 8 hex digits as a 32-bit value (R466, R467). -/
def idDigest (b : List Byte) : Nat := beAt (fwDigest b) 0 4
/-- FW_VERSION and ID_DIGEST as an audit entry holds a firmware (R464). -/
def fwWord (ver : Nat) (b : List Byte) : Nat := ver + idDigest b * 2 ^ 32

/-- Hub time has arrived within 10 ms (R467, R474). -/
def Assay.hubFresh (a : Assay) : Bool :=
  a.hubValid && (match a.hubAt with | some t => decide (a.time < t + 10000000) | none => false)

/-- HUB_TIME: the last value received, advanced on the die's own crystal, with the bits received (R474). -/
def Assay.hubNow (a : Assay) : Nat :=
  match a.hubAt with
  | none => 0
  | some t =>
    let ns := a.hubTime % 2 ^ 30 + (a.time - t)
    ns % 1000000000 + (a.hubTime / 2 ^ 30 + ns / 1000000000) % 2 ^ 32 * 2 ^ 30 + a.hubTime / 2 ^ 62 * 2 ^ 62

/-- The die runs and the link reaches it (R455, R468). -/
def State.assayReach (s : State) : Bool := s.assay.powered && s.assay.st != 0 && s.ctl.dieUp.getD 1 false

/-- An audit entry appended with its counter; LOG_NEAR_FULL and LOG_FULL (R463 to R465). -/
def auditAdd (s : State) (param origin old new : Nat) : State :=
  let a := s.assay
  let cnt := (a.eventCounter + 1) % 4294967296
  let b := leBytes 4 cnt ++ leBytes 8 a.hubNow ++ leBytes 2 param ++ leBytes 1 origin ++ zeros 1 ++ leBytes 8 old ++ leBytes 8 new ++ zeros 4
  let s := s.setAssay { a with eventCounter := cnt, audit := a.audit ++ [{ bytes := b ++ leBytes 4 (crc32 b) }] }
  let n := s.assay.audit.length
  raiseIf (raiseIf s (n == 960) (srcAssay 6) 1 n) (n == 1024) (srcAssay 7) 1 n

/-- The log has room for a change (R465). -/
def Assay.logOpen (a : Assay) : Bool := decide (a.audit.length < 1024)

/-- A parameter change commits: value, counter and audit entry together (R463). -/
def commitParam (s : State) (k c v : Nat) : State :=
  let old := s.assay.param k c
  let s := auditAdd s (pid k c) 0 old v
  let s := s.setAssay { s.assay with params := tblSet s.assay.params (pid k c) v }
  raise s (srcAssay 2) 1 (s.assay.eventCounter % 16777216)

/-- A running measurement uses parameter `k` of channel `c` (R463). -/
def Assay.uses (a : Assay) (c : Nat) : Bool :=
  a.running.any (fun e => e.2.kind != 0 && (c == 15 || e.1 == c || (decide (e.1 < 4) && (a.channels e.1).contains c)))

/-- A record committed to the store: signed, numbered without gaps (R472, R475). -/
def commitRec (s : State) (c : Nat) (kind status samples : Nat) (gross tare net pulses : Int) : State :=
  let a := s.assay
  let b := leBytes 8 a.nextSeq ++ leBytes 1 c ++ leBytes 1 kind ++ leBytes 2 status ++ leBytes 4 a.eventCounter
    ++ leBytes 4 (unsignedOf 32 gross) ++ leBytes 4 (unsignedOf 32 tare) ++ leBytes 4 (unsignedOf 32 net) ++ leBytes 4 samples
    ++ leBytes 8 (unsignedOf 64 pulses) ++ leBytes 8 (a.time / 1000) ++ leBytes 8 a.hubNow ++ leBytes 4 (idDigest a.fw) ++ leBytes 4 a.powerCount
  let r : ARec := { seq := a.nextSeq, channel := c, bytes := b ++ fitBytes 64 (Config.recordSig b) }
  let store := a.store ++ [r]
  let n := a.sinceXfer + 1
  let warn := decide (3686 ≤ n) && !a.storeWarned
  let s := s.setAssay { a with
    nextSeq := a.nextSeq + 1, store := if store.length > 4096 then store.drop 1 else store
    latest := if c < 6 then tblSet a.latest c r else a.latest, sinceXfer := n, storeWarned := a.storeWarned || warn, pulsesKept := a.pulses }
  raiseIf s warn (srcAssay 14) 1 0

/-- STATUS bits that do not depend on the load: SEAL_OPEN, HUB_VALID, HUB_CONVERGING (R462, R472). -/
def Assay.commonStatus (a : Assay) : Nat :=
  64 * b2n a.sealLevel + 128 * b2n (a.hubFresh && bitAt a.hubTime 62) + 256 * b2n (bitAt a.hubTime 63)

/-- The corrected sum of one output over an instrument's channels, in 2^-30 raw counts (R459). -/
def Assay.signal (a : Assay) (c : Nat) (o : List Int) : Int :=
  (a.channels c).foldl (fun t k => t + o.getD k 0 * (a.param 5 k : Int)) 0

/-- The last `n` of a list. -/
def lastN {α : Type} (n : Nat) (l : List α) : List α := l.drop (l.length - n)

/-- Mean of a list of numbers, half to even. -/
def meanOf (l : List Int) : Int := if l.isEmpty then 0 else roundHalfEven (l.foldl (· + ·) 0) l.length

/-- Weight of a signal in 2^-32 UNIT, with a zero in 2^-30 raw counts (R459). -/
def Assay.weight (a : Assay) (c : Nat) (zero sig : Int) : Int :=
  Config.weigh zero (signedOf 64 (a.param 4 c)) (signedOf 64 (a.param 6 c)) sig

/-- CAL_ZERO in 2^-30 raw counts. -/
def Assay.calZero (a : Assay) (c : Nat) : Int := signedOf 64 (a.param 3 c) * 1073741824

/-- The zero in force (R460). -/
def Assay.zeroOf (a : Assay) (c : Nat) : Int := tblGetD a.zero c (a.calZero c)

/-- Every output over the last MOTION_TIME lies within ±MOTION_BAND of their mean (R460). -/
def Assay.stable (a : Assay) (c : Nat) (outs : List (List Int)) : Bool :=
  let l := (lastN (max 1 (a.motionMs c * a.param 2 c / 1000)) outs).map (fun o => a.weight c (a.zeroOf c) (a.signal c o))
  let m := meanOf l
  l.all (fun w => decide (10 * (w - m).natAbs ≤ a.band c * a.e c * 2 ^ 32))

/-- Weight rounded to a multiple of D, half to even (R459). -/
def Assay.rounded (a : Assay) (c : Nat) (w : Int) : Int := (a.d c : Int) * roundHalfEven w (a.d c * 2 ^ 32)

/-- STATUS of a bridge record (R472). -/
def Assay.bridgeStatus (a : Assay) (c : Nat) (stable tared : Bool) (w gross : Int) : Nat :=
  b2n stable + 2 * b2n (decide (4 * w.natAbs ≤ a.e c * 2 ^ 32)) + 4 * b2n (decide (((a.maxLoad c + 9 * a.e c : Nat) : Int) < gross))
    + 8 * b2n (decide (gross < -((20 * a.e c : Nat) : Int))) + 16 * b2n tared
    + 32 * b2n ((a.channels c).any (fun k => tblGetD a.excFault k false)) + a.commonStatus

/-- OVER raised once for each condition, with the record's SEQ (R477). -/
def overStep (s : State) (c : Nat) (seq status : Nat) : State :=
  let a := s.assay
  let up := tblGetD a.overUp c false
  let now := bitAt status 2
  raiseIf (s.setAssay { a with overUp := tblSet a.overUp c now }) (now && !up) (srcAssay (8 + c)) 1 (seq % 16777216)

/-- The opcode whose command a measurement of this kind answers. -/
def measOp (kind : Nat) : Nat := if kind = 1 then 0x0E01 else if kind = 2 then 0x0E02 else 0x0E03

/-- A measurement's command ends, when it still waits (R471). -/
def finishMeas (s : State) (m : Meas) (st : Nat) (res : List Byte) : State := finishBegun s m.part (measOp m.kind) m.tag st res

/-- A bridge measurement ends: record, new zero or tare, completion (R460, R472). -/
def bridgeEnd (s : State) (c : Nat) (m : Meas) (outs : List (List Int)) : State :=
  let a := s.assay
  let stable := a.stable c outs
  let used := if m.kind = 1 then lastN m.samples outs
              else if m.kind = 4 then lastN 1 outs else lastN (max 1 (a.motionMs c * a.param 2 c / 1000)) outs
  let sig := meanOf (used.map (a.signal c))
  let zero := if m.kind = 2 then sig else a.zeroOf c
  let w := a.weight c zero sig
  let gross := a.rounded c w
  let fromCal := (a.weight c (a.calZero c) sig).natAbs
  let zeroOk := stable && decide (fromCal ≤ a.param 9 c * a.e c * 2 ^ 32)
  let tareOk := stable && decide (0 < gross) && decide (gross ≤ (a.maxLoad c : Int))
  if (m.kind = 2 ∧ !zeroOk) ∨ (m.kind = 3 ∧ !tareOk) then finishMeas s m stWrongState []
  else
    let was := tblGetD a.tareOn c false
    let tare := if m.kind = 3 then gross else if m.kind = 4 then 0 else tblGetD a.tare c 0
    let a := { a with zero := if m.kind = 2 then tblSet a.zero c zero else a.zero, tare := tblSet a.tare c tare
                      tareOn := tblSet a.tareOn c (if m.kind = 3 then true else if m.kind = 4 then false else was) }
    let status := a.bridgeStatus c stable (was && m.kind != 4) w gross
    let seq := a.nextSeq
    let s := commitRec (s.setAssay a) c m.kind status used.length gross tare (gross - tare) 0
    finishMeas (overStep s c seq status) m stOk (if m.kind = 1 then leBytes 8 seq else [])

/-- A pulse measurement ends: mean frequency in mHz, count and quantity (R458, R460, R472). -/
def pulseEnd (s : State) (c : Nat) (m : Meas) : State :=
  let a := s.assay
  let n := tblGetD a.pulses c 0
  let freq := roundHalfEven ((n - m.startCount) * 1000000) m.samples
  let qty := roundHalfEven (n * (a.param 12 c : Int)) (2 ^ 32)
  let seq := a.nextSeq
  finishMeas (commitRec s c m.kind a.commonStatus m.samples freq 0 qty n) m stOk (leBytes 8 seq)

/-- Measuring time in ns (R460). -/
def Assay.duration (a : Assay) (c : Nat) (m : Meas) : Nat :=
  if 4 ≤ c then m.samples * 1000000
  else if m.kind = 1 then m.samples * 1000000000 / a.param 2 c
  else if m.kind = 4 then 0 else a.motionMs c * 1000000

/-- Outputs that a measurement needs at its end. -/
def Meas.need (m : Meas) (c : Nat) : Nat := if 4 ≤ c then 0 else if m.kind = 1 then m.samples else 1

/-- MEASUREMENT_COMPLETE: the measuring time is over (R460, R472). -/
def execMeasurementComplete (c : Nat) (m : AssaySample) (s : State) : Res :=
  unit c 6 (
    let a := s.assay
    let r := tblGetD a.running c {}
    if a.st != 1 || r.kind == 0 || decide (a.time < r.startAt + a.duration c r) || decide (m.outs.length < r.need c) then s
    else
      let s := s.setAssay { a with running := tblDel a.running c }
      if c < 4 then bridgeEnd s c r m.outs else pulseEnd s c r)

/-- A change that waits commits, or ends as its own checks say at that moment (R462, R463, R465). -/
def paramCommitOne (s : State) (w : ParamWait) : State :=
  let k := w.pid / 16
  let c := w.pid % 16
  if !s.assay.logOpen then finishBegun s w.part 0x0E05 w.tag stWrongState []
  else if !s.assay.sealLevel then finishBegun s w.part 0x0E05 w.tag stSealed []
  else finishBegun (commitParam s k c w.value) w.part 0x0E05 w.tag stOk []

/-- PARAM_COMMIT: the oldest waiting change whose measurement has ended commits (R463). -/
def execParamCommit (s : State) : Res :=
  let a := s.assay
  if a.st ≠ 1 then .next s
  else match takeFirst (fun (w : ParamWait) => !a.uses (w.pid % 16)) a.waiting with
    | some (w, rest) => .next (paramCommitOne (s.setAssay { a with waiting := rest }) w)
    | none => .next s

/-- An assay firmware image that waits for its activation is invalidated when the seal is released (R476). -/
def dropAssayUpdate (s : State) : State :=
  match s.boot.upd with
  | some u =>
    if u.typ = 3 then
      let a := s.assay
      (s.setAssay { a with slots := tblSet a.slots (1 - a.active) {} }).setBoot { s.boot with upd := some { u with verified := false } }
    else s
  | none => s

/-- SEAL_CHANGE: a level held for 20 ms (R462, R476, R477). -/
def execSealChange (asserted : Bool) (ms : Nat) (s : State) : Res :=
  let a := s.assay
  if !a.powered || a.st == 0 || decide (ms < 20) || a.sealLevel == asserted then .next s
  else
    let s := s.setAssay { a with sealLevel := asserted }
    .next (raise (if asserted then s else dropAssayUpdate s) (srcAssay (if asserted then 0 else 1)) 1 0)

/-- HUB_TIME_UPDATE: the working clock sent to the assay die (R474). -/
def execHubTimeUpdate (s : State) : Res :=
  if s.assayReach then .next (s.setAssay { s.assay with hubTime := s.eventTime, hubAt := some s.assay.time, hubValid := true }) else .next s

/-- HUB_TIME_LOSS: no hub time for 10 ms (R474). -/
def execHubTimeLoss (s : State) : Res :=
  match s.assay.hubAt with
  | some t => if s.assay.time ≥ t + 10000000 then .next (s.setAssay { s.assay with hubValid := false }) else .next s
  | none => .next s

/-- PULSE_INPUT: a pulse no shorter than PULSE_DEBOUNCE counts (R458). -/
def execPulseInput (c : Nat) (down : Bool) (us : Nat) (s : State) : Res :=
  if c ≠ 4 ∧ c ≠ 5 then .fault .noSuchUnit
  else
    let a := s.assay
    if a.st ≠ 1 ∨ us < a.param 13 c then .next s
    else
      let times := (tblGetD a.pulseTimes c []).filter (fun t => decide (a.time < t + 1000000000))
      .next (s.setAssay { a with pulses := tblSet a.pulses c (tblGetD a.pulses c 0 + (if down then -1 else 1))
                                 pulseTimes := tblSet a.pulseTimes c (times ++ [a.time]) })

/-- EXC_FAULT of a bridge channel changes, raised once per change (R457, R477). -/
def execExcFault (c : Nat) (bad : Bool) (s : State) : Res :=
  unit c 4 (
    let a := s.assay
    if a.st = 0 ∨ tblGetD a.excFault c false = bad then s
    else raise (s.setAssay { a with excFault := tblSet a.excFault c bad }) (srcAssay (8 + c)) 2 ((a.nextSeq - 1) % 16777216))

/-- Measurements and waiting changes end without a record; their commands complete with WRONG_STATE (R455, R456; log 16). -/
def dropMeasurements (s : State) : State :=
  let a := s.assay
  let s := s.setAssay { a with running := [], waiting := [] }
  let s := forEach (a.running.filter (fun e => e.2.kind != 0)) s (fun e s => finishMeas s e.2 stWrongState [])
  forEach a.waiting s (fun w s => finishBegun s w.part 0x0E05 w.tag stWrongState [])

/-- New firmware fails its self-test: the die returns to the old slot (R476). -/
def revertAssay (s : State) (old : Nat × Nat × Nat) : State :=
  let a := s.assay
  let was := fwWord a.fwVersion a.fw
  let s := s.setAssay { a with active := old.1, fwVersion := old.2.1, trial := none, st := 0 }
  let s := auditAdd s 0xFFFF 2 was (fwWord s.assay.fwVersion s.assay.fw)
  raise s (srcAssay 3) 1 (idDigest s.assay.fw % 16777216)

/-- The die's self-test ends (R455, R456, R476). -/
def assaySelfTest (s : State) (pass : Bool) : State :=
  let a := s.assay
  if pass then
    let due := a.startDue
    let f := a.faultKind
    let s := s.setAssay { a with st := 1, selfFails := 0, startDue := false, faultKind := 0, trial := none
                                 secVersion := if a.trial.isSome then max a.secVersion a.newSec else a.secVersion }
    let s := if due then raise (commitRec s 0xFF 5 s.assay.commonStatus 0 0 0 0 0) (srcAssay 4) 1 (a.powerCount % 16777216) else s
    raiseIf s (f != 0) (srcAssay 5) 1 f
  else match a.trial with
    | some old => revertAssay s old
    | none =>
      let n := a.selfFails + 1
      if n ≥ 3 then raise (s.setAssay { a with selfFails := n, st := 3 }) (srcAssay 5) 1 4
      else s.setAssay { a with selfFails := n, st := 0 }

/-- The reset of the assay die: its clock runs, and the crossing into it is cleared (R14). -/
def assayClock (s : State) : State :=
  clearCrossings { s with ctl := { s.ctl with islands := listSet s.ctl.islands 10 true } } (· == 10)

/-- A power-on of the die, or its restart with new firmware: POWER_COUNT, zero and tare, the clock (R455, R458, R460). -/
def assayStart (s : State) : State :=
  let a := s.assay
  s.setAssay { a with
    powered := true, st := 0, powerCount := (a.powerCount + 1) % 4294967296, zero := [], tare := [], tareOn := [], overUp := []
    excFault := [], pulses := a.pulsesKept, pulseTimes := [], time := 0, hubAt := none, hubValid := false, selfFails := 0
    startDue := true, faultKind := 0 }

/-- ASSAY_POWER_ON: a power-on, or the restart after an activation, and the self-test; a self-test still due runs (R455, R476). -/
def execAssayPowerOn (pass : Bool) (s : State) : Res :=
  let a := s.assay
  if !a.fitted then .next s
  else if !a.powered || a.st == 2 then .next (assaySelfTest (assayStart (assayClock s)) pass)
  else if a.st = 0 then .next (assaySelfTest s pass)
  else .next s

/-- ASSAY_FAULT: the die resets itself; nothing of an interrupted record remains (R456). -/
def execAssayFault (kind : Nat) (pass : Bool) (s : State) : Res :=
  if kind = 0 ∨ 3 < kind then .fault .noSuchUnit
  else
    let a := s.assay
    if !a.fitted || !a.powered || a.st == 3 then .next s
    else .next (assaySelfTest (let s := dropMeasurements (assayClock s); s.setAssay { s.assay with st := 0, faultKind := kind }) pass)

/-- VDDA_ASSAY_ABSENT: the die does not run (R455). -/
def execVddaAssayAbsent (s : State) : Res :=
  let s := dropMeasurements s
  .next (s.setAssay { s.assay with powered := false, st := 0 })

/-- Go on when the die is fitted; else NOT_PRESENT (R2, R407). -/
def assayCmd (s : State) (k : CmdRes) : CmdRes := if s.assay.fitted then k else .fail stNotPresent

/-- Go on when the die measures and the link is up (R455, R456, R471). -/
def assayRuns (s : State) (k : CmdRes) : CmdRes := chk (s.assayReach && s.assay.st == 1) stWrongState k

/-- Go on when the die answers: measuring or in fault hold (R456). -/
def assayAnswers (s : State) (k : CmdRes) : CmdRes := chk (s.assayReach && (s.assay.st == 1 || s.assay.st == 3)) stWrongState k

/-- Facts of ASSAY_INFO (R407). -/
def iAssayInfo : CmdInfo := { op := 0x0E00, svc := false }
/-- ASSAY_INFO (R466). -/
def bodyAssayInfo (_c : Cmd) (s : State) : CmdRes :=
  let a := s.assay
  assayCmd s (assayAnswers s (.ok (resOf [(0, 4, a.fwVersion), (4, 4, idDigest a.fw), (8, 4, a.eventCounter), (12, 1, b2n a.sealLevel),
    (16, 8, a.nextSeq - 1)]) [] s))
/-- ASSAY_INFO (R407, R466). -/
def execAssayInfo (d : Desc) (s : State) : Res := cmdRow iAssayInfo d bodyAssayInfo s

/-- A request for a channel is accepted: it runs to its end (R459, R470, R471). -/
def startMeas (c : Cmd) (s : State) (ch kind samples : Nat) : CmdRes :=
  let a := s.assay
  assayRuns s (
  chk (decide (4 ≤ ch) || !a.masked ch) stWrongState (
  chk ((tblGetD a.running ch {}).kind == 0) stWrongState (
    let m : Meas := { kind := kind, part := c.p, samples := samples, tag := c.d.tag, startAt := a.time, startCount := tblGetD a.pulses ch 0 }
    .later (s.setAssay { a with running := tblSet a.running ch m }))))

/-- Facts of ASSAY_MEASURE (R407). -/
def iAssayMeasure : CmdInfo := { op := 0x0E01, bytes := [(8, 4), (12, 2)], svc := false }
/-- ASSAY_MEASURE (R460). -/
def bodyAssayMeasure (c : Cmd) (s : State) : CmdRes :=
  assayCmd s (handle s c 8 12 (fun ch =>
    chk (decide (1 ≤ c.u 12 2)) stBadParam (ownRes s c 12 ch (startMeas c s ch 1 (c.u 12 2)))))
/-- ASSAY_MEASURE (R407, R460). -/
def execAssayMeasure (d : Desc) (s : State) : Res := cmdRow iAssayMeasure d bodyAssayMeasure s

/-- Facts of ASSAY_ZERO (R407). -/
def iAssayZero : CmdInfo := { op := 0x0E02, bytes := [(8, 4)], svc := false }
/-- ASSAY_ZERO (R460): a pulse channel has no zero. -/
def bodyAssayZero (c : Cmd) (s : State) : CmdRes :=
  assayCmd s (handle s c 8 12 (fun ch => chk (decide (ch < 4)) stBadParam (ownRes s c 12 ch (startMeas c s ch 2 0))))
/-- ASSAY_ZERO (R407, R460). -/
def execAssayZero (d : Desc) (s : State) : Res := cmdRow iAssayZero d bodyAssayZero s

/-- Facts of ASSAY_TARE (R407). -/
def iAssayTare : CmdInfo := { op := 0x0E03, bytes := [(8, 4), (12, 1)], svc := false }
/-- ASSAY_TARE (R460): a pulse channel has no tare. -/
def bodyAssayTare (c : Cmd) (s : State) : CmdRes :=
  assayCmd s (handle s c 8 12 (fun ch =>
    chk (decide (ch < 4) && decide (c.u 12 1 ≤ 1)) stBadParam (ownRes s c 12 ch (startMeas c s ch (3 + c.u 12 1) 0))))
/-- ASSAY_TARE (R407, R460). -/
def execAssayTare (d : Desc) (s : State) : Res := cmdRow iAssayTare d bodyAssayTare s

/-- Records examined for a transfer: copied ones and the last examined SEQ, until `n` are copied (R475). -/
def examine (mine : Nat → Bool) : Nat → List ARec → List ARec × Option Nat
  | 0, _ => ([], none)
  | _, [] => ([], none)
  | n + 1, r :: l =>
    if mine r.channel then
      let (got, last) := examine mine n l
      (r :: got, some (last.getD r.seq))
    else
      let (got, last) := examine mine (n + 1) l
      (got, some (last.getD r.seq))

/-- Facts of ASSAY_TRANSFER (R407). -/
def iAssayTransfer : CmdInfo := { op := 0x0E04, bytes := [(8, 8), (16, 2)], bulk := .yes, svc := false }
/-- ASSAY_TRANSFER (R475). -/
def bodyAssayTransfer (c : Cmd) (s : State) : CmdRes :=
  assayCmd s (
  let n := c.u 16 2
  let a := s.assay
  chk (within 1 512 n && c.len == 128 * n) stBadParam (chk c.owned stNotOwner (assayRuns s (
    let oldest := (a.store.head?.map (fun (r : ARec) => r.seq)).getD a.nextSeq
    let first := max (c.u 8 8) oldest
    let (got, last) := examine (fun ch => decide (ch < 6) && s.owns c.p 12 ch) n (a.store.filter (fun r => decide (first ≤ r.seq)))
    let next := match last with | some q => q + 1 | none => first
    .ok (resOf [(0, 2, got.length), (8, 8, next)]) (got.flatMap (fun r => r.bytes))
      (s.setAssay { a with sinceXfer := 0, storeWarned := false })))))
/-- ASSAY_TRANSFER (R407, R475). -/
def execAssayTransfer (d : Desc) (s : State) : Res := cmdRow iAssayTransfer d bodyAssayTransfer s

/-- Facts of ASSAY_PARAM_SET (R407). -/
def iAssayParamSet : CmdInfo := { op := 0x0E05, p0 := true, bytes := [(8, 2)], bulk := .yes, svc := false }
/-- ASSAY_PARAM_SET (R461 to R465): a parameter that a running measurement uses changes when that ends. -/
def bodyAssayParamSet (c : Cmd) (s : State) : CmdRes :=
  assayCmd s (
  let k := c.u 8 2 / 16
  let ch := c.u 8 2 % 16
  let v := leAt c.bulk 0 8
  let a := s.assay
  chk (c.len == 8 && paramApplies k ch && a.paramOk k ch v) stBadParam (chk c.owned stNotOwner (
  assayRuns s (chk a.logOpen stWrongState (chk a.sealLevel stSealed (
    if a.uses ch || a.waiting.any (fun w => w.pid == c.u 8 2) then
      .later (s.setAssay { a with waiting := a.waiting ++ [{ pid := c.u 8 2, value := v, part := c.p, tag := c.d.tag }] })
    else okS (commitParam s k ch v)))))))
/-- ASSAY_PARAM_SET (R407, R461). -/
def execAssayParamSet (d : Desc) (s : State) : Res := cmdRow iAssayParamSet d bodyAssayParamSet s

/-- Facts of AUDIT_READ (R407). -/
def iAuditRead : CmdInfo := { op := 0x0E06, bytes := [(8, 2)], bulk := .yes, svc := false }
/-- AUDIT_READ (R464). -/
def bodyAuditRead (c : Cmd) (s : State) : CmdRes :=
  assayCmd s (
  let l := (s.assay.audit.drop (c.u 8 2)).take (c.len / 40)
  chk (decide (c.u 8 2 < 1024) && c.len % 40 == 0) stBadParam (chk c.owned stNotOwner (assayAnswers s (
    .ok (leBytes 2 l.length) (l.flatMap (fun e => e.bytes)) s))))
/-- AUDIT_READ (R407, R464). -/
def execAuditRead (d : Desc) (s : State) : Res := cmdRow iAuditRead d bodyAuditRead s

/-- The identification block (R467). -/
def assayIdent (s : State) : List Byte :=
  let a := s.assay
  leBytes 4 a.fwVersion ++ leBytes 4 (idDigest a.fw) ++ fwDigest a.fw ++ leBytes 4 a.eventCounter ++ leBytes 2 a.audit.length
    ++ leBytes 1 a.st ++ leBytes 1 (b2n a.sealLevel + 2 * b2n a.hubFresh + 4 * b2n (!a.logOpen)) ++ leBytes 8 (a.nextSeq - 1)
    ++ leBytes 8 ((a.store.head?.map (fun (r : ARec) => r.seq)).getD 0) ++ leBytes 4 a.powerCount ++ leBytes 2 a.secVersion ++ zeros 2
    ++ fitBytes 64 a.pubkey ++ fitBytes 64 a.keyCert ++ leBytes 8 a.dieId ++ zeros 48

/-- The parameters in the order of R461 (R467). -/
def paramOrder : List (Nat × Nat) :=
  (List.range 10).flatMap (fun k => (List.range 4).map (fun c => (k + 1, c))) ++ [(11, 15), (12, 4), (12, 5), (13, 4), (13, 5)]

/-- A read of space 5 by partition `p` (R467, R468): form, then ownership; TARGET_ERROR while the die cannot be reached. -/
def assayRead (s : State) (p off len : Nat) : Ans :=
  let a := s.assay
  let ends := off + len
  let give := fun (ok : Bool) (b : List Byte) (base : Nat) =>
    if !ok then ansCa s else if !s.assayReach then ⟨5, [], s⟩ else ansOk s (bytesAt b (off - base) len)
  if !a.fitted ∨ len = 0 ∨ 1024 < len then ansUr s
  else if ends ≤ 256 then give true (assayIdent s) 0
  else if 0x400 ≤ off ∧ ends ≤ 0x700 then
    give ((List.range 6).all (fun c => decide (ends ≤ 0x400 + c * 0x80) || decide (0x400 + (c + 1) * 0x80 ≤ off) || s.mayRead p 12 c))
      ((List.range 6).flatMap (fun c => fitBytes 128 (tblGetD a.latest c {}).bytes)) 0x400
  else if 0x1000 ≤ off ∧ ends ≤ 0x1000 + 16 * paramOrder.length then
    give true (paramOrder.flatMap (fun e => leBytes 2 (pid e.1 e.2) ++ zeros 6 ++ leBytes 8 (a.param e.1 e.2))) 0x1000
  else if 0x10000 ≤ off ∧ ends ≤ 0x10000 + 40960 then
    give true (fitBytes 40960 (a.audit.flatMap (fun e => e.bytes))) 0x10000
  else ansUr s

end Sys2Proof.Machine
end

