-- ==== Sys2Proof/Machine/Faults.lean ====
section
/-!
DEFINITION. The fault ladder: detection, handling, queueing and escalation, and the events that raise faults (R374 to R382, R413 to
R422, R425, R430, R431, R537).
-/
namespace Sys2Proof.Machine

/-- Fault handling written. -/
def State.setFaults (s : State) (x : Faults) : State := { s with faults := x }
/-- The control complex written. -/
def State.setCtl (s : State) (x : Ctl) : State := { s with ctl := x }

/-- The OPEN partitions, lowest first (R374). -/
def State.openParts (s : State) : List Nat := (List.range 16).filter (fun p => (s.part p).st == 1)

/-- A fault taken into FAULT_FIRST and FAULT_COUNT of a partition (R376). -/
def faultReg (s : State) (p : Nat) (f : Flt) : State :=
  let x := s.part p
  s.setPart p (if x.ffValid then { x with fcCount := satNat 0xFFFFFFFF (x.fcCount + 1), fcMax := max x.fcMax f.level }
    else { x with ffValid := true, ffLevel := f.level, ffCode := f.code, ffDetail := f.detail % 65536, ffTime := f.atNs / 1000 % 4294967296 })

/-- Partitions that a fault is reported to (R374). -/
def Flt.reports (f : Flt) (s : State) : List Nat := if f.level = 0 then [0] else if f.level = 1 then f.parts else s.openParts

/-- The registers that a fault of level 1 or above enters: partition 0 receives every such fault (R376). -/
def faultRegs (s : State) (f : Flt) : State :=
  if f.level = 0 then s else forEach (0 :: (f.reports s).filter (· != 0)) s (fun p s => faultReg s p f)

/-- The record of a fault in a partition's fault source (R374). -/
def faultRecord (s : State) (p : Nat) (f : Flt) : State :=
  raise s (srcDiag (300 + p)) f.code (f.level * 4194304 + f.detail % 4194304)

/-- A command that a lost pair was running ends with FIRMWARE_FAULT; which of the two ran it is free (R419). -/
def loseCommands (s : State) (p : Nat) : State :=
  forEach (s.part p).cmds s (fun a s =>
    if !a.service then s
    else
      let (r, s) := s.draw
      if r.getLsbD 0 then
        match takeFirst (fun (b : Async) => b == a) (s.part p).cmds with
        | some (_, rest) => finalCpl (s.setPart p { s.part p with cmds := rest }) a.desc stFwFault []
        | none => s
      else s)

/-- Transport sessions that a lost pair was building are rewound; which ones is free (R419). -/
def loseSessions (s : State) : State :=
  forEach s.can.sessions s (fun t s =>
    let (r, s) := s.draw
    if r.getLsbD 0 then dropSession s t else s)

/-- A service pair is taken out of service (R419). -/
def pairLost (s : State) (p : Nat) : State :=
  let s := s.setPair p { s.pair p with ok := false, closed := true }
  let s := loseSessions (forEach (List.range 16) s (fun q s => loseCommands s q))
  raise s (srcDiag 335) 1 p

/-- The local action of a fault's code (R375). -/
def localAction (s : State) (f : Flt) : State :=
  if f.code = 0x03 ∧ f.detail < 4096 then
    let s := flushReq s f.detail
    s.setQueue f.detail { s.queue f.detail with poison := true }
  else if f.code = 0x07 ∨ (f.code = 0x0B ∧ f.detail ≠ 0) then pairLost s f.detail
  else s

/-- A fatal fault: last gasp, FAULT_N low, queued faults discarded, warm reset within 10 µs (R374, R378, R380). -/
def goFatal (s : State) (f : Flt) : State :=
  let s := lastGasp s
  let s := s.setFaults { s.faults with handling := [f], queued := [], fatal := some f, faultN := false }
  s.setBoot { s.boot with resetAt := some (s.lt + 10000, 5) }

/-- The handling of a fault of level 0 to 2 begins (R374, R377). -/
def beginFault (s : State) (f : Flt) : State :=
  if f.level = 0 then faultRecord s 0 f
  else if f.level = 1 then
    let s := forEach f.parts (localAction s f) (fun p s => faultRecord s p f)
    s.setFaults { s.faults with handling := f :: s.faults.handling }
  else
    let s := lastGasp s
    let s := s.setFaults { s.faults with faultN := false, handling := f :: s.faults.handling }
    let s := localAction s f
    forEach s.openParts s (fun p s => faultRecord s p f)

/-- A fault waits: merged with one of the same code and DETAIL; with the queue full it becomes fatal (R377, R378). -/
def queueFault (s : State) (f : Flt) : State :=
  let same := fun (g : Flt) => g.code == f.code && g.detail == f.detail
  let l := s.faults.queued
  if l.any same then
    faultRegs (s.setFaults { s.faults with queued := l.map (fun g => if same g then { g with merged := g.merged + 1 } else g) }) f
  else if l.length < 32 then faultRegs (s.setFaults { s.faults with queued := l ++ [f] }) f
  else goFatal (faultRegs s { f with level := 3 }) { f with level := 3 }

/-- The hub stands still in safe halt: pass-through, no field output, branches open (R379). -/
def enterSafeHalt (s : State) : State :=
  let s := allBranchesOff s
  let s := forEach (List.range 256) s (fun p s => if (s.pin p).out then s.setPin p { s.pin p with out := false, timed := none } else s)
  (s.setBoot { s.boot with running := false, resetAt := none }).setFaults { s.faults with safeHalt := true, faultN := false }

/-- A new fault resolved against what is being handled (R377 to R379, R431). -/
def detect (s : State) (f : Flt) : State :=
  let s := s.count cFaults f.code
  let x := s.faults
  if x.safeHalt then s
  else if x.resetting then
    if f.level < 3 then (if f.level = 0 then s else faultReg s 0 f)
    else
      let s := faultReg s 0 f
      if x.restarts ≥ 4 then enterSafeHalt s
      else (s.setFaults { x with restarts := x.restarts + 1, fatal := some f }).setBoot { s.boot with resetAt := some (s.lt + 10000, 5) }
  else if f.level = 3 then
    match x.handling with
    | g :: _ => if g.level = 3 then faultReg s 0 f else goFatal (faultRegs s f) f
    | [] => goFatal (faultRegs s f) f
  else
    let halted := (s.pair 0).halted
    match x.handling with
    | [] =>
      if halted then queueFault (if f.level = 2 then (lastGasp s).setFaults { (lastGasp s).faults with faultN := false } else s) f
      else beginFault (faultRegs s f) f
    | g :: _ =>
      if g.level = 3 then (if f.level = 0 then s else faultReg s 0 f)
      else if f.level ≤ 1 then queueFault s f
      else if g.level = 2 then goFatal (faultRegs s { f with level := 3 }) { f with level := 3 }
      else if halted then queueFault ((lastGasp s).setFaults { (lastGasp s).faults with faultN := false }) f
      else beginFault (faultRegs s f) f

/-- The service pair other than `p` is in service. -/
def State.otherPair (s : State) (p : Nat) : Bool := (s.pair (3 - p)).ok

/-- Level of a fault code (R375, R420); none for a code that does not exist. -/
def faultLevel (s : State) (code detail : Nat) : Option Nat :=
  if code = 0x01 ∨ code = 0x0E then some 0
  else if code = 0x02 ∨ code = 0x03 ∨ code = 0x05 ∨ code = 0x0A ∨ code = 0x12 ∨ code = 0x13 then some 1
  else if code = 0x04 ∨ code = 0x06 ∨ code = 0x0D ∨ code = 0x0F then some 2
  else if code = 0x08 ∨ code = 0x09 ∨ code = 0x0C ∨ code = 0x10 then some 3
  else if code = 0x07 then (if (detail = 1 ∨ detail = 2) ∧ s.otherPair detail then some 2 else some 3)
  else if code = 0x0B then (if (detail = 1 ∨ detail = 2) ∧ s.otherPair detail then some 2 else some 3)
  else if code = 0x11 then some (if detail = 1 then 1 else 2)
  else none

/-- Owners of the resource that a contained fault affects, else partition 0 (R374). -/
def faultParts (s : State) (code detail : Nat) : List Nat :=
  if code = 0x02 ∨ code = 0x03 then [s.owner 5 detail]
  else if code = 0x11 then (List.range 16).filter (fun p => (List.range 6).any (fun c => s.owns p 12 c))
  else [0]

/-- A fault of this code and DETAIL is detected (R375). -/
def detectCode (s : State) (code detail : Nat) : State :=
  match faultLevel s code detail with
  | some l => detect s { code := code, level := l, detail := detail, atNs := s.work, parts := faultParts s code detail }
  | none => s

/-- A cell of a queue gets the POISON mark; which one is free (R98, R375). -/
def poisonQueue (s : State) (q : Nat) : State :=
  let cells := ((s.queue q).packets ++ (s.queue q).fresh ++ (s.queue q).opn.toList).flatMap (fun k => k.cells)
  let (r, s) := s.draw
  match cells[r.toNat % max 1 cells.length]? with
  | some c => { s with pool := { s.pool with poisoned := s.pool.poisoned ++ [c] } }
  | none => s

/-- FAULT_DETECTED (R374, R375): the code and DETAIL of the fault. -/
def execFaultDetected (code detail : Nat) (s : State) : Res :=
  if code = 0 ∨ 0x13 < code then .fault .noSuchUnit
  else .next (detectCode (if code = 0x02 then poisonQueue s detail else s) code detail)

/-- FAULT_QUEUED_HANDLE: the handling of a level 1 or 2 fault ends; what it preempted resumes, or the next one that waits is handled
(R377, R378, R380). -/
def execFaultQueuedHandle (s : State) : Res :=
  let x := s.faults
  if (s.pair 0).halted || x.safeHalt || x.resetting then .next s
  else
    let fatal := match x.handling with | g :: _ => g.level == 3 | [] => false
    if fatal then .next s
    else
      let rest := x.handling.drop 1
      let s := s.setFaults { x with handling := rest, faultN := x.faultN || (s.boot.running && !rest.any (fun g => decide (2 ≤ g.level))) }
      match rest, x.queued with
      | [], f :: q => .next (beginFault (s.setFaults { s.faults with queued := q }) f)
      | _, _ => .next s

/-- A pair whose outputs differ: its bus port closes, and its fault is raised (R413, R415, R419, R420). -/
def mismatch (s : State) (p : Nat) : State :=
  if !(s.pair p).ok || (s.pair p).closed then s
  else
    let s := s.setPair p { s.pair p with closed := true }
    if p = 0 then detectCode s 0x08 0 else detectCode s 0x07 p

/-- LOCKSTEP_MISMATCH of pair `p` (R413, R415, R419, R420). -/
def execLockstepMismatch (p : Nat) (s : State) : Res := unit p 3 (mismatch s p)

/-- An uncorrectable error in firmware code stops the pair that runs it: pair 0 for the deputy patch, one of the service pairs, freely, for
the service image (R375, R423; log 75). -/
def codeError (s : State) (addr : Nat) : State :=
  if 3145728 ≤ addr then mismatch s 0
  else
    let (r, t) := s.draw
    let p := 1 + r.toNat % 2
    mismatch t (if (s.pair p).ok && !(s.pair p).closed then p else 3 - p)

/-- FIREWALL_BLOCK: the access is not performed (R419, R420, R425). -/
def execFirewallBlock (p : Nat) (s : State) : Res :=
  unit p 3 (if !(s.pair p).ok || (s.pair p).closed then s else detectCode s 0x0B p)

/-- WATCHDOG_EXPIRY: 50 ms after the last refresh; it does not run during a reset and pauses while hart 0 is halted (R422, R431). -/
def execWatchdogExpiry (s : State) : Res :=
  if s.ctl.wdRun && !(s.pair 0).halted && decide (s.ctl.wdAt + 50000000 ≤ s.lt) then .next (detectCode s 0x09 0) else .next s

/-- CLOCK_ALARM: islands are numbered in the order of R11, port islands 0; a port island raises no fault, and R375 names
none for the power and the assay die, whose crossings then hold their words (R14, R375). -/
def execClockAlarm (island : Nat) (s : State) : Res :=
  unit island 11 (
    let t := s.setCtl { s.ctl with islands := listSet s.ctl.islands island false }
    if island = 0 then s else if island ≤ 8 then detectCode t 0x0C island else t)

/-- SUPPLY_ALARM of a main-die rail; that of a rail without a reset threshold waits until partition 0 is open (R375, R517, R518). -/
def execSupplyAlarm (rail : Nat) (s : State) : Res :=
  match railOf rail with
  | none => .fault .noSuchUnit
  | some r =>
    if r.reset.isNone && (s.part 0).st != 1 && !s.faults.safeHalt then
      .next (s.setCtl { s.ctl with railsLate := s.ctl.railsLate.filter (· != rail) ++ [rail] })
    else .next (detectCode s 0x0D rail)

/-- Temperature events whose condition has ended everywhere re-arm (R537): 120 °C for the upper two, 110 °C for TEMP_HIGH. -/
def tempSettle (s : State) : State :=
  let c := s.ctl
  if c.temps.all (fun t => decide (t < 440)) then s.setCtl { c with tempRaised := c.tempRaised.map (fun _ => 0) }
  else if c.temps.all (fun t => decide (t < 480)) then s.setCtl { c with tempRaised := c.tempRaised.map (min 1) }
  else s

/-- The thresholds that a reading reaches: 115, 125, 135 °C (R537). -/
def tempLevel (r : Int) : Nat := (tempLevels.filter (fun e => decide (e.1 ≤ r))).length

/-- TEMP_THRESHOLD: a sensor's reading, in 0.25 °C; each event once per upward crossing (R537). -/
def execTempThreshold (k : Nat) (r : Int) (s : State) : Res :=
  unit k 5 (
    let s := tempSettle (s.setCtl { s.ctl with temps := listSet s.ctl.temps k r })
    let was := s.ctl.tempRaised.getD k 0
    let now := tempLevel r
    let s := s.setCtl { s.ctl with tempRaised := listSet s.ctl.tempRaised k (max was now) }
    forEach ((List.range 3).filter (fun i => decide (was ≤ i) && decide (i < now))) s (fun i s => detectCode s (0x0E + i) k))

/-- TEMP_REARM: a sensor's reading below its re-arm level (R537). -/
def execTempRearm (k : Nat) (r : Int) (s : State) : Res :=
  unit k 5 (tempSettle (s.setCtl { s.ctl with temps := listSet s.ctl.temps k r }))

/-- The queue that holds a cell. -/
def State.queueOfCell (s : State) (c : Nat) : Option Nat :=
  (s.queues.find? (fun e => (e.2.packets ++ e.2.fresh ++ e.2.opn.toList ++ e.2.arriving).any (fun k => k.cells.contains c))).map Prod.fst

/-- The switch's copies that hold cell `c`, whose header word is lost: a waiting or arriving one is dropped, one in transmission is
stomped where it stands; staged output data in the cell is lost (R21, R85, R99; log 75). -/
def dropHolders (s : State) (c : Nat) : State :=
  let holds := fun (k : Copy) => k.cells.contains c
  let s := { s with cycle := { s.cycle with
    stages := s.cycle.stages.filter (fun r => !r.cells.contains c)
    groups := s.cycle.groups.map (fun e => (e.1, { e.2 with pending := e.2.pending.filter (fun r => !r.cells.contains c) })) } }
  forEach (List.range 16) s (fun p s =>
    let l := ((s.port p).queues.flatMap id).filter holds
    let s := s.setPort p { s.port p with queues := (s.port p).queues.map (fun q => q.filter (fun k => !holds k)) }
    let s := forEach l s (fun k s => freeCopy s k)
    let s := match (s.port p).rx with
      | some r =>
        let m := r.copies.filter (fun (k : Copy) => !k.dead && holds k)
        forEach m (s.setPort p { s.port p with rx := some { r with
          copies := r.copies.map (fun k => if holds k then { k with dead := true, cells := [] } else k) } }) (fun k s => freeCopy s k)
      | none => s
    match (s.port p).sending with
    | some k =>
      if holds k then
        (s.setPort p { s.port p with sending := some { k with dead := true, whole := true, stopAt := some (k.gone * 128) } }).count cStompOrigin p
      else s
    | none => s)

/-- A copy of the switch, or staged output data, holds cell `c`. -/
def State.copyHolds (s : State) (c : Nat) : Bool :=
  s.cycle.stages.any (fun r => r.cells.contains c) || s.cycle.groups.any (fun e => e.2.pending.any (fun r => r.cells.contains c)) ||
  (List.range 16).any (fun p =>
    ((s.port p).queues.flatMap id ++ (s.port p).sending.toList ++ (match (s.port p).rx with | some r => r.copies | none => [])).any
      (fun (k : Copy) => !k.dead && k.cells.contains c))

/-- A 64-bit word of a memory of this hub holds an uncorrectable data error until it is written whole (R51, R381). -/
def markBad (s : State) (space addr : Nat) : State :=
  { s with island := { s.island with badWords := (space, addr / 8) :: s.island.badWords.filter (· != (space, addr / 8)) } }

/-- An entry of a table is invalid until firmware has restored it, within 1 ms, at a free instant (R375; log 75). -/
def loseEntry (s : State) (table e : Nat) : State :=
  let (r, s) := s.draw
  { s with sw := { s.sw with
    parity := s.sw.parity.filter (fun x => decide (s.lt < x.2.2)) ++ [(table, e, s.lt + r.toNat % 1000001)] } }

/-- ECC_ERROR, by what is found (R51, R98, R99, R375, R381): 0 and 1 a corrected error in SRAM or LPDDR4X; 2 an uncorrectable error in
the data of cell `loc`, 3 in its header word; 4 in the SRAM of row `loc` of R20, 7 for ROM, `addr` the byte of the window in row 4; 5
parity in entry `addr` of table `loc`, 6 of bus `loc`; 7 at byte `addr` of space 7, for which R375 names no fault (log 75). -/
def execEccError (kind : Nat) (at_ : EccPlace) (s : State) : Res :=
  let loc := at_.loc
  let addr := at_.addr
  if kind = 0 then .next (detectCode (s.count cSramCe 0) 0x01 0)
  else if kind = 1 then .next (detectCode (s.count cDdrCe 0) 0x01 1)
  else if kind = 2 then
    if loc < 65536 + s.pool.extCells then
      .next (detectCode { s with pool := { s.pool with poisoned := loc :: s.pool.poisoned.filter (· != loc) } } 0x02
        ((s.queueOfCell loc).getD 4096))
    else .fault .noSuchUnit
  else if kind = 3 then
    if loc < 65536 + s.pool.extCells then
      match s.queueOfCell loc with
      | some q => .next (detectCode s 0x03 q)
      | none => .next (if s.copyHolds loc then detectCode (dropHolders s loc) 0x03 4096 else s)
    else .fault .noSuchUnit
  else if kind = 4 ∧ loc = 1 ∧ addr < 3178496 then .next (codeError s addr)
  else if kind = 4 then .next (detectCode (if loc = 4 ∧ addr < 1572864 then markBad s 4 addr else s) 4 loc)
  else if kind = 5 then .next (detectCode (loseEntry s loc addr) 5 loc)
  else if kind = 6 then .next (detectCode s 6 loc)
  else if kind = 7 then .next (markBad s 7 addr)
  else .fault .noSuchUnit

/-- Commands that wait for the assay die receive no completion (R471). -/
def dropAssayWaits (s : State) : State :=
  forEach (List.range 16) s (fun p s =>
    s.setPart p { s.part p with cmds := (s.part p).cmds.filter (fun a => !(a.begun && a.opcode / 256 == 0x0E)) })

/-- DIE_LINK: 0 the power die, whose hold begins, and to which what waits crosses
once the link is up again; 1 the assay die, whose requests in flight are lost (R375, R450, R471). -/
def execDieLink (die : Nat) (up : Bool) (s : State) : Res :=
  unit die 2 (
    let s := s.setCtl { s.ctl with dieUp := listSet s.ctl.dieUp die up }
    if up then (if die = 0 then powerLinkUp s else s)
    else detectCode (if die = 0 then startHold s else dropAssayWaits s) 0x11 die)

/-- The debugger reaches a hart at the unlocked level (R428). -/
def State.debugReach (s : State) (h : Nat) : Bool := (s.ctl.debug == 2 && decide (h < 3)) || (s.ctl.debug == 1 && (h == 1 || h == 2))

/-- DEBUG_HALT: a hart is halted or resumes; while hart 0 is halted the watchdog pauses, and the deputy then handles what has waited
(R422, R428, R431). -/
def execDebugHalt (h : Nat) (halt : Bool) (s : State) : Res :=
  unit h 3 (
    if !s.debugReach h || (s.pair h).halted == halt then s
    else
      let s := s.setPair h { s.pair h with halted := halt }
      let s := if h = 0 ∧ halt then s.setCtl { s.ctl with wdHalt := s.lt } else s
      if h = 0 ∧ !halt then
        let s := s.setCtl { s.ctl with wdAt := s.ctl.wdAt + (s.lt - s.ctl.wdHalt) }
        match s.faults.handling, s.faults.queued with
        | [], f :: q => if s.faults.safeHalt || s.faults.resetting then s else beginFault (s.setFaults { s.faults with queued := q }) f
        | _, _ => s
      else s)

/-- What the firewall lets the debugger do, by region in the order of R424 (R424). -/
def debugMay (level region : Nat) (write : Bool) : Bool :=
  if level = 1 then (if write then [7, 9] else [1, 3, 6, 7, 9, 10, 11]).contains region
  else if level = 2 then (if write then [5, 6, 7, 8, 9, 10] else [0, 1, 3, 4, 5, 6, 7, 8, 9, 10, 11]).contains region
  else false

/-- Bytes of a debugger's region that the model holds, with its size: deputy patch, deputy data, service firmware image, service data,
the handoff rings one after the other (R423, R424). -/
def State.debugBytes (s : State) (region off len : Nat) : Option (List Byte) :=
  let x := s.island.fw
  if region = 4 ∧ off + len ≤ 32768 then some (bytesAt x.patch off len)
  else if region = 5 ∧ off + len ≤ 229376 then some (memRead x.deputyData off len)
  else if region = 6 ∧ off + len ≤ 3145728 then some (bytesAt x.image off len)
  else if region = 7 ∧ off + len ≤ 786432 then some (memRead x.serviceData off len)
  else if region = 9 ∧ off + len ≤ 65536 then some (memRead x.handoff1 off len)
  else if region = 9 ∧ 65536 ≤ off ∧ off + len ≤ 131072 then some (memRead x.handoff2 (off - 65536) len)
  else none

/-- A debugger's write into firmware SRAM or a handoff ring (R423, R424). -/
def debugPut (x : FwSram) (region off : Nat) (d : List Byte) : FwSram :=
  if region = 5 ∧ off + d.length ≤ 229376 then { x with deputyData := memWrite x.deputyData off d }
  else if region = 6 ∧ off + d.length ≤ 3145728 then { x with image := putBytes x.image off d }
  else if region = 7 ∧ off + d.length ≤ 786432 then { x with serviceData := memWrite x.serviceData off d }
  else if region = 9 ∧ off + d.length ≤ 65536 then { x with handoff1 := memWrite x.handoff1 off d }
  else if region = 9 ∧ 65536 ≤ off ∧ off + d.length ≤ 131072 then { x with handoff2 := memWrite x.handoff2 (off - 65536) d }
  else x

/-- DEBUGGER_ACCESS: nothing while debug is locked; a blocked access ends with a bus error and is counted, any other reads or writes
what the model holds of its region; of a region whose layout the spec does not give it reads free bytes (R423 to R425, R427, R428;
log 76). -/
def execDebuggerAccess (at_ : DebugPlace) (write : Option (List Byte)) (s : State) : Res :=
  let region := at_.region
  unit region 14 (
    if s.ctl.debug = 0 then s
    else if !debugMay s.ctl.debug region write.isSome then (s.emit (.debug true [])).count cDebugDenied 0
    else match write with
      | some d => { s with island := { s.island with fw := debugPut s.island.fw region at_.off d } }
      | none => match s.debugBytes region at_.off at_.len with
        | some b => s.emit (.debug false b)
        | none =>
          if [0, 1, 3, 8, 10, 11].contains region then
            let (b, s) := s.drawBytes at_.len
            s.emit (.debug false b)
          else s)

end Sys2Proof.Machine
end

