-- ==== Sys2Proof/Machine/Parts.lean ====
section
/-!
DEFINITION. Partitions, attachments' bindings, shared-window regions and the 0x01xx commands; ownership, subscription and the 0x02xx
commands (R330 to R341, R354, R357 to R359, R392, R393, R542).
-/
namespace Sys2Proof.Machine

/-- Resources of a class that partition `p` owns. -/
def State.owned (s : State) (p cls : Nat) : List Nat := (List.range (classSize cls)).filter (fun i => s.owns p cls i)

/-- The mailbox and the event queue after a partition reset: commands abandoned, rings emptied, indices 0, no record pending (R333). -/
def resetMailbox (s : State) (p : Nat) : State :=
  let x := s.part p
  let s := s.setPart p { x with
    sq := [], cq := [], sqTail := 0, sqHead := 0, cqTail := 0, cqHead := 0, cqWait := false, cmds := []
    evqHead := x.evqTail, evqTimes := [], fired := false, summary := List.replicate 16 0 }
  let s := intSettle s p
  { s with ring := { s.ring with barriers := s.ring.barriers.filter (fun b => b.part != p) } }

/-- The tub queues after a partition reset: flushed and disabled, the event queue emptied whole (R116, R333, R365). -/
def resetQueues (s : State) (p : Nat) : State :=
  let s := forEach (s.owned p 5) s (fun q s => let s := flushReq s q; s.setQueue q { s.queue q with enable := false })
  match (s.part p).evq with
  | some q => flushNow (s.setQueue q { s.queue q with presented := false }) q
  | none => s

/-- A CAN channel is set to OFF, at once on an idle bus, else at the end of the frame in progress (R222, R333). -/
def canOff (s : State) (ch : Nat) : State :=
  let x := s.chan ch
  if x.busy then s.setChan ch { x with pendMode := some 0 } else if x.mode = 0 then s else modeEffect s ch 0

/-- Field units of a partition after its reset: hewers stopped, timed transitions cancelled, trigger units in MODE 0, captures
stopped, maps disabled (R333). -/
def resetField (s : State) (p : Nat) : State :=
  let s := forEach (s.owned p 2) s (fun h s => stopHewer s h)
  let s := forEach (s.owned p 3) s (fun n s => s.setPin n { s.pin n with timed := none })
  let s := forEach (s.owned p 1) s (fun ch s => canOff s ch)
  let s := forEach (s.owned p 11) s (fun m s => s.ifDo (s.map m).enable (fun s => disableMap s m))
  let s := forEach (s.owned p 13) s (fun t s => s.ifDo (!(s.trig t).held) (fun s => s.setTrig t { s.trig t with mode := 0, pending := false }))
  forEach (s.owned p 14) s (fun u s => s.setCapt u { s.capt u with edges := 0, waiting := [] })

/-- Twin sets and registrations after a partition reset: resigned, the sets in standby until TWIN_REARM (R211, R333). -/
def resetTwins (s : State) (p : Nat) : State :=
  let s := resignPairs s p (s.gaspPairs p)
  forEach (List.range 16) s (fun t s => s.ifDo ((s.twin t).defined && (s.twin t).owner == p) (fun s => restTwin s t))

/-- What a partition reset does: the partition is RESETTING and its resources are left as R333 lists. -/
def resetPartition (s : State) (p : Nat) : State :=
  let s := resetTwins s p
  let s := resetQueues (resetField (resetMailbox s p) p) p
  let s := freeLocks s p
  s.setPart p { s.part p with st := 2 }

/-- A partition reset begins; it ends within 2 ms, at a free instant (R333; log 5). -/
def beginReset (s : State) (p : Nat) : State :=
  let s := resetPartition s p
  let (r, s) := s.draw
  s.setPart p { s.part p with resetEnd := s.lt + r.toNat % 2000001 }

/-- Whether counter key `k` belongs to scope kind `kind` and indices `lo` to `lo + n - 1`. -/
def inScope (kind lo n k : Nat) : Bool :=
  let i := k / 64
  decide (kind * 4294967296 + lo ≤ i) && decide (i < kind * 4294967296 + lo + n)

/-- Counters of indices `lo` to `lo + n - 1` of a scope kind cleared. -/
def clearScope (s : State) (kind lo n : Nat) : State :=
  { s with counters := s.counters.filter (fun e => !inScope kind lo n e.1) }

/-- Scopes whose counters count for a resource: kind, first index, indices (R97). -/
def countersOf (cls i : Nat) : List (Nat × Nat × Nat) :=
  if cls = 1 then [(7, i, 1)] else if cls = 2 then [(10, i, 1)] else if cls = 3 then [(11, i, 1)] else if cls = 4 then [(13, i, 1)]
  else if cls = 5 then [(3, i, 1)] else if cls = 7 then [(6, i, 1)] else if cls = 8 then [(5, i, 1)]
  else if cls = 9 then [(1, i, 1), (2, 8 * i, 8)] else if cls = 10 then [(15, i, 1)]
  else if cls = 11 then [(9, i, 1), (17, 2048 * i, 2048), (18, 16 * i, 16)] else if cls = 14 then [(14, i, 1)]
  else []

/-- Owner of a resource written; partition 0 is the entry's absence. -/
def setOwner (s : State) (cls i p : Nat) : State :=
  let k := cls * 65536 + i
  { s with island := { s.island with owners := if p = 0 then tblDel s.island.owners k else tblSet s.island.owners k p } }

/-- A resource moves to another owner: its counters are cleared (R337). -/
def moveRes (s : State) (cls i p : Nat) : State :=
  forEach (countersOf cls i) (setOwner s cls i p) (fun e s => clearScope s e.1 e.2.1 e.2.2)

/-- Owner of whatever a handle names, an event source included (R337, R542). -/
def State.resOwner (s : State) (cls i : Nat) : Nat := if cls = 6 then (s.sourceOwner i).getD 0 else s.owner cls i

/-- A source moved to an owner by itself: attached again when its resource's owner is the same (R542). -/
def moveSource (s : State) (e p : Nat) : State :=
  let o := match sourceResource e with | some (c, i) => s.owner c i | none => 0
  s.setSource e { s.source e with detached := if o = p then none else some p }

/-- Sources that follow what their table names and cannot be moved (R362, R542). -/
def fixedSource (e : Nat) : Bool := (decide (6240 ≤ e) && decide (e < 6300)) || (decide (6320 ≤ e) && decide (e < 6336))

/-- Facts of DEV_INFO (R392). -/
def iDevInfo : CmdInfo := { op := 0x0100, k := true }
/-- DEV_INFO (R344, R345). -/
def bodyDevInfo (c : Cmd) (s : State) : CmdRes :=
  let k := (s.part c.p).ktx22
  .ok (leBytes 8 (devCaps0 k) ++ leBytes 8 (devCaps1 s k) ++ leBytes 8 (fwStatus s)) [] s
/-- DEV_INFO (R344, R392). -/
def execDevInfo (d : Desc) (s : State) : Res := cmdRow iDevInfo d bodyDevInfo s

/-- The resources of a KTX22 view (R357). -/
def viewRes (bank qbase : Nat) (chans : List Nat) : List (Nat × Nat) :=
  (List.range 16).map (fun i => (3, 16 * bank + i)) ++ (List.range 4).map (fun i => (2, 8 * (bank / 2) + 4 * (bank % 2) + i))
    ++ chans.map (fun c => (1, c)) ++ (List.range 256).map (fun i => (5, qbase + i))

/-- Facts of PART_CREATE (R392). -/
def iPartCreate : CmdInfo := { op := 0x0101, p0 := true, bytes := [(8, 1), (9, 1), (10, 1), (12, 4), (16, 2)], svc := false }
/-- PART_CREATE (R331, R357). -/
def bodyPartCreate (c : Cmd) (s : State) : CmdRes :=
  let p := c.u 8 1
  let chans := (c.bytes 12 4).map BitVec.toNat
  let res := if c.u 9 1 = 1 then viewRes (c.u 10 1) (c.u 16 2) chans else []
  chk (decide (1 ≤ p) && decide (p ≤ 15)
      && (if c.u 9 1 = 0 then c.u 10 1 == 0 && c.u 12 4 == 0 && c.u 16 2 == 0
          else c.u 9 1 == 1 && decide (c.u 10 1 ≤ 15) && chans.all (fun k => decide (k < 24)) && c.u 16 2 % 256 == 0
            && decide (c.u 16 2 ≤ 3840))) stBadParam (
  chk (res.all (fun r => s.owns 0 r.1 r.2)) stNotOwner (
  chk (res.all (fun r => !s.fwHeld r.1 r.2)) stDenied (
  chk ((s.part p).st == 0) stWrongState (
    let s := s.setPart p { st := 1, ktx22 := c.u 9 1 == 1, bank := c.u 10 1, chans := if c.u 9 1 = 1 then chans else []
                           qbase := c.u 16 2 }
    okS (forEach res s (fun r s => moveRes s r.1 r.2 p))))))
/-- PART_CREATE (R331, R392). -/
def execPartCreate (d : Desc) (s : State) : Res := cmdRow iPartCreate d bodyPartCreate s

/-- A partition that a command names exists: it is not ABSENT (R330). -/
def State.exists_ (s : State) (p : Nat) : Bool := decide (p < 16) && (s.part p).st != 0

/-- An access of the attachment is outstanding (R336). -/
def State.attBusy (s : State) (a : Nat) : Bool :=
  let mine := fun (r : OutReq) => r.att == a
  s.ring.outst.any mine || s.bridge.outNp.any mine || s.bridge.outP.any (fun w => w.att == a)

/-- The attachment changes hands: down for its former partition, its recovery register cleared, WIN_BASE.PART the bound partition
(R305, R336). -/
def rebind (s : State) (a : Nat) (dst : Option Nat) : State :=
  if (s.att a).bound = dst then s
  else
    let s := attDown s a
    let x := s.att a
    let s := s.setAtt a { x with bound := dst, rcvStatus := 0, rcvAddr := 0, rcvData := 0, intLow := false
                                 winBase := x.winBase - bitsAt x.winBase 52 4 * 2 ^ 52 + dst.getD 0 * 2 ^ 52 }
    match dst with | some p => intSettle s p | none => s

/-- Partition 0 keeps a bound attachment when `a` is bound to `dst` (R336). -/
def keepsZero (s : State) (a : Nat) (dst : Option Nat) : Bool :=
  dst == some 0 || (List.range 28).any (fun b => b != a && (s.att b).bound == some 0)

/-- The removal of a partition from owners, masks, lists and bindings (R332). -/
def returnAll (s : State) (p : Nat) : State :=
  let s := forEach (s.island.owners.filter (fun e => e.2 == p)) s (fun e s => moveRes s (e.1 / 65536) (e.1 % 65536) 0)
  let s := { s with
    island := { s.island with
      subs := s.island.subs.map (fun e => (e.1, e.2.filter (· != p)))
      regions := s.island.regions.map (fun e => (e.1, if e.2.owner = p then { e.2 with owner := 0 } else e.2)) }
    cycle := { s.cycle with
      groups := s.cycle.groups.map (fun e => (e.1, { e.2 with writers := clrBit e.2.writers p }))
      regs := s.cycle.regs.filter (fun r => r.part != p)
      image := { s.cycle.image with readers := s.cycle.image.readers.map (fun m => clrBit m p), subs := s.cycle.image.subs.filter (fun x => x.part != p) }
      twins := s.cycle.twins.map (fun e => (e.1, if e.2.owner = p then { e.2 with owner := 0 } else e.2)) }
    field := { s.field with flags := s.field.flags.map (fun e => (e.1, if e.2.owner = p then { e.2 with owner := 0 } else e.2)) }
    sw := { s.sw with canaries := s.sw.canaries.map (fun e => (e.1, if e.2.holder = some p then { e.2 with holder := none } else e.2)) } }
  forEach (s.island.sources.filter (fun e => e.2.detached == some p)) s (fun e s => moveSource s e.1 0)

/-- A partition is removed: its attachments are unbound, what it owned returns to partition 0, and it is ABSENT (R332). -/
def removePart (s : State) (p : Nat) : State :=
  let s := forEach ((List.range 28).filter (fun a => (s.att a).bound == some p)) s (fun a s => rebind s a none)
  let s := match (s.part p).evq with | some q => s.setQueue q { s.queue q with prod := .none } | none => s
  (returnAll s p).setPart p {}

/-- Commands of partition 0 that wait for the end of partition `p`'s reset (R332, R333, R392). -/
def waitsReset (p : Nat) (a : Async) : Bool :=
  a.begun && (a.opcode == 0x0102 || a.opcode == 0x0103) && leAt a.desc.params 0 1 == p

/-- A partition reset ends: the partition is OPEN, or ABSENT when it is being destroyed, and the PART_RESET or PART_DESTROY of
partition 0 completes (R332, R333, R392). -/
def endReset (s : State) (p : Nat) : State :=
  let done := (s.part 0).cmds.filter (waitsReset p)
  let s := s.setPart p { s.part p with st := 1 }
  let s := s.ifDo (done.any (fun a => a.opcode == 0x0102)) (fun s => removePart s p)
  forEach done (s.setPart 0 { s.part 0 with cmds := (s.part 0).cmds.filter (fun a => !waitsReset p a) }) (fun a s => finalCpl s a.desc stOk [])

/-- Partition resets whose instant has come end (R333). -/
def dueResets (s : State) : State :=
  forEach (List.range 16) s (fun p s => if (s.part p).st = 2 ∧ (s.part p).resetEnd ≤ s.lt then endReset s p else s)

/-- Facts of PART_DESTROY (R392). -/
def iPartDestroy : CmdInfo := { op := 0x0102, p0 := true, bytes := [(8, 1)], svc := false }
/-- PART_DESTROY (R332): the partition goes through its reset first, and the command completes at the reset's end. -/
def bodyPartDestroy (c : Cmd) (s : State) : CmdRes :=
  let p := c.u 8 1
  chk (s.exists_ p || p == 0) stBadParam (chk (p != 0) stDenied (.later (beginReset s p)))
/-- PART_DESTROY (R332, R392). -/
def execPartDestroy (d : Desc) (s : State) : Res := cmdRow iPartDestroy d bodyPartDestroy s

/-- Facts of PART_RESET (R392). -/
def iPartReset : CmdInfo := { op := 0x0103, bytes := [(8, 1)], svc := false }
/-- PART_RESET (R333): partition 0 resets any other partition, and its command completes when the reset ends; a partition that resets
itself receives no completion. -/
def bodyPartReset (c : Cmd) (s : State) : CmdRes :=
  let p := c.u 8 1
  chk (s.exists_ p || p == 0) stBadParam (chk (p != 0 && (c.p == 0 || c.p == p)) stDenied (
    if c.p = p then .silent (beginReset s p) else .later (beginReset s p)))
/-- PART_RESET (R333, R392). -/
def execPartReset (d : Desc) (s : State) : Res := cmdRow iPartReset d bodyPartReset s

/-- Facts of PART_BIND (R392). -/
def iPartBind : CmdInfo := { op := 0x0104, p0 := true, bytes := [(8, 1), (9, 1)], svc := false }
/-- PART_BIND (R336). -/
def bodyPartBind (c : Cmd) (s : State) : CmdRes :=
  let a := c.u 8 1
  let dst := if c.u 9 1 = 0xFF then none else some (c.u 9 1)
  chk (decide (a ≤ 27) && (dst == none || s.exists_ (c.u 9 1))) stBadParam (chk (keepsZero s a dst) stDenied (
    chk (!s.attBusy a) stBusy (okS (rebind s a dst))))
/-- PART_BIND (R336, R392). -/
def execPartBind (d : Desc) (s : State) : Res := cmdRow iPartBind d bodyPartBind s

/-- Facts of HOST_SET (R392). -/
def iHostSet : CmdInfo := { op := 0x0105, p0 := true, bytes := [(8, 1), (16, 16)], svc := false }
/-- HOST_SET (R314): a valid entry binds attachment 12 + ENTRY to PART. -/
def bodyHostSet (c : Cmd) (s : State) : CmdRes :=
  let e := c.u 8 1
  let a := 12 + e
  let h : HostEnt := { mac := c.u 16 6, port := c.u 22 1, valid := bitAt (c.u 23 1) 0, macsecReq := bitAt (c.u 23 1) 1
                       vlan := c.u 24 2, part := c.u 26 1 }
  let dst := if h.valid then some h.part else none
  chk (decide (e ≤ 15) && decide (h.port ≤ 5) && decide (c.u 23 1 ≤ 3) && decide (h.vlan < 4096) && decide (h.part < 16)
      && c.u 27 5 == 0 && (dst == none || s.exists_ h.part)) stBadParam (chk (keepsZero s a dst) stDenied (
    chk (!s.attBusy a) stBusy (
      let s := rebind s a dst
      okS { s with bridge := { s.bridge with hosts := tblSet s.bridge.hosts e h } })))
/-- HOST_SET (R314, R392). -/
def execHostSet (d : Desc) (s : State) : Res := cmdRow iHostSet d bodyHostSet s

/-- The owner that the regions give a byte of space 4; none where no region covers it (R340). -/
def State.regionOwner (s : State) (off : Nat) : Option Nat :=
  ((List.range 16).find? (fun r => decide ((s.region r).base ≤ off) && decide (off < (s.region r).base + (s.region r).size))).map
    (fun r => (s.region r).owner)

/-- Region `r` written. -/
def State.setRegion (s : State) (r : Nat) (x : Region) : State :=
  { s with island := { s.island with regions := tblSet s.island.regions r x } }

/-- Facts of SRAM_REGION_SET (R392). -/
def iSramRegionSet : CmdInfo := { op := 0x0106, p0 := true, bytes := [(8, 1), (9, 1), (10, 2), (12, 4), (16, 4)], svc := false }
/-- SRAM_REGION_SET (R340): SIZE 0 deletes the region. -/
def bodySramRegionSet (c : Cmd) (s : State) : CmdRes :=
  let r := c.u 8 1
  let x : Region := { base := c.u 12 4, size := c.u 16 4, owner := c.u 9 1, readers := c.u 10 2 }
  let clash := x.size != 0 && (List.range 16).any (fun k =>
    let y := s.region k
    k != r && y.size != 0 && decide (x.base < y.base + y.size) && decide (y.base < x.base + x.size))
  chk (decide (r ≤ 15) && s.exists_ x.owner && x.base % 4096 == 0 && x.size % 4096 == 0 && decide (x.base + x.size ≤ 1572864)
      && !clash) stBadParam (
    let t := s.setRegion r x
    chk (s.bridge.locks.all (fun l => l.space != 4 || s.regionOwner (l.gran * 64) == t.regionOwner (l.gran * 64))) stBusy (okS t))
/-- SRAM_REGION_SET (R340, R392). -/
def execSramRegionSet (d : Desc) (s : State) : Res := cmdRow iSramRegionSet d bodySramRegionSet s

/-- Commands whose rows name a point of no return later than their start (R391). -/
def lateReturn : List Nat := [0x0304, 0x080D, 0x0E04, 0x0F02, 0x0F03]

/-- Facts of CMD_ABORT (R392). -/
def iCmdAbort : CmdInfo := { op := 0x0107, k := true, bytes := [(8, 4)] }
/-- CMD_ABORT (R354): the oldest ASYNC command in progress with that tag. -/
def bodyCmdAbort (c : Cmd) (s : State) : CmdRes :=
  match takeFirst (fun (a : Async) => a.async && a.desc.tag == c.u 8 4) (s.part c.p).cmds with
  | none => .fail stWrongState
  | some (a, rest) =>
    if lateReturn.contains a.opcode && !a.gone then
      okS (finalCpl (s.setPart c.p { s.part c.p with cmds := rest }) a.desc stAborted [])
    else okS s
/-- CMD_ABORT (R354, R392). -/
def execCmdAbort (d : Desc) (s : State) : Res := cmdRow iCmdAbort d bodyCmdAbort s

/-- Pins in any group of a running hewer (R337). -/
def State.inRunningGroup (s : State) (p : Nat) : Bool :=
  s.field.hewers.any (fun e => e.2.st == 1 && (e.2.drives e.1 ++ groupPins e.1 e.2.cfg.inBase e.2.cfg.inCount).contains p)

/-- A stopped hewer holds no pin or queue of another running hewer (R337). -/
def hewerFree (s : State) (h : Nat) : Bool :=
  let x := s.hewer h
  let qs := [x.cfg.rxQueue, x.cfg.txQueue].filter (· != 0xFFFF)
  s.field.hewers.all (fun e => e.1 == h || e.2.st != 1 ||
    ((x.drives h).all (fun p => !(e.2.drives e.1).contains p) && qs.all (fun q => q != e.2.cfg.rxQueue && q != e.2.cfg.txQueue)))

/-- A resource is idle (R337). -/
def State.idle (s : State) (cls i : Nat) : Bool :=
  if cls = 1 then (s.chan i).mode == 0 && !(s.chan i).busOff
  else if cls = 2 then (s.hewer i).st == 0 && hewerFree s i
  else if cls = 3 then !s.inRunningGroup i && !(s.driven 512).contains (3, i)
  else if cls = 4 then (s.branch i).st == 0
  else if cls = 5 then
    let x := s.queue i
    !x.enable && x.packets.isEmpty && x.fresh.isEmpty && x.openCells == 0 && x.prod == .none && x.cons == .none
  else if cls = 7 then !(s.group i).enable
  else if cls = 11 then !(s.map i).enable
  else if cls = 13 then (s.trig i).mode == 0
  else if cls = 14 then (s.capt i).edges == 0
  else true

/-- Class and index of the resource whose handle stands at byte 8, of any class; otherwise BAD_PARAM (R45, R339). -/
def anyHandle (s : State) (c : Cmd) (f : Nat → Nat → CmdRes) : CmdRes :=
  match localRes s c.p (c.u 8 4) with
  | some (cls, i) => f cls i
  | none => .fail stBadParam

/-- Facts of RES_ASSIGN (R393). -/
def iResAssign : CmdInfo := { op := 0x0200, p0 := true, bytes := [(8, 4), (12, 1)], chg := .handle, svc := false }
/-- RES_ASSIGN (R337, R362, R542). -/
def bodyResAssign (c : Cmd) (s : State) : CmdRes :=
  anyHandle s c (fun cls i =>
    chk (s.exists_ (c.u 12 1)) stBadParam (
    chk (!s.fwHeld cls i && !(cls == 6 && fixedSource i)) stDenied (
    chk (s.idle cls i) stBusy (
      okS (if cls = 6 then moveSource s i (c.u 12 1) else moveRes s cls i (c.u 12 1))))))
/-- RES_ASSIGN (R337, R393). -/
def execResAssign (d : Desc) (s : State) : Res := cmdRow iResAssign d bodyResAssign s

/-- Subscribers of a resource written (R338). -/
def setSubs (s : State) (cls i : Nat) (l : List Nat) : State :=
  { s with island := { s.island with subs := tblSet s.island.subs (cls * 65536 + i) l } }

/-- Facts of RES_SUBSCRIBE (R393). -/
def iResSubscribe : CmdInfo := { op := 0x0201, p0 := true, bytes := [(8, 4), (12, 1)], chg := .handle, svc := false }
/-- RES_SUBSCRIBE (R338). -/
def bodyResSubscribe (c : Cmd) (s : State) : CmdRes :=
  anyHandle s c (fun cls i =>
    let p := c.u 12 1
    let l := s.subsOf cls i
    chk (s.exists_ p && p != s.resOwner cls i) stBadParam (
      if l.contains p then okS s else chk (decide (l.length < 4)) stNoResource (okS (setSubs s cls i (l ++ [p])))))
/-- RES_SUBSCRIBE (R338, R393). -/
def execResSubscribe (d : Desc) (s : State) : Res := cmdRow iResSubscribe d bodyResSubscribe s

/-- Facts of RES_UNSUBSCRIBE (R393). -/
def iResUnsubscribe : CmdInfo := { op := 0x0202, p0 := true, bytes := [(8, 4), (12, 1)], chg := .handle, svc := false }
/-- RES_UNSUBSCRIBE (R338). -/
def bodyResUnsubscribe (c : Cmd) (s : State) : CmdRes :=
  anyHandle s c (fun cls i =>
    chk (s.exists_ (c.u 12 1)) stBadParam (chk ((s.subsOf cls i).contains (c.u 12 1)) stWrongState (
      okS (setSubs s cls i ((s.subsOf cls i).filter (· != c.u 12 1))))))
/-- RES_UNSUBSCRIBE (R338, R393). -/
def execResUnsubscribe (d : Desc) (s : State) : Res := cmdRow iResUnsubscribe d bodyResUnsubscribe s

/-- Facts of RES_QUERY (R393). -/
def iResQuery : CmdInfo := { op := 0x0203, k := true, bytes := [(8, 4)], svc := false }
/-- RES_QUERY (R393). -/
def bodyResQuery (c : Cmd) (s : State) : CmdRes :=
  anyHandle s c (fun cls i =>
    let l := s.subsOf cls i
    .ok (leBytes 1 (s.resOwner cls i) ++ leBytes 1 l.length
        ++ (List.range 4).map (fun k => BitVec.ofNat 8 (l.getD k 0xFF))
        ++ leBytes 1 (b2n (s.fwHeld cls i) + 2 * b2n (s.idle cls i))) [] s)
/-- RES_QUERY (R393). -/
def execResQuery (d : Desc) (s : State) : Res := cmdRow iResQuery d bodyResQuery s

/-- Facts of RES_LIST (R393). -/
def iResList : CmdInfo := { op := 0x0204, bytes := [(8, 1), (9, 1)], bits := [(9, 1, 1)], bulk := .yes, svc := false }
/-- RES_LIST (R393): the issuer's resources of a class, and those it subscribes to when asked. -/
def bodyResList (c : Cmd) (s : State) : CmdRes :=
  let cls := c.u 8 1
  let l := (List.range (classSize cls)).filter (fun i =>
    s.resOwner cls i == c.p || (c.u 9 1 == 1 && (s.subsOf cls i).contains c.p))
  chk (classSize cls != 0 && decide (c.u 9 1 ≤ 1) && c.len % 8 == 0) stBadParam (chk c.owned stNotOwner (
    chk (decide (4 * l.length ≤ c.len)) stNoResource (
      .ok (resOf [(0, 4, l.length)]) (l.flatMap (fun i => leBytes 4 (cls * 65536 + i))) s)))
/-- RES_LIST (R393). -/
def execResList (d : Desc) (s : State) : Res := cmdRow iResList d bodyResList s

end Sys2Proof.Machine
end

