-- ==== Sys2Proof/Machine/Ring.lean ====
section
/-!
DEFINITION. The ring node: links, enumeration, beacons, barriers, MACsec keys, and the 0x03xx commands (R27, R37 to R39, R56 to R72,
R394, R395). RING_RESET as received and the resets stand with start-up.
-/
namespace Sys2Proof.Machine

/-- The ring node written. -/
def State.setRing (s : State) (x : RingNode) : State := { s with ring := x }

/-- A ring port carries traffic: 0 West, 1 East (R37, R68). -/
def State.ringLive (s : State) (port : Nat) : Bool := s.boot.ringRole != 3 && s.canSend port

/-- Rates a port can train at, in Mbit/s: every rate of its kind, or the forced one (R18, R27, R394). -/
def rateOf (code : Nat) : Nat :=
  if code = 1 then 10000 else if code = 2 then 5000 else if code = 3 then 2500 else if code = 4 then 1000 else if code = 5 then 100 else 0

/-- Rates that a port advertises (R27, R394). -/
def advertised (port forced : Nat) : List Nat :=
  if forced ≠ 0 then [rateOf forced]
  else if port ≤ 1 then [10000, 5000, 2500] else if port ≤ 5 then [1000] else if port ≤ 13 then [10] else []

/-- The port holds keys for both directions, or needs none (R68). -/
def Macsec.keyed (m : Macsec) : Bool := !m.enable || ((tblGet m.txSa m.txAn).isSome && !m.rxSa.isEmpty)

/-- KEY_WAIT follows the keys and the link; it is raised when it begins (R68, R361). -/
def keySettle (s : State) (p : Nat) : State :=
  let x := s.port p
  let wait := x.link.up && !x.macsec.keyed
  raiseIf (s.setPort p { x with link := { x.link with keyWait := wait } }) (wait && !x.link.keyWait) (srcPort p 5) 1 0

/-- What the manager knows of a break when port `p` of node `n` goes down or comes up: West down lies east of the break (R62). -/
def noteBreak (s : State) (n p : Nat) (down : Bool) : State :=
  let v := if down then n else 0
  if !s.ring.actingMgr then s
  else if p = 0 then s.setRing { s.ring with brkEast := v }
  else if p = 1 then s.setRing { s.ring with brkWest := v }
  else s

/-- A change of a ring link reported to the manager by EVENT (R62, R368). -/
def reportLink (s : State) (p e data : Nat) (down : Bool) : State :=
  if p > 1 ∨ s.passThrough then s
  else if s.ring.actingMgr then noteBreak s s.me p down
  else if s.ring.mgrNode = 0 then s
  else
    let r := beBytes 2 (srcPort p e) ++ beBytes 1 0 ++ beBytes 1 1 ++ beBytes 1 0 ++ beBytes 3 data ++ beBytes 8 s.eventTime
    sendGrt s (macOfNode s.ring.ringId s.ring.mgrNode) (hdrOf s tEvent 0 { node := s.ring.mgrNode, part := 0 } 0 16 []) r

/-- Whether the link of a ring port joins two ports of one name (R28); no other port has a mark. -/
def setCrossed (s : State) (port : Nat) (v : Bool) : State :=
  if port = 0 then s.setRing { s.ring with crossedWest := v }
  else if port = 1 then s.setRing { s.ring with crossedEast := v }
  else s

/-- A link that trains (R27, R28, R68, R361); the PHYs of ports 2 to 13 are held in reset until the configuration is applied,
except spur port 0 in rescue station mode (R483, R501). -/
def linkUp (s : State) (port rate : Nat) (partner : List Nat) (crossed : Bool) : State :=
  let x := s.port port
  if x.link.up || (decide (port ≤ 1) && s.boot.ringRole == 3) || (decide (port ≥ 2) && !s.boot.configured && !(s.boot.rescue && port == 2))
      || !(if s.boot.rescue && port == 2 then [1000, 100] else advertised port x.link.forced).contains rate || !partner.contains rate then s
  else
    let s := s.setPort port { x with
      link := { x.link with up := true, rate := rate, partner := partner }
      pdelays := 0, pdelayAt := none, asCapable := false, oneStepRefused := false, capRaised := false }
    let s := raise s (srcPort port 0) 1 rate
    let isCrossed := crossed && decide (port ≤ 1)
    let s := raiseIf (setCrossed s port isCrossed) isCrossed (srcPort port 2) 1 0
    reportLink (keySettle s port) port 0 rate false

/-- LINK_UP of ports 0 to 13 (R27). -/
def execLinkUp (port rate : Nat) (partner : List Nat) (crossed : Bool) (s : State) : Res := unit port 14 (linkUp s port rate partner crossed)

/-- Attachments of Ethernet hosts reached on a port (R211, R314). -/
def hostsOn (s : State) (port : Nat) : List Nat :=
  (List.range 16).filter (fun e => (s.host e).valid && (s.host e).port == port)

/-- A link or recovered clock lost: copies in flight are lost, the frame being received ends with a PHY error, hosts behind the port
count as down, and the port carries no time (R14, R37, R154, R211, R361). -/
def linkDown (s : State) (port : Nat) : State :=
  if !(s.port port).link.up then s
  else
    let s := match (s.port port).rx with | some r => endCore s port 3 (max 64 r.got) | none => s
    let s := match (s.port port).sending with
      | some k => freeCopy (s.setPort port { s.port port with sending := none }) k
      | none => s
    let s := setCrossed s port false
    let x := s.port port
    let s := s.setPort port { x with link := { x.link with up := false, rate := 0, keyWait := false }, asCapable := false }
    let s := elects (if x.asCapable then capCheck s port else s)
    let s := forEach (hostsOn s port) s (fun e s => attDown s (12 + e))
    reportLink (raise s (srcPort port 1) 1 0) port 1 0 true

/-- LINK_DOWN of ports 0 to 13 (R37). -/
def execLinkDown (port : Nat) (s : State) : Res := unit port 14 (linkDown s port)

/-- Bits [1:0] of a LINK field (R64). -/
def linkCode (up : Bool) (rate : Nat) : Nat := if !up then 0 else if rate = 2500 then 1 else if rate = 5000 then 2 else 3

/-- LINK field of the ring status record (R64). -/
def linkField (s : State) (p : Nat) : Nat :=
  linkCode (s.port p).link.up (s.port p).link.rate
    + 4 * b2n ((s.port p).macsec.enable && s.canSend p)

/-- STATE of the ring status record (R64). -/
def ringMode (s : State) : Nat := if s.ring.withdrawn then 2 else if s.boot.ringRole = 3 then 3 else if s.passThrough then 0 else 1

/-- The ring status record, big-endian or little-endian (R64). -/
def ringRecord (s : State) (be : Bool) : List Byte :=
  let n := fun k v => if be then beBytes k v else leBytes k v
  let r := s.ring
  n 6 s.boot.mac ++ leBytes 1 r.node ++ leBytes 1 r.nodeSrc ++ leBytes 1 s.boot.nodeSel
    ++ leBytes 1 (s.boot.ringRole + 4 * b2n r.actingMgr + 8 * b2n (r.crossedWest || r.crossedEast))
    ++ leBytes 1 r.posEast ++ leBytes 1 r.posWest ++ leBytes 1 r.ringNodes ++ leBytes 1 (ringMode s)
    ++ leBytes 1 (linkField s 0) ++ leBytes 1 (linkField s 1) ++ leBytes 1 r.ringState ++ leBytes 1 r.mgrNode ++ zeros 2
    ++ n 4 s.boot.flashVer

/-- A link-local frame of this hub sent on one ring port that carries traffic (R47). -/
def sendHop (s : State) (port typ : Nat) (info : List Byte) : State :=
  if s.ringLive port then sendLink s port (hdrOf s typ 0 {} 0 0 info) else s

/-- TYPE_INFO of ENUM_WALK (R50). -/
def walkInfo (hop dir mgr : Nat) : List Byte := beBytes 2 hop ++ beBytes 1 dir ++ beBytes 1 mgr ++ zeros 4

/-- Form of a received GRT frame that hardware takes in pass-through too (R55). -/
def grtForm (s : State) (t : Nat) (f : GrtFrame) (g : State → State) : State :=
  if bitsAt f.hdr.flags 6 2 ≠ 1 then s.count cGrtBadVer 0
  else if f.hdr.typ ≠ t then s.count cGrtBadType 0
  else if !grtLenOk f then s.count cGrtMalformed 0
  else g s

/-- ENUM_REPORT to the node with the manager's number (R58, R61). -/
def sendReport (s : State) (mgr : Nat) : State :=
  if s.firmwareRuns then sendGrt s (macOfNode s.ring.ringId mgr) (hdrOf s tEnumReport 0 { node := mgr } 0 24 []) (ringRecord s true) else s

/-- The number that a walk gives a hub that asks for enumeration (R57, R59). -/
def walkNumber (mgr k dir : Nat) : Nat :=
  let v : Int := if dir = 0 then (mgr : Int) - 1 + k else (mgr : Int) - 1 - k
  (v.emod 250).toNat + 1

/-- A walk on a hub other than its sender: position and manager recorded, a number taken, the walk sent on, a report made
(R58, R59). -/
def walkPass (s : State) (port hop dir mgr : Nat) : State :=
  let r := s.ring
  let r := if dir = 0 then { r with posEast := (hop + 1) % 256, mgrNode := mgr } else { r with posWest := (hop + 1) % 256, mgrNode := mgr }
  let asks := r.node == 0 && (s.boot.nodeSel == 0 || decide (s.boot.nodeSel > 250)) && (dir == 0 || r.posEast == 0)
  let r := if asks then { r with node := walkNumber mgr (hop + 1) dir, nodeSrc := 2 } else r
  let s := sendHop (s.setRing r) (1 - port) tEnumWalk (walkInfo (hop + 1) dir mgr)
  sendReport s mgr

/-- The East walk comes back to the manager within 1 ms: the ring is closed (R58). -/
def walkBack (s : State) (hop : Nat) : State :=
  match s.ring.walkAt with
  | some t => if s.lt ≤ t + 1000000 then s.setRing { s.ring with walkAt := none, ringNodes := (hop + 1) % 256 } else s
  | none => s

/-- ENUM_WALK (R58), taken in hardware on ring ports. -/
def execEnumWalk (f : GrtFrame) (s : State) : Res :=
  .next (grtForm s tEnumWalk f (fun s =>
    let hop := infoAt f.hdr 16 2
    let dir := infoAt f.hdr 18 1
    let mgr := infoAt f.hdr 19 1
    if f.port > 1 ∨ s.boot.ringRole = 3 then s
    else if s.ring.actingMgr ∧ mgr = s.me then (if dir = 0 then walkBack s hop else s)
    else walkPass s f.port hop dir mgr))

/-- A hub's number, as its factory MAC and node fields stand in a manager's list, this hub included (R58, R60). -/
def State.known (s : State) : List NodeReport :=
  { mac := s.boot.mac, node := s.ring.node, nodeSrc := s.ring.nodeSrc, posEast := s.ring.posEast, posWest := s.ring.posWest
    role := s.boot.ringRole, linkWest := linkCode (s.port 0).link.up (s.port 0).link.rate
    linkEast := linkCode (s.port 1).link.up (s.port 1).link.rate } :: s.ring.reports

/-- The lowest number from 1 to 250 that no known hub has (R59). -/
def lowestFree (l : List NodeReport) : Nat :=
  (((List.range 250).map (· + 1)).find? (fun n => !l.any (fun r => r.node == n))).getD 0

/-- A hub is told its number, or withdrawn with 0: the frame goes to its factory MAC (R47, R58). -/
def sendAssign (s : State) (mac n : Nat) : State :=
  let s := s.setRing { s.ring with reports := s.ring.reports.map (fun r => if r.mac = mac ∧ n ≠ 0 then { r with node := n, nodeSrc := 3 } else r) }
  sendGrt s mac (hdrOf s tEnumAssign 0 {} 0 0 (beBytes 1 n ++ zeros 7)) []

/-- This hub is withdrawn, or takes the number it is given (R58, R60). -/
def takeNumber (s : State) (n : Nat) : State :=
  if n = 0 then
    s.ifDo (!s.ring.withdrawn) (fun s => detectCode (s.setRing { s.ring with withdrawn := true }) 0x13 s.ring.node)
  else if n ≤ 250 then s.setRing { s.ring with node := n, nodeSrc := 3, withdrawn := false }
  else s

/-- A report resolved by the manager: strapped hubs in conflict lose by the higher MAC, others get the lowest free number (R59, R60). -/
def resolve (s : State) (r : NodeReport) : State :=
  let others := s.known.filter (fun x => x.mac != r.mac)
  match if r.node = 0 then none else others.find? (fun x => x.node == r.node) with
  | some x =>
    if r.nodeSrc = 1 ∧ x.nodeSrc = 1 then
      let loser := max r.mac x.mac
      if loser = s.boot.mac then takeNumber s 0 else sendAssign s loser 0
    else
      let loser := if r.nodeSrc = 1 then x.mac else r.mac
      if loser = s.boot.mac then takeNumber s (lowestFree s.known) else sendAssign s loser (lowestFree s.known)
  | none => if r.node = 0 then sendAssign s r.mac (lowestFree s.known) else s

/-- What a manager keeps of a ring status record (R58, R64). -/
def reportOf (d : List Byte) : NodeReport :=
  { mac := beAt d 0 6, node := beAt d 6 1, nodeSrc := beAt d 7 1, posEast := beAt d 10 1, posWest := beAt d 11 1, role := beAt d 9 1 % 4
    linkWest := beAt d 14 1 % 4, linkEast := beAt d 15 1 % 4 }

/-- ENUM_REPORT: the acting manager keeps the hub's record and resolves its number (R58 to R60). -/
def execEnumReport (f : GrtFrame) (s : State) : Res :=
  .next (grtServe s tEnumReport f (fun s =>
    let d := f.payload
    let r := reportOf d
    if !s.ring.actingMgr || r.mac == s.boot.mac then s
    else resolve (s.setRing { s.ring with reports := (s.ring.reports.filter (fun x => x.mac != r.mac)) ++ [r] }) r))

/-- ENUM_ASSIGN: a number, or withdrawal (R58, R60). -/
def execEnumAssign (f : GrtFrame) (s : State) : Res := .next (grtForm s tEnumAssign f (fun s => takeNumber s (infoAt f.hdr 16 1)))

/-- The hub with node number `n` among those that have reported (R58). -/
def RingNode.reported (r : RingNode) (n : Nat) : Option NodeReport := r.reports.find? (fun x => x.node == n)

/-- Another hub strapped as manager beacons: MGR_CONFLICT, and the one with the higher factory MAC stops acting (R56). -/
def mgrConflict (s : State) (node mac : Nat) : State :=
  let s := if s.ring.conflictRaised then s else detectCode (s.setRing { s.ring with conflictRaised := true }) 0x12 node
  if s.boot.mac > mac then s.setRing { s.ring with actingMgr := false } else s

/-- A beacon of another hub, taken as the acting manager's; a standby that acts returns to standby (R39, R62, R63). -/
def takeBeacon (s : State) (f : GrtFrame) : State :=
  s.setRing { s.ring with
    ringState := infoAt f.hdr 16 1, brkWest := infoAt f.hdr 17 1, brkEast := infoAt f.hdr 18 1, heardAt := s.lt
    mgrNode := f.hdr.srcNode, actingMgr := false, takenOver := false }

/-- A beacon of another hub at a hub that acts as manager. A strapped manager refuses it, and sees a conflict when that hub's report
names it strapped as manager too (R56). A standby manager stops acting, unless that hub's report names it a standby (R39; log 72). -/
def otherBeacon (s : State) (f : GrtFrame) : State :=
  let x := s.ring.reported f.hdr.srcNode
  if s.boot.ringRole = 1 then
    match x with
    | some x => if x.role = 1 then mgrConflict s f.hdr.srcNode x.mac else s
    | none => s
  else match x with
    | some x => if x.role = 1 then takeBeacon s f else s
    | none => takeBeacon s f

/-- MGR_BEACON (R39, R56, R62, R63). -/
def execMgrBeacon (f : GrtFrame) (s : State) : Res :=
  .next (grtServe s tMgrBeacon f (fun s =>
    let r := s.ring
    if !r.actingMgr then takeBeacon s f
    else if f.smac = s.grtMac then
      s.setRing (if f.port = 0 then { r with beaconWest := true } else if f.port = 1 then { r with beaconEast := true } else r)
    else otherBeacon s f))

/-- A manager's beacon leaves, with the state judged from the last one's return (R62). -/
def beaconTimer (s : State) : State :=
  let r := s.ring
  if !r.actingMgr || s.passThrough || decide (s.lt < r.beaconAt + r.beaconMs * 1000000) then s
  else
    let st := if r.beaconAt = 0 then r.ringState else if r.beaconWest && r.beaconEast then 1 else if r.beaconWest || r.beaconEast then 2 else 3
    let r := { r with ringState := st, beaconWest := false, beaconEast := false, beaconAt := s.lt
                      brkWest := if st = 1 then 0 else r.brkWest, brkEast := if st = 1 then 0 else r.brkEast }
    let s := raiseIf (s.setRing r) (st != s.ring.ringState) (srcPort 0 6) 1 st
    sendGrt s (macAll r.ringId) (hdrOf s tMgrBeacon 0 {} 0 0 (beBytes 1 st ++ beBytes 1 r.brkWest ++ beBytes 1 r.brkEast ++ zeros 5)) []

/-- BEACON_TIMER (R62). -/
def execBeaconTimer (s : State) : Res := .next (beaconTimer s)

/-- BEACON_LOSS: a standby manager takes over after three intervals without a beacon (R63). -/
def execBeaconLoss (s : State) : Res :=
  let r := s.ring
  .next (if s.boot.ringRole ≠ 2 ∨ r.actingMgr ∨ s.passThrough ∨ s.lt < r.heardAt + 3 * r.beaconMs * 1000000 then s
    else raise (s.setRing { r with actingMgr := true, takenOver := true, mgrNode := r.node, beaconAt := 0, walkAt := none }) (srcDiag 332) 2 0)

/-- ENUMERATION_START: the manager's walk leaves East (R58). -/
def execEnumerationStart (s : State) : Res :=
  .next (if s.ring.actingMgr && !s.passThrough && s.ringLive 1 then
    sendHop (s.setRing { s.ring with walkAt := some s.lt }) 1 tEnumWalk (walkInfo 0 0 s.me) else s)

/-- WALK_TIMEOUT: the East walk has not come back within 1 ms; a walk leaves West (R58). -/
def execWalkTimeout (s : State) : Res :=
  .next (match s.ring.walkAt with
    | some t =>
      if s.lt > t + 1000000 then sendHop (s.setRing { s.ring with walkAt := none }) 0 tEnumWalk (walkInfo 0 1 s.me) else s
    | none => s)

/-- TYPE_INFO of BARRIER (R50). -/
def Token.info (t : Token) : List Byte := beBytes 4 t.barrierId ++ beBytes 2 t.passed ++ beBytes 1 t.dir ++ beBytes 1 t.initiator

/-- A token travels on in its direction, turning at links that are down (R71). -/
def sendToken (s : State) (t : Token) : Nat → State
  | 0 => s
  | n + 1 =>
    let out := if t.dir = 1 then 0 else 1
    if s.ringLive out then sendHop s out tBarrier t.info
    else if t.dir < 2 then sendToken s { t with dir := t.dir + 1 } n
    else s

/-- The same barrier: its ID and initiator (R71). -/
def Token.same (a b : Token) : Bool := a.barrierId == b.barrierId && a.initiator == b.initiator

/-- Status of a barrier whose token has ended its travel: OK when every node of the ring has counted itself, else ABORTED. A hub that
holds no node count, since the last closed walk gave it none, cannot compare: the status is free, but for a ring known as split
(R71; log 73). -/
def barrierStatus (s : State) (passed : Nat) : Nat × State :=
  if s.ring.ringNodes ≠ 0 ∨ s.ring.ringState = 3 then (if passed = s.ring.ringNodes then stOk else stAborted, s)
  else
    let (v, s) := s.draw
    (if v.getLsbD 0 then stOk else stAborted, s)

/-- A token ends its travel at the initiator (R71). -/
def endBarrier (s : State) (t : Token) : State :=
  match takeFirst (fun (b : BarrierRun) => b.token.same t) s.ring.barriers with
  | some (b, rest) =>
    let (st, s) := barrierStatus (s.setRing { s.ring with barriers := rest }) t.passed
    finishBegun s b.part 0x0304 b.cmdTag st (leBytes 1 t.passed)
  | none => s

/-- A token on a hub that did not start its barrier: counted once, held while posted writes wait, then passed on (R71). -/
def passToken (s : State) (t : Token) : State :=
  let seen := s.ring.counted.filter (fun c => decide (s.lt < c.at_ + s.ring.cplTimeout * 100000))
  if s.passThrough ∨ seen.any (fun c => c.same t) then sendToken s t 3
  else
    let s := s.setRing { s.ring with counted := seen ++ [{ t with at_ := s.lt }] }
    if s.bridge.outP.isEmpty then sendToken s { t with passed := (t.passed + 1) % 65536 } 3
    else s.setRing { s.ring with held := s.ring.held ++ [t] }

/-- BARRIER_TOKEN (R71). -/
def execBarrierToken (f : GrtFrame) (s : State) : Res :=
  .next (grtForm s tBarrier f (fun s =>
    let t : Token := { barrierId := infoAt f.hdr 16 4, passed := infoAt f.hdr 20 2, dir := infoAt f.hdr 22 1, initiator := infoAt f.hdr 23 1 }
    if f.port > 1 then s
    else if t.initiator = s.me ∧ s.me ≠ 0 then
      if t.dir = 1 ∧ s.ringLive 0 then sendHop s 0 tBarrier t.info else endBarrier s t
    else passToken s t))

/-- BARRIER_TOKEN_RELEASE: no outbound posted write waits; held tokens travel on (R71). -/
def execBarrierTokenRelease (s : State) : Res :=
  .next (if s.bridge.outP.isEmpty then
    forEach s.ring.held (s.setRing { s.ring with held := [] }) (fun t s => sendToken s { t with passed := (t.passed + 1) % 65536 } 3)
  else s)

/-- LINK_WEST or LINK_EAST of a reported hub follows the EVENT of a link change (R30, R62). -/
def noteRate (s : State) (n p v : Nat) : State :=
  if s.ring.actingMgr then
    s.setRing { s.ring with reports := s.ring.reports.map (fun r =>
      if r.node ≠ n then r else if p = 0 then { r with linkWest := v } else { r with linkEast := v }) }
  else s

/-- EVENT: committed to the partition it names; the acting manager learns where a link changed (R62, R366, R368). -/
def execEvent (f : GrtFrame) (s : State) : Res :=
  .next (grtServe s tEvent f (fun s =>
    let src := beAt f.payload 0 2
    let s := eventFrame f s
    let p := (src - srcPort 0 0) / 16
    if src = srcPort 0 0 ∨ src = srcPort 1 0 then noteRate (noteBreak s f.hdr.srcNode p false) f.hdr.srcNode p (linkCode true (beAt f.payload 5 3))
    else if src = srcPort 0 1 ∨ src = srcPort 1 1 then noteRate (noteBreak s f.hdr.srcNode p true) f.hdr.srcNode p 0
    else s))

/-- Facts of RING_STATUS (R394). -/
def iRingStatus : CmdInfo := { op := 0x0300 }
/-- RING_STATUS (R64). -/
def bodyRingStatus (_c : Cmd) (s : State) : CmdRes := .ok (ringRecord s false) [] s
/-- RING_STATUS (R64, R394). -/
def execRingStatus (d : Desc) (s : State) : Res := cmdRow iRingStatus d bodyRingStatus s

/-- Facts of RING_CFG (R394). -/
def iRingCfg : CmdInfo := { op := 0x0301, p0 := true, bytes := [(8, 1), (10, 2), (12, 2), (14, 2), (16, 2), (20, 4)] }
/-- RING_CFG (R35, R46, R53, R62): takes effect at once. -/
def bodyRingCfg (c : Cmd) (s : State) : CmdRes :=
  chk (inRange 1 4094 (c.u 10 2) && inRange 1 1000 (c.u 14 2) && inRange 10 10000 (c.u 16 2) && inRange 1 10000 (c.u 20 4)) stBadParam (
    okS (s.setRing { s.ring with ringId := c.u 8 1, vlan := c.u 10 2, etherType := c.u 12 2, beaconMs := c.u 14 2, forgetMs := c.u 16 2
                                 cplTimeout := c.u 20 4 }))
/-- RING_CFG (R394). -/
def execRingCfg (d : Desc) (s : State) : Res := cmdRow iRingCfg d bodyRingCfg s

/-- Facts of LINK_CFG (R394). -/
def iLinkCfg : CmdInfo := { op := 0x0302, bytes := [(8, 4), (12, 1)], chg := .handle }
/-- LINK_CFG (R27): the link retrains. -/
def bodyLinkCfg (c : Cmd) (s : State) : CmdRes :=
  handle s c 8 9 (fun p =>
    let v := c.u 12 1
    chk (decide (p ≤ 5) && (v == 0 || (if p ≤ 1 then decide (v ≤ 3) else v == 4 || v == 5))) stBadParam (ownRes s c 9 p (
      let s := s.setPort p { s.port p with link := { (s.port p).link with forced := v } }
      okS (linkDown s p))))
/-- LINK_CFG (R27, R394). -/
def execLinkCfg (d : Desc) (s : State) : Res := cmdRow iLinkCfg d bodyLinkCfg s

/-- Facts of PLCA_CFG (R394). -/
def iPlcaCfg : CmdInfo := { op := 0x0303, bytes := [(8, 4), (12, 1), (13, 1), (14, 1), (15, 1), (16, 1)], chg := .handle }
/-- PLCA_CFG (R394). -/
def bodyPlcaCfg (c : Cmd) (s : State) : CmdRes :=
  handle s c 8 9 (fun p =>
    chk (inRange 6 13 p && decide (c.u 13 1 ≠ 0) && decide (c.u 14 1 ≠ 0)) stBadParam (ownRes s c 9 p (
      okS (s.setPort p { s.port p with plca := { nodeId := c.u 12 1, nodeCount := c.u 13 1, toTimer := c.u 14 1, maxBurst := c.u 15 1
                                                 burstTimer := c.u 16 1 } }))))
/-- PLCA_CFG (R394). -/
def execPlcaCfg (d : Desc) (s : State) : Res := cmdRow iPlcaCfg d bodyPlcaCfg s

/-- Facts of BARRIER (R394). -/
def iBarrier : CmdInfo := { op := 0x0304, bytes := [(8, 4)] }
/-- BARRIER (R71): the token leaves; the command ends when it returns. -/
def bodyBarrier (c : Cmd) (s : State) : CmdRes :=
  let t : Token := { barrierId := c.u 8 4, passed := 1, dir := 0, initiator := s.me }
  let s := s.setRing { s.ring with barriers := s.ring.barriers ++ [{ token := t, part := c.p, cmdTag := c.d.tag, sentAt := s.lt }] }
  .later (if s.passThrough then s
    else if s.ringLive 1 then sendHop s 1 tBarrier t.info
    else sendHop s 0 tBarrier { t with dir := 1 }.info)
/-- BARRIER (R71, R394). -/
def execBarrier (d : Desc) (s : State) : Res := cmdRow iBarrier d bodyBarrier s

/-- The largest hop latency of R18 in ns at the slowest link of the ring that is known: this hub's own links, and those that hubs have
reported to it as manager (R30; log 31). -/
def State.hopMax (s : State) : Nat :=
  let l := (s.known.flatMap (fun r => [r.linkWest, r.linkEast])).filter (· != 0)
  if l.isEmpty || l.contains 1 then 3000 else if l.contains 2 then 2200 else 1600

/-- Facts of RING_RESET (R394). -/
def iRingReset : CmdInfo := { op := 0x0305, p0 := true }
/-- RING_RESET (R72): the frame leaves, and the manager's own reset follows ⌈N/2⌉ hops later, with N 0 where
it is unknown (log 31). -/
def bodyRingReset (_c : Cmd) (s : State) : CmdRes :=
  chk (s.ring.actingMgr && !s.passThrough) stWrongState (
    let s := sendGrt s (macAll s.ring.ringId) (hdrOf s tRingReset 0 {} 0 0 []) []
    okS (s.setBoot { s.boot with resetAt := some (s.lt + (s.ring.ringNodes + 1) / 2 * s.hopMax, 6) }))
/-- RING_RESET (R72, R394). -/
def execRingReset (d : Desc) (s : State) : Res := cmdRow iRingReset d bodyRingReset s

/-- The association table of a direction: 0 transmit, 1 receive. -/
def Macsec.table (m : Macsec) (dir : Nat) : Tbl Sa := if dir = 0 then m.txSa else m.rxSa

/-- The association table of a direction written. -/
def Macsec.setTable (m : Macsec) (dir : Nat) (t : Tbl Sa) : Macsec := if dir = 0 then { m with txSa := t } else { m with rxSa := t }

/-- MACsec of a port written; the key wait follows (R68). -/
def setMacsec (s : State) (p : Nat) (m : Macsec) : State := keySettle (s.setPort p { s.port p with macsec := m }) p

/-- Facts of MACSEC_SA_ADD (R394). -/
def iMacsecSaAdd : CmdInfo :=
  { op := 0x0310, p0 := true, bytes := [(8, 4), (12, 1), (13, 1), (14, 1)], bulk := .yes, chg := .handle, svc := false }
/-- MACSEC_SA_ADD (R67); of an entry that the record applies again after a warm reset, log 29. -/
def bodyMacsecSaAdd (c : Cmd) (s : State) : CmdRes :=
  handle s c 8 9 (fun p =>
    let m := (s.port p).macsec
    let dir := c.u 13 1
    let suite := c.u 14 1
    chk (decide (p ≤ 5) && decide (c.u 12 1 ≤ 3) && decide (dir ≤ 1) && decide (suite ≤ 3) && c.len == 64) stBadParam (
    chk c.owned stNotOwner (ownRes s c 9 p (
    chk (tblGet (m.table dir) (c.u 12 1)).isNone stBusy (
      let a : Sa := { suite := suite, key := bytesAt c.bulk 0 (if suite % 2 = 0 then 16 else 32), salt := bytesAt c.bulk 32 12
                      ssci := leAt c.bulk 44 4, nextPn := leAt c.bulk 48 8 }
      okS (setMacsec s p (m.setTable dir (tblSet (m.table dir) (c.u 12 1) a))))))))

/-- The 64 bulk bytes of MACSEC_SA_ADD overwritten with zeros, where the issuer owns them (R395). -/
def wipeKeyBulk (s : State) (d : Desc) : State :=
  if bulkOwned s d.part d.bulkOff 64 ∧ d.bulkLen = 64 then writeBulk s d.bulkOff (zeros 64) else s

/-- MACSEC_SA_ADD (R67, R394, R395): the key bytes are wiped with its completion, whatever the status. -/
def execMacsecSaAdd (d : Desc) (s : State) : Res :=
  if d.part < 16 then
    let t := runCmd iMacsecSaAdd d bodyMacsecSaAdd s
    .next (if (t.part d.part).cqTail ≠ (s.part d.part).cqTail ∧ (t.part d.part).cmds.length ≤ (s.part d.part).cmds.length then
      wipeKeyBulk t d else t)
  else .fault .noSuchUnit

/-- A transmit association of a non-XPN suite has used up its packet numbers (R69). -/
def Macsec.spent (m : Macsec) (an : Nat) : Bool :=
  match tblGet m.txSa an with
  | some a => decide (a.suite < 2) && decide (a.nextPn ≥ 0xFFFFFFFF)
  | none => false

/-- Facts of MACSEC_TX_AN (R394). -/
def iMacsecTxAn : CmdInfo := { op := 0x0311, p0 := true, bytes := [(8, 4), (12, 1)], chg := .handle, svc := false }
/-- MACSEC_TX_AN (R67): a stopped transmission starts again with the new association (R69). -/
def bodyMacsecTxAn (c : Cmd) (s : State) : CmdRes :=
  handle s c 8 9 (fun p =>
    let m := (s.port p).macsec
    chk (decide (p ≤ 5) && decide (c.u 12 1 ≤ 3)) stBadParam (ownRes s c 9 p (
      chk (tblGet m.txSa (c.u 12 1)).isSome stWrongState (
        okS (setMacsec s p { m with txAn := c.u 12 1, exhausted := m.spent (c.u 12 1) })))))
/-- MACSEC_TX_AN (R67, R394). -/
def execMacsecTxAn (d : Desc) (s : State) : Res := cmdRow iMacsecTxAn d bodyMacsecTxAn s

/-- Facts of MACSEC_SA_DEL (R394). -/
def iMacsecSaDel : CmdInfo := { op := 0x0312, p0 := true, bytes := [(8, 4), (12, 1), (13, 1)], chg := .handle, svc := false }
/-- MACSEC_SA_DEL (R67). -/
def bodyMacsecSaDel (c : Cmd) (s : State) : CmdRes :=
  handle s c 8 9 (fun p =>
    let m := (s.port p).macsec
    let dir := c.u 13 1
    chk (decide (p ≤ 5) && decide (c.u 12 1 ≤ 3) && decide (dir ≤ 1)) stBadParam (ownRes s c 9 p (
      chk (!(dir == 0 && m.txAn == c.u 12 1 && (tblGet m.txSa m.txAn).isSome)) stWrongState (
        okS (setMacsec s p (m.setTable dir (tblDel (m.table dir) (c.u 12 1))))))))
/-- MACSEC_SA_DEL (R67, R394). -/
def execMacsecSaDel (d : Desc) (s : State) : Res := cmdRow iMacsecSaDel d bodyMacsecSaDel s

/-- Facts of MACSEC_CFG (R394). -/
def iMacsecCfg : CmdInfo := { op := 0x0313, p0 := true, bytes := [(8, 4), (12, 1), (14, 2)], chg := .handle, svc := false }
/-- MACSEC_CFG (R66). -/
def bodyMacsecCfg (c : Cmd) (s : State) : CmdRes :=
  handle s c 8 9 (fun p =>
    chk (decide (p ≤ 5) && decide (c.u 12 1 ≤ 1) && decide (c.u 14 2 ≤ 1024)) stBadParam (ownRes s c 9 p (
      okS (setMacsec s p { (s.port p).macsec with enable := c.u 12 1 == 1, replay := c.u 14 2 }))))
/-- MACSEC_CFG (R66, R394). -/
def execMacsecCfg (d : Desc) (s : State) : Res := cmdRow iMacsecCfg d bodyMacsecCfg s

/-- Facts of MACSEC_STATUS (R394). -/
def iMacsecStatus : CmdInfo := { op := 0x0314, bytes := [(8, 4)] }
/-- MACSEC_STATUS (R394). -/
def bodyMacsecStatus (c : Cmd) (s : State) : CmdRes :=
  handle s c 8 9 (fun p =>
    chk (decide (p ≤ 5)) stBadParam (readRes s c 9 p (
      let m := (s.port p).macsec
      let cur := (tblGet m.txSa m.txAn).getD {}
      .ok (leBytes 1 m.txAn ++ leBytes 1 (listMask (m.txSa.map Prod.fst) + 16 * listMask (m.rxSa.map Prod.fst)) ++ leBytes 1 cur.suite
          ++ leBytes 1 (b2n m.enable) ++ zeros 4 ++ leBytes 8 cur.nextPn) [] s)))
/-- MACSEC_STATUS (R394). -/
def execMacsecStatus (d : Desc) (s : State) : Res := cmdRow iMacsecStatus d bodyMacsecStatus s

end Sys2Proof.Machine
end

