-- ==== Sys2Proof/Machine/SwitchCmds.lean ====
section
/-!
DEFINITION. The commands of the switch core and of scheduling, groups 0x04xx and 0x06xx (R73 to R95, R124 to R144, R396, R398), and of
events, group 0x0Cxx (R365, R368, R373, R405).
-/
namespace Sys2Proof.Machine

/-- Facts of PORT_CFG (R396). -/
def iPortCfg : CmdInfo :=
  { op := 0x0400, bytes := [(8, 4), (12, 2), (14, 2), (16, 1), (17, 1), (20, 4), (24, 2)], bits := [(17, 1, 1), (20, 4, 0xFFFFFF)], chg := .handle }
/-- PORT_CFG (R73 to R79): MAX_FRAME of ports 0, 1 and 14 is 2,048, of the others 64 to 2,048. -/
def bodyPortCfg (c : Cmd) (s : State) : CmdRes :=
  handle s c 8 9 (fun p =>
    let mx := c.u 12 2
    chk ((if p = 0 ∨ p = 1 ∨ p = 14 then mx == 2048 else within 64 2048 mx) && within 1 4094 (c.u 14 2) && decide (c.u 16 1 < 8)
        && decide (c.u 17 1 ≤ 1) && decide (c.u 20 4 < 2 ^ 24) && decide (c.u 24 2 < 1024)) stBadParam (ownRes s c 9 p (
      okS (s.setPort p { s.port p with
        maxFrame := mx, pvid := c.u 14 2, defClass := c.u 16 1, learn := c.u 17 1 == 1
        pcpMap := (List.range 8).map (fun k => bitsAt (c.u 20 4) (3 * k) 3), floodSet := c.u 24 2 }))))
/-- PORT_CFG (R79, R396). -/
def execPortCfg (d : Desc) (s : State) : Res := cmdRow iPortCfg d bodyPortCfg s

/-- TARGET suits KIND (R75). -/
def fdbTargetOk (kind target : Nat) : Bool :=
  (kind == 1 && (decide (target ≤ 13) || target == 15)) || (kind == 2 && decide (target < 4096)) || (kind == 3 && within 1 1023 target)

/-- The way for a written entry: a static one needs its own entry or a free way (R76). -/
def fdbWriteWay (s : State) (set mac vlan : Nat) (static : Bool) : Option Nat :=
  if static then
    ((List.range 4).find? (fun w => match tblGet s.sw.fdb (4 * set + w) with
      | some e => e.mac == mac && e.vlan == vlan && e.kind != 0
      | none => false)).orElse (fun _ => (List.range 4).find? (fun w => match tblGet s.sw.fdb (4 * set + w) with
      | some e => e.kind == 0
      | none => true))
  else fdbWay s set mac vlan

/-- Facts of FDB_WRITE (R396). -/
def iFdbWrite : CmdInfo := { op := 0x0401, p0 := true, bytes := [(8, 16)], bits := [(14, 2, 0xFFF), (17, 1, 3), (22, 2, 0)] }
/-- FDB_WRITE (R75, R76): the MAC stands in transmission order, AGE is ignored. -/
def bodyFdbWrite (c : Cmd) (s : State) : CmdRes :=
  let e : FdbEntry := { mac := beNat (c.bytes 8 6), vlan := c.u 14 2, kind := c.u 16 1, static := bitAt (c.u 17 1) 0
                        discard := bitAt (c.u 17 1) 1, target := c.u 18 2, seenAt := s.lt / 1000000000 }
  chk (within 1 4094 e.vlan && decide (c.u 17 1 ≤ 3) && fdbTargetOk e.kind e.target && c.u 22 2 == 0) stBadParam (
    let set := Config.fdbHash e.mac e.vlan % 4096
    match fdbWriteWay s set e.mac e.vlan e.static with
    | some w => .ok (resOf [(0, 2, 4 * set + w)]) [] (fdbPut s (4 * set + w) e)
    | none => .fail stNoResource)
/-- FDB_WRITE (R76, R396). -/
def execFdbWrite (d : Desc) (s : State) : Res := cmdRow iFdbWrite d bodyFdbWrite s

/-- Facts of FDB_DELETE (R396). -/
def iFdbDelete : CmdInfo := { op := 0x0402, p0 := true, bytes := [(8, 6), (14, 2)] }
/-- FDB_DELETE (R75, R396): MAC is a parameter, little-endian as R5 has it. -/
def bodyFdbDelete (c : Cmd) (s : State) : CmdRes :=
  let mac := c.u 8 6
  chk (within 1 4094 (c.u 14 2)) stBadParam (
    .ok (resOf [(0, 1, b2n (fdbFind s mac (c.u 14 2)).isSome)]) [] (fdbDrop s (fun e => e.mac == mac && e.vlan == c.u 14 2)))
/-- FDB_DELETE (R396). -/
def execFdbDelete (d : Desc) (s : State) : Res := cmdRow iFdbDelete d bodyFdbDelete s

/-- A database entry as it is read (R75). -/
def fdbBytes (s : State) (e : FdbEntry) : List Byte :=
  beBytes 6 e.mac ++ leBytes 2 e.vlan ++ leBytes 1 e.kind ++ leBytes 1 (b2n e.static + 2 * b2n e.discard) ++ leBytes 2 e.target
    ++ leBytes 2 (s.ageOf e) ++ zeros 2

/-- Facts of FDB_READ (R396). -/
def iFdbRead : CmdInfo := { op := 0x0403, bytes := [(8, 2)], bulk := .yes }
/-- FDB_READ (R385, R396): as many valid entries as fit; NEXT is the index after the last one copied. -/
def bodyFdbRead (c : Cmd) (s : State) : CmdRes :=
  chk (decide (c.u 8 2 < 16384) && c.len % 16 == 0 && c.len != 0) stBadParam (chk c.owned stNotOwner (
    let l := s.sw.fdb.filter (fun e => decide (c.u 8 2 ≤ e.1) && e.2.kind != 0)
    let t := l.take (c.len / 16)
    let next := if t.length < l.length then (t.getLast?.map Prod.fst).getD 0 + 1 else 0xFFFF
    .ok (resOf [(0, 2, t.length), (2, 2, next)]) (t.flatMap (fun e => fdbBytes s e.2)) s))
/-- FDB_READ (R396). -/
def execFdbRead (d : Desc) (s : State) : Res := cmdRow iFdbRead d bodyFdbRead s

/-- Facts of FDB_FLUSH (R396). -/
def iFdbFlush : CmdInfo := { op := 0x0404, p0 := true, bytes := [(8, 1), (9, 1)], bits := [(8, 1, 1)] }
/-- FDB_FLUSH (R396): the ring ports are one destination (R76). -/
def bodyFdbFlush (c : Cmd) (s : State) : CmdRes :=
  let p := c.u 9 1
  chk (decide (c.u 8 1 ≤ 1) && (p == 0xFF || decide (p < 16))) stBadParam (
    let mine := fun (e : FdbEntry) => (c.u 8 1 == 0 || !e.static)
      && (p == 0xFF || (e.kind == 1 && (e.target == p || (decide (p ≤ 1) && decide (e.target ≤ 1)))))
    .ok (resOf [(0, 4, (s.sw.fdb.filter (fun e => mine e.2)).length)]) [] (fdbDrop s mine))
/-- FDB_FLUSH (R396). -/
def execFdbFlush (d : Desc) (s : State) : Res := cmdRow iFdbFlush d bodyFdbFlush s

/-- Destinations of a set: the ring counted once, its ports, its queues (R78). -/
def destCount (mask qcount : Nat) : Nat :=
  b2n (bitAt mask 0 || bitAt mask 1) + ((maskList 16 mask).filter (fun p => decide (p ≥ 2))).length + qcount

/-- Facts of DSET_WRITE (R396). -/
def iDsetWrite : CmdInfo := { op := 0x0405, p0 := true, bytes := [(8, 2), (16, 40)], bits := [(16, 2, 0xBFFF), (19, 1, 0), (52, 4, 0)] }
/-- DSET_WRITE (R77, R78). -/
def bodyDsetWrite (c : Cmd) (s : State) : CmdRes :=
  let mask := c.u 16 2
  let n := c.u 18 1
  let q := (List.range 16).map (fun k => c.u (20 + 2 * k) 2)
  chk (within 1 1023 (c.u 8 2) && !bitAt mask 14 && decide (n ≤ 16) && c.u 19 1 == 0 && (q.take n).all (fun x => decide (x < 4096))
      && (q.drop n).all (· == 0) && c.u 52 4 == 0 && decide (destCount mask n ≤ 16)) stBadParam (
    okS { s with sw := { s.sw with dsets := tblSet s.sw.dsets (c.u 8 2) { mask := mask, queues := q.take n } } })
/-- DSET_WRITE (R78, R396). -/
def execDsetWrite (d : Desc) (s : State) : Res := cmdRow iDsetWrite d bodyDsetWrite s

/-- Facts of STREAM_WRITE (R396). -/
def iStreamWrite : CmdInfo := { op := 0x0406, bytes := [(8, 4)], bulk := .yes, chg := .handle }
/-- STREAM_WRITE (R80, R139): the hub fills OWNER and the bucket. -/
def bodyStreamWrite (c : Cmd) (s : State) : CmdRes :=
  handle s c 8 8 (fun e =>
    let b := c.bulk
    let fl := leAt b 30 2
    let x : Stream := { mode := leAt b 0 1 % 4, cls := leAt b 1 1 % 8, vlan := leAt b 2 2 % 4096, dmac := leAt b 4 6, ingress := leAt b 10 2
                        grtAddr := leAt b 12 8, grtMask := leAt b 20 8, dest := leAt b 28 2, police := bitAt fl 0, sduEn := bitAt fl 1
                        noCut := bitAt fl 2, cir := leAt b 32 4, cbs := leAt b 36 4, maxSdu := leAt b 40 2, owner := c.p
                        tokens := leAt b 36 4 * 16777216, filledAt := s.lt }
    chk (c.len == 64 && x.mode != 3 && x.ingress != 0 && (x.dest == 0xFFFF || decide (x.dest < 1024)) && decide (x.cir ≤ 10000000)
        && within 64 16777215 x.cbs) stBadParam (chk c.owned stNotOwner (ownRes s c 8 e (okS (s.setStream e x)))))
/-- STREAM_WRITE (R80, R396). -/
def execStreamWrite (d : Desc) (s : State) : Res := cmdRow iStreamWrite d bodyStreamWrite s

/-- A stream entry as it is read (R80). -/
def Stream.bytes (x : Stream) : List Byte :=
  leBytes 1 x.mode ++ leBytes 1 x.cls ++ leBytes 2 x.vlan ++ leBytes 6 x.dmac ++ leBytes 2 x.ingress ++ leBytes 8 x.grtAddr
    ++ leBytes 8 x.grtMask ++ leBytes 2 x.dest ++ leBytes 2 (b2n x.police + 2 * b2n x.sduEn + 4 * b2n x.noCut) ++ leBytes 4 x.cir
    ++ leBytes 4 x.cbs ++ leBytes 2 x.maxSdu ++ leBytes 2 x.owner ++ zeros 20

/-- Facts of STREAM_READ (R396). -/
def iStreamRead : CmdInfo := { op := 0x0407, bytes := [(8, 4)], bulk := .yes }
/-- STREAM_READ (R80). -/
def bodyStreamRead (c : Cmd) (s : State) : CmdRes :=
  handle s c 8 8 (fun e => chk (c.len == 64) stBadParam (chk c.owned stNotOwner (readRes s c 8 e (.ok [] (s.stream e).bytes s))))
/-- STREAM_READ (R396). -/
def execStreamRead (d : Desc) (s : State) : Res := cmdRow iStreamRead d bodyStreamRead s

/-- Facts of LIMIT_SET (R396). -/
def iLimitSet : CmdInfo := { op := 0x0408, bytes := [(8, 4), (12, 1), (16, 4)], chg := .handle }
/-- LIMIT_SET (R89, R90). -/
def bodyLimitSet (c : Cmd) (s : State) : CmdRes :=
  handle s c 8 9 (fun p =>
    let k := c.u 12 1
    let x := s.port p
    chk ((k == 0xFF || decide (k < 8)) && decide (c.u 16 4 ≤ 4194304)) stBadParam (ownRes s c 9 p (
      okS (s.setPort p (if k = 0xFF then { x with ingLimit := c.u 16 4 } else { x with egrLimit := listSet x.egrLimit k (c.u 16 4) })))))
/-- LIMIT_SET (R89, R396). -/
def execLimitSet (d : Desc) (s : State) : Res := cmdRow iLimitSet d bodyLimitSet s

/-- Facts of POOL_SET (R396). -/
def iPoolSet : CmdInfo := { op := 0x0409, p0 := true, bytes := [(8, 4), (12, 1), (16, 4)] }
/-- POOL_SET (R89, R100). -/
def bodyPoolSet (c : Cmd) (s : State) : CmdRes :=
  chk (decide (c.u 8 4 ≤ 65536) && decide (c.u 12 1 ≤ 7) && decide (c.u 16 4 ≤ 65536)) stBadParam (
    okS { s with pool := { s.pool with reserve := c.u 8 4, reserveMinClass := c.u 12 1, pinKeep := c.u 16 4 } })
/-- POOL_SET (R89, R100, R396). -/
def execPoolSet (d : Desc) (s : State) : Res := cmdRow iPoolSet d bodyPoolSet s

/-- Facts of AGE_SET (R396). -/
def iAgeSet : CmdInfo := { op := 0x040A, p0 := true, bytes := [(8, 1), (12, 4), (16, 4)] }
/-- AGE_SET (R76, R91): FDB_AGE 0 leaves it unchanged. -/
def bodyAgeSet (c : Cmd) (s : State) : CmdRes :=
  let f := c.u 16 4
  chk (decide (c.u 8 1 ≤ 7) && within 1 16777215 (c.u 12 4) && (f == 0 || within 10 65535 f)) stBadParam (
    okS { s with sw := { s.sw with ageLimit := listSet s.sw.ageLimit (c.u 8 1) (c.u 12 4), fdbAge := if f = 0 then s.sw.fdbAge else f } })
/-- AGE_SET (R91, R396). -/
def execAgeSet (d : Desc) (s : State) : Res := cmdRow iAgeSet d bodyAgeSet s

/-- An enabled rule other than `r` samples into queue `q`. -/
def State.canaryUses (s : State) (r q : Nat) : Bool := s.sw.canaries.any (fun e => e.1 != r && e.2.enable && e.2.queue == q)

/-- The tap leaves a queue that no other enabled rule samples into (R105). -/
def canaryLeave (s : State) (r : Nat) : State :=
  let x := s.canary r
  if x.enable && (s.queue x.queue).fwUse == 0 && !s.canaryUses r x.queue then bindProd s x.queue .none else s

/-- Facts of CANARY_SET (R396). -/
def iCanarySet : CmdInfo := { op := 0x040B, bytes := [(8, 1), (16, 16)], bits := [(16, 1, 3), (19, 1, 0), (24, 8, 0)] }
/-- CANARY_SET (R92 to R94, R105): an enabled rule binds the tap as producer of its queue. -/
def bodyCanarySet (c : Cmd) (s : State) : CmdRes :=
  let r := c.u 8 1
  let fl := c.u 16 1
  let q := c.u 22 2
  let x : Canary := { enable := bitAt fl 0, dir := b2n (bitAt fl 1), port := c.u 17 1, classMask := c.u 18 1, n := c.u 20 2, queue := q
                      holder := if bitAt fl 0 then some c.p else none }
  let old := s.canary r
  chk (decide (r < 64) && decide (fl ≤ 3) && decide (x.port < 16) && c.u 19 1 == 0 && c.u 24 8 == 0 && x.classMask != 0 && x.n != 0
      && decide (q < 4096) && (s.owns c.p 5 q && (s.queue q).fwUse == 0 || (s.queue q).fwUse == 3)) stBadParam (
  chk (s.owns c.p 9 x.port && !(old.enable && old.holder != some c.p)) stNotOwner (
    let s := canaryLeave s r
    let free := !x.enable || (s.queue q).fwUse == 3 || s.canaryUses r q
    chkSt (if free then stOk else prodBindStatus s q .canary) (
      okS ((if free then s else bindProd s q .canary).setCanary r x))))
/-- CANARY_SET (R92, R396). -/
def execCanarySet (d : Desc) (s : State) : Res := cmdRow iCanarySet d bodyCanarySet s

/-- GATE_EN of a port changed (R134). -/
def setGate (x : Port) (on : Bool) (now : Nat) : Port :=
  if on then { x with gateEn := true, gateOffAt := none, switchAt := if !x.gateEn && x.adminRoster.isSome then some x.adminTa else x.switchAt }
  else match x.operRoster with
    | some r => if x.gateEn then { x with gateOffAt := some (r.boundary now) } else x
    | none => { x with gateEn := false, gateOffAt := none }

/-- STRICT_COUNT of a port changed: the deficits of the classes that move into or out of the weighted group are 0, and rr returns to
the highest class of the new group (R129). -/
def regroup (x : Port) (k : Nat) : Port :=
  { x with strictCount := k, rr := 0, freshRr := List.replicate 8 true
           deficit := (List.range 8).map (fun c => if decide (c + x.strictCount ≤ 7) == decide (c + k ≤ 7) then x.deficit.getD c 0 else 0) }

/-- Facts of SCHED_SET (R398). -/
def iSchedSet : CmdInfo := { op := 0x0600, bytes := [(8, 4), (12, 1), (13, 1), (14, 1), (16, 4), (20, 8)], chg := .handle }
/-- SCHED_SET (R124, R125, R134): of port 14 only OVERHEAD is used. -/
def bodySchedSet (c : Cmd) (s : State) : CmdRes :=
  handle s c 8 9 (fun p =>
    let x := s.port p
    let w := (c.bytes 20 8).map BitVec.toNat
    chk (decide (-64 ≤ c.i 12 1)
        && (if p = 14 then c.u 13 1 == 0 && c.u 14 1 == 0 && c.u 16 4 == 0 && c.u 20 8 == 0
            else decide (c.u 13 1 ≤ 4) && decide (c.u 14 1 ≤ 1) && decide (c.u 16 4 ≤ 16777215) && w.all (· != 0))) stBadParam (
    ownRes s c 9 p (
      if p = 14 then okS (s.setPort p { x with overhead := c.i 12 1 })
      else
        let y := { x with overhead := c.i 12 1, lateLimit := c.u 16 4, weight := w }
        let y := if x.strictCount = c.u 13 1 then y else regroup y (c.u 13 1)
        okS (s.setPort p (setGate y (c.u 14 1 == 1) s.work)))))
/-- SCHED_SET (R125, R398). -/
def execSchedSet (d : Desc) (s : State) : Res := cmdRow iSchedSet d bodySchedSet s

/-- The roster that a descriptor and its entries give (R130, R131). -/
def rosterOf (b : List Byte) : Roster :=
  { base := leAt b 0 6 * 1000000000 + leAt b 8 4 % 2 ^ 30, cycle := leAt b 12 4, switchNow := bitAt (leAt b 18 2) 0
    entries := entriesOf (b.drop 32) 4 (leAt b 16 2) (fun e => { gates := leAt e 0 1, interval := leAt e 1 3 }) }

/-- Facts of ROSTER_SET (R398). -/
def iRosterSet : CmdInfo := { op := 0x0601, bytes := [(8, 4)], bulk := .yes, chg := .handle }
/-- ROSTER_SET (R131, R134): the completion reports X. -/
def bodyRosterSet (c : Cmd) (s : State) : CmdRes :=
  handle s c 8 9 (fun p =>
    let n := leAt c.bulk 16 2
    let r := rosterOf c.bulk
    chk (decide (p ≠ 14) && within 1 1024 n && c.len == 32 + 4 * n && decide (leAt c.bulk 8 4 % 2 ^ 30 ≤ 999999999)
        && within 1000 1000000000 r.cycle && r.cycle % 8 == 0 && r.entries.all (fun e => e.interval != 0)) stBadParam (
    chk c.owned stNotOwner (ownRes s c 9 p (
      let x := switchInstant (s.port p) r s.work
      .ok (resOf [(0, 8, x.2 / 1000000000), (8, 4, x.2 % 1000000000)]) []
        (s.setPort p { s.port p with adminRoster := some r, adminTa := x.1, switchAt := some x.2 })))))
/-- ROSTER_SET (R134, R398). -/
def execRosterSet (d : Desc) (s : State) : Res := cmdRow iRosterSet d bodyRosterSet s

/-- A roster as it is read (R130, R131). -/
def Roster.bytes (r : Roster) : List Byte :=
  leBytes 8 (r.base / 1000000000) ++ leBytes 4 (r.base % 1000000000) ++ leBytes 4 r.cycle ++ leBytes 2 r.entries.length
    ++ leBytes 2 (b2n r.switchNow) ++ zeros 12 ++ r.entries.flatMap (fun e => leBytes 1 e.gates ++ leBytes 3 e.interval)

/-- Facts of ROSTER_READ (R398). -/
def iRosterRead : CmdInfo := { op := 0x0602, bytes := [(8, 4), (12, 1)], bulk := .yes }
/-- ROSTER_READ (R131, R385): nothing is written for a roster that does not exist. -/
def bodyRosterRead (c : Cmd) (s : State) : CmdRes :=
  handle s c 8 9 (fun p =>
    let r := if c.u 12 1 = 0 then (s.port p).operRoster else (s.port p).adminRoster
    let b := match r with | some r => r.bytes | none => []
    chk (decide (c.u 12 1 ≤ 1) && c.len % 8 == 0 && decide (c.len ≤ 4128)) stBadParam (chk c.owned stNotOwner (readRes s c 9 p (
      chk (decide (b.length ≤ c.len)) stNoResource (
        .ok (resOf [(0, 2, match r with | some r => r.entries.length | none => 0)]) b s)))))
/-- ROSTER_READ (R398). -/
def execRosterRead (d : Desc) (s : State) : Res := cmdRow iRosterRead d bodyRosterRead s

/-- The sampled object that a handle and CLASS name (R141); none when it is not one. -/
def sampleObj (s : State) (c : Cmd) : Option (Nat × Nat × Nat) :=
  match localRes s c.p (c.u 8 4) with
  | some (9, p) => if p ≠ 14 ∧ c.u 12 1 < 8 then some (9, p, 8 * p + c.u 12 1) else none
  | some (5, q) => if c.u 12 1 = 0 then some (5, q, 128 + q) else none
  | _ => none

/-- The sum of the sampling rates as a fraction of samples per µs (R141). -/
def rateSum (l : List Nat) : Nat × Nat := l.foldl (fun a p => (a.1 * p + a.2, a.2 * p)) (0, 1)

/-- The record of an object cleared (R143, R144). -/
def Sampler.clear (x : Sampler) : Sampler :=
  { x with samples := 0, depthMin := 0xFFFFFFFF, depthMax := 0, sojMin := 0xFFFFFFFF, sojMax := 0, depthHist := List.replicate 16 0
           sojHist := List.replicate 16 0 }

/-- Facts of SAMPLE_CFG (R398). -/
def iSampleCfg : CmdInfo := { op := 0x0603, bytes := [(8, 4), (12, 1), (13, 1), (16, 4), (20, 4), (24, 4)], bits := [(13, 1, 3)], chg := .handle }
/-- SAMPLE_CFG (R141, R143): at most 256 samples per µs in all; partition 0 may sample firmware's queues (R105). -/
def bodySampleCfg (c : Cmd) (s : State) : CmdRes :=
  match sampleObj s c with
  | none => .fail stBadParam
  | some (cls, i, obj) =>
    let m := c.u 13 1
    let per := c.u 16 4
    chk (decide (m ≤ 3) && decide (per ≤ 1000000) && within 1 16777215 (c.u 20 4) && within 1 16777215 (c.u 24 4)) stBadParam (
    chk (s.owns c.p cls i) stNotOwner (
      let others := (s.sw.samplers.filter (fun e => e.1 != obj && e.2.period != 0)).map (fun e => e.2.period)
      let sum := rateSum (if per = 0 then others else per :: others)
      chk (per == 0 || decide (sum.1 ≤ 256 * sum.2)) stNoResource (
        let x := s.sampler obj
        let same := x.depthMode == bitAt m 0 && x.sojMode == bitAt m 1 && x.uDepth == c.u 20 4 && x.uSoj == c.u 24 4
        let x := if same then x else x.clear
        okS (s.setSampler obj { x with
          period := per, depthMode := bitAt m 0, sojMode := bitAt m 1, uDepth := c.u 20 4, uSoj := c.u 24 4
          lastAt := if per = 0 then x.lastAt else s.work / 1000 / per * per }))))
/-- SAMPLE_CFG (R141, R398). -/
def execSampleCfg (d : Desc) (s : State) : Res := cmdRow iSampleCfg d bodySampleCfg s

/-- The 152-byte record of an object (R144). -/
def Sampler.bytes (x : Sampler) : List Byte :=
  leBytes 4 x.samples ++ leBytes 4 x.depthMin ++ leBytes 4 x.depthMax ++ leBytes 4 x.sojMin ++ leBytes 4 x.sojMax
    ++ x.depthHist.flatMap (leBytes 4) ++ x.sojHist.flatMap (leBytes 4) ++ leBytes 2 (b2n x.depthMode + 2 * b2n x.sojMode) ++ zeros 2

/-- Facts of SAMPLE_READ (R398). -/
def iSampleRead : CmdInfo := { op := 0x0604, bytes := [(8, 4), (12, 1), (13, 1)], bits := [(13, 1, 1)], bulk := .yes }
/-- SAMPLE_READ (R144): with CLEAR, the record is cleared in the cycle of the read. -/
def bodySampleRead (c : Cmd) (s : State) : CmdRes :=
  match sampleObj s c with
  | none => .fail stBadParam
  | some (cls, i, obj) =>
    chk (decide (c.u 13 1 ≤ 1) && c.len == 152) stBadParam (chk c.owned stNotOwner (readRes s c cls i (
      .ok [] (s.sampler obj).bytes (if c.u 13 1 = 1 then s.setSampler obj (s.sampler obj).clear else s))))
/-- SAMPLE_READ (R144, R398). -/
def execSampleRead (d : Desc) (s : State) : Res := cmdRow iSampleRead d bodySampleRead s

/-- Facts of EVQ_SET (R405). -/
def iEvqSet : CmdInfo := { op := 0x0C00, k := true, bytes := [(8, 2), (10, 1)], chg := .queue }
/-- EVQ_SET (R365): delivery moves in one cycle; the queue already bound changes nothing. -/
def bodyEvqSet (c : Cmd) (s : State) : CmdRes :=
  match if c.u 8 2 < 4096 then s.viewQueue c.p (c.u 8 2) else none with
  | none => .fail stBadParam
  | some q =>
    chk (decide (c.u 10 1 ≤ 1)) stBadParam (ownRes s c 5 q (
      if (s.part c.p).evq = some q then okS s
      else
        let x := s.queue q
        chk (!x.enable && x.prod == .none && x.cons == .none) stBusy (
          let s := match (s.part c.p).evq with | some o => bindProd s o .none | none => s
          let s := s.setQueue q { x with prod := .event c.p, cons := .host, hold := c.u 10 1 == 1, pin := true }
          okS (intSettle (s.setPart c.p { s.part c.p with evq := some q, evqHead := 0, evqTail := 0, evqTimes := [], fired := false }) c.p))))
/-- EVQ_SET (R365, R405). -/
def execEvqSet (d : Desc) (s : State) : Res := cmdRow iEvqSet d bodyEvqSet s

/-- Facts of EVT_CFG (R405). -/
def iEvtCfg : CmdInfo := { op := 0x0C01, k := true, bytes := [(8, 4), (12, 2), (14, 2), (16, 2), (18, 1), (20, 2)], chg := .handle }
/-- EVT_CFG (R368): it ends storm state and the current window (R373). -/
def bodyEvtCfg (c : Cmd) (s : State) : CmdRes :=
  handle s c 8 6 (fun e =>
    chk (c.u 14 2 != 0 && c.u 16 2 != 0 && decide (c.u 18 1 ≤ 250)) stBadParam (chk (s.sourceOwner e == some c.p) stNotOwner (
      let x := (s.source e).settle s.lt
      okS (s.setSource e { x with mask := c.u 12 2, stormN := c.u 14 2, stormWin := c.u 16 2, fwd := c.u 18 1, offHi := c.u 20 2
                                  storm := false, after := x.after || x.storm, winAt := none }))))
/-- EVT_CFG (R368, R405). -/
def execEvtCfg (d : Desc) (s : State) : Res := cmdRow iEvtCfg d bodyEvtCfg s

/-- Facts of EVT_STATUS (R405). -/
def iEvtStatus : CmdInfo := { op := 0x0C02, k := true, bytes := [(8, 4)] }
/-- EVT_STATUS (R373, R405). -/
def bodyEvtStatus (c : Cmd) (s : State) : CmdRes :=
  handle s c 8 6 (fun e =>
    chk (s.sourceOwner e == some c.p || (s.subsOf 6 e).contains c.p) stNotOwner (
      let x := (s.source e).settle s.lt
      .ok (resOf [(0, 1, b2n x.storm), (8, 8, if x.storm then x.stormSup else 0)]) [] s))
/-- EVT_STATUS (R373, R405). -/
def execEvtStatus (d : Desc) (s : State) : Res := cmdRow iEvtStatus d bodyEvtStatus s

end Sys2Proof.Machine
end

