-- ==== Sys2Proof/Machine/Access.lean ====
section
/-!
DEFINITION. What an access finds at this hub: the registers of space 0, the shared windows, locks, and the one operation that serves
an access whoever sent it (R40 to R44, R51, R301, R302, R322, R323, R340 to R342, R358, R367, R369, R371, R376); and the register rows.
-/
namespace Sys2Proof.Machine

/-- Implemented size of a space of this hub (R41, R43, R99); 0 where there is none. -/
def State.spaceSize (s : State) (space : Nat) : Nat :=
  if space = 0 ∨ space = 1 then 65536
  else if space = 2 then 1048576
  else if space = 3 then 33554432
  else if space = 4 then 1572864
  else if space = 5 then (if s.assay.fitted then 262144 else 0)
  else if space = 6 then 4096
  else if space = 7 then s.pool.fittedMiB * 1048576 - s.pool.extCells * 132
  else 0

/-- Kind of an attachment: 0 PCIe, 1 SPI, 2 Ethernet (R301). -/
def attKind (a : Nat) : Nat := if a < 8 then 0 else if a < 12 then 1 else 2

/-- An attachment serves accesses (R302, R308, R313, R315). -/
def State.attUp (s : State) (a : Nat) : Bool :=
  if a < 8 then (s.att a).pcieUp
  else if a < 12 then (s.att a).up
  else (s.host (a - 12)).valid && (s.port (s.host (a - 12)).port).link.up

/-- A register of an attachment block (R302, R305, R327). -/
def attReg (s : State) (a k : Nat) : Nat :=
  let x := s.att a
  if k = 0x00 then a + attKind a * 32 + b2n (s.attUp a) * 128 + x.bound.getD 0 * 256
  else if k = 0x08 then (if a < 8 then x.winBase else 0)
  else if k = 0x10 then (if attKind a = 1 then b2n x.quad else 0)
  else if k = 0x18 then x.rcvStatus
  else if k = 0x20 then x.rcvAddr
  else if k = 0x28 then x.rcvData
  else 0

/-- The recovery register cleared by VALID written 1 (R327). -/
def rcvClear (s : State) (a : Nat) : State := s.setAtt a { s.att a with rcvStatus := 0, rcvAddr := 0, rcvData := 0 }

/-- A write of an attachment block (R302, R305, R327). -/
def attRegWrite (s : State) (a k v : Nat) : State :=
  if k = 0x08 ∧ a < 8 then s.setAtt a { s.att a with winBase := bitsAt v 28 36 * 2 ^ 28 }
  else if k = 0x10 ∧ attKind a = 1 then s.setAtt a { s.att a with quad := bitAt v 0 }
  else if k = 0x18 ∧ bitAt v 0 then rcvClear s a
  else s

/-- FAULT_FIRST (R376). -/
def faultFirst (s : State) (p : Nat) : Nat :=
  let x := s.part p
  b2n x.ffValid + x.ffLevel * 2 + b2n (!s.faults.handling.isEmpty) * 8 + x.ffCode * 256 + x.ffDetail * 65536 + x.ffTime * 2 ^ 32

/-- FAULT_FIRST and FAULT_COUNT cleared by VALID written 1 (R376). -/
def faultClear (s : State) (p : Nat) : State :=
  s.setPart p { s.part p with ffValid := false, ffLevel := 0, ffCode := 0, ffDetail := 0, ffTime := 0, fcCount := 0, fcMax := 0 }

/-- EVQ_CTRL (R367). -/
def evqCtrl (s : State) (p : Nat) : Nat :=
  let x := s.part p
  x.evq.getD 0 + b2n x.evq.isSome * 2 ^ 12 + x.target * 2 ^ 16 + x.vector * 2 ^ 18 + b2n x.fired * 2 ^ 24 + x.countMod * 2 ^ 32
    + x.timeMod * 2 ^ 48

/-- An EVQ_HEAD write (R367, R369): ignored when it moves backward or passes EVQ_TAIL; otherwise it re-arms. -/
def evqHeadReg (s : State) (p v : Nat) : State :=
  let x := s.part p
  let v := v % 4294967296
  let adv := (v + 4294967296 - x.evqHead) % 4294967296
  if adv > x.pendingRecs then s.count cEvqBadWrite p
  else
    let s := s.setPart p { x with evqHead := v, evqTimes := x.evqTimes.drop adv, fired := false, headAt := s.lt }
    testNotify (intSettle s p) p

/-- An EVQ_CTRL write is ignored whole (R367). -/
def evqCtrlBad (s : State) (p v : Nat) : Bool :=
  let t := bitsAt v 16 2
  let n := bitsAt v 32 11
  t == 3 || n == 0 || decide (n > 1024) || (t == 1 && (s.boundAtts p 0 8).isEmpty) || (t == 2 && (s.boundAtts p 8 12).isEmpty)

/-- An EVQ_CTRL write (R367, R369, R370). -/
def evqCtrlReg (s : State) (p v : Nat) : State :=
  if evqCtrlBad s p v then s.count cEvqBadWrite p
  else
    let s := s.setPart p { s.part p with target := bitsAt v 16 2, vector := bitsAt v 18 6, countMod := bitsAt v 32 11, timeMod := bitsAt v 48 16 }
    testNotify (intSettle s p) p

/-- A register of space 0 outside the attachment blocks (R342). -/
def ctrlReg (s : State) (p off : Nat) : Nat :=
  let x := s.part p
  if off = 0x0000 then partInfo s p
  else if off = 0x0008 then devCaps0 x.ktx22
  else if off = 0x0010 then devCaps1 s x.ktx22
  else if off = 0x0018 then fwStatus s
  else if off = 0x0100 then x.sqTail
  else if off = 0x0108 then x.sqHead
  else if off = 0x0110 then x.cqTail
  else if off = 0x0118 then x.cqHead
  else if off = 0x0120 then mbxStatus s p
  else if off = 0x0200 then x.evqHead
  else if off = 0x0208 then x.evqTail
  else if off = 0x0210 then evqCtrl s p
  else if off = 0x0300 then faultFirst s p
  else if off = 0x0308 then x.fcCount + x.fcMax * 2 ^ 32
  else if 0x1000 ≤ off ∧ off < 0x1080 then x.summary.getD ((off - 0x1000) / 8) 0
  else 0

/-- A write of a register of space 0 outside the attachment blocks (R7, R342). -/
def ctrlRegWrite (s : State) (p off v : Nat) : State :=
  if off = 0x0100 then sqTailReg s p v
  else if off = 0x0118 then cqHeadReg s p v
  else if off = 0x0120 then (if bitAt v 1 then s.setPart p { s.part p with doorbellErr := false } else s)
  else if off = 0x0200 then evqHeadReg s p v
  else if off = 0x0210 then evqCtrlReg s p v
  else if off = 0x0300 then (if bitAt v 0 then faultClear s p else s)
  else if 0x1000 ≤ off ∧ off < 0x1080 then
    let i := (off - 0x1000) / 8
    let x := s.part p
    let old := x.summary.getD i 0
    s.setPart p { x with summary := listSet x.summary i (old - (old &&& v)) }
  else s

/-- Attachment whose block holds an offset of space 0 (R302). -/
def attOfOff (off : Nat) : Option Nat := if 0x4000 ≤ off ∧ off < 0x4E00 then some ((off - 0x4000) / 0x80) else none

/-- A read of space 0 by partition `p`: single 8-byte accesses (R302, R342). -/
def ctrlRead (s : State) (p off len : Nat) : Ans :=
  if len ≠ 8 ∨ off % 8 ≠ 0 then ansUr s
  else match attOfOff off with
    | some a => if (s.att a).bound = some p then ansOk s (leBytes 8 (attReg s a (off % 0x80))) else ansCa s
    | none => ansOk s (leBytes 8 (ctrlReg s p off))

/-- A write of space 0 by partition `p` (R302, R342). -/
def ctrlWrite (s : State) (p off : Nat) (d : List Byte) : Ans :=
  if d.length ≠ 8 ∨ off % 8 ≠ 0 then ansUr s
  else match attOfOff off with
    | some a => if (s.att a).bound = some p then ansOk (attRegWrite s a (off % 0x80) (leNat d)) else ansCa s
    | none => ansOk (ctrlRegWrite s p off (leNat d))

/-- The regions let partition `p` read, or write, bytes `off` to `off + len - 1` of space 4 (R340, R341). -/
def sramAllows (s : State) (p off len : Nat) (write : Bool) : Bool :=
  (List.range ((off + len - 1) / 4096 - off / 4096 + 1)).all (fun i =>
    let b := (off / 4096 + i) * 4096
    (List.range 16).any (fun r =>
      let x := s.region r
      decide (x.base ≤ b) && decide (b < x.base + x.size) && (x.owner == p || (!write && bitAt x.readers p))))

/-- The 64-bit words of a space that an access touches hold an uncorrectable data error (R51, R381). -/
def State.dataBad (s : State) (space off len : Nat) : Bool :=
  s.island.badWords.any (fun w => w.1 == space && decide (off / 8 ≤ w.2) && decide (w.2 * 8 < off + len))

/-- A word that a write covers whole holds good data again (R381). -/
def mendWords (s : State) (space off len : Nat) : State :=
  if s.island.badWords.isEmpty then s
  else { s with island := { s.island with
    badWords := s.island.badWords.filter (fun w => !(w.1 == space && decide (off ≤ w.2 * 8) && decide (w.2 * 8 + 8 ≤ off + len))) } }

/-- Data of a memory, or TARGET_ERROR where a word of it holds an uncorrectable error (R51). -/
def memAns (s : State) (space off len : Nat) (d : List Byte) : Ans := if s.dataBad space off len then ⟨5, [], s⟩ else ansOk s d

/-- A read of a space of this hub by partition `p`, within the space's size (R41, R43). -/
def spaceRead (s : State) (a : Acc) (p space off len : Nat) : Ans :=
  if space = 0 then ctrlRead s p off len
  else if space = 1 then mbxRead s p off len
  else if space = 2 then cycleRead s p off len
  else if space = 3 then queueRead a p off len s
  else if space = 4 then (if sramAllows s p off len false then memAns s 4 off len (memRead s.island.sram off len) else ansCa s)
  else if space = 5 then assayRead s p off len
  else if space = 6 then timeRead s p off len
  else if space = 7 then memAns s 7 off len (memRead s.island.ddr off len)
  else ansUr s

/-- A write of a space of this hub by partition `p`, within the space's size (R41, R43). -/
def spaceWrite (s : State) (a : Acc) (p space off : Nat) (d : List Byte) : Ans :=
  if space = 0 then ctrlWrite s p off d
  else if space = 1 then mbxWrite s p off d
  else if space = 2 then cycleWrite s (srcNode s a) p off d
  else if space = 3 then queueWrite p off d s
  else if space = 4 then
    if sramAllows s p off d.length true then ansOk (mendWords { s with island := { s.island with sram := memWrite s.island.sram off d } } 4 off d.length)
    else ansCa s
  else if space = 6 then timeWrite s p off d
  else if space = 7 then ansOk (mendWords { s with island := { s.island with ddr := memWrite s.island.ddr off d } } 7 off d.length)
  else ansUr s

/-- An access as the hub serves it: who, with which partition checked, its GRT type, address, length or data, and tag. -/
structure Tx where
  /-- Requester (R42). -/
  a : Acc
  /-- Partition that the checks use (R42, R301). -/
  p : Nat
  /-- GRT TYPE that the access is or becomes (R50, R316). -/
  kind : Nat
  /-- Address. -/
  addr : RingAddr
  /-- Bytes read, or written. -/
  len : Nat
  /-- Data written. -/
  d : List Byte
  /-- Transaction tag (R322). -/
  tag : Nat

/-- The lock on a granule, if one is held (R322). -/
def State.lockOf (s : State) (space gran : Nat) : Option Lock := s.bridge.locks.find? (fun l => l.space == space && l.gran == gran)

/-- Locks on the granules that an access touches; only spaces 4 and 7 have them (R322). -/
def State.locksIn (s : State) (space off len : Nat) : List Lock :=
  s.bridge.locks.filter (fun l => l.space == space && decide (off / 64 ≤ l.gran) && decide (l.gran ≤ (off + len - 1) / 64))

/-- Locks written. -/
def State.setLocks (s : State) (l : List Lock) : State := { s with bridge := { s.bridge with locks := l } }

/-- A lock is held by this requester's node and partition (R323). -/
def Lock.heldBy (l : Lock) (s : State) (t : Tx) : Bool := l.node == srcNode s t.a && l.part == t.p

/-- Another partition is addressed, or a KTX22 partition leaves its spaces: refused once the form is right (R42, R43, R301, R358). -/
def foreign (s : State) (t : Tx) : Bool :=
  t.addr.part != t.p || ((s.part t.p).ktx22 && !([0, 1, 3, 4, 6].contains t.addr.space))

/-- A served access refused after its form was found right (R43). -/
def guard (s : State) (t : Tx) (r : Ans) : Ans := if r.st = 1 then ansUr s else if foreign s t then ansCa s else r

/-- LOCK_READ at its target (R322, R323). -/
def serveLockRead (s : State) (t : Tx) : Ans :=
  let r := guard s t (spaceRead s t.a t.p t.addr.space t.addr.off t.len)
  if r.st ≠ 0 then r
  else if !(s.locksIn t.addr.space t.addr.off t.len).isEmpty || decide (s.bridge.locks.length ≥ 64) then ⟨3, [], s⟩
  else
    let l : Lock := { space := t.addr.space, gran := t.addr.off / 64, node := srcNode s t.a, part := t.p, tag := t.tag, atNs := s.lt }
    ansOk (r.s.setLocks (r.s.bridge.locks ++ [l])) r.data

/-- WRITE_UNLOCK at its target (R323, R325): length 0 releases without writing. -/
def serveUnlock (s : State) (t : Tx) : Ans :=
  let r := guard s t (if t.len = 0 then spaceRead s t.a t.p t.addr.space t.addr.off 1 else spaceWrite s t.a t.p t.addr.space t.addr.off t.d)
  if r.st ≠ 0 then ⟨r.st, [], s⟩
  else match s.lockOf t.addr.space (t.addr.off / 64) with
    | none => ⟨4, [], s⟩
    | some l =>
      if !(l.heldBy s t && l.tag == t.tag) then ansCa s
      else ansOk (r.s.setLocks (r.s.bridge.locks.filter (fun k => !(k.space == l.space && k.gran == l.gran))))

/-- A read that meets no lock of its own (R323). -/
def serveRead (s : State) (t : Tx) : Ans :=
  let r := guard s t (spaceRead s t.a t.p t.addr.space t.addr.off t.len)
  if r.st = 0 ∧ !(s.locksIn t.addr.space t.addr.off t.len).isEmpty then ⟨3, [], s⟩ else r

/-- A write: a non-posted one waits for the lock, a posted one of another requester is lost (R323). -/
def serveWrite (s : State) (t : Tx) : Ans :=
  let r := guard s t (spaceWrite s t.a t.p t.addr.space t.addr.off t.d)
  let ls := s.locksIn t.addr.space t.addr.off t.len
  if r.st ≠ 0 ∨ ls.isEmpty then r
  else if t.kind = tWriteP then
    if ls.all (fun l => l.heldBy s t) then r else ⟨3, [], raise (s.count cLockWriteLost 0) (srcDiag 333) 3 0⟩
  else ⟨3, [], s⟩

/-- Island that serves a space (R11, R14; log 74). -/
def spaceIsland (space : Nat) : Nat :=
  if space = 2 ∨ space = 3 then 1 else if space = 5 then 10 else if space = 6 then 5 else if space = 7 then 8 else 2

/-- Island that an access comes from: PCIe, SPI, or the switch (R11, R14). -/
def srcIsland (a : Acc) : Nat :=
  match a.att with
  | some k => if attKind k = 0 then 6 else if attKind k = 1 then 7 else 1
  | none => 1

/-- An access served by this hub, whoever sent it: what rescue station mode reaches, partition open, form,
a stopped island, ownership, locks, effect (R14, R42, R43, R51, R322, R330, R501). -/
def serveTx (s : State) (t : Tx) : Ans :=
  let lock := t.kind == tLockRead || t.kind == tWriteUnlock
  if s.boot.rescue ∧ (t.addr.node ≠ 0 ∨ !([0, 1, 4].contains t.addr.space)) then ansUr s
  else if !s.isOpen t.p || !s.isOpen t.addr.part then ansNr s
  else if t.addr.off + t.len > s.spaceSize t.addr.space ∨ (t.len = 0 ∧ t.kind ≠ tWriteUnlock)
      ∨ (lock ∧ t.addr.space ≠ 4 ∧ t.addr.space ≠ 7) then ansUr s
  else if !s.crossable (spaceIsland t.addr.space) then ⟨8, [], holdWord s (srcIsland t.a) (spaceIsland t.addr.space)⟩
  else if t.kind = tLockRead then serveLockRead s t
  else if t.kind = tWriteUnlock then serveUnlock s t
  else if t.kind = tRead then serveRead s t
  else serveWrite s t

/-- A posted write that failed at its target, counted there (R51). -/
def countPosted (r : Ans) : State := r.s.countIf (decide (r.st ≠ 0) && decide (r.st ≠ 8)) cGrtPostedFail 0

/-- EVQ_HEAD write (R369). -/
def execEvqHeadWrite (a : Acc) (v : Nat) (s : State) : Res := .next (accessAs a s (fun s p => ansOk (evqHeadReg s p v))).s

/-- EVQ_CTRL write (R367). -/
def execEvqCtrlWrite (a : Acc) (v : Nat) (s : State) : Res := .next (accessAs a s (fun s p => ansOk (evqCtrlReg s p v))).s

/-- FAULT_FIRST write with VALID 1 (R376). -/
def execFaultFirstClear (a : Acc) (s : State) : Res := .next (accessAs a s (fun s p => ansOk (faultClear s p))).s

/-- RCV_STATUS write with VALID 1, by the partition the attachment is bound to (R302, R327). -/
def execRcvStatusClear (a : Acc) (att : Nat) (s : State) : Res :=
  unit att 28 (accessAs a s (fun s p => if (s.att att).bound = some p then ansOk (rcvClear s att) else ansCa s)).s

end Sys2Proof.Machine
end

