-- ==== Sys2Proof/Machine/Bridge.lean ====
section
/-!
DEFINITION. The bridge: recovery of popped bytes, replies to hosts, requests sent onto the ring with their buffers and ordering,
completions, atomics, retries, and requests received from the ring and from Ethernet hosts (R53, R54, R301, R305, R306, R315 to R328).
-/
namespace Sys2Proof.Machine

/-- The bridge written. -/
def State.setBridge (s : State) (x : Bridge) : State := { s with bridge := x }

/-- A read of a POP register of space 3 that is not speculative (R326). -/
def OutReq.isPop (r : OutReq) : Bool :=
  r.kind == tRead && !r.spec && r.addr.space == 3 && decide (0x100000 ≤ r.addr.off) && decide (r.addr.off < 0x200000) && r.addr.off % 256 == 0

/-- The recovery register is loaded: flags as POP_LAST bits 4 to 6, bytes (R327). On PCIe and SPI unread bytes are never
overwritten, except an UNCERTAIN report by the late completion of the same read (R328). -/
def loadRcv (s : State) (att : Nat) (addr : RingAddr) (data : List Byte) (flags : Nat) (late unc notice : Bool) : State :=
  let x := s.att att
  let held := bitAt x.rcvStatus 0
  let same := late && bitAt x.rcvStatus 1 && x.rcvAddr == addrValue addr
  if held && decide (att < 12) && !same then s
  else
    let s := s.countIf (held && decide (att ≥ 12) && !same) cRcvOverwrite att
    let s := s.setAtt att { x with
      rcvStatus := 1 + b2n unc * 2 + b2n late * 4 + flags % 8 * 8 + data.length * 256
      rcvAddr := addrValue addr, rcvData := leNat data }
    if notice then raise (s.count cPopRecovered att) (srcDiag (256 + att)) 1 0 else s

/-- POP_LAST flags of a pop served by another hub: the completion does not carry them, so they are free (log 5). -/
def freeFlags (s : State) : Nat × State := let (v, s) := s.draw; (v.toNat % 8, s)

/-- The bytes and flags of a pop at this hub (R110): POP_LAST of the requester's key. -/
def popOutcome (s : State) (p : Nat) (r : OutReq) (key : Nat) : Option (Nat × Nat) :=
  match s.viewQueue p (r.addr.off % 0x100000 / 256) with
  | none => none
  | some q => if (s.queue q).popOk then let v := tblGetD (s.queue q).popLast key 0; some (v % 16, v / 16 % 8) else none

/-- A GRT completion's header (R49, R50). -/
def cplHdr (s : State) (part : Nat) (addr : RingAddr) (tag len st typ : Nat) : GrtHdr :=
  hdrOf s tCompletion part addr tag len (beBytes 1 st ++ beBytes 1 typ ++ zeros 6)

/-- The ports a frame of the hub leaves by have room for it in a class (R88, R318). -/
def State.roomOn (s : State) (ports : List Nat) (cls len : Nat) : Bool :=
  let n := cellsFor len
  let all := n * ports.length
  ports.all (fun o => decide ((s.port o).heldEg.getD cls 0 + n ≤ (s.port o).egrLimit.getD cls 0))
    && decide ((s.port 14).heldIng + all ≤ (s.port 14).ingLimit)
    && (decide (s.freeCells > all + s.pool.reserve) || (decide (cls ≥ s.pool.reserveMinClass) && decide (s.freeCells > all)))

/-- A GRT frame with `n` payload bytes finds room on every ring port that carries traffic (R37, R318). -/
def State.ringRoom (s : State) (n : Nat) : Bool := s.roomOn ([0, 1].filter s.canSend) s.ring.clsTrans (46 + n)

/-- A transaction frame leaves for the ring; in pass-through nothing is originated (R31, R48). -/
def sendOut (s : State) (dmac : Nat) (h : GrtHdr) (d : List Byte) : State := if s.passThrough then s else sendVia s qBridgeTx dmac h d

/-- Waiting completions leave, oldest first, while there is room (R318 to R320). -/
def drainCpl : Nat → State → State
  | 0, s => s
  | n + 1, s =>
    match s.bridge.outC with
    | [] => s
    | c :: r =>
      let ok := match c.port with
        | some p => if p ≤ 1 then s.ringRoom c.data.length else s.roomOn [p] s.ring.clsTrans (46 + c.data.length)
        | none => s.ringRoom c.data.length
      if !ok then s
      else
        let s := s.setBridge { s.bridge with outC := r }
        drainCpl n (match c.port with
          | some p => sendToHost s p c.mac c.vid c.hdr c.data
          | none => sendOut s c.mac c.hdr c.data)

/-- A completion of this hub: it takes its reserved place and leaves when there is room (R319). -/
def sendCpl (s : State) (c : OutCpl) : State := drainCpl (s.bridge.outC.length + 1) (s.setBridge { s.bridge with outC := s.bridge.outC ++ [c] })

/-- A completion to an Ethernet host (R315): by its entry's port, with the host's TAG. -/
def hostCpl (s : State) (r : OutReq) (st : Nat) (d : List Byte) : State :=
  let h := s.host (r.att - 12)
  let d := if st = 0 then d else []
  sendCpl s { port := some h.port, mac := h.mac, vid := h.vlan, hdr := cplHdr s r.part r.addr r.hostTag d.length (if st = 7 then 5 else st) r.kind
              data := d }

/-- A reply on a PCIe function or a chip select, from the outcome of R51 (R312, R317). -/
def portReply (s : State) (att len st : Nat) (d : List Byte) : State :=
  if att < 8 then
    if st = 0 then s.emit (.reply att 0 false d)
    else if st = 1 then s.emit (.reply att 1 false [])
    else if st = 5 then s.emit (.reply att 0 true (List.replicate len 0xFF))
    else s.emit (.reply att 2 false [])
  else s.emit (.reply att st false (if st = 0 then d else []))

/-- Bytes that an atomic reads and writes: half its operand for CAS (R324). -/
def OutReq.width (r : OutReq) : Nat := if r.atomic = 3 then r.operand.length / 2 else if r.atomic ≠ 0 then r.operand.length else r.len

/-- The host's side learns the outcome (R313, R317). -/
def replyTo (s : State) (r : OutReq) (st : Nat) (d : List Byte) : State :=
  if r.cut then s
  else if r.kind = tWriteP then s.countIf (decide (st ≠ 0) && attKind r.att == 1) cSpiPostedFail r.att
  else if r.att ≥ 12 then (hostCpl s r st d).countIf (st == 7) cHostProxyTimeout r.att
  else portReply s r.att r.width st d

/-- A part of a split read has its outcome; with the last part the whole read is answered: data in address order, or the status of the
first part that failed (R306). -/
def partDone (s : State) (r : OutReq) (st : Nat) (d : List Byte) : State :=
  if r.cut then s
  else
    let b := if st = 0 then fitBytes r.len d else zeros r.len
    let all := s.bridge.bParts ++ [(r.hostTag, r.base, b, st)]
    let mine := (all.filter (fun e => e.1 == r.hostTag)).foldl (fun l e => insertBy (fun (x : Nat × Nat × List Byte × Nat) => x.2.1) e l) []
    if sumNat (mine.map (fun e => e.2.2.1.length)) < r.total then s.setBridge { s.bridge with bParts := all }
    else
      let s := s.setBridge { s.bridge with bParts := all.filter (fun e => e.1 != r.hostTag) }
      match mine.find? (fun e => e.2.2.2 != 0) with
      | some e => portReply s r.att r.total e.2.2.2 []
      | none => portReply s r.att r.total 0 (mine.flatMap (fun e => e.2.2.1))

/-- Popped bytes that do not reach the host, or that an Ethernet host may lose, are kept; a PCIe completion leaves in this ns (R327, log 44). -/
def keepPop (s : State) (r : OutReq) (st : Nat) (d : List Byte) (popped : Option (Nat × Nat)) : State :=
  if !r.isPop then s
  else if st = 7 ∧ r.att ≥ 8 then loadRcv s r.att r.addr [] 0 false true true
  else if st = 0 ∧ (r.att ≥ 12 ∨ r.cut) then
    match popped with
    | some (n, fl) => loadRcv s r.att r.addr (d.take n) fl false false (decide (r.att < 12))
    | none => s
  else if st = 0 ∧ r.att < 8 then
    s.setAtt r.att { s.att r.att with
      popReply := popped.map (fun e => { lt := s.lt, addr := r.addr, data := d, bytes := e.1, flags := e.2 }) }
  else s

/-- A request ends (R306, R317, R327). -/
def endReq (s : State) (r : OutReq) (st : Nat) (d : List Byte) (popped : Option (Nat × Nat)) : State :=
  let s := keepPop s r st d popped
  if r.read then partDone s r st d else replyTo s r st d

/-- The result of an atomic from the old value (R324); none: a CAS that does not write. -/
def OutReq.result (r : OutReq) (old : List Byte) : List Byte :=
  let n := r.width
  if r.atomic = 1 then leBytes n (leNat old + leNat r.operand)
  else if r.atomic = 2 then r.operand
  else if old == r.operand.take n then r.operand.drop n else []

/-- The second step of an atomic: WRITE_UNLOCK of the result (R324). -/
def OutReq.unlockStep (r : OutReq) (old : List Byte) : OutReq :=
  let d := r.result old
  { r with kind := tWriteUnlock, oldVal := old, data := d, len := d.length, retrySince := 0, retryNow := false }

/-- A transaction that this hub serves for its own attachment (R42, R301, R316). -/
def OutReq.tx (r : OutReq) : Tx :=
  { a := { att := some r.att, part := r.part, spec := r.spec }, p := r.part, kind := r.kind, addr := r.addr, len := r.len, d := r.data, tag := r.tag }

/-- Tags that requests of this hub hold (R54). -/
def State.tagsUsed (s : State) : List Nat :=
  s.ring.outst.map (fun r => r.tag) ++ s.bridge.outNp.map (fun r => r.tag) ++ s.bridge.lockTags.map (fun e => e.2.2)

/-- The least number of `n` from `lo` on that a list does not hold. -/
def leastFree (l : List Nat) (lo n : Nat) : Option Nat := ((List.range n).map (· + lo)).find? (fun t => !l.contains t)

/-- A tag for a request that leaves: not in use, and not of a request whose completion may still be late when one is free (R54; which
free tag is the model's choice, log 40). -/
def State.freeTag (s : State) : Option Nat :=
  match leastFree (s.tagsUsed ++ s.ring.late.map (fun r => r.tag)) 0 1024 with
  | some t => some t
  | none => leastFree s.tagsUsed 0 1024

/-- A key for a request that waits in the hub: above the tags that leave it. -/
def State.freeKey (s : State) : Nat := (leastFree s.tagsUsed 1024 4096).getD 5120

/-- A request of this hub's own attachment met a lock: it waits to be repeated (R323). -/
def waitRetry (s : State) (r : OutReq) : State :=
  let r := { r with retryNow := true, sentAt := s.lt, cells := 0, retrySince := if r.retrySince = 0 then max 1 s.lt else r.retrySince }
  s.setRing { s.ring with outst := s.ring.outst ++ [r] }

/-- The second step of a local atomic (R324). -/
def localUnlock (s : State) (r : OutReq) (old : List Byte) : State :=
  let r := r.unlockStep old
  let a := serveTx s r.tx
  if a.st = 8 then a.s else endReq a.s r a.st (if a.st = 0 then old else []) none

/-- A request with node 0 or this hub's number, served here (R42, R316). -/
def localTry (s : State) (r : OutReq) : State :=
  let a := serveTx s r.tx
  if a.st = 8 then a.s
  else if a.st = 3 ∧ r.kind ≠ tWriteP then waitRetry a.s r
  else if r.atomic ≠ 0 ∧ a.st = 0 then localUnlock a.s r a.data
  else
    let s := if r.kind = tWriteP then countPosted a else a.s
    endReq s r a.st a.data (popOutcome s r.part r r.att)

/-- Cells that a request reserves for its completion (R318, R319). -/
def OutReq.need (r : OutReq) : Nat := cplCells (if r.kind = tRead ∨ r.kind = tLockRead then r.len else 0)

/-- A waiting request may leave: reservation, outstanding limit, room, and no earlier posted write or non-posted request to the same node
(R54, R318 to R320). -/
def mayIssue (s : State) (earlier : List OutReq) (r : OutReq) : Bool :=
  decide (s.bridge.cplIn + r.need ≤ 9216) && decide (s.ring.outst.length < 1024)
    && !s.bridge.outP.any (fun w => w.addr.node == r.addr.node) && !earlier.any (fun e => e.addr.node == r.addr.node)
    && s.ringRoom r.data.length

/-- A non-posted request leaves with tag `tag` (R53, R54, R319, R326). -/
def issue (s : State) (r : OutReq) (tag : Nat) : State :=
  let r := { r with tag := tag, sentAt := s.lt, cells := r.need, retryNow := false }
  let s := s.setBridge { s.bridge with cplIn := s.bridge.cplIn + r.cells }
  let s := s.setRing { s.ring with outst := s.ring.outst ++ [r], late := s.ring.late.filter (fun l => l.tag != tag) }
  let h := hdrOf s r.kind r.part r.addr tag r.len (zeros 8)
  sendOut s (macOfNode s.ring.ringId r.addr.node) { h with flags := 0x40 + b2n r.spec * 0x20 } r.data

/-- The tag a request leaves with: the one it holds, or a free one (R54). -/
def State.tagFor (s : State) (r : OutReq) : Option Nat := if r.tag < 1024 then some r.tag else s.freeTag

/-- A non-posted request enters the bridge: it leaves at once, waits, or waits at its attachment when the buffer is full (R318). -/
def npSubmit (s : State) (r : OutReq) : State :=
  match if mayIssue s s.bridge.outNp r then s.tagFor r else none with
  | some t => issue s r t
  | none =>
    if s.bridge.outNp.length ≥ 1024 then s
    else s.setBridge { s.bridge with outNp := s.bridge.outNp ++ [if r.tag < 1024 then r else { r with tag := s.freeKey }] }

/-- The first waiting request that may leave, those before it, those after it. -/
def firstIssuable (s : State) (before : List OutReq) : List OutReq → Option (OutReq × List OutReq)
  | [] => none
  | r :: rest => if mayIssue s before r then some (r, before ++ rest) else firstIssuable s (before ++ [r]) rest

/-- NP_REQUEST_ISSUE (R319): the first request that fits leaves. -/
def npRun (s : State) : State :=
  match firstIssuable s [] s.bridge.outNp with
  | none => s
  | some (r, rest) =>
    match s.tagFor r with
    | some t => issue (s.setBridge { s.bridge with outNp := rest }) r t
    | none => s

/-- A posted write as a frame (R50). -/
def sendPosted (s : State) (w : Posted) : State :=
  sendOut s (macOfNode s.ring.ringId w.addr.node) (hdrOf s tWriteP w.part w.addr 0 w.data.length (zeros 8)) w.data

/-- Cells in the outbound posted buffer (R318). -/
def Bridge.postedCells (b : Bridge) : Nat := sumNat (b.outP.map (fun w => cplCells w.data.length))

/-- A posted write enters the bridge: it leaves at once, waits, or waits at its attachment when the buffer is full (R318, R320). -/
def postedSubmit (s : State) (r : OutReq) : State :=
  let w : Posted := { addr := r.addr, data := r.data, part := r.part, att := r.att }
  if s.bridge.outP.isEmpty && s.ringRoom r.data.length then sendPosted s w
  else if s.bridge.postedCells + cplCells r.data.length > 512 then s
  else s.setBridge { s.bridge with outP := s.bridge.outP ++ [w] }

/-- POSTED_WRITE_ISSUE (R318): the oldest waiting posted write leaves when there is room. -/
def postedRun (s : State) : State :=
  match s.bridge.outP with
  | [] => s
  | w :: rest => if s.ringRoom w.data.length then sendPosted (s.setBridge { s.bridge with outP := rest }) w else s

/-- A refused broadcast counted and noticed (R44, R51). -/
def bcastRefused (s : State) : State := raise ((s.count cGrtPostedFail 0).count cGrtBcastRefused 0) (srcDiag 332) 3 0

/-- A broadcast write: this hub applies it too (R44). -/
def broadcast (s : State) (r : OutReq) : State :=
  let a := serveTx s r.tx
  let s := if a.st = 0 ∨ a.st = 8 then a.s else bcastRefused a.s
  sendOut s (macAll s.ring.ringId) { hdrOf s tWriteP r.part r.addr 0 r.data.length (zeros 8) with flags := 0x50 } r.data

/-- An access routed by its node field (R43, R316, R358). -/
def route (s : State) (r : OutReq) : State :=
  let n := r.addr.node
  if s.boot.rescue ∧ n ≠ 0 then endReq s r 1 [] none
  else if n = 255 then
    if r.kind = tWriteP ∧ (r.addr.space = 2 ∨ r.addr.space = 6) then broadcast s r else endReq s r 1 [] none
  else if 251 ≤ n then endReq s r 1 [] none
  else if (s.part r.part).ktx22 ∧ n ≠ 0 then endReq s r (if r.addr.space ≥ 8 then 1 else 2) [] none
  else if s.isLocal n then localTry s (if r.tag < 1024 ∨ r.att ≥ 12 then r else { r with tag := s.freeKey })
  else if r.kind = tWriteP then postedSubmit s r
  else npSubmit s r

/-- A request is not accepted yet: its buffer is full, or the island that would serve it is stopped; its attachment waits (R14, R318). -/
def stalls (s : State) (r : OutReq) : Bool :=
  if s.isLocal r.addr.node then (serveTx s r.tx).st == 8
  else if r.kind = tWriteP then
    !(s.bridge.outP.isEmpty && s.ringRoom r.data.length) && decide (s.bridge.postedCells + cplCells r.data.length > 512)
  else !(mayIssue s s.bridge.outNp r && (s.tagFor r).isSome) && decide (s.bridge.outNp.length ≥ 1024)

/-- An accepted access is counted (R329). -/
def countAccess (s : State) (r : OutReq) : State :=
  s.count (if r.atomic ≠ 0 then cAttAtomics else if r.kind = tRead ∨ r.kind = tLockRead then cAttReads else cAttWrites) r.att

/-- An access of an attachment enters the bridge or waits at its attachment; a POP is refused while a recovery is pending on PCIe and SPI (R328, R329). -/
def accept (s : State) (r : OutReq) : State :=
  if r.isPop && decide (r.att < 12) && bitAt (s.att r.att).rcvStatus 0 then
    let s := s.count cPopBlocked r.att
    if r.cut then s else s.emit (if r.att < 8 then .reply r.att 2 false [] else .reply r.att 8 false [])
  else if stalls s r then if s.isLocal r.addr.node then (serveTx s r.tx).s else s
  else
    let s := countAccess s r
    let n := r.width
    if r.atomic ≠ 0 ∧ (r.addr.off % 64 + n > 64) then endReq s r 1 [] none else route s r

/-- A request's key before the bridge gives it a tag. -/
def noTag : Nat := 5120

/-- A remote request has its answer: a lock makes it repeat, the first step of an atomic goes on, otherwise it ends (R317, R323, R324). What
a PCIe function that went down asked for is discarded, but the bytes of a POP that took effect are recovered (R308, R327). -/
def answered (s : State) (r : OutReq) (st : Nat) (d : List Byte) : State :=
  if r.cut ∧ r.att < 8 ∧ !(r.isPop && st == 0) then s
  else if st = 3 then waitRetry s r
  else if r.atomic ≠ 0 ∧ r.kind = tLockRead ∧ st = 0 then issue s (r.unlockStep d) r.tag
  else
    let s := if r.att ≥ 12 ∧ r.kind = tLockRead ∧ st = 0 then
      s.setBridge { s.bridge with lockTags := s.bridge.lockTags ++ [(r.att, r.hostTag, r.tag)] } else s
    let (fl, s) := if r.isPop ∧ st = 0 ∧ (r.att < 8 ∨ 12 ≤ r.att ∨ r.cut) then freeFlags s else (0, s)
    endReq s r st (if r.atomic ≠ 0 then r.oldVal else d) (some (min 8 d.length, fl))

/-- A request leaves the outstanding list, its reservation released (R319). -/
def retire (s : State) (r : OutReq) (rest : List OutReq) : State :=
  (s.setRing { s.ring with outst := rest }).setBridge { s.bridge with cplIn := s.bridge.cplIn - r.cells }

/-- A received completion (R51, R53, R54, R327). -/
def completionIn (s : State) (h : GrtHdr) (d : List Byte) : State :=
  let mine := fun (r : OutReq) => r.tag == h.tag && r.addr.node == h.srcNode
  let st := infoAt h 16 1
  let st := if st > 6 then 5 else st
  match takeFirst (fun r => mine r && !r.retryNow && decide (r.cells > 0)) s.ring.outst with
  | some (r, rest) => answered (retire s r rest) r st d
  | none => match takeFirst mine s.ring.late with
    | some (r, rest) =>
      let s := (s.setRing { s.ring with late := rest }).count cGrtLateCpl 0
      if r.isPop && st == 0 && decide (r.att ≥ 8) then
        let (fl, s) := freeFlags s
        loadRcv s r.att r.addr (d.take 8) fl true false true
      else s
    | none => s.count cGrtUnexpCpl 0

/-- COMPLETION (R54). -/
def execCompletion (f : GrtFrame) (s : State) : Res := .next (grtServe s tCompletion f (fun s => completionIn s f.hdr f.payload))

/-- A completion timeout expires (R53, R327). -/
def timeoutReq (s : State) (tag : Nat) : State :=
  match takeFirst (fun (r : OutReq) => r.tag == tag && !r.retryNow && decide (r.cells > 0)
      && decide (s.lt ≥ r.sentAt + s.ring.cplTimeout * 100000)) s.ring.outst with
  | some (r, rest) =>
    let s := retire s r rest
    endReq (s.setRing { s.ring with late := s.ring.late ++ [r] }) r 7 [] none
  | none => s

/-- Barriers whose token has not come back in time end with TIMEOUT (R71). -/
def timeoutBarriers (s : State) : State :=
  let due := fun (b : BarrierRun) => decide (s.lt ≥ b.sentAt + s.ring.cplTimeout * 100000)
  let l := s.ring.barriers.filter due
  let s := s.setRing { s.ring with barriers := s.ring.barriers.filter (fun b => !due b) }
  forEach l s (fun b s => finishBegun s b.part 0x0304 b.cmdTag stTimeout (leBytes 1 0))

/-- GRT_TIMEOUT (R53). -/
def execGrtTimeout (tag : Nat) (s : State) : Res := .next (drillTimeouts (timeoutBarriers (timeoutReq s tag)))

/-- A request refused by a lock is repeated after 1 µs, until LOCK_TIMEOUT + 10 µs have passed (R323). -/
def retryReq (s : State) (tag : Nat) : State :=
  match takeFirst (fun (r : OutReq) => r.tag == tag && r.retryNow && decide (s.lt ≥ r.sentAt + 1000)) s.ring.outst with
  | none => s
  | some (r, rest) =>
    let s := s.setRing { s.ring with outst := rest }
    if s.lt ≥ r.retrySince + s.bridge.lockTimeout * 1000 + 10000 then endReq s r 3 [] none
    else
      let s := s.count cLockRetries r.att
      let r := { r with retryNow := false }
      if s.isLocal r.addr.node then localTry s r else npSubmit s r

/-- LOCK_RETRY (R323). -/
def execLockRetry (tag : Nat) (s : State) : Res := .next (retryReq s tag)

/-- LOCK_TIMEOUT_EXPIRY: a lock held for LOCK_TIMEOUT is broken (R325). -/
def execLockTimeoutExpiry (space : Nat) (gran : Nat) (s : State) : Res :=
  .next (match s.lockOf space gran with
    | some l =>
      if s.lt ≥ l.atNs + s.bridge.lockTimeout * 1000 then
        (s.setLocks (s.bridge.locks.filter (fun k => !(k.space == space && k.gran == gran)))).count cLockBrokenCount 0
      else s
    | none => s)

/-- NP_REQUEST_ISSUE (R319). -/
def execNpRequestIssue (s : State) : Res := .next (npRun (drainCpl s.bridge.outC.length s))

/-- POSTED_WRITE_ISSUE (R318). -/
def execPostedWriteIssue (s : State) : Res := .next (postedRun (drainCpl s.bridge.outC.length s))

/-- The Ethernet host that sent a GRT frame: a bound entry whose MAC, port and VLAN match (R301, R315). -/
def State.hostOf (s : State) (f : GrtFrame) : Option Nat :=
  (List.range 16).find? (fun e =>
    let h := s.host e
    h.valid && h.mac == f.smac && h.port == f.port && h.vlan == f.vid && (!h.macsecReq || f.macsec) && (s.att (12 + e)).bound.isSome)

/-- A request of a ring node as an access (R42, R50). -/
def nodeTx (f : GrtFrame) : Tx :=
  let h := f.hdr
  { a := { node := h.srcNode, part := h.srcPart, spec := bitAt h.flags 5 }, p := h.srcPart, kind := h.typ, addr := h.addr
    len := h.len, d := f.payload, tag := h.tag }

/-- A request of a ring node, served as SRC_PART (R42, R43, R51). -/
def serveNode (s : State) (f : GrtFrame) : State :=
  let h := f.hdr
  let t := nodeTx f
  if h.typ = tWriteP then
    if bitAt h.flags 4 then
      if h.addr.space = 2 ∨ h.addr.space = 6 then
        let r := serveTx s t
        if r.st = 0 ∨ r.st = 8 then r.s else bcastRefused r.s
      else bcastRefused s
    else countPosted (serveTx s t)
  else
    let r := serveTx s t
    let d := if r.st = 0 ∧ (h.typ = tRead ∨ h.typ = tLockRead) then r.data else []
    if r.st = 8 then r.s else sendCpl r.s { mac := macOfNode s.ring.ringId h.srcNode, hdr := cplHdr s h.srcPart h.addr h.tag d.length r.st h.typ, data := d }

/-- Requests of an attachment that wait or are outstanding (R315). -/
def State.reqsOf (s : State) (att : Nat) : Nat := ((s.ring.outst ++ s.bridge.outNp).filter (fun r => r.att == att)).length

/-- A request of Ethernet host `e`, acting as this hub's node and the entry's partition (R315). -/
def serveHost (s : State) (e : Nat) (f : GrtFrame) : State :=
  let h := f.hdr
  let att := 12 + e
  let p := (s.att att).bound.getD 0
  if h.typ ≠ tWriteP ∧ s.reqsOf att ≥ 64 then s.count cHostTagFull att
  else
    let held := if h.typ = tWriteUnlock then takeFirst (fun (x : Nat × Nat × Nat) => x.1 == att && x.2.1 == h.tag) s.bridge.lockTags else none
    let own := s.isLocal h.addr.node
    let r : OutReq := { tag := if own then h.tag else match held with | some (x, _) => x.2.2 | none => noTag
                        kind := h.typ, addr := h.addr, len := h.len, data := f.payload, spec := bitAt h.flags 5, part := p, att := att
                        hostTag := h.tag }
    match own, held with
    | false, some (_, rest) => accept (s.setBridge { s.bridge with lockTags := rest }) r
    | _, _ => accept s r

/-- A request on spur port 0 in rescue station mode: any source MAC, as partition 0, answered on that port (R501). -/
def rescueIn (s : State) (t : Nat) (f : GrtFrame) : State :=
  let h := f.hdr
  if f.port ≠ 2 ∨ bitsAt h.flags 6 2 ≠ 1 ∨ h.typ ≠ t ∨ !grtLenOk f then s
  else
    let r := serveTx s { a := { node := 0, part := 0 }, p := 0, kind := h.typ, addr := h.addr, len := h.len, d := f.payload, tag := h.tag }
    if h.typ = tWriteP ∨ r.st = 8 then r.s
    else
      let d := if r.st = 0 ∧ (h.typ = tRead ∨ h.typ = tLockRead) then r.data else []
      sendCpl r.s { port := some 2, mac := f.smac, vid := f.vid, hdr := cplHdr s 0 h.addr h.tag d.length r.st h.typ, data := d }

/-- A received request frame of type `t`, from a ring node or an Ethernet host; any other is unknown (R301, R315). One that a stopped
island does not accept stays in the bridge's queue (R14). -/
def requestIn (t : Nat) (f : GrtFrame) (s : State) : Res :=
  .next (if s.boot.rescue then rescueIn s t f
    else if s.fromNode f && !s.passThrough && (serveTx s (nodeTx f)).st == 8 then (serveTx s (nodeTx f)).s
    else grtServe s t f (fun s =>
    if s.fromNode f then serveNode s f
    else match s.hostOf f with
      | some e => serveHost s e f
      | none => s.count cHostUnknown 0))

/-- READ (R50). -/
def execRead (f : GrtFrame) (s : State) : Res := requestIn tRead f s
/-- WRITE_P (R50). -/
def execWriteP (f : GrtFrame) (s : State) : Res := requestIn tWriteP f s
/-- WRITE_NP (R50). -/
def execWriteNp (f : GrtFrame) (s : State) : Res := requestIn tWriteNp f s
/-- LOCK_READ (R322). -/
def execLockRead (f : GrtFrame) (s : State) : Res := requestIn tLockRead f s
/-- WRITE_UNLOCK (R323). -/
def execWriteUnlock (f : GrtFrame) (s : State) : Res := requestIn tWriteUnlock f s

/-- A register write of partition `p`: here when the address names this hub, else routed as an access of its attachment (R7, R43); `t` is
`s` with the access counted, which the routing counts itself (R329). -/
def registerWrite (a : Acc) (p : Nat) (addr : RingAddr) (data : List Byte) (s t : State) : Ans :=
  if s.isLocal addr.node then serveTx t { a := a, p := p, kind := tWriteNp, addr := addr, len := data.length, d := data, tag := 0 }
  else match a.att with
    | some att =>
      ansOk (accept s { tag := noTag, kind := tWriteP, addr := addr, len := data.length, data := data, spec := a.spec, part := p, att := att })
    | none => ansUr s

/-- REGISTER_WRITE: a register or memory location that has no row of its own (R7). -/
def execRegisterWrite (a : Acc) (addr : RingAddr) (data : List Byte) (s : State) : Res :=
  .next (accessAs a s (fun t p => registerWrite a p addr data s t)).s

end Sys2Proof.Machine
end

