-- ==== Sys2Proof/Machine/Hosts.lean ====
section
/-!
DEFINITION. What hosts do on PCIe functions and chip selects: BAR accesses, AtomicOps, SPI frames, attachments going down and coming up;
and the POP row (R301, R303 to R313, R324 to R328).
-/
namespace Sys2Proof.Machine

/-- What a BAR0 offset reaches (R304). -/
inductive Bar0 where
  /-- Space 0, 1 or 3 of the bound partition at an offset. -/
  | space (n off : Nat)
  /-- The MSI-X table at an offset. -/
  | msix (off : Nat)
  /-- The pending bit array at an offset. -/
  | pba (off : Nat)
  /-- A reserved range, or across ranges. -/
  | bad
  deriving DecidableEq, Repr

/-- The range of BAR0 that an access lies in (R304). -/
def bar0At (off len : Nat) : Bar0 :=
  if len = 0 then .bad
  else if off + len ≤ 0x10000 then .space 0 off
  else if 0x10000 ≤ off ∧ off + len ≤ 0x20000 then .space 1 (off - 0x10000)
  else if 0x20000 ≤ off ∧ off + len ≤ 0x20400 then .msix (off - 0x20000)
  else if 0x20800 ≤ off ∧ off + len ≤ 0x20808 then .pba (off - 0x20800)
  else if 0x2000000 ≤ off ∧ off + len ≤ 0x4000000 then .space 3 (off - 0x2000000)
  else .bad

/-- The 16 bytes of an MSI-X table entry (R304, R307; the entry's layout is that of the PCI Express Base Specification, log 41). -/
def MsixEnt.bytes (e : MsixEnt) : List Byte := leBytes 8 e.addr ++ leBytes 4 e.data ++ leBytes 4 (b2n e.masked)

/-- The MSI-X table of a function as bytes. -/
def msixBytes (x : Att) : List Byte := (List.range 64).flatMap (fun v => (tblGetD x.msix v {}).bytes)

/-- Messages held while their vector was masked or the function down are sent once both allow it (R307). -/
def sendHeld (s : State) (fn : Nat) : State :=
  let x := s.att fn
  if !x.pcieUp then s
  else forEach (maskList 64 x.msixPend) s (fun v s =>
    if (tblGetD (s.att fn).msix v {}).masked then s
    else sendMsix (s.setAtt fn { s.att fn with msixPend := clrBit (s.att fn).msixPend v }) fn v)

/-- A write of the MSI-X table (R304, R307). -/
def msixWrite (s : State) (fn off : Nat) (d : List Byte) : State :=
  let b := putBytes (msixBytes (s.att fn)) off d
  let touched := (List.range 64).filter (fun v => decide (16 * v < off + d.length) && decide (off < 16 * v + 16))
  let s := forEach touched s (fun v s => s.setAtt fn { s.att fn with
    msix := tblSet (s.att fn).msix v { addr := leAt b (16 * v) 8, data := leAt b (16 * v + 8) 4, masked := leAt b (16 * v + 12) 4 % 2 == 1 } })
  sendHeld s fn

/-- How a PCIe request finds its function (R301, R308, R480): it does not arrive while the link is down or the function is in
function-level reset; it completes with UR while an enable bit is 0, partition 0 is not open or no partition is bound. -/
inductive PcieGate where
  /-- Nothing arrives. -/
  | silent
  /-- Unsupported request. -/
  | ur
  /-- Accepted as the bound partition. -/
  | ok (p : Nat)

/-- The gate of function `fn`. -/
def pcieGate (s : State) (fn : Nat) : PcieGate :=
  let x := s.att fn
  if !x.linkUp || x.flr then .silent
  else if !x.bme || !x.mse || !s.isOpen 0 then .ur
  else match x.bound with
    | some p => .ok p
    | none => .ur

/-- The window address of a BAR2 offset (R305). -/
def winAddr (s : State) (fn off : Nat) : RingAddr := addrOf ((s.att fn).winBase + off)

/-- A read through BAR0: never speculative (R304). -/
def bar0Read (s : State) (fn p off len : Nat) : State :=
  match bar0At off len with
  | .space n o => accept s { tag := noTag, kind := tRead, addr := { part := p, space := n, off := o }, len := len, part := p, att := fn }
  | .msix o => s.emit (.reply fn 0 false (bytesAt (msixBytes (s.att fn)) o len))
  | .pba o => s.emit (.reply fn 0 false (bytesAt (leBytes 8 (s.att fn).msixPend) o len))
  | .bad => s.emit (.reply fn 1 false [])

/-- The pieces of a BAR2 read at 1,024-byte boundaries: offset within the read and bytes (R306). -/
def pieces (off : Nat) : Nat → Nat → Nat → List (Nat × Nat)
  | 0, _, _ => []
  | n + 1, base, len =>
    let k := 1024 - (off + base) % 1024
    if len ≤ k then (if len = 0 then [] else [(base, len)]) else (base, k) :: pieces off n (base + k) (len - k)

/-- A number for a split read: of none that is under way (R306). -/
def State.freeGroup (s : State) : Nat :=
  (leastFree (((s.ring.outst ++ s.bridge.outNp).filter (fun r => r.read)).map (fun r => r.hostTag) ++ s.bridge.bParts.map Prod.fst) 0 8192).getD 8192

/-- A piece of a split read: its place and its bytes (R306). -/
def OutReq.piece (r : OutReq) (e : Nat × Nat) : OutReq := { r with addr := { r.addr with off := r.addr.off + e.1 }, len := e.2 }

/-- A piece of a split read that finds no room, or whose island is stopped: the whole read then waits at its attachment (R14, R318). -/
def stalledPiece (s : State) (r : OutReq) (es : List (Nat × Nat)) : Option OutReq :=
  (es.map r.piece).find? (fun x =>
    stalls s x || (decide (1 < es.length) && !s.isLocal x.addr.node && decide (s.bridge.outNp.length + es.length > 1024)))

/-- A read through BAR2: speculative, split at 1,024-byte boundaries (R305, R306). -/
def bar2Read (s : State) (fn p off len : Nat) : State :=
  if len = 0 ∨ len > 4096 ∨ off + len > 2 ^ 28 then s.emit (.reply fn 1 false [])
  else
    let g := s.freeGroup
    let r : OutReq := { tag := noTag, kind := tRead, addr := winAddr s fn off, len := len, spec := true, part := p, att := fn }
    let es := pieces r.addr.off 6 0 len
    match stalledPiece s r es with
    | some x => if s.isLocal x.addr.node then (serveTx s x.tx).s else s
    | none => forEach es (countAccess s r) (fun e s => route s { r.piece e with hostTag := g, base := e.1, total := len, read := true })

/-- PCIE_MEM_READ (R304 to R306). -/
def execPcieMemRead (att : Nat) (bar : Nat) (off : Nat) (len : Nat) (s : State) : Res :=
  if 8 ≤ att ∨ (bar ≠ 0 ∧ bar ≠ 2) then .fault .noSuchUnit
  else .next (match pcieGate s att with
    | .silent => s
    | .ur => s.emit (.reply att 1 false [])
    | .ok p => if bar = 0 then bar0Read s att p off len else bar2Read s att p off len)

/-- A write through BAR0 (R304): posted. -/
def bar0Write (s : State) (fn p off : Nat) (d : List Byte) : State :=
  match bar0At off d.length with
  | .space n o =>
    accept s { tag := noTag, kind := tWriteP, addr := { part := p, space := n, off := o }, len := d.length, data := d, part := p, att := fn }
  | .msix o => msixWrite s fn o d
  | .pba _ => s
  | .bad => s

/-- A write through BAR2: one WRITE_P (R306). -/
def bar2Write (s : State) (fn p off : Nat) (d : List Byte) : State :=
  if d.isEmpty || decide (d.length > 512) || decide (off + d.length > 2 ^ 28) then s
  else accept s { tag := noTag, kind := tWriteP, addr := winAddr s fn off, len := d.length, data := d, part := p, att := fn }

/-- PCIE_MEM_WRITE (R304, R306). -/
def execPcieMemWrite (att : Nat) (bar : Nat) (off : Nat) (data : List Byte) (s : State) : Res :=
  if 8 ≤ att ∨ (bar ≠ 0 ∧ bar ≠ 2) then .fault .noSuchUnit
  else .next (match pcieGate s att with
    | .silent => s
    | .ur => s
    | .ok p => if bar = 0 then bar0Write s att p off data else bar2Write s att p off data)

/-- Sizes of an atomic's operand: FetchAdd and Swap 4 or 8 bytes; CAS compare and swap together, twice its width (R303, R310). -/
def atomicOk (op n casLo casHi : Nat) : Bool :=
  if op = 1 ∨ op = 2 then n == 4 || n == 8 else op == 3 && (n == casLo || n == casHi)

/-- An atomic as its first step (R324). -/
def atomicReq (att p op : Nat) (addr : RingAddr) (d : List Byte) : OutReq :=
  { tag := noTag, kind := tLockRead, addr := addr, len := if op = 3 then d.length / 2 else d.length, part := p, att := att, atomic := op
    operand := d }

/-- An AtomicOp on a function: `op` 1 FetchAdd, 2 Swap, 3 CAS (R303, R324). -/
def pcieAtomicRun (s : State) (fn p bar off op : Nat) (d : List Byte) : State :=
  let n := if op = 3 then d.length / 2 else d.length
  let ur := s.emit (.reply fn 1 false [])
  if !atomicOk op d.length 16 32 then ur
  else if bar = 0 then
    match bar0At off n with
    | .space k o => accept s (atomicReq fn p op { part := p, space := k, off := o } d)
    | _ => ur
  else if off + n > 2 ^ 28 then ur
  else accept s (atomicReq fn p op (winAddr s fn off) d)

/-- PCIE_ATOMIC (R303, R324). -/
def execPcieAtomic (att : Nat) (bar : Nat) (off : Nat) (op : Nat) (data : List Byte) (s : State) : Res :=
  if 8 ≤ att ∨ (bar ≠ 0 ∧ bar ≠ 2) then .fault .noSuchUnit
  else .next (match pcieGate s att with
    | .silent => s
    | .ur => s.emit (.reply att 1 false [])
    | .ok p => pcieAtomicRun s att p bar off op data)

/-- What an attachment still waits for when it goes down: requests that have not left are dropped, those that have are answered to nobody,
parts of split reads are discarded (R306, R308). -/
def cutAtt (s : State) (a : Nat) : State :=
  let mine := fun (r : OutReq) => r.att == a
  let groups := ((s.ring.outst ++ s.bridge.outNp).filter (fun r => mine r && r.read)).map (fun r => r.hostTag)
  let s := s.setRing { s.ring with
    outst := (s.ring.outst.filter (fun r => !(mine r && r.retryNow))).map (fun r => if r.att = a then { r with cut := true } else r) }
  s.setBridge { s.bridge with outNp := s.bridge.outNp.filter (fun r => !mine r), bParts := s.bridge.bParts.filter (fun b => !groups.contains b.1) }

/-- The completion of a POP read that leaves in the ns in which its function goes down is not sent: its bytes are recovered (R308, R327, log 44). -/
def recoverPop (s : State) (fn : Nat) : State :=
  match (s.att fn).popReply with
  | some k =>
    let s := s.setAtt fn { s.att fn with popReply := none }
    if k.lt = s.lt then
      loadRcv { s with out := (s.out.reverse.erase (.reply fn 0 false k.data)).reverse } fn k.addr (k.data.take k.bytes) k.flags false false true
    else s
  | none => s

/-- PCIE_LINK_DOWN: `cause` 0 link loss, 1 function-level reset, 2 Bus Master Enable cleared, 3 Memory Space Enable cleared (R308).
Link loss and a function-level reset return the MSI-X table to its reset values (PCI Express Base Specification, log 41). -/
def pcieDown (s : State) (fn cause : Nat) : State :=
  let x := s.att fn
  let was := x.pcieUp
  let hard := cause ≤ 1
  let x := { x with
    linkUp := x.linkUp && cause != 0, flr := x.flr || cause == 1
    bme := x.bme && cause != 2 && !decide hard, mse := x.mse && cause != 3 && !decide hard
    msix := if hard then [] else x.msix, msixPend := if hard then 0 else x.msixPend }
  let s := s.setAtt fn x
  if was then attDown (cutAtt (recoverPop s fn) fn) fn else s

/-- PCIE_LINK_DOWN (R308). -/
def execPcieLinkDown (att : Nat) (cause : Nat) (s : State) : Res :=
  if 8 ≤ att then .fault .noSuchUnit else .next (if cause ≤ 3 then pcieDown s att cause else s)

/-- PCIE_LINK_UP: link trained, no function-level reset, both enables set; held messages leave and DMA delivery resumes (R121, R307, R308). -/
def execPcieLinkUp (att : Nat) (s : State) : Res :=
  if 8 ≤ att then .fault .noSuchUnit
  else .next (sendHeld (s.setAtt att { s.att att with linkUp := true, flr := false, bme := true, mse := true }) att)

/-- A frame on a chip select marks its attachment as up (R313). -/
def spiUp (s : State) (a : Nat) : State := s.setAtt a { s.att a with up := true }

/-- A frame of command `cmd` as a request: READ 1, WRITE 2, WRITE_NP 3, FETCHADD 5, SWAP 6, CAS 7 (R310). -/
def spiReq (a p cmd : Nat) (addr : RingAddr) (len : Nat) (spec : Bool) (d : List Byte) : OutReq :=
  let addr := { addr with off := addr.off % 2 ^ 32 }
  if cmd = 1 then { tag := noTag, kind := tRead, addr := addr, len := len, spec := spec, part := p, att := a }
  else if cmd = 2 then { tag := noTag, kind := tWriteP, addr := addr, len := d.length, data := d, part := p, att := a }
  else if cmd = 3 then { tag := noTag, kind := tWriteNp, addr := addr, len := d.length, data := d, part := p, att := a }
  else atomicReq a p (cmd - 4) addr d

/-- CMD and LEN of a frame are in range (R310, R312). -/
def spiForm (cmd len : Nat) : Bool :=
  if cmd = 1 ∨ cmd = 2 ∨ cmd = 3 then decide (1 ≤ len) && decide (len ≤ 1024)
  else decide (5 ≤ cmd) && decide (cmd ≤ 7) && atomicOk (cmd - 4) len 8 16

/-- A whole frame on chip select `cs` (R301, R310 to R313): `cut` when it ended before its reply. -/
def spiFrame (s : State) (cs cmd : Nat) (addr : RingAddr) (len : Nat) (spec : Bool) (d : List Byte) (cut : Bool) : State :=
  let a := 8 + cs
  let s := spiUp s a
  let say := fun (st : Nat) => if cmd = 2 then s.count cSpiPostedFail a else if cut then s else s.emit (.reply a st false [])
  if !spiForm cmd len then say 9
  else if !s.isOpen 0 then say 6
  else match (s.att a).bound with
    | none => say 6
    | some p => accept s { spiReq a p cmd addr len spec d with cut := cut }

/-- The row of an SPI frame. -/
def spiRow (cs cmd : Nat) (addr : RingAddr) (len : Nat) (spec : Bool) (d : List Byte) (s : State) : Res :=
  if 4 ≤ cs then .fault .noSuchUnit else .next (spiFrame s cs cmd addr len spec d false)

/-- SPI_READ (R311). -/
def execSpiRead (cs : Nat) (addr : RingAddr) (len : Nat) (spec : Bool) (s : State) : Res := spiRow cs 1 addr len spec [] s
/-- SPI_WRITE (R311). -/
def execSpiWrite (cs : Nat) (addr : RingAddr) (data : List Byte) (s : State) : Res := spiRow cs 2 addr data.length false data s
/-- SPI_WRITE_NP (R311). -/
def execSpiWriteNp (cs : Nat) (addr : RingAddr) (data : List Byte) (s : State) : Res := spiRow cs 3 addr data.length false data s
/-- SPI_FETCHADD (R324). -/
def execSpiFetchadd (cs : Nat) (addr : RingAddr) (data : List Byte) (s : State) : Res := spiRow cs 5 addr data.length false data s
/-- SPI_SWAP (R324). -/
def execSpiSwap (cs : Nat) (addr : RingAddr) (data : List Byte) (s : State) : Res := spiRow cs 6 addr data.length false data s
/-- SPI_CAS (R324). -/
def execSpiCas (cs : Nat) (addr : RingAddr) (data : List Byte) (s : State) : Res := spiRow cs 7 addr data.length false data s

/-- SPI_SHORT: a frame that ends early (R313). Without its whole address word, or a write or atomic without all its bytes, it does
nothing and is counted; otherwise it is carried out and its result discarded, and popped bytes are recovered (R327). -/
def execSpiShort (cs : Nat) (cmd : Nat) (addr : Option RingAddr) (len : Nat) (spec : Bool) (data : List Byte) (s : State) : Res :=
  if 4 ≤ cs then .fault .noSuchUnit
  else .next (match addr with
    | none => (spiUp s (8 + cs)).count cSpiShort (8 + cs)
    | some a =>
      if cmd ≠ 1 ∧ data.length < len then (spiUp s (8 + cs)).count cSpiShort (8 + cs)
      else spiFrame s cs cmd a len spec (data.take len) true)

/-- SPI_CS_IDLE_TIMEOUT: the chip select has been inactive for 10 ms; its attachment is down until its next frame (R211, R313). -/
def execSpiCsIdleTimeout (cs : Nat) (s : State) : Res :=
  if 4 ≤ cs then .fault .noSuchUnit
  else
    let a := 8 + cs
    .next (if (s.att a).up then attDown (s.setAtt a { s.att a with up := false }) a else s)

/-- A POP read on an attachment: refused while a recovery is pending (R328); the outcome is kept for an Ethernet host (R327). -/
def attPop (s : State) (a : Acc) (n p q len : Nat) : State :=
  let r : OutReq := { kind := tRead, addr := { part := p, space := 3, off := 0x100000 + q * 256 }, len := len, spec := a.spec, part := p, att := n }
  if !a.spec && decide (n < 12) && bitAt (s.att n).rcvStatus 0 then
    (s.count cPopBlocked n).emit (.reply n (if n < 8 then 2 else 8) false [])
  else
    let s := s.arrived a cAttReads
    let x := if len = 4 ∨ len = 8 then ownQueue s p q (let r := popReg s q (accKey a) len a.spec; ansOk r.2 r.1) else ansUr s
    let v := tblGetD (x.s.queue q).popLast (accKey a) 0
    let s := keepPop x.s r x.st x.data (if (x.s.queue q).popOk then some (v % 16, v / 16 % 8) else none)
    portReply s n len x.st x.data

/-- POP (R111): read of the POP register of queue `q`; a GRT requester is answered by its own frame. Without a bound partition
it does nothing (R301); rescue station mode does not reach space 3 (R501). -/
def execPop (a : Acc) (q len : Nat) (s : State) : Res :=
  if q < 4096 then
    match a.att with
    | some n => match s.who a with
      | some p => .next (
          if s.boot.rescue then portReply (s.arrived a cAttReads) n len 1 []
          else if s.isOpen p then attPop s a n p q len
          else portReply (s.arrived a cAttReads) n len 6 [])
      | none => .next (if n < 12 then portReply s n len (if n < 8 then 1 else 6) [] else s.count cHostUnknown 0)
    | none => .next (if !s.boot.rescue && s.isOpen a.part && (len == 4 || len == 8) && s.owns a.part 5 q
        then (popReg s q (accKey a) len a.spec).2 else s)
  else .fault .noSuchUnit

end Sys2Proof.Machine
end

