-- ==== Sys2Proof/Machine/Boot.lean ====
section
/-!
DEFINITION. Resets, start-up, flash, update, rescue and the log area, with the 0x0Fxx commands (R72, R408, R416, R417, R479 to
R504).
-/
namespace Sys2Proof.Machine

/-- `n` bytes of flash from byte `k` of a slot: bytes beyond those written are erased (R487). -/
def flashAt (b : List Byte) (k n : Nat) : List Byte :=
  let d := (b.drop k).take n
  d ++ List.replicate (n - d.length) 255

/-- A 64 KiB sector of a slot erased (R493). -/
def eraseSector (b : List Byte) (k : Nat) : List Byte :=
  let rest := b.drop (65536 * (k + 1))
  if rest.isEmpty then b.take (65536 * k) else flashAt (b.take (65536 * k)) 0 (65536 * (k + 1)) ++ rest

/-- Data programmed into erased flash from byte `k` of a slot (R493). -/
def programAt (b : List Byte) (k : Nat) (d : List Byte) : List Byte := flashAt b 0 k ++ d ++ b.drop (k + d.length)

/-- A little-endian field of an image header (R488). -/
def hdrField (b : List Byte) (k n : Nat) : Nat := leNat (flashAt b k n)

/-- Bytes of a slot by image TYPE: 1 hub, 2 configuration, 3 assay firmware (R454, R487). -/
def slotSize (typ : Nat) : Nat := if typ = 1 then 8388608 else if typ = 2 then 1048576 else 655360

/-- The record with the higher SEQ under a signed 32-bit difference, of those that are valid; none without a flash (R487, R492). -/
def Boot.record (x : Boot) : Option BootRec :=
  if !x.flashOk then none
  else if x.rec0.valid && x.rec1.valid then
    some (if 0 < signedOf 32 ((x.rec0.seq + 4294967296 - x.rec1.seq) % 4294967296) then x.rec0 else x.rec1)
  else if x.rec0.valid then some x.rec0
  else if x.rec1.valid then some x.rec1
  else none

/-- The current boot-control record; A, B, CONFIRMED where none is valid (R486). -/
def Boot.current (x : Boot) : BootRec := x.record.getD {}

/-- A record written with SEQ + 1 to sector SEQ mod 2 (R486, R492). -/
def writeRecord (s : State) (r : BootRec) : State :=
  let n := (s.boot.current.seq + 1) % 4294967296
  let r := { r with valid := true, seq := n }
  if !s.boot.flashOk then s else s.setBoot (if n % 2 = 0 then { s.boot with rec0 := r } else { s.boot with rec1 := r })

/-- The bytes of hub image slot `k`, or of configuration slot `k`; none of either without a flash (R487). -/
def Boot.image (x : Boot) (typ k : Nat) : List Byte :=
  if !x.flashOk then [] else (tblGetD (if typ = 1 then x.hub else x.conf) k {}).bytes

/-- The OTP key hash that KEY_ID names for a type of image (R489). -/
def State.keyHash (s : State) (typ id : Nat) : Option (List Byte) :=
  if typ = 3 then (if id = 0 then some s.assay.keyHash else none)
  else if id = 0 then some s.boot.rootHash
  else if id = 1 ∧ typ = 2 then s.boot.oemHash
  else none

/-- Check 1 of R489: magic, type, reserved fields, sizes. -/
def headerOk (b : List Byte) (typ : Nat) : Bool :=
  hdrField b 0 4 == 0x4858544B && hdrField b 4 2 == typ && hdrField b 14 2 == 0 && hdrField b 28 4 == 0
    && (flashAt b 272 240).all (· == 0) && (typ == 1 || hdrField b 20 8 == 0) && decide (hdrField b 12 2 ≤ 64)
    && decide (512 + hdrField b 16 4 ≤ slotSize typ)

/-- Checks 2 and 3 of R489: key hash, signature and digest (log 6). -/
def signedOk (s : State) (b : List Byte) (typ : Nat) : Bool :=
  let key := flashAt b 80 96
  (match s.keyHash typ (hdrField b 6 2) with
    | some h => fitBytes 48 (Config.digest 384 key) == fitBytes 48 h
    | none => false)
    && Config.sigOk (3 + beNat key) (flashAt b 0 176) (flashAt b 176 96)
    && fitBytes 48 (Config.digest 384 (flashAt b 512 (hdrField b 16 4))) == flashAt b 32 48

/-- The status that verification of an image gives; OK where every check holds (R476, R489). -/
def verifyImage (s : State) (typ : Nat) (b : List Byte) : Nat :=
  let sec := hdrField b 12 2
  if !headerOk b typ || !signedOk s b typ then stDenied
  else if typ = 1 then
    if 32768 < hdrField b 20 4 || hdrField b 24 4 == 0 || 3145728 < hdrField b 24 4 then stDenied
    else if sec < s.boot.thermo then stRollback else stOk
  else if typ = 2 then (if sec = 0 then stOk else stDenied)
  else if sec < s.assay.secVersion then stRollback else stOk

/-- Hub image slot `k` passes verification (R486). -/
def State.slotGood (s : State) (k : Nat) : Bool := s.boot.flashOk && verifyImage s 1 (s.boot.image 1 k) == stOk

/-- A log entry written; the oldest is overwritten when the ring is full (R503; the order of the DETAIL fields is log 8). -/
def logAdd (s : State) (kind : Nat) (detail : List Byte) : State :=
  let x := s.boot
  if !x.flashOk then s
  else
    let l := x.log ++ [{ seq := x.logSeq, time := s.eventTime, kind := kind, detail := fitBytes 40 detail }]
    s.setBoot { x with log := if l.length > x.logSize then l.drop (l.length - x.logSize) else l, logSeq := (x.logSeq + 1) % 4294967296 }

/-- The 64 bytes of a log entry (R503). -/
def LogEnt.bytes (e : LogEnt) : List Byte :=
  let b := leBytes 4 e.seq ++ leBytes 8 e.time ++ leBytes 2 e.kind ++ fitBytes 40 e.detail ++ zeros 6
  b ++ leBytes 4 (crc32 b)

/-- The record of a failed trial: PREVIOUS is active again, CONFIRMED (R486, R495). -/
def BootRec.revert (r : BootRec) : BootRec := { r with active := r.previous, trial := false, boots := 0 }

/-- A ring port's link and keys survive a warm reset, a spur port's keys alone (R67, R480). -/
def warmPort (s : State) (p : Nat) : Port :=
  { Port.init p with link := if p ≤ 1 then (s.port p).link else {}, macsec := (s.port p).macsec }

/-- The ring node through a warm reset (R57, R67, R174, R480). -/
def warmRing (s : State) : RingNode :=
  let r := s.ring
  let mgr := s.boot.ringRole == 1
  { node := r.node, nodeSrc := r.nodeSrc, withdrawn := r.withdrawn, ringId := r.ringId, vlan := r.vlan, etherType := r.etherType
    forgetMs := r.forgetMs, seqs := r.seqs, dd := r.dd, crossedWest := r.crossedWest, crossedEast := r.crossedEast, actingMgr := mgr, heardAt := s.lt }

/-- A pin through a warm reset: WARM_PIN 0 keeps it, WARM_PIN 1 gives it its power-on state (R483, R484). -/
def warmPin (s : State) (keep : Bool) (p : Nat) (x : Pin) : Pin :=
  let y := if keep then { x with timed := none, lastAct := none }
           else { Pin.init s.boot.bankPull p with raw := if x.out then bitAt s.boot.bankPull (p / 16) else x.raw
                                                  filt := x.filt, deb := x.deb, filtAt := x.filtAt, stuckArmed := x.stuckArmed }
  { y with count := 0, satArmed := true }

/-- A PCIe function keeps its trained link and its configuration through a warm reset (R480; log 41). -/
def warmAtt (a : Nat) (x : Att) : Att :=
  if a < 8 then { Att.init a with linkUp := x.linkUp, flr := x.flr, bme := x.bme, mse := x.mse, msix := x.msix, msixPend := x.msixPend }
  else Att.init a

/-- What a partition keeps through a warm reset: FAULT_FIRST and FAULT_COUNT (R376). -/
def warmPart (x : Partition) : Partition :=
  { ffValid := x.ffValid, ffLevel := x.ffLevel, ffCode := x.ffCode, ffDetail := x.ffDetail, ffTime := x.ffTime, fcCount := x.fcCount
    fcMax := x.fcMax }

/-- Start-up state at the trigger of a reset: straps, pins, flash and OTP stay (R480). -/
def Boot.atReset (x : Boot) (cause count : Nat) : Boot :=
  { x with cause := cause, bootCount := count, started := none, rescue := false, running := false, configured := false, cfgSlot := 0xFF
           trialRun := false, upd := none, resetAt := none, flashVer := 0, runAt := 0 }

/-- The warm reset of the main die: what it clears and keeps (R174, R356, R376, R480, R484). -/
def warmClear (s : State) (cause : Nat) : State :=
  let keepPins := !s.boot.warmPin
  let ports := [0, 1, 2, 3, 4, 5].map (fun p => (p, warmPort s p))
  let f := s.faults
  let faults : Faults := { resetting := true, restarts := f.restarts, fatal := f.fatal, handling := if cause = 5 then f.fatal.toList else [] }
  let ctl : Ctl := { temps := s.ctl.temps, tempRaised := s.ctl.tempRaised, dieUp := s.ctl.dieUp,
                     islands := (List.range 11).map (fun i => decide (i < 9) || s.ctl.islands.getD i true)
                     held := s.ctl.held.filter (fun e => decide (9 ≤ e.2)) }
  let t : State := {
    ring := warmRing s, sw := { ports := ports }, pool := { fittedMiB := s.pool.fittedMiB }, time := s.time
    cycle := { needRearm := s.cycle.needRearm }
    field := { pins := s.field.pins.map (fun e => (e.1, warmPin s keepPins e.1 e.2)), banks := s.field.banks }
    bridge := { atts := s.bridge.atts.map (fun e => (e.1, warmAtt e.1 e.2)) }
    parts := s.parts.map (fun e => (e.1, warmPart e.2)), faults := faults
    boot := { s.boot.atReset cause ((s.boot.bootCount + 1) % 256) with window := 10, warmPin := false }
    ctl := ctl, power := s.power, assay := s.assay, island := { ddr := s.island.ddr }, out := s.out, fresh := s.fresh, pending := s.pending }
  let t := t.count cHandshakeDiscard 0 (s.ctl.held.filter (fun e => decide (e.2 ≤ 8))).length
  forEach (List.range 256) t (fun p t => restartInput t p true)

/-- A warm reset: the last gasp, except after a fatal fault, which has sent it; the power die's hold; then the reset (R210, R450,
R480). -/
def doWarm (s : State) (cause : Nat) : State :=
  let s := if cause = 5 then s else lastGasp s
  warmClear (startHold s) cause

/-- The straps sampled at the end of a power-on reset and at the release of RESET_N (R482). -/
def Boot.sample (x : Boot) : Boot :=
  { x with bootSrc := x.pinBootSrc, rescueN := x.pinRescueN, nodeSel := x.pinNodeSel, ringRole := x.pinRingRole, bankPull := x.pinBankPull }

/-- The node number that the straps alone decide, 0 for enumeration (R56, R57). -/
def Boot.strapNode (x : Boot) : Nat :=
  if 1 ≤ x.nodeSel ∧ x.nodeSel ≤ 250 then x.nodeSel else if x.nodeSel = 0 ∧ (x.ringRole = 1 ∨ x.ringRole = 3) then 1 else 0

/-- Power-on reset, brown-out and RESET_N: main die, power die, time island and the ring ports' always-on logic reset; straps are
sampled; the assay die is not reached (R57, R67, R455, R479, R481, R482). -/
def powerOn (s : State) (cause : Nat) : State :=
  let b := { (s.boot.atReset cause 0).sample with window := 10, warmPin := false }
  let n := b.strapNode
  let ring : RingNode := { node := n, nodeSrc := if n = 0 then 0 else 1, actingMgr := b.ringRole == 1 }
  let pins := s.field.pins.map (fun e =>
    let pull := bitAt b.bankPull (e.1 / 16)
    let raw := if e.2.out then pull else e.2.raw
    (e.1, { Pin.init b.bankPull e.1 with raw := raw, filt := raw, deb := raw }))
  let ctl : Ctl := { temps := s.ctl.temps, dieUp := s.ctl.dieUp,
                     islands := (List.range 11).map (fun i => decide (i < 10) || s.ctl.islands.getD i true) }
  { ring := ring, pool := { fittedMiB := s.pool.fittedMiB }, field := { pins := pins, banks := s.field.banks }
    faults := { resetting := true }, boot := b, ctl := ctl, assay := s.assay, out := s.out, fresh := s.fresh, pending := s.pending }

/-- POWER_ON_RESET (R479, R504). -/
def execPowerOnReset (s : State) : Res := .next (powerOn s 0)

/-- RESET_N held low: at least 1 µs resets, 100 ns or less does not; between them either happens (R479, R504, R532). -/
def execResetN (ns : Nat) (s : State) : Res :=
  match resetPulse ns with
  | some true => .next (powerOn s 1)
  | some false => .next s
  | none =>
    let (r, s) := s.draw
    .next (if r.getLsbD 0 then powerOn s 1 else s)

/-- BROWN_OUT: a rail below its reset threshold for 10 µs (R481, R504). -/
def execBrownOut (us : Nat) (s : State) : Res := .next (if us < 10 then s else powerOn s 2)

/-- The warm reset that waits is performed once its instant has come (R408, R480). -/
def dueReset (s : State) : State :=
  match s.boot.resetAt with
  | some (t, cause) => if t ≤ s.lt then doWarm s cause else s
  | none => s

/-- Rescue station mode: the deputy alone runs, partition 0 is open, pins and branches stand as from power-on (R450, R483, R499 to
R501). -/
def enterRescue (s : State) : State :=
  let s := forEach (List.range 256) (allBranchesOff s) (fun p s => restartInput (s.setPin p (warmPin s false p (s.pin p))) p true)
  let s := s.setPart 0 { s.part 0 with st := 1 }
  let s := s.setBoot { s.boot with rescue := true }
  logAdd ((s.setCtl { s.ctl with wdRun := true, wdAt := s.lt }).setFaults { s.faults with resetting := false, restarts := 0, handling := [] }) 1
    (leBytes 1 0xFF ++ leBytes 1 s.boot.cause)

/-- VERSION of hub slot `k` as its header has it (R488). -/
def Boot.version (x : Boot) (k : Nat) : Nat := hdrField (x.image 1 k) 8 4

/-- Service firmware and the deputy patch of hub slot `k` copied into SRAM (R423, R426, R485, R488). -/
def loadFirmware (s : State) (k : Nat) : State :=
  let b := s.boot.image 1 k
  let p := hdrField b 20 4
  { s with island := { s.island with fw := { s.island.fw with patch := bytesAt b 512 p, image := bytesAt b (512 + p) (hdrField b 24 4) } } }

/-- Hub slot `k` is started: service firmware runs, FAULT_N is released, the thermometer of a confirmed image is raised (R379, R380,
R422, R485, R486, R496, R503). -/
def startSlot (s : State) (k : Nat) (trial : Bool) : State :=
  let b := s.boot
  let r := b.current
  let sec := hdrField (b.image 1 k) 12 2
  let confirmed := b.record.isSome && !r.trial && r.active == k
  let b := { b with running := true, started := some k, flashVer := b.version k, trialRun := trial, runAt := s.lt
                    thermo := if confirmed then max b.thermo sec else b.thermo }
  let s := loadFirmware (s.setBoot b) k
  let s := s.setFaults { s.faults with resetting := false, restarts := 0, handling := [], faultN := true }
  let s := s.setCtl { s.ctl with wdRun := true, wdAt := s.lt }
  logAdd s 1 (leBytes 1 k ++ leBytes 1 b.cause ++ leBytes 4 (b.version k) ++ leBytes 4 (b.version (1 - k)))

/-- A reverting record written and logged: slot left, slot started (R486, R503). -/
def revertTrial (s : State) (left : Nat) (started : Nat) : State :=
  logAdd (writeRecord s s.boot.current.revert) 3 (leBytes 1 left ++ leBytes 1 started)

/-- What ROM boots (R486, R499). -/
def romBoot (s : State) : State :=
  let b := s.boot
  if !b.rescueN || b.bootSrc == 3 then enterRescue s
  else
    let r := b.current
    if r.trial then
      if r.boots < 3 && s.slotGood r.active then startSlot (writeRecord s { r with boots := r.boots + 1 }) r.active true
      else
        let good := s.slotGood r.previous
        let s := revertTrial s r.active (if good then r.previous else 0xFF)
        if good then startSlot s r.previous false else enterRescue s
    else if s.slotGood r.active then startSlot s r.active false
    else if s.slotGood (1 - r.active) then startSlot s (1 - r.active) false
    else enterRescue s

/-- A boot held for temperature: after TEMP_SHUTDOWN until every sensor reads below 120 °C (R537). -/
def State.hotHold (s : State) : Bool :=
  (match s.faults.fatal with | some f => f.code == 0x10 | none => false) && !s.ctl.temps.all (fun t => decide (t < 480))

/-- BOOT: self-test with the pairs that fail it, then selection and start of an image; a hub that
has seen a walk reports (R58, R416, R417, R421, R485, R486). -/
def execBoot (failed : List Nat) (s : State) : Res :=
  let s := dueReset s
  if s.boot.running || s.boot.rescue || s.faults.safeHalt || s.hotHold then .next s
  else
    let s := forEach [0, 1, 2] s (fun p s => s.setPair p { s.pair p with ok := !failed.contains p, closed := failed.contains p })
    if failed.contains 0 || (failed.contains 1 && failed.contains 2) then .next (enterSafeHalt s)
    else
      let s := romBoot s
      .next (s.ifDo (s.ring.mgrNode != 0 && !s.ring.actingMgr) (fun s => sendReport s s.ring.mgrNode))

/-- RING_RESET_FRAME (R72, R502): from the acting manager's GRT MAC. -/
def execRingResetFrame (f : GrtFrame) (s : State) : Res :=
  .next (grtServe s tRingReset f (fun s =>
    if f.smac = s.grtMac then s
    else if s.ring.mgrNode ≠ 0 ∧ f.smac = macOfNode s.ring.ringId s.ring.mgrNode then doWarm s 6
    else raise (s.count cGrtResetRefused 0) (srcDiag 332) 4 0))

/-- TRIAL_WINDOW_EXPIRY: the deputy writes the reverting record and causes a warm reset (R495). -/
def execTrialWindowExpiry (s : State) : Res :=
  let b := s.boot
  .next (if b.trialRun && decide (b.runAt + b.current.window * 60000000000 ≤ s.lt) then
    doWarm (revertTrial s b.current.active b.current.previous) 7
  else s)

/-- The update and slot that an update step acts on, for its log entry (R503). -/
def updDetail (op typ slot st : Nat) : List Byte := leBytes 2 op ++ leBytes 1 typ ++ leBytes 1 slot ++ leBytes 2 st

/-- An update step ends: it is logged with its status (R503). -/
def updEnd (op : Nat) (s : State) (r : CmdRes) : CmdRes :=
  let note := fun (t : State) (st : Nat) =>
    let u := (t.boot.upd.orElse (fun _ => s.boot.upd)).getD { slot := 0xFF }
    logAdd t 2 (updDetail op u.typ u.slot st)
  match r with
  | .fail st => .ends st [] (note s st)
  | .ok res out t => .ok res out (note t stOk)
  | .ends st res t => .ends st res (note t st)
  | r => r

/-- The slot table of an image TYPE, written (R454, R487). -/
def setSlot (s : State) (typ k : Nat) (x : Slot) : State :=
  if typ = 1 then s.setBoot { s.boot with hub := tblSet s.boot.hub k x }
  else if typ = 2 then s.setBoot { s.boot with conf := tblSet s.boot.conf k x }
  else s.setAssay { s.assay with slots := tblSet s.assay.slots k x }

/-- A slot of an image TYPE. -/
def State.slot (s : State) (typ k : Nat) : Slot :=
  tblGetD (if typ = 1 then s.boot.hub else if typ = 2 then s.boot.conf else s.assay.slots) k {}

/-- The slot of a TYPE that is not in use (R493). -/
def State.otherSlot (s : State) (typ : Nat) : Nat :=
  1 - (if typ = 1 then s.boot.current.active else if typ = 2 then s.boot.current.config else s.assay.active)

/-- The assay die takes firmware: it measures, its log has room, its seal is asserted (R462, R465, R476). -/
def chkAssayUpd (s : State) (k : CmdRes) : CmdRes :=
  chk s.assay.fitted stNotPresent (chk (s.assayReach && s.assay.st == 1 && s.assay.logOpen) stWrongState (chk s.assay.sealLevel stSealed k))

/-- Go on with an update that the assay die takes part in only while it answers and its seal is asserted (R462, R469, R476). -/
def sealedUpd (s : State) (u : Update) (k : CmdRes) : CmdRes :=
  if u.typ = 3 then chk (s.assayReach && s.assay.st == 1) stWrongState (chk s.assay.sealLevel stSealed k) else k

/-- Facts of UPD_BEGIN (R408). -/
def iUpdBegin : CmdInfo := { op := 0x0F00, p0 := true, bytes := [(8, 1), (12, 4)], svc := false }
/-- UPD_BEGIN (R493). -/
def bodyUpdBegin (c : Cmd) (s : State) : CmdRes :=
  let typ := c.u 8 1
  let go :=
    chk s.boot.upd.isNone stBusy (chk (!(typ == 1 && s.boot.current.trial)) stBusy (
      let k := s.otherSlot typ
      let s := setSlot s typ k { bytes := eraseSector (s.slot typ k).bytes 0, marked := false }
      .ok (leBytes 1 k) [] (s.setBoot { s.boot with upd := some { typ := typ, slot := k, length := c.u 12 4 } })))
  updEnd 0x0F00 s (
    chk (decide (1 ≤ typ) && decide (typ ≤ 3) && decide (c.u 12 4 ≤ slotSize typ)) stBadParam (
      if typ = 3 then chkAssayUpd s go else chk s.boot.flashOk stWrongState go))
/-- UPD_BEGIN (R408, R493). -/
def execUpdBegin (d : Desc) (s : State) : Res := cmdRow iUpdBegin d bodyUpdBegin s

/-- Sectors whose first byte lies in `n` bytes from `k`. -/
def sectorsIn (k n : Nat) : List Nat := (List.range ((k + n + 65535) / 65536)).filter (fun i => decide (k ≤ 65536 * i))

/-- Facts of UPD_DATA (R408). -/
def iUpdData : CmdInfo := { op := 0x0F01, p0 := true, bytes := [(8, 4)], bulk := .yes, svc := false }
/-- UPD_DATA (R493): each sector is erased and programmed as the data reaches it. -/
def bodyUpdData (c : Cmd) (s : State) : CmdRes :=
  updEnd 0x0F01 s (
    chk (decide (8 ≤ c.len) && decide (c.len ≤ 65536)) stBadParam (chk c.owned stNotOwner (
      match s.boot.upd with
      | some u =>
        chk (!u.activated) stWrongState (
        chk (c.u 8 4 == u.got && decide (u.got + c.len ≤ u.length)) stBadParam (sealedUpd s u (
        let x := s.slot u.typ u.slot
        let b := (sectorsIn u.got c.len).foldl eraseSector x.bytes
        let s := setSlot s u.typ u.slot { x with bytes := programAt b u.got (c.bulk.take c.len) }
        .ok (leBytes 4 (u.got + c.len)) [] (s.setBoot { s.boot with upd := some { u with got := u.got + c.len } }))))
      | none => .fail stWrongState)))
/-- UPD_DATA (R408, R493). -/
def execUpdData (d : Desc) (s : State) : Res := cmdRow iUpdData d bodyUpdData s

/-- Facts of UPD_VERIFY (R408). -/
def iUpdVerify : CmdInfo := { op := 0x0F02, p0 := true, svc := false }
/-- UPD_VERIFY (R476, R489, R493): the slot is checked and marked. -/
def bodyUpdVerify (_c : Cmd) (s : State) : CmdRes :=
  updEnd 0x0F02 s (
    match s.boot.upd with
    | some u =>
      let x := s.slot u.typ u.slot
      let st := verifyImage s u.typ x.bytes
      chk (u.got == u.length && !u.activated) stWrongState (sealedUpd s u (
      chk (st == stOk) st (
        let s := setSlot s u.typ u.slot { x with marked := true }
        .ok (leBytes 4 (hdrField x.bytes 8 4) ++ leBytes 2 (hdrField x.bytes 12 2)) []
          (s.setBoot { s.boot with upd := some { u with verified := true } }))))
    | none => .fail stWrongState)
/-- UPD_VERIFY (R408, R489). -/
def execUpdVerify (d : Desc) (s : State) : Res := cmdRow iUpdVerify d bodyUpdVerify s

/-- The assay die switches its slot and restarts (R463, R476). -/
def activateAssay (s : State) (u : Update) : State :=
  let a := s.assay
  let b := (s.slot 3 u.slot).bytes
  let was := fwWord a.fwVersion a.fw
  let ver := hdrField b 8 4
  let s := auditAdd s 0xFFFF 1 was (fwWord ver b)
  let s := s.setAssay { s.assay with active := u.slot, fwVersion := ver, trial := some (a.active, a.fwVersion, a.secVersion)
                                     newSec := hdrField b 12 2 }
  let s := dropMeasurements (raise s (srcAssay 3) 1 (idDigest b % 16777216))
  (s.setAssay { s.assay with st := 2 }).setBoot { s.boot with upd := none }

/-- Facts of UPD_ACTIVATE (R408). -/
def iUpdActivate : CmdInfo := { op := 0x0F03, p0 := true, bytes := [(8, 1)], bits := [(8, 1, 1)], svc := false }
/-- UPD_ACTIVATE (R476, R494). -/
def bodyUpdActivate (c : Cmd) (s : State) : CmdRes :=
  updEnd 0x0F03 s (
    chk (decide (c.u 8 1 ≤ 1)) stBadParam (
    match s.boot.upd with
    | some u =>
      chk (u.verified && !u.activated) stWrongState (
        let r := s.boot.current
        let now := fun (s : State) => if c.u 8 1 = 1 then s.setBoot { s.boot with resetAt := some (s.lt + 1000000, 4) } else s
        if u.typ = 3 then chkAssayUpd s (okS (now (activateAssay s u)))
        else
          let r := if u.typ = 1 then { r with active := u.slot, previous := r.active, trial := true, boots := 0, window := s.boot.window }
                   else { r with config := u.slot }
          let s := writeRecord s r
          okS (now (s.setBoot { s.boot with upd := some { u with activated := true } })))
    | none => .fail stWrongState))
/-- UPD_ACTIVATE (R408, R494). -/
def execUpdActivate (d : Desc) (s : State) : Res := cmdRow iUpdActivate d bodyUpdActivate s

/-- Facts of UPD_CONFIRM (R408). -/
def iUpdConfirm : CmdInfo := { op := 0x0F04, p0 := true, svc := false }
/-- UPD_CONFIRM (R495, R498): the record is CONFIRMED, then the thermometer is raised to the image's security version. -/
def bodyUpdConfirm (_c : Cmd) (s : State) : CmdRes :=
  updEnd 0x0F04 s (
    let r := s.boot.current
    chk s.boot.trialRun stWrongState (
      let s := writeRecord s { r with trial := false, boots := 0 }
      let v := max s.boot.thermo (hdrField (s.boot.image 1 r.active) 12 2)
      .ok (leBytes 1 v) [] (s.setBoot { s.boot with thermo := v, trialRun := false })))
/-- UPD_CONFIRM (R408, R495). -/
def execUpdConfirm (d : Desc) (s : State) : Res := cmdRow iUpdConfirm d bodyUpdConfirm s

/-- Facts of UPD_ABORT (R408). -/
def iUpdAbort : CmdInfo := { op := 0x0F05, p0 := true, svc := false }
/-- UPD_ABORT (R493): before activation it erases the slot's first sector. -/
def bodyUpdAbort (_c : Cmd) (s : State) : CmdRes :=
  updEnd 0x0F05 s (
    match s.boot.upd with
    | some u =>
      chk (!u.activated) stWrongState (
        let s := setSlot s u.typ u.slot { bytes := eraseSector (s.slot u.typ u.slot).bytes 0, marked := false }
        okS (s.setBoot { s.boot with upd := none }))
    | none => .fail stWrongState)
/-- UPD_ABORT (R408, R493). -/
def execUpdAbort (d : Desc) (s : State) : Res := cmdRow iUpdAbort d bodyUpdAbort s

/-- Facts of BOOT_INFO (R408). -/
def iBootInfo : CmdInfo := { op := 0x0F06, svc := false }
/-- BOOT_INFO (R408, R486, R491, R504): the slot actually started; the trial boot in progress has not failed yet. -/
def bodyBootInfo (_c : Cmd) (s : State) : CmdRes :=
  let b := s.boot
  let k := b.started.getD b.current.active
  let o := 1 - k
  let other := if !s.slotGood o then 0 else if (tblGetD b.hub o {}).marked then 2 else 1
  let failed := b.current.boots - b2n b.trialRun
  .ok (resOf [(0, 1, k), (1, 1, b.cfgSlot), (2, 1, failed), (3, 1, b.thermo), (4, 4, b.version k), (8, 4, b.version o), (12, 1, other)
              , (13, 1, b.cause)]) [] s
/-- BOOT_INFO (R408). -/
def execBootInfo (d : Desc) (s : State) : Res := cmdRow iBootInfo d bodyBootInfo s

/-- Facts of WARM_RESET (R408). -/
def iWarmReset : CmdInfo := { op := 0x0F07, p0 := true, svc := false }
/-- WARM_RESET (R408): the reset follows the completion by 1 ms. -/
def bodyWarmReset (_c : Cmd) (s : State) : CmdRes := okS (s.setBoot { s.boot with resetAt := some (s.lt + 1000000, 3) })
/-- WARM_RESET (R408). -/
def execWarmReset (d : Desc) (s : State) : Res := cmdRow iWarmReset d bodyWarmReset s

/-- Facts of DEBUG_UNLOCK (R409). -/
def iDebugUnlock : CmdInfo := { op := 0x1003, p0 := true, bytes := [(8, 1)], bulk := .yes, svc := false }
/-- DEBUG_UNLOCK (R428): a challenge of nonce and factory MAC; the answer's key sets the level. -/
def bodyDebugUnlock (c : Cmd) (s : State) : CmdRes :=
  let active := s.cycle.twins.any (fun e => e.2.role == 2)
  chk (decide (c.u 8 1 ≤ 1) && c.len == (if c.u 8 1 = 1 then 64 else 0)) stBadParam (chk c.owned stNotOwner (
  chk (!active) stWrongState (
    if c.u 8 1 = 0 then
      let x := fitBytes 10 (Config.nonce s.fresh) ++ leBytes 6 s.boot.mac
      let s := { s with fresh := s.fresh + 1 }
      .ok x [] (s.setCtl { s.ctl with challenge := some (x, s.lt) })
    else match s.ctl.challenge with
      | some (x, t) =>
        let lev := if s.boot.dbgOem && Config.sigOk 1 x (c.bulk.take 64) then 1
                   else if s.boot.dbgVendor && Config.sigOk 2 x (c.bulk.take 64) then 2 else 0
        chk (decide (s.lt ≤ t + 60000000000) && lev != 0) stDenied (
          okS (logAdd (s.setCtl { s.ctl with debug := lev, challenge := none }) 5 (leBytes 1 lev)))
      | none => .fail stDenied)))
/-- DEBUG_UNLOCK (R409, R428). -/
def execDebugUnlock (d : Desc) (s : State) : Res := cmdRow iDebugUnlock d bodyDebugUnlock s

/-- Facts of LOG_READ (R409). -/
def iLogRead : CmdInfo := { op := 0x1004, p0 := true, bytes := [(8, 4)], bulk := .yes, svc := false }
/-- LOG_READ (R409, R503): entries from a sequence number onward. -/
def bodyLogRead (c : Cmd) (s : State) : CmdRes :=
  let l := s.boot.log
  let oldest := match l with | e :: _ => e.seq | [] => s.boot.logSeq
  let first := if c.u 8 4 = 0xFFFFFFFF then oldest else c.u 8 4
  let back := signedOf 32 ((first + 4294967296 - oldest) % 4294967296)
  let l := (if 0 ≤ back then l.drop back.toNat else l).take (c.len / 64)
  let next := match l.getLast? with | some e => (e.seq + 1) % 4294967296 | none => first
  chk (decide (c.len ≠ 0) && c.len % 64 == 0) stBadParam (chk c.owned stNotOwner (
    .ok (resOf [(0, 2, l.length), (4, 4, next), (8, 4, oldest)]) (l.flatMap LogEnt.bytes) s))
/-- LOG_READ (R409). -/
def execLogRead (d : Desc) (s : State) : Res := cmdRow iLogRead d bodyLogRead s

end Sys2Proof.Machine
end

