-- ==== Sys2Proof/Machine/Commands.lean ====
section
/-!
DEFINITION. Commands by opcode: the diagnostics commands, a descriptor taken from a submission ring, ASYNC completion and overrun, and
the configuration record (R97, R98, R174, R330, R348 to R356, R382, R409, R410, R490, R491).
-/
namespace Sys2Proof.Machine

/-- Counters of a scope's table at places `l`, for index `i` of scope `k` (R410). -/
def ctrsAt (k i : Nat) (l : List Nat) : List (CtrId × Nat) := l.map (fun p => (⟨k, p⟩, i))

/-- Counters of a switch port: MACsec's on ports 0 to 5, duplicate discard's on ports 0 and 1 (R97). -/
def portCtrs (p : Nat) : List (CtrId × Nat) :=
  ctrsAt 1 p ((List.range nPortCtrs).filter (fun k => (decide (k ≠ 7) || decide (p ≤ 5)) && (decide (k < 8) || decide (11 < k) || decide (p ≤ 1))))

/-- Counters of a signal map: SAT once per signal and per field, EMITTED once per template (R265). -/
def mapCtrs (m : Nat) (x : SigMap) : List (CtrId × Nat) :=
  let sats := (List.range x.signals.length).map (satSignal m)
    ++ (List.range x.tpls.length).flatMap (fun k => (List.range ((x.tpls[k]?.map (fun t => t.fields.length)).getD 0)).map (satField m k))
  ctrsAt 9 m [0, 1] ++ sats.map (fun i => (cSat, i)) ++ ctrsAt 9 m [2, 3, 4, 5]
    ++ (List.range x.tpls.length).map (fun k => (cEmitted, 16 * m + k))

/-- Counters of an attachment, by its kind (R329). -/
def attCtrs (a : Nat) : List (CtrId × Nat) :=
  ctrsAt 12 a ([0, 1, 2, 3, 4, 5, 6] ++ (if attKind a = 1 then [7, 8] else if attKind a = 2 then [9, 10] else []))

/-- Counters of the hub, the two domain clocks' steps and the faults by code (R97, R183, R329, R374). -/
def hubCtrs : List (CtrId × Nat) :=
  ctrsAt 0 0 (List.range nHubCtrs) ++ [(cDomainSteps, 1), (cDomainSteps, 2)] ++ (List.range 19).map (fun k => (cFaults, k + 1))

/-- Counters of a resource, by class and index (R97, R122, R204, R246, R265, R300, R452). -/
def resCtrs (s : State) (cls i : Nat) : List (CtrId × Nat) :=
  if cls = 1 then ctrsAt 7 i (List.range nCanCtrs)
  else if cls = 2 then ctrsAt 10 i (List.range nHewerCtrs)
  else if cls = 3 then ctrsAt 11 i (List.range nPinCtrs)
  else if cls = 4 then ctrsAt 13 i (List.range nBranchCtrs)
  else if cls = 5 then ctrsAt 3 i (List.range nQCtrs)
  else if cls = 7 then ctrsAt 6 i (List.range nGroupCtrs)
  else if cls = 8 then ctrsAt 5 i (List.range nStreamCtrs)
  else if cls = 9 then portCtrs i
  else if cls = 10 then (if i = 0 then [] else [(cDomainSteps, i)])
  else if cls = 11 then mapCtrs i (s.map i)
  else if cls = 14 then ctrsAt 14 i [0]
  else []

/-- The counters of a scope written, and cleared with CLEAR (R97, R410). -/
def readCtrs (c : Cmd) (s : State) (vals : List Nat) (clear : State → State) : CmdRes :=
  chk (decide (8 * vals.length ≤ c.len)) stNoResource (
    .ok (leBytes 2 vals.length) (vals.flatMap (leBytes 8)) (if c.u 10 1 = 1 then clear s else s))

/-- Facts of COUNTERS_READ (R409). -/
def iCountersRead : CmdInfo := { op := 0x1000, k := true, bytes := [(8, 1), (9, 1), (10, 1), (12, 4)], bits := [(10, 1, 1)], bulk := .yes }
/-- COUNTERS_READ (R97, R409, R410): reading a resource needs read rights, clearing it ownership. -/
def bodyCountersRead (c : Cmd) (s : State) : CmdRes :=
  let scope := c.u 8 1
  let sub := c.u 9 1
  let clear := c.u 10 1 == 1
  let go := fun (l : List (CtrId × Nat)) =>
    readCtrs c s (l.map (fun e => s.ctr e.1 e.2)) (fun s => forEach l s (fun e s => s.clearCtr e.1 e.2))
  let rights := fun (cls i : Nat) (k : CmdRes) => chk c.owned stNotOwner (if clear then ownRes s c cls i k else readRes s c cls i k)
  chk (decide (scope ≤ 4) && decide (c.u 10 1 ≤ 1) && c.len % 8 == 0) stBadParam (
    if scope = 0 then
      match localRes s c.p (c.u 12 4) with
      | none => .fail stBadParam
      | some (cls, i) =>
        rights cls i (
          if cls = 6 then
            let x := s.source i
            readCtrs c s [x.masked, x.suppressed] (fun s => s.setSource i { s.source i with masked := 0, suppressed := 0 })
          else go (resCtrs s cls i))
    else if scope = 1 then
      handle s c 12 9 (fun p => chk (decide (sub ≤ 7)) stBadParam (rights 9 p (go (ctrsAt 2 (8 * p + sub) (List.range nClsCtrs)))))
    else chk c.owned stNotOwner (
      if scope = 2 then chk (decide (sub < 64)) stBadParam (chk ((s.canary sub).holder.getD 0 == c.p) stNotOwner (go (ctrsAt 4 sub [0, 1])))
      else if scope = 3 then chk (decide (sub < 28)) stBadParam (chk ((s.att sub).bound == some c.p) stNotOwner (go (attCtrs sub)))
      else chk (c.p == 0) stNotOwner (go hubCtrs)))
/-- COUNTERS_READ (R409, R410). -/
def execCountersRead (d : Desc) (s : State) : Res := cmdRow iCountersRead d bodyCountersRead s

/-- Facts of TEMP_READ (R409). -/
def iTempRead : CmdInfo := { op := 0x1001, k := true }
/-- TEMP_READ (R382, R409). -/
def bodyTempRead (_c : Cmd) (s : State) : CmdRes := .ok ((s.ctl.temps.take 5).flatMap (fun t => leBytes 2 (unsignedOf 16 t))) [] s
/-- TEMP_READ (R409). -/
def execTempRead (d : Desc) (s : State) : Res := cmdRow iTempRead d bodyTempRead s

/-- EOP and USED of a packet's cells in order, at their places in a header word; no cell of a packet or copy whose end has not come is its
last (R98). -/
def cellMarks (cells : List Nat) (len : Nat) (whole : Bool) : List (Nat × Nat) :=
  let n := cells.length
  (List.range n).zipWith (fun k c => (c, if whole && k + 1 == n then 2 ^ 22 + (len - 1) % 128 * 2 ^ 23 else 127 * 2 ^ 23)) cells

/-- The chains of cells that hold data: every queue's packets in order with its open one, every packet that arrives, every copy of the
switch, staged output data and last-gasp frames (R21, R83, R87, R98, R106, R210). -/
def State.chains (s : State) : List (List (Nat × Nat)) :=
  s.queues.map (fun e => (e.2.packets ++ e.2.fresh).flatMap (fun k => cellMarks k.cells k.bytes.length true)
      ++ e.2.opn.toList.flatMap (fun k => cellMarks k.cells k.bytes.length false))
    ++ s.queues.flatMap (fun e => e.2.arriving.map (fun k => cellMarks k.cells k.bytes.length false))
    ++ s.sw.ports.flatMap (fun e => ((e.2.queues.flatMap id) ++ e.2.sending.toList).map (fun k => cellMarks k.cells k.frame.len k.whole))
    ++ s.sw.ports.flatMap (fun e => match e.2.rx with | some r => r.copies.map (fun k => cellMarks k.cells k.frame.len false) | none => [])
    ++ s.cycle.stages.map (fun r => cellMarks r.cells 0 false)
    ++ s.cycle.groups.flatMap (fun e => e.2.pending.map (fun r => cellMarks r.cells r.data.length true))
    ++ s.cycle.gasp.map (fun a => cellMarks a.cells (52 + 2 * a.groups.length) true)

/-- NEXT, EOP and USED of a cell in a chain; NEXT is none in its tail (R98). -/
def findCell (c : Nat) : List (Nat × Nat) → Option (Option Nat × Nat)
  | [] => none
  | (a, m) :: r => if a = c then some (r.head?.map Prod.fst, m) else findCell c r

/-- Whether the lowest `n` bits of `v` hold an odd number of ones. -/
def oddOnes (v : Nat) : Nat → Bool
  | 0 => false
  | n + 1 => Bool.xor (bitAt v n) (oddOnes v n)

/-- Facts of CELL_HEADER_READ (R409). -/
def iCellHeaderRead : CmdInfo := { op := 0x1002, p0 := true, bytes := [(8, 4)] }
/-- CELL_HEADER_READ (R98, R409): NEXT of a tail cell, and the header word of a cell that holds nothing, are free. -/
def bodyCellHeaderRead (c : Cmd) (s : State) : CmdRes :=
  let n := c.u 8 4
  chk (decide (n < 4194304)) stBadParam (chk (decide (n < 65536 + s.pool.extCells)) stWrongState (
    let (v, t) := s.draw
    let w := match s.chains.findSome? (findCell n) with
      | some (some next, m) => next + m
      | some (none, m) => v.toNat % 4194304 + m
      | none => v.toNat % 2 ^ 30
    let w := w + b2n (s.pool.poisoned.contains n) * 2 ^ 30
    .ok (leBytes 4 (w + b2n (oddOnes w 31) * 2 ^ 31)) [] t))
/-- CELL_HEADER_READ (R409). -/
def execCellHeaderRead (d : Desc) (s : State) : Res := cmdRow iCellHeaderRead d bodyCellHeaderRead s

/-- What a command does, with the facts of its row. -/
structure CmdRow where
  /-- The facts of its row. -/
  info : CmdInfo
  /-- Its own checks and effect. -/
  body : Cmd → State → CmdRes

/-- Commands of group 0x01xx (R392). -/
def rows01 : List CmdRow := [
  ⟨iDevInfo, bodyDevInfo⟩, ⟨iPartCreate, bodyPartCreate⟩, ⟨iPartDestroy, bodyPartDestroy⟩, ⟨iPartReset, bodyPartReset⟩,
  ⟨iPartBind, bodyPartBind⟩, ⟨iHostSet, bodyHostSet⟩, ⟨iSramRegionSet, bodySramRegionSet⟩, ⟨iCmdAbort, bodyCmdAbort⟩]

/-- Commands of group 0x02xx (R393). -/
def rows02 : List CmdRow := [
  ⟨iResAssign, bodyResAssign⟩, ⟨iResSubscribe, bodyResSubscribe⟩, ⟨iResUnsubscribe, bodyResUnsubscribe⟩,
  ⟨iResQuery, bodyResQuery⟩, ⟨iResList, bodyResList⟩]

/-- Commands of group 0x03xx (R394). -/
def rows03 : List CmdRow := [
  ⟨iRingStatus, bodyRingStatus⟩, ⟨iRingCfg, bodyRingCfg⟩, ⟨iLinkCfg, bodyLinkCfg⟩, ⟨iPlcaCfg, bodyPlcaCfg⟩,
  ⟨iBarrier, bodyBarrier⟩, ⟨iRingReset, bodyRingReset⟩, ⟨iMacsecSaAdd, bodyMacsecSaAdd⟩, ⟨iMacsecTxAn, bodyMacsecTxAn⟩,
  ⟨iMacsecSaDel, bodyMacsecSaDel⟩, ⟨iMacsecCfg, bodyMacsecCfg⟩, ⟨iMacsecStatus, bodyMacsecStatus⟩]

/-- Commands of group 0x04xx (R396). -/
def rows04 : List CmdRow := [
  ⟨iPortCfg, bodyPortCfg⟩, ⟨iFdbWrite, bodyFdbWrite⟩, ⟨iFdbDelete, bodyFdbDelete⟩, ⟨iFdbRead, bodyFdbRead⟩,
  ⟨iFdbFlush, bodyFdbFlush⟩, ⟨iDsetWrite, bodyDsetWrite⟩, ⟨iStreamWrite, bodyStreamWrite⟩, ⟨iStreamRead, bodyStreamRead⟩,
  ⟨iLimitSet, bodyLimitSet⟩, ⟨iPoolSet, bodyPoolSet⟩, ⟨iAgeSet, bodyAgeSet⟩, ⟨iCanarySet, bodyCanarySet⟩]

/-- Commands of group 0x05xx (R397). -/
def rows05 : List CmdRow := [
  ⟨iQConfig, bodyQConfig⟩, ⟨iQBind, bodyQBind⟩, ⟨iQFlush, bodyQFlush⟩, ⟨iQDesc, bodyQDesc⟩,
  ⟨iDmaRingSet, bodyDmaRingSet⟩, ⟨iQMap, bodyQMap⟩]

/-- Commands of group 0x06xx (R398). -/
def rows06 : List CmdRow := [
  ⟨iSchedSet, bodySchedSet⟩, ⟨iRosterSet, bodyRosterSet⟩, ⟨iRosterRead, bodyRosterRead⟩, ⟨iSampleCfg, bodySampleCfg⟩,
  ⟨iSampleRead, bodySampleRead⟩]

/-- Commands of group 0x07xx (R399). -/
def rows07 : List CmdRow := [
  ⟨iDomainCfg, bodyDomainCfg⟩, ⟨iPtpPortCfg, bodyPtpPortCfg⟩, ⟨iStepPermit, bodyStepPermit⟩,
  ⟨iDomainSwitch, bodyDomainSwitch⟩, ⟨iTodSet, bodyTodSet⟩, ⟨iPpsCfg, bodyPpsCfg⟩, ⟨iTrigSet, bodyTrigSet⟩,
  ⟨iTrigRead, bodyTrigRead⟩, ⟨iCaptSet, bodyCaptSet⟩]

/-- Commands of group 0x08xx (R400). -/
def rows08 : List CmdRow := [
  ⟨iCycleStart, bodyCycleStart⟩, ⟨iCycleStop, bodyCycleStop⟩, ⟨iImageMapSet, bodyImageMapSet⟩, ⟨iSegCfg, bodySegCfg⟩,
  ⟨iImageSub, bodyImageSub⟩, ⟨iGroupSet, bodyGroupSet⟩, ⟨iGroupEnable, bodyGroupEnable⟩,
  ⟨iGroupSafeSet, bodyGroupSafeSet⟩, ⟨iGroupStatus, bodyGroupStatus⟩, ⟨iTwinSet, bodyTwinSet⟩,
  ⟨iTwinEnable, bodyTwinEnable⟩, ⟨iTwinRearm, bodyTwinRearm⟩, ⟨iTwinTakeover, bodyTwinTakeover⟩, ⟨iDrill, bodyDrill⟩,
  ⟨iTwinStatus, bodyTwinStatus⟩, ⟨iTallyRegister, bodyTallyRegister⟩]

/-- Commands of group 0x09xx (R401). -/
def rows09 : List CmdRow := [
  ⟨iCanCfg, bodyCanCfg⟩, ⟨iCanMode, bodyCanMode⟩, ⟨iCanQueueBind, bodyCanQueueBind⟩, ⟨iCanTxBuf, bodyCanTxBuf⟩,
  ⟨iCanTxAbort, bodyCanTxAbort⟩, ⟨iCanStatus, bodyCanStatus⟩, ⟨iTpCfg, bodyTpCfg⟩, ⟨iAclCfg, bodyAclCfg⟩,
  ⟨iAclStatus, bodyAclStatus⟩, ⟨iTunnelSet, bodyTunnelSet⟩]

/-- Commands of group 0x0Axx (R402). -/
def rows0A : List CmdRow := [
  ⟨iMapSet, bodyMapSet⟩, ⟨iMapEnable, bodyMapEnable⟩, ⟨iMapStatus, bodyMapStatus⟩]

/-- Commands of group 0x0Bxx (R403, R404). -/
def rows0B : List CmdRow := [
  ⟨iPinCfg, bodyPinCfg⟩, ⟨iPinRead, bodyPinRead⟩, ⟨iPinWrite, bodyPinWrite⟩, ⟨iPinTimed, bodyPinTimed⟩,
  ⟨iPinCountClear, bodyPinCountClear⟩, ⟨iHewerCfg, bodyHewerCfg⟩, ⟨iHewerLoad, bodyHewerLoad⟩,
  ⟨iHewerLoadLib, bodyHewerLoadLib⟩, ⟨iHewerStart, bodyHewerStart⟩, ⟨iHewerStop, bodyHewerStop⟩,
  ⟨iHewerRegWrite, bodyHewerRegWrite⟩, ⟨iHewerIrqSet, bodyHewerIrqSet⟩, ⟨iHewerStatus, bodyHewerStatus⟩,
  ⟨iFlagAssign, bodyFlagAssign⟩, ⟨iFlagRead, bodyFlagRead⟩, ⟨iFlagWrite, bodyFlagWrite⟩]

/-- Commands of group 0x0Cxx (R405). -/
def rows0C : List CmdRow := [
  ⟨iEvqSet, bodyEvqSet⟩, ⟨iEvtCfg, bodyEvtCfg⟩, ⟨iEvtStatus, bodyEvtStatus⟩]

/-- Commands of group 0x0Dxx (R406). -/
def rows0D : List CmdRow := [
  ⟨iBranchCfg, bodyBranchCfg⟩, ⟨iBranchSet, bodyBranchSet⟩, ⟨iRetryNow, bodyRetryNow⟩, ⟨iBranchStatus, bodyBranchStatus⟩,
  ⟨iInrushCfg, bodyInrushCfg⟩, ⟨iEnergyClear, bodyEnergyClear⟩]

/-- Commands of group 0x0Exx (R407). -/
def rows0E : List CmdRow := [
  ⟨iAssayInfo, bodyAssayInfo⟩, ⟨iAssayMeasure, bodyAssayMeasure⟩, ⟨iAssayZero, bodyAssayZero⟩,
  ⟨iAssayTare, bodyAssayTare⟩, ⟨iAssayTransfer, bodyAssayTransfer⟩, ⟨iAssayParamSet, bodyAssayParamSet⟩,
  ⟨iAuditRead, bodyAuditRead⟩]

/-- Commands of group 0x0Fxx (R408). -/
def rows0F : List CmdRow := [
  ⟨iUpdBegin, bodyUpdBegin⟩, ⟨iUpdData, bodyUpdData⟩, ⟨iUpdVerify, bodyUpdVerify⟩, ⟨iUpdActivate, bodyUpdActivate⟩,
  ⟨iUpdConfirm, bodyUpdConfirm⟩, ⟨iUpdAbort, bodyUpdAbort⟩, ⟨iBootInfo, bodyBootInfo⟩, ⟨iWarmReset, bodyWarmReset⟩]

/-- Commands of group 0x10xx (R409). -/
def rows10 : List CmdRow := [
  ⟨iCountersRead, bodyCountersRead⟩, ⟨iTempRead, bodyTempRead⟩, ⟨iCellHeaderRead, bodyCellHeaderRead⟩,
  ⟨iDebugUnlock, bodyDebugUnlock⟩, ⟨iLogRead, bodyLogRead⟩]

/-- The commands of a group (R383). -/
def rowsOf (g : Nat) : List CmdRow :=
  if g = 1 then rows01
  else if g = 2 then rows02
  else if g = 3 then rows03
  else if g = 4 then rows04
  else if g = 5 then rows05
  else if g = 6 then rows06
  else if g = 7 then rows07
  else if g = 8 then rows08
  else if g = 9 then rows09
  else if g = 10 then rows0A
  else if g = 11 then rows0B
  else if g = 12 then rows0C
  else if g = 13 then rows0D
  else if g = 14 then rows0E
  else if g = 15 then rows0F
  else if g = 16 then rows10
  else []

/-- The command of an opcode; none where the opcode is unknown (R350). -/
def rowOf (op : Nat) : Option CmdRow := (rowsOf (op / 256)).find? (fun r => r.info.op == op)

/-- A known command's start, by opcode (R350 to R353, R395). -/
def startOf (r : CmdRow) (d : Desc) (s : State) : State :=
  if r.info.op = 0x0310 then match execMacsecSaAdd d s with | .next t => t | _ => s else runCmd r.info d r.body s

/-- COMMAND_START: the deputy takes partition `p`'s next descriptor, in submission order, once completion room is reserved
(R348, R350 to R352, R355). -/
def execCommandStart (p : Nat) (s : State) : Res :=
  unit p 16 (
    let x := s.part p
    if !s.mbxReady p || x.blocked || (s.pair 0).halted || x.sqHead == x.sqTail then s
    else
      let (op, d) := slotDesc s p (x.sqHead % 256)
      if x.cqRoom < (if bitAt d.flags 0 then 2 else 1) then s.setPart p { x with cqWait := true }
      else
        let s := s.setPart p { x with cqWait := false, sqHead := (x.sqHead + 1) % 65536 }
        match rowOf op with
        | none => finalCpl s d stBadOpcode []
        | some r => startOf r d s)

/-- ASYNC_COMPLETE: a command with TAG `tag` that was accepted, or that waited for service firmware, runs to its final completion
(R351, R395). -/
def execAsyncComplete (p tag : Nat) (s : State) : Res :=
  unit p 16 (
    match takeFirst (fun (a : Async) => !a.begun && a.desc.tag == tag) (s.part p).cmds with
    | none => s
    | some (a, rest) =>
      if (a.service && (s.serviceStalled || (a.stalled && s.pairHalted))) || (s.pair 0).halted || !s.mbxReady p then s
      else match rowOf a.opcode with
        | none => s
        | some r =>
          let s := finishAsync s p r.info r.body a rest
          if a.opcode = 0x0310 then wipeKeyBulk s a.desc else s)

/-- Commands of tier B (R390). -/
def tierB : List Nat := [0x0204, 0x0403, 0x0505, 0x0601, 0x0602, 0x0802, 0x0805, 0x0809, 0x0908, 0x0A00, 0x0A02, 0x1000]

/-- After this time in ns a service command has overrun: ten times its bound, or 100 ms if that is longer (R355, R390). -/
def overrunNs (s : State) (a : Async) : Nat :=
  let bound :=
    if a.opcode = 0x0304 ∨ a.opcode = 0x080D then s.ring.cplTimeout * 100000
    else if tierB.contains a.opcode then 100000 + (a.desc.bulkLen + 63) / 64 * 1000
    else 500000
  max 100000000 (10 * bound)

/-- COMMAND_OVERRUN: partition `p`'s oldest overrun service command ends with FIRMWARE_FAULT; whether it took effect is free (R355, R375). -/
def execCommandOverrun (p : Nat) (s : State) : Res :=
  unit p 16 (
    match takeFirst (fun (a : Async) => a.service && decide (a.due + overrunNs s a ≤ s.lt)) (s.part p).cmds with
    | none => s
    | some (a, rest) =>
      if (s.pair 0).halted then s
      else
        let s := s.setPart p { s.part p with cmds := rest }
        let (v, s) := s.draw
        let took := match rowOf a.opcode with
          | some r => if a.begun || !v.getLsbD 0 then s else match r.body { cmdOf s a.desc with bulk := a.bulk } s with
            | .ok _ _ t => t
            | .ends _ _ t => t
            | _ => s
          | none => s
        detectCode (finalCpl took a.desc stFwFault []) 0x0A a.opcode)

/-- The descriptor that 64 bytes hold, of partition `p`: opcode and the rest (R383). -/
def descOf (p : Nat) (b : List Byte) : Nat × Desc :=
  (leAt b 0 2, { part := p, flags := leAt b 2 1, byte3 := leAt b 3 1, tag := leAt b 4 4, params := bytesAt b 8 48, bulkOff := 0
                 bulkLen := leAt b 60 4 })

/-- A parameter change of the assay die that no measurement delays, committed while the record is applied (R463, R491). -/
def configParam (s : State) : Nat × State :=
  match s.assay.waiting.getLast? with
  | none => (stTimeout, s)
  | some w =>
    let t := s.setAssay { s.assay with waiting := s.assay.waiting.dropLast }
    if s.assay.uses (w.pid % 16) then (stTimeout, t)
    else if !s.assay.logOpen then (stWrongState, t)
    else if !s.assay.sealLevel then (stSealed, t)
    else (stOk, commitParam t (w.pid / 16) (w.pid % 16) w.value)

/-- One entry of a configuration record: status and state after (R350, R388, R490, R491); of a wrapped bulk
whose integrity check fails, log 6. -/
def configEntry (s : State) (b : List Byte) : Nat × State :=
  let p := leAt b 0 1
  let n := leAt b 4 4
  let (op, d) := descOf p (bytesAt b 8 64)
  let raw := bytesAt b 72 n
  let bulk := if bitAt (leAt b 1 1) 0 then fitBytes (n - 8) (Config.unwrap raw) else raw
  if b.length < 72 + n ∨ 15 < p ∨ (s.part p).st ≠ 1 ∨ bitAt d.flags 0 then (stBadParam, s)
  else match rowOf op with
    | none => (stBadOpcode, s)
    | some r =>
      match precheck r.info d s with
      | some st => (st, s)
      | none =>
        if r.info.bulk = .yes ∧ (bulk.length < d.bulkLen ∨ d.bulkLen + 8 ≤ bulk.length) then (stBadParam, s)
        else match r.body { d := d, bulk := bulk.take d.bulkLen, owned := true } s with
          | .fail st => (st, s)
          | .ok _ _ t => (stOk, t)
          | .ends st _ t => (st, t)
          | .later t => if op = 0x0E05 then configParam t else (stTimeout, s)
          | .silent t => (stOk, t)

/-- The entries of a record in order, up to the first that fails: its index and status (R491). -/
def configEntries (s : State) (b : List Byte) (k : Nat) : Nat → Option (Nat × Nat) × State
  | 0 => (none, s)
  | n + 1 =>
    match configEntry s b with
    | (st, t) => if st = stOk then configEntries t (b.drop (72 + (leAt b 4 4 + 7) / 8 * 8)) (k + 1) n else (some (k, st), t)

/-- The queues that firmware takes from 4,095 downward, with their uses, producers and consumers (R105, R397). -/
def fwQueues : List (Nat × Nat × Producer × Consumer) :=
  [(4095, 2, .port14, .firmware), (4094, 1, .firmware, .port14), (4093, 8, .port14, .firmware), (4092, 7, .firmware, .firmware),
    (4091, 3, .canary, .firmware), (4026, 5, .firmware, .firmware), (4025, 6, .firmware, .firmware),
    (qBridgeTx, 2, .firmware, .port14), (qFirmwareTx, 15, .firmware, .port14), (qEventTx, 15, .firmware, .port14)]
    ++ (List.range 64).map (fun k => (4090 - k, 4, Producer.firmware, Consumer.firmware))

/-- Firmware takes its queues (R105). -/
def takeQueues (s : State) : State :=
  forEach fwQueues s (fun e s =>
    s.setQueue e.1 { enable := true, pin := true, limit := 4194304, fwUse := e.2.1, prod := e.2.2.1, cons := e.2.2.2
                     launchSrc := if e.2.1 = 1 then 2 else 0, launchUnit := if e.2.1 = 1 then 62 else 0 })

/-- Cells of the external extension that the fitted memory holds, of those asked for (R99). -/
def extFit (s : State) (n : Nat) : Nat := min n (s.pool.fittedMiB * 1048576 / (132 * 65536) * 65536)

/-- The settings block of a record: EXT_CELLS, TRIAL_WINDOW, WARM_PIN, ENTRY_COUNT; none when one is out of range (R99, R490). -/
def settingsOf (b : List Byte) : Option (Nat × Nat × Nat × Nat) :=
  let ext := leAt b 0 4
  let win := leAt b 4 2
  let pin := leAt b 6 1
  if ext ≤ 4128768 ∧ ext % 65536 = 0 ∧ 1 ≤ win ∧ win ≤ 60 ∧ pin ≤ 1 ∧ leAt b 8 4 ≤ 65535 then some (ext, win, pin, leAt b 8 4) else none

/-- A configuration slot applied: the state it leaves and whether EXT_CELLS fell short, or nothing and the log's note of what failed
(R490, R491). -/
def configSlot (s : State) (k : Nat) : Option (State × Bool) × State :=
  let img := s.boot.image 2 k
  if !s.boot.flashOk || verifyImage s 2 img != stOk then (none, s)
  else
    let b := flashAt img 512 (hdrField img 16 4)
    let note := fun (t : State) (e : Nat × Nat) =>
      logAdd { s with out := t.out, fresh := t.fresh } 4 (leBytes 1 k ++ leBytes 2 e.1 ++ leBytes 2 e.2)
    match settingsOf b with
    | none => (none, note s (0, stBadParam))
    | some (ext, win, pin, n) =>
      let fit := extFit s ext
      let t := { s with pool := { s.pool with extCells := fit }, boot := { s.boot with window := win, warmPin := pin == 1, cfgSlot := k } }
      match configEntries t (b.drop 64) 0 n with
      | (none, t) => (some (t, decide (fit < ext)), s)
      | (some e, t) => (none, note t e)

/-- What the hub reports once partitions are open: held branches, a fatal fault, lost pairs, a bad strap, a short pool, rails
that were not in band (R57, R99, R374, R417, R450, R518). -/
def configReports (s : State) (short : Bool) : State :=
  let s := reportHold s
  let s := match s.faults.fatal with
    | some f => forEach s.openParts (s.setFaults { s.faults with fatal := none }) (fun p s => faultRecord s p f)
    | none => s
  let s := forEach [1, 2] s (fun p s => raiseIf s (!(s.pair p).ok) (srcDiag 335) 1 p)
  let s := raiseIf s (decide (s.boot.cause ≤ 2) && decide (251 ≤ s.boot.nodeSel)) (srcDiag 332) 1 0
  let s := raiseIf s short (srcDiag 333) 1 0
  forEach s.ctl.railsLate (s.setCtl { s.ctl with railsLate := [] }) (fun r s => detectCode s 0x0D r)

/-- CONFIG_APPLY: the active configuration slot, else the other, else the defaults; partition 0 opens, the ring ports leave pass-through
once the hub holds a node number (R31, R99, R105, R174, R330, R491). -/
def execConfigApply (s : State) : Res :=
  if !s.boot.running || s.boot.configured then .next s
  else
    let s := takeQueues (s.setPart 0 { s.part 0 with st := 1 })
    let a := s.boot.current.config
    let (t, short) := match configSlot s a with
      | (some t, _) => t
      | (none, s) => match configSlot s (1 - a) with
        | (some t, _) => t
        | (none, s) => (s, false)
    let t := t.setBoot { t.boot with configured := true }
    let r := t.ring
    let t := t.setRing { r with heardAt := t.lt, mgrNode := if r.actingMgr then r.node else r.mgrNode }
    let t := if t.cycle.running then t else forEach [60, 61, 62, 63] t (fun u t => if (t.trig u).held then returnUnit t u else t)
    let t := if t.power.slotsEn || !(t.trig 59).held then t else returnUnit t 59
    .next (configReports t short)

end Sys2Proof.Machine
end

