-- ==== Sys2Proof/Machine/Dispatch.lean ====
section
/-!
DEFINITION. The command table: one arm for each constructor of `Instr`, each a direct call of its meaning.
-/
namespace Sys2Proof.Machine

/-- The effect of a command on everything but the queue. -/
def exec (i : Instr) (s : State) : Host.Outcome State Fault Refusal :=
  match i with
  | .devInfo d => Sys2Proof.Machine.execDevInfo d s
  | .partCreate d => Sys2Proof.Machine.execPartCreate d s
  | .partDestroy d => Sys2Proof.Machine.execPartDestroy d s
  | .partReset d => Sys2Proof.Machine.execPartReset d s
  | .partBind d => Sys2Proof.Machine.execPartBind d s
  | .hostSet d => Sys2Proof.Machine.execHostSet d s
  | .sramRegionSet d => Sys2Proof.Machine.execSramRegionSet d s
  | .cmdAbort d => Sys2Proof.Machine.execCmdAbort d s
  | .resAssign d => Sys2Proof.Machine.execResAssign d s
  | .resSubscribe d => Sys2Proof.Machine.execResSubscribe d s
  | .resUnsubscribe d => Sys2Proof.Machine.execResUnsubscribe d s
  | .resQuery d => Sys2Proof.Machine.execResQuery d s
  | .resList d => Sys2Proof.Machine.execResList d s
  | .ringStatus d => Sys2Proof.Machine.execRingStatus d s
  | .ringCfg d => Sys2Proof.Machine.execRingCfg d s
  | .linkCfg d => Sys2Proof.Machine.execLinkCfg d s
  | .plcaCfg d => Sys2Proof.Machine.execPlcaCfg d s
  | .barrier d => Sys2Proof.Machine.execBarrier d s
  | .ringReset d => Sys2Proof.Machine.execRingReset d s
  | .macsecSaAdd d => Sys2Proof.Machine.execMacsecSaAdd d s
  | .macsecTxAn d => Sys2Proof.Machine.execMacsecTxAn d s
  | .macsecSaDel d => Sys2Proof.Machine.execMacsecSaDel d s
  | .macsecCfg d => Sys2Proof.Machine.execMacsecCfg d s
  | .macsecStatus d => Sys2Proof.Machine.execMacsecStatus d s
  | .portCfg d => Sys2Proof.Machine.execPortCfg d s
  | .fdbWrite d => Sys2Proof.Machine.execFdbWrite d s
  | .fdbDelete d => Sys2Proof.Machine.execFdbDelete d s
  | .fdbRead d => Sys2Proof.Machine.execFdbRead d s
  | .fdbFlush d => Sys2Proof.Machine.execFdbFlush d s
  | .dsetWrite d => Sys2Proof.Machine.execDsetWrite d s
  | .streamWrite d => Sys2Proof.Machine.execStreamWrite d s
  | .streamRead d => Sys2Proof.Machine.execStreamRead d s
  | .limitSet d => Sys2Proof.Machine.execLimitSet d s
  | .poolSet d => Sys2Proof.Machine.execPoolSet d s
  | .ageSet d => Sys2Proof.Machine.execAgeSet d s
  | .canarySet d => Sys2Proof.Machine.execCanarySet d s
  | .qConfig d => Sys2Proof.Machine.execQConfig d s
  | .qBind d => Sys2Proof.Machine.execQBind d s
  | .qFlush d => Sys2Proof.Machine.execQFlush d s
  | .qDesc d => Sys2Proof.Machine.execQDesc d s
  | .dmaRingSet d => Sys2Proof.Machine.execDmaRingSet d s
  | .qMap d => Sys2Proof.Machine.execQMap d s
  | .schedSet d => Sys2Proof.Machine.execSchedSet d s
  | .rosterSet d => Sys2Proof.Machine.execRosterSet d s
  | .rosterRead d => Sys2Proof.Machine.execRosterRead d s
  | .sampleCfg d => Sys2Proof.Machine.execSampleCfg d s
  | .sampleRead d => Sys2Proof.Machine.execSampleRead d s
  | .domainCfg d => Sys2Proof.Machine.execDomainCfg d s
  | .ptpPortCfg d => Sys2Proof.Machine.execPtpPortCfg d s
  | .stepPermit d => Sys2Proof.Machine.execStepPermit d s
  | .domainSwitch d => Sys2Proof.Machine.execDomainSwitch d s
  | .todSet d => Sys2Proof.Machine.execTodSet d s
  | .ppsCfg d => Sys2Proof.Machine.execPpsCfg d s
  | .trigSet d => Sys2Proof.Machine.execTrigSet d s
  | .trigRead d => Sys2Proof.Machine.execTrigRead d s
  | .captSet d => Sys2Proof.Machine.execCaptSet d s
  | .cycleStart d => Sys2Proof.Machine.execCycleStart d s
  | .cycleStop d => Sys2Proof.Machine.execCycleStop d s
  | .imageMapSet d => Sys2Proof.Machine.execImageMapSet d s
  | .segCfg d => Sys2Proof.Machine.execSegCfg d s
  | .imageSub d => Sys2Proof.Machine.execImageSub d s
  | .groupSet d => Sys2Proof.Machine.execGroupSet d s
  | .groupEnable d => Sys2Proof.Machine.execGroupEnable d s
  | .groupSafeSet d => Sys2Proof.Machine.execGroupSafeSet d s
  | .groupStatus d => Sys2Proof.Machine.execGroupStatus d s
  | .twinSet d => Sys2Proof.Machine.execTwinSet d s
  | .twinEnable d => Sys2Proof.Machine.execTwinEnable d s
  | .twinRearm d => Sys2Proof.Machine.execTwinRearm d s
  | .twinTakeover d => Sys2Proof.Machine.execTwinTakeover d s
  | .drill d => Sys2Proof.Machine.execDrill d s
  | .twinStatus d => Sys2Proof.Machine.execTwinStatus d s
  | .tallyRegister d => Sys2Proof.Machine.execTallyRegister d s
  | .canCfg d => Sys2Proof.Machine.execCanCfg d s
  | .canMode d => Sys2Proof.Machine.execCanMode d s
  | .canQueueBind d => Sys2Proof.Machine.execCanQueueBind d s
  | .canTxBuf d => Sys2Proof.Machine.execCanTxBuf d s
  | .canTxAbort d => Sys2Proof.Machine.execCanTxAbort d s
  | .canStatus d => Sys2Proof.Machine.execCanStatus d s
  | .tpCfg d => Sys2Proof.Machine.execTpCfg d s
  | .aclCfg d => Sys2Proof.Machine.execAclCfg d s
  | .aclStatus d => Sys2Proof.Machine.execAclStatus d s
  | .tunnelSet d => Sys2Proof.Machine.execTunnelSet d s
  | .mapSet d => Sys2Proof.Machine.execMapSet d s
  | .mapEnable d => Sys2Proof.Machine.execMapEnable d s
  | .mapStatus d => Sys2Proof.Machine.execMapStatus d s
  | .pinCfg d => Sys2Proof.Machine.execPinCfg d s
  | .pinRead d => Sys2Proof.Machine.execPinRead d s
  | .pinWrite d => Sys2Proof.Machine.execPinWrite d s
  | .pinTimed d => Sys2Proof.Machine.execPinTimed d s
  | .pinCountClear d => Sys2Proof.Machine.execPinCountClear d s
  | .hewerCfg d => Sys2Proof.Machine.execHewerCfg d s
  | .hewerLoad d => Sys2Proof.Machine.execHewerLoad d s
  | .hewerLoadLib d => Sys2Proof.Machine.execHewerLoadLib d s
  | .hewerStart d => Sys2Proof.Machine.execHewerStart d s
  | .hewerStop d => Sys2Proof.Machine.execHewerStop d s
  | .hewerRegWrite d => Sys2Proof.Machine.execHewerRegWrite d s
  | .hewerIrqSet d => Sys2Proof.Machine.execHewerIrqSet d s
  | .hewerStatus d => Sys2Proof.Machine.execHewerStatus d s
  | .flagAssign d => Sys2Proof.Machine.execFlagAssign d s
  | .flagRead d => Sys2Proof.Machine.execFlagRead d s
  | .flagWrite d => Sys2Proof.Machine.execFlagWrite d s
  | .evqSet d => Sys2Proof.Machine.execEvqSet d s
  | .evtCfg d => Sys2Proof.Machine.execEvtCfg d s
  | .evtStatus d => Sys2Proof.Machine.execEvtStatus d s
  | .branchCfg d => Sys2Proof.Machine.execBranchCfg d s
  | .branchSet d => Sys2Proof.Machine.execBranchSet d s
  | .retryNow d => Sys2Proof.Machine.execRetryNow d s
  | .branchStatus d => Sys2Proof.Machine.execBranchStatus d s
  | .inrushCfg d => Sys2Proof.Machine.execInrushCfg d s
  | .energyClear d => Sys2Proof.Machine.execEnergyClear d s
  | .assayInfo d => Sys2Proof.Machine.execAssayInfo d s
  | .assayMeasure d => Sys2Proof.Machine.execAssayMeasure d s
  | .assayZero d => Sys2Proof.Machine.execAssayZero d s
  | .assayTare d => Sys2Proof.Machine.execAssayTare d s
  | .assayTransfer d => Sys2Proof.Machine.execAssayTransfer d s
  | .assayParamSet d => Sys2Proof.Machine.execAssayParamSet d s
  | .auditRead d => Sys2Proof.Machine.execAuditRead d s
  | .updBegin d => Sys2Proof.Machine.execUpdBegin d s
  | .updData d => Sys2Proof.Machine.execUpdData d s
  | .updVerify d => Sys2Proof.Machine.execUpdVerify d s
  | .updActivate d => Sys2Proof.Machine.execUpdActivate d s
  | .updConfirm d => Sys2Proof.Machine.execUpdConfirm d s
  | .updAbort d => Sys2Proof.Machine.execUpdAbort d s
  | .bootInfo d => Sys2Proof.Machine.execBootInfo d s
  | .warmReset d => Sys2Proof.Machine.execWarmReset d s
  | .countersRead d => Sys2Proof.Machine.execCountersRead d s
  | .tempRead d => Sys2Proof.Machine.execTempRead d s
  | .cellHeaderRead d => Sys2Proof.Machine.execCellHeaderRead d s
  | .debugUnlock d => Sys2Proof.Machine.execDebugUnlock d s
  | .logRead d => Sys2Proof.Machine.execLogRead d s
  | .mbxSqTailWrite a v => Sys2Proof.Machine.execMbxSqTailWrite a v s
  | .mbxCqHeadWrite a v => Sys2Proof.Machine.execMbxCqHeadWrite a v s
  | .commandStart p => Sys2Proof.Machine.execCommandStart p s
  | .asyncComplete p tag => Sys2Proof.Machine.execAsyncComplete p tag s
  | .commandOverrun p => Sys2Proof.Machine.execCommandOverrun p s
  | .prodData a q data => Sys2Proof.Machine.execProdData a q data s
  | .prodCommit a q trim => Sys2Proof.Machine.execProdCommit a q trim s
  | .prodAbort a q => Sys2Proof.Machine.execProdAbort a q s
  | .flush a q => Sys2Proof.Machine.execFlush a q s
  | .dmaHeadWrite a q v => Sys2Proof.Machine.execDmaHeadWrite a q v s
  | .pop a q len => Sys2Proof.Machine.execPop a q len s
  | .holdOffsetWrite a q v => Sys2Proof.Machine.execHoldOffsetWrite a q v s
  | .holdAck a q seq => Sys2Proof.Machine.execHoldAck a q seq s
  | .wmPendingAck a q => Sys2Proof.Machine.execWmPendingAck a q s
  | .packetVisible q => Sys2Proof.Machine.execPacketVisible q s
  | .holdPresent q => Sys2Proof.Machine.execHoldPresent q s
  | .cellAllocate q data => Sys2Proof.Machine.execCellAllocate q data s
  | .dmaPacketDeliver q => Sys2Proof.Machine.execDmaPacketDeliver q s
  | .stageDataWrite a g off data => Sys2Proof.Machine.execStageDataWrite a g off data s
  | .stageCommit a g value => Sys2Proof.Machine.execStageCommit a g value s
  | .stageAbort a g => Sys2Proof.Machine.execStageAbort a g s
  | .stageRecordExpiry node part g => Sys2Proof.Machine.execStageRecordExpiry node part g s
  | .domainSwitchWrite a value => Sys2Proof.Machine.execDomainSwitchWrite a value s
  | .trigArmWrite a t value => Sys2Proof.Machine.execTrigArmWrite a t value s
  | .evqHeadWrite a v => Sys2Proof.Machine.execEvqHeadWrite a v s
  | .evqCtrlWrite a v => Sys2Proof.Machine.execEvqCtrlWrite a v s
  | .faultFirstClear a => Sys2Proof.Machine.execFaultFirstClear a s
  | .rcvStatusClear a att => Sys2Proof.Machine.execRcvStatusClear a att s
  | .registerWrite a addr data => Sys2Proof.Machine.execRegisterWrite a addr data s
  | .pcieMemRead att bar off len => Sys2Proof.Machine.execPcieMemRead att bar off len s
  | .pcieMemWrite att bar off data => Sys2Proof.Machine.execPcieMemWrite att bar off data s
  | .pcieAtomic att bar off op data => Sys2Proof.Machine.execPcieAtomic att bar off op data s
  | .pcieLinkDown att cause => Sys2Proof.Machine.execPcieLinkDown att cause s
  | .spiRead cs addr len spec => Sys2Proof.Machine.execSpiRead cs addr len spec s
  | .spiWrite cs addr data => Sys2Proof.Machine.execSpiWrite cs addr data s
  | .spiWriteNp cs addr data => Sys2Proof.Machine.execSpiWriteNp cs addr data s
  | .spiFetchadd cs addr data => Sys2Proof.Machine.execSpiFetchadd cs addr data s
  | .spiSwap cs addr data => Sys2Proof.Machine.execSpiSwap cs addr data s
  | .spiCas cs addr data => Sys2Proof.Machine.execSpiCas cs addr data s
  | .spiShort cs cmd addr len spec data => Sys2Proof.Machine.execSpiShort cs cmd addr len spec data s
  | .spiCsIdleTimeout cs => Sys2Proof.Machine.execSpiCsIdleTimeout cs s
  | .npRequestIssue => Sys2Proof.Machine.execNpRequestIssue s
  | .postedWriteIssue => Sys2Proof.Machine.execPostedWriteIssue s
  | .grtTimeout tag => Sys2Proof.Machine.execGrtTimeout tag s
  | .lockRetry tag => Sys2Proof.Machine.execLockRetry tag s
  | .lockTimeoutExpiry space gran => Sys2Proof.Machine.execLockTimeoutExpiry space gran s
  | .read f => Sys2Proof.Machine.execRead f s
  | .writeP f => Sys2Proof.Machine.execWriteP f s
  | .writeNp f => Sys2Proof.Machine.execWriteNp f s
  | .lockRead f => Sys2Proof.Machine.execLockRead f s
  | .writeUnlock f => Sys2Proof.Machine.execWriteUnlock f s
  | .completion f => Sys2Proof.Machine.execCompletion f s
  | .event f => Sys2Proof.Machine.execEvent f s
  | .barrierToken f => Sys2Proof.Machine.execBarrierToken f s
  | .barrierTokenRelease => Sys2Proof.Machine.execBarrierTokenRelease s
  | .imageIn f => Sys2Proof.Machine.execImageIn f s
  | .imageOut f => Sys2Proof.Machine.execImageOut f s
  | .shadow f => Sys2Proof.Machine.execShadow f s
  | .resign f => Sys2Proof.Machine.execResign f s
  | .canTunnel f => Sys2Proof.Machine.execCanTunnel f s
  | .enumWalk f => Sys2Proof.Machine.execEnumWalk f s
  | .enumReport f => Sys2Proof.Machine.execEnumReport f s
  | .enumAssign f => Sys2Proof.Machine.execEnumAssign f s
  | .mgrBeacon f => Sys2Proof.Machine.execMgrBeacon f s
  | .ringResetFrame f => Sys2Proof.Machine.execRingResetFrame f s
  | .beaconTimer => Sys2Proof.Machine.execBeaconTimer s
  | .beaconLoss => Sys2Proof.Machine.execBeaconLoss s
  | .walkTimeout => Sys2Proof.Machine.execWalkTimeout s
  | .enumerationStart => Sys2Proof.Machine.execEnumerationStart s
  | .linkUp port rate partner crossed => Sys2Proof.Machine.execLinkUp port rate partner crossed s
  | .linkDown port => Sys2Proof.Machine.execLinkDown port s
  | .frameHead port fr => Sys2Proof.Machine.execFrameHead port fr s
  | .frameEnd port bad len => Sys2Proof.Machine.execFrameEnd port bad len s
  | .transmitterFree port => Sys2Proof.Machine.execTransmitterFree port s
  | .selectRetry port => Sys2Proof.Machine.execSelectRetry port s
  | .rosterEntryBoundary port => Sys2Proof.Machine.execRosterEntryBoundary port s
  | .rosterSwitchover port => Sys2Proof.Machine.execRosterSwitchover port s
  | .launchTimeReached port cls => Sys2Proof.Machine.execLaunchTimeReached port cls s
  | .ageSweep => Sys2Proof.Machine.execAgeSweep s
  | .fdbAgeExpiry mac vlan => Sys2Proof.Machine.execFdbAgeExpiry mac vlan s
  | .ddForget mac => Sys2Proof.Machine.execDdForget mac s
  | .proxyForget mac => Sys2Proof.Machine.execProxyForget mac s
  | .sampleInstant obj => Sys2Proof.Machine.execSampleInstant obj s
  | .syncReceived m => Sys2Proof.Machine.execSyncReceived m s
  | .announceReceived m => Sys2Proof.Machine.execAnnounceReceived m s
  | .pdelayExchange port trip => Sys2Proof.Machine.execPdelayExchange port trip s
  | .syncLoss dom => Sys2Proof.Machine.execSyncLoss dom s
  | .scheduledSwitch => Sys2Proof.Machine.execScheduledSwitch s
  | .syncSend dom => Sys2Proof.Machine.execSyncSend dom s
  | .ppsInEdge rising => Sys2Proof.Machine.execPpsInEdge rising s
  | .ppsInLost => Sys2Proof.Machine.execPpsInLost s
  | .ppsOutPulse => Sys2Proof.Machine.execPpsOutPulse s
  | .triggerFire t => Sys2Proof.Machine.execTriggerFire t s
  | .captureEdge u rising => Sys2Proof.Machine.execCaptureEdge u rising s
  | .snapshot => Sys2Proof.Machine.execSnapshot s
  | .imageAssembled => Sys2Proof.Machine.execImageAssembled s
  | .publish => Sys2Proof.Machine.execPublish s
  | .deadline => Sys2Proof.Machine.execDeadline s
  | .apply => Sys2Proof.Machine.execApply s
  | .twinListenEnd set => Sys2Proof.Machine.execTwinListenEnd set s
  | .canFrameReceived ch fr => Sys2Proof.Machine.execCanFrameReceived ch fr s
  | .canArbitration ch lost => Sys2Proof.Machine.execCanArbitration ch lost s
  | .canTxComplete ch => Sys2Proof.Machine.execCanTxComplete ch s
  | .canError ch kind tx step => Sys2Proof.Machine.execCanError ch kind tx step s
  | .busReturn ch n => Sys2Proof.Machine.execBusReturn ch n s
  | .protocolException ch xl => Sys2Proof.Machine.execProtocolException ch xl s
  | .canIntegrated ch => Sys2Proof.Machine.execCanIntegrated ch s
  | .canModeEffect ch => Sys2Proof.Machine.execCanModeEffect ch s
  | .feederHeadMove ch => Sys2Proof.Machine.execFeederHeadMove ch s
  | .tpTimeout ch sa da => Sys2Proof.Machine.execTpTimeout ch sa da s
  | .tpMessageComplete ch sa da => Sys2Proof.Machine.execTpMessageComplete ch sa da s
  | .tpTransmit ch => Sys2Proof.Machine.execTpTransmit ch s
  | .addressClaimTimeout ch => Sys2Proof.Machine.execAddressClaimTimeout ch s
  | .tunnelBatch ch => Sys2Proof.Machine.execTunnelBatch ch s
  | .crushReception => Sys2Proof.Machine.execCrushReception s
  | .crushOverrun => Sys2Proof.Machine.execCrushOverrun s
  | .crushStale m src => Sys2Proof.Machine.execCrushStale m src s
  | .periodicTemplate m t => Sys2Proof.Machine.execPeriodicTemplate m t s
  | .minGapExpiry m t => Sys2Proof.Machine.execMinGapExpiry m t s
  | .hwSet h => Sys2Proof.Machine.execHwSet h s
  | .hwMov h => Sys2Proof.Machine.execHwMov h s
  | .hwJmp h => Sys2Proof.Machine.execHwJmp h s
  | .hwDjnz h => Sys2Proof.Machine.execHwDjnz h s
  | .hwWait h => Sys2Proof.Machine.execHwWait h s
  | .hwIn h => Sys2Proof.Machine.execHwIn h s
  | .hwOut h => Sys2Proof.Machine.execHwOut h s
  | .hwPush h => Sys2Proof.Machine.execHwPush h s
  | .hwPull h => Sys2Proof.Machine.execHwPull h s
  | .hwTstamp h => Sys2Proof.Machine.execHwTstamp h s
  | .hwAbort h => Sys2Proof.Machine.execHwAbort h s
  | .hwFlag h => Sys2Proof.Machine.execHwFlag h s
  | .hwIrq h => Sys2Proof.Machine.execHwIrq h s
  | .stallComplete h => Sys2Proof.Machine.execStallComplete h s
  | .rxFifoDrain h => Sys2Proof.Machine.execRxFifoDrain h s
  | .txFifoFill h => Sys2Proof.Machine.execTxFifoFill h s
  | .hewerStartEdge unit => Sys2Proof.Machine.execHewerStartEdge unit s
  | .pinInputEdge p level width => Sys2Proof.Machine.execPinInputEdge p level width s
  | .debounceExpiry p => Sys2Proof.Machine.execDebounceExpiry p s
  | .stuckTimeout p => Sys2Proof.Machine.execStuckTimeout p s
  | .timedTransition p => Sys2Proof.Machine.execTimedTransition p s
  | .bankSupplyLoss b => Sys2Proof.Machine.execBankSupplyLoss b s
  | .bankSupplyReturn b mv => Sys2Proof.Machine.execBankSupplyReturn b mv s
  | .notificationTimeout p => Sys2Proof.Machine.execNotificationTimeout p s
  | .stormEnd src => Sys2Proof.Machine.execStormEnd src s
  | .faultDetected code detail => Sys2Proof.Machine.execFaultDetected code detail s
  | .faultQueuedHandle => Sys2Proof.Machine.execFaultQueuedHandle s
  | .lockstepMismatch pair => Sys2Proof.Machine.execLockstepMismatch pair s
  | .firewallBlock pair => Sys2Proof.Machine.execFirewallBlock pair s
  | .watchdogExpiry => Sys2Proof.Machine.execWatchdogExpiry s
  | .clockAlarm island => Sys2Proof.Machine.execClockAlarm island s
  | .supplyAlarm rail => Sys2Proof.Machine.execSupplyAlarm rail s
  | .tempThreshold sensor reading => Sys2Proof.Machine.execTempThreshold sensor reading s
  | .eccError kind place => Sys2Proof.Machine.execEccError kind place s
  | .dieLink die up => Sys2Proof.Machine.execDieLink die up s
  | .debugHalt hart halt => Sys2Proof.Machine.execDebugHalt hart halt s
  | .powerOnReset => Sys2Proof.Machine.execPowerOnReset s
  | .resetN ns => Sys2Proof.Machine.execResetN ns s
  | .brownOut us => Sys2Proof.Machine.execBrownOut us s
  | .boot failed => Sys2Proof.Machine.execBoot failed s
  | .configApply => Sys2Proof.Machine.execConfigApply s
  | .trialWindowExpiry => Sys2Proof.Machine.execTrialWindowExpiry s
  | .branchSample b m => Sys2Proof.Machine.execBranchSample b m s
  | .breakerTrip b => Sys2Proof.Machine.execBreakerTrip b s
  | .shortTrip b ma => Sys2Proof.Machine.execShortTrip b ma s
  | .thermalTrip b => Sys2Proof.Machine.execThermalTrip b s
  | .rampDone b => Sys2Proof.Machine.execRampDone b s
  | .retryDue b => Sys2Proof.Machine.execRetryDue b s
  | .startGrant => Sys2Proof.Machine.execStartGrant s
  | .retriesRestore b => Sys2Proof.Machine.execRetriesRestore b s
  | .supplyLow b vin us => Sys2Proof.Machine.execSupplyLow b vin us s
  | .supplyHold b vin us => Sys2Proof.Machine.execSupplyHold b vin us s
  | .supplyRestored b vin us => Sys2Proof.Machine.execSupplyRestored b vin us s
  | .backfeed b vout us => Sys2Proof.Machine.execBackfeed b vout us s
  | .ntcFault b bad => Sys2Proof.Machine.execNtcFault b bad s
  | .branchHoldExpiry => Sys2Proof.Machine.execBranchHoldExpiry s
  | .assayPowerOn pass => Sys2Proof.Machine.execAssayPowerOn pass s
  | .assayFault kind pass => Sys2Proof.Machine.execAssayFault kind pass s
  | .measurementComplete c m => Sys2Proof.Machine.execMeasurementComplete c m s
  | .paramCommit => Sys2Proof.Machine.execParamCommit s
  | .sealChange asserted ms => Sys2Proof.Machine.execSealChange asserted ms s
  | .hubTimeUpdate => Sys2Proof.Machine.execHubTimeUpdate s
  | .hubTimeLoss => Sys2Proof.Machine.execHubTimeLoss s
  | .pulseInput c down us => Sys2Proof.Machine.execPulseInput c down us s
  | .pcieLinkUp att => Sys2Proof.Machine.execPcieLinkUp att s
  | .vddPwrFail => Sys2Proof.Machine.execVddPwrFail s
  | .vddaAssayAbsent => Sys2Proof.Machine.execVddaAssayAbsent s
  | .excFault c bad => Sys2Proof.Machine.execExcFault c bad s
  | .pdelayReq m => Sys2Proof.Machine.execPdelayReq m s
  | .oneStepRefused port => Sys2Proof.Machine.execOneStepRefused port s
  | .onChangePeriod m t => Sys2Proof.Machine.execOnChangePeriod m t s
  | .drillHandoff set tally n ack => Sys2Proof.Machine.execDrillHandoff set tally n ack s
  | .tempRearm sensor reading => Sys2Proof.Machine.execTempRearm sensor reading s
  | .debuggerAccess place write => Sys2Proof.Machine.execDebuggerAccess place write s

end Sys2Proof.Machine
end

