-- ==== Sys2Proof/Machine/Tick.lean ====
section
/-!
DEFINITION. The 1 ns step of the block: the clocks advance, a warm reset or the end of a partition reset that is due happens, waiting
completions leave.
-/
namespace Sys2Proof.Machine

/-- A clock advanced by one step: 1 + RATE × 2^-48 ns (R146). -/
def Clock.advance (c : Clock) : Clock := { c with t := ((c.t : Int) + nsUnit + c.rate).toNat }

/-- All four clocks advanced by one step (R146). -/
def Time.advance (t : Time) : Time :=
  { t with lt := t.lt.advance, work := t.work.advance, domA := { t.domA with clk := t.domA.clk.advance }
           domB := { t.domB with clk := t.domB.clk.advance } }

/-- The assay die's own clock while the die runs (R472, R474). -/
def Assay.advance (a : Assay) : Assay := if a.powered && a.st != 0 then { a with time := a.time + 1 } else a

/-- One 1 ns step without a command: the clocks, cells that join their free lists, bytes that arrive and leave, the pad stage and the ticks of the hewers that
no command names, cells of output data that no longer waits, last-gasp frames kept built, a twin set's cycle work,
what ports heard of masters too long ago, resets whose instant has
come, completions that have room (log 2). -/
def tick (s : State) : State :=
  let s := joinFreed { s with time := s.time.advance, assay := s.assay.advance }
  let s := forEach ((List.range 14) ++ [15]) s (fun p s => arriveNow (drainSending s p) p)
  let s := hewerTicks (padStage s)
  let s := agePtp <| setsDue (reapStaged (settleGasp s))
  let s := dueResets <| dueReset s
  drainCpl s.bridge.outC.length s

end Sys2Proof.Machine
end

