-- ==== Sys2Proof/Safety.lean ====
section
/-!
DEFINITION. What counts as a safe run of the block, and the words in which statements about its commands are put.
-/
namespace Sys2Proof

/-- A state from which one step answers a next state: the command in front names existing units only. -/
def StepsOn (s : Machine.State) : Prop := ∃ t, Machine.step s = .next t

/-- The byte memories keep their canonical form. -/
abbrev MemoriesWf (s : Machine.State) : Prop :=
  Machine.Memory.wf s.island.sram = true ∧ Machine.Memory.wf s.island.ddr = true

/-- Records hold the sequence numbers from `n` on, one by one, in the structure and in their bytes 0 to 7 (R472). -/
def seqsFrom : Nat → List Machine.ARec → Bool
  | _, [] => true
  | n, r :: l => r.seq == n && Machine.leAt r.bytes 0 8 == n % 2 ^ 64 && seqsFrom (n + 1) l

/-- Audit entries hold the counters from `n` on, one by one, in their bytes 0 to 3 (R464). -/
def countersFrom : Nat → List Machine.Audit → Bool
  | _, [] => true
  | n, e :: l => Machine.leAt e.bytes 0 4 == n % 2 ^ 32 && countersFrom (n + 1) l

/-- The assay die's records: at most 4,096, numbered without gaps up to the newest; one audit entry for each value the event counter
has taken (R463, R464, R472, R475). -/
abbrev RecordsWf (s : Machine.State) : Prop :=
  s.assay.store.length ≤ 4096 ∧ s.assay.store.length < s.assay.nextSeq
    ∧ seqsFrom (s.assay.nextSeq - s.assay.store.length) s.assay.store = true
    ∧ s.assay.eventCounter = s.assay.audit.length % 2 ^ 32 ∧ countersFrom 1 s.assay.audit = true

namespace Machine

/-- A mailbox command of row `i` starts at once, and its own checks are reached (R346, R350 to R352): its mailbox is ready, nothing
before it is incomplete, completion room is there, it does not carry ASYNC, the checks of R350 pass, and the cores that handle it run. -/
def starts (i : CmdInfo) (d : Desc) (s : State) : Bool :=
  decide (d.part < 16) && s.mbxReady d.part && !(s.part d.part).blocked && !(s.pair 0).halted && !s.serviceStalled && !s.pairHalted
    && decide (1 ≤ (s.part d.part).cqRoom) && !bitAt d.flags 0 && (precheck i d s).isNone

/-- A mailbox command of row `i` starts at once and runs to its end (R355, R385, R390): its bulk buffer is aligned, no accepted command
is changing its resource, the island that its effect crosses into accepts it (R9, R14), and an assay command finds the assay die fitted
(R407). -/
def runs (i : CmdInfo) (d : Desc) (s : State) : Bool :=
  starts i d s && !changing s i d
    && (i.bulk == .no || d.bulkOff % 8 == 0) && s.crossable (cmdIsland i.op) && (i.op / 256 != 0x0E || s.assay.fitted)

/-- The state in which a command's own checks are made: its completion slot is reserved, so CQ_WAIT is clear (R352). -/
def begins (s : State) (p : Nat) : State := s.setPart p { s.part p with cqWait := false }

/-- A command ends: bulk output written, then the completion with its status and results (R384, R385). -/
def ends (s : State) (d : Desc) (st : Nat) (res : List Byte := []) (out : List Byte := []) : State :=
  finalCpl (writeBulk s d.bulkOff out) d st res

end Machine

end Sys2Proof
end

