-- ==== Sys2Proof/Certificates/Slice0/Obligations.lean ====
section
/-!
DEFINITION. The statements for the provers.
-/

open Sys2Proof Sys2Proof.Machine

/-- For every command c and every state s, the step of s with c in front of its queue is exec of c on s with the queue's rest;
on an empty queue the step is one 1 ns step of the time island (the model's choice, log 2). No word of the table spells a
command, so withFetchWord changes nothing. -/
def Obligations.StepTakesFront : Prop :=
  (∀ (c : Instr) (rest : List Instr) (s : State), step { s with pending := c :: rest } = exec c { s with pending := rest }) ∧
  (∀ s : State, s.pending = [] → step s = .next (tick s)) ∧
  (∀ (nbits w : Nat) (s : State), decodeTableWord nbits w = none ∧ s.withFetchWord nbits w = s)

/-- Every resource belongs to partition 0 (R337), every queue is disabled with a LIMIT of 1,024 cells (R103), every CAN channel
is OFF (R221), every branch is OFF (R436), K is 2 with no energy budget (R446), no cycle runs, every source has the values of
R368, learning is on at ports 0 to 13 (R76), the forget time is 400 ms (R35) and the completion timeout 2 ms (R53). That no byte
of memory is listed and that nothing waits in the command queue are the model's choices (logs 2 and 3). The invariants of the
two tier 3 statements hold. -/
def Obligations.ResetState : Prop :=
  let s := State.reset
  s.pending = [] ∧ s.island.sram = [] ∧ s.island.ddr = [] ∧ MemoriesWf s ∧ RecordsWf s ∧
    (∀ cls i, s.owner cls i = 0) ∧ (∀ q, (s.queue q).enable = false ∧ (s.queue q).limit = 1024 ∧ (s.queue q).wmark = 0) ∧
    (∀ c, (s.chan c).mode = 0) ∧ (∀ b, (s.branch b).st = 0 ∧ (s.branch b).accepted = false) ∧ s.power.k = 2 ∧ s.power.budget = 0 ∧
    s.cycle.running = false ∧
    (∀ e, (s.source e).mask = 0xFFFF ∧ (s.source e).stormN = 100 ∧ (s.source e).stormWin = 100 ∧ (s.source e).storm = false) ∧
    (∀ p, p < 14 → (s.port p).learn = true) ∧ s.ring.forgetMs = 400 ∧ s.ring.cplTimeout = 20 ∧ s.passThrough = true

/-- For every row of the command table: without completion room nothing happens but CQ_WAIT (R352). A partition 0 command of
another partition completes with DENIED, undefined flag bits or a set byte 3 with BAD_PARAM, and in rescue station mode every
group but 0x0F with WRONG_STATE (R350, R501), each with no other effect than its completion. A command with ASYNC is accepted
with one ACCEPTED completion, waits and has no effect yet, unless 16 already wait, which is BUSY (R351); while the debugger has
halted one service pair, whether that pair is given it is free (R430, log 82). A command that ends without bulk output and
without NOTIFY writes only its completion of 32 bytes, one slot further (R348, R384). -/
def Obligations.MailboxChecks : Prop :=
  (∀ (op : Nat) (r : CmdRow) (d : Desc) (s : State), rowOf op = some r → d.part < 16 → s.mbxReady d.part = true →
    (s.part d.part).blocked = false → (s.pair 0).halted = false →
    let x := s.part d.part
    let t := begins s d.part
    let need := if bitAt d.flags 0 then 2 else 1
    let plain := d.flags < 8 ∧ d.byte3 = 0 ∧ reservedOk r.info d = true
    (x.cqRoom < need → runCmd r.info d r.body s = s.setPart d.part { x with cqWait := true }) ∧
    (need ≤ x.cqRoom →
      (x.ktx22 = true → r.info.k = false → runCmd r.info d r.body s = ends t d stBadOpcode) ∧
      (x.ktx22 = false → 8 ≤ d.flags ∨ d.byte3 ≠ 0 ∨ reservedOk r.info d = false → runCmd r.info d r.body s = ends t d stBadParam) ∧
      (x.ktx22 = false → plain → bitAt d.flags 2 = true → runCmd r.info d r.body s = ends t d stDenied) ∧
      (x.ktx22 = false → plain → bitAt d.flags 2 = false → r.info.p0 = true → d.part ≠ 0 →
        runCmd r.info d r.body s = ends t d stDenied) ∧
      (x.ktx22 = false → plain → bitAt d.flags 2 = false → r.info.p0 = false ∨ d.part = 0 →
        (s.boot.rescue = true → op / 256 ≠ 0x0F → runCmd r.info d r.body s = ends t d stWrongState) ∧
        (s.boot.rescue = false → bitAt d.flags 0 = true → op ≠ 0x0107 →
          (16 ≤ x.asyncActive → runCmd r.info d r.body s = ends t d stBusy) ∧
          (x.asyncActive < 16 →
            let u := (handed r.info.svc (writeCpl t d.part d.tag stAccepted [])).2
            ∃ a : Async, a.opcode = op ∧ a.desc = d ∧ a.part = d.part ∧ a.async = true ∧ a.begun = false ∧
              runCmd r.info d r.body s = u.setPart d.part { u.part d.part with cmds := (u.part d.part).cmds ++ [a] }))))) ∧
  (∀ (s : State) (d : Desc) (st : Nat) (res : List Byte), bitAt d.flags 1 = false →
    let x := s.part d.part
    ends s d st res = s.setPart d.part {
      x with
      cq := memWrite x.cq (x.cqTail % 256 * 32) (completion d.tag st res), cqTail := (x.cqTail + 1) % 65536 }) ∧
  (∀ (tag st : Nat) (res : List Byte), (completion tag st res).length = 32 ∧ leAt (completion tag st res) 0 4 = tag % 2 ^ 32 ∧
    leAt (completion tag st res) 4 2 = st % 65536 ∧ leAt (completion tag st res) 6 2 = 0)

/-- Whatever command a step runs, and also the 1 ns step without one: if the record store holds at most 4,096 records numbered
without gaps up to the newest, and the audit log one entry for each value the event counter has taken, they do after the step
(R463, R464, R472, R475). No step clears or overwrites an audit entry, and the next sequence number never falls (R464, R465). -/
def Obligations.RecordsAndAuditLogKept : Prop :=
  ∀ s t : State, RecordsWf s → step s = .next t →
    RecordsWf t ∧ s.assay.audit <+: t.assay.audit ∧ s.assay.nextSeq ≤ t.assay.nextSeq

/-- Whatever command a step runs, and also the 1 ns step without one: if the shared window of space 4 and the external memory of
space 7 list their bytes at strictly rising addresses and no byte that an unlisted address reads as (0, the model's choice, log
3), they do after the step. So equal memories are equal data after any run (R20, R41, R340). -/
def Obligations.MemoriesKept : Prop :=
  ∀ s t : State, MemoriesWf s → step s = .next t → MemoriesWf t

/-- RING_STATUS answers the 24-byte record and changes nothing; RING_CFG writes the six ring settings; LINK_CFG forces a rate
and takes the link down to retrain; PLCA_CFG writes one T1S port's PLCA settings; BARRIER records the run, sends the token East,
or West with DIR 1 when the East link is down, and completes later; RING_RESET sends the frame and sets this hub's own reset
half a ring later (the hop figure is the model's choice, log 31). -/
def Obligations.RingCommands : Prop :=
  ∀ (d : Desc) (s : State),
    let t := begins s d.part
    let c := cmdOf t d
    (runs iRingStatus d s = true → exec (.ringStatus d) s = .next (ends t d stOk (ringRecord t false))) ∧
    (runs iRingCfg d s = true → 1 ≤ c.u 10 2 → c.u 10 2 ≤ 4094 → 1 ≤ c.u 14 2 → c.u 14 2 ≤ 1000 → 10 ≤ c.u 16 2 → c.u 16 2 ≤ 10000 →
      1 ≤ c.u 20 4 → c.u 20 4 ≤ 10000 →
      exec (.ringCfg d) s = .next (ends (t.setRing { t.ring with
        ringId := c.u 8 1, vlan := c.u 10 2, etherType := c.u 12 2,
        beaconMs := c.u 14 2, forgetMs := c.u 16 2, cplTimeout := c.u 20 4 }) d stOk)) ∧
    (∀ p, runs iLinkCfg d s = true → localRes t d.part (c.u 8 4) = some (9, p) → p ≤ 5 →
      (c.u 12 1 = 0 ∨ (p ≤ 1 ∧ c.u 12 1 ≤ 3) ∨ (2 ≤ p ∧ (c.u 12 1 = 4 ∨ c.u 12 1 = 5))) → t.owns d.part 9 p = true →
      exec (.linkCfg d) s = .next (ends (linkDown (t.setPort p {
        t.port p with
        link := { (t.port p).link with forced := c.u 12 1 } }) p) d stOk)) ∧
    (∀ p, runs iPlcaCfg d s = true → localRes t d.part (c.u 8 4) = some (9, p) → 6 ≤ p → p ≤ 13 → c.u 13 1 ≠ 0 → c.u 14 1 ≠ 0 →
      t.owns d.part 9 p = true →
      exec (.plcaCfg d) s = .next (ends (t.setPort p { t.port p with
        plca :=
        { nodeId := c.u 12 1, nodeCount := c.u 13 1, toTimer := c.u 14 1, maxBurst := c.u 15 1, burstTimer := c.u 16 1 } }) d stOk)) ∧
    (runs iBarrier d s = true → t.passThrough = false →
      let k : Token := { barrierId := c.u 8 4, passed := 1, dir := 0, initiator := t.me }
      let u := t.setRing { t.ring with barriers := t.ring.barriers ++ [{ token := k, part := d.part, cmdTag := d.tag, sentAt := t.lt }] }
      let v := if t.ringLive 1 then sendHop u 1 tBarrier k.info else sendHop u 0 tBarrier { k with dir := 1 }.info
      exec (.barrier d) s = .next (v.setPart d.part { v.part d.part with
        cmds := (v.part d.part).cmds ++
        [{ part := d.part, opcode := 0x0304, desc := d, bulk := c.bulk, async := false, gone := true, begun := true, service := true,
           due := v.lt }] })) ∧
    (runs iRingReset d s = true → t.ring.actingMgr = true → t.passThrough = false →
      let u := sendGrt t (macAll t.ring.ringId) (hdrOf t tRingReset 0 {} 0 0 []) []
      exec (.ringReset d) s = .next (ends (u.setBoot
        { u.boot with resetAt := some (u.lt + (u.ring.ringNodes + 1) / 2 * u.hopMax, 6) }) d stOk))

/-- MACSEC_SA_ADD installs the association at an unused AN of a direction and its 64 bulk bytes are overwritten with zeros;
MACSEC_TX_AN switches the transmit AN, which sends again unless its own packet numbers are used up; MACSEC_SA_DEL deletes an
association that is not the current transmit one; MACSEC_CFG writes the enable and the replay window; MACSEC_STATUS reads. Each
acts on the port the handle names alone and settles its key wait. -/
def Obligations.MacsecCommands : Prop :=
  ∀ (d : Desc) (s : State) (p : Nat),
    let t := begins s d.part
    let c := cmdOf t d
    localRes t d.part (c.u 8 4) = some (9, p) → p ≤ 5 → t.owns d.part 9 p = true →
    (runs iMacsecSaAdd d s = true → c.u 12 1 ≤ 3 → c.u 13 1 ≤ 1 → c.u 14 1 ≤ 3 → d.bulkLen = 64 → c.owned = true →
      tblGet ((t.port p).macsec.table (c.u 13 1)) (c.u 12 1) = none →
      exec (.macsecSaAdd d) s = .next (wipeKeyBulk (ends (setMacsec t p ((t.port p).macsec.setTable (c.u 13 1)
        (tblSet ((t.port p).macsec.table (c.u 13 1)) (c.u 12 1)
          { suite := c.u 14 1, key := bytesAt c.bulk 0 (if c.u 14 1 % 2 = 0 then 16 else 32), salt := bytesAt c.bulk 32 12,
            ssci := leAt c.bulk 44 4, nextPn := leAt c.bulk 48 8 }))) d stOk) d)) ∧
    (runs iMacsecTxAn d s = true → c.u 12 1 ≤ 3 → (tblGet (t.port p).macsec.txSa (c.u 12 1)).isSome = true →
      exec (.macsecTxAn d) s = .next (ends (setMacsec t p { (t.port p).macsec with
        txAn := c.u 12 1,
        exhausted := (t.port p).macsec.spent (c.u 12 1) }) d stOk)) ∧
    (runs iMacsecSaDel d s = true → c.u 12 1 ≤ 3 → c.u 13 1 ≤ 1 → (c.u 13 1 = 1 ∨ (t.port p).macsec.txAn ≠ c.u 12 1) →
      exec (.macsecSaDel d) s = .next (ends (setMacsec t p ((t.port p).macsec.setTable (c.u 13 1)
        (tblDel ((t.port p).macsec.table (c.u 13 1)) (c.u 12 1)))) d stOk)) ∧
    (runs iMacsecCfg d s = true → c.u 12 1 ≤ 1 → c.u 14 2 ≤ 1024 →
      exec (.macsecCfg d) s = .next (ends (setMacsec t p { (t.port p).macsec with enable := c.u 12 1 == 1, replay := c.u 14 2 }) d stOk)) ∧
    (runs iMacsecStatus d s = true →
      exec (.macsecStatus d) s = .next (ends t d stOk (leBytes 1 (t.port p).macsec.txAn
        ++ leBytes 1 (listMask ((t.port p).macsec.txSa.map Prod.fst) + 16 * listMask ((t.port p).macsec.rxSa.map Prod.fst))
        ++ leBytes 1 ((tblGet (t.port p).macsec.txSa (t.port p).macsec.txAn).getD {}).suite ++ leBytes 1 (b2n (t.port p).macsec.enable)
        ++ zeros 4 ++ leBytes 8 ((tblGet (t.port p).macsec.txSa (t.port p).macsec.txAn).getD {}).nextPn)))

/-- An ENUM_WALK from another hub's manager gives the position HOP + 1 and the manager number, and an unnumbered hub that asks
for a number the one of R59; the manager's own East walk returning within 1 ms closes the ring with HOP + 1 nodes. ENUM_ASSIGN
gives a number 1 to 250. An acting manager keeps a reporting hub's record and resolves it; a hub that is not one ignores it. A
member follows a beacon's ring state and manager; the acting manager notes on which port its own came back, and a strapped
manager that hears the beacon of a hub whose report names no strapped manager goes on as it is (R39, R56). A RING_RESET from the
acting manager's MAC resets with cause 6; from any other source it is counted, raises a notice and changes nothing else. -/
def Obligations.EnumerationFrames : Prop :=
  (∀ (f : GrtFrame) (s : State), bitsAt f.hdr.flags 6 2 = 1 → grtLenOk f = true →
    let hop := infoAt f.hdr 16 2
    let dir := infoAt f.hdr 18 1
    let mgr := infoAt f.hdr 19 1
    (f.hdr.typ = tEnumWalk → f.port ≤ 1 → s.boot.ringRole ≠ 3 → s.ring.actingMgr = false →
      exec (.enumWalk f) s = .next (walkPass s f.port hop dir mgr)) ∧
    (∀ n, f.hdr.typ = tEnumWalk → f.port ≤ 1 → s.boot.ringRole ≠ 3 → s.ring.actingMgr = true → mgr = s.ring.node → dir = 0 →
      s.ring.walkAt = some n → s.lt ≤ n + 1000000 →
      exec (.enumWalk f) s = .next (s.setRing { s.ring with walkAt := none, ringNodes := (hop + 1) % 256 })) ∧
    (f.hdr.typ = tEnumAssign → 1 ≤ infoAt f.hdr 16 1 → infoAt f.hdr 16 1 ≤ 250 →
      exec (.enumAssign f) s = .next (s.setRing { s.ring with node := infoAt f.hdr 16 1, nodeSrc := 3, withdrawn := false }))) ∧
  (∀ (f : GrtFrame) (r0 : State), r0.passThrough = false → bitsAt f.hdr.flags 6 2 = 1 → grtLenOk f = true →
    let s := takeFromQueue r0 2 f
    (f.hdr.typ = tEnumReport → s.ring.actingMgr = false → exec (.enumReport f) r0 = .next s) ∧
    (f.hdr.typ = tEnumReport → s.ring.actingMgr = true → beAt f.payload 0 6 ≠ s.boot.mac →
      let r : NodeReport := { mac := beAt f.payload 0 6, node := beAt f.payload 6 1, nodeSrc := beAt f.payload 7 1,
                              posEast := beAt f.payload 10 1, posWest := beAt f.payload 11 1, role := beAt f.payload 9 1 % 4,
                              linkWest := beAt f.payload 14 1 % 4, linkEast := beAt f.payload 15 1 % 4 }
      exec (.enumReport f) r0 =
        .next (resolve (s.setRing { s.ring with reports := s.ring.reports.filter (fun x => x.mac != r.mac) ++ [r] }) r)) ∧
    (f.hdr.typ = tMgrBeacon → s.ring.actingMgr = false →
      exec (.mgrBeacon f) r0 = .next (s.setRing { s.ring with
        ringState := infoAt f.hdr 16 1, brkWest := infoAt f.hdr 17 1,
        brkEast := infoAt f.hdr 18 1, heardAt := s.lt, mgrNode := f.hdr.srcNode, actingMgr := false, takenOver := false })) ∧
    (f.hdr.typ = tMgrBeacon → s.ring.actingMgr = true → f.smac = s.grtMac → f.port = 0 →
      exec (.mgrBeacon f) r0 = .next (s.setRing { s.ring with beaconWest := true })) ∧
    (∀ x, f.hdr.typ = tMgrBeacon → s.ring.actingMgr = true → f.smac ≠ s.grtMac → s.boot.ringRole = 1 →
      s.ring.reported f.hdr.srcNode = some x → x.role ≠ 1 → exec (.mgrBeacon f) r0 = .next s) ∧
    (f.hdr.typ = tRingReset → f.smac ≠ s.grtMac → s.ring.mgrNode ≠ 0 → f.smac = macOfNode s.ring.ringId s.ring.mgrNode →
      exec (.ringResetFrame f) r0 = .next (doWarm s 6)) ∧
    (f.hdr.typ = tRingReset → f.smac ≠ s.grtMac → f.smac ≠ macOfNode s.ring.ringId s.ring.mgrNode →
      exec (.ringResetFrame f) r0 = .next (raise (s.count cGrtResetRefused 0) (srcDiag 332) 4 0))) ∧
  (∀ (s : State) (port hop mgr : Nat), s.ring.node = 0 → s.boot.nodeSel = 0 → 1 ≤ mgr → mgr ≤ 250 → s.boot.running = false →
    s.ringLive (1 - port) = false →
    walkPass s port hop 0 mgr = s.setRing { s.ring with posEast := (hop + 1) % 256, mgrNode := mgr, node := (mgr - 1 + (hop + 1)) % 250 + 1,
                                                        nodeSrc := 2 })

/-- A manager sends a beacon each interval, with RING_STATE judged from its last one's return, and starts walks; a standby
manager takes over after three intervals without a beacon. A walk that has not come back within 1 ms is followed by one West
with DIR 1. A token that ends its travel completes the barrier with OK when NODES_PASSED equals RING_NODES, else ABORTED; where
this hub holds no node count, which of the two is free (log 73); a member counts itself once. Instants that have not come change
nothing (the model's choice, log 2). -/
def Obligations.RingTimersAndTokens : Prop :=
  (∀ (s : State), s.ring.actingMgr = true → s.passThrough = false → s.ring.beaconAt + s.ring.beaconMs * 1000000 ≤ s.lt →
    s.ring.beaconAt = 0 →
    let r := { s.ring with beaconWest := false, beaconEast := false, beaconAt := s.lt,
                           brkWest := if s.ring.ringState = 1 then 0 else s.ring.brkWest,
                           brkEast := if s.ring.ringState = 1 then 0 else s.ring.brkEast }
    exec .beaconTimer s = .next (sendGrt (s.setRing r) (macAll r.ringId) (hdrOf (s.setRing r) tMgrBeacon 0 {} 0 0
      (beBytes 1 r.ringState ++ beBytes 1 r.brkWest ++ beBytes 1 r.brkEast ++ zeros 5)) [])) ∧
  (∀ (s : State), s.boot.ringRole = 2 → s.ring.actingMgr = false → s.passThrough = false →
    s.ring.heardAt + 3 * s.ring.beaconMs * 1000000 ≤ s.lt →
    exec .beaconLoss s = .next (raise (s.setRing { s.ring with
      actingMgr := true, takenOver := true, mgrNode := s.ring.node, beaconAt := 0,
      walkAt := none }) (srcDiag 332) 2 0)) ∧
  (∀ (s : State), s.ring.actingMgr = true → s.passThrough = false → s.ringLive 1 = true →
    exec .enumerationStart s = .next (sendHop (s.setRing { s.ring with walkAt := some s.lt }) 1 tEnumWalk (walkInfo 0 0 s.ring.node))) ∧
  (∀ (s : State) (n : Nat), s.ring.walkAt = some n → n + 1000000 < s.lt →
    exec .walkTimeout s = .next (sendHop (s.setRing { s.ring with walkAt := none }) 0 tEnumWalk (walkInfo 0 1 s.ring.node))) ∧
  (∀ (s : State) (port rate : Nat) (partner : List Nat) (crossed : Bool), port ≤ 5 → (s.port port).link.up = false →
    (2 ≤ port ∨ s.boot.ringRole ≠ 3) → (port ≤ 1 ∨ s.boot.configured = true) → s.boot.rescue = false →
    (advertised port (s.port port).link.forced).contains rate = true → partner.contains rate = true → crossed = false →
    ∃ u, u = raise (s.setPort port { s.port port with
        link := { (s.port port).link with up := true, rate := rate, partner := partner },
        pdelays := 0, pdelayAt := none, asCapable := false, oneStepRefused := false, capRaised := false }) (srcPort port 0) 1 rate ∧
      exec (.linkUp port rate partner crossed) s = .next (reportLink (keySettle (setCrossed u port false) port) port 0 rate false)) ∧
  (∀ (s : State) (port : Nat), port < 14 → exec (.linkDown port) s = .next (linkDown s port) ∧
    ((s.port port).link.up = false → linkDown s port = s)) ∧
  (∀ (s : State) (f : GrtFrame), bitsAt f.hdr.flags 6 2 = 1 → f.hdr.typ = tBarrier → grtLenOk f = true → f.port ≤ 1 →
    let k : Token := { barrierId := infoAt f.hdr 16 4, passed := infoAt f.hdr 20 2, dir := infoAt f.hdr 22 1, initiator := infoAt f.hdr 23 1 }
    (k.initiator ≠ s.ring.node → exec (.barrierToken f) s = .next (passToken s k)) ∧
    (k.initiator = s.ring.node → s.ring.node ≠ 0 → (k.dir ≠ 1 ∨ s.ringLive 0 = false) → exec (.barrierToken f) s = .next (endBarrier s k))) ∧
  (∀ (s : State) (k : Token) (b : BarrierRun), s.ring.barriers = [b] → b.token.same k = true →
    let u := s.setRing { s.ring with barriers := [] }
    (s.ring.ringNodes ≠ 0 ∨ s.ring.ringState = 3 →
      endBarrier s k = finishBegun u b.part 0x0304 b.cmdTag (if k.passed = s.ring.ringNodes then stOk else stAborted) (leBytes 1 k.passed)) ∧
    (s.ring.ringNodes = 0 → s.ring.ringState ≠ 3 → ∃ st, (st = stOk ∨ st = stAborted) ∧
      endBarrier s k = finishBegun { u with fresh := s.fresh + 1 } b.part 0x0304 b.cmdTag st (leBytes 1 k.passed))) ∧
  (∀ (s : State), s.bridge.outP = [] →
    exec .barrierTokenRelease s = .next (forEach s.ring.held (s.setRing { s.ring with held := [] })
      (fun k x => sendToken x { k with passed := (k.passed + 1) % 65536 } 3)))

/-- PORT_CFG writes one port's parameters; FDB_WRITE writes one way of the key's set, a static entry only into its own or a free
way; FDB_DELETE and FDB_FLUSH take out exactly the entries they name and count them; FDB_READ and STREAM_READ read; DSET_WRITE
writes one set of at most 16 destinations. Nothing else changes. -/
def Obligations.SwitchTableCommands : Prop :=
  ∀ (d : Desc) (s : State),
    let t := begins s d.part
    let c := cmdOf t d
    (∀ p, runs iPortCfg d s = true → localRes t d.part (c.u 8 4) = some (9, p) → t.owns d.part 9 p = true →
      (if p = 0 ∨ p = 1 ∨ p = 14 then c.u 12 2 = 2048 else 64 ≤ c.u 12 2 ∧ c.u 12 2 ≤ 2048) → 1 ≤ c.u 14 2 → c.u 14 2 ≤ 4094 →
      c.u 16 1 < 8 → c.u 17 1 ≤ 1 → c.u 20 4 < 2 ^ 24 → c.u 24 2 < 1024 →
      exec (.portCfg d) s = .next (ends (t.setPort p { t.port p with
        maxFrame := c.u 12 2, pvid := c.u 14 2, defClass := c.u 16 1,
        learn := c.u 17 1 == 1, pcpMap := (List.range 8).map (fun k => bitsAt (c.u 20 4) (3 * k) 3), floodSet := c.u 24 2 }) d stOk)) ∧
    (∀ w, runs iFdbWrite d s = true → 1 ≤ c.u 14 2 → c.u 14 2 ≤ 4094 → c.u 17 1 ≤ 3 → fdbTargetOk (c.u 16 1) (c.u 18 2) = true →
      c.u 22 2 = 0 → fdbWriteWay t (Config.fdbHash (beNat (c.bytes 8 6)) (c.u 14 2) % 4096) (beNat (c.bytes 8 6)) (c.u 14 2)
        (bitAt (c.u 17 1) 0) = some w →
      exec (.fdbWrite d) s = .next (ends (fdbPut t (4 * (Config.fdbHash (beNat (c.bytes 8 6)) (c.u 14 2) % 4096) + w)
        { mac := beNat (c.bytes 8 6), vlan := c.u 14 2, kind := c.u 16 1, static := bitAt (c.u 17 1) 0,
          discard := bitAt (c.u 17 1) 1, target := c.u 18 2, seenAt := t.lt / 1000000000 }) d stOk
        (resOf [(0, 2, 4 * (Config.fdbHash (beNat (c.bytes 8 6)) (c.u 14 2) % 4096) + w)]))) ∧
    (runs iFdbDelete d s = true → 1 ≤ c.u 14 2 → c.u 14 2 ≤ 4094 →
      exec (.fdbDelete d) s = .next (ends (fdbDrop t (fun e => e.mac == c.u 8 6 && e.vlan == c.u 14 2)) d stOk
        (resOf [(0, 1, b2n (fdbFind t (c.u 8 6) (c.u 14 2)).isSome)]))) ∧
    (∀ l, runs iFdbRead d s = true → c.u 8 2 < 16384 → d.bulkLen % 16 = 0 → d.bulkLen ≠ 0 → c.owned = true →
      l = t.sw.fdb.filter (fun e => decide (c.u 8 2 ≤ e.1) && e.2.kind != 0) → l.length ≤ d.bulkLen / 16 →
      exec (.fdbRead d) s = .next (ends t d stOk (resOf [(0, 2, l.length), (2, 2, 0xFFFF)]) (l.flatMap (fun e => fdbBytes t e.2)))) ∧
    (runs iFdbFlush d s = true → c.u 8 1 = 1 → c.u 9 1 = 0xFF →
      exec (.fdbFlush d) s = .next (ends (fdbDrop t (fun e => !e.static)) d stOk
        (resOf [(0, 4, (t.sw.fdb.filter (fun e => !e.2.static)).length)]))) ∧
    (runs iFdbFlush d s = true → c.u 8 1 = 0 → 2 ≤ c.u 9 1 → c.u 9 1 < 16 →
      exec (.fdbFlush d) s = .next (ends (fdbDrop t (fun e => e.kind == 1 && e.target == c.u 9 1)) d stOk
        (resOf [(0, 4, (t.sw.fdb.filter (fun e => e.2.kind == 1 && e.2.target == c.u 9 1)).length)]))) ∧
    (runs iDsetWrite d s = true → 1 ≤ c.u 8 2 → c.u 8 2 ≤ 1023 → bitAt (c.u 16 2) 14 = false → c.u 18 1 ≤ 16 → c.u 19 1 = 0 →
      (((List.range 16).map (fun k => c.u (20 + 2 * k) 2)).take (c.u 18 1)).all (fun x => decide (x < 4096)) = true →
      (((List.range 16).map (fun k => c.u (20 + 2 * k) 2)).drop (c.u 18 1)).all (· == 0) = true → c.u 52 4 = 0 →
      destCount (c.u 16 2) (c.u 18 1) ≤ 16 →
      let e : Dset := { mask := c.u 16 2, queues := ((List.range 16).map (fun k => c.u (20 + 2 * k) 2)).take (c.u 18 1) }
      exec (.dsetWrite d) s = .next (ends { t with sw := { t.sw with dsets := tblSet t.sw.dsets (c.u 8 2) e } } d stOk))

/-- STREAM_WRITE writes one entry with the issuer as OWNER and a full bucket; LIMIT_SET writes one limit of one port; POOL_SET
writes the reserve, its lowest class and the pinned share; AGE_SET one class's residence limit and FDB_AGE unless 0; CANARY_SET
with ENABLE 0 empties the rule slot, and with ENABLE 1 into a queue that another enabled rule already samples into binds nothing
more. Nothing else changes. -/
def Obligations.StreamLimitCanaryCommands : Prop :=
  ∀ (d : Desc) (s : State),
    let t := begins s d.part
    let c := cmdOf t d
    (∀ e, runs iStreamWrite d s = true → localRes t d.part (c.u 8 4) = some (8, e) → t.owns d.part 8 e = true → d.bulkLen = 64 → c.owned = true →
      leAt c.bulk 0 1 % 4 ≠ 3 → leAt c.bulk 10 2 ≠ 0 → (leAt c.bulk 28 2 = 0xFFFF ∨ leAt c.bulk 28 2 < 1024) → leAt c.bulk 32 4 ≤ 10000000 →
      64 ≤ leAt c.bulk 36 4 → leAt c.bulk 36 4 ≤ 16777215 →
      exec (.streamWrite d) s = .next (ends (t.setStream e
        { mode := leAt c.bulk 0 1 % 4, cls := leAt c.bulk 1 1 % 8, vlan := leAt c.bulk 2 2 % 4096, dmac := leAt c.bulk 4 6,
          ingress := leAt c.bulk 10 2, grtAddr := leAt c.bulk 12 8, grtMask := leAt c.bulk 20 8, dest := leAt c.bulk 28 2,
          police := bitAt (leAt c.bulk 30 2) 0, sduEn := bitAt (leAt c.bulk 30 2) 1, noCut := bitAt (leAt c.bulk 30 2) 2,
          cir := leAt c.bulk 32 4, cbs := leAt c.bulk 36 4, maxSdu := leAt c.bulk 40 2, owner := d.part,
          tokens := leAt c.bulk 36 4 * 16777216, filledAt := t.lt }) d stOk)) ∧
    (∀ e, runs iStreamRead d s = true → localRes t d.part (c.u 8 4) = some (8, e) → t.mayRead d.part 8 e = true → d.bulkLen = 64 → c.owned = true →
      exec (.streamRead d) s = .next (ends t d stOk [] (t.stream e).bytes)) ∧
    (∀ p, runs iLimitSet d s = true → localRes t d.part (c.u 8 4) = some (9, p) → t.owns d.part 9 p = true → (c.u 12 1 = 0xFF ∨ c.u 12 1 < 8) →
      c.u 16 4 ≤ 4194304 →
      exec (.limitSet d) s = .next (ends (t.setPort p (if c.u 12 1 = 0xFF then { t.port p with ingLimit := c.u 16 4 }
        else { t.port p with egrLimit := listSet (t.port p).egrLimit (c.u 12 1) (c.u 16 4) })) d stOk)) ∧
    (runs iPoolSet d s = true → c.u 8 4 ≤ 65536 → c.u 12 1 ≤ 7 → c.u 16 4 ≤ 65536 →
      exec (.poolSet d) s = .next (ends { t with pool := { t.pool with
        reserve := c.u 8 4, reserveMinClass := c.u 12 1,
        pinKeep := c.u 16 4 } } d stOk)) ∧
    (runs iAgeSet d s = true → c.u 8 1 ≤ 7 → 1 ≤ c.u 12 4 → c.u 12 4 ≤ 16777215 → (c.u 16 4 = 0 ∨ 10 ≤ c.u 16 4 ∧ c.u 16 4 ≤ 65535) →
      exec (.ageSet d) s = .next (ends { t with sw := { t.sw with
        ageLimit := listSet t.sw.ageLimit (c.u 8 1) (c.u 12 4),
        fdbAge := if c.u 16 4 = 0 then t.sw.fdbAge else c.u 16 4 } } d stOk)) ∧
    (runs iCanarySet d s = true → c.u 8 1 < 64 → c.u 16 1 ≤ 1 → c.u 17 1 < 16 → c.u 18 1 ≠ 0 → c.u 19 1 = 0 → c.u 20 2 ≠ 0 → c.u 22 2 < 4096 →
      c.u 24 8 = 0 → t.owns d.part 5 (c.u 22 2) = true → (t.queue (c.u 22 2)).fwUse = 0 → t.owns d.part 9 (c.u 17 1) = true →
      (t.canary (c.u 8 1)).enable = false → (c.u 16 1 = 0 ∨ c.u 16 1 = 1 ∧ t.canaryUses (c.u 8 1) (c.u 22 2) = true) →
      exec (.canarySet d) s = .next (ends (t.setCanary (c.u 8 1)
        { enable := c.u 16 1 == 1, dir := 0, port := c.u 17 1, classMask := c.u 18 1, n := c.u 20 2, queue := c.u 22 2,
          holder := if c.u 16 1 = 1 then some d.part else none }) d stOk))

/-- SCHED_SET writes a port's scheduling parameters and, of port 14, OVERHEAD alone; a changed STRICT_COUNT clears the deficits
of the classes that change group. ROSTER_SET makes the roster pending and answers X; ROSTER_READ and SAMPLE_READ read,
SAMPLE_READ with CLEAR clearing the record at once; SAMPLE_CFG sets one object's period and units, a changed mode or unit
clearing its record. Nothing else changes. -/
def Obligations.SchedulingCommands : Prop :=
  ∀ (d : Desc) (s : State),
    let t := begins s d.part
    let c := cmdOf t d
    (∀ p, runs iSchedSet d s = true → localRes t d.part (c.u 8 4) = some (9, p) → t.owns d.part 9 p = true → p ≠ 14 → -64 ≤ c.i 12 1 →
      c.u 13 1 ≤ 4 → c.u 14 1 ≤ 1 → c.u 16 4 ≤ 16777215 → ((c.bytes 20 8).map BitVec.toNat).all (· != 0) = true →
      (t.port p).strictCount = c.u 13 1 →
      exec (.schedSet d) s = .next (ends (t.setPort p (setGate { t.port p with
        overhead := c.i 12 1, lateLimit := c.u 16 4,
        weight := (c.bytes 20 8).map BitVec.toNat } (c.u 14 1 == 1) t.work)) d stOk)) ∧
    (∀ p, runs iSchedSet d s = true → localRes t d.part (c.u 8 4) = some (9, p) → t.owns d.part 9 p = true → p ≠ 14 → -64 ≤ c.i 12 1 →
      c.u 13 1 ≤ 4 → c.u 14 1 ≤ 1 → c.u 16 4 ≤ 16777215 → ((c.bytes 20 8).map BitVec.toNat).all (· != 0) = true →
      (t.port p).strictCount ≠ c.u 13 1 →
      ∃ x, exec (.schedSet d) s = .next (ends (t.setPort p x) d stOk) ∧ x.strictCount = c.u 13 1 ∧ x.rr = 0 ∧
        ∀ k, k < 8 → (decide (k + (t.port p).strictCount ≤ 7) ≠ decide (k + c.u 13 1 ≤ 7)) → x.deficit.getD k 1 = 0) ∧
    (runs iSchedSet d s = true → localRes t d.part (c.u 8 4) = some (9, 14) → t.owns d.part 9 14 = true → -64 ≤ c.i 12 1 →
      c.u 13 1 = 0 → c.u 14 1 = 0 → c.u 16 4 = 0 → c.u 20 8 = 0 →
      exec (.schedSet d) s = .next (ends (t.setPort 14 { t.port 14 with overhead := c.i 12 1 }) d stOk)) ∧
    (∀ p r, runs iRosterSet d s = true → localRes t d.part (c.u 8 4) = some (9, p) → t.owns d.part 9 p = true → p ≠ 14 → r = rosterOf c.bulk →
      1 ≤ leAt c.bulk 16 2 → leAt c.bulk 16 2 ≤ 1024 → d.bulkLen = 32 + 4 * leAt c.bulk 16 2 → leAt c.bulk 8 4 % 2 ^ 30 ≤ 999999999 →
      1000 ≤ r.cycle → r.cycle ≤ 1000000000 → r.cycle % 8 = 0 → r.entries.all (fun e => e.interval != 0) = true → c.owned = true →
      let x := switchInstant (t.port p) r t.work
      exec (.rosterSet d) s = .next (ends (t.setPort p { t.port p with adminRoster := some r, adminTa := x.1, switchAt := some x.2 }) d stOk
        (resOf [(0, 8, x.2 / 1000000000), (8, 4, x.2 % 1000000000)]))) ∧
    (∀ p r, runs iRosterRead d s = true → localRes t d.part (c.u 8 4) = some (9, p) → t.mayRead d.part 9 p = true → c.u 12 1 = 0 →
      (t.port p).operRoster = some r → d.bulkLen % 8 = 0 → d.bulkLen ≤ 4128 → c.owned = true → r.bytes.length ≤ d.bulkLen →
      exec (.rosterRead d) s = .next (ends t d stOk (resOf [(0, 2, r.entries.length)]) r.bytes)) ∧
    (∀ cls i obj x, runs iSampleCfg d s = true → sampleObj t c = some (cls, i, obj) → t.owns d.part cls i = true → c.u 13 1 ≤ 3 → c.u 16 4 = 0 →
      1 ≤ c.u 20 4 → c.u 20 4 ≤ 16777215 → 1 ≤ c.u 24 4 → c.u 24 4 ≤ 16777215 → (t.sampler obj).uDepth ≠ c.u 20 4 →
      x = (t.sampler obj).clear →
      exec (.sampleCfg d) s = .next (ends (t.setSampler obj { x with
        period := 0, depthMode := bitAt (c.u 13 1) 0,
        sojMode := bitAt (c.u 13 1) 1, uDepth := c.u 20 4, uSoj := c.u 24 4 }) d stOk)) ∧
    (∀ cls i obj, runs iSampleRead d s = true → sampleObj t c = some (cls, i, obj) → t.mayRead d.part cls i = true → c.u 13 1 ≤ 1 →
      d.bulkLen = 152 → c.owned = true →
      exec (.sampleRead d) s = .next (ends (if c.u 13 1 = 1 then t.setSampler obj (t.sampler obj).clear else t) d stOk []
        (t.sampler obj).bytes))

/-- A frame's head on a live port is classified, looked up and copied (R79); a frame already being received, or a port without
link, changes nothing, and while the switch island is stopped the head stays in its crossing (R14). A frame of the hub's own
source on a ring port is counted in RETURNED and goes nowhere (R33). A frame without HSR tag is counted in NO_TAG. A frame with
no copies that grows past MAX_FRAME is counted in RX_OVERSIZE at once. At the end of a frame that has no copies RX_FRAMES,
RX_BYTES and the counter of its cause advance, and nothing else changes but the free FCS of a frame in error (R84, R97).
FRAME_HEAD and FRAME_END complete in every state, for every port they name. -/
def Obligations.FrameReception : Prop :=
  ∀ (port : Nat) (f : Frame) (s : State), port < 16 → port ≠ 14 →
    (s.crossable 1 = true → (s.port port).rx = none → (port = 15 ∨ (s.port port).link.up = true) →
      exec (.frameHead port f) s = .next (headCore s port f s.work none none false)) ∧
    (s.crossable 1 = false → (s.port port).rx = none → (port = 15 ∨ (s.port port).link.up = true) →
      exec (.frameHead port f) s = .next (holdWord s 0 1)) ∧
    (((s.port port).rx.isSome = true ∨ port ≠ 15 ∧ (s.port port).link.up = false) → exec (.frameHead port f) s = .next s) ∧
    (∀ n, port ≤ 1 → s.crossable 1 = true → (s.port port).rx = none → (s.port port).link.up = true → (s.port port).link.keyWait = false →
      (s.port port).macsec.enable = false → f.macsec = none → s.sw.streams = [] → 64 ≤ f.len → isLinkLocal f = false →
      f.hsr = some n → f.smac = s.grtMac →
      exec (.frameHead port f) s = .next ((s.count cReturned port).setPort port {
        s.port port with
        rx := some { frame := f, cls := frameClass s port f none, since := s.work, headAt := s.lt, got := 64, returned := true } })) ∧
    (port ≤ 1 → s.crossable 1 = true → (s.port port).rx = none → (s.port port).link.up = true → (s.port port).link.keyWait = false →
      (s.port port).macsec.enable = false → f.macsec = none → s.sw.streams = [] → 64 ≤ f.len → isLinkLocal f = false → f.hsr = none →
      exec (.frameHead port f) s = .next ((s.count cNoTag port).setPort port {
        s.port port with
        rx := some { frame := f, cls := frameClass s port f none, since := s.work, headAt := s.lt, got := 64, dup := true } })) ∧
    (∀ bad len, exec (.frameEnd port bad len) s = .next (endCore s port bad len)) ∧
    (∀ bad len, (s.port port).rx = none → exec (.frameEnd port bad len) s = .next s) ∧
    (∀ r n, (s.port port).rx = some r → r.copies = [] → r.tooLong = false → r.got < n →
      arriveTo s port n = (if (s.port port).maxFrame < n then
        (s.count cRxOversize port).setPort port { s.port port with rx := some { r with got := n, tooLong := true } }
        else s.setPort port { s.port port with rx := some { r with got := n } })) ∧
    (∀ bad len r, s.sw.canaries = [] → ((arriveTo s port len).port port).rx = some r → r.copies = [] →
      (arriveTo s port len).sw.canaries = [] →
      let v := arriveTo s port len
      let u := ((v.setPort port { v.port port with rx := none }).count cRxFrames port).count cRxBytes port len
      let done := fun (w : State) => (rxFcs w bad { r.frame with len := len }).2
      (len < 64 → exec (.frameEnd port bad len) s = .next (done (u.count cRxRunt port))) ∧
      (64 ≤ len → r.tooLong = true → exec (.frameEnd port bad len) s = .next (done u)) ∧
      (64 ≤ len → r.tooLong = false → bad = 1 → exec (.frameEnd port bad len) s = .next (done (u.count cRxFcsErr port))) ∧
      (64 ≤ len → r.tooLong = false → bad = 2 → exec (.frameEnd port bad len) s = .next (done (u.count cRxStomped port))) ∧
      (64 ≤ len → r.tooLong = false → bad = 3 → exec (.frameEnd port bad len) s = .next (done (u.count cRxPhyErr port))) ∧
      (64 ≤ len → r.tooLong = false → bad = 0 → r.macBad = true →
        exec (.frameEnd port bad len) s = .next (done (u.count cMacsecDrop port))))

/-- TRANSMITTER_FREE of ports 0 to 13 lets the sent copy leave and selects the next; SELECT_RETRY and a reached launch time
select again on an idle port; a roster boundary and a due switch-over update the gates and select. On a port with nothing
waiting none of them changes more. AGE_SWEEP leaves heads within their residence limit alone. An unaged database,
duplicate-discard or proxy entry stays, an aged one goes. A sample is taken once at each multiple of PERIOD. -/
def Obligations.EgressEvents : Prop :=
  (∀ (port : Nat) (s : State), port < 16 → port ≠ 14 →
    ((s.port port).sending = none → exec (.transmitterFree port) s = .next (trySelect s port)) ∧
    (port ≠ 15 → exec (.transmitterFree port) s = .next (trySelect (finishTx s port).2 port)) ∧
    exec (.selectRetry port) s = .next (trySelect s port) ∧
    exec (.rosterEntryBoundary port) s = .next (gateStep s port) ∧
    ((s.port port).sending.isSome = true → (s.port port).macsec.exhausted = false → exec (.selectRetry port) s = .next s) ∧
    (∀ x, (s.port port).switchAt = some x → x ≤ s.work → exec (.rosterSwitchover port) s =
      .next (gateStep (s.setPort port { s.port port with operRoster := (s.port port).adminRoster, adminRoster := none, switchAt := none }) port)) ∧
    (∀ c k t, c < 8 → (s.port port).head c = some k → k.launch = some t → t ≤ s.work →
      exec (.launchTimeReached port c) s = .next (trySelect s port))) ∧
  (∀ (s : State), (∀ p c k, (s.port p).head c = some k → s.tooOld k = false) → exec .ageSweep s = .next s) ∧
  (∀ (s : State) (mac vlan : Nat), exec (.fdbAgeExpiry mac vlan) s =
    .next { s with sw := { s.sw with
      fdb := s.sw.fdb.filter (fun e => !(e.2.mac == mac && e.2.vlan == vlan && !e.2.static
      && decide (s.ageOf e.2 ≥ s.sw.fdbAge))) } }) ∧
  (∀ (s : State) (mac : Nat), exec (.ddForget mac) s = .next { s with ring := {
    s.ring with
    dd := s.ring.dd.filter (fun e => e.mac != mac || decide (s.lt < e.lastUse + s.ring.forgetMs * 1000000)) } }) ∧
  (∀ (s : State) (mac : Nat), exec (.proxyForget mac) s = .next { s with ring := {
    s.ring with
    proxies := s.ring.proxies.filter (fun e => e.mac != mac || decide (s.lt < e.lastSeen + 60000000000)) } }) ∧
  (∀ (s : State) (obj : Nat), obj < 4224 →
    let x := s.sampler obj
    let due := s.work / 1000 / x.period * x.period
    (x.period ≠ 0 → x.lastAt < due → exec (.sampleInstant obj) s =
      .next (s.setSampler obj { x.add (sampleOf s obj).1 (sampleOf s obj).2 with lastAt := due })) ∧
    ((x.period = 0 ∨ due ≤ x.lastAt) → exec (.sampleInstant obj) s = .next s)) ∧
  (∀ (s : State) (q : Nat), q < 4096 → (s.queue q).fresh = [] → (s.queue q).packets = [] →
    exec (.packetVisible q) s = .next s) ∧
  (∀ (s : State) (q : Nat), q < 4096 → exec (.packetVisible q) s = .next (forwardAll (showOne s q) q ((showOne s q).queue q).packets.length))

/-- Q_CONFIG writes the settings of one queue (unwatched here: WMARK 0) and refuses a change of CMODE or DMA unless the queue is
quiet with WRONG_STATE; Q_BIND binds one free end to a partner of R105, refuses a second producer with BUSY, and unbinds with
KIND 0; Q_FLUSH takes out the waiting packets at once, or answers PENDING 1 while one is open; Q_DESC answers descriptor bytes 8
to 31; DMA_RING_SET starts an empty ring on a quiet queue; Q_MAP lists the queues firmware holds. Nothing else changes. -/
def Obligations.QueueCommands : Prop :=
  ∀ (d : Desc) (s : State),
    let t := begins s d.part
    let c := cmdOf t d
    (∀ q, runs iQConfig d s = true → localRes t d.part (c.u 8 4) = some (5, q) → (t.queue q).fwUse = 0 → t.owns d.part 5 q = true →
      c.u 12 2 < 64 → c.u 16 4 ≤ 4194304 → c.u 20 4 = 0 → c.u 24 1 ≤ 1 → c.u 25 1 < 64 →
      ((bitAt (c.u 12 2) 1 = (t.queue q).hold ∧ bitAt (c.u 12 2) 3 = (t.queue q).dma) ∨ (t.queue q).quiet = true) →
      (bitAt (c.u 12 2) 3 = true → t.boundAtts (t.owner 5 q) 0 8 ≠ []) → (t.queue q).cons ≠ .port14 →
      exec (.qConfig d) s = .next (ends (t.setQueue q {
        t.queue q with
        enable := bitAt (c.u 12 2) 0, hold := bitAt (c.u 12 2) 1, pin := bitAt (c.u 12 2) 2 || (t.queue q).isEvent, dma := bitAt (c.u 12 2) 3
        urNotice := bitAt (c.u 12 2) 4, noticeEn := bitAt (c.u 12 2) 5, limit := c.u 16 4, wmark := 0, launchSrc := c.u 24 1
        launchUnit := c.u 25 1, lastPop := 0, above := false, wmArmed := (t.queue q).wmArmed || !(t.queue q).wmPending }) d stOk)) ∧
    (∀ q, runs iQConfig d s = true → localRes t d.part (c.u 8 4) = some (5, q) → (t.queue q).fwUse = 0 → t.owns d.part 5 q = true →
      c.u 12 2 < 64 → c.u 16 4 ≤ 4194304 → c.u 20 4 ≤ 4194304 → c.u 24 1 ≤ 1 → c.u 25 1 < 64 →
      bitAt (c.u 12 2) 1 ≠ (t.queue q).hold → (t.queue q).quiet = false →
      exec (.qConfig d) s = .next (ends t d stWrongState)) ∧
    (∀ q, runs iQBind d s = true → localRes t d.part (c.u 8 4) = some (5, q) → (t.queue q).fwUse = 0 → t.owns d.part 5 q = true →
      (c.u 12 1 = 0 → c.u 13 1 = 0 → exec (.qBind d) s = .next (ends (t.setQueue q { t.queue q with prod := .none, lastPop := 0 }) d stOk)) ∧
      (c.u 12 1 = 0 → c.u 13 1 = 1 → (t.queue q).prod = .none → pairOk .host (t.queue q).cons = true →
        exec (.qBind d) s = .next (ends (t.setQueue q { t.queue q with prod := .host, lastPop := 0 }) d stOk)) ∧
      (c.u 12 1 = 0 → c.u 13 1 = 1 → (t.queue q).prod ≠ .none → pairOk .host (t.queue q).cons = true →
        exec (.qBind d) s = .next (ends t d stBusy)) ∧
      (c.u 12 1 = 1 → c.u 13 1 = 1 → (t.queue q).cons = .none → pairOk (t.queue q).prod .host = true →
        exec (.qBind d) s = .next (ends (t.setQueue q { t.queue q with cons := .host, presented := false, popped := 0, lastPop := 0 }) d stOk))) ∧
    (∀ q, runs iQFlush d s = true → localRes t d.part (c.u 8 4) = some (5, q) → (t.queue q).fwUse = 0 → t.owns d.part 5 q = true →
      (t.queue q).packets = [] → (t.queue q).fresh = [] → (t.queue q).opn = none → (t.queue q).arriving = [] → (t.queue q).wmark = 0 →
      ∃ z, exec (.qFlush d) s = .next (ends z d stOk (resOf [(0, 1, 0)])) ∧ z.ctr cFlushDrop q = t.ctr cFlushDrop q ∧
        z.queue q = {
          t.queue q with
          popped := 0, lastPop := 0, above := false, flushPending := false
          wmArmed := (t.queue q).wmArmed || !(t.queue q).wmPending } ∧ ∀ r, r ≠ q → z.queue r = t.queue r) ∧
    (∀ q, runs iQFlush d s = true → localRes t d.part (c.u 8 4) = some (5, q) → (t.queue q).fwUse = 0 → t.owns d.part 5 q = true →
      (t.queue q).isOpen = true → (t.queue q).wmark = 0 →
      exec (.qFlush d) s = .next (ends (t.setQueue q {
        t.queue q with
        flushPending := true, above := false, wmArmed := (t.queue q).wmArmed || !(t.queue q).wmPending }) d stOk (resOf [(0, 1, 1)]))) ∧
    (∀ q, runs iQDesc d s = true → localRes t d.part (c.u 8 4) = some (5, q) → t.mayRead d.part 5 q = true →
      exec (.qDesc d) s = .next (ends t d stOk (((t.queue q).descriptor (t.owner 5 q)).drop 8))) ∧
    (∀ q, runs iDmaRingSet d s = true → localRes t d.part (c.u 8 4) = some (5, q) → (t.queue q).fwUse = 0 → t.owns d.part 5 q = true →
      c.u 12 1 < 64 → c.u 16 8 % 4096 = 0 → c.u 24 8 % 8 = 0 → powerBetween 8 16 (c.u 32 4) = true → powerBetween 6 16 (c.u 36 4) = true →
      (t.queue q).packets = [] → (t.queue q).fresh = [] → (t.queue q).arriving = [] → (t.queue q).opn = none → (t.queue q).presented = false →
      exec (.dmaRingSet d) s = .next (ends (t.setQueue q {
        t.queue q with
        ring := some { base := c.u 16 8, slotSize := c.u 32 4, slots := c.u 36 4, tailWb := c.u 24 8, vector := c.u 12 1, since := t.lt }
        dmaHead := 0, dmaTail := 0 }) d stOk)) ∧
    (∀ l, runs iQMap d s = true → d.bulkLen % 8 = 0 → d.bulkLen ≠ 0 → c.owned = true → l = t.queues.filter (fun e => e.2.fwUse != 0) →
      4 * l.length ≤ d.bulkLen →
      exec (.qMap d) s = .next (ends t d stOk (resOf [(0, 2, l.length)]) (l.flatMap (fun e => leBytes 4 (e.1 + e.2.fwUse * 65536)))))

/-- A write to a queue's port by a partition that does not own it changes nothing; one to a queue without host producer is
counted in PROD_CONFLICT alone (R110). Bytes written into an enabled queue open a packet with one cell, or fill the room of its
last cell; a disabled queue refuses them (R104). A commit gives the packet the next place in commit order, makes it wait one
cycle and counts ENQ_PACKETS and ENQ_BYTES, an over-long TRIM aborts it and counts BAD_TRIM, an abort returns its cells, which
join the pool at the end of the cycle (R118), and counts ABORTS (R106, R107). FLUSH empties the queue or waits for what is open;
on a firmware queue it is counted in MODE_MISUSE. Each of them counts once more in ATT_WRITES of the attachment it came through,
here and in the other port statements (s is the state with that count, R329). -/
def Obligations.QueueProducerPort : Prop :=
  ∀ (a : Acc) (p q : Nat) (o : State), q < 4096 → o.boot.rescue = false → o.who a = some p → o.isOpen p = true →
    let s := o.arrived a cAttWrites
    let x := s.queue q
    (s.owns p 5 q = false → ∀ (data : List Byte) (n : Nat),
      (data.length = 4 ∨ data.length = 8 → exec (.prodData a q data) o = .next s) ∧ exec (.prodCommit a q n) o = .next s ∧
      exec (.prodAbort a q) o = .next s ∧ exec (.flush a q) o = .next s ∧ exec (.dmaHeadWrite a q n) o = .next s ∧
      exec (.holdOffsetWrite a q n) o = .next s ∧ exec (.holdAck a q n) o = .next s ∧ exec (.wmPendingAck a q) o = .next s) ∧
    (s.owns p 5 q = true → x.prod ≠ .host → ∀ (data : List Byte) (n : Nat), data.length = 4 ∨ data.length = 8 →
      exec (.prodData a q data) o = .next (s.count cProdConflict q) ∧ exec (.prodCommit a q n) o = .next (s.count cProdConflict q) ∧
      exec (.prodAbort a q) o = .next (s.count cProdConflict q)) ∧
    (∀ (data : List Byte) (k : Packet), s.owns p 5 q = true → x.prod = .host → x.refused = false → x.enable = true → x.opn = some k →
      data.length = 4 ∨ data.length = 8 → cellsFor (k.bytes.length + data.length) ≤ k.cells.length →
      k.bytes.length + data.length ≤ 2097152 → k.inPort = none →
      exec (.prodData a q data) o = .next (s.setQueue q { x with opn := some { k with bytes := k.bytes ++ data }, lastWrite := data.length })) ∧
    (∀ (data : List Byte), s.owns p 5 q = true → x.prod = .host → x.refused = false → x.enable = true → x.opn = none →
      data.length = 4 ∨ data.length = 8 → x.charged < x.limit → s.pool.reserve < s.freeCells → s.pool.pinKeep < s.onFree →
      ∃ t, exec (.prodData a q data) o = .next t ∧ t.freeCells + 1 = s.freeCells ∧ t.counters = s.counters ∧
        t.queue q = { x with opn := some { bytes := data, cells := [(takeOn s).1] }, lastWrite := data.length } ∧
        ∀ r, r ≠ q → t.queue r = s.queue r) ∧
    (∀ (data : List Byte), s.owns p 5 q = true → x.prod = .host → x.refused = false → x.enable = false → x.opn = none →
      data.length = 4 ∨ data.length = 8 →
      exec (.prodData a q data) o = .next ((s.count cProdDisabled q).setQueue q { x with refused := true })) ∧
    (∀ (k : Packet), s.owns p 5 q = true → x.prod = .host → x.refused = false → x.enable = true → x.opn = some k → k.bytes ≠ [] →
      k.cells.length = cellsFor k.bytes.length → x.flushPending = false →
      exec (.prodCommit a q 0) o = .next ((({ s with pool := { s.pool with commits := s.pool.commits + 1 } }.setQueue q {
        x with
        opn := none, lastWrite := 0, lostBefore := false
        fresh := x.fresh ++ [{
          k with
          committedAt := s.work, launch := none, lost := x.lostBefore, seq := s.pool.commits, atLt := s.lt }] }).count cEnqPackets q).count
          cEnqBytes q k.bytes.length)) ∧
    (∀ n, s.owns p 5 q = true → x.prod = .host → x.refused = false → x.enable = true → x.lastWrite < n → n < 8 →
      exec (.prodCommit a q n) o = .next (abortOpen (s.count cBadTrim q) q)) ∧
    (s.owns p 5 q = true → x.prod = .host → x.enable = true → x.opn = none → x.refused = false →
      exec (.prodCommit a q 0) o = .next (s.count cEmptyCommit q)) ∧
    (∀ (k : Packet), s.owns p 5 q = true → x.prod = .host → x.opn = some k → k.inPort = none → x.flushPending = false →
      ∃ t, exec (.prodAbort a q) o = .next t ∧ t.freeCells + t.pool.freed.length = s.freeCells + s.pool.freed.length + k.cells.length ∧ t.ctr cAborts q = s.ctr cAborts q + 1 ∧
        t.queue q = { x with opn := none, lastWrite := 0, refused := false } ∧ ∀ r, r ≠ q → t.queue r = s.queue r) ∧
    (s.owns p 5 q = true → x.fwUse ≠ 0 → exec (.flush a q) o = .next (s.count cModeMisuse q)) ∧
    (s.owns p 5 q = true → x.fwUse = 0 → x.isOpen = true →
      exec (.flush a q) o = .next (s.setQueue q { x with flushPending := true })) ∧
    (s.owns p 5 q = true → x.fwUse = 0 → x.isOpen = false → x.presented = false →
      ∃ t, exec (.flush a q) o = .next t ∧ t.ctr cFlushDrop q = s.ctr cFlushDrop q + x.packets.length + x.fresh.length ∧
        t.queue q = {
          x with
          packets := [], fresh := [], popped := 0, lastPop := 0, above := false, flushPending := false
          wmArmed := x.wmArmed || !x.wmPending } ∧ ∀ r, r ≠ q → t.queue r = s.queue r)

/-- A POP of bytes inside the head packet advances the queue by them and shows them in POP_LAST of the requester; a POP of an
empty queue advances nothing, sets UNDERRUN and counts it (R111, R112). A HOLD_ACK with the presented SEQ releases the head and
counts DEQ_PACKETS. HOLD_OFFSET keeps bits 20 to 12. A consumer write to a queue that is not in HOLD mode with a host consumer
is counted in MODE_MISUSE alone. The watermark acknowledgement clears WM_PENDING. DMA_HEAD moves only within the filled slots;
another value is counted in DMA_BAD_HEAD alone (R121). An access through an attachment counts in its ATT_READS or ATT_WRITES too
(R329). -/
def Obligations.QueueConsumerPort : Prop :=
  ∀ (a : Acc) (p q : Nat) (o : State), q < 4096 → o.boot.rescue = false → o.who a = some p → o.isOpen p = true → o.owns p 5 q = true →
    let s := o.arrived a cAttWrites
    let x := s.queue q
    (∀ k len, a.att = none → a.spec = false → len = 4 ∨ len = 8 → x.cons = .host → x.hold = false → x.enable = true →
      x.packets.head? = some k → x.popped + len < k.bytes.length → s.pool.poisoned = [] → k.cells.all (fun c => decide (c < 65536)) = true →
      exec (.pop a q len) o = .next (s.setQueue q {
        x with
        popped := x.popped + len, lastPop := leNat (bytesAt k.bytes x.popped len), popLast := tblSet x.popLast (28 + a.node) len })) ∧
    (∀ len, a.att = none → a.spec = false → len = 4 ∨ len = 8 → x.cons = .host → x.hold = false → x.packets = [] → x.noticeEn = false →
      exec (.pop a q len) o = .next ((s.setQueue q {
        x with
        underrun := true, popLast := tblSet x.popLast (28 + a.node) 32 }).count cUnderruns q)) ∧
    (∀ len, a.att = none → len = 4 ∨ len = 8 → (x.cons ≠ .host ∨ x.hold = true) → exec (.pop a q len) o = .next (s.count cModeMisuse q)) ∧
    (∀ len n, a.att = some n → n < 8 → a.spec = true → len = 4 ∨ len = 8 → x.cons = .host → x.hold = false →
      exec (.pop a q len) o = .next ((o.count cAttReads n).emit (.reply n 0 false (leBytes len x.status)))) ∧
    (∀ v, x.cons = .host → x.hold = true →
      exec (.holdOffsetWrite a q v) o = .next (s.setQueue q { x with holdOffset := v / 4096 % 512 * 4096 })) ∧
    (∀ v n, (x.cons ≠ .host ∨ x.hold = false) → exec (.holdOffsetWrite a q v) o = .next (s.count cModeMisuse q) ∧
      exec (.holdAck a q n) o = .next (s.count cModeMisuse q)) ∧
    (∀ k r, x.cons = .host → x.hold = true → x.enable = true → x.presented = true → x.packets = k :: r → k.inPort = none → x.wmark = 0 →
      ∃ t, exec (.holdAck a q x.presentSeq) o = .next t ∧ t.ctr cDeqPackets q = s.ctr cDeqPackets q + 1 ∧
        t.freeCells + t.pool.freed.length = s.freeCells + s.pool.freed.length + k.cells.length ∧ t.queue q = {
          x with
          packets := r, popped := 0, presented := false, holdOffset := 0, above := false, wmArmed := x.wmArmed || !x.wmPending }) ∧
    (x.wmark = 0 → exec (.wmPendingAck a q) o = .next (s.setQueue q { x with wmPending := false, above := false, wmArmed := true })) ∧
    (∀ v r, x.fwUse = 0 → x.ring = some r → (r.slots ≤ v ∨ x.ringPending < (x.dmaTail + r.slots - v) % r.slots) →
      exec (.dmaHeadWrite a q v) o = .next (s.count cDmaBadHead q)) ∧
    (∀ r, x.fwUse = 0 → x.ring = some r → x.dmaTail < r.slots → 1 ≤ (s.part (s.owner 5 q)).countMod →
      exec (.dmaHeadWrite a q x.dmaTail) o = .next (s.setQueue q {
        x with
        dmaHead := x.dmaTail, ring := some { r with fired := false, since := s.lt } }))

/-- On a queue in HOLD mode with a host consumer a HOLD_ACK with another SEQ, or with nothing presented, only counts ACK_STALE;
one that has just released a packet releases no second one when it is repeated (each write that came through an attachment
counts there, R329); a write to the HOLD view completes with UR and changes nothing (R43). -/
def Obligations.StaleAcknowledge : Prop :=
  ∀ (a : Acc) (p q n : Nat) (o : State), q < 4096 → o.boot.rescue = false → o.who a = some p → o.isOpen p = true → o.owns p 5 q = true →
    let s := o.arrived a cAttWrites
    (s.queue q).cons = .host → (s.queue q).hold = true →
    (((s.queue q).presented = false ∨ n ≠ (s.queue q).presentSeq) → exec (.holdAck a q n) o = .next (s.count cAckStale q)) ∧
    (∀ t, (s.queue q).presented = true → n = (s.queue q).presentSeq → (s.queue q).packets ≠ [] → exec (.holdAck a q n) o = .next t →
      exec (.holdAck a q n) t = .next ((t.arrived a cAttWrites).count cAckStale q)) ∧
    (∀ off (d : List Byte), 0x1000000 ≤ off → off < 0x2000000 → (queueWrite p off d s).st = 1 ∧ (queueWrite p off d s).s = s)

/-- HOLD_PRESENT presents the head packet of an enabled HOLD queue once, with the next SEQ and HOLD_OFFSET 0 (R114); a packet
committed in the cycle before becomes visible (R106); CELL_ALLOCATE of a hardware producer opens a packet as a host's write
does, and does nothing without a producer. The DMA engine delivers the head packet only when the link is up with bus mastering
and enough slots are free, writing slots and then the tail (R120, R121); a packet longer than the ring holds is discarded and
counted in DMA_OVERSIZE. -/
def Obligations.QueueEngineEvents : Prop :=
  ∀ (q : Nat) (s : State), q < 4096 →
    let x := s.queue q
    (∀ k r, x.enable = true → x.hold = true → x.cons = .host → x.presented = false → x.packets = k :: r →
      exec (.holdPresent q) s = .next (s.setQueue q {
        x with
        presented := true, presentSeq := x.nextSeq, nextSeq := (x.nextSeq + 1) % 4294967296, holdOffset := 0 })) ∧
    ((x.enable = false ∨ x.hold = false ∨ x.presented = true ∨ x.packets = []) → exec (.holdPresent q) s = .next s) ∧
    (∀ k r, x.fresh = k :: r → x.wmark = 0 → x.cons ≠ .port14 → exec (.packetVisible q) s = .next (s.setQueue q {
      x with
      packets := x.packets ++ [k], fresh := r, above := false, wmArmed := x.wmArmed || !x.wmPending })) ∧
    (∀ d, x.prod = .none → exec (.cellAllocate q d) s = .next s) ∧
    (∀ (d : List Byte) c, x.prod = .can c → x.enable = true → x.opn = none → d ≠ [] → d.length ≤ 128 → x.charged < x.limit →
      s.pool.reserve < s.freeCells → s.pool.pinKeep < s.onFree →
      ∃ t, exec (.cellAllocate q d) s = .next t ∧ t.freeCells + 1 = s.freeCells ∧
        t.queue q = { x with opn := some { bytes := d, cells := [(takeOn s).1] }, lastWrite := d.length }) ∧
    ((x.ring = none ∨ x.packets = [] ∨ s.boundAtts (s.owner 5 q) 0 8 = [] ∨ x.dma = false ∨ x.enable = false ∨ x.cons ≠ .dma) →
      exec (.dmaPacketDeliver q) s = .next s) ∧
    (∀ r k l f m, x.ring = some r → x.packets = k :: l → s.boundAtts (s.owner 5 q) 0 8 = f :: m → x.dma = true → x.enable = true →
      x.cons = .dma → 16 < r.slotSize →
      let n := (k.bytes.length + (r.slotSize - 16) - 1) / (r.slotSize - 16)
      ((s.att f).masterUp = false → exec (.dmaPacketDeliver q) s = .next s) ∧
      (n ≤ r.slots - 1 → r.slots - 1 - x.ringPending < n → exec (.dmaPacketDeliver q) s = .next s) ∧
      ((s.att f).masterUp = true → r.slots - 1 < n → k.inPort = none → x.wmark = 0 → ∃ t, exec (.dmaPacketDeliver q) s = .next t ∧ t.out = s.out ∧
        t.ctr cDmaOversize q = s.ctr cDmaOversize q + 1 ∧ (t.queue q).packets = l ∧ t.freeCells + t.pool.freed.length = s.freeCells + s.pool.freed.length + k.cells.length) ∧
      ((s.att f).masterUp = true → n ≤ r.slots - 1 → n ≤ r.slots - 1 - x.ringPending → k.inPort = none → s.pool.poisoned = [] → x.wmark = 0 →
        r.fired = true → r.slots ≠ 0 → ∃ t, exec (.dmaPacketDeliver q) s = .next t ∧
          t.out = s.out ++ (List.range n).map (fun i => .memWrite f (r.base + (x.dmaTail + i) % r.slots * r.slotSize) (dmaSlot r k false n i))
            ++ [.memWrite f r.tailWb (leBytes 8 ((x.dmaTail + n) % r.slots))] ∧
          (t.queue q).dmaTail = (x.dmaTail + n) % r.slots ∧ (t.queue q).packets = l ∧ t.ctr cDeqPackets q = s.ctr cDeqPackets q + 1))

/-- DOMAIN_CFG writes both domains' settings (here with domain B on), each domain going on from the clock it shows, PTP_PORT_CFG
one port's, and the elections are looked at again (R152, R154); STEP_PERMIT arms or cancels one step; DOMAIN_SWITCH follows a
domain that is LOCKED within HOLD_LIMIT and otherwise raises SWITCH_REFUSED with WRONG_STATE; TOD_SET takes a second only
between 100 and 900 ms after an accepted edge; PPS_CFG (which makes no edge of PPS_OUT, R173), TRIG_SET, TRIG_READ and CAPT_SET
set and read their units. Nothing else changes. -/
def Obligations.TimeCommands : Prop :=
  ∀ (d : Desc) (s : State),
    let t := begins s d.part
    let c := cmdOf t d
    (runs iDomainCfg d s = true → c.u 8 1 < 128 → c.u 9 1 < 128 → c.u 8 1 ≠ c.u 9 1 → c.u 10 1 < 16 → bitAt (c.u 10 1) 0 = true →
      -7 ≤ c.i 11 1 → c.i 11 1 ≤ 0 → 2 ≤ c.u 12 1 → c.u 13 1 ≤ 2 → c.u 14 1 ≤ 2 → 10000 ≤ c.u 16 4 → c.u 16 4 ≤ 2000000 →
      1 ≤ c.u 20 2 → c.u 20 2 ≤ 200 → t.owns d.part 10 1 = true → t.owns d.part 10 2 = true →
      ¬(c.u 13 1 = 1 ∧ t.time.follow = 1) → ¬(c.u 14 1 = 1 ∧ t.time.follow = 2) →
      exec (.domainCfg d) s = .next (ends (markSecond (elects (t.setTime {
        t.time with
        domA := {
          t.time.domA with
          clk := t.domClock 1, num := c.u 8 1, gmCapable := bitAt (c.u 10 1) 2, gmSource := c.u 13 1, prio1 := c.u 24 1, prio2 := c.u 25 1 }
        domB := {
          t.time.domB with
          clk := t.domClock 2, num := c.u 9 1, gmCapable := bitAt (c.u 10 1) 3, gmSource := c.u 14 1, prio1 := c.u 26 1, prio2 := c.u 27 1
          st := if t.time.domB.st = 0 then 1 else t.time.domB.st }
        syncLog := c.i 11 1, lossCount := c.u 12 1, holdLimit := c.u 16 4, slewMax := c.u 20 2
        autoQuality := bitAt (c.u 10 1) 1, bEnable := true }))) d stOk)) ∧
    (∀ p, runs iPtpPortCfg d s = true → localRes t d.part (c.u 8 4) = some (9, p) → t.owns d.part 9 p = true → c.u 12 1 ≤ 2 →
      (p < 6 ∨ c.u 12 1 = 0) → -5 ≤ c.i 13 1 → c.i 13 1 ≤ 3 → 100 ≤ c.u 14 2 → c.u 14 2 ≤ 10000 → -1000 ≤ c.i 16 4 → c.i 16 4 ≤ 1000 →
      -1000 ≤ c.i 20 4 → c.i 20 4 ≤ 1000 →
      let u := t.setPort p {
        t.port p with
        ptpProfile := c.u 12 1, pdelayLog := c.i 13 1, delayThresh := c.u 14 2, txAdj := c.i 16 4, rxAdj := c.i 20 4 }
      exec (.ptpPortCfg d) s = .next (ends (elects (if u.ptpOn p && (t.port p).pdelays != 0 then capCheck u p else u)) d stOk)) ∧
    (runs iStepPermit d s = true → t.owns d.part 10 1 = true → t.owns d.part 10 2 = true → c.u 8 1 = 1 →
      exec (.stepPermit d) s = .next (ends (t.setTime { t.time with stepArmed := false }) d stOk [0])) ∧
    (runs iStepPermit d s = true → t.owns d.part 10 1 = true → t.owns d.part 10 2 = true → c.u 8 1 = 0 → t.time.source ≠ 3 →
      exec (.stepPermit d) s = .next (ends (t.setTime { t.time with stepArmed := true }) d stOk [1])) ∧
    (runs iDomainSwitch d s = true → t.owns d.part 10 1 = true → t.owns d.part 10 2 = true → (c.u 8 1 = 1 ∨ c.u 8 1 = 2) →
      t.time.follow = c.u 8 1 → exec (.domainSwitch d) s = .next (ends t d stOk)) ∧
    (runs iDomainSwitch d s = true → t.owns d.part 10 1 = true → t.owns d.part 10 2 = true → (c.u 8 1 = 1 ∨ c.u 8 1 = 2) →
      t.time.follow ≠ c.u 8 1 → t.canFollow (c.u 8 1) = true →
      exec (.domainSwitch d) s = .next (ends (followDom t (c.u 8 1)) d stOk)) ∧
    (runs iTodSet d s = true → t.owns d.part 10 1 = true → t.owns d.part 10 2 = true → (c.u 8 1 = 1 ∨ c.u 8 1 = 2) → c.u 16 8 < 2 ^ 48 →
      ∀ l, t.time.ppsLast = some l → l + 100000000 ≤ t.lt → t.lt ≤ l + 900000000 →
      exec (.todSet d) s = .next (ends (t.setDom (c.u 8 1) { t.dom (c.u 8 1) with todSec := some (c.u 16 8), utcOffset := c.i 10 2 }) d stOk)) ∧
    (runs iPpsCfg d s = true → t.owns d.part 10 1 = true → t.owns d.part 10 2 = true → c.u 8 1 ≤ 1 → c.u 9 1 ≤ 3 → 1 ≤ c.u 12 4 →
      c.u 12 4 ≤ 500000 → exec (.ppsCfg d) s = .next (ends (markSecond (t.setTime {
        t.time with
        ppsFalling := c.u 8 1 == 1, outClock := c.u 9 1, outWidth := c.u 12 4 })) d stOk)) ∧
    (∀ u, runs iTrigSet d s = true → localRes t d.part (c.u 8 4) = some (13, u) → t.owns d.part 13 u = true → (t.trig u).held = false →
      armOk (c.u 16 16) = true → bitsAt (c.u 16 16) 82 14 = 0 →
      exec (.trigSet d) s = .next (ends (armUnit t u (bitsAt (c.u 16 16) 30 2) (bitsAt (c.u 16 16) 32 48) (bitsAt (c.u 16 16) 0 30)
        (bitsAt (c.u 16 16) 96 32)) d stOk)) ∧
    (∀ u, runs iTrigSet d s = true → localRes t d.part (c.u 8 4) = some (13, u) → t.owns d.part 13 u = true → (t.trig u).held = true →
      armOk (c.u 16 16) = true → bitsAt (c.u 16 16) 82 14 = 0 → exec (.trigSet d) s = .next (ends t d stDenied)) ∧
    (∀ u, runs iTrigRead d s = true → localRes t d.part (c.u 8 4) = some (13, u) → t.mayRead d.part 13 u = true →
      exec (.trigRead d) s = .next (ends t d stOk (leBytes 8 (t.trig u).fireCount ++ leBytes 16 (t.trig u).value))) ∧
    (∀ u, runs iCaptSet d s = true → localRes t d.part (c.u 8 4) = some (14, u) → t.owns d.part 14 u = true → c.u 16 2 = 0xFFFF →
      (c.u 12 2 = 256 ∨ c.u 12 2 < 256 ∧ t.mayRead d.part 3 (c.u 12 2) = true) → c.u 14 1 ≤ 3 → (t.capt u).queue = none →
      exec (.captSet d) s = .next (ends (t.setCapt u {
        t.capt u with
        edges := c.u 14 1, source := c.u 12 2, queue := none, seq := 0, lost := false, overRaised := false, waiting := [] }) d stOk)) ∧
    (∀ u, runs iCaptSet d s = true → localRes t d.part (c.u 8 4) = some (14, u) → t.owns d.part 14 u = true → c.u 16 2 < 4096 →
      c.u 12 2 = 256 → c.u 14 1 ≤ 3 → t.owns d.part 5 (c.u 16 2) = true → (t.queue (c.u 16 2)).fwUse = 0 →
      captCons (t.queue (c.u 16 2)).cons = true → (t.queue (c.u 16 2)).prod ≠ .none → (t.queue (c.u 16 2)).prod ≠ .capture u →
      exec (.captSet d) s = .next (ends t d stBusy))

/-- A write of DOMAIN_SWITCH from partition 0 with TARGET [81:80] 1 or 2, NS [29:0] up to 999,999,999 and SEC [79:32] replaces
the scheduled switch by the one at its instant; an instant past or less than 1 µs ahead switches at once. TARGET 0 or 3, or a
larger NS, is ignored and counted in TIME_BAD_WRITE. (A domain that this hub serves from its working clock is R167's case, and
is left out here.) -/
def Obligations.DomainSwitchRegister : Prop :=
  ∀ (a : Acc) (v : Nat) (o : State), o.boot.rescue = false → o.who a = some 0 → o.isOpen 0 = true →
    let s := o.arrived a cAttWrites
    let d := bitsAt v 80 2
    let at_ := bitsAt v 32 48 * 1000000000 + bitsAt v 0 30
    ((d = 0 ∨ d = 3 ∨ 999999999 < bitsAt v 0 30) → exec (.domainSwitchWrite a v) o = .next (s.count cTimeBadWrite 0)) ∧
    ((d = 1 ∨ d = 2) → bitsAt v 0 30 ≤ 999999999 → ((s.dom d).isGm = false ∨ (s.dom d).gmSource ≠ 1) →
      (s.work + 1000 ≤ at_ → exec (.domainSwitchWrite a v) o = .next (s.setTime { s.time with switchAt := some (at_, d) })) ∧
      (at_ < s.work + 1000 → exec (.domainSwitchWrite a v) o = .next (trySwitch (s.setTime { s.time with switchAt := none }) d)))

/-- A followed domain keeps the working clock within SLEW_MAX: the correction never exceeds it (R159). A Sync that shows the
followed domain within HOLD_LIMIT sets the working clock's rate and nothing of its time; four Syncs within 20 ns end CONVERGING
(R168). A switch moves no clock and sets CONVERGING (R168). A refused switch keeps what is followed and raises SWITCH_REFUSED
(R167). A due scheduled or quality switch acts once (R166, R170). A Sync or an Announce on a port without precision time is only
counted (R152); of no domain of the hub it has no effect. An Announce is noted for its port, and elects its grandmaster where no
better one is heard (the choice among masters is the model's, log 13). A domain whose loss instant passes is LOST, and searches
when no port has a master (R161). -/
def Obligations.ClockFollowing : Prop :=
  (∀ (delta : Int) (i m : Nat), -((m * nsUnit / 1000000 : Nat) : Int) ≤ slewOf delta i m ∧ slewOf delta i m ≤ ((m * nsUnit / 1000000 : Nat) : Int)) ∧
  (∀ (s : State) (d : Nat), (d = 1 ∨ d = 2) →
    (followDom s d).time.work = { s.time.work with rate := s.followRate d } ∧ (followDom s d).time.follow = d ∧
    (followDom s d).time.source = d ∧ (s.time.lastFollow ≠ d → (followDom s d).time.converging = true) ∧
    (followDom s d).time.lt = s.time.lt) ∧
  (∀ (s : State) (d : Nat), s.time.follow = d → trySwitch s d = s) ∧
  (∀ (s : State) (d : Nat), s.time.follow ≠ d → s.canFollow d = false → trySwitch s d = raise s (srcTime 8) 1 0) ∧
  (∀ (s : State), (s.dom 1).qualityAt = none → (s.dom 2).qualityAt = none →
    (∀ d, s.time.switchAt = some (s.work, d) → exec .scheduledSwitch s = .next (trySwitch (s.setTime { s.time with switchAt := none }) d)) ∧
    (s.time.switchAt = none → exec .scheduledSwitch s = .next s) ∧
    (∀ t d, s.time.switchAt = some (t, d) → s.work < t → exec .scheduledSwitch s = .next s)) ∧
  (∀ (s : State) (f t : Nat), (f = 1 ∨ f = 2) → s.time.switchAt = none → (s.dom f).qualityAt = some t → (s.dom (other f)).qualityAt = none →
    (s.work < t → exec .scheduledSwitch s = .next s) ∧
    (t ≤ s.work → s.time.follow = f →
      exec .scheduledSwitch s = .next (trySwitch (s.setDom f { s.dom f with qualityAt := none }) (other f)))) ∧
  (∀ (s : State) (m : SyncMsg), m.port < 16 →
    (((s.port m.port).ptpProfile = 0 ∨ 6 ≤ m.port) → exec (.syncReceived m) s = .next (s.count cPtpNotEnabled m.port)) ∧
    (s.ptpOn m.port = true → s.domOf m.num = none → exec (.syncReceived m) s = .next s) ∧
    (∀ d, s.ptpOn m.port = true → s.domOf m.num = some d →
      (s.carries m.port = false ∨ (s.dom d).isGm = true ∨ (s.dom d).gmId ≠ m.gmId ∨ m.gmId = 0 ∨ (s.dom d).gmPort ≠ m.port ∨ (s.dom d).st = 0) →
      exec (.syncReceived m) s = .next s) ∧
    (∀ d, s.carries m.port = true → s.domOf m.num = some d → (s.dom d).st = 1 → (s.dom d).isGm = false → (s.dom d).gmId = m.gmId →
      m.gmId ≠ 0 → (s.dom d).gmPort = m.port → s.time.follow = 0 → s.time.source = 0 → (∀ p, p < 6 → p ≠ m.port → s.carries p = false) →
      ∃ t, exec (.syncReceived m) s = .next t ∧ (t.dom d).st = 2 ∧ (t.dom d).lastOrigin = syncCarried m ∧
        (t.dom d).clk.rate = clampRate m.rate ∧ t.time.work = s.time.work ∧ t.out = s.out)) ∧
  (∀ (s : State) (m : AnnounceMsg), m.port < 16 →
    let e : PtpMaster := { port := m.port, gmId := m.gmId, vector := m.vector, steps := m.steps, sender := m.sender, until_ := s.lt + 3 * logNs m.log }
    (((s.port m.port).ptpProfile = 0 ∨ 6 ≤ m.port) → exec (.announceReceived m) s = .next (s.count cPtpNotEnabled m.port)) ∧
    (s.ptpOn m.port = true → s.domOf m.num = none → exec (.announceReceived m) s = .next s) ∧
    (∀ d, s.ptpOn m.port = true → s.domOf m.num = some d →
      ((s.dom d).st = 0 ∨ m.path.contains (ownClockId s) = true ∨ m.gmId = ownClockId s) → exec (.announceReceived m) s = .next s) ∧
    (∀ d, s.ptpOn m.port = true → s.domOf m.num = some d → (s.dom d).st ≠ 0 → (s.dom d).heard = [] → (s.dom d).isGm = false →
      (s.dom d).gmCapable = false → m.path.contains (ownClockId s) = false → m.gmId ≠ ownClockId s → s.time.follow = 0 →
      (∀ p, p < 6 → p ≠ m.port → s.carries p = false) →
      (s.carries m.port = true → ((s.dom d).lastGm = 0 ∨ (s.dom d).lastGm = m.gmId) →
        exec (.announceReceived m) s = .next (s.setDom d {
          s.dom d with
          heard := [e], lastGm := m.gmId, gmId := m.gmId, gmVector := m.vector, gmPort := m.port })) ∧
      (s.carries m.port = false → (s.dom d).st = 1 → (s.dom d).gmId = 0 → m.gmId ≠ 0 →
        exec (.announceReceived m) s = .next (s.setDom d { s.dom d with heard := [e] })))) ∧
  (∀ (s : State) (d : Nat), (d = 1 ∨ d = 2) →
    (((s.dom d).st ≠ 2 ∧ (s.dom d).st ≠ 3 ∨ (s.dom d).isGm = true ∨ lossDue s d = false) → exec (.syncLoss d) s = .next s) ∧
    (((s.dom d).st = 2 ∨ (s.dom d).st = 3) → (s.dom d).isGm = false → lossDue s d = true → s.time.follow ≠ d → (s.dom d).gmCapable = false →
      (s.dom d).heard = [] → exec (.syncLoss d) s = .next ((markLost s d).setDom d {
        (markLost s d).dom d with
        gmId := 0, gmVector := 0, quality := false, st := 1 })) ∧
    ((markLost s d).dom d = { s.dom d with st := 4, good := 0, syncs := 0 })) ∧
  (∀ (s : State), s.time.follow = 1 → s.canFollow 2 = true → loseFollowed s 1 = followDom s 2) ∧
  (∀ (s : State), s.time.follow = 1 → s.canFollow 2 = false → s.time.stepArmed = false → s.canFollow 1 = false →
    (loseFollowed s 1).time.work = s.time.work ∧ (loseFollowed s 1).time.source = 3 ∧ (loseFollowed s 1).time.follow = 0)

/-- Only a grandmaster of a domain sends Syncs, one per interval, on the ports that carry time (R157, R171), with the working
clock left alone. A peer delay exchange sends a request and notes the delay or that no answer came, at its interval (R153,
R155); a request is answered with the corrections of the turn-round on a port that runs a profile and is counted otherwise. The
bytes of a gPTP message are the model's (log 13). ONE_STEP_REFUSED is raised once per port (R154). A PPS edge off 1 s ± 1 ms is
counted, the third in a row sets PPS_IN_OK, and 3 missing ones clear it (R172). PPS_OUT is high during its width from the
passing of each second and low while its working clock is not valid (R173). -/
def Obligations.ClockSending : Prop :=
  (∀ (s : State) (d : Nat), (d = 1 ∨ d = 2) →
    (((s.dom d).isGm = false ∨ (s.dom d).st = 0 ∨ s.passThrough = true) → exec (.syncSend d) s = .next s) ∧
    ((s.dom d).sentAt ≠ 0 → s.lt < (s.dom d).sentAt + logNs s.time.syncLog → exec (.syncSend d) s = .next s) ∧
    (∀ an, (s.dom d).isGm = true → (s.dom d).st = 3 → s.passThrough = false → (s.dom d).sentAt = 0 → (s.dom d).annAt = some an →
      s.lt < an + 1000000000 → s.time.follow = other d → s.time.source ≠ 3 → (∀ p, p < 6 → p ≠ 1 → s.carries p = false) →
      (s.port 1).oneStepRefused = false → s.carries 1 = true → s.sw.canaries = [] →
      let c := s.domClock d
      let o := (((c.ns : Nat) : Int) + (txCorr s 1 : Nat) + (s.port 1).txAdj).toNat
      let tlv := if (s.port 1).ptpProfile = 1 then
        beBytes 2 3 ++ beBytes 2 28 ++ beBytes 3 0x0080C2 ++ beBytes 3 1 ++ beBytes 4 (unsignedOf 32 (c.rate / 128)) ++ zeros 18 else []
      ∃ t, exec (.syncSend d) s = .next t ∧ (t.dom d).sentAt = s.lt ∧ t.time.work = s.time.work ∧
        t.out = s.out ++ [.frame 1 (ptpFrame s 1 0 (s.dom d).num (s.port 1).ptpSeq (c.t % nsUnit / 4294967296 : Nat) s.time.syncLog
          (beBytes 6 (o / 1000000000) ++ beBytes 4 (o % 1000000000) ++ tlv)) false])) ∧
  (∀ (s : State) (p : Nat), p < 16 →
    (∀ dl, s.ptpOn p = false → exec (.pdelayExchange p dl) s = .next s) ∧
    (∀ dl t, (s.port p).pdelayAt = some t → s.lt < t + (s.port p).pdelayNs → exec (.pdelayExchange p dl) s = .next s) ∧
    (∀ trip, s.ptpOn p = true → ((s.port p).pdelayAt = none ∨ ∃ t, (s.port p).pdelayAt = some t ∧ t + (s.port p).pdelayNs ≤ s.lt) →
      let u := sendPtp s p (ptpFrame s p 2 0 (s.port p).ptpSeq 0 (if (s.port p).pdelays < 4 then -5 else (s.port p).pdelayLog) (zeros 20))
      exec (.pdelayExchange p trip) s = .next (elects (capCheck (u.setPort p {
        u.port p with
        pdelayAt := some u.lt, pdelays := (s.port p).pdelays + 1, asCapable := trip.isSome
        meanDelay := match trip with | some v => linkDelay u p v | none => (s.port p).meanDelay }) p))) ∧
    (∀ v, linkDelay s p v =
      ((v - ((txCorr s p : Nat) + (s.port p).txAdj) - ((rxCorr s p : Nat) + (s.port p).rxAdj)) / 2).toNat) ∧
    (∀ m : PdelayMsg, m.port = p → s.ptpOn p = true → exec (.pdelayReq m) s = .next (sendPtp s p (ptpFrame s p 3 m.num m.seq
      (m.corr + residence s p p m.age * 65536) 0x7F (zeros 10 ++ beBytes 10 m.sender)))) ∧
    (∀ m : PdelayMsg, m.port = p → ((s.port p).ptpProfile = 0 ∨ 6 ≤ p) → exec (.pdelayReq m) s = .next (s.count cPtpNotEnabled p)) ∧
    (∀ m : PdelayMsg, m.port = p → p < 6 → (s.port p).ptpProfile ≠ 0 → s.ptpOn p = false → exec (.pdelayReq m) s = .next s) ∧
    (p < 6 → (s.port p).oneStepRefused = true → exec (.oneStepRefused p) s = .next s) ∧
    (p < 6 → (s.port p).oneStepRefused = false →
      exec (.oneStepRefused p) s = .next (raise (s.setPort p { s.port p with oneStepRefused := true }) (srcTime 17) 1 0))) ∧
  (∀ (s : State), (∀ r, r = s.time.ppsFalling → exec (.ppsInEdge r) s = .next s) ∧
    (∀ r l, r ≠ s.time.ppsFalling → s.time.ppsLast = some l → (s.lt + 1000000 < l + 1000000000 ∨ l + 1001000000 < s.lt) →
      exec (.ppsInEdge r) s = .next (s.count cPpsInBad 0)) ∧
    (∀ r l, r ≠ s.time.ppsFalling → s.time.ppsLast = some l → l + 1000000000 ≤ s.lt + 1000000 → s.lt ≤ l + 1001000000 →
      s.time.domA.todSec = none → s.time.domB.todSec = none →
      (s.time.ppsOk = true ∨ s.time.ppsRun < 2 → exec (.ppsInEdge r) s = .next (s.setTime {
        s.time with
        ppsLast := some s.lt, ppsRun := s.time.ppsRun + 1 }))) ∧
    (∀ r l, r ≠ s.time.ppsFalling → s.time.ppsLast = some l → l + 1000000000 ≤ s.lt + 1000000 → s.lt ≤ l + 1001000000 →
      s.time.ppsOk = false → s.time.ppsRun = 2 → ∃ t, exec (.ppsInEdge r) s = .next t ∧ t.time.ppsOk = true ∧ t.time.ppsLast = some s.lt) ∧
    (s.time.ppsLast = none → exec .ppsInLost s = .next s) ∧
    (∀ l, s.time.ppsLast = some l → s.lt ≤ l + 3001000000 → exec .ppsInLost s = .next s) ∧
    (∀ l, s.time.ppsLast = some l → l + 3001000000 < s.lt → ∃ t, exec .ppsInLost s = .next t ∧ t.time.ppsOk = false ∧ t.time.ppsLast = none ∧
      t.time.ppsRun = 0 ∧ t.time.work = s.time.work) ∧
    (s.time.outClock = 0 → s.time.valid = false → exec .ppsOutPulse s = .next (s.setTime {
      s.time with
      ppsOut := false, ppsOutSec := s.work / 1000000000 })) ∧
    (s.time.outClock = 3 → exec .ppsOutPulse s = .next (s.setTime {
      s.time with
      ppsOut := decide (s.lt % 1000000000 < s.time.outWidth * 1000) && (s.time.ppsOut || s.lt / 1000000000 != s.time.ppsOutSec), ppsOutSec := s.lt / 1000000000 })))

/-- TRIG_ARM takes a well-formed value for its owner's unit, MODE 0 cancelling it and a one-shot less than 50 ns ahead firing at
once with LATE; an ill-formed value or a held unit is ignored and counted (R176, R178); a unit that is not the partition's
answers nothing changed. A pending unit fires at its instant, counting it, and a periodic one goes on by PERIOD (R175). A
capture unit without queue keeps its latest edge in CAPT_LAST and counts SEQ; an edge it is not set to record, or within 2 ns,
changes nothing (R179, R182). -/
def Obligations.TriggersAndCaptures : Prop :=
  (∀ (a : Acc) (p t v : Nat) (o : State), t < 64 → o.boot.rescue = false → o.who a = some p → o.isOpen p = true →
    let s := o.arrived a cAttWrites
    (s.owns p 13 t = false → exec (.trigArmWrite a t v) o = .next s) ∧
    (s.owns p 13 t = true → (armOk v = false ∨ (s.trig t).held = true) → exec (.trigArmWrite a t v) o = .next (s.count cTimeBadWrite 0)) ∧
    (s.owns p 13 t = true → armOk v = true → (s.trig t).held = false → bitAt v 81 = false →
      let x := { s.trig t with ns := bitsAt v 0 30, mode := bitsAt v 30 2, sec := bitsAt v 32 48, period := bitsAt v 96 32 }
      let at_ := bitsAt v 32 48 * 1000000000 + bitsAt v 0 30
      (bitsAt v 30 2 = 0 → exec (.trigArmWrite a t v) o = .next (s.setTrig t { x with pending := false })) ∧
      (bitsAt v 30 2 = 1 → s.work + 50 ≤ at_ → exec (.trigArmWrite a t v) o = .next (s.setTrig t { x with pending := true, next := at_ })) ∧
      (bitsAt v 30 2 = 1 → at_ < s.work + 50 →
        exec (.trigArmWrite a t v) o = .next (fireUnit (s.setTrig t { x with pending := true, next := at_ }) t true)) ∧
      (bitsAt v 30 2 = 2 → s.work + 50 ≤ at_ → exec (.trigArmWrite a t v) o = .next (s.setTrig t { x with pending := true, next := at_ })) ∧
      (bitsAt v 30 2 = 2 → at_ < s.work + 50 → ∃ n, exec (.trigArmWrite a t v) o = .next (s.setTrig t { x with pending := true, next := n }) ∧
        s.work + 50 ≤ n ∧ n < s.work + 50 + bitsAt v 96 32 ∧ (n - at_) % bitsAt v 96 32 = 0))) ∧
  (∀ (t : Nat) (s : State), t < 64 →
    (((s.trig t).pending = false ∨ s.work < (s.trig t).next) → exec (.triggerFire t) s = .next s) ∧
    ((s.trig t).pending = true → (s.trig t).next ≤ s.work → s.field.hewers = [] → s.queues = [] → (s.trig t).mode = 2 →
      exec (.triggerFire t) s = .next (s.setTrig t {
        s.trig t with
        fireCount := (s.trig t).fireCount + 1, firedEdge := s.edgeNext, next := (s.trig t).next + (s.trig t).period })) ∧
    ((s.trig t).pending = true → (s.trig t).next ≤ s.work → exec (.triggerFire t) s = .next (fireUnit s t false))) ∧
  (∀ (u : Nat) (r : Bool) (s : State), u < 128 →
    let x := s.capt u
    (edgeSel x.edges r = false → exec (.captureEdge u r) s = .next s) ∧
    (x.seq ≠ 0 → s.lt < x.lastEdge + 2 → exec (.captureEdge u r) s = .next s) ∧
    (edgeSel x.edges r = true → (x.seq = 0 ∨ x.lastEdge + 2 ≤ s.lt) → x.queue = none →
      exec (.captureEdge u r) s = .next (s.setCapt u {
        x with
        seq := (x.seq + 1) % 4294967296, lastEdge := s.lt, waiting := x.waiting.filter (fun t => decide (t > s.lt))
        last := leBytes 16 (s.timeNow % 2 ^ 112 + b2n r * 2 ^ 112 + (x.seq + 1) % 4294967296 % 32768 * 2 ^ 113) })) ∧
    (∀ q, edgeSel x.edges r = true → (x.seq = 0 ∨ x.lastEdge + 2 ≤ s.lt) → x.queue = some q → (s.queue q).enable = false → (s.queue q).opn = none →
      x.waiting = [] → x.overRaised = true →
      ∃ t, exec (.captureEdge u r) s = .next t ∧ (t.capt u).seq = (x.seq + 1) % 4294967296 ∧ (t.capt u).lost = true ∧
        t.ctr cCaptLost u = s.ctr cCaptLost u + 1 ∧ (t.capt u).last = x.last))

/-- CYCLE_START with parameters in range takes units 60 to 63 with PERIOD CYCLE_T and answers the first n whose S_n lies at
least 1 ms ahead (R187, R188); CYCLE_STOP answers the first n not run; IMAGE_MAP_SET makes a map of disjoint local entries
pending from a cycle at least 100 µs ahead (R190); SEG_CFG writes one segment's SEG_PUBLISH and SEG_READERS (R193); IMAGE_SUB
binds the queue's image producer, or removes it with both masks 0 (R195). -/
def Obligations.CycleAndImageCommands : Prop :=
  ∀ (d : Desc) (s : State),
    let t := begins s d.part
    let c := cmdOf t d
    (runs iCycleStart d s = true → (cycleCfgOf c).ok = true → c.u 12 4 < 1000000000 → c.u 16 8 < 2 ^ 48 → t.cycle.running = false →
      (∀ u, 60 ≤ u → u ≤ 63 → t.mayTake u = true) → t.time.valid = true →
      let x := cycleCfgOf c
      ∃ v n, exec (.cycleStart d) s = .next (ends v d stOk (leBytes 8 n)) ∧ t.work + 1000000 ≤ x.base + n * x.t ∧
        (n = 0 ∨ x.base + n * x.t < t.work + 1000000 + x.t) ∧ v.cycle.running = true ∧ v.cycle.cfg = x ∧ v.cycle.startN = some n ∧
        v.time.work = t.time.work ∧ v.queues = t.queues ∧
        (∀ u, 60 ≤ u → u ≤ 63 → (v.trig u).held = true ∧ (v.trig u).mode = 2 ∧ (v.trig u).period = x.t ∧ (v.trig u).pending = true) ∧
        ∀ e ∈ cycleUnits x, (v.trig e.1).next = x.base + n * x.t + e.2) ∧
    (runs iCycleStart d s = true → (cycleCfgOf c).ok = true → c.u 12 4 < 1000000000 → c.u 16 8 < 2 ^ 48 → t.cycle.running = true →
      exec (.cycleStart d) s = .next (ends t d stWrongState)) ∧
    (runs iCycleStop d s = true → t.cycle.running = true → t.cycle.stopAt = none →
      exec (.cycleStop d) s = .next (ends (t.setCycle { t.cycle with stopAt := some t.cycle.next }) d stOk (leBytes 8 t.cycle.next))) ∧
    (runs iCycleStop d s = true → t.cycle.running = false → exec (.cycleStop d) s = .next (ends t d stWrongState)) ∧
    (∀ l, runs iImageMapSet d s = true → c.u 8 2 ≤ 16128 → c.u 10 2 ≤ 1024 → d.bulkLen = 8 * c.u 10 2 → c.owned = true →
      l = entriesOf c.bulk 8 (c.u 10 2) (fun b => ({ kind := leAt b 0 1, sub := leAt b 1 1, off := leAt b 2 2, handle := leAt b 4 4 } : MapEnt)) →
      l.all (MapEnt.ok t d.part (c.u 8 2)) = true → mapDisjoint l = true → t.cycle.running = false →
      exec (.imageMapSet d) s = .next (ends (t.setCycle {
        t.cycle with
        image := { t.cycle.image with pendMaps := [(l, c.u 8 2, 0)] } }) d stOk (leBytes 8 0))) ∧
    (runs iSegCfg d s = true → c.u 8 1 < 16 → c.u 9 1 ≤ 1 →
      exec (.segCfg d) s = .next (ends (t.setCycle {
        t.cycle with
        image := {
          t.cycle.image with
          publish := putBit t.cycle.image.publish (c.u 8 1) (c.u 9 1 == 1), readers := listSet t.cycle.image.readers (c.u 8 1) (c.u 10 2) } }) d stOk)) ∧
    (runs iImageSub d s = true → c.u 8 2 < 4096 → t.owns d.part 5 (c.u 8 2) = true → (t.queue (c.u 8 2)).fwUse = 0 → c.u 10 2 ≠ 0 →
      (t.queue (c.u 8 2)).prod = .none → pairOk (.image d.part) (t.queue (c.u 8 2)).cons = true →
      ∃ v, exec (.imageSub d) s = .next (ends v d stOk) ∧ (v.queue (c.u 8 2)) = { t.queue (c.u 8 2) with prod := .image d.part, lastPop := 0 } ∧
        v.cycle.image.subs = t.cycle.image.subs.filter (fun e => e.queue != c.u 8 2)
          ++ [{ part := d.part, queue := c.u 8 2, nodes := c.u 16 32, segs := c.u 10 2 }]) ∧
    (runs iImageSub d s = true → c.u 8 2 < 4096 → t.owns d.part 5 (c.u 8 2) = true → (t.queue (c.u 8 2)).fwUse = 0 → c.u 10 2 ≠ 0 →
      (t.queue (c.u 8 2)).prod ≠ .none → (t.queue (c.u 8 2)).prod ≠ .image d.part → pairOk (.image d.part) (t.queue (c.u 8 2)).cons = true →
      exec (.imageSub d) s = .next (ends t d stBusy))

/-- GROUP_SET writes the descriptor of a group that is not enabled (here without CTRL.ENABLE), refusing an enabled one with
WRONG_STATE; GROUP_ENABLE starts a written group with no accepted source, or ends it; GROUP_SAFE_SET writes the safe record;
GROUP_STATUS answers bytes 0 to 23 of the status record. Nothing else changes (R197, R198, R204, R212). -/
def Obligations.OutputGroupCommands : Prop :=
  ∀ (d : Desc) (s : State) (g : Nat),
    let t := begins s d.part
    let c := cmdOf t d
    let b := c.bulk
    let x := t.group g
    (∀ items, runs iGroupSet d s = true → localRes t d.part (c.u 8 4) = some (7, g) → t.owns d.part 7 g = true → c.owned = true →
      items = entriesOf (b.drop 32) 8 (leAt b 1 1) (fun e =>
        ({ kind := leAt e 0 1, doff := leAt e 1 1, dlen := leAt e 2 1, handle := leAt e 4 4 } : Item)) →
      1 ≤ leAt b 1 1 → leAt b 1 1 ≤ 32 → d.bulkLen = 32 + 8 * leAt b 1 1 → 1 ≤ leAt b 2 2 → leAt b 2 2 ≤ 256 → 1 ≤ leAt b 4 2 →
      leAt b 4 2 ≤ 1024 → leAt b 6 2 < leAt b 4 2 → 2 ≤ leAt b 8 1 → leAt b 0 1 = 0 → items.all (Item.ok t d.part (leAt b 2 2)) = true →
      itemsClash items (t.driven g) = false → items.all (Item.owned t d.part) = true → leAt b 12 2 ≠ 0 → x.len = leAt b 2 2 →
      (x.enable = false → exec (.groupSet d) s = .next (ends (t.setGroup g {
        x with
        shadowExpect := false, holdEn := false, k := leAt b 4 2, phase := leAt b 6 2, lease := leAt b 8 1
        holdCycles := leAt b 10 2, writers := leAt b 12 2, items := items }) d stOk)) ∧
      (x.enable = true → exec (.groupSet d) s = .next (ends t d stWrongState))) ∧
    (runs iGroupEnable d s = true → localRes t d.part (c.u 8 4) = some (7, g) → t.owns d.part 7 g = true → c.u 12 1 = 1 → x.enable = false →
      itemsClash x.items (t.driven g) = false → x.items ≠ [] →
      exec (.groupEnable d) s = .next (ends (t.setGroup g {
        x with
        enable := true, beginAt := t.work + 10000, accNode := 0, accPart := 0, accTally := 0, epoch := 0, unheard := 0, held := 0
        st := 1, pending := [], resigns := [], shadows := [], decided := [], diverged := false, itemFail := false }) d stOk
        (leBytes 8 (firstGroupCycle t (startGroup t x))))) ∧
    (runs iGroupEnable d s = true → localRes t d.part (c.u 8 4) = some (7, g) → t.owns d.part 7 g = true → c.u 12 1 = 0 →
      exec (.groupEnable d) s = .next (ends (t.setGroup g {
        x with
        enable := false, st := 0, pending := [], resigns := [], shadows := [], decided := [] }) d stOk (leBytes 8 0))) ∧
    (runs iGroupSafeSet d s = true → localRes t d.part (c.u 8 4) = some (7, g) → t.owns d.part 7 g = true → c.owned = true → x.len ≠ 0 →
      d.bulkLen = x.len → exec (.groupSafeSet d) s = .next (ends (t.setGroup g { x with safe := c.bulk.take x.len }) d stOk)) ∧
    (runs iGroupStatus d s = true → localRes t d.part (c.u 8 4) = some (7, g) → t.mayRead d.part 7 g = true → d.bulkLen = 0 → c.owned = true →
      exec (.groupStatus d) s = .next (ends t d stOk (x.record.take 24)))

/-- TWIN_SET with GROUP_COUNT 0 deletes a set that is not enabled and is the issuer's or free, and with a group list defines it
with a SET_DIGEST that is a function of what the set fixes (a free one, log 64); TWIN_ENABLE starts or ends listening;
TWIN_REARM lets sets at rest after a last gasp listen again; TWIN_TAKEOVER makes a standby active; DRILL records n_d and the
next tally, passes them to the partner and completes later; TWIN_STATUS reads; TALLY_REGISTER adds or removes one registration
(R206 to R215). -/
def Obligations.TwinCommands : Prop :=
  ∀ (d : Desc) (s : State),
    let t := begins s d.part
    let c := cmdOf t d
    let x := t.twin (c.u 8 1)
    (runs iTwinSet d s = true → c.u 8 1 < 16 → d.bulkLen = 0 → c.u 18 2 = 0 → c.u 20 2 = 0 → (x.defined = false ∨ x.owner = d.part) → x.enable = false →
      x.maps = [] → exec (.twinSet d) s = .next (ends (t.setTwin (c.u 8 1) {}) d stOk (leBytes 4 0))) ∧
    (∀ l, runs iTwinSet d s = true → c.u 8 1 < 16 → d.bulkLen = 4 * c.u 18 2 → 1 ≤ c.u 18 2 → c.u 18 2 ≤ 512 → c.u 20 2 = 0 → 1 ≤ c.u 9 1 →
      c.u 9 1 ≤ 250 → c.u 10 1 ≤ 1 → 2 ≤ c.u 11 1 → c.u 11 1 ≤ 255 → 1 ≤ c.u 12 2 → c.u 12 2 ≤ 65534 → 1 ≤ c.u 14 2 → c.u 14 2 ≤ 1024 →
      c.u 16 2 < c.u 14 2 → l = entriesOf c.bulk 4 (c.u 18 2) (fun b => (leAt b 0 1, leAt b 2 2)) →
      l.all (pairFits t (c.u 14 2) (c.u 16 2)) = true → (x.defined = false ∨ x.owner = d.part) → c.owned = true →
      l.all (fun e => !t.isLocal e.1 || t.owns d.part 7 e.2) = true → x.enable = false → x.maps = [] →
      let y : TwinSet := { defined := true, partner := c.u 9 1, prefActive := c.u 10 1 == 0, lease := c.u 11 1, tally := c.u 12 2, k := c.u 14 2,
                           phase := c.u 16 2, groups := l, owner := d.part }
      exec (.twinSet d) s = .next (ends (t.setTwin (c.u 8 1) y) d stOk (leBytes 4 (t.setDigest y)))) ∧
    (runs iTwinEnable d s = true → c.u 8 1 < 16 → x.defined = true → x.owner = d.part → c.u 9 1 = 0 →
      exec (.twinEnable d) s = .next (ends (t.setTwin (c.u 8 1) { x with enable := false, role := 0, nextRole := none, drillAt := none }) d stOk)) ∧
    (runs iTwinEnable d s = true → c.u 8 1 < 16 → x.defined = true → x.owner = d.part → c.u 9 1 = 1 → x.enable = false →
      exec (.twinEnable d) s = .next (ends (t.setTwin (c.u 8 1) {
        x with
        enable := true, role := if t.cycle.needRearm then 4 else 1, useTally := 0, heardTally := 0, lastTally := 0, heardIn := []
        partnerSeen := false, silent := 0, listen := 0, nextRole := none, drillAt := none }) d stOk)) ∧
    (runs iTwinRearm d s = true → c.u 8 1 < 16 → d.part = 0 → t.cycle.needRearm = true → x.role = 4 →
      (∀ k, k < 16 → k ≠ c.u 8 1 → (t.twin k).role ≠ 4) → ∃ v, exec (.twinRearm d) s = .next (ends v d stOk) ∧
        v.twin (c.u 8 1) = { x with role := 1, silent := 0, listen := 0, partnerSeen := false, nextRole := none } ∧ v.cycle.needRearm = false ∧ ∀ k, k ≠ c.u 8 1 → v.twin k = t.twin k) ∧
    (runs iTwinTakeover d s = true → c.u 8 1 < 16 → x.defined = true → x.owner = d.part → x.role = 3 → x.heardTally < 0xFFFF →
      exec (.twinTakeover d) s = .next (ends (t.setTwin (c.u 8 1) {
        x with
        role := 2, useTally := x.heardTally + 1, silent := 0, nextRole := none }) d stOk)) ∧
    (runs iTwinTakeover d s = true → c.u 8 1 < 16 → x.defined = true → x.owner = d.part → x.role ≠ 3 →
      exec (.twinTakeover d) s = .next (ends t d stWrongState)) ∧
    (runs iDrill d s = true → c.u 8 1 < 16 → x.defined = true → x.owner = d.part → x.role = 2 → ofCycle x.k x.phase (c.u 16 8) = true →
      firstOf x.k x.phase (t.cycleNow + 1) + x.k ≤ c.u 16 8 → x.inUse < 0xFFFF →
      let v := sendHandoff (t.setTwin (c.u 8 1) {
        x with
        drillAt := some (c.u 16 8), drillTally := x.inUse + 1, drillTag := some (d.part, d.tag), drillFrom := false, drillSent := t.lt })
        (c.u 8 1) (x.inUse + 1) (c.u 16 8) false
      exec (.drill d) s = .next (v.setPart d.part { v.part d.part with
        cmds := (v.part d.part).cmds ++
        [{ part := d.part, opcode := 0x080D, desc := d, bulk := c.bulk, async := false, gone := true, begun := true, service := true,
           due := v.lt }] })) ∧
    (runs iTwinStatus d s = true → c.u 8 1 < 16 → x.defined = true → x.owner = d.part →
      exec (.twinStatus d) s = .next (ends t d stOk
        (resOf [(0, 1, x.role), (2, 2, x.inUse), (4, 2, x.lastTally), (8, 4, t.setDigest x), (16, 8, x.lastSent)]))) ∧
    (runs iTallyRegister d s = true → c.u 8 1 ≤ 250 → c.u 9 1 = 0 → c.u 10 2 < 512 → 1 ≤ c.u 12 2 → t.cycle.regs.length < 512 →
      exec (.tallyRegister d) s = .next (ends (t.setCycle {
        t.cycle with
        regs := t.cycle.regs.filter (fun r => !(r.part == d.part && r.node == c.u 8 1 && r.group == c.u 10 2))
          ++ [{ part := d.part, node := c.u 8 1, group := c.u 10 2, tally := c.u 12 2 }] }) d stOk)) ∧
    (runs iTallyRegister d s = true → c.u 8 1 ≤ 250 → c.u 9 1 = 1 → c.u 10 2 < 512 → 1 ≤ c.u 12 2 → t.cycle.regs = [] →
      exec (.tallyRegister d) s = .next (ends t d stWrongState))

/-- None of the five acts before its instant or while the cycle does not run. A due SNAPSHOT latches the image, or ends the
cycle when CYCLE_STOP named it; while the working clock is not valid nothing is latched, published or applied (R188). The
assembled image becomes the view whole (R193). At a due PUBLISH the segments that firmware has committed are published and the
others counted in IMAGE_NOT_BUILT (R194); a due DEADLINE and APPLY evaluate every group in one of its own cycles. An off-cycle
IMAGE_IN is counted and delivered to no one (R195). -/
def Obligations.CycleInstants : Prop :=
  (∀ (s : State), s.cycle.running = false →
    exec .snapshot s = .next s ∧ exec .publish s = .next s ∧ exec .deadline s = .next s ∧ exec .apply s = .next s) ∧
  (∀ (s : State), s.cycle.running = true →
    let y := s.cycle
    let n := y.next
    (s.work < y.snap n → exec .snapshot s = .next s) ∧
    (∀ k, y.snap n ≤ s.work → y.stopAt = some k → k ≤ n → exec .snapshot s = .next (endCycle s)) ∧
    (y.snap n ≤ s.work → y.stopAt = none → s.time.valid = false → exec .snapshot s = .next s) ∧
    (y.snap n ≤ s.work → y.stopAt = none → s.time.valid = true → y.image.pendMaps = [] → s.crush.maps = [] →
      (∀ k, (s.twin k).defined = false ∧ (s.twin k).drillTag = none) → ∃ t, exec .snapshot s = .next t ∧ t.cycle.last = n ∧ t.cycle.begun = true ∧ t.cycle.startN = none ∧
        t.cycle.toPublish = y.toPublish ++ [n] ∧ t.cycle.toDeadline = y.toDeadline ++ [n] ∧ t.cycle.toApply = y.toApply ++ [n] ∧
        t.queues = s.queues ∧ t.out = s.out) ∧
    (∀ k r, y.toPublish = k :: r → s.work < y.pub k → exec .publish s = .next s) ∧
    (∀ k r, y.toPublish = k :: r → y.pub k ≤ s.work → s.time.valid = false → exec .publish s = .next (s.setCycle { y with toPublish := r })) ∧
    (∀ k r, y.toPublish = k :: r → y.pub k ≤ s.work → s.time.valid = true → (y.image.work.isSome = true ∨ y.image.view.cycle ≠ k) →
      exec .publish s = .next ((s.setCycle { y with toPublish := r }).count cImageNotBuilt 0 (y.image.published y.image.size).length)) ∧
    (∀ k r, y.toPublish = k :: r → y.pub k ≤ s.work → s.time.valid = true → y.image.work = none → y.image.view.cycle = k →
      let segs := y.image.published y.image.view.size
      let go := segs.filter (fun j => bitAt y.image.built j)
      let u := (s.setCycle { y with toPublish := r }).count cImageNotBuilt 0 (segs.length - go.length)
      exec .publish s = .next (u.setCycle {
        u.cycle with
        image := { u.cycle.image with view := { y.image.view with segOk := listMask go }, built := 0 } })) ∧
    (∀ n, y.image.published n = if n = 0 then [0] else (List.range (segCount n)).filter (fun j => bitAt y.image.publish j)) ∧
    (∀ k r, y.toDeadline = k :: r → s.work < y.dl k → exec .deadline s = .next s) ∧
    (∀ k r, y.toDeadline = k :: r → y.dl k ≤ s.work → y.groups = [] → s.crush.maps = [] → (∀ t, (s.twin t).defined = false ∧ (s.twin t).drillTag = none) →
      exec .deadline s = .next (s.setCycle { y with toDeadline := r })) ∧
    (∀ k r, y.toApply = k :: r → s.work < y.ap k → exec .apply s = .next s) ∧
    (∀ k r, y.toApply = k :: r → y.ap k ≤ s.work → s.time.valid = false → exec .apply s = .next (s.setCycle { y with toApply := r })) ∧
    (∀ k r, y.toApply = k :: r → y.ap k ≤ s.work → s.time.valid = true → y.groups = [] →
      exec .apply s = .next (s.setCycle { y with toApply := r }))) ∧
  (∀ (s : State), s.cycle.image.work = none → exec .imageAssembled s = .next s) ∧
  (∀ (s : State) w, s.cycle.image.work = some w → s.crush.maps = [] → s.cycle.image.map = [] → ∃ t, exec .imageAssembled s = .next t ∧
    t.cycle.image.view = w ∧ t.cycle.image.work = none ∧ t.crush.work.length = s.crush.work.length + segCount w.size) ∧
  (∀ (s : State) (g n : Nat), (s.group g).enable = false → groupDeadline s g n = s ∧ groupApply s g n = s) ∧
  (∀ (s : State) (g n : Nat), s.groupLive g = true → ofCycle (s.group g).k (s.group g).phase n = true → (s.group g).beginAt ≤ s.cycle.dl n →
    (s.group g).pending = [] → (s.group g).resigns.contains n = false → (s.group g).accTally = 0 →
    (groupDeadline s g n).group g = { s.group g with shadows := (s.group g).shadows.filter (fun h => decide (h.n > n))
                                                     resigns := (s.group g).resigns.filter (fun k => decide (k > n)) }) ∧
  (∀ (s : State) (g n : Nat), s.groupLive g = true → ofCycle (s.group g).k (s.group g).phase n = true → (s.group g).beginAt ≤ s.cycle.dl n →
    (s.group g).decided = [] → (s.group g).pending = [] → (s.group g).holdEn = false →
    groupApply s g n = (s.setGroup g {
      s.group g with
      held := satNat 0xFFFF ((s.group g).held + 1), st := if (s.group g).st = 2 then 3 else (s.group g).st }).count cHeldCycles g) ∧
  (∀ (f : GrtFrame) (r : State), r.passThrough = false → bitsAt f.hdr.flags 6 2 = 1 → f.hdr.typ = tImageIn → grtLenOk f = true → r.fromNode f = true →
    16 ≤ f.payload.length → infoAt f.hdr 20 2 < 16 →
    let s := takeFromQueue r 8 f
    let n := fullCycle s.cycleNow (infoAt f.hdr 16 4)
    (s.cycle.running = true → (n + 16 < s.cycleNow ∨ s.cycleNow + 1 < n) → s.cycle.image.offRaised.contains f.hdr.srcNode = true →
      exec (.imageIn f) r = .next (s.count cImageOffCycle 0)) ∧
    (s.cycle.running = true → s.cycleNow ≤ n + 16 → n ≤ s.cycleNow + 1 → s.cycle.image.subs = [] →
      ∃ t, exec (.imageIn f) r = .next t ∧ t.queues = s.queues ∧ t.counters = s.counters ∧ t.crush.work = s.crush.work ++
        [{ kind := 2, unit := f.hdr.srcNode, segment := infoAt f.hdr 20 2, cycle := n + 1, payload := f.payload.drop 16, atNs := s.work, atLt := s.lt, seq := s.pool.commits }]))

/-- A record of a source that may not write, for no cycle of the group or after its deadline is discarded and counted (R201),
and one for which the pool has no cell is lost (R21; log 77). The tally rules of R202: a higher tally takes over, the accepted
source keeps the group at its own tally or above, a lower or equal tally of another source is counted, a resign only marks its
cycle. STAGE_DATA goes into the writer's open record, STAGE_COMMIT ends it, ABORT and 1 ms discard it (R200). Frames that do not
name this node only teach its twin sets. Listening ends after LEASE set cycles (R206); a drill reaches the partner, which
acknowledges it, or is acknowledged in the completion timeout (R215; how the messages travel is log 78). -/
def Obligations.OutputDataArrives : Prop :=
  (∀ (s : State) (g node part tally n : Nat) (data : List Byte),
    (∀ l v, stageCells s [] data.length = some (l, v) → onData s g node part tally n data = takeData v g node part tally n data l) ∧
    (stageCells s [] data.length = none → onData s g node part tally n data = s.count cDropPool 0)) ∧
  (∀ (s : State) (g node part tally n : Nat) (data : List Byte) (cells : List Nat), node ≠ 0 →
    let x := s.group g
    let rec_ : Rec := { n := n, node := node, part := part, data := data, cells := cells }
    let u := takeData s g node part tally n data cells
    (x.accNode = node → x.accPart = part → 0 < tally → tally < x.accTally → u = s.count cTallyLow g) ∧
    (x.accNode = node → x.accPart = part → 0 < tally → x.accTally ≤ tally → u = s.setGroup g {
      x with
      accTally := tally, pending := (x.pending.filter (fun r => r.n != n)) ++ [rec_] }) ∧
    ((x.accNode ≠ node ∨ x.accPart ≠ part) → 0 < tally → tally ≤ x.accTally → u = s.count cTallyRefused g) ∧
    ((x.accNode ≠ node ∨ x.accPart ≠ part) → x.accTally < tally → ∃ t, u = raise t (srcGroup g) 1 0 ∧
      t.ctr cTakeovers g = s.ctr cTakeovers g + 1 ∧ t.group g = {
        x with
        accNode := node, accPart := part, accTally := tally, epoch := (x.epoch + 1) % 4294967296
        pending := (x.pending.filter (fun r => r.n != n)) ++ [rec_] }) ∧
    ((x.accNode ≠ node ∨ x.accPart ≠ part) → tally = 0 → u = s) ∧
    (x.accNode = node → x.accPart = part → tally = 0 → u = s.setGroup g { x with resigns := (x.resigns.filter (· != n)) ++ [n] })) ∧
  (∀ (s : State) (g part n : Nat) (f : State → State),
    (bitAt (s.group g).writers part = false → offer s g part n f = s.count cGroupRefused g) ∧
    (bitAt (s.group g).writers part = true → ((s.group g).enable = false ∨ s.cycle.running = false ∨ n < s.cycle.first ∨ s.cycleNow + 16 < n) →
      offer s g part n f = s.count cBadCycle g) ∧
    (bitAt (s.group g).writers part = true → (s.group g).enable = true → s.cycle.running = true → s.cycle.first ≤ n → n ≤ s.cycleNow + 16 →
      ofCycle (s.group g).k (s.group g).phase n = true → (s.group g).beginAt ≤ s.cycle.dl n → s.cycle.dl n ≤ s.work →
      offer s g part n f = s.count cLateData g)) ∧
  (∀ (a : Acc) (p g : Nat) (o : State), g < 512 → o.boot.rescue = false → o.who a = some p → o.isOpen p = true → (o.part p).ktx22 = false →
    let s := o.arrived a cAttWrites
    let mine := fun (r : StageRec) => r.node == srcNode s a && r.part == p && r.group == g
    (∀ off (d : List Byte), off + d.length ≤ 256 → s.cycle.stages.any mine = false → s.cycle.stages.length < 1024 →
      (∀ l v, stageCells s [] (off + d.length) = some (l, v) →
        exec (.stageDataWrite a g off d) o = .next (v.setCycle { v.cycle with
          stages := s.cycle.stages ++
          [{ node := srcNode s a, part := p, group := g, openedAt := s.lt, data := memWrite [] off d, cells := l }] })) ∧
      (stageCells s [] (off + d.length) = none → exec (.stageDataWrite a g off d) o = .next (s.count cStageFull 0))) ∧
    (∀ r off (d : List Byte), off + d.length ≤ 256 → s.cycle.stages = [r] → mine r = true → ∀ l v, stageCells s r.cells (off + d.length) = some (l, v) →
      exec (.stageDataWrite a g off d) o = .next (v.setCycle { v.cycle with stages := [{ r with data := memWrite r.data off d, cells := l }] })) ∧
    (∀ off (d : List Byte), off + d.length ≤ 256 → s.cycle.stages.any mine = false → 1024 ≤ s.cycle.stages.length →
      exec (.stageDataWrite a g off d) o = .next (s.count cStageFull 0)) ∧
    (∀ r v, s.cycle.stages = [r] → mine r = true → bitAt v 63 = true →
      exec (.stageCommit a g v) o = .next (s.setCycle { s.cycle with stages := [] })) ∧
    (∀ r v, s.cycle.stages = [r] → mine r = true → bitAt v 63 = false → bitAt v 62 = false → bitsAt v 32 16 ≠ 0 → bitsAt v 48 9 ≠ (s.group g).len →
      exec (.stageCommit a g v) o = .next ((s.setCycle { s.cycle with stages := [] }).count cBadLen g)) ∧
    (∀ r v, s.cycle.stages = [r] → mine r = true → bitAt v 63 = false → bitAt v 62 = false → bitsAt v 32 16 ≠ 0 → bitsAt v 48 9 = (s.group g).len →
      let t := s.setCycle { s.cycle with stages := [] }
      let n := fullCycle s.cycleNow (bitsAt v 0 32)
      let b := memRead r.data 0 (s.group g).len
      exec (.stageCommit a g v) o = .next (offer t g p n (fun t => match stageCells t r.cells (s.group g).len with
        | some (l, u) => takeData u g (srcNode s a) p (bitsAt v 32 16) n b l
        | none => t.count cDropPool 0))) ∧
    (∀ r v, s.cycle.stages = [r] → mine r = true → bitAt v 63 = false → bitAt v 62 = true → bitsAt v 48 9 = (s.group g).len →
      let n := fullCycle s.cycleNow (bitsAt v 0 32)
      exec (.stageCommit a g v) o = .next (offer (s.setCycle { s.cycle with stages := [] }) g p n (fun t =>
        onShadow t g (srcNode s a) p n (crc32 (memRead r.data 0 (s.group g).len)) (s.group g).len))) ∧
    (∀ r, s.cycle.stages = [r] → mine r = true → exec (.stageAbort a g) o = .next (s.setCycle { s.cycle with stages := [] }))) ∧
  (∀ (s : State) (node part g : Nat) (r : StageRec), s.cycle.stages = [r] → r.node = node → r.part = part → r.group = g →
    (s.lt < r.openedAt + 1000000 → exec (.stageRecordExpiry node part g) s = .next s) ∧
    (r.openedAt + 1000000 ≤ s.lt → exec (.stageRecordExpiry node part g) s = .next (s.setCycle { s.cycle with stages := [] }))) ∧
  (∀ (f : GrtFrame) (r : State), r.passThrough = false → bitsAt f.hdr.flags 6 2 = 1 → grtLenOk f = true → r.fromNode f = true →
    let s := takeFromQueue r 8 f
    let n := fullCycle s.cycleNow (infoAt f.hdr 16 4)
    let g := infoAt f.hdr 20 2
    let tally := infoAt f.hdr 22 2
    s.partnerSets f.hdr.srcNode = [] →
    (f.hdr.addr.node ≠ s.ring.node → (f.hdr.typ = tImageOut → exec (.imageOut f) r = .next s) ∧
      (f.hdr.typ = tShadow → exec (.shadow f) r = .next s) ∧ (f.hdr.typ = tResign → exec (.resign f) r = .next s)) ∧
    (f.hdr.addr.node = s.ring.node → s.ring.node ≠ 0 → g < 512 →
      (f.hdr.typ = tImageOut → f.payload.length = (s.group g).len → exec (.imageOut f) r =
        .next (offer s g f.hdr.srcPart n (fun t => onData t g f.hdr.srcNode f.hdr.srcPart tally n f.payload))) ∧
      (f.hdr.typ = tShadow → exec (.shadow f) r = .next (offer s g f.hdr.srcPart n (fun t =>
        onShadow t g f.hdr.srcNode f.hdr.srcPart n (beAt f.payload 0 4) (beAt f.payload 4 2)))) ∧
      (f.hdr.typ = tResign → exec (.resign f) r = .next (offer s g f.hdr.srcPart n (fun t =>
        onData t g f.hdr.srcNode f.hdr.srcPart 0 n []))))) ∧
  (∀ (s : State) (k : Nat), k < 16 →
    let x := s.twin k
    ((x.role ≠ 1 ∨ x.listen < x.lease) → exec (.twinListenEnd k) s = .next s) ∧
    (x.defined = true → x.enable = true → x.role = 1 → x.lease ≤ x.listen → (x.nextRole = some 3 ∨ x.prefActive = false) →
      exec (.twinListenEnd k) s = .next (s.setTwin k { x with role := 3, silent := 0, nextRole := none })) ∧
    (x.defined = true → x.enable = true → x.role = 1 → x.lease ≤ x.listen → x.nextRole ≠ some 3 → x.prefActive = true →
      exec (.twinListenEnd k) s = .next (s.setTwin k { x with role := 2, useTally := x.tally, nextRole := none })) ∧
    (∀ tally n, x.defined = true → x.enable = true → x.role = 3 → x.drillTag = none → exec (.drillHandoff k tally n false) s =
      .next (sendHandoff (s.setTwin k { x with drillAt := some n, drillTally := tally, drillFrom := false, drillTag := none }) k tally n true)) ∧
    (∀ tally n, x.role ≠ 3 → x.drillTag = none → exec (.drillHandoff k tally n false) s = .next s) ∧
    (∀ tally n, x.drillTag = none → exec (.drillHandoff k tally n true) s = .next s) ∧
    (∀ tally n p tag, x.drillTag = some (p, tag) → s.lt < x.drillSent + s.ring.cplTimeout * 100000 →
      (x.drillAt = some n → x.drillTally = tally → exec (.drillHandoff k tally n true) s =
        .next (finishBegun (s.setTwin k { x with drillTag := none, drillFrom := true }) p 0x080D tag stOk [])) ∧
      ((x.drillAt ≠ some n ∨ x.drillTally ≠ tally) → exec (.drillHandoff k tally n true) s = .next s)) ∧
    (∀ tally n p tag, x.drillTag = some (p, tag) → x.drillSent + s.ring.cplTimeout * 100000 ≤ s.lt →
      exec (.drillHandoff k tally n true) s =
        .next (finishBegun (s.setTwin k { x with drillTag := none, drillAt := none, drillFrom := false }) p 0x080D tag stTimeout [])))

/-- On a channel the issuer owns: CAN_CFG with parameters in range writes them, fields marked † only while OFF (R218); CAN_MODE
takes effect at once on an idle bus, clearing TEC and REC when it leaves OFF (with ERROR_ACTIVE where that ends error-passive)
and starting integration, waits behind a frame in progress, and is WRONG_STATE in bus-off except to OFF (R222); CAN_QUEUE_BIND
binds the receive queue or the first free subscriber slot (R228); CAN_TX_BUF fills an empty buffer, is BUSY on a PENDING one
without REPLACE and on a firmware buffer, and with REPLACE stores a frame behind one on the bus; CAN_TX_ABORT empties PENDING
buffers and marks those on the bus (R230); CAN_STATUS answers the record (R236); TP_CFG, ACL_CFG and TUNNEL_SET configure the
services (R237, R240, R242) and ACL_STATUS reads the agent. -/
def Obligations.CanChannelCommands : Prop :=
  ∀ (d : Desc) (s : State) (ch : Nat),
    let t := begins s d.part
    let c := cmdOf t d
    let x := t.chan ch
    let b := c.bytes 16 16
    let i := c.u 12 1
    localRes t d.part (c.u 8 4) = some (1, ch) → t.owns d.part 1 ch = true →
    (runs iCanCfg d s = true → (canCfgOf c).ok = true → (x.mode = 0 ∨ canCfgOf c = x.cfg.daggered (canCfgOf c)) →
      exec (.canCfg d) s = .next (ends (t.putChan ch { x with cfg := canCfgOf c }) d stOk)) ∧
    (runs iCanCfg d s = true → (canCfgOf c).ok = true → x.mode ≠ 0 → canCfgOf c ≠ x.cfg.daggered (canCfgOf c) →
      exec (.canCfg d) s = .next (ends t d stWrongState)) ∧
    (runs iCanCfg d s = true → (canCfgOf c).ok = false → exec (.canCfg d) s = .next (ends t d stBadParam)) ∧
    (runs iCanMode d s = true → i ≤ 5 → (i = 5 → (t.part d.part).ktx22 = true) → x.busOff = false → x.busy = true →
      exec (.canMode d) s = .next (ends (t.setChan ch { x with pendMode := some i }) d stOk)) ∧
    (runs iCanMode d s = true → i ≤ 5 → (i = 5 → (t.part d.part).ktx22 = true) → x.busOff = false → x.busy = false → i ≠ x.mode → i ≠ 0 →
      let y := {
        x with
        mode := i, pendMode := none, integrating := true
        tec := if x.mode = 0 then 0 else x.tec, recv := if x.mode = 0 then 0 else x.recv }
      exec (.canMode d) s = .next (ends (errEvents (t.putChan ch y) ch x y) d stOk)) ∧
    (runs iCanMode d s = true → i = 0 → x.busy = false → x.mode ≠ 0 → t.sessions ch = [] →
      exec (.canMode d) s = .next (ends (t.putChan ch { x with mode := 0, pendMode := none, integrating := false }) d stOk)) ∧
    (runs iCanMode d s = true → i ≤ 4 → i ≠ 0 → x.busOff = true → exec (.canMode d) s = .next (ends t d stWrongState)) ∧
    (runs iCanMode d s = true → i = 5 → (t.part d.part).ktx22 = false → exec (.canMode d) s = .next (ends t d stDenied)) ∧
    (∀ q, runs iCanQueueBind d s = true → i = 0 → c.u 13 1 = 0 → c.u 14 2 < 4096 → t.viewQueue d.part (c.u 14 2) = some q →
      t.owns d.part 5 q = true → (t.queue q).fwUse = 0 → x.rxq = none → (t.queue q).prod = .none → pairOk (.can ch) (t.queue q).cons = true →
      exec (.canQueueBind d) s = .next (ends ((t.setChan ch { x with rxq := some q }).setQueue q { t.queue q with prod := .can ch, lastPop := 0 }) d stOk)) ∧
    (∀ q j, runs iCanQueueBind d s = true → i = 1 → c.u 13 1 = 0 → c.u 14 2 < 4096 → t.viewQueue d.part (c.u 14 2) = some q →
      t.owns d.part 5 q = true → (t.queue q).fwUse = 0 → x.freeSlot = some j → (t.queue q).prod = .none → pairOk (.can ch) (t.queue q).cons = true →
      t.mayRead d.part 1 ch = true → exec (.canQueueBind d) s = .next (ends ((t.setChan ch {
        x with
        slots := listSet x.slots j (some q) }).setQueue q { t.queue q with prod := .can ch, lastPop := 0 }) d stOk (leBytes 1 j))) ∧
    (∀ q, runs iCanQueueBind d s = true → i = 1 → c.u 13 1 = 0 → c.u 14 2 < 4096 → t.viewQueue d.part (c.u 14 2) = some q →
      t.owns d.part 5 q = true → (t.queue q).fwUse = 0 → x.freeSlot = none → (t.queue q).prod = .none → pairOk (.can ch) (t.queue q).cons = true →
      t.mayRead d.part 1 ch = true → exec (.canQueueBind d) s = .next (ends t d stNoResource)) ∧
    (runs iCanTxBuf d s = true → i < 32 → descClean b = true → x.cfg.accepts (frameOfDesc b (c.bytes 32 24)) = true → c.u 13 1 ≤ 1 →
      descLen b ≤ 24 → ((c.bytes 32 24).drop (descLen b)).all (· == 0) = true → d.bulkLen = 0 → c.owned = true →
      let f := frameOfDesc b (c.bytes 32 24)
      let e := tblGetD x.bufs i {}
      let note := bitAt d.flags 1
      (x.fwBuf i = true → exec (.canTxBuf d) s = .next (ends t d stBusy)) ∧
      (e.frame.isSome = true → c.u 13 1 = 0 → exec (.canTxBuf d) s = .next (ends t d stBusy)) ∧
      (x.fwBuf i = false → e.onBus = false → (e.frame = none ∨ c.u 13 1 = 1) → exec (.canTxBuf d) s = .next (ends (t.setChan ch {
        x with
        bufs := tblSet x.bufs i { frame := some f, notify := note, since := t.lt } }) d stOk)) ∧
      (x.fwBuf i = false → e.onBus = true → c.u 13 1 = 1 → exec (.canTxBuf d) s = .next (ends (t.setChan ch {
        x with
        bufs := tblSet x.bufs i { e with next := some (f, note, t.lt), abort := false } }) d stOk))) ∧
    (∀ k e, runs iCanTxAbort d s = true → x.bufs = [(k, e)] → e.frame.isSome = true → x.fwBuf k = false → bitAt (c.u 12 4) k = true →
      (e.onBus = false → exec (.canTxAbort d) s = .next (ends (t.setChan ch { x with bufs := [] }) d stOk (leBytes 4 (listMask [k]) ++ leBytes 4 0))) ∧
      (e.onBus = true → exec (.canTxAbort d) s = .next (ends (t.setChan ch { x with bufs := [(k, { e with abort := true, next := none })] }) d stOk
        (leBytes 4 0 ++ leBytes 4 (listMask [k]))))) ∧
    (runs iCanStatus d s = true → t.mayRead d.part 1 ch = true → exec (.canStatus d) s = .next (ends t d stOk
      (leBytes 2 x.tec ++ leBytes 1 x.recv ++ leBytes 1 (if x.busOff then 2 else if x.integrating then 3 else b2n x.passive) ++ leBytes 1 x.mode
        ++ leBytes 1 x.lec ++ leBytes 2 x.recovery ++ leBytes 4 (listMask ((x.bufs.filter (fun e => e.2.frame.isSome)).map Prod.fst))
        ++ leBytes 1 x.timed.length ++ zeros 3))) ∧
    (runs iTpCfg d s = true → 1 ≤ c.u 13 1 → (i = 1 ∧ x.hostIn30 = false ∨ i = 0 ∧ t.sessions ch = []) →
      exec (.tpCfg d) s = .next (ends (t.setChan ch { x with tpEn := i == 1, ctsPackets := c.u 13 1 }) d stOk)) ∧
    (runs iTpCfg d s = true → 1 ≤ c.u 13 1 → i = 1 → x.hostIn30 = true → exec (.tpCfg d) s = .next (ends t d stBusy)) ∧
    (runs iAclCfg d s = true → c.u 13 1 ≤ 253 → bitAt (c.u 16 8) 63 = false → i = 0 → exec (.aclCfg d) s = .next (ends (t.setChan ch {
      x with
      claim := { x.claim with enable := false, name := c.u 16 8, pref := c.u 13 1, lo := c.u 14 1, hi := c.u 15 1, st := 0, addr := 254 } }) d stOk)) ∧
    (runs iAclCfg d s = true → c.u 13 1 ≤ 253 → (bitAt (c.u 16 8) 63 = true → c.u 14 1 ≤ c.u 15 1 ∧ c.u 15 1 ≤ 253) → i = 1 → x.hostIn30 = false →
      (tblGetD x.bufs 30 {}).frame = none → x.fwq = [] → exec (.aclCfg d) s = .next (ends (t.setChan ch {
        x with
        bufs := tblSet x.bufs 30 { frame := some (svcFrame 6 0xEE 0xFF (c.u 13 1) (leBytes 8 (c.u 16 8))), since := t.lt }
        claim := {
          x.claim with
          enable := true, name := c.u 16 8, pref := c.u 13 1, lo := c.u 14 1, hi := c.u 15 1, st := 1, addr := c.u 13 1, claimAt := t.lt
          bus := tblSet x.claim.bus (c.u 13 1) (c.u 16 8) } }) d stOk)) ∧
    (runs iAclStatus d s = true → t.mayRead d.part 1 ch = true → d.bulkLen = 0 → c.owned = true → exec (.aclStatus d) s = .next (ends t d stOk
      (leBytes 1 (if x.claim.st = 0 then 255 else x.claim.addr) ++ leBytes 1 x.claim.st))) ∧
    (runs iTunnelSet d s = true → i ≤ 250 → c.u 13 1 < 24 → c.u 16 4 ≤ 100000 → c.u 20 4 ≤ 1000 → ∀ j,
      (i = 0 → exec (.tunnelSet d) s = .next (ends (t.setChan ch {
        x with
        tunnel := none, slots := x.slots.map (fun v => if v = some 4097 then none else v) }) d stOk)) ∧
      (i ≠ 0 → x.tunnel.isSome = true → exec (.tunnelSet d) s = .next (ends t d stBusy)) ∧
      (i ≠ 0 → x.tunnel = none → x.freeSlot = none → exec (.tunnelSet d) s = .next (ends t d stNoResource)) ∧
      (i ≠ 0 → x.tunnel = none → x.freeSlot = some j → exec (.tunnelSet d) s = .next (ends (t.setChan ch {
        x with
        slots := listSet x.slots j (some 4097)
        tunnel := some { remote := i, rchan := c.u 13 1, delay := c.u 16 4, batch := c.u 20 4 } }) d stOk)))

/-- A valid frame of another node lowers REC where the counters follow the bus and is committed to the receive queue as one
record, or counted as lost (R223, R225, R228, R234); a receive error raises REC and its counter (R234); a transmit error that
drives TEC past 255 makes the channel bus-off with every pending frame kept; an error, a protocol exception and a mode change
abort the records that were opened for the frame (R107, R223); 128 sequences of 11 recessive bits return it with TEC and REC 0,
fewer are counted (R235); a format the channel does not handle starts a protocol exception with PEX 1 (R219); integration ends
after 11 recessive bits, and a mode that waited takes effect (R222). -/
def Obligations.CanBusEvents : Prop :=
  (∀ (ch : Nat) (f : CanFrame) (s : State) (stamp : Nat), ch < 24 →
    let x := s.chan ch
    let t := s.putChan ch { x with recv := if x.counting then x.recv - 1 else x.recv, busy := false, sof := none, rxXl := false, lec := 0 }
    x.takesPart = true → x.mode ≠ 3 → x.ownOnBus = false → x.cfg.handles f = true → f.data.length ≤ 2048 → (f.xl = true → f.data ≠ []) →
    x.passive = false → x.slots = [none, none, none, none] → x.tpEn = false → x.claim.enable = false → x.sof = some stamp →
    (x.rxq = none → exec (.canFrameReceived ch f) s = .next t) ∧
    (∀ q v, x.rxq = some q → putPacket t q (canRecord false f stamp false false (s.queue q).lostBefore false x.lec) 0 false = (v, true) →
      exec (.canFrameReceived ch f) s = .next ((v.count cCanRxFrames ch).count cCanRxBytes ch (canLen f))) ∧
    (∀ q v, x.rxq = some q → putPacket t q (canRecord false f stamp false false (s.queue q).lostBefore false x.lec) 0 false = (v, false) →
      (s.queue q).lostBefore = true → exec (.canFrameReceived ch f) s = .next ((v.setQueue q { v.queue q with lostBefore := true }).count cRxLostRx ch))) ∧
  (∀ (ch kind step : Nat) (s : State), ch < 24 →
    let x := s.chan ch
    x.takesPart = true → x.mode = 1 → 1 ≤ kind → kind ≤ 6 →
    (x.ownOnBus = false → x.recv + (if step ≥ 8 then 8 else 1) < 96 → x.tec < 96 → exec (.canError ch kind false step) s =
      .next ((abortRecords (s.count (cErrOf kind) ch) ch).putChan ch {
        x with
        busy := false, sof := none, rxXl := false, lec := kind, recv := x.recv + (if step ≥ 8 then 8 else 1) })) ∧
    (x.ownOnBus = true → step ≠ 0 → 248 ≤ x.tec → x.tec ≤ 255 → s.sessions ch = [] → ∃ v, exec (.canError ch kind true step) s = .next v ∧
      (v.chan ch).busOff = true ∧ (v.chan ch).recovery = 0 ∧ (v.chan ch).tec = x.tec + 8 ∧ (v.chan ch).recv = x.recv ∧
      (v.chan ch).timed = x.timed.map (fun e => { e with onBus := false }) ∧
      ∀ i e, tblGet x.bufs i = some e → e.abort = false → e.next = none → tblGet (v.chan ch).bufs i = some { e with onBus := false })) ∧
  (∀ (ch n : Nat) (s : State), ch < 24 →
    let x := s.chan ch
    (x.busOff = false → exec (.busReturn ch n) s = .next s) ∧
    (x.busOff = true → x.recovery + n < 128 → exec (.busReturn ch n) s = .next (s.setChan ch { x with recovery := x.recovery + n })) ∧
    (x.busOff = true → 128 ≤ x.recovery + n → exec (.busReturn ch n) s = .next (checkAll (raise (s.putChan ch {
      x with
      busOff := false, recovery := 0, tec := 0, recv := 0, integrating := false }) (srcCan ch 4) 1 0) ch)) ∧
    (x.busOff = true → 128 ≤ x.recovery + n → x.timed = [] → x.bufs = [] → x.crush = [] →
      exec (.busReturn ch n) s = .next (raise (s.putChan ch { x with busOff := false, recovery := 0, tec := 0, recv := 0, integrating := false })
        (srcCan ch 4) 1 0))) ∧
  (∀ (ch : Nat) (xl : Bool) (s : State), ch < 24 →
    let x := s.chan ch
    x.takesPart = true → x.mode ≠ 3 → x.ownOnBus = false →
    ((if xl then x.cfg.xlEn else x.cfg.fdEn) = true → exec (.protocolException ch xl) s = .next s) ∧
    ((if xl then x.cfg.xlEn else x.cfg.fdEn) = false → x.cfg.pex = true → exec (.protocolException ch xl) s = .next
      ((abortRecords (s.putChan ch { x with integrating := true, busy := false, sof := none, rxXl := false }) ch).count cPexCount ch))) ∧
  (∀ (ch : Nat) (s : State), abortRecords s ch = forEach (s.chan ch).copies s (fun q s => abortOpen s q)) ∧
  (∀ (ch : Nat) (s : State), ch < 24 →
    let x := s.chan ch
    (x.mode ≠ 0 → x.busOff = false → exec (.canIntegrated ch) s = .next (s.setChan ch { x with integrating := false })) ∧
    (x.pendMode = none → exec (.canModeEffect ch) s = .next s) ∧
    (∀ m, x.pendMode = some m → x.ownOnBus = true → exec (.canModeEffect ch) s = .next s) ∧
    (∀ m, x.pendMode = some m → x.ownOnBus = false → m ≠ 0 → x.mode ≠ 0 → exec (.canModeEffect ch) s =
      .next ((abortRecords (s.setChan ch { x with busy := false, sof := none, rxXl := false }) ch).putChan ch {
        x with
        busy := false, sof := none, rxXl := false, mode := m, pendMode := none, integrating := true })))

/-- Of the pending frames the one offered ranks first: no pending frame precedes it in the order of R232. At an arbitration the
channel takes part in, the offered frame goes on the bus or loses arbitration to another node's frame and stays pending (R232);
the SOF is stamped (R227). A frame sent leaves its path, is emitted and counted and lowers TEC (R230, R234). The feeder's head
packet that is a whole accepted descriptor enters the timed queue with its entry instant as launch time; one too short is
dropped and counted in TX_BAD_DESC, and with 64 entries it waits (R231). -/
def Obligations.CanTransmission : Prop :=
  (∀ (l : List (TxSrc × CanFrame)) (r : TxSrc × CanFrame), bestOffer l = some r → r ∈ l ∧ ∀ e ∈ l, canRank r.2 ≤ canRank e.2) ∧
  (∀ (ch : Nat) (s : State), ch < 24 →
    let x := s.chan ch
    ((x.takesPart = false ∨ x.busy = true ∨ x.pendMode.isSome = true) → ∀ lost, exec (.canArbitration ch lost) s = .next s) ∧
    (x.takesPart = true → x.busy = false → x.pendMode = none → ∀ (xl : Bool),
      (x.sends = false → exec (.canArbitration ch none) s = .next s) ∧
      (x.sends = false → x.mode ≠ 3 → exec (.canArbitration ch (some xl)) s = .next (foreignSof s ch xl)) ∧
      (∀ v, x.sends = true → offerBest s ch 4096 = (v, none) → exec (.canArbitration ch none) s = .next v ∧
        (x.mode ≠ 3 → exec (.canArbitration ch (some xl)) s = .next (foreignSof v ch xl))) ∧
      (∀ v src f, x.sends = true → offerBest s ch 4096 = (v, some (src, f)) → exec (.canArbitration ch none) s = .next (ownSof v ch src) ∧
        (x.mode ≠ 3 → exec (.canArbitration ch (some xl)) s = .next ((foreignSof v ch xl).count cTxArbLost ch)))) ∧
    (∀ xl, ((foreignSof s ch xl).chan ch).busy = true ∧ ((foreignSof s ch xl).chan ch).sof = some (s.sofStamp ch) ∧
      ((foreignSof s ch xl).chan ch).bufs = x.bufs ∧ ((foreignSof s ch xl).chan ch).rxXl = (xl && x.cfg.xlEn)) ∧
    (∀ i, ((ownSof s ch (.buf i)).chan ch).busy = true ∧ ((ownSof s ch (.buf i)).chan ch).sof = some (s.sofStamp ch) ∧
      tblGet ((ownSof s ch (.buf i)).chan ch).bufs i = some { tblGetD x.bufs i {} with onBus := true }) ∧
    (∀ src f tun, x.onBusFrame = some (src, f, tun) → x.mode = 1 → x.cfg.rxOwn = false → tun = false → x.passive = false →
      (∀ i, src = .buf i → i < 30 ∧ (tblGetD x.bufs i {}).notify = false) →
      exec (.canTxComplete ch) s = .next (((s.putChan ch {
        x.sent src with
        tec := x.tec - 1, busy := false, sof := none, ageRaised := false
        tunnel := x.tunnel.map (fun t => { t with lateRaised := false }) }).emit (.can ch f)).count cCanTxFrames ch)) ∧
    (x.onBusFrame = none → exec (.canTxComplete ch) s = .next s) ∧
    (x.feeder = none → exec (.feederHeadMove ch) s = .next s) ∧
    (∀ q k r, x.feeder = some q → (s.queue q).enable = true → (s.queue q).launchSrc = 0 → (s.queue q).packets = k :: r →
      let f := frameOfDesc k.bytes (k.bytes.drop 16)
      (k.bytes.length < 16 ∨ k.bytes.length < 16 + descLen k.bytes ∨ x.cfg.accepts f = false →
        exec (.feederHeadMove ch) s = .next ((wmEval (releaseHead (readCells s q k.cells) q) q).count cTxBadDesc ch)) ∧
      (16 + descLen k.bytes ≤ k.bytes.length → x.cfg.accepts f = true → 64 ≤ x.timed.length → exec (.feederHeadMove ch) s = .next s) ∧
      (16 + descLen k.bytes ≤ k.bytes.length → x.cfg.accepts f = true → x.timed.length < 64 →
        let t := readCells (s.setChan ch {
          x with
          timed := x.timed ++ [{ frame := f, atNs := s.work, order := x.order, tunnel := false }], order := x.order + 1 }) q k.cells
        exec (.feederHeadMove ch) s = .next (wmEval (releaseHead t q) q))))

/-- A transport session whose timeout has run out is aborted, its staging packet rewound, counted and reported; a complete
message is copied into the transport queue and counted in TP_DONE, or in RX_LOST when refused (R238); the service writes the
next TP.DT of a BAM into an empty buffer 31 at least 50 ms after the last (R239; the spacing is the model's, log 21); an address
claimed for 250 ms is held and ADDR_CLAIMED raised (R240); a tunnel's held records are sent once BATCH has passed (R243), and a
received tunnel frame of a stranger is counted in TUNNEL_REFUSED while its channel's partner's single record enters the timed
queue (R242, R244). -/
def Obligations.CanServiceEvents : Prop :=
  (∀ (ch sa da : Nat) (s : State), ch < 24 →
    let x := s.chan ch
    (∀ t, s.sessions ch = [t] → t.sa = sa → t.da = da → t.phase ≠ 4 → t.due ≤ s.lt → t.kind = 0 → t.transmit = false →
      exec (.tpTimeout ch sa da) s = .next (raise ((abortOpen {
        s with
        can := { s.can with sessions := s.can.sessions.filter (fun a => !a.same t) } } t.stage).count cTpAbortTimeout ch) (srcCan ch 9) 1 0)) ∧
    (s.sessions ch = [] → exec (.tpTimeout ch sa da) s = .next s) ∧
    (sessionOf s ch sa da false = none → exec (.tpMessageComplete ch sa da) s = .next s) ∧
    (∀ t q v, sessionOf s ch sa da false = some t → t.phase = 4 → ((dropSession s t).chan ch).tpq = some q →
      (putPacket (dropSession s t) q t.packet 0 false = (v, true) → exec (.tpMessageComplete ch sa da) s = .next (v.count cTpDone ch)) ∧
      (putPacket (dropSession s t) q t.packet 0 false = (v, false) → exec (.tpMessageComplete ch sa da) s = .next (v.count cRxLostTp ch))) ∧
    (x.tpEn = false → exec (.tpTransmit ch) s = .next s) ∧
    (∀ t, x.tpEn = true → s.firmwareRuns = true → s.sessions ch = [t] → t.transmit = true → t.phase = 0 → t.kind = 0 → t.seq ≤ t.window →
      (tblGetD x.bufs 31 {}).frame = none → t.sentAt + 50000000 ≤ s.lt →
      exec (.tpTransmit ch) s = .next ((s.setChan ch {
        x with
        bufs := tblSet x.bufs 31
          { frame := some (svcFrame t.prio 0xEB t.da t.sa (leBytes 1 t.seq ++ bytesAt (t.data ++ List.replicate 7 0xFF) (7 * (t.seq - 1)) 7))
            since := s.lt } }).setSession { t with seq := t.seq + 1, sentAt := s.lt, due := s.lt + 1250 * 1000000 })) ∧
    (x.claim.enable = true → x.claim.st = 1 → x.claim.claimAt + 250000000 ≤ s.lt →
      exec (.addressClaimTimeout ch) s = .next (raise (s.setChan ch { x with claim := { x.claim with st := 2 } }) (srcCan ch 11) 1 0)) ∧
    (s.lt < x.claim.claimAt + 250000000 → exec (.addressClaimTimeout ch) s = .next s) ∧
    (∀ t, x.tunnel = some t → (s.lt < t.heldAt + t.batch * 1000 ∨ t.held = [] → exec (.tunnelBatch ch) s = .next s) ∧
      (t.heldAt + t.batch * 1000 ≤ s.lt → t.held ≠ [] → exec (.tunnelBatch ch) s = .next (tunnelSend s ch t t.held)))) ∧
  (∀ (f : GrtFrame) (r : State), r.passThrough = false → bitsAt f.hdr.flags 6 2 = 1 → f.hdr.typ = tCanTunnel → grtLenOk f = true → r.fromNode f = true →
    let s := takeFromQueue r 2 f
    let ch := infoAt f.hdr 17 1
    let x := s.chan ch
    ch < 24 → ∀ stamp fr, infoAt f.hdr 20 1 = 1 → tunnelRecords 1 f.payload = some [(stamp, fr)] →
    (x.tunnel = none → exec (.canTunnel f) r = .next (s.count cTunnelRefused ch)) ∧
    (∀ t, x.tunnel = some t → s.owner 1 ch ≠ f.hdr.addr.part → exec (.canTunnel f) r = .next (s.count cTunnelRefused ch)) ∧
    (∀ t, x.tunnel = some t → s.owner 1 ch = f.hdr.addr.part → t.remote = f.hdr.srcNode → t.rchan = infoAt f.hdr 16 1 →
      t.rxSeq = some (infoAt f.hdr 18 2) → x.cfg.accepts fr = true → t.delay ≠ 0 →
      let y := { x with tunnel := some { t with rxSeq := some ((infoAt f.hdr 18 2 + 1) % 65536) } }
      (x.timed.length < 64 → exec (.canTunnel f) r = .next (s.setChan ch {
        y with
        timed := x.timed ++ [{ frame := fr, atNs := stamp + t.delay * 1000, order := x.order, tunnel := true }], order := x.order + 1 })) ∧
      (64 ≤ x.timed.length → exec (.canTunnel f) r = .next ((s.setChan ch y).count cTunnelDrop ch))))

/-- For every position, length and bit order, the raw value that extract() reads after the field was placed by the same walk is
the raw value modulo 2^LEN, and every bit position outside the walk keeps its value (R253); an Intel walk holds START to START +
LEN − 1, a Motorola walk its START first when read from the most significant bit. -/
def Obligations.BitFieldRoundTrip : Prop :=
  ∀ (m raw start len : Nat) (mot : Bool),
    extractRaw (placeRaw m raw start len mot) start len mot = raw % 2 ^ len ∧
    (∀ k, k ∉ walk start len mot → bitAt (placeRaw m raw start len mot) k = bitAt m k) ∧
    (walk start len mot).length = len ∧
    (mot = false → ∀ k, k ∈ walk start len mot ↔ start ≤ k ∧ k < start + len) ∧
    (mot = true → 0 < len → (walk start len mot).getLast? = some start)

/-- A field whose signal is NA, STALE or ERROR (states 2, 3 and 1) encodes nothing and keeps its last encoded value; by FALLBACK
it carries the NA code or the error code of R254, its last encoded value or FILL_VALUE if there is none, or FILL_VALUE, each in
its LEN bits (R259). -/
def Obligations.FieldFallback : Prop :=
  ∀ (f : DField) (rawCopy : Bool) (st value : Nat), 1 ≤ st → st ≤ 3 → 1 ≤ f.len →
    (f.encode rawCopy st value).2 = (f, false) ∧
    (f.fallback = 0 → st ≠ 1 → (f.encode rawCopy st value).1 = 2 ^ f.len - 1) ∧
    (f.fallback = 0 → st = 1 → f.len % 8 = 0 → (f.encode rawCopy st value).1 = 0xFE * 2 ^ (f.len - 8) + (2 ^ (f.len - 8) - 1)) ∧
    (f.fallback = 0 → st = 1 → f.len % 8 ≠ 0 → (f.encode rawCopy st value).1 = (2 ^ f.len - 2) % 2 ^ f.len) ∧
    (∀ v, f.fallback = 1 → f.lastEnc = some v → v < 2 ^ f.len → (f.encode rawCopy st value).1 = v) ∧
    (f.fallback = 1 → f.lastEnc = none → (f.encode rawCopy st value).1 = f.fill % 2 ^ f.len) ∧
    (f.fallback = 2 → (f.encode rawCopy st value).1 = f.fill % 2 ^ f.len)

/-- MAP_SET writes a map that is not enabled from the sources, signals and templates of its bulk, binding the RX queues of hewer
sources to the crusher (log 22), and is WRONG_STATE for an enabled map (R247 to R258, R264); MAP_ENABLE takes a subscriber slot
of each CAN channel named, is NO_RESOURCE when one has none, and starts every signal NA; disabled, the map gives back the slots
that no other enabled map uses (R249, R250); MAP_STATUS answers ENABLED and STALE, with the latest-value records (R256). -/
def Obligations.CrusherCommands : Prop :=
  ∀ (d : Desc) (s : State) (m : Nat),
    let t := begins s d.part
    let c := cmdOf t d
    let b := c.bulk
    let x := t.map m
    let nsrc := leAt b 1 1
    let nsig := leAt b 2 2
    let sigAt := 16 + 16 * nsrc
    let srcs := (List.range nsrc).map (fun i => srcOf (bytesAt b (16 + 16 * i) 16))
    let sigs := (List.range nsig).map (fun i => signalOf (bytesAt b (sigAt + 24 * i) 24))
    let cuts := tplCuts b (leAt b 4 1) (sigAt + 24 * nsig)
    let tpls := cuts.1.map tplOf
    let u := t.crushUse m
    localRes t d.part (c.u 8 4) = some (11, m) → t.owns d.part 11 m = true →
    (runs iMapSet d s = true → 1 ≤ nsrc → nsrc ≤ 16 → 1 ≤ nsig → nsig ≤ 256 → leAt b 4 1 ≤ 16 → bitAt (leAt b 0 1) 0 = false → d.bulkLen = cuts.2 →
      srcs.all CrushSrc.ok = true → (List.range nsig).all (fun i => signalOk nsrc (bytesAt b (sigAt + 24 * i) 24)) = true →
      cuts.1.all (tplOk t nsrc sigs x.twin.isSome) = true → twinFits t x.twin srcs tpls = true → c.owned = true →
      srcs.all (fun e => (e.kind != 1 || t.mayRead d.part 1 e.unit) && (e.kind != 3 || hewerSrcOk t d.part e.unit)) = true →
      tpls.all (fun t' => t'.kind != 1 || t.owns d.part 1 (t'.handle % 65536)) = true →
      (x.enable = true → exec (.mapSet d) s = .next (ends t d stWrongState)) ∧
      (x.enable = false → u.1 + nsrc ≤ 4096 → u.2.1 + nsig ≤ 8192 → u.2.2.1 + leAt b 4 1 ≤ 1024 →
        u.2.2.2 + sumNat (tpls.map (fun t => t.fields.length)) ≤ 4096 →
        exec (.mapSet d) s = .next (ends ((forEach (srcs.filter (fun e => e.kind == 3)) t (fun e s =>
          match s.hewerRxq e.unit with | some q => bindCons s q .firmware | none => s)).setMap m
          { written := true, twin := x.twin, owner := d.part, sources := srcs, signals := sigs, tpls := tpls }) d stOk)) ∧
      (x.enable = false → 4096 < u.1 + nsrc → exec (.mapSet d) s = .next (ends t d stNoResource))) ∧
    (runs iMapEnable d s = true → c.u 12 1 = 0 → x.enable = false → exec (.mapEnable d) s = .next (ends t d stOk)) ∧
    (runs iMapEnable d s = true → c.u 12 1 = 0 → x.enable = true → x.channels = [] →
      exec (.mapEnable d) s = .next (ends (t.setMap m { x with enable := false }) d stOk)) ∧
    (runs iMapEnable d s = true → c.u 12 1 = 1 → x.enable = false → x.written = true →
      x.channels.all (fun ch => (t.chan ch).crusherSlot || (t.chan ch).freeSlot.isSome) = true →
      ∃ v, exec (.mapEnable d) s = .next (ends v d stOk) ∧ (v.map m).enable = true ∧ (v.map m).enSeq = t.pool.commits ∧
        (v.map m).signals = x.signals.map (fun g => { g with st := 2, value := 0, latchedSt := 2, latched := 0 }) ∧
        (∀ k, k ≠ m → v.map k = t.map k) ∧ (∀ ch, ch ∉ x.channels → v.chan ch = t.chan ch) ∧ v.queues = t.queues ∧ v.counters = t.counters) ∧
    (runs iMapEnable d s = true → c.u 12 1 = 1 → x.enable = false → x.written = true →
      x.channels.all (fun ch => (t.chan ch).crusherSlot || (t.chan ch).freeSlot.isSome) = false →
      exec (.mapEnable d) s = .next (ends t d stNoResource)) ∧
    (runs iMapStatus d s = true → t.mayRead d.part 11 m = true → c.owned = true → d.bulkLen = 0 ∨ d.bulkLen = 8 * x.signals.length →
      exec (.mapStatus d) s = .next (ends t d stOk
        (resOf [(0, 1, b2n x.enable), (2, 2, listMask ((x.sources.zipIdx.filter (fun e => e.1.stale)).map Prod.snd))])
        (if d.bulkLen = 0 then [] else x.signals.flatMap (fun g => leBytes 8 (x.recordNow g)))))

/-- A waiting image segment that one source of one map takes is decoded into that map's signal and counted, and the source takes
it as its latest message (R248, R251, R255); after 10 ms a message is released undecoded (R248); a source silent for TIMEOUT
turns STALE and CRUSH_STALE is raised once per map until a message comes (R251, R265); a PERIODIC, held or overdue ON_CHANGE
template is emitted when its time has come and MIN_GAP has passed, and held otherwise (R260); an emission of a KIND 1 template
outside a twin set enters the crusher path of its channel and is counted (R260, R261). -/
def Obligations.CrusherEvents : Prop :=
  (∀ (s : State), s.firmwareRuns = false → exec .crushReception s = .next s) ∧
  (∀ (s : State) (w : CrushWork) (r : List CrushWork) (m i : Nat) (g : Signal),
    let x := s.map m
    let e := x.sources.getD i {}
    let y := g.decode (leNat w.payload)
    let u := { s with crush := { s.crush with work := r } }
    let x1 := { x with sources := listSet x.sources i { e with lastAt := s.lt, stale := false, img := w.cycle }, overRaised := false, staleRaised := false }
    s.firmwareRuns = true → s.crush.work = w :: r → (∀ v ∈ r, w.seq < v.seq) → s.hewerHeads = [] → s.takers w = [(m, i)] → w.kind = 2 →
    s.lt < w.atLt + 10000000 → s.cycle.image.work = none → s.periodicDue = [] → x.signals = [g] → g.source = i → x.tpls = [] → x.twin = none →
    (g.fits w.payload.length = true → exec .crushReception s = .next
      (((u.setMap m { x1 with signals := [y.1] }).count cDecodes m).countIf y.2 cSat (satSignal m 0))) ∧
    (g.fits w.payload.length = false → exec .crushReception s = .next ((u.setMap m x1).count cShortMsg m))) ∧
  (∀ (s : State) (w : CrushWork) (r : List CrushWork), s.crush.work = w :: r → (∀ v ∈ r, w.seq < v.seq) → s.hewerHeads = [] → w.kind = 2 →
    (s.lt < w.atLt + 10000000 → exec .crushOverrun s = .next s) ∧
    (∀ m i, w.atLt + 10000000 ≤ s.lt → s.takers w = [(m, i)] → (s.map m).overRaised = true → exec .crushOverrun s = .next
      (({ s with crush := { s.crush with work := r } }.setMap m (s.map m)).count cMapOverrun m))) ∧
  (∀ (s : State) (m i : Nat), m < 256 →
    let x := s.map m
    let e := x.sources.getD i {}
    let u := s.setMap m { x with sources := listSet x.sources i { e with stale := true }, staleRaised := true }
    (x.enable = true → i < x.sources.length → e.timeout ≠ 0 → e.stale = false → e.lastAt + e.timeout * 1000000 ≤ s.lt →
      (x.staleRaised = false → exec (.crushStale m i) s = .next (raise u (srcDiag m) 1 0)) ∧
      (x.staleRaised = true → exec (.crushStale m i) s = .next u)) ∧
    (x.enable = false ∨ e.timeout = 0 ∨ e.stale = true ∨ s.lt < e.lastAt + e.timeout * 1000000 → exec (.crushStale m i) s = .next s)) ∧
  (∀ (s : State) (m k : Nat) (t : Template), m < 256 →
    let x := s.map m
    let n := s.work / (t.period * 1000)
    let u := s.setMap m { x with tpls := listSet x.tpls k { t with lastPer := n } }
    x.tpls.getD k {} = t → x.enable = true → k < x.tpls.length → s.firmwareRuns = true →
    (t.trigger = 2 → t.period ≠ 0 → t.lastPer < n → t.tooSoon s.lt = false → exec (.periodicTemplate m k) s = .next (emitTpl u m k s.cycle.last false)) ∧
    (t.trigger = 2 → t.period ≠ 0 → t.lastPer < n → t.tooSoon s.lt = true → exec (.periodicTemplate m k) s = .next
      (s.setMap m {
        x with
        tpls := listSet x.tpls k { t with lastPer := n, heldBack := true, heldForce := t.heldBack && t.heldForce, heldN := s.cycle.last } })) ∧
    (t.trigger ≠ 2 ∨ n ≤ t.lastPer → exec (.periodicTemplate m k) s = .next s) ∧
    (t.heldBack = true → t.tooSoon s.lt = false → exec (.minGapExpiry m k) s = .next (emitTpl s m k t.heldN t.heldForce)) ∧
    (t.heldBack = false ∨ t.tooSoon s.lt = true → exec (.minGapExpiry m k) s = .next s) ∧
    (∀ a l, t.trigger = 3 → t.period ≠ 0 → t.lastSent = some (a, l) → a + t.period * 1000 ≤ s.lt →
      (t.tooSoon s.lt = false → exec (.onChangePeriod m k) s = .next (emitTpl s m k s.cycle.last true)) ∧
      (t.tooSoon s.lt = true → exec (.onChangePeriod m k) s = .next (s.setMap m {
        x with
        tpls := listSet x.tpls k { t with heldBack := true, heldForce := true, heldN := s.cycle.last } }))) ∧
    (t.trigger ≠ 3 ∨ t.period = 0 ∨ t.lastSent = none → exec (.onChangePeriod m k) s = .next s) ∧
    (∀ n' force, let y := buildTpl x t
      let ch := t.handle % 65536
      let v := ((s.count cEncodes m (encodedIn x y.2.1)).setMap m {
        x with
        tpls := listSet x.tpls k { y.2.1 with heldBack := false, heldForce := false, lastSent := some (s.lt, y.1) } }).count cEmitted (16 * m + k)
      y.2.2 = [] → t.kind = 1 → x.twin = none → t.trigger ≠ 3 → (s.chan ch).cfg.accepts (tplFrame t y.1) = true →
      (s.chan ch).crush.find? (fun e => e.tpl == 16 * m + k) = none →
      emitTpl s m k n' force = v.setChan ch {
          s.chan ch with
          crush := (s.chan ch).crush ++ [{ tpl := 16 * m + k, frame := tplFrame t y.1, since := s.lt }] }))

/-- PIN_CFG with options in range writes them, restarting the input path when GLITCH or DEBOUNCE changes (R268); PIN_READ
answers the bank's levels; PIN_WRITE sends the masked pins' levels and directions of a bank to the pad stage, where a hewer that
holds the pin by then discards and counts it, and is WRONG_STATE when a hewer holds one (R272); PIN_TIMED stores or cancels the
pin's timed transition (R273); PIN_COUNT_CLEAR answers the counter and sets it to 0 (R271). A pad level of G + 1 samples becomes
the filtered level, one of G samples never does (R269); the debounced level follows after DEBOUNCE and is counted as COUNT_EDGE
selects (R271); STUCK is raised once (R298); a due timed transition drives a discrete pin and is counted in PIN_CONFLICT on a
held one (R272, R273); without bank supply outputs float, and a returned supply above 1.55 V drives them again (R267). -/
def Obligations.PinCommandsAndEvents : Prop :=
  (∀ (d : Desc) (s : State) (p : Nat),
    let t := begins s d.part
    let c := cmdOf t d
    let x := t.pin p
    localRes t d.part (c.u 8 4) = some (3, p) → t.owns d.part 3 p = true →
    (∀ n, runs iPinCfg d s = true → n = pinCfgOf (c.u 16 8) → n.pull ≠ 3 → bitAt (c.u 16 8) 7 = false → bitsAt (c.u 16 8) 21 11 = 0 → n.stuckMs ≠ 0 →
      let y := showPad (t.setPin p { x with cfg := n, activeAt := if n.stuckEn = true ∧ x.cfg.stuckEn = false then t.lt else x.activeAt }) p
      (n.glitch = x.cfg.glitch → n.debounce = x.cfg.debounce → exec (.pinCfg d) s = .next (ends y d stOk)) ∧
      (n.glitch ≠ x.cfg.glitch → exec (.pinCfg d) s = .next (ends (restartInput y p true) d stOk)) ∧
      (n.glitch = x.cfg.glitch → n.debounce ≠ x.cfg.debounce → exec (.pinCfg d) s = .next (ends (restartInput y p false) d stOk))) ∧
    (runs iPinCfg d s = true → bitsAt (c.u 16 8) 3 2 = 3 → exec (.pinCfg d) s = .next (ends t d stBadParam)) ∧
    (runs iPinRead d s = true → p % 16 = 0 → t.mayRead d.part 3 p = true → exec (.pinRead d) s = .next (ends t d stOk
      (resOf [(0, 2, bankMask (p / 16) (fun p => (t.pin p).raw)), (2, 2, bankMask (p / 16) (fun p => (t.pin p).filt)),
        (4, 2, bankMask (p / 16) (fun p => (t.pin p).deb)), (6, 2, bankMask (p / 16) (fun p => (t.pin p).out)),
        (8, 2, bankMask (p / 16) (fun p => (t.pin p).level)), (10, 2, bankMask (p / 16) (fun p => t.hewerHeld p)),
        (12, 1, if (t.bank (p / 16)).present = false ∨ (t.bank (p / 16)).mv ≤ 1550 then 0 else if (t.bank (p / 16)).mv ≥ 2500 then 2 else 1)]))) ∧
    (runs iPinWrite d s = true → p % 16 = 0 → maskList 16 (c.u 12 2) = [0] → t.hewerHeld p = false →
      exec (.pinWrite d) s = .next (ends (t.sendPad { pin := p, lvl := some (bitAt (c.u 14 2) 0), dir := some (bitAt (c.u 16 2) 0) }) d stOk)) ∧
    (runs iPinWrite d s = true → p % 16 = 0 → maskList 16 (c.u 12 2) = [0] → t.hewerHeld p = true →
      exec (.pinWrite d) s = .next (ends t d stWrongState)) ∧
    (runs iPinTimed d s = true → bitsAt (c.u 12 1) 2 5 = 0 → c.u 16 8 < 2 ^ 48 → c.u 24 4 < 1000000000 →
      (bitAt (c.u 12 1) 7 = true → exec (.pinTimed d) s = .next (ends (t.setPin p { x with timed := none }) d stOk)) ∧
      (bitAt (c.u 12 1) 7 = false → t.work + 50 ≤ c.u 16 8 * 1000000000 + c.u 24 4 → exec (.pinTimed d) s = .next (ends (t.setPin p {
        x with
        timed := some (c.u 16 8 * 1000000000 + c.u 24 4, bitAt (c.u 12 1) 0, bitAt (c.u 12 1) 1) }) d stOk))) ∧
    (runs iPinCountClear d s = true → exec (.pinCountClear d) s = .next (ends (t.setPin p { x with count := 0, satArmed := true }) d stOk
      (leBytes 4 x.count)))) ∧
  (∀ (p : Nat) (s : State) (lvl : Bool) (width : Nat), p < 256 →
    let x := s.pin p
    (s.bank (p / 16)).present = true →
    (1 ≤ x.cfg.glitch → width ≤ x.cfg.glitch * 25 → exec (.pinInputEdge p lvl width) s = .next (s.setPin p { x with raw := lvl, selfAt := none })) ∧
    ((x.cfg.glitch + 1) * 25 ≤ width → x.filt = lvl → exec (.pinInputEdge p lvl width) s = .next (s.setPin p { x with raw := lvl, selfAt := none })) ∧
    ((x.cfg.glitch + 1) * 25 ≤ width → x.filt ≠ lvl → x.cfg.debounce ≠ 0 →
      exec (.pinInputEdge p lvl width) s = .next (s.setPin p {
        x with
        raw := lvl, selfAt := none, filt := lvl, filtAt := s.lt, hist := notedChange x.hist s.edgeNext x.filt })) ∧
    (x.filt ≠ x.deb → x.filtAt + x.cfg.debounce * 1000 ≤ s.lt → edgeSel x.cfg.edgeEv x.filt = false → x.count < 0xFFFFFFFE → x.filt = x.cfg.activeLow →
      exec (.debounceExpiry p) s = .next (s.setPin p {
        x with
        deb := x.filt, count := if edgeSel x.cfg.countEdge x.filt then x.count + 1 else x.count, stuckArmed := true })) ∧
    (x.filt = x.deb ∨ s.lt < x.filtAt + x.cfg.debounce * 1000 → exec (.debounceExpiry p) s = .next s) ∧
    (x.cfg.stuckEn = true → x.deb ≠ x.cfg.activeLow → x.stuckArmed = true → x.activeAt + x.cfg.stuckMs * 1000000 ≤ s.lt →
      exec (.stuckTimeout p) s = .next (raise (s.setPin p { x with stuckArmed := false }) (srcPin p) 3 x.count)) ∧
    (x.cfg.stuckEn = false ∨ x.deb = x.cfg.activeLow ∨ x.stuckArmed = false → exec (.stuckTimeout p) s = .next s) ∧
    (∀ i l dir, x.timed = some (i, l, dir) →
      (s.work < i → exec (.timedTransition p) s = .next s) ∧
      (i ≤ s.work → s.hewerHeld p = true → exec (.timedTransition p) s = .next ((s.setPin p { x with timed := none }).count cPinConflict p)) ∧
      (i ≤ s.work → s.hewerHeld p = false → x.lastAct = none → exec (.timedTransition p) s = .next
        (putLevel (s.setPin p { x with timed := none, lastAct := some (s.work, 1) }) p l dir)))) ∧
  (∀ (p : Nat) (s : State) (l dir : Bool),
    let x := { s.pin p with level := l, out := dir }
    putLevel s p l dir = s.setPin p (if dir = true ∧ (s.bank (p / 16)).present = true ∧ ¬(x.cfg.od = true ∧ l = true) ∧ x.raw ≠ l
      then { x with raw := l, selfAt := some s.edgeNext } else x)) ∧
  (∀ (p : Nat) (s : State) (g : Bool), let x := s.pin p
    let y := (restartInput s p g).pin p
    (g = true → y.filt = x.raw) ∧ (g = false → y.filt = x.filt) ∧ y.deb = y.filt ∧ y.filtAt = s.lt ∧ y.activeAt = s.lt ∧ y.count = x.count ∧ y.raw = x.raw ∧
      (restartInput s p g).faults = s.faults ∧ (restartInput s p g).counters = s.counters) ∧
  (∀ (s : State) (w : PadWrite), w.src = 64 →
    (s.hewerHeld w.pin = true → padReach s w = s.count cPinConflict w.pin) ∧
    (∀ l dir, s.hewerHeld w.pin = false → (s.pin w.pin).lastAct = none → w.lvl = some l → w.dir = some dir →
      padReach s w = putLevel (s.setPin w.pin { s.pin w.pin with lastAct := some (s.work, 2) }) w.pin l dir)) ∧
  (∀ (b mv : Nat) (s : State), b < 16 →
    ((s.bank b).present = false → exec (.bankSupplyLoss b) s = .next s) ∧
    ((s.bank b).present = true → ∃ v, exec (.bankSupplyLoss b) s = .next v ∧ (v.bank b).present = false ∧
      ∀ p, p / 16 = b → v.padDriven p = none ∧ (v.pin p).raw = false ∧ (v.pin p).level = (s.pin p).level ∧ (v.pin p).out = (s.pin p).out) ∧
    (mv ≤ 1550 → exec (.bankSupplyReturn b mv) s = .next s) ∧
    (1550 < mv → ∃ v, exec (.bankSupplyReturn b mv) s = .next v ∧ v.bank b = { s.bank b with present := true, mv := mv } ∧ v.field.hewers = s.field.hewers ∧
      ∀ p, p / 16 = b → (s.pin p).out = true → (s.pin p).cfg.od = false → (v.pin p).raw = (s.pin p).level ∧
        ((s.pin p).raw ≠ (s.pin p).level → v.pin p = { s.pin p with raw := (s.pin p).level, selfAt := some s.edgeNext }) ∧
        ((s.pin p).raw = (s.pin p).level → v.pin p = s.pin p)))

/-- HEWER_CFG writes a stopped hewer's configuration (R276, R277); HEWER_LOAD enters a legal program, clearing the registers,
with U, V and PC as given (R293, R295), and both are WRONG_STATE on a hewer that is not stopped (R291); HEWER_LOAD_LIB enters
the ROM's program (R297; its words are constants of the model, log 7); HEWER_START starts or arms every named hewer or none
(R296); HEWER_STOP stops (R294); HEWER_REG_WRITE and HEWER_IRQ_SET write from outside (R280); HEWER_STATUS answers the record
(R300); FLAG_ASSIGN, FLAG_READ and FLAG_WRITE act on flags (R290). -/
def Obligations.HewerCommands : Prop :=
  (∀ (d : Desc) (s : State) (h : Nat),
    let t := begins s d.part
    let c := cmdOf t d
    let x := t.hewer h
    localRes t d.part (c.u 8 4) = some (2, h) → t.owns d.part 2 h = true →
    (∀ n, runs iHewerCfg d s = true → viewCfg (t.part d.part) (hewerCfgOf (c.bytes 16 32)) = some n → hewerCfgOk (c.bytes 16 32) = true →
      cfgOwned t d.part h n = true → (n.rxQueue ≠ 0xFFFF → (t.queue n.rxQueue).fwUse = 0) → (n.txQueue ≠ 0xFFFF → (t.queue n.txQueue).fwUse = 0) →
      (x.st = 0 → n.rxQueue = x.cfg.rxQueue → n.txQueue = x.cfg.txQueue → (n.rxQueue ≠ n.txQueue ∨ n.rxQueue = 0xFFFF) →
        exec (.hewerCfg d) s = .next (ends (t.setHewer h { x with cfg := n }) d stOk)) ∧
      (x.st = 0 → cfgBindStatus t h n = stOk → exec (.hewerCfg d) s = .next (ends (cfgBind t h n) d stOk)) ∧
      (x.st ≠ 0 → exec (.hewerCfg d) s = .next (ends t d stWrongState))) ∧
    (let n := c.u 12 1
     let l := (wordsOf c.bulk n).map (viewWord (t.part d.part))
     runs iHewerLoad d s = true → 1 ≤ n → n ≤ 64 → c.u 13 1 < n → c.u 14 1 < n → d.bulkLen = 4 * n → l.all (wordOk n x.cfg.sideCount) = true →
      (wordsOf c.bulk n).all (fun w => !outsideView (t.part d.part) w) = true → c.owned = true → l.all (wordOwned t d.part h) = true →
      (x.st = 0 → x.pktOpen = false → exec (.hewerLoad d) s = .next (ends (t.setHewer h {
        x with
        prog := l.map w32, entry := c.u 13 1, loopTo := c.u 14 1, lib := none, libParams := [], pc := c.u 13 1, u := w32 (c.u 16 4)
        v := w32 (c.u 20 4), g := 0, gCnt := 0, s := 0, sCnt := 0, lastWord := 0, lastMark := false, dropToEop := false
        tlatch := false, pktOpen := false, pktCnt := 0, stall := 0, began := false }) d stOk)) ∧
      (x.st ≠ 0 → exec (.hewerLoad d) s = .next (ends t d stWrongState))) ∧
    (let id := c.u 12 1
     let base := 4 * (h % 8)
     let b := c.bytes 16 32
     runs iHewerLoadLib d s = true → 1 ≤ id → id ≤ 11 → c.u 13 1 = 0xFF → libListed c id = true → libParamOk c id = true → Config.libRateOk id b = true →
      (libPins id).zipIdx.all (fun e => if e.1 then t.owns d.part 3 (32 * (h / 8) + (base + e.2) % 32)
        else t.mayRead d.part 3 (32 * (h / 8) + (base + e.2) % 32)) = true → (∀ u, libUnit c id = some u → t.mayBind d.part u = true) → x.st = 0 →
      ∃ v, exec (.hewerLoadLib d) s = .next (ends v d stOk) ∧ (v.hewer h).prog = (Config.libProgram id base b).take 64 ∧ (v.hewer h).lib = some id ∧
        (v.hewer h).u = 0 ∧ (v.hewer h).v = 0 ∧ (v.hewer h).cfg.rxQueue = x.cfg.rxQueue ∧ (v.hewer h).cfg.txQueue = x.cfg.txQueue ∧
        (v.hewer h).st = 0 ∧ ∀ k, k ≠ h → v.hewer k = t.hewer k) ∧
    (runs iHewerRegWrite d s = true → c.u 12 1 ≤ 1 → exec (.hewerRegWrite d) s = .next (ends (t.setHewer h
      (if c.u 12 1 = 1 then { x with v := w32 (c.u 16 4), extV := some t.edgeNext } else { x with u := w32 (c.u 16 4), extU := some t.edgeNext })) d stOk)) ∧
    (runs iHewerIrqSet d s = true → c.u 12 1 < 16 →
      exec (.hewerIrqSet d) s = .next (ends (t.setHewer h { x with irqIn := x.irqIn ||| BitVec.ofNat 4 (c.u 12 1) }) d stOk)) ∧
    (runs iHewerStatus d s = true → t.mayRead d.part 2 h = true → exec (.hewerStatus d) s = .next (ends t d stOk x.record))) ∧
  (∀ (d : Desc) (s : State),
    let t := begins s d.part
    let c := cmdOf t d
    let f := c.u 16 1
    let u := c.u 17 1
    (∀ h, runs iHewerStart d s = true → maskHewers (t.part d.part) (c.u 8 8) = some [h] → f < 4 → u < 64 → t.owns d.part 2 h = true →
      (bitAt f 1 = true → t.mayBind d.part u = true) →
      ((t.hewer h).canStart = false → exec (.hewerStart d) s = .next (ends t d stWrongState)) ∧
      ((t.hewer h).canStart = true → bitAt f 1 = true → exec (.hewerStart d) s = .next (ends (t.setHewer h {
        t.hewer h with
        st := 2, armUnit := u, armCount := (t.trig u).fireCount, armRestart := bitAt f 0 }) d stOk)) ∧
      ((t.hewer h).canStart = true → f = 0 →
        exec (.hewerStart d) s = .next (ends (t.setHewer h { t.hewer h with st := 1, rem := 0, edge := t.edgeNext, delay := 0 }) d stOk)) ∧
      ((t.hewer h).canStart = true → f = 1 → exec (.hewerStart d) s = .next (ends (t.setHewer h {
        t.hewer h with
        st := 1, rem := 0, edge := t.edgeNext, delay := 0, pc := (t.hewer h).entry, stall := 0, began := false }) d stOk))) ∧
    (∀ h, runs iHewerStop d s = true → maskHewers (t.part d.part) (c.u 8 8) = some [h] → t.owns d.part 2 h = true →
      exec (.hewerStop d) s = .next (ends (t.setHewer h { t.hewer h with st := 0, delay := 0 }) d stOk)) ∧
    (∀ l, runs iHewerStart d s = true → maskHewers (t.part d.part) (c.u 8 8) = some l → f < 4 → u < 64 → l.any (fun h => !t.owns d.part 2 h) = true →
      exec (.hewerStart d) s = .next (ends t d stNotOwner)) ∧
    (runs iFlagAssign d s = true → c.u 8 2 < 272 → c.u 10 1 < 16 → (t.part (c.u 10 1)).st ≠ 0 →
      (t.flagInUse (c.u 8 2) = true → exec (.flagAssign d) s = .next (ends t d stBusy)) ∧
      (t.flagInUse (c.u 8 2) = false →
        exec (.flagAssign d) s = .next (ends (t.setFlag (c.u 8 2) { t.flag (c.u 8 2) with owner := c.u 10 1 }) d stOk))) ∧
    (runs iFlagRead d s = true → c.u 8 1 < 8 → exec (.flagRead d) s = .next (ends t d stOk
      (leBytes 4 (ownFlags t d.part (32 * c.u 8 1) 32) ++ leBytes 2 (ownFlags t d.part 256 16)))) ∧
    (runs iFlagWrite d s = true → c.u 8 1 < 8 → c.u 12 4 = 1 → c.u 16 4 = 0 → (t.flag (32 * c.u 8 1)).owner = d.part →
      (∀ a k, (t.flag (32 * c.u 8 1)).act = some (a, k) → a < t.edgeNext) →
      exec (.flagWrite d) s = .next (ends (t.setFlag (32 * c.u 8 1) {
        t.flag (32 * c.u 8 1) with
        val := true, act := some (t.edgeNext, 64), was := (t.flag (32 * c.u 8 1)).val, hist := [] }) d stOk)) ∧
    (∀ i, runs iFlagWrite d s = true → c.u 8 1 < 8 → i < 32 → bitAt (c.u 12 4) i = true → (t.flag (32 * c.u 8 1 + i)).owner ≠ d.part →
      exec (.flagWrite d) s = .next (ends t d stNotOwner)))

/-- Each row runs when the hewer's next tick has come and starts an instruction of that opcode, and does nothing otherwise
(R278, R279): the value each instruction computes, where it goes, and whether it completes, jumps or stalls (R284 to R290);
completion moves PC, or PC to the jump target or LOOP_TO, and counts the tick, DELAY ticks follow one by one, a stall keeps PC
and counts the stall, and the side pattern is written in the starting tick (R278, R279, R283). A stalled instruction repeats its
test at each tick (R279); the RX FIFO drains into its queue and the TX FIFO fills from its queue (R287, R288); an armed hewer
runs from the firing of its unit (R296). An instruction's write of U, V or a flag that an external write has reached at the same
edge is lost and counted in REG_OVERRIDE (R280); a flag keeps what a higher-numbered hewer did at that edge (R290). -/
def Obligations.HewerInstructions : Prop :=
  (∀ (h : Nat) (s : State), h < 64 →
    let x := s.hewer h
    let w := x.word
    let c := x.cfg
    let ops := bitsAt w 0 16
    let n := bitsAt w 0 6
    let d := bitsAt w 16 3
    let done (j : Option Nat) (t : State) := completeHw (sideAct t h w) h w j
    let putU (a : Word) := if x.extU = some x.edge then s.count cRegOverride h else s.setHewer h { x with u := a }
    let putV (a : Word) := if x.extV = some x.edge then s.count cRegOverride h else s.setHewer h { x with v := a }
    let stop (k : Nat) (t : State) := stallHw (sideAct t h w) h k
    (∀ e ∈ [(Instr.hwSet h, 0x01), (.hwMov h, 0x02), (.hwJmp h, 0x04), (.hwDjnz h, 0x05), (.hwWait h, 0x06), (.hwIn h, 0x08), (.hwOut h, 0x09),
        (.hwPush h, 0x0A), (.hwPull h, 0x0B), (.hwTstamp h, 0x0C), (.hwAbort h, 0x0D), (.hwFlag h, 0x10), (.hwIrq h, 0x11)],
      (s.hwStarts h e.2 = false → exec e.1 s = .next s) ∧
      (∀ j t, s.hwStarts h e.2 = true → hwAct h w s = .fin j t → exec e.1 s = .next (done j t)) ∧
      (∀ k t, s.hwStarts h e.2 = true → hwAct h w s = .stall k t → exec e.1 s = .next (stop k t))) ∧
    (s.hwStarts h 0x01 = true → exec (.hwSet h) s = .next (done none
      (if d = 0 then writeLevels s h c.setBase c.setCount ops else if d = 1 then writeDirs s h c.setBase c.setCount ops
       else if d = 2 then putU (w32 ops) else if d = 3 then putV (w32 ops) else s))) ∧
    (∀ v, s.hwStarts h 0x02 = true → v = movOp (bitsAt w 13 3) (movSrc s h (bitsAt w 10 3)) →
      (d = 0 → exec (.hwMov h) s = .next (done none (writeLevels s h c.outBase c.outCount v.toNat))) ∧
      (d = 2 → exec (.hwMov h) s = .next (done none (putU v))) ∧
      (d = 3 → exec (.hwMov h) s = .next (done none (putV v))) ∧
      (d = 4 → exec (.hwMov h) s = .next (done none (s.setHewer h { x with g := v, gCnt := 0 }))) ∧
      (d = 5 → exec (.hwMov h) s = .next (done none (s.setHewer h { x with s := v, sCnt := 0 }))) ∧
      (d = 6 → exec (.hwMov h) s = .next (done (some v.toNat) s))) ∧
    (s.hwStarts h 0x04 = true →
      (bitsAt w 15 4 = 0 → exec (.hwJmp h) s = .next (done (some n) s)) ∧
      (bitsAt w 15 4 = 3 → exec (.hwJmp h) s = .next (done (if x.u = x.v then none else some n) s)) ∧
      (bitsAt w 15 4 = 4 → exec (.hwJmp h) s = .next (done (if x.u.toNat < x.v.toNat then some n else none) s)) ∧
      (bitsAt w 15 4 = 9 → x.tlatch = true → exec (.hwJmp h) s = .next (done (some n) (s.setHewer h { x with tlatch := false })))) ∧
    (s.hwStarts h 0x05 = true →
      (bitAt w 18 = false → exec (.hwDjnz h) s = .next (done (if x.u - 1 ≠ 0 then some n else none) (putU (x.u - 1)))) ∧
      (bitAt w 18 = true → exec (.hwDjnz h) s = .next (done (if x.v - 1 ≠ 0 then some n else none) (putV (x.v - 1))))) ∧
    (s.hwStarts h 0x06 = true → bitsAt w 15 3 = 0 → bitAt w 18 = true → x.began = false →
      (x.tlatch = true → exec (.hwWait h) s = .next (done none (s.setHewer h { x with waitFrom := x.edge, tlatch := false }))) ∧
      (x.tlatch = false → exec (.hwWait h) s = .next (stop 3 (s.setHewer h { x with waitFrom := x.edge })))) ∧
    (s.hwStarts h 0x06 = true → bitsAt w 15 3 = 1 → bitAt w 18 = true → x.began = false →
      let g := s.trig (bitsAt w 9 6)
      (0 < g.fireCount → g.firedEdge = x.edge → exec (.hwWait h) s = .next (done none (s.setHewer h { x with waitFrom := x.edge }))) ∧
      (g.fireCount = 0 ∨ g.firedEdge < x.edge → exec (.hwWait h) s = .next (stop 3 (s.setHewer h { x with waitFrom := x.edge })))) ∧
    (s.hwStarts h 0x08 = true → x.began = false → c.autoStore = false → d ≠ 6 → exec (.hwIn h) s = .next (done none
      (s.setHewer h { x with g := gather c.inDir x.g (inSrc s h d) n, gCnt := min 32 (x.gCnt + n) }))) ∧
    (s.hwStarts h 0x08 = true → x.began = false → c.autoStore = true → c.inWidth ≤ min 32 (x.gCnt + n) → x.dropToEop = false → 8 ≤ x.rx.length → d ≠ 6 →
      exec (.hwIn h) s = .next (stop 1 (s.setHewer h { x with g := gather c.inDir x.g (inSrc s h d) n, gCnt := min 32 (x.gCnt + n) }))) ∧
    (s.hwStarts h 0x09 = true → c.autoFetch = false → x.sCnt < 32 →
      (d = 5 → exec (.hwOut h) s = .next (done (some (spread c.outDir x.s n).1)
        (s.setHewer h { x with s := (spread c.outDir x.s n).2, sCnt := min 32 (x.sCnt + n) }))) ∧
      (d = 6 → exec (.hwOut h) s = .next (done none (s.setHewer h {
        x with
        s := (spread c.outDir x.s n).2, sCnt := min 32 (x.sCnt + n), g := w32 (spread c.outDir x.s n).1, gCnt := n })))) ∧
    (s.hwStarts h 0x09 = true → c.autoFetch = true → c.outWidth ≤ x.sCnt → x.tx = [] → exec (.hwOut h) s = .next (stop 2 s)) ∧
    (s.hwStarts h 0x0A = true → (bitAt w 16 = false ∨ c.inWidth ≤ x.gCnt) → x.dropToEop = false →
      (x.rx.length < 8 → exec (.hwPush h) s = .next (done none (s.setHewer h { x.pushWord x.g (bitAt w 18) with g := 0, gCnt := 0 }))) ∧
      (8 ≤ x.rx.length → bitAt w 17 = true → exec (.hwPush h) s = .next (stop 1 s))) ∧
    (s.hwStarts h 0x0B = true → (bitAt w 16 = false ∨ c.outWidth ≤ x.sCnt) →
      (∀ v l r, x.tx = (v, l) :: r →
        exec (.hwPull h) s = .next (done none (s.setHewer h { x with s := v, sCnt := 0, lastWord := v, lastMark := l, tx := r }))) ∧
      (x.tx = [] → bitAt w 17 = true → exec (.hwPull h) s = .next (stop 2 s)) ∧
      (x.tx = [] → bitAt w 17 = false → exec (.hwPull h) s = .next (done none (s.setHewer h { x with s := x.lastWord, sCnt := 0 })))) ∧
    (s.hwStarts h 0x0C = true → bitAt w 18 = false → x.dropToEop = false → x.rx.length < 8 → ∃ t, edgeWork s h ≤ t + 2 ∧ t ≤ edgeWork s h + 2 ∧
      exec (.hwTstamp h) s = .next (done none ({ s with fresh := s.fresh + 1 }.setHewer h (x.pushWord (w32 (t % 1000000000)) false)))) ∧
    (s.hwStarts h 0x0D = true → x.pktOpen = false → exec (.hwAbort h) s = .next (done none (s.setHewer h { x with g := 0, gCnt := 0 }))) ∧
    (s.hwStarts h 0x0D = true → x.pktOpen = true → c.rxQueue < 65536 → ∃ t, exec (.hwAbort h) s = .next (done none t) ∧ (t.hewer h).g = 0 ∧ (t.hewer h).gCnt = 0 ∧
      (t.hewer h).pktOpen = false ∧ (t.hewer h).rx = keepEnded x.rx ∧ t.ctr cHewerAborts h = s.ctr cHewerAborts h + 1) ∧
    (s.hwStarts h 0x10 = true → (∀ a k, (s.flag (flagNo h n)).act = some (a, k) → a < x.edge ∨ (a = x.edge ∧ k = h)) →
      exec (.hwFlag h) s = .next (done none (s.setFlag (flagNo h n) {
        s.flag (flagNo h n) with
        val := if bitsAt w 17 2 = 0 then true else if bitsAt w 17 2 = 1 then false else !(s.flag (flagNo h n)).val
        act := some (x.edge, h), was := (s.flag (flagNo h n)).val
        hist := notedChange (s.flag (flagNo h n)).hist x.edge (s.flag (flagNo h n)).val }))) ∧
    (s.hwStarts h 0x10 = true → (s.flag (flagNo h n)).act = some (x.edge, 64) → exec (.hwFlag h) s = .next (done none (s.count cRegOverride h))) ∧
    (∀ k, s.hwStarts h 0x10 = true → (s.flag (flagNo h n)).act = some (x.edge, k) → h < k → k < 64 → exec (.hwFlag h) s = .next (done none s)) ∧
    (s.hwStarts h 0x11 = true → exec (.hwIrq h) s = .next (done none (raise s (srcHewer h (bitsAt w 0 2)) 1 0))) ∧
    (s.tickDue h = true → x.stall ≠ 0 → (∀ j t, hwAct h w s = .fin j t → exec (.stallComplete h) s = .next (completeHw t h w j)) ∧
      (∀ k t, hwAct h w s = .stall k t → exec (.stallComplete h) s = .next (stallHw t h k))) ∧
    (x.stall = 0 ∨ s.tickDue h = false → exec (.stallComplete h) s = .next s) ∧
    (x.rx = [] → exec (.rxFifoDrain h) s = .next s) ∧
    (∀ v t, x.rx = [(v, true)] → c.rxQueue < 4096 → appendOpen s c.rxQueue (leBytes 4 v.toNat) 0 false = (t, true) →
      exec (.rxFifoDrain h) s = .next (commitOpen (t.setHewer h { t.hewer h with rx := [], inQueue := 0 }) c.rxQueue none)) ∧
    (8 ≤ x.tx.length → exec (.txFifoFill h) s = .next s) ∧
    (∀ k r, x.st = 1 → x.tx.length = 7 → c.txQueue < 4096 → (s.queue c.txQueue).enable = true → (s.queue c.txQueue).packets = k :: r →
      let o := (s.queue c.txQueue).popped
      (o + 4 < k.bytes.length → exec (.txFifoFill h) s = .next ((s.setHewer h {
        x with
        tx := x.tx ++ [(w32 (leAt k.bytes o 4), false)] }).setQueue c.txQueue { s.queue c.txQueue with popped := o + 4 })) ∧
      (k.bytes.length ≤ o + 4 → exec (.txFifoFill h) s = .next (wmEval (releaseHead (readCells (s.setHewer h {
        x with
        tx := x.tx ++ [(w32 (leAt k.bytes o 4), true)] }) c.txQueue k.cells) c.txQueue) c.txQueue)))) ∧
  (∀ (s : State) (h u : Nat) (x : Hewer), u < 64 → s.field.hewers = [(h, x)] →
    (x.st = 2 → x.armUnit = u → x.armCount < (s.trig u).fireCount → x.armRestart = false →
      exec (.hewerStartEdge u) s = .next (s.setHewer h { x with st := 1, rem := 0, edge := (s.trig u).firedEdge, delay := 0 })) ∧
    (x.st ≠ 2 ∨ x.armUnit ≠ u ∨ (s.trig u).fireCount ≤ x.armCount → exec (.hewerStartEdge u) s = .next s)) ∧
  (∀ (s : State) (h w : Nat) (j : Option Nat),
    let x := s.hewer h
    let t := x.rem + x.cfg.divFrac
    ((completeHw s h w j).hewer h).pc = (match j with
      | some a => if a % 64 < x.prog.length then a % 64 else x.loopTo
      | none => if x.pc + 1 < x.prog.length then x.pc + 1 else x.loopTo) ∧
    ((completeHw s h w j).hewer h).edge = x.edge + x.cfg.divInt + t / 256 ∧ ((completeHw s h w j).hewer h).rem = t % 256 ∧
    ((completeHw s h w j).hewer h).delay = delayOf w ∧ (completeHw s h w j).ctr cExecTicks h = s.ctr cExecTicks h + 1 ∧
    (s.tickDue h = false ∨ x.delay = 0 → delayTicks s h 1 = s) ∧
    (s.tickDue h = true → x.delay ≠ 0 → delayTicks s h 1 = (s.setHewer h {
      x with
      delay := x.delay - 1, rem := t % 256, edge := x.edge + x.cfg.divInt + t / 256 }).count cDelayTicks h))

/-- A PCIe access does not arrive while the link is down, is an unsupported request while an enable bit is 0 or no partition is
bound, and otherwise reaches space 0, 1 or 3 of the bound partition through BAR0, the MSI-X table and pending bits, or the
window of BAR2 as a speculative read in pieces or one posted write (R304 to R308); when a function goes down in the nanosecond
of a POP's completion its bytes are recovered (R308, R327; the nanosecond is the model's choice, log 44); AtomicOps run as a
locked read of their width (R324). An SPI frame out of form is answered with status 9, a posted one counted; an accepted one
enters the bridge as the bound partition's request (R310 to R313). A short frame without address is counted alone; 10 ms idle
marks the attachment down (R313). What the bridge accepts for this hub is served here: data or status go back to the host, a met
lock makes the request wait (R51, R317, R323). -/
def Obligations.HostAccesses : Prop :=
  (∀ (a bar off len op : Nat) (data : List Byte) (s : State), a < 8 → (bar = 0 ∨ bar = 2) →
    (pcieGate s a = .silent → exec (.pcieMemRead a bar off len) s = .next s ∧ exec (.pcieMemWrite a bar off data) s = .next s ∧
      exec (.pcieAtomic a bar off op data) s = .next s) ∧
    (pcieGate s a = .ur → exec (.pcieMemRead a bar off len) s = .next (s.emit (.reply a 1 false [])) ∧
      exec (.pcieMemWrite a bar off data) s = .next s ∧ exec (.pcieAtomic a bar off op data) s = .next (s.emit (.reply a 1 false []))) ∧
    (∀ p, pcieGate s a = .ok p → bar = 0 →
      (∀ n o, bar0At off len = .space n o → exec (.pcieMemRead a bar off len) s = .next (accept s
        { tag := noTag, kind := tRead, addr := { part := p, space := n, off := o }, len := len, part := p, att := a })) ∧
      (∀ o, bar0At off len = .msix o → exec (.pcieMemRead a bar off len) s = .next (s.emit (.reply a 0 false (bytesAt (msixBytes (s.att a)) o len)))) ∧
      (bar0At off len = .bad → exec (.pcieMemRead a bar off len) s = .next (s.emit (.reply a 1 false []))) ∧
      (∀ n o, bar0At off data.length = .space n o → exec (.pcieMemWrite a bar off data) s = .next (accept s
        { tag := noTag, kind := tWriteP, addr := { part := p, space := n, off := o }, len := data.length, data := data, part := p, att := a })) ∧
      (∀ n o, bar0At off data.length = .space n o → (op = 1 ∨ op = 2) → (data.length = 4 ∨ data.length = 8) →
        exec (.pcieAtomic a bar off op data) s = .next (accept s { tag := noTag, kind := tLockRead, addr := { part := p, space := n, off := o }
                                                                   len := data.length, part := p, att := a, atomic := op, operand := data }))) ∧
    (∀ p, pcieGate s a = .ok p → bar = 2 → 1 ≤ data.length → data.length ≤ 512 → off + data.length ≤ 2 ^ 28 →
      exec (.pcieMemWrite a bar off data) s = .next (accept s { tag := noTag, kind := tWriteP, addr := winAddr s a off, len := data.length
                                                                data := data, part := p, att := a })) ∧
    ((s.att a).pcieUp = false → exec (.pcieLinkDown a 2) s = .next (s.setAtt a { s.att a with bme := false })) ∧
    ((s.att a).pcieUp = false → exec (.pcieLinkDown a 0) s = .next (s.setAtt a {
      s.att a with
      linkUp := false, bme := false, mse := false, msix := [], msixPend := 0 })) ∧
    (∀ k, (s.att a).pcieUp = true → (s.att a).bound = none → (s.att a).popReply = some k → k.lt = s.lt → bitAt (s.att a).rcvStatus 0 = false → k.bytes ≤ 8 →
      k.data.length = 8 → k.flags < 8 → s.ring.outst = [] → s.bridge.outNp = [] → s.bridge.bParts = [] → ∃ t, exec (.pcieLinkDown a 2) s = .next t ∧
        (t.att a).rcvStatus = 1 + k.flags * 8 + k.bytes * 256 ∧ (t.att a).rcvData = leNat (k.data.take k.bytes) ∧ (t.att a).bme = false ∧
        t.ctr cPopRecovered a = s.ctr cPopRecovered a + 1) ∧
    ((s.att a).msixPend = 0 → exec (.pcieLinkUp a) s = .next (s.setAtt a { s.att a with linkUp := true, flr := false, bme := true, mse := true }))) ∧
  (∀ (cs len : Nat) (addr : RingAddr) (spec : Bool) (d : List Byte) (s : State), cs < 4 →
    let a := 8 + cs
    let t := s.setAtt a { s.att a with up := true }
    let dest := { addr with off := addr.off % 2 ^ 32 }
    (len = 0 ∨ 1024 < len → exec (.spiRead cs addr len spec) s = .next (t.emit (.reply a 9 false []))) ∧
    (d.length = 0 ∨ 1024 < d.length → exec (.spiWrite cs addr d) s = .next (t.count cSpiPostedFail a) ∧
      exec (.spiWriteNp cs addr d) s = .next (t.emit (.reply a 9 false []))) ∧
    (∀ p, (s.att a).bound = some p → s.isOpen 0 = true → 1 ≤ len → len ≤ 1024 → exec (.spiRead cs addr len spec) s = .next (accept t
      { tag := noTag, kind := tRead, addr := dest, len := len, spec := spec, part := p, att := a })) ∧
    (∀ p, (s.att a).bound = some p → s.isOpen 0 = true → 1 ≤ d.length → d.length ≤ 1024 →
      exec (.spiWrite cs addr d) s = .next (accept t { tag := noTag, kind := tWriteP, addr := dest, len := d.length, data := d, part := p, att := a }) ∧
      exec (.spiWriteNp cs addr d) s = .next (accept t { tag := noTag, kind := tWriteNp, addr := dest, len := d.length, data := d, part := p, att := a })) ∧
    (∀ p, (s.att a).bound = some p → s.isOpen 0 = true → d.length = 4 ∨ d.length = 8 →
      exec (.spiFetchadd cs addr d) s = .next (accept t { tag := noTag, kind := tLockRead, addr := dest, len := d.length, part := p, att := a, atomic := 1
                                                          operand := d }) ∧
      exec (.spiSwap cs addr d) s = .next (accept t { tag := noTag, kind := tLockRead, addr := dest, len := d.length, part := p, att := a, atomic := 2
                                                      operand := d })) ∧
    (∀ p, (s.att a).bound = some p → s.isOpen 0 = true → d.length = 8 ∨ d.length = 16 →
      exec (.spiCas cs addr d) s = .next (accept t { tag := noTag, kind := tLockRead, addr := dest, len := d.length / 2, part := p, att := a, atomic := 3
                                                     operand := d })) ∧
    (∀ cmd, exec (.spiShort cs cmd none len spec d) s = .next (t.count cSpiShort a)) ∧
    (∀ cmd, cmd ≠ 1 → d.length < len → exec (.spiShort cs cmd (some addr) len spec d) s = .next (t.count cSpiShort a)) ∧
    ((s.att a).up = false → exec (.spiCsIdleTimeout cs) s = .next s) ∧
    ((s.att a).up = true → exec (.spiCsIdleTimeout cs) s = .next (attDown (s.setAtt a { s.att a with up := false }) a))) ∧
  (∀ (s : State) (r : OutReq), r.isPop = false → r.atomic = 0 → s.boot.rescue = false → (s.part r.part).ktx22 = false → s.isLocal r.addr.node = true →
    s.ring.node < 251 → r.kind = tRead → 1024 ≤ r.tag → r.att < 8 → r.cut = false → r.read = false → bitAt (s.att r.att).rcvStatus 0 = false →
    let t := s.count cAttReads r.att
    let q := { r with tag := t.freeKey }
    let v := serveTx t q.tx
    (v.st = 0 → accept s r = v.s.emit (.reply r.att 0 false v.data)) ∧
    (v.st = 1 → accept s r = v.s.emit (.reply r.att 1 false [])) ∧
    (v.st = 2 → accept s r = v.s.emit (.reply r.att 2 false [])) ∧
    (v.st = 3 → accept s r = waitRetry v.s q))

/-- A request frame of a ring node is served as SRC_PART and answered by a completion, a posted write is applied and its failure
counted, and a stranger's is counted in HOST_UNKNOWN (R42, R51, R301, R315); an unmatched completion is counted (R54); a host's
read ends with its completion, or with TIMEOUT when its completion timeout expires, and leaves the outstanding list (R53, R54,
R317); what a PCIe function that went down asked for is discarded, but the bytes of a POP that took effect are recovered, its
flags free (R308, R327, log 44); a waiting request or posted write leaves when it may (R318 to R320); a request refused by a
lock ends with LOCKED_RETRY when LOCK_TIMEOUT + 10 µs have passed (R323); a lock held for LOCK_TIMEOUT is broken (R325). A write
of space 4 that the region allows and no lock meets stores its bytes there and changes no other byte and nothing else (R7,
R340). -/
def Obligations.BridgeAndMemory : Prop :=
  (∀ (f : GrtFrame) (r : State), r.boot.rescue = false → r.passThrough = false → bitsAt f.hdr.flags 6 2 = 1 → grtLenOk f = true →
    let s := takeFromQueue r 2 f
    let h := f.hdr
    let v := serveTx s { a := { node := h.srcNode, part := h.srcPart, spec := bitAt h.flags 5 }, p := h.srcPart, kind := h.typ, addr := h.addr
                         len := h.len, d := f.payload, tag := h.tag }
    let cpl := fun (d : List Byte) => sendCpl v.s { mac := macOfNode s.ring.ringId h.srcNode
                                                    hdr := cplHdr s h.srcPart h.addr h.tag d.length v.st h.typ, data := d }
    (s.fromNode f = false → s.hostOf f = none →
      (h.typ = tRead → exec (.read f) r = .next (s.count cHostUnknown 0)) ∧ (h.typ = tWriteP → exec (.writeP f) r = .next (s.count cHostUnknown 0)) ∧
      (h.typ = tWriteNp → exec (.writeNp f) r = .next (s.count cHostUnknown 0)) ∧
      (h.typ = tLockRead → exec (.lockRead f) r = .next (s.count cHostUnknown 0)) ∧
      (h.typ = tWriteUnlock → exec (.writeUnlock f) r = .next (s.count cHostUnknown 0))) ∧
    (s.fromNode f = true → v.st ≠ 8 → (serveTx r (nodeTx f)).st ≠ 8 →
      (h.typ = tRead → exec (.read f) r = .next (cpl (if v.st = 0 then v.data else []))) ∧
      (h.typ = tLockRead → exec (.lockRead f) r = .next (cpl (if v.st = 0 then v.data else []))) ∧
      (h.typ = tWriteNp → exec (.writeNp f) r = .next (cpl [])) ∧ (h.typ = tWriteUnlock → exec (.writeUnlock f) r = .next (cpl [])) ∧
      (h.typ = tWriteP → bitAt h.flags 4 = false → exec (.writeP f) r = .next (if v.st = 0 then v.s else v.s.count cGrtPostedFail 0))) ∧
    (s.fromNode f = true → (serveTx r (nodeTx f)).st = 8 → (h.typ = tRead → exec (.read f) r = .next (serveTx r (nodeTx f)).s) ∧
      (h.typ = tWriteP → exec (.writeP f) r = .next (serveTx r (nodeTx f)).s)) ∧
    (s.fromNode f = false → h.typ = tCompletion → exec (.completion f) r = .next (s.count cHostUnknown 0)) ∧
    (s.fromNode f = true → h.typ = tCompletion → s.ring.outst = [] → s.ring.late = [] → exec (.completion f) r = .next (s.count cGrtUnexpCpl 0)) ∧
    (∀ q, s.fromNode f = true → h.typ = tCompletion → s.ring.outst = [q] → q.tag = h.tag → q.addr.node = h.srcNode → q.retryNow = false → 0 < q.cells → q.kind = tRead →
      q.atomic = 0 → q.isPop = false → q.read = false → q.cut = false → q.att < 8 → infoAt h 16 1 = 0 →
      exec (.completion f) r = .next (((s.setRing { s.ring with outst := [] }).setBridge { s.bridge with cplIn := s.bridge.cplIn - q.cells }).emit
        (.reply q.att 0 false f.payload)))) ∧
  (∀ (s : State) (q : OutReq) (h : GrtHdr) (d : List Byte), s.ring.outst = [q] → q.tag = h.tag → q.addr.node = h.srcNode → q.retryNow = false → 0 < q.cells →
    q.atomic = 0 → q.read = false → q.cut = true → q.att < 8 → infoAt h 16 1 = 0 →
    (q.isPop = false → completionIn s h d = (s.setRing { s.ring with outst := [] }).setBridge { s.bridge with cplIn := s.bridge.cplIn - q.cells }) ∧
    (q.isPop = true → bitAt (s.att q.att).rcvStatus 0 = false → ∃ fl, fl < 8 ∧ completionIn s h d = loadRcv ({ s with fresh := s.fresh + 1 }.setRing
      { s.ring with outst := [] } |>.setBridge { s.bridge with cplIn := s.bridge.cplIn - q.cells }) q.att q.addr (d.take (min 8 d.length)) fl false false true)) ∧
  (∀ (s : State) (q : OutReq), s.ring.outst = [q] → s.ring.barriers = [] → (∀ k, (s.twin k).drillTag = none) → q.kind = tRead → q.isPop = false → q.read = false → q.cut = false → q.att < 8 →
    (q.retryNow = false → 0 < q.cells → q.sentAt + s.ring.cplTimeout * 100000 ≤ s.lt →
      exec (.grtTimeout q.tag) s = .next (((s.setRing { s.ring with outst := [], late := s.ring.late ++ [q] }).setBridge {
        s.bridge with
        cplIn := s.bridge.cplIn - q.cells }).emit (.reply q.att 2 false []))) ∧
    (s.lt < q.sentAt + s.ring.cplTimeout * 100000 → exec (.grtTimeout q.tag) s = .next s) ∧
    (q.retryNow = true → q.sentAt + 1000 ≤ s.lt → q.retrySince + s.bridge.lockTimeout * 1000 + 10000 ≤ s.lt →
      exec (.lockRetry q.tag) s = .next ((s.setRing { s.ring with outst := [] }).emit (.reply q.att 2 false []))) ∧
    (q.retryNow = false → exec (.lockRetry q.tag) s = .next s)) ∧
  (∀ (s : State), s.bridge.outC = [] →
    (s.bridge.outNp = [] → exec .npRequestIssue s = .next s) ∧
    (∀ q t, s.bridge.outNp = [q] → mayIssue s [] q = true → s.tagFor q = some t →
      exec .npRequestIssue s = .next (issue (s.setBridge { s.bridge with outNp := [] }) q t)) ∧
    (s.bridge.outP = [] → exec .postedWriteIssue s = .next s) ∧
    (∀ w r, s.bridge.outP = w :: r → s.ringRoom w.data.length = true →
      exec .postedWriteIssue s = .next (sendPosted (s.setBridge { s.bridge with outP := r }) w)) ∧
    (∀ w r, s.bridge.outP = w :: r → s.ringRoom w.data.length = false → exec .postedWriteIssue s = .next s)) ∧
  (∀ (s : State) (sp gran : Nat),
    (s.lockOf sp gran = none → exec (.lockTimeoutExpiry sp gran) s = .next s) ∧
    (∀ l, s.lockOf sp gran = some l → s.lt < l.atNs + s.bridge.lockTimeout * 1000 → exec (.lockTimeoutExpiry sp gran) s = .next s) ∧
    (∀ l, s.lockOf sp gran = some l → l.atNs + s.bridge.lockTimeout * 1000 ≤ s.lt → ∃ v, exec (.lockTimeoutExpiry sp gran) s = .next v ∧
      v.lockOf sp gran = none ∧ v.ctr cLockBrokenCount 0 = s.ctr cLockBrokenCount 0 + 1 ∧ v.island = s.island ∧
      ∀ k, k ∈ v.bridge.locks ↔ k ∈ s.bridge.locks ∧ ¬(k.space = sp ∧ k.gran = gran))) ∧
  (∀ (a : Acc) (addr : RingAddr) (data : List Byte) (s : State) (p : Nat), MemoriesWf s → s.who a = some p → s.isOpen p = true → s.boot.rescue = false →
    s.isLocal addr.node = true → s.crossable 2 = true → s.island.badWords = [] → addr.part = p → addr.space = 4 → (s.part p).ktx22 = false → 1 ≤ data.length → addr.off + data.length ≤ 1572864 →
    sramAllows s p addr.off data.length true = true → s.bridge.locks = [] →
    ∃ m, exec (.registerWrite a addr data) s = .next { s.arrived a cAttWrites with island := { s.island with sram := m } } ∧ Memory.wf m = true ∧
      memRead m addr.off data.length = data ∧ ∀ k, k < addr.off ∨ addr.off + data.length ≤ k → memGet m k = memGet s.island.sram k)

/-- A write of MBX_SQ_TAIL that moves the tail forward and leaves at most 256 slots between head and tail, or of MBX_CQ_HEAD
that moves the head forward and not past MBX_CQ_TAIL, writes that index of the writer's partition and nothing else (R348, R349).
Any other write leaves all four indices as they were, sets DOORBELL_ERR, counts MBX_BAD_DOORBELL and raises the notice. One that
came through an attachment counts in its ATT_WRITES (R329). -/
def Obligations.DoorbellsMoveForwardOnly : Prop :=
  ∀ (a : Acc) (p v : Nat) (o : State), o.who a = some p → o.isOpen p = true → v < 65536 →
    let s := o.arrived a cAttWrites
    let x := s.part p
    ((v + 65536 - x.sqHead) % 65536 ≤ 256 → (x.sqTail + 65536 - x.sqHead) % 65536 ≤ (v + 65536 - x.sqHead) % 65536 →
      exec (.mbxSqTailWrite a v) o = .next (s.setPart p { x with sqTail := v })) ∧
    ((256 < (v + 65536 - x.sqHead) % 65536 ∨ (v + 65536 - x.sqHead) % 65536 < (x.sqTail + 65536 - x.sqHead) % 65536) →
      exec (.mbxSqTailWrite a v) o =
        .next (raise ((s.setPart p { x with doorbellErr := true }).count cMbxBadDoorbell p) (srcDiag (284 + p)) 2 0)) ∧
    ((x.cqTail + 65536 - v) % 65536 ≤ (x.cqTail + 65536 - x.cqHead) % 65536 →
      exec (.mbxCqHeadWrite a v) o = .next (s.setPart p { x with cqHead := v })) ∧
    ((x.cqTail + 65536 - x.cqHead) % 65536 < (x.cqTail + 65536 - v) % 65536 →
      exec (.mbxCqHeadWrite a v) o =
        .next (raise ((s.setPart p { x with doorbellErr := true }).count cMbxBadDoorbell p) (srcDiag (284 + p)) 2 0))

/-- COMMAND_START copies the descriptor at MBX_SQ_HEAD and advances the head by one; an unknown opcode then completes with
BAD_OPCODE and no other effect; a known one starts as its own command does; with no completion room only CQ_WAIT is set and the
head stays. ASYNC_COMPLETE runs the oldest accepted command of a tag, under its own checks, to its final completion.
COMMAND_OVERRUN ends the oldest service command past ten times its bound, or 100 ms, with FIRMWARE_FAULT and the fault 0x0A. -/
def Obligations.SubmissionOrderAndOverrun : Prop :=
  (∀ (p : Nat) (s : State), p < 16 → s.mbxReady p = true → (s.part p).blocked = false → (s.pair 0).halted = false →
    (s.part p).sqHead ≠ (s.part p).sqTail →
    let op := (slotDesc s p ((s.part p).sqHead % 256)).1
    let d := (slotDesc s p ((s.part p).sqHead % 256)).2
    let t := s.setPart p { s.part p with cqWait := false, sqHead := ((s.part p).sqHead + 1) % 65536 }
    ((s.part p).cqRoom = 0 → exec (.commandStart p) s = .next (s.setPart p { s.part p with cqWait := true })) ∧
    (2 ≤ (s.part p).cqRoom → rowOf op = none → exec (.commandStart p) s = .next (ends t d stBadOpcode)) ∧
    (∀ r, 2 ≤ (s.part p).cqRoom → rowOf op = some r → op ≠ 0x0310 → exec (.commandStart p) s = .next (runCmd r.info d r.body t))) ∧
  (∀ (p tag : Nat) (a : Async) (rest : List Async) (r : CmdRow) (s : State), p < 16 →
    takeFirst (fun (x : Async) => !x.begun && x.desc.tag == tag) (s.part p).cmds = some (a, rest) →
    s.serviceStalled = false → (a.stalled = false ∨ s.pairHalted = false) → (s.pair 0).halted = false → s.mbxReady p = true → rowOf a.opcode = some r → a.opcode ≠ 0x0310 →
    let t := s.setPart p { s.part p with cmds := rest }
    exec (.asyncComplete p tag) s =
      .next (endCmd t a.desc a.opcode a.bulk a.async (runBody r.info r.body { cmdOf t a.desc with bulk := a.bulk } t))) ∧
  (∀ (p : Nat) (a : Async) (rest : List Async) (s : State), p < 16 → (s.pair 0).halted = false →
    takeFirst (fun (x : Async) => x.service && decide (x.due + overrunNs s x ≤ s.lt)) (s.part p).cmds = some (a, rest) → a.begun = true →
    exec (.commandOverrun p) s = .next (detectCode (ends ({ s.setPart p { s.part p with cmds := rest } with fresh := s.fresh + 1 })
      a.desc stFwFault) 0x0A a.opcode))

/-- DEV_INFO answers the profile's capability registers and changes nothing. PART_CREATE makes an ABSENT partition 1 to 15 OPEN
with empty rings, owning nothing in profile 0 and exactly its view's resources, taken from partition 0, in profile 1. PART_RESET
by partition 0 begins the reset, RESETTING until an instant at most 2 ms later that stays open, and its command completes with
OK at the reset's end; a partition that resets itself gets no completion. PART_DESTROY begins the same reset; at its end every
attachment is unbound, what was owned is returned, the partition is ABSENT and the command completes with OK (R332). Nothing
else changes but the issuer's completion. So devInfo, partCreate, partReset and partDestroy COMPLETE: exec answers next, the
state given, on every state and descriptor that meet the conditions of their clause. -/
def Obligations.PartitionLifeCommands : Prop :=
  ∀ (d : Desc) (s : State),
    let t := begins s d.part
    let c := cmdOf t d
    (runs iDevInfo d s = true →
      exec (.devInfo d) s = .next (ends t d stOk (leBytes 8 (devCaps0 (t.part d.part).ktx22)
        ++ leBytes 8 (devCaps1 t (t.part d.part).ktx22) ++ leBytes 8 (fwStatus t)))) ∧
    (runs iPartCreate d s = true → 1 ≤ c.u 8 1 → c.u 8 1 ≤ 15 → c.u 9 1 = 0 → c.u 10 1 = 0 → c.u 12 4 = 0 → c.u 16 2 = 0 →
      (t.part (c.u 8 1)).st = 0 →
      exec (.partCreate d) s = .next (ends (t.setPart (c.u 8 1) { st := 1 }) d stOk)) ∧
    (runs iPartCreate d s = true → 1 ≤ c.u 8 1 → c.u 8 1 ≤ 15 → c.u 9 1 = 1 → c.u 10 1 ≤ 15 →
      ((c.bytes 12 4).map BitVec.toNat).all (fun k => decide (k < 24)) = true → c.u 16 2 % 256 = 0 → c.u 16 2 ≤ 3840 →
      (viewRes (c.u 10 1) (c.u 16 2) ((c.bytes 12 4).map BitVec.toNat)).all (fun r => t.owns 0 r.1 r.2) = true →
      (viewRes (c.u 10 1) (c.u 16 2) ((c.bytes 12 4).map BitVec.toNat)).all (fun r => !t.fwHeld r.1 r.2) = true → (t.part (c.u 8 1)).st = 0 →
      exec (.partCreate d) s = .next (ends (forEach (viewRes (c.u 10 1) (c.u 16 2) ((c.bytes 12 4).map BitVec.toNat))
        (t.setPart (c.u 8 1) { st := 1, ktx22 := true, bank := c.u 10 1, chans := (c.bytes 12 4).map BitVec.toNat,
                               qbase := c.u 16 2 })
        (fun r x => moveRes x r.1 r.2 (c.u 8 1))) d stOk)) ∧
    (runs iPartReset d s = true → t.exists_ (c.u 8 1) = true → c.u 8 1 ≠ 0 → d.part = 0 →
      let v := beginReset t (c.u 8 1)
      (v.part (c.u 8 1)).st = 2 ∧ v.lt ≤ (v.part (c.u 8 1)).resetEnd ∧ (v.part (c.u 8 1)).resetEnd ≤ v.lt + 2000000 ∧
      exec (.partReset d) s = .next (v.setPart 0 {
        v.part 0 with
        cmds := (v.part 0).cmds ++
        [{ part := 0, opcode := 0x0103, desc := d, bulk := c.bulk, async := false, gone := true, begun := true, service := false,
           due := v.lt }] })) ∧
    (runs iPartReset d s = true → t.exists_ (c.u 8 1) = true → c.u 8 1 ≠ 0 → d.part = c.u 8 1 →
      exec (.partReset d) s = .next (beginReset t (c.u 8 1))) ∧
    (∀ p a, p ≠ 0 → (s.part 0).cmds = [a] → waitsReset p a = true → a.opcode = 0x0103 →
      endReset s p = finalCpl ((s.setPart p { s.part p with st := 1 }).setPart 0 { s.part 0 with cmds := [] }) a.desc stOk []) ∧
    (runs iPartDestroy d s = true → t.exists_ (c.u 8 1) = true → c.u 8 1 ≠ 0 →
      let v := beginReset t (c.u 8 1)
      (v.part (c.u 8 1)).st = 2 ∧ v.lt ≤ (v.part (c.u 8 1)).resetEnd ∧ (v.part (c.u 8 1)).resetEnd ≤ v.lt + 2000000 ∧
      exec (.partDestroy d) s = .next (v.setPart 0 {
        v.part 0 with
        cmds := (v.part 0).cmds ++
        [{ part := 0, opcode := 0x0102, desc := d, bulk := c.bulk, async := false, gone := true, begun := true, service := false,
           due := v.lt }] })) ∧
    (∀ p a, p ≠ 0 → (s.part 0).cmds = [a] → waitsReset p a = true → a.opcode = 0x0102 →
      ∃ u, endReset s p = finalCpl u a.desc stOk [] ∧ u.part p = {} ∧ (u.part 0).cmds = [] ∧ ∀ k, k < 28 → (u.att k).bound ≠ some p)

/-- PART_BIND to the partition already bound changes nothing; otherwise the attachment's binding, its recovery register and its
WIN_BASE.PART change, after the attachment went down for its former partition. HOST_SET writes the host table entry and binds
attachment 12 + ENTRY to its partition, or to none when the entry is not valid. SRAM_REGION_SET writes one region and nothing
else. A CMD_ABORT of a command before its point of no return writes that command's ABORTED completion and its own OK; past that
point it changes nothing. So partBind, hostSet, sramRegionSet and cmdAbort COMPLETE: exec answers next, the state given, on
every state and descriptor that meet the conditions of their clause. -/
def Obligations.BindingAndRegionCommands : Prop :=
  ∀ (d : Desc) (s : State),
    let t := begins s d.part
    let c := cmdOf t d
    (runs iPartBind d s = true → c.u 8 1 ≤ 27 → t.exists_ (c.u 9 1) = true → c.u 9 1 ≠ 0xFF →
      keepsZero t (c.u 8 1) (some (c.u 9 1)) = true → t.attBusy (c.u 8 1) = false →
      exec (.partBind d) s = .next (ends (rebind t (c.u 8 1) (some (c.u 9 1))) d stOk)) ∧
    (runs iPartBind d s = true → c.u 8 1 ≤ 27 → c.u 9 1 = 0xFF →
      keepsZero t (c.u 8 1) none = true → t.attBusy (c.u 8 1) = false →
      exec (.partBind d) s = .next (ends (rebind t (c.u 8 1) none) d stOk)) ∧
    (runs iHostSet d s = true → c.u 8 1 ≤ 15 → c.u 22 1 ≤ 5 → c.u 23 1 ≤ 3 → c.u 24 2 < 4096 → c.u 26 1 < 16 → c.u 27 5 = 0 →
      t.exists_ (c.u 26 1) = true → t.attBusy (12 + c.u 8 1) = false →
      keepsZero t (12 + c.u 8 1) (if bitAt (c.u 23 1) 0 then some (c.u 26 1) else none) = true →
      ∃ u, exec (.hostSet d) s = .next (ends u d stOk) ∧
        u.host (c.u 8 1) = { mac := c.u 16 6, port := c.u 22 1, valid := bitAt (c.u 23 1) 0, macsecReq := bitAt (c.u 23 1) 1,
                             vlan := c.u 24 2, part := c.u 26 1 } ∧
        (u.att (12 + c.u 8 1)).bound = (if bitAt (c.u 23 1) 0 then some (c.u 26 1) else none) ∧
        ∀ e, e ≠ c.u 8 1 → u.host e = t.host e) ∧
    (runs iSramRegionSet d s = true → c.u 8 1 ≤ 15 → t.exists_ (c.u 9 1) = true → c.u 12 4 % 4096 = 0 → c.u 16 4 % 4096 = 0 →
      c.u 12 4 + c.u 16 4 ≤ 1572864 →
      (∀ k, k < 16 → k ≠ c.u 8 1 → (t.region k).size ≠ 0 → c.u 16 4 ≠ 0 →
        c.u 12 4 ≥ (t.region k).base + (t.region k).size ∨ (t.region k).base ≥ c.u 12 4 + c.u 16 4) →
      t.bridge.locks = [] →
      exec (.sramRegionSet d) s = .next (ends (t.setRegion (c.u 8 1)
        { base := c.u 12 4, size := c.u 16 4, owner := c.u 9 1, readers := c.u 10 2 }) d stOk)) ∧
    (∀ (a : Async) (rest : List Async), runs iCmdAbort d s = true →
      takeFirst (fun (x : Async) => x.async && x.desc.tag == c.u 8 4) (t.part d.part).cmds = some (a, rest) →
      lateReturn.contains a.opcode = true → a.gone = false →
      exec (.cmdAbort d) s = .next (ends (ends (t.setPart d.part { t.part d.part with cmds := rest }) a.desc stAborted) d stOk)) ∧
    (∀ (a : Async) (rest : List Async), runs iCmdAbort d s = true →
      takeFirst (fun (x : Async) => x.async && x.desc.tag == c.u 8 4) (t.part d.part).cmds = some (a, rest) →
      (lateReturn.contains a.opcode = false ∨ a.gone = true) →
      exec (.cmdAbort d) s = .next (ends t d stOk))

/-- RES_ASSIGN of an idle resource that firmware does not hold moves its owner and clears its counters, and for an event source
moves the source alone. RES_SUBSCRIBE appends one of up to four subscribers, RES_UNSUBSCRIBE removes one, RES_QUERY and RES_LIST
read. Each changes nothing else. So resAssign, resSubscribe, resUnsubscribe, resQuery and resList COMPLETE: exec answers next,
the state given, on every state and descriptor that meet the conditions of their clause. -/
def Obligations.OwnershipCommands : Prop :=
  ∀ (d : Desc) (s : State),
    let t := begins s d.part
    let c := cmdOf t d
    (∀ cls i, runs iResAssign d s = true → localRes t d.part (c.u 8 4) = some (cls, i) → t.exists_ (c.u 12 1) = true →
      t.fwHeld cls i = false → cls ≠ 6 → t.idle cls i = true →
      exec (.resAssign d) s = .next (ends (moveRes t cls i (c.u 12 1)) d stOk)) ∧
    (∀ i, runs iResAssign d s = true → localRes t d.part (c.u 8 4) = some (6, i) → t.exists_ (c.u 12 1) = true →
      t.fwHeld 6 i = false → fixedSource i = false →
      exec (.resAssign d) s = .next (ends (moveSource t i (c.u 12 1)) d stOk)) ∧
    (∀ cls i, runs iResSubscribe d s = true → localRes t d.part (c.u 8 4) = some (cls, i) → t.exists_ (c.u 12 1) = true →
      c.u 12 1 ≠ t.resOwner cls i → (t.subsOf cls i).length < 4 → (t.subsOf cls i).contains (c.u 12 1) = false →
      exec (.resSubscribe d) s = .next (ends (setSubs t cls i (t.subsOf cls i ++ [c.u 12 1])) d stOk)) ∧
    (∀ cls i, runs iResUnsubscribe d s = true → localRes t d.part (c.u 8 4) = some (cls, i) → t.exists_ (c.u 12 1) = true →
      (t.subsOf cls i).contains (c.u 12 1) = true →
      exec (.resUnsubscribe d) s = .next (ends (setSubs t cls i ((t.subsOf cls i).filter (· != c.u 12 1))) d stOk)) ∧
    (∀ cls i, runs iResQuery d s = true → localRes t d.part (c.u 8 4) = some (cls, i) →
      exec (.resQuery d) s = .next (ends t d stOk (leBytes 1 (t.resOwner cls i) ++ leBytes 1 (t.subsOf cls i).length
        ++ (List.range 4).map (fun k => BitVec.ofNat 8 ((t.subsOf cls i).getD k 0xFF))
        ++ leBytes 1 (b2n (t.fwHeld cls i) + 2 * b2n (t.idle cls i))))) ∧
    (∀ l, runs iResList d s = true → classSize (c.u 8 1) ≠ 0 → c.u 9 1 ≤ 1 → d.bulkLen % 8 = 0 → c.owned = true →
      l = (List.range (classSize (c.u 8 1))).filter (fun i =>
        t.resOwner (c.u 8 1) i == d.part || (c.u 9 1 == 1 && (t.subsOf (c.u 8 1) i).contains d.part)) →
      4 * l.length ≤ d.bulkLen →
      exec (.resList d) s = .next (ends t d stOk (resOf [(0, 4, l.length)])
        (l.flatMap (fun i => leBytes 4 (c.u 8 1 * 65536 + i)))))

/-- EVQ_SET binds event delivery to a disabled unbound queue the partition owns, with a host consumer, pinned, its counters at
0; naming the queue already bound changes nothing; a queue in use is BUSY (R365). EVT_CFG writes a source's parameters and ends
its storm and window (R368, R373); EVT_STATUS reads. EVQ_HEAD moves forward within the committed records and re-arms; otherwise
it is ignored and counted; so is a bad EVQ_CTRL (R367, R369). FAULT_FIRST and FAULT_COUNT clear together (R376); a recovery
register clears whole, for the bound partition only (R327). So evqSet, evtCfg, evtStatus, evqHeadWrite, evqCtrlWrite,
faultFirstClear and rcvStatusClear COMPLETE: exec answers next, the state given, on every state and operands that meet the
conditions of their clause. -/
def Obligations.EventQueueAndSources : Prop :=
  (∀ (d : Desc) (s : State),
    let t := begins s d.part
    let c := cmdOf t d
    (∀ q, runs iEvqSet d s = true → c.u 8 2 < 4096 → t.viewQueue d.part (c.u 8 2) = some q → c.u 10 1 ≤ 1 → (t.queue q).fwUse = 0 →
      t.owns d.part 5 q = true → (t.part d.part).evq = none → (t.queue q).enable = false → (t.queue q).prod = .none →
      (t.queue q).cons = .none → t.boundAtts d.part 8 12 = [] →
      exec (.evqSet d) s = .next (ends ((t.setQueue q { t.queue q with prod := .event d.part, cons := .host, hold := c.u 10 1 == 1, pin := true }).setPart
        d.part { t.part d.part with evq := some q, evqHead := 0, evqTail := 0, evqTimes := [], fired := false }) d stOk)) ∧
    (∀ q, runs iEvqSet d s = true → c.u 8 2 < 4096 → t.viewQueue d.part (c.u 8 2) = some q → c.u 10 1 ≤ 1 → (t.queue q).fwUse = 0 →
      t.owns d.part 5 q = true → (t.part d.part).evq = some q → exec (.evqSet d) s = .next (ends t d stOk)) ∧
    (∀ q, runs iEvqSet d s = true → c.u 8 2 < 4096 → t.viewQueue d.part (c.u 8 2) = some q → c.u 10 1 ≤ 1 → (t.queue q).fwUse = 0 →
      t.owns d.part 5 q = true → (t.part d.part).evq ≠ some q → (t.queue q).enable = true → exec (.evqSet d) s = .next (ends t d stBusy)) ∧
    (∀ e, runs iEvtCfg d s = true → localRes t d.part (c.u 8 4) = some (6, e) → c.u 14 2 ≠ 0 → c.u 16 2 ≠ 0 → c.u 18 1 ≤ 250 →
      t.sourceOwner e = some d.part →
      let x := (t.source e).settle t.lt
      exec (.evtCfg d) s = .next (ends (t.setSource e {
        x with
        mask := c.u 12 2, stormN := c.u 14 2, stormWin := c.u 16 2, fwd := c.u 18 1, offHi := c.u 20 2
        storm := false, after := x.after || x.storm, winAt := none }) d stOk)) ∧
    (∀ e, runs iEvtCfg d s = true → localRes t d.part (c.u 8 4) = some (6, e) → c.u 14 2 ≠ 0 → c.u 16 2 ≠ 0 → c.u 18 1 ≤ 250 →
      t.sourceOwner e ≠ some d.part → exec (.evtCfg d) s = .next (ends t d stNotOwner)) ∧
    (∀ e, runs iEvtStatus d s = true → localRes t d.part (c.u 8 4) = some (6, e) → t.sourceOwner e = some d.part →
      let x := (t.source e).settle t.lt
      exec (.evtStatus d) s = .next (ends t d stOk (resOf [(0, 1, b2n x.storm), (8, 8, if x.storm then x.stormSup else 0)])))) ∧
  (∀ (a : Acc) (p v : Nat) (o : State), o.who a = some p → o.isOpen p = true →
    let s := o.arrived a cAttWrites
    let x := s.part p
    ((v % 4294967296 + 4294967296 - x.evqHead) % 4294967296 > x.pendingRecs →
      exec (.evqHeadWrite a v) o = .next (s.count cEvqBadWrite p)) ∧
    (x.evqTail < 4294967296 → x.evqHead < 4294967296 → v = x.evqTail → s.boundAtts p 8 12 = [] → 1 ≤ x.countMod →
      exec (.evqHeadWrite a v) o = .next (s.setPart p {
        x with
        evqHead := v, evqTimes := x.evqTimes.drop x.pendingRecs, fired := false, headAt := s.lt })) ∧
    (evqCtrlBad s p v = true → exec (.evqCtrlWrite a v) o = .next (s.count cEvqBadWrite p)) ∧
    (evqCtrlBad s p v = false → s.boundAtts p 8 12 = [] → x.fired = true →
      exec (.evqCtrlWrite a v) o = .next (s.setPart p {
        x with
        target := bitsAt v 16 2, vector := bitsAt v 18 6, countMod := bitsAt v 32 11, timeMod := bitsAt v 48 16 })) ∧
    exec (.faultFirstClear a) o = .next (s.setPart p {
      x with
      ffValid := false, ffLevel := 0, ffCode := 0, ffDetail := 0, ffTime := 0, fcCount := 0, fcMax := 0 }) ∧
    (∀ att, att < 28 → (s.att att).bound = some p → exec (.rcvStatusClear a att) o =
      .next (s.setAtt att { s.att att with rcvStatus := 0, rcvAddr := 0, rcvData := 0 })) ∧
    (∀ att, att < 28 → (s.att att).bound ≠ some p → exec (.rcvStatusClear a att) o = .next s))

/-- A masked cause is only counted in MASKED; in storm state a record is only counted in SUPPRESSED; the record after STORM_N of
one window is replaced by one storm record (R368, R373). Without a bound event queue, or for a partition that is not open, the
record is lost and counted (R364, R366). An EVENT frame of another node is committed with its node and sets no summary bit.
STORM_END ends the storm of a source that was quiet for STORM_WINDOW and raises nothing; NOTIFICATION_TIMEOUT of an armed
partition with a due time trigger and TARGET 0 sets FIRED. So event, stormEnd and notificationTimeout COMPLETE: exec answers
next, the state given, on every state and operands that meet the conditions of their clause. -/
def Obligations.EventRecords : Prop :=
  (∀ (s : State) (src cause data : Nat), (s.source src).storm = false →
    let x := s.source src
    (1 ≤ cause → cause ≤ 16 → bitAt x.mask (cause - 1) = false →
      raise s src cause data = s.setSource src { x with masked := x.masked + 1 }) ∧
    (17 ≤ cause → cause ≤ 32 → bitAt x.offHi (cause - 17) = true →
      raise s src cause data = s.setSource src { x with masked := x.masked + 1 }) ∧
    (∀ w, 1 ≤ cause → cause ≤ 16 → bitAt x.mask (cause - 1) = true → x.winAt = some w → s.lt < w + x.stormWin * 1000000 →
      (x.stormN < x.winCnt + 1 → raise s src cause data = deliverRecord (s.setSource src {
        x with
        winCnt := x.winCnt + 1, lastAt := s.lt, storm := true, suppressed := x.suppressed + 1, stormSup := 1 }) src 0xFF 1 x.stormN) ∧
      (x.winCnt + 1 ≤ x.stormN → x.after = false → raise s src cause data =
        deliverRecord (s.setSource src { x with winCnt := x.winCnt + 1, lastAt := s.lt }) src cause 0 (data % 16777216)))) ∧
  (∀ (s : State) (src cause data : Nat), (s.source src).storm = true → s.lt < (s.source src).lastAt + (s.source src).stormWin * 1000000 →
    1 ≤ cause → cause ≤ 16 → bitAt (s.source src).mask (cause - 1) = true →
    let x := s.source src
    raise s src cause data = s.setSource src { x with suppressed := x.suppressed + 1, stormSup := x.stormSup + 1, lastAt := s.lt }) ∧
  (∀ (s : State) (p src node cause flags data time : Nat),
    ((s.part p).st ≠ 1 → commitRecord s p src node cause flags data time = s.count cHubEvqLost 0) ∧
    ((s.part p).st = 1 → (s.part p).evq = none → commitRecord s p src node cause flags data time = s.count cEvqLost p) ∧
    (∀ q, (s.part p).st = 1 → (s.part p).evq = some q → (s.queue q).enable = true → (s.queue q).opn = none → (s.queue q).flushPending = false →
      (s.queue q).lostBefore = false → (s.queue q).charged < (s.queue q).limit → (s.queue q).pin = true → 0 < s.onFree → (s.part p).fired = true →
      let t := commitRecord s p src node cause flags data time
      ∃ c, (t.part p).evqTail = ((s.part p).evqTail + 1) % 4294967296 ∧
        (t.queue q).fresh = (s.queue q).fresh ++ [{ bytes := recordBytes src node cause flags data time, cells := [c], committedAt := s.work, seq := s.pool.commits, atLt := s.lt }] ∧
        t.ctr cEvqLost p = s.ctr cEvqLost p ∧ t.ctr cEnqPackets q = s.ctr cEnqPackets q + 1 ∧
        (node ≠ 0 → (t.part p).summary = (s.part p).summary))) ∧
  (∀ (f : GrtFrame) (r : State), r.passThrough = false → bitsAt f.hdr.flags 6 2 = 1 → f.hdr.typ = tEvent → grtLenOk f = true →
    let s := takeFromQueue r 2 f
    let d := f.payload
    s.fromNode f = true → (beAt d 0 2 < srcPort 0 0 ∨ srcPort 1 1 < beAt d 0 2) →
      exec (.event f) r = .next (commitRecord s f.hdr.addr.part (beAt d 0 2 % 8192) f.hdr.srcNode (beAt d 3 1) (beAt d 4 1 % 8) (beAt d 5 3)
        (beAt d 8 8))) ∧
  (∀ (s : State) (src : Nat), src < 8192 →
    let x := s.source src
    (x.storm = true → x.lastAt + x.stormWin * 1000000 ≤ s.lt →
      exec (.stormEnd src) s = .next (s.setSource src { x with storm := false, after := true, winAt := none })) ∧
    ((x.storm = false ∨ s.lt < x.lastAt + x.stormWin * 1000000) → exec (.stormEnd src) s = .next (s.setSource src x))) ∧
  (∀ (s : State) (p : Nat), p < 16 → (∀ e ∈ s.queues, e.2.ring = none) → (∀ q, (s.queue q).ring = none) →
    let x := s.part p
    ((x.fired = true ∨ x.pendingRecs = 0 ∧ 1 ≤ x.countMod) → exec (.notificationTimeout p) s = .next s) ∧
    (x.fired = false → 1 ≤ x.pendingRecs → x.timeMod ≠ 0 → max (x.evqTimes.headD 0) x.headAt + x.timeMod * 1000 ≤ s.lt → x.target = 0 →
      exec (.notificationTimeout p) s = .next (s.setPart p { x with fired := true })))

/-- Every detected fault advances its code's counter (R374). With none handled, a level 0 fault is recorded for partition 0, a
level 1 fault takes its local action and is handled; a second level 2 fault during the handling of one escalates to a warm reset
in 10 µs with FAULT_N low (R378); a level 0 or 1 fault then waits or merges. In safe halt a fault is only counted.
FAULT_QUEUED_HANDLE ends the handled fault and begins the next that waits. A closed pair, a running watchdog, a reading below
every threshold and a port island's clock raise nothing. So faultDetected, faultQueuedHandle, lockstepMismatch, firewallBlock
and watchdogExpiry COMPLETE: exec answers next, the state given, on every state and operands that meet the conditions of their
clause. -/
def Obligations.FaultLadder : Prop :=
  (∀ (s : State) (code detail : Nat), 1 ≤ code → code ≤ 0x13 → code ≠ 0x02 →
    (∀ l, s.faults.safeHalt = true → faultLevel s code detail = some l → exec (.faultDetected code detail) s = .next (s.count cFaults code)) ∧
    (faultLevel s code detail = none → exec (.faultDetected code detail) s = .next s) ∧
    (∀ l, faultLevel s code detail = some l → s.faults.safeHalt = false → s.faults.resetting = false → (s.pair 0).halted = false →
      let u := s.count cFaults code
      let f : Flt := { code := code, level := l, detail := detail, atNs := s.work, parts := faultParts s code detail }
      (s.faults.handling = [] → l = 3 → exec (.faultDetected code detail) s = .next (goFatal (faultRegs u f) f)) ∧
      (s.faults.handling = [] → l = 0 → exec (.faultDetected code detail) s = .next (faultRecord u 0 f)) ∧
      (s.faults.handling = [] → l = 1 ∨ l = 2 → exec (.faultDetected code detail) s = .next (beginFault (faultRegs u f) f)) ∧
      (∀ g r, s.faults.handling = g :: r → g.level = 2 → l = 2 →
        exec (.faultDetected code detail) s = .next (goFatal (faultRegs u { f with level := 3 }) { f with level := 3 })) ∧
      (∀ g r, s.faults.handling = g :: r → g.level ≤ 2 → l ≤ 1 → s.faults.queued = [] →
        exec (.faultDetected code detail) s = .next (faultRegs (u.setFaults { s.faults with queued := [f] }) f)))) ∧
  (∀ (s : State) (q : Nat), exec (.faultDetected 0x02 q) s = .next (detectCode (poisonQueue s q) 0x02 q) ∧ (poisonQueue s q).queues = s.queues) ∧
  (∀ (s : State) (f : Flt), (goFatal s f).faults.fatal = some f ∧ (goFatal s f).faults.handling = [f] ∧ (goFatal s f).faults.queued = [] ∧
    (goFatal s f).faults.faultN = false ∧ (goFatal s f).boot.resetAt = some ((lastGasp s).lt + 10000, 5)) ∧
  (∀ (s : State) (p : Nat) (f : Flt), (faultReg s p f).part p = if (s.part p).ffValid then
      { s.part p with fcCount := satNat 0xFFFFFFFF ((s.part p).fcCount + 1), fcMax := max (s.part p).fcMax f.level }
    else { s.part p with ffValid := true, ffLevel := f.level, ffCode := f.code, ffDetail := f.detail % 65536, ffTime := f.atNs / 1000 % 4294967296 }) ∧
  (∀ (s : State), (s.pair 0).halted = false → s.faults.safeHalt = false → s.faults.resetting = false →
    (∀ g r, s.faults.handling = g :: r → g.level ≤ 2 → s.faults.queued = [] → exec .faultQueuedHandle s = .next (s.setFaults {
      s.faults with
      handling := r, faultN := s.faults.faultN || (s.boot.running && !r.any (fun h => decide (2 ≤ h.level))) })) ∧
    (∀ g f q, s.faults.handling = [g] → g.level ≤ 2 → s.faults.queued = f :: q → exec .faultQueuedHandle s = .next (beginFault
      (s.setFaults { s.faults with handling := [], queued := q, faultN := s.faults.faultN || s.boot.running }) f))) ∧
  (∀ (s : State) (p : Nat), p < 3 →
    (((s.pair p).ok = false ∨ (s.pair p).closed = true) → exec (.lockstepMismatch p) s = .next s ∧ exec (.firewallBlock p) s = .next s) ∧
    ((s.pair p).ok = true → (s.pair p).closed = false →
      exec (.lockstepMismatch p) s = .next (detectCode (s.setPair p { s.pair p with closed := true }) (if p = 0 then 0x08 else 0x07) p) ∧
      exec (.firewallBlock p) s = .next (detectCode s 0x0B p))) ∧
  (∀ (s : State), ((s.ctl.wdRun = false ∨ (s.pair 0).halted = true ∨ s.lt < s.ctl.wdAt + 50000000) → exec .watchdogExpiry s = .next s) ∧
    (s.ctl.wdRun = true → (s.pair 0).halted = false → s.ctl.wdAt + 50000000 ≤ s.lt → exec .watchdogExpiry s = .next (detectCode s 0x09 0)))

/-- A clock alarm on a main-die island other than a port island and a rail out of band are faults 0x0C and 0x0D (R375); a port
island raises none. A reading at or below 115 °C raises nothing; an upward crossing raises each threshold's fault once until
every sensor is back below the re-arm level (R537). A corrected memory error is counted and reported as 0x01; parity errors and
uncorrectable memory errors as their codes, and the word they lie in reads as bad (R51, R375, R381). A lost die link is fault
0x11. A halt needs a debug level that reaches the hart; the watchdog pauses with hart 0 (R422, R428, R431). A debugger access
that the level does not allow ends with a bus error and is counted in DEBUG_DENIED, an allowed one reads or writes firmware SRAM
or a handoff ring, and nothing happens while debug is locked (R423, R424, R427, R428). So clockAlarm, supplyAlarm,
tempThreshold, tempRearm, eccError, dieLink, debugHalt and debuggerAccess COMPLETE: exec answers next, the state given, on every
state and operands that meet the conditions of their clause. -/
def Obligations.HardwareMonitors : Prop :=
  (∀ (s : State) (n : Nat), (1 ≤ n → n ≤ 8 → exec (.clockAlarm n) s =
      .next (detectCode (s.setCtl { s.ctl with islands := listSet s.ctl.islands n false }) 0x0C n)) ∧
    (n = 9 ∨ n = 10 → exec (.clockAlarm n) s = .next (s.setCtl { s.ctl with islands := listSet s.ctl.islands n false })) ∧
    (n = 0 → exec (.clockAlarm n) s = .next s) ∧
    (∀ r, railOf n = some r → r.reset.isSome = true ∨ (s.part 0).st = 1 ∨ s.faults.safeHalt = true →
      exec (.supplyAlarm n) s = .next (detectCode s 0x0D n)) ∧
    (∀ r, railOf n = some r → r.reset = none → (s.part 0).st ≠ 1 → s.faults.safeHalt = false → exec (.supplyAlarm n) s = .next (s.setCtl {
      s.ctl with
      railsLate := s.ctl.railsLate.filter (· != n) ++ [n] })) ∧
    (railOf n = none → exec (.supplyAlarm n) s = .fault .noSuchUnit)) ∧
  (∀ (s : State) (k : Nat) (r : Int), k < 5 → s.ctl.temps.length = 5 → s.ctl.tempRaised.length = 5 →
    (r < 440 → (∀ x ∈ s.ctl.temps, x < 440) → exec (.tempThreshold k r) s = .next (s.setCtl {
      s.ctl with
      temps := listSet s.ctl.temps k r, tempRaised := listSet (s.ctl.tempRaised.map (fun _ => 0)) k 0 })) ∧
    (540 ≤ r → s.ctl.tempRaised.getD k 0 = 0 → ∃ u, u.ctl.tempRaised.getD k 0 = 3 ∧ u.ctl.temps.getD k 0 = r ∧
      u = s.setCtl { s.ctl with temps := listSet s.ctl.temps k r, tempRaised := listSet s.ctl.tempRaised k 3 } ∧
      exec (.tempThreshold k r) s = .next (detectCode (detectCode (detectCode u 0x0E k) 0x0F k) 0x10 k)) ∧
    (540 ≤ r → s.ctl.tempRaised.getD k 0 = 3 → exec (.tempThreshold k r) s = .next (s.setCtl {
      s.ctl with
      temps := listSet s.ctl.temps k r, tempRaised := listSet s.ctl.tempRaised k 3 })) ∧
    (r < 440 → (∀ x ∈ s.ctl.temps, x < 440) → exec (.tempRearm k r) s = .next (s.setCtl {
      s.ctl with
      temps := listSet s.ctl.temps k r, tempRaised := s.ctl.tempRaised.map (fun _ => 0) }))) ∧
  (∀ (s : State) (loc addr : Nat),
    let at_ : EccPlace := { loc := loc, addr := addr }
    exec (.eccError 0 at_) s = .next (detectCode (s.count cSramCe 0) 0x01 0) ∧
    exec (.eccError 1 at_) s = .next (detectCode (s.count cDdrCe 0) 0x01 1) ∧
    (loc < 65536 + s.pool.extCells →
      exec (.eccError 2 at_) s = .next (detectCode
        { s with pool := { s.pool with poisoned := loc :: s.pool.poisoned.filter (· != loc) } } 0x02 ((s.queueOfCell loc).getD 4096)) ∧
      (∀ q, s.queueOfCell loc = some q → exec (.eccError 3 at_) s = .next (detectCode s 0x03 q)) ∧
      (s.queueOfCell loc = none → s.copyHolds loc = true → exec (.eccError 3 at_) s = .next (detectCode (dropHolders s loc) 0x03 4096)) ∧
      (s.queueOfCell loc = none → s.copyHolds loc = false → exec (.eccError 3 at_) s = .next s)) ∧
    ((loc ≠ 1 ∨ 3178496 ≤ addr) → (loc ≠ 4 ∨ 1572864 ≤ addr) → exec (.eccError 4 at_) s = .next (detectCode s 4 loc)) ∧
    (loc = 1 → 3145728 ≤ addr → addr < 3178496 → exec (.eccError 4 at_) s = exec (.lockstepMismatch 0) s) ∧
    (loc = 1 → addr < 3145728 → ∃ p, (p = 1 ∨ p = 2) ∧
      exec (.eccError 4 at_) s = exec (.lockstepMismatch p) { s with fresh := s.fresh + 1 }) ∧
    (loc = 4 → addr < 1572864 → exec (.eccError 4 at_) s = .next (detectCode (markBad s 4 addr) 4 4) ∧ (markBad s 4 addr).dataBad 4 addr 1 = true) ∧
    (∃ t, s.lt ≤ t ∧ t ≤ s.lt + 1000000 ∧ exec (.eccError 5 at_) s = .next (detectCode {
      s with
      fresh := s.fresh + 1
      sw := { s.sw with parity := s.sw.parity.filter (fun x => decide (s.lt < x.2.2)) ++ [(loc, addr, t)] } } 5 loc)) ∧
    exec (.eccError 6 at_) s = .next (detectCode s 6 loc) ∧
    exec (.eccError 7 at_) s = .next (markBad s 7 addr)) ∧
  (∀ (s : State),
    exec (.dieLink 0 true) s = .next (powerLinkUp (s.setCtl { s.ctl with dieUp := listSet s.ctl.dieUp 0 true })) ∧
    exec (.dieLink 1 true) s = .next (s.setCtl { s.ctl with dieUp := listSet s.ctl.dieUp 1 true }) ∧
    exec (.dieLink 0 false) s = .next (detectCode (startHold (s.setCtl { s.ctl with dieUp := listSet s.ctl.dieUp 0 false })) 0x11 0) ∧
    exec (.dieLink 1 false) s = .next (detectCode (dropAssayWaits (s.setCtl { s.ctl with dieUp := listSet s.ctl.dieUp 1 false })) 0x11 1)) ∧
  (∀ (s : State) (h : Nat) (b : Bool), h < 3 →
    ((s.ctl.debug = 0 ∨ s.ctl.debug = 1 ∧ h = 0) → exec (.debugHalt h b) s = .next s) ∧
    ((s.pair h).halted = b → exec (.debugHalt h b) s = .next s) ∧
    (s.debugReach h = true → (s.pair h).halted = false → 1 ≤ h → exec (.debugHalt h true) s = .next (s.setPair h { s.pair h with halted := true })) ∧
    (s.debugReach 0 = true → (s.pair 0).halted = false → exec (.debugHalt 0 true) s =
      .next ((s.setPair 0 { s.pair 0 with halted := true }).setCtl { (s.setPair 0 { s.pair 0 with halted := true }).ctl with wdHalt := s.lt })) ∧
    (s.debugReach h = true → 1 ≤ h → (s.pair h).halted = true → exec (.debugHalt h false) s = .next (s.setPair h { s.pair h with halted := false })) ∧
    (s.debugReach 0 = true → (s.pair 0).halted = true → s.faults.queued = [] → exec (.debugHalt 0 false) s =
      .next ((s.setPair 0 { s.pair 0 with halted := false }).setCtl {
        (s.setPair 0 { s.pair 0 with halted := false }).ctl with
        wdAt := s.ctl.wdAt + (s.lt - s.ctl.wdHalt) }))) ∧
  (∀ (s : State) (reg off len : Nat) (d : List Byte), reg < 14 →
    let at_ : DebugPlace := { region := reg, off := off, len := len }
    (s.ctl.debug = 0 → ∀ w, exec (.debuggerAccess at_ w) s = .next s) ∧
    (∀ w : Option (List Byte), s.ctl.debug ≠ 0 → debugMay s.ctl.debug reg w.isSome = false →
      exec (.debuggerAccess at_ w) s = .next ((s.emit (.debug true [])).count cDebugDenied 0)) ∧
    (debugMay s.ctl.debug reg true = true → exec (.debuggerAccess at_ (some d)) s =
      .next { s with island := { s.island with fw := debugPut s.island.fw reg off d } }) ∧
    (∀ b, debugMay s.ctl.debug reg false = true → s.debugBytes reg off len = some b →
      exec (.debuggerAccess at_ none) s = .next (s.emit (.debug false b))) ∧
    (debugMay s.ctl.debug reg false = true → s.debugBytes reg off len = none → ∃ t, exec (.debuggerAccess at_ none) s = .next t ∧
      t.island = s.island ∧ t.counters = s.counters))

/-- BRANCH_CFG with every field in range sets an off branch and its RETRIES_LEFT; out of range it changes nothing (R435).
BRANCH_SET ON 0 turns the branch OFF, withdraws its request and restores RETRIES_LEFT; ON 1 raises one start request in OFF,
does nothing while ramping, on or waiting, and is WRONG_STATE when locked out or never configured (R436, R451). RETRY_NOW counts
as a retry, once (R445, R451). BRANCH_STATUS gives the state and the 32-byte record (R439). INRUSH_CFG with SLOTS_EN 1 takes
unit 59 in periodic mode, with SLOTS_EN 0 returns it, and is BUSY when the unit cannot be taken (R447). ENERGY_CLEAR answers the
energy before the clear (R406). So branchCfg, branchSet, retryNow, branchStatus, inrushCfg and energyClear COMPLETE: exec
answers next, the state given, on every state and descriptor that meet the conditions of their clause. -/
def Obligations.PowerCommands : Prop :=
  ∀ (d : Desc) (s : State),
    let t := begins s d.part
    let c := cmdOf t d
    (∀ b, runs iBranchCfg d s = true → localRes t d.part (c.u 8 4) = some (4, b) → c.u 15 1 ≤ 1 → c.len = 32 → c.owned = true →
      t.owns d.part 4 b = true →
      ((brCfgOf c).ok = true → (t.branch b).st = 0 → exec (.branchCfg d) s = .next (ends (t.setBranch b {
        t.branch b with
        cfg := brCfgOf c, accepted := true, retriesLeft := (brCfgOf c).retries }) d stOk)) ∧
      ((brCfgOf c).ok = true → (t.branch b).st ≠ 0 → exec (.branchCfg d) s = .next (ends t d stWrongState)) ∧
      ((brCfgOf c).shortI * 100 ≤ (brCfgOf c).iNom * 10 ∨ (brCfgOf c).shortI * 100 ≤ (brCfgOf c).rampIlim * 10
        ∨ (brCfgOf c).tempTrip ≤ (brCfgOf c).tempReentry ∨ (brCfgOf c).duty = 0 ∨ 100 < (brCfgOf c).duty →
        exec (.branchCfg d) s = .next (ends t d stBadParam))) ∧
    (∀ b, runs iBranchSet d s = true → localRes t d.part (c.u 8 4) = some (4, b) → t.owns d.part 4 b = true →
      let r := branchRewritten (t.setBranch b { t.branch b with cmdCyc := some (t.powerCycle, c.u 12 1 == 1) }) b
      let x := r.branch b
      (c.u 12 1 = 0 →
        let u := r.setBranch b {
          x with
          st := 0, startWait := false, isRetry := false, supplyHold := false, inLimit := false, retriesLeft := x.cfg.retries
          offCyc := if x.st = 1 ∨ x.st = 2 then some r.powerCycle else none }
        exec (.branchSet d) s =
          .next (ends { u with power := { u.power with requests := u.power.requests.filter (· != b) } } d stOk)) ∧
      (c.u 12 1 = 1 → x.st = 0 → x.accepted = true → x.startWait = false →
        let u := r.setBranch b { x with startWait := true, isRetry := false, reqCyc := r.powerCycle }
        exec (.branchSet d) s = .next (ends { u with power := { u.power with requests := putRequest r b r.power.requests } } d stOk)) ∧
      (c.u 12 1 = 1 → 1 ≤ x.st → x.st ≤ 3 → x.accepted = true → exec (.branchSet d) s = .next (ends r d stOk)) ∧
      (c.u 12 1 = 1 → x.st = 4 ∨ x.accepted = false → exec (.branchSet d) s = .next (ends t d stWrongState))) ∧
    (∀ b, runs iRetryNow d s = true → localRes t d.part (c.u 8 4) = some (4, b) → t.owns d.part 4 b = true →
      let x := t.branch b
      (x.st = 3 → x.tModel ≤ x.cfg.tempReentry → x.startWait = false →
        let u := t.setBranch b { x with startWait := true, isRetry := true, reqCyc := t.powerCycle }
        exec (.retryNow d) s = .next (ends { u with power := { u.power with requests := putRequest t b t.power.requests } } d stOk)) ∧
      (x.st = 3 → x.tModel ≤ x.cfg.tempReentry → x.startWait = true → exec (.retryNow d) s = .next (ends t d stOk)) ∧
      (x.st ≠ 3 ∨ x.cfg.tempReentry < x.tModel → exec (.retryNow d) s = .next (ends t d stWrongState))) ∧
    (∀ b, runs iBranchStatus d s = true → localRes t d.part (c.u 8 4) = some (4, b) → t.mayRead d.part 4 b = true → c.owned = true →
      let x := t.branch b
      let res := resOf [(0, 1, x.st), (1, 1, x.lastTrip), (2, 1, x.retriesLeft), (3, 1, b2n x.backfeed), (8, 8, x.energy)]
      (c.len = 0 → exec (.branchStatus d) s = .next (ends t d stOk res)) ∧
      (c.len = 32 → exec (.branchStatus d) s = .next (ends t d stOk res x.record)) ∧
      (c.len ≠ 0 → c.len ≠ 32 → exec (.branchStatus d) s = .next (ends t d stBadParam)) ∧ x.record.length = 32) ∧
    (runs iInrushCfg d s = true → 1 ≤ c.u 8 1 → c.u 8 1 ≤ 8 → 100 ≤ c.u 16 4 → c.u 16 4 ≤ 1000000 → c.u 20 2 ≤ 250 → c.u 22 2 < c.u 20 2 →
      let u := { t with power := {
        t.power with
        k := c.u 8 1, budget := c.u 12 4, slotLen := c.u 16 4, slotCount := c.u 20 2, slotIndex := c.u 22 2, slotsEn := c.u 24 1 == 1 } }
      (c.u 24 1 = 1 → (t.trig 59).held = true ∨ (t.owns 0 13 59 = true ∧ (t.trig 59).mode = 0) →
        exec (.inrushCfg d) s = .next (ends (takeUnit u 59 0 (c.u 16 4 * 1000)) d stOk) ∧
          ((takeUnit u 59 0 (c.u 16 4 * 1000)).trig 59).held = true ∧ ((takeUnit u 59 0 (c.u 16 4 * 1000)).trig 59).mode = 2) ∧
      (c.u 24 1 = 1 → (t.trig 59).held = false → t.owns 0 13 59 = false ∨ (t.trig 59).mode ≠ 0 →
        exec (.inrushCfg d) s = .next (ends t d stBusy)) ∧
      (c.u 24 1 = 0 → (t.trig 59).held = true → exec (.inrushCfg d) s =
        .next (ends (u.setTrig 59 { t.trig 59 with held := false, mode := 0, pending := false }) d stOk)) ∧
      (c.u 24 1 = 0 → (t.trig 59).held = false → exec (.inrushCfg d) s = .next (ends u d stOk))) ∧
    (∀ b, runs iEnergyClear d s = true → localRes t d.part (c.u 8 4) = some (4, b) → t.owns d.part 4 b = true →
      exec (.energyClear d) s =
        .next (ends (t.setBranch b { t.branch b with energy := 0, energyRem := 0 }) d stOk (leBytes 8 (t.branch b).energy)))

/-- A sample sets the readings, adds positive power to the energy and moves the breaker content by I² − I_NOM² with floor 0,
negative current not counting (R433, R438, R443). A trip leaves RETRY_WAIT, or LOCKED_OUT with no retries left, and is counted
and raised (R443 to R445). RAMP_DONE ends a ramp within 0.5 V (R437). A retry waits for its interval and TEMP_REENTRY (R445).
The arbiter grants the oldest request while fewer than K branches ramp, and none under SLOTS_EN while VALID is 0 (R446, R447).
Supply holds use no retry (R448). Back-feed is watched while off (R449). A branch not rewritten within 50 ms of a hold opens;
VDD_PWR failing opens all (R448, R450). A trip of a branch that a command has turned off in the same power-die cycle is counted
and raised alone (R451); a record crosses to the main die while the link is up (R9). So branchSample, breakerTrip, shortTrip,
thermalTrip, rampDone, retryDue, startGrant, retriesRestore, supplyLow, supplyHold, supplyRestored, backfeed, ntcFault,
branchHoldExpiry and vddPwrFail COMPLETE: exec answers next, the state given, on every state and operands that meet the
conditions of their clause. -/
def Obligations.PowerEvents : Prop :=
  ∀ (s : State) (b : Nat), b < 8 →
    let x := s.branch b
    (∀ m : BrSample,
      let y := x.take m s.sensor4 s.lt
      let v := crossRecord (s.setBranch b y) b
      let z := v.branch b
      (x.accepted = false → exec (.branchSample b m) s = .next v) ∧
      (x.accepted = true → y.warned = false → x.cfg.tempTrip - 40 ≤ y.tModel →
        exec (.branchSample b m) s = .next (raise (v.setBranch b { z with warned := true }) (srcBranch b 8) 1 (unsignedOf 24 y.tModel))) ∧
      (x.accepted = true → y.warned = false → y.tModel < x.cfg.tempTrip - 40 → exec (.branchSample b m) s = .next v) ∧
      (x.accepted = true → y.warned = true → y.tModel < x.cfg.tempTrip - 60 →
        exec (.branchSample b m) s = .next (v.setBranch b { z with warned := false })) ∧
      (s.crossable 9 = false → v = s.setBranch b y) ∧ (s.crossable 9 = true → z.latest = y.record) ∧
      z = { y with latest := z.latest, snapRec := z.snapRec } ∧
      y.vIn = m.vIn ∧ y.vOut = m.vOut ∧ y.i = m.i ∧ y.cfg = x.cfg ∧ y.st = x.st ∧ y.retriesLeft = x.retriesLeft ∧
      y.sample = (x.sample + 1) % 4294967296 ∧ y.p = (m.vOut * m.i).tdiv 1000 ∧
      (x.energy * 100000000 + x.energyRem + m.vOut * m.i.toNat < 2 ^ 64 * 100000000 →
        y.energy * 100000000 + y.energyRem = x.energy * 100000000 + x.energyRem + m.vOut * m.i.toNat) ∧
      (0 ≤ m.i → (y.e : Int) = max 0 ((x.e : Int) + m.i ^ 2 - ((x.cfg.iNom * 10) ^ 2 : Nat))) ∧
      (m.i < 0 → (y.e : Int) = max 0 ((x.e : Int) - ((x.cfg.iNom * 10) ^ 2 : Nat)))) ∧
    (x.st = 1 ∨ x.st = 2 →
      (x.cfg.i2t * 100000000 ≤ x.e → x.retriesLeft ≠ 0 → exec (.breakerTrip b) s =
        .next (raise ((s.setBranch b { x with st := 3, lastTrip := 1, tripAt := s.lt, inLimit := false, e := 0 }).count cTripsBreaker b)
          (srcBranch b 1) 1 1)) ∧
      (x.cfg.i2t * 100000000 ≤ x.e → x.retriesLeft = 0 → exec (.breakerTrip b) s =
        .next (raise (raise ((s.setBranch b { x with st := 4, lastTrip := 1, tripAt := s.lt, inLimit := false, e := 0 }).count cTripsBreaker b)
          (srcBranch b 1) 1 1) (srcBranch b 3) 1 0)) ∧
      (x.e < x.cfg.i2t * 100000000 → exec (.breakerTrip b) s = .next s) ∧
      (∀ i : Int, let lim := if x.st = 1 then min (x.cfg.shortI * 100) (x.cfg.rampIlim * 25 / 2) else x.cfg.shortI * 100
        ((lim : Int) < i → x.retriesLeft ≠ 0 → exec (.shortTrip b i) s =
          .next (raise ((s.setBranch b {
            x with
            st := 3, lastTrip := 2, tripAt := s.lt, inLimit := false, heat := x.heat + x.vIn * lim * 100000000000 }).count cTripsShort b)
            (srcBranch b 1) 1 2)) ∧
        (i < -((x.cfg.shortI * 100 : Nat) : Int) → x.retriesLeft ≠ 0 → exec (.shortTrip b i) s =
          .next (raise ((s.setBranch b {
            x with
            st := 3, lastTrip := 2, tripAt := s.lt, inLimit := false, heat := x.heat + x.vIn * (x.cfg.shortI * 100) * 100000000000 }).count
              cTripsShort b) (srcBranch b 1) 1 2)) ∧
        (i ≤ (lim : Int) → -((x.cfg.shortI * 100 : Nat) : Int) ≤ i → exec (.shortTrip b i) s = .next s)) ∧
      (x.cfg.tempTrip ≤ x.tModel → x.retriesLeft ≠ 0 → exec (.thermalTrip b) s =
        .next (raise ((s.setBranch b { x with st := 3, lastTrip := 3, tripAt := s.lt, inLimit := false }).count cTripsThermal b)
          (srcBranch b 1) 1 3)) ∧
      (∀ v us, v < 6000 ∧ 100 ≤ us ∨ 60000 < v ∧ 50 ≤ us → exec (.supplyHold b v us) s =
        .next (raise ((s.setBranch b { x with st := 3, supplyHold := true, inLimit := false, vIn := v }).count cSupplyHolds b)
          (srcBranch b 6) 1 v)) ∧
      (∀ v us, 6000 ≤ v → v ≤ 60000 → exec (.supplyHold b v us) s = .next s)) ∧
    (x.st ≠ 1 → x.st ≠ 2 → x.offCyc = some s.powerCycle → x.cfg.i2t * 100000000 ≤ x.e → exec (.breakerTrip b) s =
      .next (raise ((s.setBranch b { x with offCyc := none, lastTrip := 1 }).count cTripsBreaker b) (srcBranch b 1) 1 1)) ∧
    (x.st ≠ 1 → x.st ≠ 2 → x.offCyc ≠ some s.powerCycle → exec (.breakerTrip b) s = .next s ∧ (∀ i, exec (.shortTrip b i) s = .next s) ∧
      exec (.thermalTrip b) s = .next s ∧ (∀ v us, exec (.supplyHold b v us) s = .next s)) ∧
    (x.st = 1 → x.vIn ≤ x.vOut + 500 → x.vOut ≤ x.vIn + 500 → exec (.rampDone b) s =
      .next (raise (s.setBranch b { x with st := 2, onAt := s.lt, inLimit := false }) (srcBranch b 0) 1
        (satNat 0xFFFFFF ((s.lt - x.grantAt) / 10000)))) ∧
    (x.st ≠ 1 ∨ x.vOut + 500 < x.vIn → exec (.rampDone b) s = .next s) ∧
    (x.st = 3 → x.supplyHold = false → x.startWait = false → x.tModel ≤ x.cfg.tempReentry → x.tripAt + x.cfg.retryInt * 500000000 ≤ s.lt →
      1 ≤ x.cfg.duty → x.cfg.duty ≤ 1000 → (x.tripAt - x.grantAt) * (1000 - x.cfg.duty) ≤ (s.lt - x.tripAt) * x.cfg.duty →
      let u := s.setBranch b { x with startWait := true, isRetry := true, reqCyc := s.powerCycle }
      exec (.retryDue b) s = .next { u with power := { u.power with requests := putRequest s b s.power.requests } }) ∧
    (x.st ≠ 3 ∨ s.lt < x.tripAt + x.cfg.retryInt * 500000000 ∨ x.cfg.tempReentry < x.tModel → exec (.retryDue b) s = .next s) ∧
    (∀ rest, s.power.requests = b :: rest → (s.power.br.filter (fun e => e.2.st == 1)).length < s.power.k → s.power.budget = 0 →
      s.power.slotsEn = false → s.faults.safeHalt = false → s.boot.rescue = false →
      let r := { s with power := { s.power with requests := rest } }
      (x.isRetry = false → exec .startGrant s =
        .next ((r.setBranch b { x with st := 1, startWait := false, supplyHold := false, grantAt := s.lt }).count cStarts b)) ∧
      (x.isRetry = true → x.retriesLeft ≠ 255 → exec .startGrant s =
        .next (raise (((r.setBranch b { x with st := 1, startWait := false, isRetry := false, supplyHold := false, grantAt := s.lt
                                               retriesLeft := x.retriesLeft - 1 }).count cStarts b).count cRetriesMade b)
          (srcBranch b 2) 1 (x.retriesLeft - 1)))) ∧
    (s.power.k ≤ (s.power.br.filter (fun e => e.2.st == 1)).length ∨ (s.power.slotsEn = true ∧ s.time.valid = false) →
      exec .startGrant s = .next s) ∧
    (x.st = 2 → x.onAt + 60000000000 ≤ s.lt →
      exec (.retriesRestore b) s = .next (s.setBranch b { x with retriesLeft := x.cfg.retries })) ∧
    (x.st ≠ 2 ∨ s.lt < x.onAt + 60000000000 → exec (.retriesRestore b) s = .next s) ∧
    (∀ v us, x.supplyLow = true ∨ 8500 ≤ v ∨ us < 1000 → exec (.supplyLow b v us) s = .next s) ∧
    (∀ v us, x.supplyLow = false → v < 8500 → 1000 ≤ us → exec (.supplyLow b v us) s =
      .next (raise (s.setBranch b { x with supplyLow := true, vIn := v }) (srcBranch b 5) 1 v)) ∧
    (∀ v us, x.supplyHold = true → x.startWait = false → 8500 ≤ v → v ≤ 58000 → 10000 ≤ us →
      let w := s.setBranch b { x with supplyLow := false, supplyHold := false, vIn := v }
      let u := s.setBranch b { x with supplyLow := false, supplyHold := false, vIn := v, startWait := true, isRetry := false, reqCyc := s.powerCycle }
      exec (.supplyRestored b v us) s =
        .next (raise { u with power := { u.power with requests := putRequest w b w.power.requests } } (srcBranch b 7) 1 v)) ∧
    (∀ v us, x.supplyHold = false → x.supplyLow = false → exec (.supplyRestored b v us) s = .next s) ∧
    (∀ v us, x.st ≠ 1 → x.st ≠ 2 → x.backfeed = false → 2000 ≤ v → 10000 ≤ us → exec (.backfeed b v us) s =
      .next (raise (s.setBranch b { x with backfeed := true, vOut := v }) (srcBranch b 4) 1 v)) ∧
    (∀ v us, x.backfeed = true → v < 1000 → 10000 ≤ us →
      exec (.backfeed b v us) s = .next (s.setBranch b { x with backfeed := false, vOut := v })) ∧
    (x.cfg.ntcFitted = true → x.ntcFault = false → exec (.ntcFault b true) s =
      .next (raise (s.setBranch b { x with ntcFault := true, tNtc := -32768 }) (srcBranch b 9) 1 0)) ∧
    exec (.ntcFault b false) s = .next (s.setBranch b { x with ntcFault := false }) ∧
    (∀ h, s.power.holdAt = some h → h + 50000000 ≤ s.lt → ∃ u, exec .branchHoldExpiry s = .next u ∧ u.power.holdAt = none ∧
      (x.st = 1 ∨ x.st = 2 → x.rewritten = false → (u.branch b).st = 0) ∧
      (x.st = 0 ∨ 3 ≤ x.st ∨ x.rewritten = true → u.branch b = x)) ∧
    (∀ h, s.power.holdAt = some h → s.lt < h + 50000000 → exec .branchHoldExpiry s = .next s) ∧
    (∃ u, exec .vddPwrFail s = .next u ∧ (u.branch b).st = 0 ∧ (u.branch b).cfg = x.cfg ∧ (u.branch b).energy = x.energy ∧
      b ∉ u.power.requests)

/-- A measure, zero or tare request for a channel that is free and not masked by another lead is accepted and waits for its
measurement; a masked or busy channel is WRONG_STATE (R459, R470). A parameter changes only with a value in range, an open log
and an asserted seal, together with the event counter and one audit entry; it waits while a measurement uses it (R461 to R465).
ASSAY_TRANSFER copies at most MAX_RECORDS records of owned channels and restarts the warning count (R475). Without the die every
row is NOT_PRESENT (R2), and while it does not run WRONG_STATE (R455). So ASSAY_INFO, ASSAY_MEASURE, ASSAY_ZERO, ASSAY_TARE,
ASSAY_TRANSFER, ASSAY_PARAM_SET and AUDIT_READ COMPLETE: exec answers next, under conditions on the state and the descriptor
alone (the command runs, the die is fitted and reached, the operands are in range). -/
def Obligations.AssayCommands : Prop :=
  (∀ (d : Desc) (s : State),
    let t := begins s d.part
    let c := cmdOf t d
    let a := t.assay
    let waits := fun (op ch kind samples : Nat) =>
      let m : Meas :=
        { kind := kind, part := d.part, samples := samples, tag := d.tag, startAt := a.time, startCount := tblGetD a.pulses ch 0 }
      let u := t.setAssay { a with running := tblSet a.running ch m }
      u.setPart d.part { u.part d.part with
        cmds := (u.part d.part).cmds ++
        [{ part := d.part, opcode := op, desc := d, bulk := c.bulk, async := false, gone := true, begun := true, service := false, due := t.lt }] }
    (a.fitted = false →
      (starts iAssayInfo d s = true → exec (.assayInfo d) s = .next (ends t d stNotPresent)) ∧
      (starts iAssayMeasure d s = true → exec (.assayMeasure d) s = .next (ends t d stNotPresent)) ∧
      (starts iAssayZero d s = true → exec (.assayZero d) s = .next (ends t d stNotPresent)) ∧
      (starts iAssayTare d s = true → exec (.assayTare d) s = .next (ends t d stNotPresent)) ∧
      (starts iAssayTransfer d s = true → exec (.assayTransfer d) s = .next (ends t d stNotPresent)) ∧
      (starts iAssayParamSet d s = true → exec (.assayParamSet d) s = .next (ends t d stNotPresent)) ∧
      (starts iAuditRead d s = true → exec (.auditRead d) s = .next (ends t d stNotPresent))) ∧
    (runs iAssayInfo d s = true →
      (a.fitted = true → t.assayReach = true → a.st = 1 ∨ a.st = 3 → exec (.assayInfo d) s = .next (ends t d stOk
        (resOf [(0, 4, a.fwVersion), (4, 4, idDigest a.fw), (8, 4, a.eventCounter), (12, 1, b2n a.sealLevel), (16, 8, a.nextSeq - 1)]))) ∧
      (a.fitted = true → t.assayReach = false → exec (.assayInfo d) s = .next (ends t d stWrongState))) ∧
    (∀ ch, a.fitted = true → localRes t d.part (c.u 8 4) = some (12, ch) → t.owns d.part 12 ch = true → t.assayReach = true → a.st = 1 →
      ((4 ≤ ch ∨ a.masked ch = false) → (tblGetD a.running ch {}).kind = 0 →
        (runs iAssayMeasure d s = true → 1 ≤ c.u 12 2 → exec (.assayMeasure d) s = .next (waits 0x0E01 ch 1 (c.u 12 2))) ∧
        (runs iAssayZero d s = true → ch < 4 → exec (.assayZero d) s = .next (waits 0x0E02 ch 2 0)) ∧
        (runs iAssayTare d s = true → ch < 4 → c.u 12 1 ≤ 1 → exec (.assayTare d) s = .next (waits 0x0E03 ch (3 + c.u 12 1) 0))) ∧
      ((ch < 4 ∧ a.masked ch = true) ∨ (tblGetD a.running ch {}).kind ≠ 0 →
        (runs iAssayMeasure d s = true → 1 ≤ c.u 12 2 → exec (.assayMeasure d) s = .next (ends t d stWrongState)) ∧
        (runs iAssayZero d s = true → ch < 4 → exec (.assayZero d) s = .next (ends t d stWrongState)) ∧
        (runs iAssayTare d s = true → ch < 4 → c.u 12 1 ≤ 1 → exec (.assayTare d) s = .next (ends t d stWrongState))) ∧
      (runs iAssayMeasure d s = true → c.u 12 2 = 0 → exec (.assayMeasure d) s = .next (ends t d stBadParam))) ∧
    (runs iAssayTransfer d s = true → a.fitted = true → 1 ≤ c.u 16 2 → c.u 16 2 ≤ 512 → c.owned = true → t.assayReach = true → a.st = 1 →
      (c.len ≠ 128 * c.u 16 2 → exec (.assayTransfer d) s = .next (ends t d stBadParam)) ∧
      (∀ r l, c.len = 128 * c.u 16 2 → a.store = r :: l →
        let first := max (c.u 8 8) r.seq
        let g := examine (fun ch => decide (ch < 6) && t.owns d.part 12 ch) (c.u 16 2) ((r :: l).filter (fun x => decide (first ≤ x.seq)))
        exec (.assayTransfer d) s = .next (ends (t.setAssay { a with sinceXfer := 0, storeWarned := false }) d stOk
          (resOf [(0, 2, g.1.length), (8, 8, match g.2 with | some q => q + 1 | none => first)]) (g.1.flatMap (fun x => x.bytes))))) ∧
    (runs iAssayParamSet d s = true → a.fitted = true → c.owned = true → t.assayReach = true → a.st = 1 →
      let k := c.u 8 2 / 16
      let ch := c.u 8 2 % 16
      let v := leAt c.bulk 0 8
      (c.len ≠ 8 ∨ paramApplies k ch = false ∨ a.paramOk k ch v = false → exec (.assayParamSet d) s = .next (ends t d stBadParam)) ∧
      (c.len = 8 → paramApplies k ch = true → a.paramOk k ch v = true →
        (1024 ≤ a.audit.length → exec (.assayParamSet d) s = .next (ends t d stWrongState)) ∧
        (a.audit.length < 1024 → a.sealLevel = false → exec (.assayParamSet d) s = .next (ends t d stSealed)) ∧
        (a.audit.length < 1024 → a.sealLevel = true → a.uses ch = false → (∀ w ∈ a.waiting, w.pid ≠ c.u 8 2) →
          exec (.assayParamSet d) s = .next (ends (commitParam t k ch v) d stOk)) ∧
        (a.audit.length < 1024 → a.sealLevel = true → a.uses ch = true ∨ (∃ w ∈ a.waiting, w.pid = c.u 8 2) →
          let u := t.setAssay { a with waiting := a.waiting ++ [{ pid := c.u 8 2, value := v, part := d.part, tag := d.tag }] }
          exec (.assayParamSet d) s = .next (u.setPart d.part { u.part d.part with
            cmds := (u.part d.part).cmds ++
            [{ part := d.part, opcode := 0x0E05, desc := d, bulk := c.bulk, async := false, gone := true, begun := true, service := false,
               due := t.lt }] })))) ∧
    (runs iAuditRead d s = true → a.fitted = true → c.u 8 2 < 1024 → c.len % 40 = 0 → c.owned = true → t.assayReach = true → a.st = 1 ∨ a.st = 3 →
      let l := (a.audit.drop (c.u 8 2)).take (c.len / 40)
      exec (.auditRead d) s = .next (ends t d stOk (leBytes 2 l.length) (l.flatMap (fun e => e.bytes))))) ∧
  (∀ (s : State) (k ch v : Nat),
    let u := commitParam s k ch v
    u.assay.param k ch = v ∧ u.assay.eventCounter = (s.assay.eventCounter + 1) % 4294967296 ∧
      u.assay.audit.length = s.assay.audit.length + 1 ∧ u.assay.store = s.assay.store ∧ u.assay.nextSeq = s.assay.nextSeq) ∧
  (∀ (mine : Nat → Bool) (n : Nat) (l : List ARec),
    (examine mine n l).1.length ≤ n ∧ ∀ r ∈ (examine mine n l).1, r ∈ l ∧ mine r.channel = true)

/-- A power-on adds 1 to POWER_COUNT, clears zeros and tares, commits a START record once the self-test passes and keeps
parameters and log (R455, R460); the third self-test that fails in a row is fault hold (R456). A loss of supply or a fault
commits no record (R455, R456). A seal level counts after 20 ms (R462). A pulse of at least PULSE_DEBOUNCE counts up or down
(R458). A measurement ends not before its time and takes one sequence number; a zero or tare that fails leaves none (R460,
R472). Without the die reachable, window reads answer TARGET_ERROR (R468). So ASSAY_POWER_ON, ASSAY_FAULT, VDDA_ASSAY_ABSENT,
SEAL_CHANGE, HUB_TIME_UPDATE, HUB_TIME_LOSS, PULSE_INPUT, EXC_FAULT, PARAM_COMMIT and MEASUREMENT_COMPLETE COMPLETE: exec
answers next, under conditions on the state and the operands alone. -/
def Obligations.AssayEvents : Prop :=
  ∀ s : State,
    let a := s.assay
    (a.fitted = true → a.powered = false → a.trial = none → ∃ u, exec (.assayPowerOn true) s = .next u ∧
      u.assay.powered = true ∧ u.assay.st = 1 ∧ u.assay.powerCount = (a.powerCount + 1) % 4294967296 ∧ u.assay.nextSeq = a.nextSeq + 1 ∧
      (∃ r, u.assay.store.getLast? = some r ∧ r.seq = a.nextSeq ∧ r.channel = 0xFF ∧ r.bytes.length = 128 ∧ leAt r.bytes 9 1 = 5) ∧
      u.assay.zero = [] ∧ u.assay.tareOn = [] ∧ u.assay.params = a.params ∧ u.assay.audit = a.audit ∧ u.assay.eventCounter = a.eventCounter) ∧
    (a.powered = true → a.st = 1 ∨ a.st = 3 → ∀ pass, exec (.assayPowerOn pass) s = .next s) ∧
    (a.fitted = false → ∀ pass, exec (.assayPowerOn pass) s = .next s) ∧
    (a.fitted = true → a.powered = true → a.st = 0 → a.trial = none →
      (a.selfFails = 0 → exec (.assayPowerOn false) s = .next (s.setAssay { a with selfFails := 1, st := 0 })) ∧
      (a.selfFails = 2 → exec (.assayPowerOn false) s = .next (raise (s.setAssay { a with selfFails := 3, st := 3 }) (srcAssay 5) 1 4))) ∧
    (∀ kind, 1 ≤ kind → kind ≤ 3 → a.fitted = true → a.powered = true →
      (a.st = 3 → ∀ pass, exec (.assayFault kind pass) s = .next s) ∧
      (a.st = 1 → a.startDue = false → a.trial = none → a.running = [] → a.waiting = [] → exec (.assayFault kind true) s =
        .next (raise ((assayClock s).setAssay { a with st := 1, selfFails := 0, faultKind := 0, startDue := false, trial := none })
          (srcAssay 5) 1 kind))) ∧
    (∃ u, exec .vddaAssayAbsent s = .next u ∧ u.assay.powered = false ∧ u.assay.st = 0 ∧ u.assay.running = [] ∧
      u.assay.nextSeq = a.nextSeq ∧ u.assay.store = a.store ∧ u.assay.params = a.params ∧ u.assay.audit = a.audit) ∧
    (∀ lvl ms, (ms < 20 ∨ a.sealLevel = lvl → exec (.sealChange lvl ms) s = .next s) ∧
      (20 ≤ ms → a.sealLevel ≠ lvl → a.powered = true → a.st ≠ 0 → s.boot.upd = none → exec (.sealChange lvl ms) s =
        .next (raise (s.setAssay { a with sealLevel := lvl }) (srcAssay (if lvl then 0 else 1)) 1 0))) ∧
    (s.assayReach = true → exec .hubTimeUpdate s =
      .next (s.setAssay { a with hubTime := s.eventTime, hubAt := some a.time, hubValid := true })) ∧
    (∀ h, a.hubAt = some h → (h + 10000000 ≤ a.time → exec .hubTimeLoss s = .next (s.setAssay { a with hubValid := false })) ∧
      (a.time < h + 10000000 → exec .hubTimeLoss s = .next s)) ∧
    (∀ c down us, (c = 4 ∨ c = 5 → a.st = 1 → a.param 13 c ≤ us → ∃ u, exec (.pulseInput c down us) s = .next u ∧
        tblGetD u.assay.pulses c 0 = tblGetD a.pulses c 0 + (if down then -1 else 1) ∧ u.assay.pulsesKept = a.pulsesKept) ∧
      (c = 4 ∨ c = 5 → us < a.param 13 c → exec (.pulseInput c down us) s = .next s) ∧
      (c ≠ 4 → c ≠ 5 → exec (.pulseInput c down us) s = .fault .noSuchUnit)) ∧
    (∀ c bad, c < 4 → (tblGetD a.excFault c false = bad → exec (.excFault c bad) s = .next s) ∧
      (a.st ≠ 0 → tblGetD a.excFault c false ≠ bad → exec (.excFault c bad) s =
        .next (raise (s.setAssay { a with excFault := tblSet a.excFault c bad }) (srcAssay (8 + c)) 2 ((a.nextSeq - 1) % 16777216)))) ∧
    (∀ w, a.st = 1 → a.waiting = [w] →
      let t := s.setAssay { a with waiting := [] }
      (a.uses (w.pid % 16) = true → exec .paramCommit s = .next s) ∧
      (a.uses (w.pid % 16) = false → 1024 ≤ a.audit.length →
        exec .paramCommit s = .next (finishBegun t w.part 0x0E05 w.tag stWrongState [])) ∧
      (a.uses (w.pid % 16) = false → a.audit.length < 1024 → a.sealLevel = false →
        exec .paramCommit s = .next (finishBegun t w.part 0x0E05 w.tag stSealed [])) ∧
      (a.uses (w.pid % 16) = false → a.audit.length < 1024 → a.sealLevel = true →
        exec .paramCommit s = .next (finishBegun (commitParam t (w.pid / 16) (w.pid % 16) w.value) w.part 0x0E05 w.tag stOk []))) ∧
    (∀ (c : Nat) (m : AssaySample), c < 6 → a.st = 1 →
      let r := tblGetD a.running c {}
      let t := s.setAssay { a with running := tblDel a.running c }
      (r.kind = 0 ∨ a.time < r.startAt + a.duration c r → exec (.measurementComplete c m) s = .next s) ∧
      (r.kind = 1 → c < 4 → r.startAt + r.samples * 1000000000 / a.param 2 c ≤ a.time → r.samples ≤ m.outs.length →
        ∃ u, exec (.measurementComplete c m) s = .next u ∧ u.assay.nextSeq = a.nextSeq + 1 ∧
          ∃ x, u.assay.store.getLast? = some x ∧ x.seq = a.nextSeq ∧ x.channel = c ∧
            let sig := meanOf ((lastN r.samples m.outs).map (t.assay.signal c))
            leAt x.bytes 16 4 = unsignedOf 32 (t.assay.rounded c (t.assay.weight c (t.assay.zeroOf c) sig))) ∧
      (r.kind = 2 → c < 4 → r.startAt + a.motionMs c * 1000000 ≤ a.time → 1 ≤ m.outs.length → t.assay.stable c m.outs = false →
        exec (.measurementComplete c m) s = .next (finishBegun t r.part 0x0E02 r.tag stWrongState [])) ∧
      (r.kind = 4 → c < 4 → r.startAt ≤ a.time → 1 ≤ m.outs.length → ∃ u, exec (.measurementComplete c m) s = .next u ∧
        u.assay.nextSeq = a.nextSeq + 1 ∧ tblGetD u.assay.tareOn c true = false ∧ tblGetD u.assay.tare c 1 = 0 ∧ u.assay.zero = a.zero) ∧
      (r.kind = 1 → 4 ≤ c → r.startAt + r.samples * 1000000 ≤ a.time → ∃ u, exec (.measurementComplete c m) s = .next u ∧
        u.assay.nextSeq = a.nextSeq + 1 ∧ u.assay.pulsesKept = a.pulses ∧
          ∃ x, u.assay.store.getLast? = some x ∧ x.seq = a.nextSeq ∧
            leAt x.bytes 16 4 = unsignedOf 32 (roundHalfEven ((tblGetD a.pulses c 0 - r.startCount) * 1000000) r.samples))) ∧
    (∀ p off len, a.fitted = true → s.assayReach = false → 1 ≤ len → off + len ≤ 256 → assayRead s p off len = ⟨5, [], s⟩) ∧
    (∀ p c, a.fitted = true → c < 6 → s.mayRead p 12 c = false → assayRead s p (0x400 + c * 0x80) 128 = ansCa s)

/-- UPD_BEGIN erases the first sector of the slot not in use and opens the update; UPD_DATA programs the next bytes; UPD_VERIFY
marks the slot and answers VERSION and SECURITY_VERSION exactly when the image passes verification, and otherwise ends with the
failing check's status; UPD_ACTIVATE writes the new boot-control record; UPD_CONFIRM writes a CONFIRMED record and raises the
thermometer, never lowering it; UPD_ABORT erases the first sector. Every step is logged with its status. Nothing else changes. -/
def Obligations.UpdateCommands : Prop :=
  ∀ (d : Desc) (s : State),
    let t := begins s d.part
    let c := cmdOf t d
    (∀ k, runs iUpdBegin d s = true → (c.u 8 1 = 1 ∨ c.u 8 1 = 2) → c.u 12 4 ≤ slotSize (c.u 8 1) → t.boot.flashOk = true →
      t.boot.upd = none → (c.u 8 1 = 1 → t.boot.current.trial = false) → k = t.otherSlot (c.u 8 1) →
      let u := setSlot t (c.u 8 1) k { bytes := eraseSector (t.slot (c.u 8 1) k).bytes 0, marked := false }
      exec (.updBegin d) s = .next (ends (logAdd (u.setBoot
          { u.boot with upd := some { typ := c.u 8 1, slot := k, length := c.u 12 4 } }) 2
          (updDetail 0x0F00 (c.u 8 1) k stOk)) d stOk (leBytes 1 k))) ∧
    (∀ x, runs iUpdData d s = true → 8 ≤ d.bulkLen → d.bulkLen ≤ 65536 → c.owned = true → t.boot.upd = some x →
      x.activated = false → c.u 8 4 = x.got → x.got + d.bulkLen ≤ x.length →
      (x.typ = 3 → t.assayReach = true ∧ t.assay.st = 1 ∧ t.assay.sealLevel = true) →
      let u := setSlot t x.typ x.slot {
          t.slot x.typ x.slot with
          bytes := programAt ((sectorsIn x.got d.bulkLen).foldl eraseSector (t.slot x.typ x.slot).bytes) x.got (c.bulk.take d.bulkLen) }
      exec (.updData d) s = .next (ends (logAdd (u.setBoot { u.boot with upd := some { x with got := x.got + d.bulkLen } }) 2
          (updDetail 0x0F01 x.typ x.slot stOk)) d stOk (leBytes 4 (x.got + d.bulkLen)))) ∧
    (∀ x, runs iUpdVerify d s = true → t.boot.upd = some x → x.got = x.length → x.activated = false →
      (x.typ = 3 → t.assayReach = true ∧ t.assay.st = 1 ∧ t.assay.sealLevel = true) →
      exec (.updVerify d) s = .next (
        if verifyImage t x.typ (t.slot x.typ x.slot).bytes = stOk then
          ends (logAdd ((setSlot t x.typ x.slot { t.slot x.typ x.slot with marked := true }).setBoot
              { (setSlot t x.typ x.slot { t.slot x.typ x.slot with marked := true }).boot with upd := some { x with verified := true } }) 2
              (updDetail 0x0F02 x.typ x.slot stOk)) d stOk
            (leBytes 4 (hdrField (t.slot x.typ x.slot).bytes 8 4) ++ leBytes 2 (hdrField (t.slot x.typ x.slot).bytes 12 2))
        else ends (logAdd t 2 (updDetail 0x0F02 x.typ x.slot (verifyImage t x.typ (t.slot x.typ x.slot).bytes))) d
          (verifyImage t x.typ (t.slot x.typ x.slot).bytes))) ∧
    (∀ x, runs iUpdActivate d s = true → c.u 8 1 = 0 → t.boot.upd = some x → x.verified = true → x.activated = false → x.typ = 1 →
      let u := writeRecord t { t.boot.current with active := x.slot, previous := t.boot.current.active, trial := true, boots := 0,
                                                   window := t.boot.window }
      exec (.updActivate d) s = .next (ends (logAdd (u.setBoot { u.boot with upd := some { x with activated := true } }) 2
          (updDetail 0x0F03 1 x.slot stOk)) d stOk)) ∧
    (runs iUpdConfirm d s = true → t.boot.trialRun = true →
      let u := writeRecord t { t.boot.current with trial := false, boots := 0 }
      let v := max t.boot.thermo (hdrField (t.boot.image 1 t.boot.current.active) 12 2)
      exec (.updConfirm d) s = .next (ends (logAdd (u.setBoot { u.boot with thermo := v, trialRun := false }) 2
          (updDetail 0x0F04 ((u.boot.upd.orElse (fun _ => t.boot.upd)).getD { slot := 0xFF }).typ
            ((u.boot.upd.orElse (fun _ => t.boot.upd)).getD { slot := 0xFF }).slot stOk)) d stOk (leBytes 1 v))) ∧
    (∀ x, runs iUpdAbort d s = true → t.boot.upd = some x → x.activated = false →
      let u := setSlot t x.typ x.slot { bytes := eraseSector (t.slot x.typ x.slot).bytes 0, marked := false }
      exec (.updAbort d) s = .next (ends (logAdd (u.setBoot { u.boot with upd := none }) 2
          (updDetail 0x0F05 x.typ x.slot stOk)) d stOk))

/-- BOOT_INFO, LOG_READ and TEMP_READ read and change nothing; WARM_RESET sets the instant of the warm reset 1 ms after the
completion; CELL_HEADER_READ answers a header word whose parity is even over 32 bits; a DEBUG_UNLOCK request stores a fresh
challenge and answers it, and the answer sets a level exactly when a key that OTP enables verifies it within 60 s. -/
def Obligations.BootInfoAndWarmResetCommands : Prop :=
  ∀ (d : Desc) (s : State),
    let t := begins s d.part
    let c := cmdOf t d
    (runs iBootInfo d s = true →
      let k := t.boot.started.getD t.boot.current.active
      exec (.bootInfo d) s = .next (ends t d stOk (resOf [(0, 1, k), (1, 1, t.boot.cfgSlot),
        (2, 1, t.boot.current.boots - b2n t.boot.trialRun), (3, 1, t.boot.thermo), (4, 4, t.boot.version k), (8, 4, t.boot.version (1 - k)),
        (12, 1, if !t.slotGood (1 - k) then 0 else if (tblGetD t.boot.hub (1 - k) {}).marked then 2 else 1), (13, 1, t.boot.cause)]))) ∧
    (runs iWarmReset d s = true →
      exec (.warmReset d) s = .next (ends (t.setBoot { t.boot with resetAt := some (t.lt + 1000000, 3) }) d stOk)) ∧
    (runs iTempRead d s = true →
      exec (.tempRead d) s = .next (ends t d stOk ((t.ctl.temps.take 5).flatMap (fun x => leBytes 2 (unsignedOf 16 x))))) ∧
    (runs iLogRead d s = true → d.bulkLen ≠ 0 → d.bulkLen % 64 = 0 → c.owned = true → c.u 8 4 = 0xFFFFFFFF →
      t.boot.log.length ≤ d.bulkLen / 64 →
      ∃ first next, exec (.logRead d) s = .next (ends t d stOk (resOf [(0, 2, t.boot.log.length), (4, 4, next), (8, 4, first)])
          (t.boot.log.flatMap LogEnt.bytes)) ∧
        (t.boot.log = [] → first = t.boot.logSeq ∧ next = first)) ∧
    (runs iCellHeaderRead d s = true → c.u 8 4 < 4194304 → c.u 8 4 < 65536 + t.pool.extCells →
      ∃ w, exec (.cellHeaderRead d) s = .next (ends { t with fresh := t.fresh + 1 } d stOk (leBytes 4 (w + b2n (oddOnes w 31) * 2 ^ 31)))) ∧
    (runs iDebugUnlock d s = true → c.u 8 1 = 0 → d.bulkLen = 0 → c.owned = true → t.cycle.twins.any (fun e => e.2.role == 2) = false →
      let x := fitBytes 10 (Config.nonce t.fresh) ++ leBytes 6 t.boot.mac
      exec (.debugUnlock d) s = .next (ends ({ t with fresh := t.fresh + 1 }.setCtl { t.ctl with challenge := some (x, t.lt) }) d stOk x)) ∧
    (∀ x n, runs iDebugUnlock d s = true → c.u 8 1 = 1 → d.bulkLen = 64 → c.owned = true →
      t.cycle.twins.any (fun e => e.2.role == 2) = false → t.ctl.challenge = some (x, n) → t.lt ≤ n + 60000000000 →
      t.boot.dbgOem = true → t.boot.dbgVendor = false →
      exec (.debugUnlock d) s = .next (
        if Config.sigOk 1 x (c.bulk.take 64) then ends (logAdd (t.setCtl { t.ctl with debug := 1, challenge := none }) 5 (leBytes 1 1)) d stOk
        else ends t d stDenied))

/-- COUNTERS_READ of a resource other than an event source, of the hub, of a canary rule or of an attachment answers the scope's
counters in the order of its table, eight bytes each; without CLEAR it changes nothing, with CLEAR it clears exactly those
counters. -/
def Obligations.CounterReads : Prop :=
  ∀ (d : Desc) (s : State),
    let t := begins s d.part
    let c := cmdOf t d
    (∀ cls i l, runs iCountersRead d s = true → c.u 8 1 = 0 → c.u 10 1 = 0 → d.bulkLen % 8 = 0 →
      localRes t d.part (c.u 12 4) = some (cls, i) → cls ≠ 6 → c.owned = true → t.mayRead d.part cls i = true → l = resCtrs t cls i →
      8 * l.length ≤ d.bulkLen →
      exec (.countersRead d) s = .next (ends t d stOk (leBytes 2 l.length) (l.flatMap (fun e => leBytes 8 (t.ctr e.1 e.2))))) ∧
    (∀ cls i l, runs iCountersRead d s = true → c.u 8 1 = 0 → c.u 10 1 = 1 → d.bulkLen % 8 = 0 →
      localRes t d.part (c.u 12 4) = some (cls, i) → cls ≠ 6 → c.owned = true → t.owns d.part cls i = true → t.fwHeld cls i = false →
      l = resCtrs t cls i → 8 * l.length ≤ d.bulkLen →
      exec (.countersRead d) s = .next (ends (forEach l t (fun e x => x.clearCtr e.1 e.2)) d stOk (leBytes 2 l.length)
        (l.flatMap (fun e => leBytes 8 (t.ctr e.1 e.2))))) ∧
    (runs iCountersRead d s = true → c.u 8 1 = 4 → c.u 10 1 = 0 → d.bulkLen % 8 = 0 → c.owned = true → d.part = 0 →
      8 * hubCtrs.length ≤ d.bulkLen →
      exec (.countersRead d) s = .next (ends t d stOk (leBytes 2 hubCtrs.length) (hubCtrs.flatMap (fun e => leBytes 8 (t.ctr e.1 e.2)))))

/-- Power-on, RESET_N low for at least 1 µs and a brown-out of at least 10 µs sample the straps, clear partitions, queues,
counters, memories, time, cycle, CAN, hewers, power branches and the ring keys, and keep the assay die, the flash and OTP.
RESET_N low for 100 ns or less and a shorter brown-out change nothing; RESET_N low between 100 ns and 1 µs either resets or
changes nothing, and which is free (R532). BOOT with RESCUE_N low or without a flash ends in rescue station mode with partition
0 open and no service firmware. The expiry of a trial window writes the reverting record and resets with cause 7. CONFIG_APPLY
without a valid configuration slot opens partition 0. -/
def Obligations.ResetsAndStartUp : Prop :=
  (∀ (s : State) (cause : Nat) (i : Instr), (i = .powerOnReset ∧ cause = 0 ∨ (∃ ns, 1000 ≤ ns ∧ i = .resetN ns) ∧ cause = 1
      ∨ (∃ us, 10 ≤ us ∧ i = .brownOut us) ∧ cause = 2) →
    ∃ t, exec i s = .next t ∧ t.parts = [] ∧ t.queues = [] ∧ t.counters = [] ∧ t.island = {} ∧ t.time = {} ∧ t.cycle = {} ∧ t.can = {} ∧
      t.crush = {} ∧ t.field.hewers = [] ∧ t.field.flags = [] ∧ t.power = {} ∧ t.sw = {} ∧ t.bridge = {} ∧
      t.assay = s.assay ∧ t.boot.cause = cause ∧ t.boot.bootCount = 0 ∧ t.boot.running = false ∧ t.boot.configured = false ∧
      t.boot.nodeSel = s.boot.pinNodeSel ∧ t.boot.ringRole = s.boot.pinRingRole ∧ t.boot.bankPull = s.boot.pinBankPull ∧
      t.boot.rescueN = s.boot.pinRescueN ∧ t.boot.hub = s.boot.hub ∧ t.boot.conf = s.boot.conf ∧ t.boot.thermo = s.boot.thermo ∧
      t.boot.rec0 = s.boot.rec0 ∧ t.boot.rec1 = s.boot.rec1 ∧ t.boot.log = s.boot.log ∧ t.pending = s.pending) ∧
  (∀ (s : State) (ns : Nat), ns ≤ 100 → exec (.resetN ns) s = .next s) ∧
  (∀ (s : State) (ns : Nat), 100 < ns → ns < 1000 → let u := { s with fresh := s.fresh + 1 }
    exec (.resetN ns) s = .next u ∨ exec (.resetN ns) s = .next (powerOn u 1)) ∧
  (∀ (s : State) (us : Nat), us < 10 → exec (.brownOut us) s = .next s) ∧
  (∀ (s : State), s.boot.running = false → s.boot.rescue = false → s.faults.safeHalt = false → s.hotHold = false →
    s.boot.resetAt = none → s.ring.mgrNode = 0 → (s.boot.rescueN = false ∨ s.boot.flashOk = false) →
    ∃ t, exec (.boot []) s = .next t ∧ t.boot.rescue = true ∧ t.boot.running = false ∧ (t.part 0).st = 1) ∧
  (∀ (s : State), s.boot.trialRun = true → s.boot.runAt + s.boot.current.window * 60000000000 ≤ s.lt →
    exec .trialWindowExpiry s = .next (doWarm (revertTrial s s.boot.current.active s.boot.current.previous) 7)) ∧
  (∀ (s : State), s.boot.running = true → s.boot.configured = false → s.boot.flashOk = false →
    ∃ t, exec .configApply s = .next t ∧ t.boot.configured = true ∧ t.boot.cfgSlot = s.boot.cfgSlot)

/-- A warm reset keeps the time island, the power die's and the assay die's state, the node number, flash and OTP, FAULT_FIRST
and external memory; it empties space 4, the pool, every table, the hewers and flags and the CAN channels, sets every partition
ABSENT and advances BOOT_COUNT modulo 256 (R480); every counter is 0 but HANDSHAKE_DISCARD, which counts the words that the
reset of the main die's islands discards (R14). External memory kept is the model's choice (log 65). -/
def Obligations.WarmResetKeeps : Prop :=
  ∀ (s : State) (cause : Nat),
    let t := warmClear s cause
    t.time = s.time ∧ t.power = s.power ∧ t.assay = s.assay ∧ t.ring.node = s.ring.node ∧ t.ring.nodeSrc = s.ring.nodeSrc ∧
    t.boot.hub = s.boot.hub ∧ t.boot.conf = s.boot.conf ∧ t.boot.rec0 = s.boot.rec0 ∧ t.boot.rec1 = s.boot.rec1 ∧
    t.boot.thermo = s.boot.thermo ∧ t.boot.log = s.boot.log ∧ t.island.ddr = s.island.ddr ∧ t.island.sram = [] ∧ t.island.owners = [] ∧
    t.queues = [] ∧ t.pool.extCells = 0 ∧ t.field.hewers = [] ∧ t.field.flags = [] ∧ t.can = {} ∧ t.crush = {} ∧
    (∀ id k, ctrKey id k ≠ ctrKey cHandshakeDiscard 0 → t.ctr id k = 0) ∧
    t.ctr cHandshakeDiscard 0 = (s.ctl.held.filter (fun e => decide (e.2 ≤ 8))).length ∧
    t.boot.cause = cause ∧ t.boot.bootCount = (s.boot.bootCount + 1) % 256 ∧ t.boot.configured = false ∧ t.boot.running = false ∧
    (∀ p, (t.part p).st = 0 ∧ (t.part p).ffValid = (s.part p).ffValid ∧ (t.part p).ffCode = (s.part p).ffCode
      ∧ (t.part p).ffTime = (s.part p).ffTime ∧ (t.part p).fcCount = (s.part p).fcCount)
end

