-- ==== Sys2Proof/Laws/Table.lean ====
section
/-!
SUPPORT. Tables and byte memories: what a read gives after a write, and that every operation keeps the canonical form.
-/
namespace Sys2Proof.Machine

@[simp] theorem tblGet_tblSet_same {α : Type} (t : Tbl α) (k : Nat) (v : α) : tblGet (tblSet t k v) k = some v := by
  induction t with
  | nil => simp [tblSet, tblGet]
  | cons e r ih =>
    obtain ⟨j, w⟩ := e
    simp only [tblSet]
    split
    · simp [tblGet]
    · split
      · simp [tblGet]
      · rw [tblGet, if_neg (by omega), ih]

@[simp] theorem tblGet_tblSet_ne {α : Type} (t : Tbl α) {k l : Nat} (v : α) (h : l ≠ k) : tblGet (tblSet t k v) l = tblGet t l := by
  induction t with
  | nil => simp [tblSet, tblGet, Ne.symm h]
  | cons e r ih =>
    obtain ⟨j, w⟩ := e
    simp only [tblSet]
    split
    · simp [tblGet, Ne.symm h]
    · split
      · subst_vars; simp [tblGet, Ne.symm h]
      · simp [tblGet, ih]

@[simp] theorem tblGetD_tblSet_same {α : Type} (t : Tbl α) (k : Nat) (v d : α) : tblGetD (tblSet t k v) k d = v := by
  simp [tblGetD]

@[simp] theorem tblGetD_tblSet_ne {α : Type} (t : Tbl α) {k l : Nat} (v d : α) (h : l ≠ k) :
    tblGetD (tblSet t k v) l d = tblGetD t l d := by simp [tblGetD, h]

/-- The last write of an entry stands, whatever the table. -/
@[simp] theorem tblSet_tblSet {α : Type} (t : Tbl α) (k : Nat) (v w : α) : tblSet (tblSet t k v) k w = tblSet t k w := by
  induction t with
  | nil => simp [tblSet]
  | cons e r ih =>
    obtain ⟨j, u⟩ := e
    by_cases h1 : k < j
    · simp [tblSet, h1]
    · by_cases h2 : k = j
      · subst h2; simp [tblSet]
      · simp [tblSet, h1, h2, ih]

/-- Writing an entry keeps the numbers of a table strictly rising. -/
theorem tblSet_wf {α : Type} (t : Tbl α) (k : Nat) (v : α) (lo : Nat) (hk : lo ≤ k) (h : tblWfFrom lo t = true) :
    tblWfFrom lo (tblSet t k v) = true := by
  induction t generalizing lo with
  | nil => simp [tblSet, tblWfFrom, hk]
  | cons e r ih =>
    obtain ⟨j, w⟩ := e
    simp only [tblWfFrom, Bool.and_eq_true, decide_eq_true_eq] at h
    simp only [tblSet]
    split
    · simp [tblWfFrom, hk, h.2]; omega
    · split
      · subst_vars; simp [tblWfFrom, hk, h.2]
      · simp [tblWfFrom, h.1, ih (j + 1) (by omega) h.2]

/-- The lower bound of a table's numbers may be weakened. -/
theorem tblWfFrom_mono {α : Type} (t : Tbl α) {a b : Nat} (hab : a ≤ b) (h : tblWfFrom b t = true) : tblWfFrom a t = true := by
  cases t with
  | nil => rfl
  | cons e r =>
    simp only [tblWfFrom, Bool.and_eq_true, decide_eq_true_eq] at h ⊢
    exact ⟨by omega, h.2⟩

/-- Taking an entry out keeps the numbers of a table strictly rising. -/
theorem tblDel_wf {α : Type} (t : Tbl α) (k lo : Nat) (h : tblWfFrom lo t = true) : tblWfFrom lo (tblDel t k) = true := by
  induction t generalizing lo with
  | nil => rfl
  | cons e r ih =>
    obtain ⟨j, w⟩ := e
    simp only [tblWfFrom, Bool.and_eq_true, decide_eq_true_eq] at h
    simp only [tblDel]
    split
    · exact tblWfFrom_mono r (by omega) h.2
    · simp [tblWfFrom, h.1, ih (j + 1) h.2]

/-- The lower bound of a memory's addresses may be weakened. -/
theorem memWfFrom_mono (m : List Host.Cell) {a b : Nat} (hab : a ≤ b) (h : memWfFrom b m = true) : memWfFrom a m = true := by
  cases m with
  | nil => rfl
  | cons e r =>
    simp only [memWfFrom, Bool.and_eq_true, decide_eq_true_eq] at h ⊢
    exact ⟨⟨by omega, h.1.2⟩, h.2⟩

/-- An address below every listed one reads 0. -/
theorem memGet_below (m : List Host.Cell) {a lo : Nat} (hlt : a < lo) (h : memWfFrom lo m = true) : memGet m a = 0 := by
  induction m generalizing lo with
  | nil => rfl
  | cons e r ih =>
    obtain ⟨j, w⟩ := e
    simp only [memWfFrom, Bool.and_eq_true, decide_eq_true_eq] at h
    rw [memGet, if_neg (by omega)]
    exact ih (lo := j + 1) (by omega) h.2

/-- Writing one byte keeps the canonical form. -/
theorem memSet_wfFrom (m : List Host.Cell) (a : Nat) (v : Byte) (lo : Nat) (ha : lo ≤ a) (h : memWfFrom lo m = true) :
    memWfFrom lo (memSet m a v) = true := by
  induction m generalizing lo with
  | nil => simp only [memSet]; split <;> simp_all [memWfFrom]
  | cons e r ih =>
    obtain ⟨j, w⟩ := e
    have h0 := h
    simp only [memWfFrom, Bool.and_eq_true, decide_eq_true_eq] at h
    simp only [memSet]
    split
    · split
      · exact h0
      · rename_i h1 h2
        simp only [memWfFrom, Bool.and_eq_true, decide_eq_true_eq]
        exact ⟨⟨ha, h2⟩, ⟨by omega, h.1.2⟩, h.2⟩
    · split
      · split
        · exact memWfFrom_mono r (by omega) h.2
        · rename_i h2 h3
          simp only [memWfFrom, Bool.and_eq_true, decide_eq_true_eq]
          refine ⟨⟨ha, h3⟩, ?_⟩
          rw [h2]; exact h.2
      · simp only [memWfFrom, Bool.and_eq_true, decide_eq_true_eq]
        exact ⟨h.1, ih (j + 1) (by omega) h.2⟩

/-- Writing one byte keeps the canonical form of a memory. -/
theorem memSet_wf (m : List Host.Cell) (a : Nat) (v : Byte) (h : Memory.wf m = true) : Memory.wf (memSet m a v) = true :=
  memSet_wfFrom m a v 0 (Nat.zero_le a) h

/-- Writing bytes keeps the canonical form of a memory. -/
theorem memWrite_wf (d : List Byte) : ∀ (m : List Host.Cell) (a : Nat), Memory.wf m = true → Memory.wf (memWrite m a d) = true := by
  induction d with
  | nil => intro m a h; exact h
  | cons b r ih => intro m a h; exact ih _ _ (memSet_wf m a b h)

/-- A byte read where it was written. -/
theorem memGet_memSet_same (m : List Host.Cell) (a : Nat) (v : Byte) (lo : Nat) (h : memWfFrom lo m = true) :
    memGet (memSet m a v) a = v := by
  induction m generalizing lo with
  | nil => simp only [memSet]; split <;> simp_all [memGet]
  | cons e r ih =>
    obtain ⟨j, w⟩ := e
    have h0 := h
    simp only [memWfFrom, Bool.and_eq_true, decide_eq_true_eq] at h
    simp only [memSet]
    split
    · split
      · rename_i h1 h2
        rw [memGet, if_neg (by omega), h2]
        exact memGet_below r (lo := j + 1) (by omega) h.2
      · simp [memGet]
    · split
      · split
        · rename_i h2 h3
          rw [h3]; exact memGet_below r (lo := j + 1) (by omega) h.2
        · simp [memGet]
      · rw [memGet, if_neg (by omega)]; exact ih (j + 1) h.2

/-- A byte read elsewhere is as before. -/
theorem memGet_memSet_ne (m : List Host.Cell) {a b : Nat} (v : Byte) (hb : b ≠ a) : memGet (memSet m a v) b = memGet m b := by
  induction m with
  | nil => simp only [memSet]; split <;> simp [memGet, Ne.symm hb]
  | cons e r ih =>
    obtain ⟨j, w⟩ := e
    simp only [memSet]
    split
    · split
      · rfl
      · simp [memGet, Ne.symm hb]
    · split
      · subst_vars; split
        · simp [memGet, Ne.symm hb]
        · simp [memGet, Ne.symm hb]
      · simp [memGet, ih]

/-- A byte outside a range that was written is as before. -/
theorem memGet_memWrite_out (d : List Byte) : ∀ (m : List Host.Cell) (a b : Nat), (b < a ∨ a + d.length ≤ b) →
    memGet (memWrite m a d) b = memGet m b := by
  induction d with
  | nil => intro m a b _; rfl
  | cons x r ih =>
    intro m a b h
    simp only [List.length_cons] at h
    rw [memWrite, ih _ _ _ (by omega), memGet_memSet_ne m x (by omega)]

end Sys2Proof.Machine
end

