-- ==== Sys2Proof/Laws/State.lean ====
section
/-!
SUPPORT. What an update of one part of the state leaves: one lemma for each part and update, and a part read after it was written.
-/
namespace Sys2Proof.Machine

@[simp] theorem State.setLocks_ring (s : State) (l : List Lock) : (s.setLocks l).ring = s.ring := rfl
@[simp] theorem State.setLocks_sw (s : State) (l : List Lock) : (s.setLocks l).sw = s.sw := rfl
@[simp] theorem State.setLocks_queues (s : State) (l : List Lock) : (s.setLocks l).queues = s.queues := rfl
@[simp] theorem State.setLocks_pool (s : State) (l : List Lock) : (s.setLocks l).pool = s.pool := rfl
@[simp] theorem State.setLocks_time (s : State) (l : List Lock) : (s.setLocks l).time = s.time := rfl
@[simp] theorem State.setLocks_cycle (s : State) (l : List Lock) : (s.setLocks l).cycle = s.cycle := rfl
@[simp] theorem State.setLocks_can (s : State) (l : List Lock) : (s.setLocks l).can = s.can := rfl
@[simp] theorem State.setLocks_crush (s : State) (l : List Lock) : (s.setLocks l).crush = s.crush := rfl
@[simp] theorem State.setLocks_field (s : State) (l : List Lock) : (s.setLocks l).field = s.field := rfl
@[simp] theorem State.setLocks_parts (s : State) (l : List Lock) : (s.setLocks l).parts = s.parts := rfl
@[simp] theorem State.setLocks_faults (s : State) (l : List Lock) : (s.setLocks l).faults = s.faults := rfl
@[simp] theorem State.setLocks_boot (s : State) (l : List Lock) : (s.setLocks l).boot = s.boot := rfl
@[simp] theorem State.setLocks_ctl (s : State) (l : List Lock) : (s.setLocks l).ctl = s.ctl := rfl
@[simp] theorem State.setLocks_power (s : State) (l : List Lock) : (s.setLocks l).power = s.power := rfl
@[simp] theorem State.setLocks_assay (s : State) (l : List Lock) : (s.setLocks l).assay = s.assay := rfl
@[simp] theorem State.setLocks_island (s : State) (l : List Lock) : (s.setLocks l).island = s.island := rfl
@[simp] theorem State.setLocks_counters (s : State) (l : List Lock) : (s.setLocks l).counters = s.counters := rfl
@[simp] theorem State.setLocks_out (s : State) (l : List Lock) : (s.setLocks l).out = s.out := rfl
@[simp] theorem State.setLocks_fresh (s : State) (l : List Lock) : (s.setLocks l).fresh = s.fresh := rfl
@[simp] theorem State.setLocks_pending (s : State) (l : List Lock) : (s.setLocks l).pending = s.pending := rfl
@[simp] theorem State.setLocks_port (s : State) (l : List Lock) (j : Nat) : (s.setLocks l).port j = s.port j := rfl
@[simp] theorem State.setLocks_queue (s : State) (l : List Lock) (j : Nat) : (s.setLocks l).queue j = s.queue j := rfl
@[simp] theorem State.setLocks_part (s : State) (l : List Lock) (j : Nat) : (s.setLocks l).part j = s.part j := rfl
@[simp] theorem State.setLocks_source (s : State) (l : List Lock) (j : Nat) : (s.setLocks l).source j = s.source j := rfl
@[simp] theorem State.setLocks_dset (s : State) (l : List Lock) (j : Nat) : (s.setLocks l).dset j = s.dset j := rfl
@[simp] theorem State.setLocks_canary (s : State) (l : List Lock) (j : Nat) : (s.setLocks l).canary j = s.canary j := rfl
@[simp] theorem State.setLocks_sampler (s : State) (l : List Lock) (j : Nat) : (s.setLocks l).sampler j = s.sampler j := rfl
@[simp] theorem State.setLocks_stream (s : State) (l : List Lock) (j : Nat) : (s.setLocks l).stream j = s.stream j := rfl
@[simp] theorem State.setLocks_trig (s : State) (l : List Lock) (j : Nat) : (s.setLocks l).trig j = s.trig j := rfl
@[simp] theorem State.setLocks_capt (s : State) (l : List Lock) (j : Nat) : (s.setLocks l).capt j = s.capt j := rfl
@[simp] theorem State.setLocks_group (s : State) (l : List Lock) (j : Nat) : (s.setLocks l).group j = s.group j := rfl
@[simp] theorem State.setLocks_twin (s : State) (l : List Lock) (j : Nat) : (s.setLocks l).twin j = s.twin j := rfl
@[simp] theorem State.setLocks_chan (s : State) (l : List Lock) (j : Nat) : (s.setLocks l).chan j = s.chan j := rfl
@[simp] theorem State.setLocks_map (s : State) (l : List Lock) (j : Nat) : (s.setLocks l).map j = s.map j := rfl
@[simp] theorem State.setLocks_pin (s : State) (l : List Lock) (j : Nat) : (s.setLocks l).pin j = s.pin j := rfl
@[simp] theorem State.setLocks_bank (s : State) (l : List Lock) (j : Nat) : (s.setLocks l).bank j = s.bank j := rfl
@[simp] theorem State.setLocks_hewer (s : State) (l : List Lock) (j : Nat) : (s.setLocks l).hewer j = s.hewer j := rfl
@[simp] theorem State.setLocks_flag (s : State) (l : List Lock) (j : Nat) : (s.setLocks l).flag j = s.flag j := rfl
@[simp] theorem State.setLocks_branch (s : State) (l : List Lock) (j : Nat) : (s.setLocks l).branch j = s.branch j := rfl
@[simp] theorem State.setLocks_pair (s : State) (l : List Lock) (j : Nat) : (s.setLocks l).pair j = s.pair j := rfl
@[simp] theorem State.setLocks_region (s : State) (l : List Lock) (j : Nat) : (s.setLocks l).region j = s.region j := rfl
@[simp] theorem State.setAssay_assay (s : State) (x : Assay) : (s.setAssay x).assay = x := rfl
@[simp] theorem State.setAssay_ring (s : State) (x : Assay) : (s.setAssay x).ring = s.ring := rfl
@[simp] theorem State.setAssay_sw (s : State) (x : Assay) : (s.setAssay x).sw = s.sw := rfl
@[simp] theorem State.setAssay_queues (s : State) (x : Assay) : (s.setAssay x).queues = s.queues := rfl
@[simp] theorem State.setAssay_pool (s : State) (x : Assay) : (s.setAssay x).pool = s.pool := rfl
@[simp] theorem State.setAssay_time (s : State) (x : Assay) : (s.setAssay x).time = s.time := rfl
@[simp] theorem State.setAssay_cycle (s : State) (x : Assay) : (s.setAssay x).cycle = s.cycle := rfl
@[simp] theorem State.setAssay_can (s : State) (x : Assay) : (s.setAssay x).can = s.can := rfl
@[simp] theorem State.setAssay_crush (s : State) (x : Assay) : (s.setAssay x).crush = s.crush := rfl
@[simp] theorem State.setAssay_field (s : State) (x : Assay) : (s.setAssay x).field = s.field := rfl
@[simp] theorem State.setAssay_bridge (s : State) (x : Assay) : (s.setAssay x).bridge = s.bridge := rfl
@[simp] theorem State.setAssay_parts (s : State) (x : Assay) : (s.setAssay x).parts = s.parts := rfl
@[simp] theorem State.setAssay_faults (s : State) (x : Assay) : (s.setAssay x).faults = s.faults := rfl
@[simp] theorem State.setAssay_boot (s : State) (x : Assay) : (s.setAssay x).boot = s.boot := rfl
@[simp] theorem State.setAssay_ctl (s : State) (x : Assay) : (s.setAssay x).ctl = s.ctl := rfl
@[simp] theorem State.setAssay_power (s : State) (x : Assay) : (s.setAssay x).power = s.power := rfl
@[simp] theorem State.setAssay_island (s : State) (x : Assay) : (s.setAssay x).island = s.island := rfl
@[simp] theorem State.setAssay_counters (s : State) (x : Assay) : (s.setAssay x).counters = s.counters := rfl
@[simp] theorem State.setAssay_out (s : State) (x : Assay) : (s.setAssay x).out = s.out := rfl
@[simp] theorem State.setAssay_fresh (s : State) (x : Assay) : (s.setAssay x).fresh = s.fresh := rfl
@[simp] theorem State.setAssay_pending (s : State) (x : Assay) : (s.setAssay x).pending = s.pending := rfl
@[simp] theorem State.setAssay_port (s : State) (x : Assay) (j : Nat) : (s.setAssay x).port j = s.port j := rfl
@[simp] theorem State.setAssay_queue (s : State) (x : Assay) (j : Nat) : (s.setAssay x).queue j = s.queue j := rfl
@[simp] theorem State.setAssay_part (s : State) (x : Assay) (j : Nat) : (s.setAssay x).part j = s.part j := rfl
@[simp] theorem State.setAssay_source (s : State) (x : Assay) (j : Nat) : (s.setAssay x).source j = s.source j := rfl
@[simp] theorem State.setAssay_att (s : State) (x : Assay) (j : Nat) : (s.setAssay x).att j = s.att j := rfl
@[simp] theorem State.setAssay_host (s : State) (x : Assay) (j : Nat) : (s.setAssay x).host j = s.host j := rfl
@[simp] theorem State.setAssay_dset (s : State) (x : Assay) (j : Nat) : (s.setAssay x).dset j = s.dset j := rfl
@[simp] theorem State.setAssay_canary (s : State) (x : Assay) (j : Nat) : (s.setAssay x).canary j = s.canary j := rfl
@[simp] theorem State.setAssay_sampler (s : State) (x : Assay) (j : Nat) : (s.setAssay x).sampler j = s.sampler j := rfl
@[simp] theorem State.setAssay_stream (s : State) (x : Assay) (j : Nat) : (s.setAssay x).stream j = s.stream j := rfl
@[simp] theorem State.setAssay_trig (s : State) (x : Assay) (j : Nat) : (s.setAssay x).trig j = s.trig j := rfl
@[simp] theorem State.setAssay_capt (s : State) (x : Assay) (j : Nat) : (s.setAssay x).capt j = s.capt j := rfl
@[simp] theorem State.setAssay_group (s : State) (x : Assay) (j : Nat) : (s.setAssay x).group j = s.group j := rfl
@[simp] theorem State.setAssay_twin (s : State) (x : Assay) (j : Nat) : (s.setAssay x).twin j = s.twin j := rfl
@[simp] theorem State.setAssay_chan (s : State) (x : Assay) (j : Nat) : (s.setAssay x).chan j = s.chan j := rfl
@[simp] theorem State.setAssay_map (s : State) (x : Assay) (j : Nat) : (s.setAssay x).map j = s.map j := rfl
@[simp] theorem State.setAssay_pin (s : State) (x : Assay) (j : Nat) : (s.setAssay x).pin j = s.pin j := rfl
@[simp] theorem State.setAssay_bank (s : State) (x : Assay) (j : Nat) : (s.setAssay x).bank j = s.bank j := rfl
@[simp] theorem State.setAssay_hewer (s : State) (x : Assay) (j : Nat) : (s.setAssay x).hewer j = s.hewer j := rfl
@[simp] theorem State.setAssay_flag (s : State) (x : Assay) (j : Nat) : (s.setAssay x).flag j = s.flag j := rfl
@[simp] theorem State.setAssay_branch (s : State) (x : Assay) (j : Nat) : (s.setAssay x).branch j = s.branch j := rfl
@[simp] theorem State.setAssay_pair (s : State) (x : Assay) (j : Nat) : (s.setAssay x).pair j = s.pair j := rfl
@[simp] theorem State.setAssay_region (s : State) (x : Assay) (j : Nat) : (s.setAssay x).region j = s.region j := rfl
@[simp] theorem State.setBridge_bridge (s : State) (x : Bridge) : (s.setBridge x).bridge = x := rfl
@[simp] theorem State.setBridge_ring (s : State) (x : Bridge) : (s.setBridge x).ring = s.ring := rfl
@[simp] theorem State.setBridge_sw (s : State) (x : Bridge) : (s.setBridge x).sw = s.sw := rfl
@[simp] theorem State.setBridge_queues (s : State) (x : Bridge) : (s.setBridge x).queues = s.queues := rfl
@[simp] theorem State.setBridge_pool (s : State) (x : Bridge) : (s.setBridge x).pool = s.pool := rfl
@[simp] theorem State.setBridge_time (s : State) (x : Bridge) : (s.setBridge x).time = s.time := rfl
@[simp] theorem State.setBridge_cycle (s : State) (x : Bridge) : (s.setBridge x).cycle = s.cycle := rfl
@[simp] theorem State.setBridge_can (s : State) (x : Bridge) : (s.setBridge x).can = s.can := rfl
@[simp] theorem State.setBridge_crush (s : State) (x : Bridge) : (s.setBridge x).crush = s.crush := rfl
@[simp] theorem State.setBridge_field (s : State) (x : Bridge) : (s.setBridge x).field = s.field := rfl
@[simp] theorem State.setBridge_parts (s : State) (x : Bridge) : (s.setBridge x).parts = s.parts := rfl
@[simp] theorem State.setBridge_faults (s : State) (x : Bridge) : (s.setBridge x).faults = s.faults := rfl
@[simp] theorem State.setBridge_boot (s : State) (x : Bridge) : (s.setBridge x).boot = s.boot := rfl
@[simp] theorem State.setBridge_ctl (s : State) (x : Bridge) : (s.setBridge x).ctl = s.ctl := rfl
@[simp] theorem State.setBridge_power (s : State) (x : Bridge) : (s.setBridge x).power = s.power := rfl
@[simp] theorem State.setBridge_assay (s : State) (x : Bridge) : (s.setBridge x).assay = s.assay := rfl
@[simp] theorem State.setBridge_island (s : State) (x : Bridge) : (s.setBridge x).island = s.island := rfl
@[simp] theorem State.setBridge_counters (s : State) (x : Bridge) : (s.setBridge x).counters = s.counters := rfl
@[simp] theorem State.setBridge_out (s : State) (x : Bridge) : (s.setBridge x).out = s.out := rfl
@[simp] theorem State.setBridge_fresh (s : State) (x : Bridge) : (s.setBridge x).fresh = s.fresh := rfl
@[simp] theorem State.setBridge_pending (s : State) (x : Bridge) : (s.setBridge x).pending = s.pending := rfl
@[simp] theorem State.setBridge_port (s : State) (x : Bridge) (j : Nat) : (s.setBridge x).port j = s.port j := rfl
@[simp] theorem State.setBridge_queue (s : State) (x : Bridge) (j : Nat) : (s.setBridge x).queue j = s.queue j := rfl
@[simp] theorem State.setBridge_part (s : State) (x : Bridge) (j : Nat) : (s.setBridge x).part j = s.part j := rfl
@[simp] theorem State.setBridge_source (s : State) (x : Bridge) (j : Nat) : (s.setBridge x).source j = s.source j := rfl
@[simp] theorem State.setBridge_dset (s : State) (x : Bridge) (j : Nat) : (s.setBridge x).dset j = s.dset j := rfl
@[simp] theorem State.setBridge_canary (s : State) (x : Bridge) (j : Nat) : (s.setBridge x).canary j = s.canary j := rfl
@[simp] theorem State.setBridge_sampler (s : State) (x : Bridge) (j : Nat) : (s.setBridge x).sampler j = s.sampler j := rfl
@[simp] theorem State.setBridge_stream (s : State) (x : Bridge) (j : Nat) : (s.setBridge x).stream j = s.stream j := rfl
@[simp] theorem State.setBridge_trig (s : State) (x : Bridge) (j : Nat) : (s.setBridge x).trig j = s.trig j := rfl
@[simp] theorem State.setBridge_capt (s : State) (x : Bridge) (j : Nat) : (s.setBridge x).capt j = s.capt j := rfl
@[simp] theorem State.setBridge_group (s : State) (x : Bridge) (j : Nat) : (s.setBridge x).group j = s.group j := rfl
@[simp] theorem State.setBridge_twin (s : State) (x : Bridge) (j : Nat) : (s.setBridge x).twin j = s.twin j := rfl
@[simp] theorem State.setBridge_chan (s : State) (x : Bridge) (j : Nat) : (s.setBridge x).chan j = s.chan j := rfl
@[simp] theorem State.setBridge_map (s : State) (x : Bridge) (j : Nat) : (s.setBridge x).map j = s.map j := rfl
@[simp] theorem State.setBridge_pin (s : State) (x : Bridge) (j : Nat) : (s.setBridge x).pin j = s.pin j := rfl
@[simp] theorem State.setBridge_bank (s : State) (x : Bridge) (j : Nat) : (s.setBridge x).bank j = s.bank j := rfl
@[simp] theorem State.setBridge_hewer (s : State) (x : Bridge) (j : Nat) : (s.setBridge x).hewer j = s.hewer j := rfl
@[simp] theorem State.setBridge_flag (s : State) (x : Bridge) (j : Nat) : (s.setBridge x).flag j = s.flag j := rfl
@[simp] theorem State.setBridge_branch (s : State) (x : Bridge) (j : Nat) : (s.setBridge x).branch j = s.branch j := rfl
@[simp] theorem State.setBridge_pair (s : State) (x : Bridge) (j : Nat) : (s.setBridge x).pair j = s.pair j := rfl
@[simp] theorem State.setBridge_region (s : State) (x : Bridge) (j : Nat) : (s.setBridge x).region j = s.region j := rfl
@[simp] theorem State.setSession_ring (s : State) (t : TpSession) : (s.setSession t).ring = s.ring := rfl
@[simp] theorem State.setSession_sw (s : State) (t : TpSession) : (s.setSession t).sw = s.sw := rfl
@[simp] theorem State.setSession_queues (s : State) (t : TpSession) : (s.setSession t).queues = s.queues := rfl
@[simp] theorem State.setSession_pool (s : State) (t : TpSession) : (s.setSession t).pool = s.pool := rfl
@[simp] theorem State.setSession_time (s : State) (t : TpSession) : (s.setSession t).time = s.time := rfl
@[simp] theorem State.setSession_cycle (s : State) (t : TpSession) : (s.setSession t).cycle = s.cycle := rfl
@[simp] theorem State.setSession_crush (s : State) (t : TpSession) : (s.setSession t).crush = s.crush := rfl
@[simp] theorem State.setSession_field (s : State) (t : TpSession) : (s.setSession t).field = s.field := rfl
@[simp] theorem State.setSession_bridge (s : State) (t : TpSession) : (s.setSession t).bridge = s.bridge := rfl
@[simp] theorem State.setSession_parts (s : State) (t : TpSession) : (s.setSession t).parts = s.parts := rfl
@[simp] theorem State.setSession_faults (s : State) (t : TpSession) : (s.setSession t).faults = s.faults := rfl
@[simp] theorem State.setSession_boot (s : State) (t : TpSession) : (s.setSession t).boot = s.boot := rfl
@[simp] theorem State.setSession_ctl (s : State) (t : TpSession) : (s.setSession t).ctl = s.ctl := rfl
@[simp] theorem State.setSession_power (s : State) (t : TpSession) : (s.setSession t).power = s.power := rfl
@[simp] theorem State.setSession_assay (s : State) (t : TpSession) : (s.setSession t).assay = s.assay := rfl
@[simp] theorem State.setSession_island (s : State) (t : TpSession) : (s.setSession t).island = s.island := rfl
@[simp] theorem State.setSession_counters (s : State) (t : TpSession) : (s.setSession t).counters = s.counters := rfl
@[simp] theorem State.setSession_out (s : State) (t : TpSession) : (s.setSession t).out = s.out := rfl
@[simp] theorem State.setSession_fresh (s : State) (t : TpSession) : (s.setSession t).fresh = s.fresh := rfl
@[simp] theorem State.setSession_pending (s : State) (t : TpSession) : (s.setSession t).pending = s.pending := rfl
@[simp] theorem State.setSession_port (s : State) (t : TpSession) (j : Nat) : (s.setSession t).port j = s.port j := rfl
@[simp] theorem State.setSession_queue (s : State) (t : TpSession) (j : Nat) : (s.setSession t).queue j = s.queue j := rfl
@[simp] theorem State.setSession_part (s : State) (t : TpSession) (j : Nat) : (s.setSession t).part j = s.part j := rfl
@[simp] theorem State.setSession_source (s : State) (t : TpSession) (j : Nat) : (s.setSession t).source j = s.source j := rfl
@[simp] theorem State.setSession_att (s : State) (t : TpSession) (j : Nat) : (s.setSession t).att j = s.att j := rfl
@[simp] theorem State.setSession_host (s : State) (t : TpSession) (j : Nat) : (s.setSession t).host j = s.host j := rfl
@[simp] theorem State.setSession_dset (s : State) (t : TpSession) (j : Nat) : (s.setSession t).dset j = s.dset j := rfl
@[simp] theorem State.setSession_canary (s : State) (t : TpSession) (j : Nat) : (s.setSession t).canary j = s.canary j := rfl
@[simp] theorem State.setSession_sampler (s : State) (t : TpSession) (j : Nat) : (s.setSession t).sampler j = s.sampler j := rfl
@[simp] theorem State.setSession_stream (s : State) (t : TpSession) (j : Nat) : (s.setSession t).stream j = s.stream j := rfl
@[simp] theorem State.setSession_trig (s : State) (t : TpSession) (j : Nat) : (s.setSession t).trig j = s.trig j := rfl
@[simp] theorem State.setSession_capt (s : State) (t : TpSession) (j : Nat) : (s.setSession t).capt j = s.capt j := rfl
@[simp] theorem State.setSession_group (s : State) (t : TpSession) (j : Nat) : (s.setSession t).group j = s.group j := rfl
@[simp] theorem State.setSession_twin (s : State) (t : TpSession) (j : Nat) : (s.setSession t).twin j = s.twin j := rfl
@[simp] theorem State.setSession_map (s : State) (t : TpSession) (j : Nat) : (s.setSession t).map j = s.map j := rfl
@[simp] theorem State.setSession_pin (s : State) (t : TpSession) (j : Nat) : (s.setSession t).pin j = s.pin j := rfl
@[simp] theorem State.setSession_bank (s : State) (t : TpSession) (j : Nat) : (s.setSession t).bank j = s.bank j := rfl
@[simp] theorem State.setSession_hewer (s : State) (t : TpSession) (j : Nat) : (s.setSession t).hewer j = s.hewer j := rfl
@[simp] theorem State.setSession_flag (s : State) (t : TpSession) (j : Nat) : (s.setSession t).flag j = s.flag j := rfl
@[simp] theorem State.setSession_branch (s : State) (t : TpSession) (j : Nat) : (s.setSession t).branch j = s.branch j := rfl
@[simp] theorem State.setSession_pair (s : State) (t : TpSession) (j : Nat) : (s.setSession t).pair j = s.pair j := rfl
@[simp] theorem State.setSession_region (s : State) (t : TpSession) (j : Nat) : (s.setSession t).region j = s.region j := rfl
@[simp] theorem State.setCycle_cycle (s : State) (x : Cycle) : (s.setCycle x).cycle = x := rfl
@[simp] theorem State.setCycle_ring (s : State) (x : Cycle) : (s.setCycle x).ring = s.ring := rfl
@[simp] theorem State.setCycle_sw (s : State) (x : Cycle) : (s.setCycle x).sw = s.sw := rfl
@[simp] theorem State.setCycle_queues (s : State) (x : Cycle) : (s.setCycle x).queues = s.queues := rfl
@[simp] theorem State.setCycle_pool (s : State) (x : Cycle) : (s.setCycle x).pool = s.pool := rfl
@[simp] theorem State.setCycle_time (s : State) (x : Cycle) : (s.setCycle x).time = s.time := rfl
@[simp] theorem State.setCycle_can (s : State) (x : Cycle) : (s.setCycle x).can = s.can := rfl
@[simp] theorem State.setCycle_crush (s : State) (x : Cycle) : (s.setCycle x).crush = s.crush := rfl
@[simp] theorem State.setCycle_field (s : State) (x : Cycle) : (s.setCycle x).field = s.field := rfl
@[simp] theorem State.setCycle_bridge (s : State) (x : Cycle) : (s.setCycle x).bridge = s.bridge := rfl
@[simp] theorem State.setCycle_parts (s : State) (x : Cycle) : (s.setCycle x).parts = s.parts := rfl
@[simp] theorem State.setCycle_faults (s : State) (x : Cycle) : (s.setCycle x).faults = s.faults := rfl
@[simp] theorem State.setCycle_boot (s : State) (x : Cycle) : (s.setCycle x).boot = s.boot := rfl
@[simp] theorem State.setCycle_ctl (s : State) (x : Cycle) : (s.setCycle x).ctl = s.ctl := rfl
@[simp] theorem State.setCycle_power (s : State) (x : Cycle) : (s.setCycle x).power = s.power := rfl
@[simp] theorem State.setCycle_assay (s : State) (x : Cycle) : (s.setCycle x).assay = s.assay := rfl
@[simp] theorem State.setCycle_island (s : State) (x : Cycle) : (s.setCycle x).island = s.island := rfl
@[simp] theorem State.setCycle_counters (s : State) (x : Cycle) : (s.setCycle x).counters = s.counters := rfl
@[simp] theorem State.setCycle_out (s : State) (x : Cycle) : (s.setCycle x).out = s.out := rfl
@[simp] theorem State.setCycle_fresh (s : State) (x : Cycle) : (s.setCycle x).fresh = s.fresh := rfl
@[simp] theorem State.setCycle_pending (s : State) (x : Cycle) : (s.setCycle x).pending = s.pending := rfl
@[simp] theorem State.setCycle_port (s : State) (x : Cycle) (j : Nat) : (s.setCycle x).port j = s.port j := rfl
@[simp] theorem State.setCycle_queue (s : State) (x : Cycle) (j : Nat) : (s.setCycle x).queue j = s.queue j := rfl
@[simp] theorem State.setCycle_part (s : State) (x : Cycle) (j : Nat) : (s.setCycle x).part j = s.part j := rfl
@[simp] theorem State.setCycle_source (s : State) (x : Cycle) (j : Nat) : (s.setCycle x).source j = s.source j := rfl
@[simp] theorem State.setCycle_att (s : State) (x : Cycle) (j : Nat) : (s.setCycle x).att j = s.att j := rfl
@[simp] theorem State.setCycle_host (s : State) (x : Cycle) (j : Nat) : (s.setCycle x).host j = s.host j := rfl
@[simp] theorem State.setCycle_dset (s : State) (x : Cycle) (j : Nat) : (s.setCycle x).dset j = s.dset j := rfl
@[simp] theorem State.setCycle_canary (s : State) (x : Cycle) (j : Nat) : (s.setCycle x).canary j = s.canary j := rfl
@[simp] theorem State.setCycle_sampler (s : State) (x : Cycle) (j : Nat) : (s.setCycle x).sampler j = s.sampler j := rfl
@[simp] theorem State.setCycle_stream (s : State) (x : Cycle) (j : Nat) : (s.setCycle x).stream j = s.stream j := rfl
@[simp] theorem State.setCycle_trig (s : State) (x : Cycle) (j : Nat) : (s.setCycle x).trig j = s.trig j := rfl
@[simp] theorem State.setCycle_capt (s : State) (x : Cycle) (j : Nat) : (s.setCycle x).capt j = s.capt j := rfl
@[simp] theorem State.setCycle_chan (s : State) (x : Cycle) (j : Nat) : (s.setCycle x).chan j = s.chan j := rfl
@[simp] theorem State.setCycle_map (s : State) (x : Cycle) (j : Nat) : (s.setCycle x).map j = s.map j := rfl
@[simp] theorem State.setCycle_pin (s : State) (x : Cycle) (j : Nat) : (s.setCycle x).pin j = s.pin j := rfl
@[simp] theorem State.setCycle_bank (s : State) (x : Cycle) (j : Nat) : (s.setCycle x).bank j = s.bank j := rfl
@[simp] theorem State.setCycle_hewer (s : State) (x : Cycle) (j : Nat) : (s.setCycle x).hewer j = s.hewer j := rfl
@[simp] theorem State.setCycle_flag (s : State) (x : Cycle) (j : Nat) : (s.setCycle x).flag j = s.flag j := rfl
@[simp] theorem State.setCycle_branch (s : State) (x : Cycle) (j : Nat) : (s.setCycle x).branch j = s.branch j := rfl
@[simp] theorem State.setCycle_pair (s : State) (x : Cycle) (j : Nat) : (s.setCycle x).pair j = s.pair j := rfl
@[simp] theorem State.setCycle_region (s : State) (x : Cycle) (j : Nat) : (s.setCycle x).region j = s.region j := rfl
@[simp] theorem State.setFaults_faults (s : State) (x : Faults) : (s.setFaults x).faults = x := rfl
@[simp] theorem State.setFaults_ring (s : State) (x : Faults) : (s.setFaults x).ring = s.ring := rfl
@[simp] theorem State.setFaults_sw (s : State) (x : Faults) : (s.setFaults x).sw = s.sw := rfl
@[simp] theorem State.setFaults_queues (s : State) (x : Faults) : (s.setFaults x).queues = s.queues := rfl
@[simp] theorem State.setFaults_pool (s : State) (x : Faults) : (s.setFaults x).pool = s.pool := rfl
@[simp] theorem State.setFaults_time (s : State) (x : Faults) : (s.setFaults x).time = s.time := rfl
@[simp] theorem State.setFaults_cycle (s : State) (x : Faults) : (s.setFaults x).cycle = s.cycle := rfl
@[simp] theorem State.setFaults_can (s : State) (x : Faults) : (s.setFaults x).can = s.can := rfl
@[simp] theorem State.setFaults_crush (s : State) (x : Faults) : (s.setFaults x).crush = s.crush := rfl
@[simp] theorem State.setFaults_field (s : State) (x : Faults) : (s.setFaults x).field = s.field := rfl
@[simp] theorem State.setFaults_bridge (s : State) (x : Faults) : (s.setFaults x).bridge = s.bridge := rfl
@[simp] theorem State.setFaults_parts (s : State) (x : Faults) : (s.setFaults x).parts = s.parts := rfl
@[simp] theorem State.setFaults_boot (s : State) (x : Faults) : (s.setFaults x).boot = s.boot := rfl
@[simp] theorem State.setFaults_ctl (s : State) (x : Faults) : (s.setFaults x).ctl = s.ctl := rfl
@[simp] theorem State.setFaults_power (s : State) (x : Faults) : (s.setFaults x).power = s.power := rfl
@[simp] theorem State.setFaults_assay (s : State) (x : Faults) : (s.setFaults x).assay = s.assay := rfl
@[simp] theorem State.setFaults_island (s : State) (x : Faults) : (s.setFaults x).island = s.island := rfl
@[simp] theorem State.setFaults_counters (s : State) (x : Faults) : (s.setFaults x).counters = s.counters := rfl
@[simp] theorem State.setFaults_out (s : State) (x : Faults) : (s.setFaults x).out = s.out := rfl
@[simp] theorem State.setFaults_fresh (s : State) (x : Faults) : (s.setFaults x).fresh = s.fresh := rfl
@[simp] theorem State.setFaults_pending (s : State) (x : Faults) : (s.setFaults x).pending = s.pending := rfl
@[simp] theorem State.setFaults_port (s : State) (x : Faults) (j : Nat) : (s.setFaults x).port j = s.port j := rfl
@[simp] theorem State.setFaults_queue (s : State) (x : Faults) (j : Nat) : (s.setFaults x).queue j = s.queue j := rfl
@[simp] theorem State.setFaults_part (s : State) (x : Faults) (j : Nat) : (s.setFaults x).part j = s.part j := rfl
@[simp] theorem State.setFaults_source (s : State) (x : Faults) (j : Nat) : (s.setFaults x).source j = s.source j := rfl
@[simp] theorem State.setFaults_att (s : State) (x : Faults) (j : Nat) : (s.setFaults x).att j = s.att j := rfl
@[simp] theorem State.setFaults_host (s : State) (x : Faults) (j : Nat) : (s.setFaults x).host j = s.host j := rfl
@[simp] theorem State.setFaults_dset (s : State) (x : Faults) (j : Nat) : (s.setFaults x).dset j = s.dset j := rfl
@[simp] theorem State.setFaults_canary (s : State) (x : Faults) (j : Nat) : (s.setFaults x).canary j = s.canary j := rfl
@[simp] theorem State.setFaults_sampler (s : State) (x : Faults) (j : Nat) : (s.setFaults x).sampler j = s.sampler j := rfl
@[simp] theorem State.setFaults_stream (s : State) (x : Faults) (j : Nat) : (s.setFaults x).stream j = s.stream j := rfl
@[simp] theorem State.setFaults_trig (s : State) (x : Faults) (j : Nat) : (s.setFaults x).trig j = s.trig j := rfl
@[simp] theorem State.setFaults_capt (s : State) (x : Faults) (j : Nat) : (s.setFaults x).capt j = s.capt j := rfl
@[simp] theorem State.setFaults_group (s : State) (x : Faults) (j : Nat) : (s.setFaults x).group j = s.group j := rfl
@[simp] theorem State.setFaults_twin (s : State) (x : Faults) (j : Nat) : (s.setFaults x).twin j = s.twin j := rfl
@[simp] theorem State.setFaults_chan (s : State) (x : Faults) (j : Nat) : (s.setFaults x).chan j = s.chan j := rfl
@[simp] theorem State.setFaults_map (s : State) (x : Faults) (j : Nat) : (s.setFaults x).map j = s.map j := rfl
@[simp] theorem State.setFaults_pin (s : State) (x : Faults) (j : Nat) : (s.setFaults x).pin j = s.pin j := rfl
@[simp] theorem State.setFaults_bank (s : State) (x : Faults) (j : Nat) : (s.setFaults x).bank j = s.bank j := rfl
@[simp] theorem State.setFaults_hewer (s : State) (x : Faults) (j : Nat) : (s.setFaults x).hewer j = s.hewer j := rfl
@[simp] theorem State.setFaults_flag (s : State) (x : Faults) (j : Nat) : (s.setFaults x).flag j = s.flag j := rfl
@[simp] theorem State.setFaults_branch (s : State) (x : Faults) (j : Nat) : (s.setFaults x).branch j = s.branch j := rfl
@[simp] theorem State.setFaults_pair (s : State) (x : Faults) (j : Nat) : (s.setFaults x).pair j = s.pair j := rfl
@[simp] theorem State.setFaults_region (s : State) (x : Faults) (j : Nat) : (s.setFaults x).region j = s.region j := rfl
@[simp] theorem State.setCtl_ctl (s : State) (x : Ctl) : (s.setCtl x).ctl = x := rfl
@[simp] theorem State.setCtl_ring (s : State) (x : Ctl) : (s.setCtl x).ring = s.ring := rfl
@[simp] theorem State.setCtl_sw (s : State) (x : Ctl) : (s.setCtl x).sw = s.sw := rfl
@[simp] theorem State.setCtl_queues (s : State) (x : Ctl) : (s.setCtl x).queues = s.queues := rfl
@[simp] theorem State.setCtl_pool (s : State) (x : Ctl) : (s.setCtl x).pool = s.pool := rfl
@[simp] theorem State.setCtl_time (s : State) (x : Ctl) : (s.setCtl x).time = s.time := rfl
@[simp] theorem State.setCtl_cycle (s : State) (x : Ctl) : (s.setCtl x).cycle = s.cycle := rfl
@[simp] theorem State.setCtl_can (s : State) (x : Ctl) : (s.setCtl x).can = s.can := rfl
@[simp] theorem State.setCtl_crush (s : State) (x : Ctl) : (s.setCtl x).crush = s.crush := rfl
@[simp] theorem State.setCtl_field (s : State) (x : Ctl) : (s.setCtl x).field = s.field := rfl
@[simp] theorem State.setCtl_bridge (s : State) (x : Ctl) : (s.setCtl x).bridge = s.bridge := rfl
@[simp] theorem State.setCtl_parts (s : State) (x : Ctl) : (s.setCtl x).parts = s.parts := rfl
@[simp] theorem State.setCtl_faults (s : State) (x : Ctl) : (s.setCtl x).faults = s.faults := rfl
@[simp] theorem State.setCtl_boot (s : State) (x : Ctl) : (s.setCtl x).boot = s.boot := rfl
@[simp] theorem State.setCtl_power (s : State) (x : Ctl) : (s.setCtl x).power = s.power := rfl
@[simp] theorem State.setCtl_assay (s : State) (x : Ctl) : (s.setCtl x).assay = s.assay := rfl
@[simp] theorem State.setCtl_island (s : State) (x : Ctl) : (s.setCtl x).island = s.island := rfl
@[simp] theorem State.setCtl_counters (s : State) (x : Ctl) : (s.setCtl x).counters = s.counters := rfl
@[simp] theorem State.setCtl_out (s : State) (x : Ctl) : (s.setCtl x).out = s.out := rfl
@[simp] theorem State.setCtl_fresh (s : State) (x : Ctl) : (s.setCtl x).fresh = s.fresh := rfl
@[simp] theorem State.setCtl_pending (s : State) (x : Ctl) : (s.setCtl x).pending = s.pending := rfl
@[simp] theorem State.setCtl_port (s : State) (x : Ctl) (j : Nat) : (s.setCtl x).port j = s.port j := rfl
@[simp] theorem State.setCtl_queue (s : State) (x : Ctl) (j : Nat) : (s.setCtl x).queue j = s.queue j := rfl
@[simp] theorem State.setCtl_part (s : State) (x : Ctl) (j : Nat) : (s.setCtl x).part j = s.part j := rfl
@[simp] theorem State.setCtl_source (s : State) (x : Ctl) (j : Nat) : (s.setCtl x).source j = s.source j := rfl
@[simp] theorem State.setCtl_att (s : State) (x : Ctl) (j : Nat) : (s.setCtl x).att j = s.att j := rfl
@[simp] theorem State.setCtl_host (s : State) (x : Ctl) (j : Nat) : (s.setCtl x).host j = s.host j := rfl
@[simp] theorem State.setCtl_dset (s : State) (x : Ctl) (j : Nat) : (s.setCtl x).dset j = s.dset j := rfl
@[simp] theorem State.setCtl_canary (s : State) (x : Ctl) (j : Nat) : (s.setCtl x).canary j = s.canary j := rfl
@[simp] theorem State.setCtl_sampler (s : State) (x : Ctl) (j : Nat) : (s.setCtl x).sampler j = s.sampler j := rfl
@[simp] theorem State.setCtl_stream (s : State) (x : Ctl) (j : Nat) : (s.setCtl x).stream j = s.stream j := rfl
@[simp] theorem State.setCtl_trig (s : State) (x : Ctl) (j : Nat) : (s.setCtl x).trig j = s.trig j := rfl
@[simp] theorem State.setCtl_capt (s : State) (x : Ctl) (j : Nat) : (s.setCtl x).capt j = s.capt j := rfl
@[simp] theorem State.setCtl_group (s : State) (x : Ctl) (j : Nat) : (s.setCtl x).group j = s.group j := rfl
@[simp] theorem State.setCtl_twin (s : State) (x : Ctl) (j : Nat) : (s.setCtl x).twin j = s.twin j := rfl
@[simp] theorem State.setCtl_chan (s : State) (x : Ctl) (j : Nat) : (s.setCtl x).chan j = s.chan j := rfl
@[simp] theorem State.setCtl_map (s : State) (x : Ctl) (j : Nat) : (s.setCtl x).map j = s.map j := rfl
@[simp] theorem State.setCtl_pin (s : State) (x : Ctl) (j : Nat) : (s.setCtl x).pin j = s.pin j := rfl
@[simp] theorem State.setCtl_bank (s : State) (x : Ctl) (j : Nat) : (s.setCtl x).bank j = s.bank j := rfl
@[simp] theorem State.setCtl_hewer (s : State) (x : Ctl) (j : Nat) : (s.setCtl x).hewer j = s.hewer j := rfl
@[simp] theorem State.setCtl_flag (s : State) (x : Ctl) (j : Nat) : (s.setCtl x).flag j = s.flag j := rfl
@[simp] theorem State.setCtl_branch (s : State) (x : Ctl) (j : Nat) : (s.setCtl x).branch j = s.branch j := rfl
@[simp] theorem State.setCtl_region (s : State) (x : Ctl) (j : Nat) : (s.setCtl x).region j = s.region j := rfl
@[simp] theorem State.setPort_ring (s : State) (p : Nat) (x : Port) : (s.setPort p x).ring = s.ring := rfl
@[simp] theorem State.setPort_queues (s : State) (p : Nat) (x : Port) : (s.setPort p x).queues = s.queues := rfl
@[simp] theorem State.setPort_pool (s : State) (p : Nat) (x : Port) : (s.setPort p x).pool = s.pool := rfl
@[simp] theorem State.setPort_time (s : State) (p : Nat) (x : Port) : (s.setPort p x).time = s.time := rfl
@[simp] theorem State.setPort_cycle (s : State) (p : Nat) (x : Port) : (s.setPort p x).cycle = s.cycle := rfl
@[simp] theorem State.setPort_can (s : State) (p : Nat) (x : Port) : (s.setPort p x).can = s.can := rfl
@[simp] theorem State.setPort_crush (s : State) (p : Nat) (x : Port) : (s.setPort p x).crush = s.crush := rfl
@[simp] theorem State.setPort_field (s : State) (p : Nat) (x : Port) : (s.setPort p x).field = s.field := rfl
@[simp] theorem State.setPort_bridge (s : State) (p : Nat) (x : Port) : (s.setPort p x).bridge = s.bridge := rfl
@[simp] theorem State.setPort_parts (s : State) (p : Nat) (x : Port) : (s.setPort p x).parts = s.parts := rfl
@[simp] theorem State.setPort_faults (s : State) (p : Nat) (x : Port) : (s.setPort p x).faults = s.faults := rfl
@[simp] theorem State.setPort_boot (s : State) (p : Nat) (x : Port) : (s.setPort p x).boot = s.boot := rfl
@[simp] theorem State.setPort_ctl (s : State) (p : Nat) (x : Port) : (s.setPort p x).ctl = s.ctl := rfl
@[simp] theorem State.setPort_power (s : State) (p : Nat) (x : Port) : (s.setPort p x).power = s.power := rfl
@[simp] theorem State.setPort_assay (s : State) (p : Nat) (x : Port) : (s.setPort p x).assay = s.assay := rfl
@[simp] theorem State.setPort_island (s : State) (p : Nat) (x : Port) : (s.setPort p x).island = s.island := rfl
@[simp] theorem State.setPort_counters (s : State) (p : Nat) (x : Port) : (s.setPort p x).counters = s.counters := rfl
@[simp] theorem State.setPort_out (s : State) (p : Nat) (x : Port) : (s.setPort p x).out = s.out := rfl
@[simp] theorem State.setPort_fresh (s : State) (p : Nat) (x : Port) : (s.setPort p x).fresh = s.fresh := rfl
@[simp] theorem State.setPort_pending (s : State) (p : Nat) (x : Port) : (s.setPort p x).pending = s.pending := rfl
@[simp] theorem State.setPort_port_same (s : State) (p : Nat) (x : Port) : (s.setPort p x).port p = x := by
  simp [State.port, State.setPort]
@[simp] theorem State.setPort_port_ne (s : State) (p : Nat) (x : Port) {j : Nat} (hne : j ≠ p) : (s.setPort p x).port j = s.port j := by
  simp [State.port, State.setPort, hne]
@[simp] theorem State.setPort_setPort (s : State) (p : Nat) (x : Port) (x' : Port) : (s.setPort p x).setPort p x' = s.setPort p x' := by
  simp [State.setPort]
@[simp] theorem State.setPort_queue (s : State) (p : Nat) (x : Port) (j : Nat) : (s.setPort p x).queue j = s.queue j := rfl
@[simp] theorem State.setPort_part (s : State) (p : Nat) (x : Port) (j : Nat) : (s.setPort p x).part j = s.part j := rfl
@[simp] theorem State.setPort_source (s : State) (p : Nat) (x : Port) (j : Nat) : (s.setPort p x).source j = s.source j := rfl
@[simp] theorem State.setPort_att (s : State) (p : Nat) (x : Port) (j : Nat) : (s.setPort p x).att j = s.att j := rfl
@[simp] theorem State.setPort_host (s : State) (p : Nat) (x : Port) (j : Nat) : (s.setPort p x).host j = s.host j := rfl
@[simp] theorem State.setPort_dset (s : State) (p : Nat) (x : Port) (j : Nat) : (s.setPort p x).dset j = s.dset j := rfl
@[simp] theorem State.setPort_canary (s : State) (p : Nat) (x : Port) (j : Nat) : (s.setPort p x).canary j = s.canary j := rfl
@[simp] theorem State.setPort_sampler (s : State) (p : Nat) (x : Port) (j : Nat) : (s.setPort p x).sampler j = s.sampler j := rfl
@[simp] theorem State.setPort_stream (s : State) (p : Nat) (x : Port) (j : Nat) : (s.setPort p x).stream j = s.stream j := rfl
@[simp] theorem State.setPort_trig (s : State) (p : Nat) (x : Port) (j : Nat) : (s.setPort p x).trig j = s.trig j := rfl
@[simp] theorem State.setPort_capt (s : State) (p : Nat) (x : Port) (j : Nat) : (s.setPort p x).capt j = s.capt j := rfl
@[simp] theorem State.setPort_group (s : State) (p : Nat) (x : Port) (j : Nat) : (s.setPort p x).group j = s.group j := rfl
@[simp] theorem State.setPort_twin (s : State) (p : Nat) (x : Port) (j : Nat) : (s.setPort p x).twin j = s.twin j := rfl
@[simp] theorem State.setPort_chan (s : State) (p : Nat) (x : Port) (j : Nat) : (s.setPort p x).chan j = s.chan j := rfl
@[simp] theorem State.setPort_map (s : State) (p : Nat) (x : Port) (j : Nat) : (s.setPort p x).map j = s.map j := rfl
@[simp] theorem State.setPort_pin (s : State) (p : Nat) (x : Port) (j : Nat) : (s.setPort p x).pin j = s.pin j := rfl
@[simp] theorem State.setPort_bank (s : State) (p : Nat) (x : Port) (j : Nat) : (s.setPort p x).bank j = s.bank j := rfl
@[simp] theorem State.setPort_hewer (s : State) (p : Nat) (x : Port) (j : Nat) : (s.setPort p x).hewer j = s.hewer j := rfl
@[simp] theorem State.setPort_flag (s : State) (p : Nat) (x : Port) (j : Nat) : (s.setPort p x).flag j = s.flag j := rfl
@[simp] theorem State.setPort_branch (s : State) (p : Nat) (x : Port) (j : Nat) : (s.setPort p x).branch j = s.branch j := rfl
@[simp] theorem State.setPort_pair (s : State) (p : Nat) (x : Port) (j : Nat) : (s.setPort p x).pair j = s.pair j := rfl
@[simp] theorem State.setPort_region (s : State) (p : Nat) (x : Port) (j : Nat) : (s.setPort p x).region j = s.region j := rfl
@[simp] theorem State.setQueue_ring (s : State) (q : Nat) (x : Queue) : (s.setQueue q x).ring = s.ring := rfl
@[simp] theorem State.setQueue_sw (s : State) (q : Nat) (x : Queue) : (s.setQueue q x).sw = s.sw := rfl
@[simp] theorem State.setQueue_pool (s : State) (q : Nat) (x : Queue) : (s.setQueue q x).pool = s.pool := rfl
@[simp] theorem State.setQueue_time (s : State) (q : Nat) (x : Queue) : (s.setQueue q x).time = s.time := rfl
@[simp] theorem State.setQueue_cycle (s : State) (q : Nat) (x : Queue) : (s.setQueue q x).cycle = s.cycle := rfl
@[simp] theorem State.setQueue_can (s : State) (q : Nat) (x : Queue) : (s.setQueue q x).can = s.can := rfl
@[simp] theorem State.setQueue_crush (s : State) (q : Nat) (x : Queue) : (s.setQueue q x).crush = s.crush := rfl
@[simp] theorem State.setQueue_field (s : State) (q : Nat) (x : Queue) : (s.setQueue q x).field = s.field := rfl
@[simp] theorem State.setQueue_bridge (s : State) (q : Nat) (x : Queue) : (s.setQueue q x).bridge = s.bridge := rfl
@[simp] theorem State.setQueue_parts (s : State) (q : Nat) (x : Queue) : (s.setQueue q x).parts = s.parts := rfl
@[simp] theorem State.setQueue_faults (s : State) (q : Nat) (x : Queue) : (s.setQueue q x).faults = s.faults := rfl
@[simp] theorem State.setQueue_boot (s : State) (q : Nat) (x : Queue) : (s.setQueue q x).boot = s.boot := rfl
@[simp] theorem State.setQueue_ctl (s : State) (q : Nat) (x : Queue) : (s.setQueue q x).ctl = s.ctl := rfl
@[simp] theorem State.setQueue_power (s : State) (q : Nat) (x : Queue) : (s.setQueue q x).power = s.power := rfl
@[simp] theorem State.setQueue_assay (s : State) (q : Nat) (x : Queue) : (s.setQueue q x).assay = s.assay := rfl
@[simp] theorem State.setQueue_island (s : State) (q : Nat) (x : Queue) : (s.setQueue q x).island = s.island := rfl
@[simp] theorem State.setQueue_counters (s : State) (q : Nat) (x : Queue) : (s.setQueue q x).counters = s.counters := rfl
@[simp] theorem State.setQueue_out (s : State) (q : Nat) (x : Queue) : (s.setQueue q x).out = s.out := rfl
@[simp] theorem State.setQueue_fresh (s : State) (q : Nat) (x : Queue) : (s.setQueue q x).fresh = s.fresh := rfl
@[simp] theorem State.setQueue_pending (s : State) (q : Nat) (x : Queue) : (s.setQueue q x).pending = s.pending := rfl
@[simp] theorem State.setQueue_port (s : State) (q : Nat) (x : Queue) (j : Nat) : (s.setQueue q x).port j = s.port j := rfl
@[simp] theorem State.setQueue_queue_same (s : State) (q : Nat) (x : Queue) : (s.setQueue q x).queue q = x := by
  simp [State.queue, State.setQueue]
@[simp] theorem State.setQueue_queue_ne (s : State) (q : Nat) (x : Queue) {j : Nat} (hne : j ≠ q) : (s.setQueue q x).queue j = s.queue j :=
    by
  simp [State.queue, State.setQueue, hne]
@[simp] theorem State.setQueue_setQueue (s : State) (q : Nat) (x : Queue) (x' : Queue) : (s.setQueue q x).setQueue q x' = s.setQueue q x' :=
    by
  simp [State.setQueue]
@[simp] theorem State.setQueue_part (s : State) (q : Nat) (x : Queue) (j : Nat) : (s.setQueue q x).part j = s.part j := rfl
@[simp] theorem State.setQueue_source (s : State) (q : Nat) (x : Queue) (j : Nat) : (s.setQueue q x).source j = s.source j := rfl
@[simp] theorem State.setQueue_att (s : State) (q : Nat) (x : Queue) (j : Nat) : (s.setQueue q x).att j = s.att j := rfl
@[simp] theorem State.setQueue_host (s : State) (q : Nat) (x : Queue) (j : Nat) : (s.setQueue q x).host j = s.host j := rfl
@[simp] theorem State.setQueue_dset (s : State) (q : Nat) (x : Queue) (j : Nat) : (s.setQueue q x).dset j = s.dset j := rfl
@[simp] theorem State.setQueue_canary (s : State) (q : Nat) (x : Queue) (j : Nat) : (s.setQueue q x).canary j = s.canary j := rfl
@[simp] theorem State.setQueue_sampler (s : State) (q : Nat) (x : Queue) (j : Nat) : (s.setQueue q x).sampler j = s.sampler j := rfl
@[simp] theorem State.setQueue_stream (s : State) (q : Nat) (x : Queue) (j : Nat) : (s.setQueue q x).stream j = s.stream j := rfl
@[simp] theorem State.setQueue_trig (s : State) (q : Nat) (x : Queue) (j : Nat) : (s.setQueue q x).trig j = s.trig j := rfl
@[simp] theorem State.setQueue_capt (s : State) (q : Nat) (x : Queue) (j : Nat) : (s.setQueue q x).capt j = s.capt j := rfl
@[simp] theorem State.setQueue_group (s : State) (q : Nat) (x : Queue) (j : Nat) : (s.setQueue q x).group j = s.group j := rfl
@[simp] theorem State.setQueue_twin (s : State) (q : Nat) (x : Queue) (j : Nat) : (s.setQueue q x).twin j = s.twin j := rfl
@[simp] theorem State.setQueue_chan (s : State) (q : Nat) (x : Queue) (j : Nat) : (s.setQueue q x).chan j = s.chan j := rfl
@[simp] theorem State.setQueue_map (s : State) (q : Nat) (x : Queue) (j : Nat) : (s.setQueue q x).map j = s.map j := rfl
@[simp] theorem State.setQueue_pin (s : State) (q : Nat) (x : Queue) (j : Nat) : (s.setQueue q x).pin j = s.pin j := rfl
@[simp] theorem State.setQueue_bank (s : State) (q : Nat) (x : Queue) (j : Nat) : (s.setQueue q x).bank j = s.bank j := rfl
@[simp] theorem State.setQueue_hewer (s : State) (q : Nat) (x : Queue) (j : Nat) : (s.setQueue q x).hewer j = s.hewer j := rfl
@[simp] theorem State.setQueue_flag (s : State) (q : Nat) (x : Queue) (j : Nat) : (s.setQueue q x).flag j = s.flag j := rfl
@[simp] theorem State.setQueue_branch (s : State) (q : Nat) (x : Queue) (j : Nat) : (s.setQueue q x).branch j = s.branch j := rfl
@[simp] theorem State.setQueue_pair (s : State) (q : Nat) (x : Queue) (j : Nat) : (s.setQueue q x).pair j = s.pair j := rfl
@[simp] theorem State.setQueue_region (s : State) (q : Nat) (x : Queue) (j : Nat) : (s.setQueue q x).region j = s.region j := rfl
@[simp] theorem State.setPart_ring (s : State) (p : Nat) (x : Partition) : (s.setPart p x).ring = s.ring := rfl
@[simp] theorem State.setPart_sw (s : State) (p : Nat) (x : Partition) : (s.setPart p x).sw = s.sw := rfl
@[simp] theorem State.setPart_queues (s : State) (p : Nat) (x : Partition) : (s.setPart p x).queues = s.queues := rfl
@[simp] theorem State.setPart_pool (s : State) (p : Nat) (x : Partition) : (s.setPart p x).pool = s.pool := rfl
@[simp] theorem State.setPart_time (s : State) (p : Nat) (x : Partition) : (s.setPart p x).time = s.time := rfl
@[simp] theorem State.setPart_cycle (s : State) (p : Nat) (x : Partition) : (s.setPart p x).cycle = s.cycle := rfl
@[simp] theorem State.setPart_can (s : State) (p : Nat) (x : Partition) : (s.setPart p x).can = s.can := rfl
@[simp] theorem State.setPart_crush (s : State) (p : Nat) (x : Partition) : (s.setPart p x).crush = s.crush := rfl
@[simp] theorem State.setPart_field (s : State) (p : Nat) (x : Partition) : (s.setPart p x).field = s.field := rfl
@[simp] theorem State.setPart_bridge (s : State) (p : Nat) (x : Partition) : (s.setPart p x).bridge = s.bridge := rfl
@[simp] theorem State.setPart_faults (s : State) (p : Nat) (x : Partition) : (s.setPart p x).faults = s.faults := rfl
@[simp] theorem State.setPart_boot (s : State) (p : Nat) (x : Partition) : (s.setPart p x).boot = s.boot := rfl
@[simp] theorem State.setPart_ctl (s : State) (p : Nat) (x : Partition) : (s.setPart p x).ctl = s.ctl := rfl
@[simp] theorem State.setPart_power (s : State) (p : Nat) (x : Partition) : (s.setPart p x).power = s.power := rfl
@[simp] theorem State.setPart_assay (s : State) (p : Nat) (x : Partition) : (s.setPart p x).assay = s.assay := rfl
@[simp] theorem State.setPart_island (s : State) (p : Nat) (x : Partition) : (s.setPart p x).island = s.island := rfl
@[simp] theorem State.setPart_counters (s : State) (p : Nat) (x : Partition) : (s.setPart p x).counters = s.counters := rfl
@[simp] theorem State.setPart_out (s : State) (p : Nat) (x : Partition) : (s.setPart p x).out = s.out := rfl
@[simp] theorem State.setPart_fresh (s : State) (p : Nat) (x : Partition) : (s.setPart p x).fresh = s.fresh := rfl
@[simp] theorem State.setPart_pending (s : State) (p : Nat) (x : Partition) : (s.setPart p x).pending = s.pending := rfl
@[simp] theorem State.setPart_port (s : State) (p : Nat) (x : Partition) (j : Nat) : (s.setPart p x).port j = s.port j := rfl
@[simp] theorem State.setPart_queue (s : State) (p : Nat) (x : Partition) (j : Nat) : (s.setPart p x).queue j = s.queue j := rfl
@[simp] theorem State.setPart_part_same (s : State) (p : Nat) (x : Partition) : (s.setPart p x).part p = x := by
  simp [State.part, State.setPart]
@[simp] theorem State.setPart_part_ne (s : State) (p : Nat) (x : Partition) {j : Nat} (hne : j ≠ p) : (s.setPart p x).part j = s.part j :=
    by
  simp [State.part, State.setPart, hne]
@[simp] theorem State.setPart_setPart (s : State) (p : Nat) (x : Partition) (x' : Partition) :
    (s.setPart p x).setPart p x' = s.setPart p x' := by
  simp [State.setPart]
@[simp] theorem State.setPart_source (s : State) (p : Nat) (x : Partition) (j : Nat) : (s.setPart p x).source j = s.source j := rfl
@[simp] theorem State.setPart_att (s : State) (p : Nat) (x : Partition) (j : Nat) : (s.setPart p x).att j = s.att j := rfl
@[simp] theorem State.setPart_host (s : State) (p : Nat) (x : Partition) (j : Nat) : (s.setPart p x).host j = s.host j := rfl
@[simp] theorem State.setPart_dset (s : State) (p : Nat) (x : Partition) (j : Nat) : (s.setPart p x).dset j = s.dset j := rfl
@[simp] theorem State.setPart_canary (s : State) (p : Nat) (x : Partition) (j : Nat) : (s.setPart p x).canary j = s.canary j := rfl
@[simp] theorem State.setPart_sampler (s : State) (p : Nat) (x : Partition) (j : Nat) : (s.setPart p x).sampler j = s.sampler j := rfl
@[simp] theorem State.setPart_stream (s : State) (p : Nat) (x : Partition) (j : Nat) : (s.setPart p x).stream j = s.stream j := rfl
@[simp] theorem State.setPart_trig (s : State) (p : Nat) (x : Partition) (j : Nat) : (s.setPart p x).trig j = s.trig j := rfl
@[simp] theorem State.setPart_capt (s : State) (p : Nat) (x : Partition) (j : Nat) : (s.setPart p x).capt j = s.capt j := rfl
@[simp] theorem State.setPart_group (s : State) (p : Nat) (x : Partition) (j : Nat) : (s.setPart p x).group j = s.group j := rfl
@[simp] theorem State.setPart_twin (s : State) (p : Nat) (x : Partition) (j : Nat) : (s.setPart p x).twin j = s.twin j := rfl
@[simp] theorem State.setPart_chan (s : State) (p : Nat) (x : Partition) (j : Nat) : (s.setPart p x).chan j = s.chan j := rfl
@[simp] theorem State.setPart_map (s : State) (p : Nat) (x : Partition) (j : Nat) : (s.setPart p x).map j = s.map j := rfl
@[simp] theorem State.setPart_pin (s : State) (p : Nat) (x : Partition) (j : Nat) : (s.setPart p x).pin j = s.pin j := rfl
@[simp] theorem State.setPart_bank (s : State) (p : Nat) (x : Partition) (j : Nat) : (s.setPart p x).bank j = s.bank j := rfl
@[simp] theorem State.setPart_hewer (s : State) (p : Nat) (x : Partition) (j : Nat) : (s.setPart p x).hewer j = s.hewer j := rfl
@[simp] theorem State.setPart_flag (s : State) (p : Nat) (x : Partition) (j : Nat) : (s.setPart p x).flag j = s.flag j := rfl
@[simp] theorem State.setPart_branch (s : State) (p : Nat) (x : Partition) (j : Nat) : (s.setPart p x).branch j = s.branch j := rfl
@[simp] theorem State.setPart_pair (s : State) (p : Nat) (x : Partition) (j : Nat) : (s.setPart p x).pair j = s.pair j := rfl
@[simp] theorem State.setPart_region (s : State) (p : Nat) (x : Partition) (j : Nat) : (s.setPart p x).region j = s.region j := rfl
@[simp] theorem State.setSource_ring (s : State) (e : Nat) (x : EvSrc) : (s.setSource e x).ring = s.ring := rfl
@[simp] theorem State.setSource_sw (s : State) (e : Nat) (x : EvSrc) : (s.setSource e x).sw = s.sw := rfl
@[simp] theorem State.setSource_queues (s : State) (e : Nat) (x : EvSrc) : (s.setSource e x).queues = s.queues := rfl
@[simp] theorem State.setSource_pool (s : State) (e : Nat) (x : EvSrc) : (s.setSource e x).pool = s.pool := rfl
@[simp] theorem State.setSource_time (s : State) (e : Nat) (x : EvSrc) : (s.setSource e x).time = s.time := rfl
@[simp] theorem State.setSource_cycle (s : State) (e : Nat) (x : EvSrc) : (s.setSource e x).cycle = s.cycle := rfl
@[simp] theorem State.setSource_can (s : State) (e : Nat) (x : EvSrc) : (s.setSource e x).can = s.can := rfl
@[simp] theorem State.setSource_crush (s : State) (e : Nat) (x : EvSrc) : (s.setSource e x).crush = s.crush := rfl
@[simp] theorem State.setSource_field (s : State) (e : Nat) (x : EvSrc) : (s.setSource e x).field = s.field := rfl
@[simp] theorem State.setSource_bridge (s : State) (e : Nat) (x : EvSrc) : (s.setSource e x).bridge = s.bridge := rfl
@[simp] theorem State.setSource_parts (s : State) (e : Nat) (x : EvSrc) : (s.setSource e x).parts = s.parts := rfl
@[simp] theorem State.setSource_faults (s : State) (e : Nat) (x : EvSrc) : (s.setSource e x).faults = s.faults := rfl
@[simp] theorem State.setSource_boot (s : State) (e : Nat) (x : EvSrc) : (s.setSource e x).boot = s.boot := rfl
@[simp] theorem State.setSource_ctl (s : State) (e : Nat) (x : EvSrc) : (s.setSource e x).ctl = s.ctl := rfl
@[simp] theorem State.setSource_power (s : State) (e : Nat) (x : EvSrc) : (s.setSource e x).power = s.power := rfl
@[simp] theorem State.setSource_assay (s : State) (e : Nat) (x : EvSrc) : (s.setSource e x).assay = s.assay := rfl
@[simp] theorem State.setSource_counters (s : State) (e : Nat) (x : EvSrc) : (s.setSource e x).counters = s.counters := rfl
@[simp] theorem State.setSource_out (s : State) (e : Nat) (x : EvSrc) : (s.setSource e x).out = s.out := rfl
@[simp] theorem State.setSource_fresh (s : State) (e : Nat) (x : EvSrc) : (s.setSource e x).fresh = s.fresh := rfl
@[simp] theorem State.setSource_pending (s : State) (e : Nat) (x : EvSrc) : (s.setSource e x).pending = s.pending := rfl
@[simp] theorem State.setSource_port (s : State) (e : Nat) (x : EvSrc) (j : Nat) : (s.setSource e x).port j = s.port j := rfl
@[simp] theorem State.setSource_queue (s : State) (e : Nat) (x : EvSrc) (j : Nat) : (s.setSource e x).queue j = s.queue j := rfl
@[simp] theorem State.setSource_part (s : State) (e : Nat) (x : EvSrc) (j : Nat) : (s.setSource e x).part j = s.part j := rfl
@[simp] theorem State.setSource_source_same (s : State) (e : Nat) (x : EvSrc) : (s.setSource e x).source e = x := by
  simp [State.source, State.setSource]
@[simp] theorem State.setSource_source_ne (s : State) (e : Nat) (x : EvSrc) {j : Nat} (hne : j ≠ e) :
    (s.setSource e x).source j = s.source j := by
  simp [State.source, State.setSource, hne]
@[simp] theorem State.setSource_setSource (s : State) (e : Nat) (x : EvSrc) (x' : EvSrc) :
    (s.setSource e x).setSource e x' = s.setSource e x' := by
  simp [State.setSource]
@[simp] theorem State.setSource_att (s : State) (e : Nat) (x : EvSrc) (j : Nat) : (s.setSource e x).att j = s.att j := rfl
@[simp] theorem State.setSource_host (s : State) (e : Nat) (x : EvSrc) (j : Nat) : (s.setSource e x).host j = s.host j := rfl
@[simp] theorem State.setSource_dset (s : State) (e : Nat) (x : EvSrc) (j : Nat) : (s.setSource e x).dset j = s.dset j := rfl
@[simp] theorem State.setSource_canary (s : State) (e : Nat) (x : EvSrc) (j : Nat) : (s.setSource e x).canary j = s.canary j := rfl
@[simp] theorem State.setSource_sampler (s : State) (e : Nat) (x : EvSrc) (j : Nat) : (s.setSource e x).sampler j = s.sampler j := rfl
@[simp] theorem State.setSource_stream (s : State) (e : Nat) (x : EvSrc) (j : Nat) : (s.setSource e x).stream j = s.stream j := rfl
@[simp] theorem State.setSource_trig (s : State) (e : Nat) (x : EvSrc) (j : Nat) : (s.setSource e x).trig j = s.trig j := rfl
@[simp] theorem State.setSource_capt (s : State) (e : Nat) (x : EvSrc) (j : Nat) : (s.setSource e x).capt j = s.capt j := rfl
@[simp] theorem State.setSource_group (s : State) (e : Nat) (x : EvSrc) (j : Nat) : (s.setSource e x).group j = s.group j := rfl
@[simp] theorem State.setSource_twin (s : State) (e : Nat) (x : EvSrc) (j : Nat) : (s.setSource e x).twin j = s.twin j := rfl
@[simp] theorem State.setSource_chan (s : State) (e : Nat) (x : EvSrc) (j : Nat) : (s.setSource e x).chan j = s.chan j := rfl
@[simp] theorem State.setSource_map (s : State) (e : Nat) (x : EvSrc) (j : Nat) : (s.setSource e x).map j = s.map j := rfl
@[simp] theorem State.setSource_pin (s : State) (e : Nat) (x : EvSrc) (j : Nat) : (s.setSource e x).pin j = s.pin j := rfl
@[simp] theorem State.setSource_bank (s : State) (e : Nat) (x : EvSrc) (j : Nat) : (s.setSource e x).bank j = s.bank j := rfl
@[simp] theorem State.setSource_hewer (s : State) (e : Nat) (x : EvSrc) (j : Nat) : (s.setSource e x).hewer j = s.hewer j := rfl
@[simp] theorem State.setSource_flag (s : State) (e : Nat) (x : EvSrc) (j : Nat) : (s.setSource e x).flag j = s.flag j := rfl
@[simp] theorem State.setSource_branch (s : State) (e : Nat) (x : EvSrc) (j : Nat) : (s.setSource e x).branch j = s.branch j := rfl
@[simp] theorem State.setSource_pair (s : State) (e : Nat) (x : EvSrc) (j : Nat) : (s.setSource e x).pair j = s.pair j := rfl
@[simp] theorem State.setSource_region (s : State) (e : Nat) (x : EvSrc) (j : Nat) : (s.setSource e x).region j = s.region j := rfl
@[simp] theorem State.setAtt_ring (s : State) (a : Nat) (x : Att) : (s.setAtt a x).ring = s.ring := rfl
@[simp] theorem State.setAtt_sw (s : State) (a : Nat) (x : Att) : (s.setAtt a x).sw = s.sw := rfl
@[simp] theorem State.setAtt_queues (s : State) (a : Nat) (x : Att) : (s.setAtt a x).queues = s.queues := rfl
@[simp] theorem State.setAtt_pool (s : State) (a : Nat) (x : Att) : (s.setAtt a x).pool = s.pool := rfl
@[simp] theorem State.setAtt_time (s : State) (a : Nat) (x : Att) : (s.setAtt a x).time = s.time := rfl
@[simp] theorem State.setAtt_cycle (s : State) (a : Nat) (x : Att) : (s.setAtt a x).cycle = s.cycle := rfl
@[simp] theorem State.setAtt_can (s : State) (a : Nat) (x : Att) : (s.setAtt a x).can = s.can := rfl
@[simp] theorem State.setAtt_crush (s : State) (a : Nat) (x : Att) : (s.setAtt a x).crush = s.crush := rfl
@[simp] theorem State.setAtt_field (s : State) (a : Nat) (x : Att) : (s.setAtt a x).field = s.field := rfl
@[simp] theorem State.setAtt_parts (s : State) (a : Nat) (x : Att) : (s.setAtt a x).parts = s.parts := rfl
@[simp] theorem State.setAtt_faults (s : State) (a : Nat) (x : Att) : (s.setAtt a x).faults = s.faults := rfl
@[simp] theorem State.setAtt_boot (s : State) (a : Nat) (x : Att) : (s.setAtt a x).boot = s.boot := rfl
@[simp] theorem State.setAtt_ctl (s : State) (a : Nat) (x : Att) : (s.setAtt a x).ctl = s.ctl := rfl
@[simp] theorem State.setAtt_power (s : State) (a : Nat) (x : Att) : (s.setAtt a x).power = s.power := rfl
@[simp] theorem State.setAtt_assay (s : State) (a : Nat) (x : Att) : (s.setAtt a x).assay = s.assay := rfl
@[simp] theorem State.setAtt_island (s : State) (a : Nat) (x : Att) : (s.setAtt a x).island = s.island := rfl
@[simp] theorem State.setAtt_counters (s : State) (a : Nat) (x : Att) : (s.setAtt a x).counters = s.counters := rfl
@[simp] theorem State.setAtt_out (s : State) (a : Nat) (x : Att) : (s.setAtt a x).out = s.out := rfl
@[simp] theorem State.setAtt_fresh (s : State) (a : Nat) (x : Att) : (s.setAtt a x).fresh = s.fresh := rfl
@[simp] theorem State.setAtt_pending (s : State) (a : Nat) (x : Att) : (s.setAtt a x).pending = s.pending := rfl
@[simp] theorem State.setAtt_port (s : State) (a : Nat) (x : Att) (j : Nat) : (s.setAtt a x).port j = s.port j := rfl
@[simp] theorem State.setAtt_queue (s : State) (a : Nat) (x : Att) (j : Nat) : (s.setAtt a x).queue j = s.queue j := rfl
@[simp] theorem State.setAtt_part (s : State) (a : Nat) (x : Att) (j : Nat) : (s.setAtt a x).part j = s.part j := rfl
@[simp] theorem State.setAtt_source (s : State) (a : Nat) (x : Att) (j : Nat) : (s.setAtt a x).source j = s.source j := rfl
@[simp] theorem State.setAtt_att_same (s : State) (a : Nat) (x : Att) : (s.setAtt a x).att a = x := by
  simp [State.att, State.setAtt]
@[simp] theorem State.setAtt_att_ne (s : State) (a : Nat) (x : Att) {j : Nat} (hne : j ≠ a) : (s.setAtt a x).att j = s.att j := by
  simp [State.att, State.setAtt, hne]
@[simp] theorem State.setAtt_setAtt (s : State) (a : Nat) (x : Att) (x' : Att) : (s.setAtt a x).setAtt a x' = s.setAtt a x' := by
  simp [State.setAtt]
@[simp] theorem State.setAtt_host (s : State) (a : Nat) (x : Att) (j : Nat) : (s.setAtt a x).host j = s.host j := rfl
@[simp] theorem State.setAtt_dset (s : State) (a : Nat) (x : Att) (j : Nat) : (s.setAtt a x).dset j = s.dset j := rfl
@[simp] theorem State.setAtt_canary (s : State) (a : Nat) (x : Att) (j : Nat) : (s.setAtt a x).canary j = s.canary j := rfl
@[simp] theorem State.setAtt_sampler (s : State) (a : Nat) (x : Att) (j : Nat) : (s.setAtt a x).sampler j = s.sampler j := rfl
@[simp] theorem State.setAtt_stream (s : State) (a : Nat) (x : Att) (j : Nat) : (s.setAtt a x).stream j = s.stream j := rfl
@[simp] theorem State.setAtt_trig (s : State) (a : Nat) (x : Att) (j : Nat) : (s.setAtt a x).trig j = s.trig j := rfl
@[simp] theorem State.setAtt_capt (s : State) (a : Nat) (x : Att) (j : Nat) : (s.setAtt a x).capt j = s.capt j := rfl
@[simp] theorem State.setAtt_group (s : State) (a : Nat) (x : Att) (j : Nat) : (s.setAtt a x).group j = s.group j := rfl
@[simp] theorem State.setAtt_twin (s : State) (a : Nat) (x : Att) (j : Nat) : (s.setAtt a x).twin j = s.twin j := rfl
@[simp] theorem State.setAtt_chan (s : State) (a : Nat) (x : Att) (j : Nat) : (s.setAtt a x).chan j = s.chan j := rfl
@[simp] theorem State.setAtt_map (s : State) (a : Nat) (x : Att) (j : Nat) : (s.setAtt a x).map j = s.map j := rfl
@[simp] theorem State.setAtt_pin (s : State) (a : Nat) (x : Att) (j : Nat) : (s.setAtt a x).pin j = s.pin j := rfl
@[simp] theorem State.setAtt_bank (s : State) (a : Nat) (x : Att) (j : Nat) : (s.setAtt a x).bank j = s.bank j := rfl
@[simp] theorem State.setAtt_hewer (s : State) (a : Nat) (x : Att) (j : Nat) : (s.setAtt a x).hewer j = s.hewer j := rfl
@[simp] theorem State.setAtt_flag (s : State) (a : Nat) (x : Att) (j : Nat) : (s.setAtt a x).flag j = s.flag j := rfl
@[simp] theorem State.setAtt_branch (s : State) (a : Nat) (x : Att) (j : Nat) : (s.setAtt a x).branch j = s.branch j := rfl
@[simp] theorem State.setAtt_pair (s : State) (a : Nat) (x : Att) (j : Nat) : (s.setAtt a x).pair j = s.pair j := rfl
@[simp] theorem State.setAtt_region (s : State) (a : Nat) (x : Att) (j : Nat) : (s.setAtt a x).region j = s.region j := rfl
@[simp] theorem State.setCanary_ring (s : State) (r : Nat) (x : Canary) : (s.setCanary r x).ring = s.ring := rfl
@[simp] theorem State.setCanary_queues (s : State) (r : Nat) (x : Canary) : (s.setCanary r x).queues = s.queues := rfl
@[simp] theorem State.setCanary_pool (s : State) (r : Nat) (x : Canary) : (s.setCanary r x).pool = s.pool := rfl
@[simp] theorem State.setCanary_time (s : State) (r : Nat) (x : Canary) : (s.setCanary r x).time = s.time := rfl
@[simp] theorem State.setCanary_cycle (s : State) (r : Nat) (x : Canary) : (s.setCanary r x).cycle = s.cycle := rfl
@[simp] theorem State.setCanary_can (s : State) (r : Nat) (x : Canary) : (s.setCanary r x).can = s.can := rfl
@[simp] theorem State.setCanary_crush (s : State) (r : Nat) (x : Canary) : (s.setCanary r x).crush = s.crush := rfl
@[simp] theorem State.setCanary_field (s : State) (r : Nat) (x : Canary) : (s.setCanary r x).field = s.field := rfl
@[simp] theorem State.setCanary_bridge (s : State) (r : Nat) (x : Canary) : (s.setCanary r x).bridge = s.bridge := rfl
@[simp] theorem State.setCanary_parts (s : State) (r : Nat) (x : Canary) : (s.setCanary r x).parts = s.parts := rfl
@[simp] theorem State.setCanary_faults (s : State) (r : Nat) (x : Canary) : (s.setCanary r x).faults = s.faults := rfl
@[simp] theorem State.setCanary_boot (s : State) (r : Nat) (x : Canary) : (s.setCanary r x).boot = s.boot := rfl
@[simp] theorem State.setCanary_ctl (s : State) (r : Nat) (x : Canary) : (s.setCanary r x).ctl = s.ctl := rfl
@[simp] theorem State.setCanary_power (s : State) (r : Nat) (x : Canary) : (s.setCanary r x).power = s.power := rfl
@[simp] theorem State.setCanary_assay (s : State) (r : Nat) (x : Canary) : (s.setCanary r x).assay = s.assay := rfl
@[simp] theorem State.setCanary_island (s : State) (r : Nat) (x : Canary) : (s.setCanary r x).island = s.island := rfl
@[simp] theorem State.setCanary_counters (s : State) (r : Nat) (x : Canary) : (s.setCanary r x).counters = s.counters := rfl
@[simp] theorem State.setCanary_out (s : State) (r : Nat) (x : Canary) : (s.setCanary r x).out = s.out := rfl
@[simp] theorem State.setCanary_fresh (s : State) (r : Nat) (x : Canary) : (s.setCanary r x).fresh = s.fresh := rfl
@[simp] theorem State.setCanary_pending (s : State) (r : Nat) (x : Canary) : (s.setCanary r x).pending = s.pending := rfl
@[simp] theorem State.setCanary_port (s : State) (r : Nat) (x : Canary) (j : Nat) : (s.setCanary r x).port j = s.port j := rfl
@[simp] theorem State.setCanary_queue (s : State) (r : Nat) (x : Canary) (j : Nat) : (s.setCanary r x).queue j = s.queue j := rfl
@[simp] theorem State.setCanary_part (s : State) (r : Nat) (x : Canary) (j : Nat) : (s.setCanary r x).part j = s.part j := rfl
@[simp] theorem State.setCanary_source (s : State) (r : Nat) (x : Canary) (j : Nat) : (s.setCanary r x).source j = s.source j := rfl
@[simp] theorem State.setCanary_att (s : State) (r : Nat) (x : Canary) (j : Nat) : (s.setCanary r x).att j = s.att j := rfl
@[simp] theorem State.setCanary_host (s : State) (r : Nat) (x : Canary) (j : Nat) : (s.setCanary r x).host j = s.host j := rfl
@[simp] theorem State.setCanary_dset (s : State) (r : Nat) (x : Canary) (j : Nat) : (s.setCanary r x).dset j = s.dset j := rfl
@[simp] theorem State.setCanary_canary_same (s : State) (r : Nat) (x : Canary) : (s.setCanary r x).canary r = x := by
  simp [State.canary, State.setCanary]
@[simp] theorem State.setCanary_canary_ne (s : State) (r : Nat) (x : Canary) {j : Nat} (hne : j ≠ r) :
    (s.setCanary r x).canary j = s.canary j := by
  simp [State.canary, State.setCanary, hne]
@[simp] theorem State.setCanary_setCanary (s : State) (r : Nat) (x : Canary) (x' : Canary) :
    (s.setCanary r x).setCanary r x' = s.setCanary r x' := by
  simp [State.setCanary]
@[simp] theorem State.setCanary_sampler (s : State) (r : Nat) (x : Canary) (j : Nat) : (s.setCanary r x).sampler j = s.sampler j := rfl
@[simp] theorem State.setCanary_stream (s : State) (r : Nat) (x : Canary) (j : Nat) : (s.setCanary r x).stream j = s.stream j := rfl
@[simp] theorem State.setCanary_trig (s : State) (r : Nat) (x : Canary) (j : Nat) : (s.setCanary r x).trig j = s.trig j := rfl
@[simp] theorem State.setCanary_capt (s : State) (r : Nat) (x : Canary) (j : Nat) : (s.setCanary r x).capt j = s.capt j := rfl
@[simp] theorem State.setCanary_group (s : State) (r : Nat) (x : Canary) (j : Nat) : (s.setCanary r x).group j = s.group j := rfl
@[simp] theorem State.setCanary_twin (s : State) (r : Nat) (x : Canary) (j : Nat) : (s.setCanary r x).twin j = s.twin j := rfl
@[simp] theorem State.setCanary_chan (s : State) (r : Nat) (x : Canary) (j : Nat) : (s.setCanary r x).chan j = s.chan j := rfl
@[simp] theorem State.setCanary_map (s : State) (r : Nat) (x : Canary) (j : Nat) : (s.setCanary r x).map j = s.map j := rfl
@[simp] theorem State.setCanary_pin (s : State) (r : Nat) (x : Canary) (j : Nat) : (s.setCanary r x).pin j = s.pin j := rfl
@[simp] theorem State.setCanary_bank (s : State) (r : Nat) (x : Canary) (j : Nat) : (s.setCanary r x).bank j = s.bank j := rfl
@[simp] theorem State.setCanary_hewer (s : State) (r : Nat) (x : Canary) (j : Nat) : (s.setCanary r x).hewer j = s.hewer j := rfl
@[simp] theorem State.setCanary_flag (s : State) (r : Nat) (x : Canary) (j : Nat) : (s.setCanary r x).flag j = s.flag j := rfl
@[simp] theorem State.setCanary_branch (s : State) (r : Nat) (x : Canary) (j : Nat) : (s.setCanary r x).branch j = s.branch j := rfl
@[simp] theorem State.setCanary_pair (s : State) (r : Nat) (x : Canary) (j : Nat) : (s.setCanary r x).pair j = s.pair j := rfl
@[simp] theorem State.setCanary_region (s : State) (r : Nat) (x : Canary) (j : Nat) : (s.setCanary r x).region j = s.region j := rfl
@[simp] theorem State.setSampler_ring (s : State) (o : Nat) (x : Sampler) : (s.setSampler o x).ring = s.ring := rfl
@[simp] theorem State.setSampler_queues (s : State) (o : Nat) (x : Sampler) : (s.setSampler o x).queues = s.queues := rfl
@[simp] theorem State.setSampler_pool (s : State) (o : Nat) (x : Sampler) : (s.setSampler o x).pool = s.pool := rfl
@[simp] theorem State.setSampler_time (s : State) (o : Nat) (x : Sampler) : (s.setSampler o x).time = s.time := rfl
@[simp] theorem State.setSampler_cycle (s : State) (o : Nat) (x : Sampler) : (s.setSampler o x).cycle = s.cycle := rfl
@[simp] theorem State.setSampler_can (s : State) (o : Nat) (x : Sampler) : (s.setSampler o x).can = s.can := rfl
@[simp] theorem State.setSampler_crush (s : State) (o : Nat) (x : Sampler) : (s.setSampler o x).crush = s.crush := rfl
@[simp] theorem State.setSampler_field (s : State) (o : Nat) (x : Sampler) : (s.setSampler o x).field = s.field := rfl
@[simp] theorem State.setSampler_bridge (s : State) (o : Nat) (x : Sampler) : (s.setSampler o x).bridge = s.bridge := rfl
@[simp] theorem State.setSampler_parts (s : State) (o : Nat) (x : Sampler) : (s.setSampler o x).parts = s.parts := rfl
@[simp] theorem State.setSampler_faults (s : State) (o : Nat) (x : Sampler) : (s.setSampler o x).faults = s.faults := rfl
@[simp] theorem State.setSampler_boot (s : State) (o : Nat) (x : Sampler) : (s.setSampler o x).boot = s.boot := rfl
@[simp] theorem State.setSampler_ctl (s : State) (o : Nat) (x : Sampler) : (s.setSampler o x).ctl = s.ctl := rfl
@[simp] theorem State.setSampler_power (s : State) (o : Nat) (x : Sampler) : (s.setSampler o x).power = s.power := rfl
@[simp] theorem State.setSampler_assay (s : State) (o : Nat) (x : Sampler) : (s.setSampler o x).assay = s.assay := rfl
@[simp] theorem State.setSampler_island (s : State) (o : Nat) (x : Sampler) : (s.setSampler o x).island = s.island := rfl
@[simp] theorem State.setSampler_counters (s : State) (o : Nat) (x : Sampler) : (s.setSampler o x).counters = s.counters := rfl
@[simp] theorem State.setSampler_out (s : State) (o : Nat) (x : Sampler) : (s.setSampler o x).out = s.out := rfl
@[simp] theorem State.setSampler_fresh (s : State) (o : Nat) (x : Sampler) : (s.setSampler o x).fresh = s.fresh := rfl
@[simp] theorem State.setSampler_pending (s : State) (o : Nat) (x : Sampler) : (s.setSampler o x).pending = s.pending := rfl
@[simp] theorem State.setSampler_port (s : State) (o : Nat) (x : Sampler) (j : Nat) : (s.setSampler o x).port j = s.port j := rfl
@[simp] theorem State.setSampler_queue (s : State) (o : Nat) (x : Sampler) (j : Nat) : (s.setSampler o x).queue j = s.queue j := rfl
@[simp] theorem State.setSampler_part (s : State) (o : Nat) (x : Sampler) (j : Nat) : (s.setSampler o x).part j = s.part j := rfl
@[simp] theorem State.setSampler_source (s : State) (o : Nat) (x : Sampler) (j : Nat) : (s.setSampler o x).source j = s.source j := rfl
@[simp] theorem State.setSampler_att (s : State) (o : Nat) (x : Sampler) (j : Nat) : (s.setSampler o x).att j = s.att j := rfl
@[simp] theorem State.setSampler_host (s : State) (o : Nat) (x : Sampler) (j : Nat) : (s.setSampler o x).host j = s.host j := rfl
@[simp] theorem State.setSampler_dset (s : State) (o : Nat) (x : Sampler) (j : Nat) : (s.setSampler o x).dset j = s.dset j := rfl
@[simp] theorem State.setSampler_canary (s : State) (o : Nat) (x : Sampler) (j : Nat) : (s.setSampler o x).canary j = s.canary j := rfl
@[simp] theorem State.setSampler_sampler_same (s : State) (o : Nat) (x : Sampler) : (s.setSampler o x).sampler o = x := by
  simp [State.sampler, State.setSampler]
@[simp] theorem State.setSampler_sampler_ne (s : State) (o : Nat) (x : Sampler) {j : Nat} (hne : j ≠ o) :
    (s.setSampler o x).sampler j = s.sampler j := by
  simp [State.sampler, State.setSampler, hne]
@[simp] theorem State.setSampler_setSampler (s : State) (o : Nat) (x : Sampler) (x' : Sampler) :
    (s.setSampler o x).setSampler o x' = s.setSampler o x' := by
  simp [State.setSampler]
@[simp] theorem State.setSampler_stream (s : State) (o : Nat) (x : Sampler) (j : Nat) : (s.setSampler o x).stream j = s.stream j := rfl
@[simp] theorem State.setSampler_trig (s : State) (o : Nat) (x : Sampler) (j : Nat) : (s.setSampler o x).trig j = s.trig j := rfl
@[simp] theorem State.setSampler_capt (s : State) (o : Nat) (x : Sampler) (j : Nat) : (s.setSampler o x).capt j = s.capt j := rfl
@[simp] theorem State.setSampler_group (s : State) (o : Nat) (x : Sampler) (j : Nat) : (s.setSampler o x).group j = s.group j := rfl
@[simp] theorem State.setSampler_twin (s : State) (o : Nat) (x : Sampler) (j : Nat) : (s.setSampler o x).twin j = s.twin j := rfl
@[simp] theorem State.setSampler_chan (s : State) (o : Nat) (x : Sampler) (j : Nat) : (s.setSampler o x).chan j = s.chan j := rfl
@[simp] theorem State.setSampler_map (s : State) (o : Nat) (x : Sampler) (j : Nat) : (s.setSampler o x).map j = s.map j := rfl
@[simp] theorem State.setSampler_pin (s : State) (o : Nat) (x : Sampler) (j : Nat) : (s.setSampler o x).pin j = s.pin j := rfl
@[simp] theorem State.setSampler_bank (s : State) (o : Nat) (x : Sampler) (j : Nat) : (s.setSampler o x).bank j = s.bank j := rfl
@[simp] theorem State.setSampler_hewer (s : State) (o : Nat) (x : Sampler) (j : Nat) : (s.setSampler o x).hewer j = s.hewer j := rfl
@[simp] theorem State.setSampler_flag (s : State) (o : Nat) (x : Sampler) (j : Nat) : (s.setSampler o x).flag j = s.flag j := rfl
@[simp] theorem State.setSampler_branch (s : State) (o : Nat) (x : Sampler) (j : Nat) : (s.setSampler o x).branch j = s.branch j := rfl
@[simp] theorem State.setSampler_pair (s : State) (o : Nat) (x : Sampler) (j : Nat) : (s.setSampler o x).pair j = s.pair j := rfl
@[simp] theorem State.setSampler_region (s : State) (o : Nat) (x : Sampler) (j : Nat) : (s.setSampler o x).region j = s.region j := rfl
@[simp] theorem State.setStream_ring (s : State) (e : Nat) (x : Stream) : (s.setStream e x).ring = s.ring := rfl
@[simp] theorem State.setStream_queues (s : State) (e : Nat) (x : Stream) : (s.setStream e x).queues = s.queues := rfl
@[simp] theorem State.setStream_pool (s : State) (e : Nat) (x : Stream) : (s.setStream e x).pool = s.pool := rfl
@[simp] theorem State.setStream_time (s : State) (e : Nat) (x : Stream) : (s.setStream e x).time = s.time := rfl
@[simp] theorem State.setStream_cycle (s : State) (e : Nat) (x : Stream) : (s.setStream e x).cycle = s.cycle := rfl
@[simp] theorem State.setStream_can (s : State) (e : Nat) (x : Stream) : (s.setStream e x).can = s.can := rfl
@[simp] theorem State.setStream_crush (s : State) (e : Nat) (x : Stream) : (s.setStream e x).crush = s.crush := rfl
@[simp] theorem State.setStream_field (s : State) (e : Nat) (x : Stream) : (s.setStream e x).field = s.field := rfl
@[simp] theorem State.setStream_bridge (s : State) (e : Nat) (x : Stream) : (s.setStream e x).bridge = s.bridge := rfl
@[simp] theorem State.setStream_parts (s : State) (e : Nat) (x : Stream) : (s.setStream e x).parts = s.parts := rfl
@[simp] theorem State.setStream_faults (s : State) (e : Nat) (x : Stream) : (s.setStream e x).faults = s.faults := rfl
@[simp] theorem State.setStream_boot (s : State) (e : Nat) (x : Stream) : (s.setStream e x).boot = s.boot := rfl
@[simp] theorem State.setStream_ctl (s : State) (e : Nat) (x : Stream) : (s.setStream e x).ctl = s.ctl := rfl
@[simp] theorem State.setStream_power (s : State) (e : Nat) (x : Stream) : (s.setStream e x).power = s.power := rfl
@[simp] theorem State.setStream_assay (s : State) (e : Nat) (x : Stream) : (s.setStream e x).assay = s.assay := rfl
@[simp] theorem State.setStream_island (s : State) (e : Nat) (x : Stream) : (s.setStream e x).island = s.island := rfl
@[simp] theorem State.setStream_counters (s : State) (e : Nat) (x : Stream) : (s.setStream e x).counters = s.counters := rfl
@[simp] theorem State.setStream_out (s : State) (e : Nat) (x : Stream) : (s.setStream e x).out = s.out := rfl
@[simp] theorem State.setStream_fresh (s : State) (e : Nat) (x : Stream) : (s.setStream e x).fresh = s.fresh := rfl
@[simp] theorem State.setStream_pending (s : State) (e : Nat) (x : Stream) : (s.setStream e x).pending = s.pending := rfl
@[simp] theorem State.setStream_port (s : State) (e : Nat) (x : Stream) (j : Nat) : (s.setStream e x).port j = s.port j := rfl
@[simp] theorem State.setStream_queue (s : State) (e : Nat) (x : Stream) (j : Nat) : (s.setStream e x).queue j = s.queue j := rfl
@[simp] theorem State.setStream_part (s : State) (e : Nat) (x : Stream) (j : Nat) : (s.setStream e x).part j = s.part j := rfl
@[simp] theorem State.setStream_source (s : State) (e : Nat) (x : Stream) (j : Nat) : (s.setStream e x).source j = s.source j := rfl
@[simp] theorem State.setStream_att (s : State) (e : Nat) (x : Stream) (j : Nat) : (s.setStream e x).att j = s.att j := rfl
@[simp] theorem State.setStream_host (s : State) (e : Nat) (x : Stream) (j : Nat) : (s.setStream e x).host j = s.host j := rfl
@[simp] theorem State.setStream_dset (s : State) (e : Nat) (x : Stream) (j : Nat) : (s.setStream e x).dset j = s.dset j := rfl
@[simp] theorem State.setStream_canary (s : State) (e : Nat) (x : Stream) (j : Nat) : (s.setStream e x).canary j = s.canary j := rfl
@[simp] theorem State.setStream_sampler (s : State) (e : Nat) (x : Stream) (j : Nat) : (s.setStream e x).sampler j = s.sampler j := rfl
@[simp] theorem State.setStream_stream_same (s : State) (e : Nat) (x : Stream) : (s.setStream e x).stream e = x := by
  simp [State.stream, State.setStream]
@[simp] theorem State.setStream_stream_ne (s : State) (e : Nat) (x : Stream) {j : Nat} (hne : j ≠ e) :
    (s.setStream e x).stream j = s.stream j := by
  simp [State.stream, State.setStream, hne]
@[simp] theorem State.setStream_setStream (s : State) (e : Nat) (x : Stream) (x' : Stream) :
    (s.setStream e x).setStream e x' = s.setStream e x' := by
  simp [State.setStream]
@[simp] theorem State.setStream_trig (s : State) (e : Nat) (x : Stream) (j : Nat) : (s.setStream e x).trig j = s.trig j := rfl
@[simp] theorem State.setStream_capt (s : State) (e : Nat) (x : Stream) (j : Nat) : (s.setStream e x).capt j = s.capt j := rfl
@[simp] theorem State.setStream_group (s : State) (e : Nat) (x : Stream) (j : Nat) : (s.setStream e x).group j = s.group j := rfl
@[simp] theorem State.setStream_twin (s : State) (e : Nat) (x : Stream) (j : Nat) : (s.setStream e x).twin j = s.twin j := rfl
@[simp] theorem State.setStream_chan (s : State) (e : Nat) (x : Stream) (j : Nat) : (s.setStream e x).chan j = s.chan j := rfl
@[simp] theorem State.setStream_map (s : State) (e : Nat) (x : Stream) (j : Nat) : (s.setStream e x).map j = s.map j := rfl
@[simp] theorem State.setStream_pin (s : State) (e : Nat) (x : Stream) (j : Nat) : (s.setStream e x).pin j = s.pin j := rfl
@[simp] theorem State.setStream_bank (s : State) (e : Nat) (x : Stream) (j : Nat) : (s.setStream e x).bank j = s.bank j := rfl
@[simp] theorem State.setStream_hewer (s : State) (e : Nat) (x : Stream) (j : Nat) : (s.setStream e x).hewer j = s.hewer j := rfl
@[simp] theorem State.setStream_flag (s : State) (e : Nat) (x : Stream) (j : Nat) : (s.setStream e x).flag j = s.flag j := rfl
@[simp] theorem State.setStream_branch (s : State) (e : Nat) (x : Stream) (j : Nat) : (s.setStream e x).branch j = s.branch j := rfl
@[simp] theorem State.setStream_pair (s : State) (e : Nat) (x : Stream) (j : Nat) : (s.setStream e x).pair j = s.pair j := rfl
@[simp] theorem State.setStream_region (s : State) (e : Nat) (x : Stream) (j : Nat) : (s.setStream e x).region j = s.region j := rfl
@[simp] theorem State.setTrig_ring (s : State) (t : Nat) (x : TrigUnit) : (s.setTrig t x).ring = s.ring := rfl
@[simp] theorem State.setTrig_sw (s : State) (t : Nat) (x : TrigUnit) : (s.setTrig t x).sw = s.sw := rfl
@[simp] theorem State.setTrig_queues (s : State) (t : Nat) (x : TrigUnit) : (s.setTrig t x).queues = s.queues := rfl
@[simp] theorem State.setTrig_pool (s : State) (t : Nat) (x : TrigUnit) : (s.setTrig t x).pool = s.pool := rfl
@[simp] theorem State.setTrig_cycle (s : State) (t : Nat) (x : TrigUnit) : (s.setTrig t x).cycle = s.cycle := rfl
@[simp] theorem State.setTrig_can (s : State) (t : Nat) (x : TrigUnit) : (s.setTrig t x).can = s.can := rfl
@[simp] theorem State.setTrig_crush (s : State) (t : Nat) (x : TrigUnit) : (s.setTrig t x).crush = s.crush := rfl
@[simp] theorem State.setTrig_field (s : State) (t : Nat) (x : TrigUnit) : (s.setTrig t x).field = s.field := rfl
@[simp] theorem State.setTrig_bridge (s : State) (t : Nat) (x : TrigUnit) : (s.setTrig t x).bridge = s.bridge := rfl
@[simp] theorem State.setTrig_parts (s : State) (t : Nat) (x : TrigUnit) : (s.setTrig t x).parts = s.parts := rfl
@[simp] theorem State.setTrig_faults (s : State) (t : Nat) (x : TrigUnit) : (s.setTrig t x).faults = s.faults := rfl
@[simp] theorem State.setTrig_boot (s : State) (t : Nat) (x : TrigUnit) : (s.setTrig t x).boot = s.boot := rfl
@[simp] theorem State.setTrig_ctl (s : State) (t : Nat) (x : TrigUnit) : (s.setTrig t x).ctl = s.ctl := rfl
@[simp] theorem State.setTrig_power (s : State) (t : Nat) (x : TrigUnit) : (s.setTrig t x).power = s.power := rfl
@[simp] theorem State.setTrig_assay (s : State) (t : Nat) (x : TrigUnit) : (s.setTrig t x).assay = s.assay := rfl
@[simp] theorem State.setTrig_island (s : State) (t : Nat) (x : TrigUnit) : (s.setTrig t x).island = s.island := rfl
@[simp] theorem State.setTrig_counters (s : State) (t : Nat) (x : TrigUnit) : (s.setTrig t x).counters = s.counters := rfl
@[simp] theorem State.setTrig_out (s : State) (t : Nat) (x : TrigUnit) : (s.setTrig t x).out = s.out := rfl
@[simp] theorem State.setTrig_fresh (s : State) (t : Nat) (x : TrigUnit) : (s.setTrig t x).fresh = s.fresh := rfl
@[simp] theorem State.setTrig_pending (s : State) (t : Nat) (x : TrigUnit) : (s.setTrig t x).pending = s.pending := rfl
@[simp] theorem State.setTrig_port (s : State) (t : Nat) (x : TrigUnit) (j : Nat) : (s.setTrig t x).port j = s.port j := rfl
@[simp] theorem State.setTrig_queue (s : State) (t : Nat) (x : TrigUnit) (j : Nat) : (s.setTrig t x).queue j = s.queue j := rfl
@[simp] theorem State.setTrig_part (s : State) (t : Nat) (x : TrigUnit) (j : Nat) : (s.setTrig t x).part j = s.part j := rfl
@[simp] theorem State.setTrig_source (s : State) (t : Nat) (x : TrigUnit) (j : Nat) : (s.setTrig t x).source j = s.source j := rfl
@[simp] theorem State.setTrig_att (s : State) (t : Nat) (x : TrigUnit) (j : Nat) : (s.setTrig t x).att j = s.att j := rfl
@[simp] theorem State.setTrig_host (s : State) (t : Nat) (x : TrigUnit) (j : Nat) : (s.setTrig t x).host j = s.host j := rfl
@[simp] theorem State.setTrig_dset (s : State) (t : Nat) (x : TrigUnit) (j : Nat) : (s.setTrig t x).dset j = s.dset j := rfl
@[simp] theorem State.setTrig_canary (s : State) (t : Nat) (x : TrigUnit) (j : Nat) : (s.setTrig t x).canary j = s.canary j := rfl
@[simp] theorem State.setTrig_sampler (s : State) (t : Nat) (x : TrigUnit) (j : Nat) : (s.setTrig t x).sampler j = s.sampler j := rfl
@[simp] theorem State.setTrig_stream (s : State) (t : Nat) (x : TrigUnit) (j : Nat) : (s.setTrig t x).stream j = s.stream j := rfl
@[simp] theorem State.setTrig_trig_same (s : State) (t : Nat) (x : TrigUnit) : (s.setTrig t x).trig t = x := by
  simp [State.trig, State.setTrig]
@[simp] theorem State.setTrig_trig_ne (s : State) (t : Nat) (x : TrigUnit) {j : Nat} (hne : j ≠ t) : (s.setTrig t x).trig j = s.trig j := by
  simp [State.trig, State.setTrig, hne]
@[simp] theorem State.setTrig_setTrig (s : State) (t : Nat) (x : TrigUnit) (x' : TrigUnit) :
    (s.setTrig t x).setTrig t x' = s.setTrig t x' := by
  simp [State.setTrig]
@[simp] theorem State.setTrig_capt (s : State) (t : Nat) (x : TrigUnit) (j : Nat) : (s.setTrig t x).capt j = s.capt j := rfl
@[simp] theorem State.setTrig_group (s : State) (t : Nat) (x : TrigUnit) (j : Nat) : (s.setTrig t x).group j = s.group j := rfl
@[simp] theorem State.setTrig_twin (s : State) (t : Nat) (x : TrigUnit) (j : Nat) : (s.setTrig t x).twin j = s.twin j := rfl
@[simp] theorem State.setTrig_chan (s : State) (t : Nat) (x : TrigUnit) (j : Nat) : (s.setTrig t x).chan j = s.chan j := rfl
@[simp] theorem State.setTrig_map (s : State) (t : Nat) (x : TrigUnit) (j : Nat) : (s.setTrig t x).map j = s.map j := rfl
@[simp] theorem State.setTrig_pin (s : State) (t : Nat) (x : TrigUnit) (j : Nat) : (s.setTrig t x).pin j = s.pin j := rfl
@[simp] theorem State.setTrig_bank (s : State) (t : Nat) (x : TrigUnit) (j : Nat) : (s.setTrig t x).bank j = s.bank j := rfl
@[simp] theorem State.setTrig_hewer (s : State) (t : Nat) (x : TrigUnit) (j : Nat) : (s.setTrig t x).hewer j = s.hewer j := rfl
@[simp] theorem State.setTrig_flag (s : State) (t : Nat) (x : TrigUnit) (j : Nat) : (s.setTrig t x).flag j = s.flag j := rfl
@[simp] theorem State.setTrig_branch (s : State) (t : Nat) (x : TrigUnit) (j : Nat) : (s.setTrig t x).branch j = s.branch j := rfl
@[simp] theorem State.setTrig_pair (s : State) (t : Nat) (x : TrigUnit) (j : Nat) : (s.setTrig t x).pair j = s.pair j := rfl
@[simp] theorem State.setTrig_region (s : State) (t : Nat) (x : TrigUnit) (j : Nat) : (s.setTrig t x).region j = s.region j := rfl
@[simp] theorem State.setCapt_ring (s : State) (u : Nat) (x : CaptUnit) : (s.setCapt u x).ring = s.ring := rfl
@[simp] theorem State.setCapt_sw (s : State) (u : Nat) (x : CaptUnit) : (s.setCapt u x).sw = s.sw := rfl
@[simp] theorem State.setCapt_queues (s : State) (u : Nat) (x : CaptUnit) : (s.setCapt u x).queues = s.queues := rfl
@[simp] theorem State.setCapt_pool (s : State) (u : Nat) (x : CaptUnit) : (s.setCapt u x).pool = s.pool := rfl
@[simp] theorem State.setCapt_cycle (s : State) (u : Nat) (x : CaptUnit) : (s.setCapt u x).cycle = s.cycle := rfl
@[simp] theorem State.setCapt_can (s : State) (u : Nat) (x : CaptUnit) : (s.setCapt u x).can = s.can := rfl
@[simp] theorem State.setCapt_crush (s : State) (u : Nat) (x : CaptUnit) : (s.setCapt u x).crush = s.crush := rfl
@[simp] theorem State.setCapt_field (s : State) (u : Nat) (x : CaptUnit) : (s.setCapt u x).field = s.field := rfl
@[simp] theorem State.setCapt_bridge (s : State) (u : Nat) (x : CaptUnit) : (s.setCapt u x).bridge = s.bridge := rfl
@[simp] theorem State.setCapt_parts (s : State) (u : Nat) (x : CaptUnit) : (s.setCapt u x).parts = s.parts := rfl
@[simp] theorem State.setCapt_faults (s : State) (u : Nat) (x : CaptUnit) : (s.setCapt u x).faults = s.faults := rfl
@[simp] theorem State.setCapt_boot (s : State) (u : Nat) (x : CaptUnit) : (s.setCapt u x).boot = s.boot := rfl
@[simp] theorem State.setCapt_ctl (s : State) (u : Nat) (x : CaptUnit) : (s.setCapt u x).ctl = s.ctl := rfl
@[simp] theorem State.setCapt_power (s : State) (u : Nat) (x : CaptUnit) : (s.setCapt u x).power = s.power := rfl
@[simp] theorem State.setCapt_assay (s : State) (u : Nat) (x : CaptUnit) : (s.setCapt u x).assay = s.assay := rfl
@[simp] theorem State.setCapt_island (s : State) (u : Nat) (x : CaptUnit) : (s.setCapt u x).island = s.island := rfl
@[simp] theorem State.setCapt_counters (s : State) (u : Nat) (x : CaptUnit) : (s.setCapt u x).counters = s.counters := rfl
@[simp] theorem State.setCapt_out (s : State) (u : Nat) (x : CaptUnit) : (s.setCapt u x).out = s.out := rfl
@[simp] theorem State.setCapt_fresh (s : State) (u : Nat) (x : CaptUnit) : (s.setCapt u x).fresh = s.fresh := rfl
@[simp] theorem State.setCapt_pending (s : State) (u : Nat) (x : CaptUnit) : (s.setCapt u x).pending = s.pending := rfl
@[simp] theorem State.setCapt_port (s : State) (u : Nat) (x : CaptUnit) (j : Nat) : (s.setCapt u x).port j = s.port j := rfl
@[simp] theorem State.setCapt_queue (s : State) (u : Nat) (x : CaptUnit) (j : Nat) : (s.setCapt u x).queue j = s.queue j := rfl
@[simp] theorem State.setCapt_part (s : State) (u : Nat) (x : CaptUnit) (j : Nat) : (s.setCapt u x).part j = s.part j := rfl
@[simp] theorem State.setCapt_source (s : State) (u : Nat) (x : CaptUnit) (j : Nat) : (s.setCapt u x).source j = s.source j := rfl
@[simp] theorem State.setCapt_att (s : State) (u : Nat) (x : CaptUnit) (j : Nat) : (s.setCapt u x).att j = s.att j := rfl
@[simp] theorem State.setCapt_host (s : State) (u : Nat) (x : CaptUnit) (j : Nat) : (s.setCapt u x).host j = s.host j := rfl
@[simp] theorem State.setCapt_dset (s : State) (u : Nat) (x : CaptUnit) (j : Nat) : (s.setCapt u x).dset j = s.dset j := rfl
@[simp] theorem State.setCapt_canary (s : State) (u : Nat) (x : CaptUnit) (j : Nat) : (s.setCapt u x).canary j = s.canary j := rfl
@[simp] theorem State.setCapt_sampler (s : State) (u : Nat) (x : CaptUnit) (j : Nat) : (s.setCapt u x).sampler j = s.sampler j := rfl
@[simp] theorem State.setCapt_stream (s : State) (u : Nat) (x : CaptUnit) (j : Nat) : (s.setCapt u x).stream j = s.stream j := rfl
@[simp] theorem State.setCapt_trig (s : State) (u : Nat) (x : CaptUnit) (j : Nat) : (s.setCapt u x).trig j = s.trig j := rfl
@[simp] theorem State.setCapt_capt_same (s : State) (u : Nat) (x : CaptUnit) : (s.setCapt u x).capt u = x := by
  simp [State.capt, State.setCapt]
@[simp] theorem State.setCapt_capt_ne (s : State) (u : Nat) (x : CaptUnit) {j : Nat} (hne : j ≠ u) : (s.setCapt u x).capt j = s.capt j := by
  simp [State.capt, State.setCapt, hne]
@[simp] theorem State.setCapt_setCapt (s : State) (u : Nat) (x : CaptUnit) (x' : CaptUnit) :
    (s.setCapt u x).setCapt u x' = s.setCapt u x' := by
  simp [State.setCapt]
@[simp] theorem State.setCapt_group (s : State) (u : Nat) (x : CaptUnit) (j : Nat) : (s.setCapt u x).group j = s.group j := rfl
@[simp] theorem State.setCapt_twin (s : State) (u : Nat) (x : CaptUnit) (j : Nat) : (s.setCapt u x).twin j = s.twin j := rfl
@[simp] theorem State.setCapt_chan (s : State) (u : Nat) (x : CaptUnit) (j : Nat) : (s.setCapt u x).chan j = s.chan j := rfl
@[simp] theorem State.setCapt_map (s : State) (u : Nat) (x : CaptUnit) (j : Nat) : (s.setCapt u x).map j = s.map j := rfl
@[simp] theorem State.setCapt_pin (s : State) (u : Nat) (x : CaptUnit) (j : Nat) : (s.setCapt u x).pin j = s.pin j := rfl
@[simp] theorem State.setCapt_bank (s : State) (u : Nat) (x : CaptUnit) (j : Nat) : (s.setCapt u x).bank j = s.bank j := rfl
@[simp] theorem State.setCapt_hewer (s : State) (u : Nat) (x : CaptUnit) (j : Nat) : (s.setCapt u x).hewer j = s.hewer j := rfl
@[simp] theorem State.setCapt_flag (s : State) (u : Nat) (x : CaptUnit) (j : Nat) : (s.setCapt u x).flag j = s.flag j := rfl
@[simp] theorem State.setCapt_branch (s : State) (u : Nat) (x : CaptUnit) (j : Nat) : (s.setCapt u x).branch j = s.branch j := rfl
@[simp] theorem State.setCapt_pair (s : State) (u : Nat) (x : CaptUnit) (j : Nat) : (s.setCapt u x).pair j = s.pair j := rfl
@[simp] theorem State.setCapt_region (s : State) (u : Nat) (x : CaptUnit) (j : Nat) : (s.setCapt u x).region j = s.region j := rfl
@[simp] theorem State.setGroup_ring (s : State) (g : Nat) (x : OutGroup) : (s.setGroup g x).ring = s.ring := rfl
@[simp] theorem State.setGroup_sw (s : State) (g : Nat) (x : OutGroup) : (s.setGroup g x).sw = s.sw := rfl
@[simp] theorem State.setGroup_queues (s : State) (g : Nat) (x : OutGroup) : (s.setGroup g x).queues = s.queues := rfl
@[simp] theorem State.setGroup_pool (s : State) (g : Nat) (x : OutGroup) : (s.setGroup g x).pool = s.pool := rfl
@[simp] theorem State.setGroup_time (s : State) (g : Nat) (x : OutGroup) : (s.setGroup g x).time = s.time := rfl
@[simp] theorem State.setGroup_can (s : State) (g : Nat) (x : OutGroup) : (s.setGroup g x).can = s.can := rfl
@[simp] theorem State.setGroup_crush (s : State) (g : Nat) (x : OutGroup) : (s.setGroup g x).crush = s.crush := rfl
@[simp] theorem State.setGroup_field (s : State) (g : Nat) (x : OutGroup) : (s.setGroup g x).field = s.field := rfl
@[simp] theorem State.setGroup_bridge (s : State) (g : Nat) (x : OutGroup) : (s.setGroup g x).bridge = s.bridge := rfl
@[simp] theorem State.setGroup_parts (s : State) (g : Nat) (x : OutGroup) : (s.setGroup g x).parts = s.parts := rfl
@[simp] theorem State.setGroup_faults (s : State) (g : Nat) (x : OutGroup) : (s.setGroup g x).faults = s.faults := rfl
@[simp] theorem State.setGroup_boot (s : State) (g : Nat) (x : OutGroup) : (s.setGroup g x).boot = s.boot := rfl
@[simp] theorem State.setGroup_ctl (s : State) (g : Nat) (x : OutGroup) : (s.setGroup g x).ctl = s.ctl := rfl
@[simp] theorem State.setGroup_power (s : State) (g : Nat) (x : OutGroup) : (s.setGroup g x).power = s.power := rfl
@[simp] theorem State.setGroup_assay (s : State) (g : Nat) (x : OutGroup) : (s.setGroup g x).assay = s.assay := rfl
@[simp] theorem State.setGroup_island (s : State) (g : Nat) (x : OutGroup) : (s.setGroup g x).island = s.island := rfl
@[simp] theorem State.setGroup_counters (s : State) (g : Nat) (x : OutGroup) : (s.setGroup g x).counters = s.counters := rfl
@[simp] theorem State.setGroup_out (s : State) (g : Nat) (x : OutGroup) : (s.setGroup g x).out = s.out := rfl
@[simp] theorem State.setGroup_fresh (s : State) (g : Nat) (x : OutGroup) : (s.setGroup g x).fresh = s.fresh := rfl
@[simp] theorem State.setGroup_pending (s : State) (g : Nat) (x : OutGroup) : (s.setGroup g x).pending = s.pending := rfl
@[simp] theorem State.setGroup_port (s : State) (g : Nat) (x : OutGroup) (j : Nat) : (s.setGroup g x).port j = s.port j := rfl
@[simp] theorem State.setGroup_queue (s : State) (g : Nat) (x : OutGroup) (j : Nat) : (s.setGroup g x).queue j = s.queue j := rfl
@[simp] theorem State.setGroup_part (s : State) (g : Nat) (x : OutGroup) (j : Nat) : (s.setGroup g x).part j = s.part j := rfl
@[simp] theorem State.setGroup_source (s : State) (g : Nat) (x : OutGroup) (j : Nat) : (s.setGroup g x).source j = s.source j := rfl
@[simp] theorem State.setGroup_att (s : State) (g : Nat) (x : OutGroup) (j : Nat) : (s.setGroup g x).att j = s.att j := rfl
@[simp] theorem State.setGroup_host (s : State) (g : Nat) (x : OutGroup) (j : Nat) : (s.setGroup g x).host j = s.host j := rfl
@[simp] theorem State.setGroup_dset (s : State) (g : Nat) (x : OutGroup) (j : Nat) : (s.setGroup g x).dset j = s.dset j := rfl
@[simp] theorem State.setGroup_canary (s : State) (g : Nat) (x : OutGroup) (j : Nat) : (s.setGroup g x).canary j = s.canary j := rfl
@[simp] theorem State.setGroup_sampler (s : State) (g : Nat) (x : OutGroup) (j : Nat) : (s.setGroup g x).sampler j = s.sampler j := rfl
@[simp] theorem State.setGroup_stream (s : State) (g : Nat) (x : OutGroup) (j : Nat) : (s.setGroup g x).stream j = s.stream j := rfl
@[simp] theorem State.setGroup_trig (s : State) (g : Nat) (x : OutGroup) (j : Nat) : (s.setGroup g x).trig j = s.trig j := rfl
@[simp] theorem State.setGroup_capt (s : State) (g : Nat) (x : OutGroup) (j : Nat) : (s.setGroup g x).capt j = s.capt j := rfl
@[simp] theorem State.setGroup_group_same (s : State) (g : Nat) (x : OutGroup) : (s.setGroup g x).group g = x := by
  simp [State.group, State.setGroup]
@[simp] theorem State.setGroup_group_ne (s : State) (g : Nat) (x : OutGroup) {j : Nat} (hne : j ≠ g) :
    (s.setGroup g x).group j = s.group j := by
  simp [State.group, State.setGroup, hne]
@[simp] theorem State.setGroup_setGroup (s : State) (g : Nat) (x : OutGroup) (x' : OutGroup) :
    (s.setGroup g x).setGroup g x' = s.setGroup g x' := by
  simp [State.setGroup]
@[simp] theorem State.setGroup_twin (s : State) (g : Nat) (x : OutGroup) (j : Nat) : (s.setGroup g x).twin j = s.twin j := rfl
@[simp] theorem State.setGroup_chan (s : State) (g : Nat) (x : OutGroup) (j : Nat) : (s.setGroup g x).chan j = s.chan j := rfl
@[simp] theorem State.setGroup_map (s : State) (g : Nat) (x : OutGroup) (j : Nat) : (s.setGroup g x).map j = s.map j := rfl
@[simp] theorem State.setGroup_pin (s : State) (g : Nat) (x : OutGroup) (j : Nat) : (s.setGroup g x).pin j = s.pin j := rfl
@[simp] theorem State.setGroup_bank (s : State) (g : Nat) (x : OutGroup) (j : Nat) : (s.setGroup g x).bank j = s.bank j := rfl
@[simp] theorem State.setGroup_hewer (s : State) (g : Nat) (x : OutGroup) (j : Nat) : (s.setGroup g x).hewer j = s.hewer j := rfl
@[simp] theorem State.setGroup_flag (s : State) (g : Nat) (x : OutGroup) (j : Nat) : (s.setGroup g x).flag j = s.flag j := rfl
@[simp] theorem State.setGroup_branch (s : State) (g : Nat) (x : OutGroup) (j : Nat) : (s.setGroup g x).branch j = s.branch j := rfl
@[simp] theorem State.setGroup_pair (s : State) (g : Nat) (x : OutGroup) (j : Nat) : (s.setGroup g x).pair j = s.pair j := rfl
@[simp] theorem State.setGroup_region (s : State) (g : Nat) (x : OutGroup) (j : Nat) : (s.setGroup g x).region j = s.region j := rfl
@[simp] theorem State.setTwin_ring (s : State) (t : Nat) (x : TwinSet) : (s.setTwin t x).ring = s.ring := rfl
@[simp] theorem State.setTwin_sw (s : State) (t : Nat) (x : TwinSet) : (s.setTwin t x).sw = s.sw := rfl
@[simp] theorem State.setTwin_queues (s : State) (t : Nat) (x : TwinSet) : (s.setTwin t x).queues = s.queues := rfl
@[simp] theorem State.setTwin_pool (s : State) (t : Nat) (x : TwinSet) : (s.setTwin t x).pool = s.pool := rfl
@[simp] theorem State.setTwin_time (s : State) (t : Nat) (x : TwinSet) : (s.setTwin t x).time = s.time := rfl
@[simp] theorem State.setTwin_can (s : State) (t : Nat) (x : TwinSet) : (s.setTwin t x).can = s.can := rfl
@[simp] theorem State.setTwin_crush (s : State) (t : Nat) (x : TwinSet) : (s.setTwin t x).crush = s.crush := rfl
@[simp] theorem State.setTwin_field (s : State) (t : Nat) (x : TwinSet) : (s.setTwin t x).field = s.field := rfl
@[simp] theorem State.setTwin_bridge (s : State) (t : Nat) (x : TwinSet) : (s.setTwin t x).bridge = s.bridge := rfl
@[simp] theorem State.setTwin_parts (s : State) (t : Nat) (x : TwinSet) : (s.setTwin t x).parts = s.parts := rfl
@[simp] theorem State.setTwin_faults (s : State) (t : Nat) (x : TwinSet) : (s.setTwin t x).faults = s.faults := rfl
@[simp] theorem State.setTwin_boot (s : State) (t : Nat) (x : TwinSet) : (s.setTwin t x).boot = s.boot := rfl
@[simp] theorem State.setTwin_ctl (s : State) (t : Nat) (x : TwinSet) : (s.setTwin t x).ctl = s.ctl := rfl
@[simp] theorem State.setTwin_power (s : State) (t : Nat) (x : TwinSet) : (s.setTwin t x).power = s.power := rfl
@[simp] theorem State.setTwin_assay (s : State) (t : Nat) (x : TwinSet) : (s.setTwin t x).assay = s.assay := rfl
@[simp] theorem State.setTwin_island (s : State) (t : Nat) (x : TwinSet) : (s.setTwin t x).island = s.island := rfl
@[simp] theorem State.setTwin_counters (s : State) (t : Nat) (x : TwinSet) : (s.setTwin t x).counters = s.counters := rfl
@[simp] theorem State.setTwin_out (s : State) (t : Nat) (x : TwinSet) : (s.setTwin t x).out = s.out := rfl
@[simp] theorem State.setTwin_fresh (s : State) (t : Nat) (x : TwinSet) : (s.setTwin t x).fresh = s.fresh := rfl
@[simp] theorem State.setTwin_pending (s : State) (t : Nat) (x : TwinSet) : (s.setTwin t x).pending = s.pending := rfl
@[simp] theorem State.setTwin_port (s : State) (t : Nat) (x : TwinSet) (j : Nat) : (s.setTwin t x).port j = s.port j := rfl
@[simp] theorem State.setTwin_queue (s : State) (t : Nat) (x : TwinSet) (j : Nat) : (s.setTwin t x).queue j = s.queue j := rfl
@[simp] theorem State.setTwin_part (s : State) (t : Nat) (x : TwinSet) (j : Nat) : (s.setTwin t x).part j = s.part j := rfl
@[simp] theorem State.setTwin_source (s : State) (t : Nat) (x : TwinSet) (j : Nat) : (s.setTwin t x).source j = s.source j := rfl
@[simp] theorem State.setTwin_att (s : State) (t : Nat) (x : TwinSet) (j : Nat) : (s.setTwin t x).att j = s.att j := rfl
@[simp] theorem State.setTwin_host (s : State) (t : Nat) (x : TwinSet) (j : Nat) : (s.setTwin t x).host j = s.host j := rfl
@[simp] theorem State.setTwin_dset (s : State) (t : Nat) (x : TwinSet) (j : Nat) : (s.setTwin t x).dset j = s.dset j := rfl
@[simp] theorem State.setTwin_canary (s : State) (t : Nat) (x : TwinSet) (j : Nat) : (s.setTwin t x).canary j = s.canary j := rfl
@[simp] theorem State.setTwin_sampler (s : State) (t : Nat) (x : TwinSet) (j : Nat) : (s.setTwin t x).sampler j = s.sampler j := rfl
@[simp] theorem State.setTwin_stream (s : State) (t : Nat) (x : TwinSet) (j : Nat) : (s.setTwin t x).stream j = s.stream j := rfl
@[simp] theorem State.setTwin_trig (s : State) (t : Nat) (x : TwinSet) (j : Nat) : (s.setTwin t x).trig j = s.trig j := rfl
@[simp] theorem State.setTwin_capt (s : State) (t : Nat) (x : TwinSet) (j : Nat) : (s.setTwin t x).capt j = s.capt j := rfl
@[simp] theorem State.setTwin_group (s : State) (t : Nat) (x : TwinSet) (j : Nat) : (s.setTwin t x).group j = s.group j := rfl
@[simp] theorem State.setTwin_twin_same (s : State) (t : Nat) (x : TwinSet) : (s.setTwin t x).twin t = x := by
  simp [State.twin, State.setTwin]
@[simp] theorem State.setTwin_twin_ne (s : State) (t : Nat) (x : TwinSet) {j : Nat} (hne : j ≠ t) : (s.setTwin t x).twin j = s.twin j := by
  simp [State.twin, State.setTwin, hne]
@[simp] theorem State.setTwin_setTwin (s : State) (t : Nat) (x : TwinSet) (x' : TwinSet) : (s.setTwin t x).setTwin t x' = s.setTwin t x' :=
    by
  simp [State.setTwin]
@[simp] theorem State.setTwin_chan (s : State) (t : Nat) (x : TwinSet) (j : Nat) : (s.setTwin t x).chan j = s.chan j := rfl
@[simp] theorem State.setTwin_map (s : State) (t : Nat) (x : TwinSet) (j : Nat) : (s.setTwin t x).map j = s.map j := rfl
@[simp] theorem State.setTwin_pin (s : State) (t : Nat) (x : TwinSet) (j : Nat) : (s.setTwin t x).pin j = s.pin j := rfl
@[simp] theorem State.setTwin_bank (s : State) (t : Nat) (x : TwinSet) (j : Nat) : (s.setTwin t x).bank j = s.bank j := rfl
@[simp] theorem State.setTwin_hewer (s : State) (t : Nat) (x : TwinSet) (j : Nat) : (s.setTwin t x).hewer j = s.hewer j := rfl
@[simp] theorem State.setTwin_flag (s : State) (t : Nat) (x : TwinSet) (j : Nat) : (s.setTwin t x).flag j = s.flag j := rfl
@[simp] theorem State.setTwin_branch (s : State) (t : Nat) (x : TwinSet) (j : Nat) : (s.setTwin t x).branch j = s.branch j := rfl
@[simp] theorem State.setTwin_pair (s : State) (t : Nat) (x : TwinSet) (j : Nat) : (s.setTwin t x).pair j = s.pair j := rfl
@[simp] theorem State.setTwin_region (s : State) (t : Nat) (x : TwinSet) (j : Nat) : (s.setTwin t x).region j = s.region j := rfl
@[simp] theorem State.setChan_ring (s : State) (c : Nat) (x : CanChan) : (s.setChan c x).ring = s.ring := rfl
@[simp] theorem State.setChan_sw (s : State) (c : Nat) (x : CanChan) : (s.setChan c x).sw = s.sw := rfl
@[simp] theorem State.setChan_queues (s : State) (c : Nat) (x : CanChan) : (s.setChan c x).queues = s.queues := rfl
@[simp] theorem State.setChan_pool (s : State) (c : Nat) (x : CanChan) : (s.setChan c x).pool = s.pool := rfl
@[simp] theorem State.setChan_time (s : State) (c : Nat) (x : CanChan) : (s.setChan c x).time = s.time := rfl
@[simp] theorem State.setChan_cycle (s : State) (c : Nat) (x : CanChan) : (s.setChan c x).cycle = s.cycle := rfl
@[simp] theorem State.setChan_crush (s : State) (c : Nat) (x : CanChan) : (s.setChan c x).crush = s.crush := rfl
@[simp] theorem State.setChan_field (s : State) (c : Nat) (x : CanChan) : (s.setChan c x).field = s.field := rfl
@[simp] theorem State.setChan_bridge (s : State) (c : Nat) (x : CanChan) : (s.setChan c x).bridge = s.bridge := rfl
@[simp] theorem State.setChan_parts (s : State) (c : Nat) (x : CanChan) : (s.setChan c x).parts = s.parts := rfl
@[simp] theorem State.setChan_faults (s : State) (c : Nat) (x : CanChan) : (s.setChan c x).faults = s.faults := rfl
@[simp] theorem State.setChan_boot (s : State) (c : Nat) (x : CanChan) : (s.setChan c x).boot = s.boot := rfl
@[simp] theorem State.setChan_ctl (s : State) (c : Nat) (x : CanChan) : (s.setChan c x).ctl = s.ctl := rfl
@[simp] theorem State.setChan_power (s : State) (c : Nat) (x : CanChan) : (s.setChan c x).power = s.power := rfl
@[simp] theorem State.setChan_assay (s : State) (c : Nat) (x : CanChan) : (s.setChan c x).assay = s.assay := rfl
@[simp] theorem State.setChan_island (s : State) (c : Nat) (x : CanChan) : (s.setChan c x).island = s.island := rfl
@[simp] theorem State.setChan_counters (s : State) (c : Nat) (x : CanChan) : (s.setChan c x).counters = s.counters := rfl
@[simp] theorem State.setChan_out (s : State) (c : Nat) (x : CanChan) : (s.setChan c x).out = s.out := rfl
@[simp] theorem State.setChan_fresh (s : State) (c : Nat) (x : CanChan) : (s.setChan c x).fresh = s.fresh := rfl
@[simp] theorem State.setChan_pending (s : State) (c : Nat) (x : CanChan) : (s.setChan c x).pending = s.pending := rfl
@[simp] theorem State.setChan_port (s : State) (c : Nat) (x : CanChan) (j : Nat) : (s.setChan c x).port j = s.port j := rfl
@[simp] theorem State.setChan_queue (s : State) (c : Nat) (x : CanChan) (j : Nat) : (s.setChan c x).queue j = s.queue j := rfl
@[simp] theorem State.setChan_part (s : State) (c : Nat) (x : CanChan) (j : Nat) : (s.setChan c x).part j = s.part j := rfl
@[simp] theorem State.setChan_source (s : State) (c : Nat) (x : CanChan) (j : Nat) : (s.setChan c x).source j = s.source j := rfl
@[simp] theorem State.setChan_att (s : State) (c : Nat) (x : CanChan) (j : Nat) : (s.setChan c x).att j = s.att j := rfl
@[simp] theorem State.setChan_host (s : State) (c : Nat) (x : CanChan) (j : Nat) : (s.setChan c x).host j = s.host j := rfl
@[simp] theorem State.setChan_dset (s : State) (c : Nat) (x : CanChan) (j : Nat) : (s.setChan c x).dset j = s.dset j := rfl
@[simp] theorem State.setChan_canary (s : State) (c : Nat) (x : CanChan) (j : Nat) : (s.setChan c x).canary j = s.canary j := rfl
@[simp] theorem State.setChan_sampler (s : State) (c : Nat) (x : CanChan) (j : Nat) : (s.setChan c x).sampler j = s.sampler j := rfl
@[simp] theorem State.setChan_stream (s : State) (c : Nat) (x : CanChan) (j : Nat) : (s.setChan c x).stream j = s.stream j := rfl
@[simp] theorem State.setChan_trig (s : State) (c : Nat) (x : CanChan) (j : Nat) : (s.setChan c x).trig j = s.trig j := rfl
@[simp] theorem State.setChan_capt (s : State) (c : Nat) (x : CanChan) (j : Nat) : (s.setChan c x).capt j = s.capt j := rfl
@[simp] theorem State.setChan_group (s : State) (c : Nat) (x : CanChan) (j : Nat) : (s.setChan c x).group j = s.group j := rfl
@[simp] theorem State.setChan_twin (s : State) (c : Nat) (x : CanChan) (j : Nat) : (s.setChan c x).twin j = s.twin j := rfl
@[simp] theorem State.setChan_chan_same (s : State) (c : Nat) (x : CanChan) : (s.setChan c x).chan c = x := by
  simp [State.chan, State.setChan]
@[simp] theorem State.setChan_chan_ne (s : State) (c : Nat) (x : CanChan) {j : Nat} (hne : j ≠ c) : (s.setChan c x).chan j = s.chan j := by
  simp [State.chan, State.setChan, hne]
@[simp] theorem State.setChan_setChan (s : State) (c : Nat) (x : CanChan) (x' : CanChan) : (s.setChan c x).setChan c x' = s.setChan c x' :=
    by
  simp [State.setChan]
@[simp] theorem State.setChan_map (s : State) (c : Nat) (x : CanChan) (j : Nat) : (s.setChan c x).map j = s.map j := rfl
@[simp] theorem State.setChan_pin (s : State) (c : Nat) (x : CanChan) (j : Nat) : (s.setChan c x).pin j = s.pin j := rfl
@[simp] theorem State.setChan_bank (s : State) (c : Nat) (x : CanChan) (j : Nat) : (s.setChan c x).bank j = s.bank j := rfl
@[simp] theorem State.setChan_hewer (s : State) (c : Nat) (x : CanChan) (j : Nat) : (s.setChan c x).hewer j = s.hewer j := rfl
@[simp] theorem State.setChan_flag (s : State) (c : Nat) (x : CanChan) (j : Nat) : (s.setChan c x).flag j = s.flag j := rfl
@[simp] theorem State.setChan_branch (s : State) (c : Nat) (x : CanChan) (j : Nat) : (s.setChan c x).branch j = s.branch j := rfl
@[simp] theorem State.setChan_pair (s : State) (c : Nat) (x : CanChan) (j : Nat) : (s.setChan c x).pair j = s.pair j := rfl
@[simp] theorem State.setChan_region (s : State) (c : Nat) (x : CanChan) (j : Nat) : (s.setChan c x).region j = s.region j := rfl
@[simp] theorem State.setMap_ring (s : State) (m : Nat) (x : SigMap) : (s.setMap m x).ring = s.ring := rfl
@[simp] theorem State.setMap_sw (s : State) (m : Nat) (x : SigMap) : (s.setMap m x).sw = s.sw := rfl
@[simp] theorem State.setMap_queues (s : State) (m : Nat) (x : SigMap) : (s.setMap m x).queues = s.queues := rfl
@[simp] theorem State.setMap_pool (s : State) (m : Nat) (x : SigMap) : (s.setMap m x).pool = s.pool := rfl
@[simp] theorem State.setMap_time (s : State) (m : Nat) (x : SigMap) : (s.setMap m x).time = s.time := rfl
@[simp] theorem State.setMap_cycle (s : State) (m : Nat) (x : SigMap) : (s.setMap m x).cycle = s.cycle := rfl
@[simp] theorem State.setMap_can (s : State) (m : Nat) (x : SigMap) : (s.setMap m x).can = s.can := rfl
@[simp] theorem State.setMap_field (s : State) (m : Nat) (x : SigMap) : (s.setMap m x).field = s.field := rfl
@[simp] theorem State.setMap_bridge (s : State) (m : Nat) (x : SigMap) : (s.setMap m x).bridge = s.bridge := rfl
@[simp] theorem State.setMap_parts (s : State) (m : Nat) (x : SigMap) : (s.setMap m x).parts = s.parts := rfl
@[simp] theorem State.setMap_faults (s : State) (m : Nat) (x : SigMap) : (s.setMap m x).faults = s.faults := rfl
@[simp] theorem State.setMap_boot (s : State) (m : Nat) (x : SigMap) : (s.setMap m x).boot = s.boot := rfl
@[simp] theorem State.setMap_ctl (s : State) (m : Nat) (x : SigMap) : (s.setMap m x).ctl = s.ctl := rfl
@[simp] theorem State.setMap_power (s : State) (m : Nat) (x : SigMap) : (s.setMap m x).power = s.power := rfl
@[simp] theorem State.setMap_assay (s : State) (m : Nat) (x : SigMap) : (s.setMap m x).assay = s.assay := rfl
@[simp] theorem State.setMap_island (s : State) (m : Nat) (x : SigMap) : (s.setMap m x).island = s.island := rfl
@[simp] theorem State.setMap_counters (s : State) (m : Nat) (x : SigMap) : (s.setMap m x).counters = s.counters := rfl
@[simp] theorem State.setMap_out (s : State) (m : Nat) (x : SigMap) : (s.setMap m x).out = s.out := rfl
@[simp] theorem State.setMap_fresh (s : State) (m : Nat) (x : SigMap) : (s.setMap m x).fresh = s.fresh := rfl
@[simp] theorem State.setMap_pending (s : State) (m : Nat) (x : SigMap) : (s.setMap m x).pending = s.pending := rfl
@[simp] theorem State.setMap_port (s : State) (m : Nat) (x : SigMap) (j : Nat) : (s.setMap m x).port j = s.port j := rfl
@[simp] theorem State.setMap_queue (s : State) (m : Nat) (x : SigMap) (j : Nat) : (s.setMap m x).queue j = s.queue j := rfl
@[simp] theorem State.setMap_part (s : State) (m : Nat) (x : SigMap) (j : Nat) : (s.setMap m x).part j = s.part j := rfl
@[simp] theorem State.setMap_source (s : State) (m : Nat) (x : SigMap) (j : Nat) : (s.setMap m x).source j = s.source j := rfl
@[simp] theorem State.setMap_att (s : State) (m : Nat) (x : SigMap) (j : Nat) : (s.setMap m x).att j = s.att j := rfl
@[simp] theorem State.setMap_host (s : State) (m : Nat) (x : SigMap) (j : Nat) : (s.setMap m x).host j = s.host j := rfl
@[simp] theorem State.setMap_dset (s : State) (m : Nat) (x : SigMap) (j : Nat) : (s.setMap m x).dset j = s.dset j := rfl
@[simp] theorem State.setMap_canary (s : State) (m : Nat) (x : SigMap) (j : Nat) : (s.setMap m x).canary j = s.canary j := rfl
@[simp] theorem State.setMap_sampler (s : State) (m : Nat) (x : SigMap) (j : Nat) : (s.setMap m x).sampler j = s.sampler j := rfl
@[simp] theorem State.setMap_stream (s : State) (m : Nat) (x : SigMap) (j : Nat) : (s.setMap m x).stream j = s.stream j := rfl
@[simp] theorem State.setMap_trig (s : State) (m : Nat) (x : SigMap) (j : Nat) : (s.setMap m x).trig j = s.trig j := rfl
@[simp] theorem State.setMap_capt (s : State) (m : Nat) (x : SigMap) (j : Nat) : (s.setMap m x).capt j = s.capt j := rfl
@[simp] theorem State.setMap_group (s : State) (m : Nat) (x : SigMap) (j : Nat) : (s.setMap m x).group j = s.group j := rfl
@[simp] theorem State.setMap_twin (s : State) (m : Nat) (x : SigMap) (j : Nat) : (s.setMap m x).twin j = s.twin j := rfl
@[simp] theorem State.setMap_chan (s : State) (m : Nat) (x : SigMap) (j : Nat) : (s.setMap m x).chan j = s.chan j := rfl
@[simp] theorem State.setMap_map_same (s : State) (m : Nat) (x : SigMap) : (s.setMap m x).map m = x := by
  simp [State.map, State.setMap]
@[simp] theorem State.setMap_map_ne (s : State) (m : Nat) (x : SigMap) {j : Nat} (hne : j ≠ m) : (s.setMap m x).map j = s.map j := by
  simp [State.map, State.setMap, hne]
@[simp] theorem State.setMap_setMap (s : State) (m : Nat) (x : SigMap) (x' : SigMap) : (s.setMap m x).setMap m x' = s.setMap m x' := by
  simp [State.setMap]
@[simp] theorem State.setMap_pin (s : State) (m : Nat) (x : SigMap) (j : Nat) : (s.setMap m x).pin j = s.pin j := rfl
@[simp] theorem State.setMap_bank (s : State) (m : Nat) (x : SigMap) (j : Nat) : (s.setMap m x).bank j = s.bank j := rfl
@[simp] theorem State.setMap_hewer (s : State) (m : Nat) (x : SigMap) (j : Nat) : (s.setMap m x).hewer j = s.hewer j := rfl
@[simp] theorem State.setMap_flag (s : State) (m : Nat) (x : SigMap) (j : Nat) : (s.setMap m x).flag j = s.flag j := rfl
@[simp] theorem State.setMap_branch (s : State) (m : Nat) (x : SigMap) (j : Nat) : (s.setMap m x).branch j = s.branch j := rfl
@[simp] theorem State.setMap_pair (s : State) (m : Nat) (x : SigMap) (j : Nat) : (s.setMap m x).pair j = s.pair j := rfl
@[simp] theorem State.setMap_region (s : State) (m : Nat) (x : SigMap) (j : Nat) : (s.setMap m x).region j = s.region j := rfl
@[simp] theorem State.setPin_ring (s : State) (p : Nat) (x : Pin) : (s.setPin p x).ring = s.ring := rfl
@[simp] theorem State.setPin_sw (s : State) (p : Nat) (x : Pin) : (s.setPin p x).sw = s.sw := rfl
@[simp] theorem State.setPin_queues (s : State) (p : Nat) (x : Pin) : (s.setPin p x).queues = s.queues := rfl
@[simp] theorem State.setPin_pool (s : State) (p : Nat) (x : Pin) : (s.setPin p x).pool = s.pool := rfl
@[simp] theorem State.setPin_time (s : State) (p : Nat) (x : Pin) : (s.setPin p x).time = s.time := rfl
@[simp] theorem State.setPin_cycle (s : State) (p : Nat) (x : Pin) : (s.setPin p x).cycle = s.cycle := rfl
@[simp] theorem State.setPin_can (s : State) (p : Nat) (x : Pin) : (s.setPin p x).can = s.can := rfl
@[simp] theorem State.setPin_crush (s : State) (p : Nat) (x : Pin) : (s.setPin p x).crush = s.crush := rfl
@[simp] theorem State.setPin_bridge (s : State) (p : Nat) (x : Pin) : (s.setPin p x).bridge = s.bridge := rfl
@[simp] theorem State.setPin_parts (s : State) (p : Nat) (x : Pin) : (s.setPin p x).parts = s.parts := rfl
@[simp] theorem State.setPin_faults (s : State) (p : Nat) (x : Pin) : (s.setPin p x).faults = s.faults := rfl
@[simp] theorem State.setPin_boot (s : State) (p : Nat) (x : Pin) : (s.setPin p x).boot = s.boot := rfl
@[simp] theorem State.setPin_ctl (s : State) (p : Nat) (x : Pin) : (s.setPin p x).ctl = s.ctl := rfl
@[simp] theorem State.setPin_power (s : State) (p : Nat) (x : Pin) : (s.setPin p x).power = s.power := rfl
@[simp] theorem State.setPin_assay (s : State) (p : Nat) (x : Pin) : (s.setPin p x).assay = s.assay := rfl
@[simp] theorem State.setPin_island (s : State) (p : Nat) (x : Pin) : (s.setPin p x).island = s.island := rfl
@[simp] theorem State.setPin_counters (s : State) (p : Nat) (x : Pin) : (s.setPin p x).counters = s.counters := rfl
@[simp] theorem State.setPin_out (s : State) (p : Nat) (x : Pin) : (s.setPin p x).out = s.out := rfl
@[simp] theorem State.setPin_fresh (s : State) (p : Nat) (x : Pin) : (s.setPin p x).fresh = s.fresh := rfl
@[simp] theorem State.setPin_pending (s : State) (p : Nat) (x : Pin) : (s.setPin p x).pending = s.pending := rfl
@[simp] theorem State.setPin_port (s : State) (p : Nat) (x : Pin) (j : Nat) : (s.setPin p x).port j = s.port j := rfl
@[simp] theorem State.setPin_queue (s : State) (p : Nat) (x : Pin) (j : Nat) : (s.setPin p x).queue j = s.queue j := rfl
@[simp] theorem State.setPin_part (s : State) (p : Nat) (x : Pin) (j : Nat) : (s.setPin p x).part j = s.part j := rfl
@[simp] theorem State.setPin_source (s : State) (p : Nat) (x : Pin) (j : Nat) : (s.setPin p x).source j = s.source j := rfl
@[simp] theorem State.setPin_att (s : State) (p : Nat) (x : Pin) (j : Nat) : (s.setPin p x).att j = s.att j := rfl
@[simp] theorem State.setPin_host (s : State) (p : Nat) (x : Pin) (j : Nat) : (s.setPin p x).host j = s.host j := rfl
@[simp] theorem State.setPin_dset (s : State) (p : Nat) (x : Pin) (j : Nat) : (s.setPin p x).dset j = s.dset j := rfl
@[simp] theorem State.setPin_canary (s : State) (p : Nat) (x : Pin) (j : Nat) : (s.setPin p x).canary j = s.canary j := rfl
@[simp] theorem State.setPin_sampler (s : State) (p : Nat) (x : Pin) (j : Nat) : (s.setPin p x).sampler j = s.sampler j := rfl
@[simp] theorem State.setPin_stream (s : State) (p : Nat) (x : Pin) (j : Nat) : (s.setPin p x).stream j = s.stream j := rfl
@[simp] theorem State.setPin_trig (s : State) (p : Nat) (x : Pin) (j : Nat) : (s.setPin p x).trig j = s.trig j := rfl
@[simp] theorem State.setPin_capt (s : State) (p : Nat) (x : Pin) (j : Nat) : (s.setPin p x).capt j = s.capt j := rfl
@[simp] theorem State.setPin_group (s : State) (p : Nat) (x : Pin) (j : Nat) : (s.setPin p x).group j = s.group j := rfl
@[simp] theorem State.setPin_twin (s : State) (p : Nat) (x : Pin) (j : Nat) : (s.setPin p x).twin j = s.twin j := rfl
@[simp] theorem State.setPin_chan (s : State) (p : Nat) (x : Pin) (j : Nat) : (s.setPin p x).chan j = s.chan j := rfl
@[simp] theorem State.setPin_map (s : State) (p : Nat) (x : Pin) (j : Nat) : (s.setPin p x).map j = s.map j := rfl
@[simp] theorem State.setPin_pin_same (s : State) (p : Nat) (x : Pin) : (s.setPin p x).pin p = x := by
  simp [State.pin, State.setPin]
@[simp] theorem State.setPin_pin_ne (s : State) (p : Nat) (x : Pin) {j : Nat} (hne : j ≠ p) : (s.setPin p x).pin j = s.pin j := by
  simp [State.pin, State.setPin, hne]
@[simp] theorem State.setPin_setPin (s : State) (p : Nat) (x : Pin) (x' : Pin) : (s.setPin p x).setPin p x' = s.setPin p x' := by
  simp [State.setPin]
@[simp] theorem State.setPin_bank (s : State) (p : Nat) (x : Pin) (j : Nat) : (s.setPin p x).bank j = s.bank j := rfl
@[simp] theorem State.setPin_hewer (s : State) (p : Nat) (x : Pin) (j : Nat) : (s.setPin p x).hewer j = s.hewer j := rfl
@[simp] theorem State.setPin_flag (s : State) (p : Nat) (x : Pin) (j : Nat) : (s.setPin p x).flag j = s.flag j := rfl
@[simp] theorem State.setPin_branch (s : State) (p : Nat) (x : Pin) (j : Nat) : (s.setPin p x).branch j = s.branch j := rfl
@[simp] theorem State.setPin_pair (s : State) (p : Nat) (x : Pin) (j : Nat) : (s.setPin p x).pair j = s.pair j := rfl
@[simp] theorem State.setPin_region (s : State) (p : Nat) (x : Pin) (j : Nat) : (s.setPin p x).region j = s.region j := rfl
@[simp] theorem State.setBank_ring (s : State) (b : Nat) (x : Bank) : (s.setBank b x).ring = s.ring := rfl
@[simp] theorem State.setBank_sw (s : State) (b : Nat) (x : Bank) : (s.setBank b x).sw = s.sw := rfl
@[simp] theorem State.setBank_queues (s : State) (b : Nat) (x : Bank) : (s.setBank b x).queues = s.queues := rfl
@[simp] theorem State.setBank_pool (s : State) (b : Nat) (x : Bank) : (s.setBank b x).pool = s.pool := rfl
@[simp] theorem State.setBank_time (s : State) (b : Nat) (x : Bank) : (s.setBank b x).time = s.time := rfl
@[simp] theorem State.setBank_cycle (s : State) (b : Nat) (x : Bank) : (s.setBank b x).cycle = s.cycle := rfl
@[simp] theorem State.setBank_can (s : State) (b : Nat) (x : Bank) : (s.setBank b x).can = s.can := rfl
@[simp] theorem State.setBank_crush (s : State) (b : Nat) (x : Bank) : (s.setBank b x).crush = s.crush := rfl
@[simp] theorem State.setBank_bridge (s : State) (b : Nat) (x : Bank) : (s.setBank b x).bridge = s.bridge := rfl
@[simp] theorem State.setBank_parts (s : State) (b : Nat) (x : Bank) : (s.setBank b x).parts = s.parts := rfl
@[simp] theorem State.setBank_faults (s : State) (b : Nat) (x : Bank) : (s.setBank b x).faults = s.faults := rfl
@[simp] theorem State.setBank_boot (s : State) (b : Nat) (x : Bank) : (s.setBank b x).boot = s.boot := rfl
@[simp] theorem State.setBank_ctl (s : State) (b : Nat) (x : Bank) : (s.setBank b x).ctl = s.ctl := rfl
@[simp] theorem State.setBank_power (s : State) (b : Nat) (x : Bank) : (s.setBank b x).power = s.power := rfl
@[simp] theorem State.setBank_assay (s : State) (b : Nat) (x : Bank) : (s.setBank b x).assay = s.assay := rfl
@[simp] theorem State.setBank_island (s : State) (b : Nat) (x : Bank) : (s.setBank b x).island = s.island := rfl
@[simp] theorem State.setBank_counters (s : State) (b : Nat) (x : Bank) : (s.setBank b x).counters = s.counters := rfl
@[simp] theorem State.setBank_out (s : State) (b : Nat) (x : Bank) : (s.setBank b x).out = s.out := rfl
@[simp] theorem State.setBank_fresh (s : State) (b : Nat) (x : Bank) : (s.setBank b x).fresh = s.fresh := rfl
@[simp] theorem State.setBank_pending (s : State) (b : Nat) (x : Bank) : (s.setBank b x).pending = s.pending := rfl
@[simp] theorem State.setBank_port (s : State) (b : Nat) (x : Bank) (j : Nat) : (s.setBank b x).port j = s.port j := rfl
@[simp] theorem State.setBank_queue (s : State) (b : Nat) (x : Bank) (j : Nat) : (s.setBank b x).queue j = s.queue j := rfl
@[simp] theorem State.setBank_part (s : State) (b : Nat) (x : Bank) (j : Nat) : (s.setBank b x).part j = s.part j := rfl
@[simp] theorem State.setBank_source (s : State) (b : Nat) (x : Bank) (j : Nat) : (s.setBank b x).source j = s.source j := rfl
@[simp] theorem State.setBank_att (s : State) (b : Nat) (x : Bank) (j : Nat) : (s.setBank b x).att j = s.att j := rfl
@[simp] theorem State.setBank_host (s : State) (b : Nat) (x : Bank) (j : Nat) : (s.setBank b x).host j = s.host j := rfl
@[simp] theorem State.setBank_dset (s : State) (b : Nat) (x : Bank) (j : Nat) : (s.setBank b x).dset j = s.dset j := rfl
@[simp] theorem State.setBank_canary (s : State) (b : Nat) (x : Bank) (j : Nat) : (s.setBank b x).canary j = s.canary j := rfl
@[simp] theorem State.setBank_sampler (s : State) (b : Nat) (x : Bank) (j : Nat) : (s.setBank b x).sampler j = s.sampler j := rfl
@[simp] theorem State.setBank_stream (s : State) (b : Nat) (x : Bank) (j : Nat) : (s.setBank b x).stream j = s.stream j := rfl
@[simp] theorem State.setBank_trig (s : State) (b : Nat) (x : Bank) (j : Nat) : (s.setBank b x).trig j = s.trig j := rfl
@[simp] theorem State.setBank_capt (s : State) (b : Nat) (x : Bank) (j : Nat) : (s.setBank b x).capt j = s.capt j := rfl
@[simp] theorem State.setBank_group (s : State) (b : Nat) (x : Bank) (j : Nat) : (s.setBank b x).group j = s.group j := rfl
@[simp] theorem State.setBank_twin (s : State) (b : Nat) (x : Bank) (j : Nat) : (s.setBank b x).twin j = s.twin j := rfl
@[simp] theorem State.setBank_chan (s : State) (b : Nat) (x : Bank) (j : Nat) : (s.setBank b x).chan j = s.chan j := rfl
@[simp] theorem State.setBank_map (s : State) (b : Nat) (x : Bank) (j : Nat) : (s.setBank b x).map j = s.map j := rfl
@[simp] theorem State.setBank_pin (s : State) (b : Nat) (x : Bank) (j : Nat) : (s.setBank b x).pin j = s.pin j := rfl
@[simp] theorem State.setBank_bank_same (s : State) (b : Nat) (x : Bank) : (s.setBank b x).bank b = x := by
  simp [State.bank, State.setBank]
@[simp] theorem State.setBank_bank_ne (s : State) (b : Nat) (x : Bank) {j : Nat} (hne : j ≠ b) : (s.setBank b x).bank j = s.bank j := by
  simp [State.bank, State.setBank, hne]
@[simp] theorem State.setBank_setBank (s : State) (b : Nat) (x : Bank) (x' : Bank) : (s.setBank b x).setBank b x' = s.setBank b x' := by
  simp [State.setBank]
@[simp] theorem State.setBank_hewer (s : State) (b : Nat) (x : Bank) (j : Nat) : (s.setBank b x).hewer j = s.hewer j := rfl
@[simp] theorem State.setBank_flag (s : State) (b : Nat) (x : Bank) (j : Nat) : (s.setBank b x).flag j = s.flag j := rfl
@[simp] theorem State.setBank_branch (s : State) (b : Nat) (x : Bank) (j : Nat) : (s.setBank b x).branch j = s.branch j := rfl
@[simp] theorem State.setBank_pair (s : State) (b : Nat) (x : Bank) (j : Nat) : (s.setBank b x).pair j = s.pair j := rfl
@[simp] theorem State.setBank_region (s : State) (b : Nat) (x : Bank) (j : Nat) : (s.setBank b x).region j = s.region j := rfl
@[simp] theorem State.setHewer_ring (s : State) (h : Nat) (x : Hewer) : (s.setHewer h x).ring = s.ring := rfl
@[simp] theorem State.setHewer_sw (s : State) (h : Nat) (x : Hewer) : (s.setHewer h x).sw = s.sw := rfl
@[simp] theorem State.setHewer_queues (s : State) (h : Nat) (x : Hewer) : (s.setHewer h x).queues = s.queues := rfl
@[simp] theorem State.setHewer_pool (s : State) (h : Nat) (x : Hewer) : (s.setHewer h x).pool = s.pool := rfl
@[simp] theorem State.setHewer_time (s : State) (h : Nat) (x : Hewer) : (s.setHewer h x).time = s.time := rfl
@[simp] theorem State.setHewer_cycle (s : State) (h : Nat) (x : Hewer) : (s.setHewer h x).cycle = s.cycle := rfl
@[simp] theorem State.setHewer_can (s : State) (h : Nat) (x : Hewer) : (s.setHewer h x).can = s.can := rfl
@[simp] theorem State.setHewer_crush (s : State) (h : Nat) (x : Hewer) : (s.setHewer h x).crush = s.crush := rfl
@[simp] theorem State.setHewer_bridge (s : State) (h : Nat) (x : Hewer) : (s.setHewer h x).bridge = s.bridge := rfl
@[simp] theorem State.setHewer_parts (s : State) (h : Nat) (x : Hewer) : (s.setHewer h x).parts = s.parts := rfl
@[simp] theorem State.setHewer_faults (s : State) (h : Nat) (x : Hewer) : (s.setHewer h x).faults = s.faults := rfl
@[simp] theorem State.setHewer_boot (s : State) (h : Nat) (x : Hewer) : (s.setHewer h x).boot = s.boot := rfl
@[simp] theorem State.setHewer_ctl (s : State) (h : Nat) (x : Hewer) : (s.setHewer h x).ctl = s.ctl := rfl
@[simp] theorem State.setHewer_power (s : State) (h : Nat) (x : Hewer) : (s.setHewer h x).power = s.power := rfl
@[simp] theorem State.setHewer_assay (s : State) (h : Nat) (x : Hewer) : (s.setHewer h x).assay = s.assay := rfl
@[simp] theorem State.setHewer_island (s : State) (h : Nat) (x : Hewer) : (s.setHewer h x).island = s.island := rfl
@[simp] theorem State.setHewer_counters (s : State) (h : Nat) (x : Hewer) : (s.setHewer h x).counters = s.counters := rfl
@[simp] theorem State.setHewer_out (s : State) (h : Nat) (x : Hewer) : (s.setHewer h x).out = s.out := rfl
@[simp] theorem State.setHewer_fresh (s : State) (h : Nat) (x : Hewer) : (s.setHewer h x).fresh = s.fresh := rfl
@[simp] theorem State.setHewer_pending (s : State) (h : Nat) (x : Hewer) : (s.setHewer h x).pending = s.pending := rfl
@[simp] theorem State.setHewer_port (s : State) (h : Nat) (x : Hewer) (j : Nat) : (s.setHewer h x).port j = s.port j := rfl
@[simp] theorem State.setHewer_queue (s : State) (h : Nat) (x : Hewer) (j : Nat) : (s.setHewer h x).queue j = s.queue j := rfl
@[simp] theorem State.setHewer_part (s : State) (h : Nat) (x : Hewer) (j : Nat) : (s.setHewer h x).part j = s.part j := rfl
@[simp] theorem State.setHewer_source (s : State) (h : Nat) (x : Hewer) (j : Nat) : (s.setHewer h x).source j = s.source j := rfl
@[simp] theorem State.setHewer_att (s : State) (h : Nat) (x : Hewer) (j : Nat) : (s.setHewer h x).att j = s.att j := rfl
@[simp] theorem State.setHewer_host (s : State) (h : Nat) (x : Hewer) (j : Nat) : (s.setHewer h x).host j = s.host j := rfl
@[simp] theorem State.setHewer_dset (s : State) (h : Nat) (x : Hewer) (j : Nat) : (s.setHewer h x).dset j = s.dset j := rfl
@[simp] theorem State.setHewer_canary (s : State) (h : Nat) (x : Hewer) (j : Nat) : (s.setHewer h x).canary j = s.canary j := rfl
@[simp] theorem State.setHewer_sampler (s : State) (h : Nat) (x : Hewer) (j : Nat) : (s.setHewer h x).sampler j = s.sampler j := rfl
@[simp] theorem State.setHewer_stream (s : State) (h : Nat) (x : Hewer) (j : Nat) : (s.setHewer h x).stream j = s.stream j := rfl
@[simp] theorem State.setHewer_trig (s : State) (h : Nat) (x : Hewer) (j : Nat) : (s.setHewer h x).trig j = s.trig j := rfl
@[simp] theorem State.setHewer_capt (s : State) (h : Nat) (x : Hewer) (j : Nat) : (s.setHewer h x).capt j = s.capt j := rfl
@[simp] theorem State.setHewer_group (s : State) (h : Nat) (x : Hewer) (j : Nat) : (s.setHewer h x).group j = s.group j := rfl
@[simp] theorem State.setHewer_twin (s : State) (h : Nat) (x : Hewer) (j : Nat) : (s.setHewer h x).twin j = s.twin j := rfl
@[simp] theorem State.setHewer_chan (s : State) (h : Nat) (x : Hewer) (j : Nat) : (s.setHewer h x).chan j = s.chan j := rfl
@[simp] theorem State.setHewer_map (s : State) (h : Nat) (x : Hewer) (j : Nat) : (s.setHewer h x).map j = s.map j := rfl
@[simp] theorem State.setHewer_pin (s : State) (h : Nat) (x : Hewer) (j : Nat) : (s.setHewer h x).pin j = s.pin j := rfl
@[simp] theorem State.setHewer_bank (s : State) (h : Nat) (x : Hewer) (j : Nat) : (s.setHewer h x).bank j = s.bank j := rfl
@[simp] theorem State.setHewer_hewer_same (s : State) (h : Nat) (x : Hewer) : (s.setHewer h x).hewer h = x := by
  simp [State.hewer, State.setHewer]
@[simp] theorem State.setHewer_hewer_ne (s : State) (h : Nat) (x : Hewer) {j : Nat} (hne : j ≠ h) : (s.setHewer h x).hewer j = s.hewer j :=
    by
  simp [State.hewer, State.setHewer, hne]
@[simp] theorem State.setHewer_setHewer (s : State) (h : Nat) (x : Hewer) (x' : Hewer) : (s.setHewer h x).setHewer h x' = s.setHewer h x' :=
    by
  simp [State.setHewer]
@[simp] theorem State.setHewer_flag (s : State) (h : Nat) (x : Hewer) (j : Nat) : (s.setHewer h x).flag j = s.flag j := rfl
@[simp] theorem State.setHewer_branch (s : State) (h : Nat) (x : Hewer) (j : Nat) : (s.setHewer h x).branch j = s.branch j := rfl
@[simp] theorem State.setHewer_pair (s : State) (h : Nat) (x : Hewer) (j : Nat) : (s.setHewer h x).pair j = s.pair j := rfl
@[simp] theorem State.setHewer_region (s : State) (h : Nat) (x : Hewer) (j : Nat) : (s.setHewer h x).region j = s.region j := rfl
@[simp] theorem State.setFlag_ring (s : State) (f : Nat) (x : HFlag) : (s.setFlag f x).ring = s.ring := rfl
@[simp] theorem State.setFlag_sw (s : State) (f : Nat) (x : HFlag) : (s.setFlag f x).sw = s.sw := rfl
@[simp] theorem State.setFlag_queues (s : State) (f : Nat) (x : HFlag) : (s.setFlag f x).queues = s.queues := rfl
@[simp] theorem State.setFlag_pool (s : State) (f : Nat) (x : HFlag) : (s.setFlag f x).pool = s.pool := rfl
@[simp] theorem State.setFlag_time (s : State) (f : Nat) (x : HFlag) : (s.setFlag f x).time = s.time := rfl
@[simp] theorem State.setFlag_cycle (s : State) (f : Nat) (x : HFlag) : (s.setFlag f x).cycle = s.cycle := rfl
@[simp] theorem State.setFlag_can (s : State) (f : Nat) (x : HFlag) : (s.setFlag f x).can = s.can := rfl
@[simp] theorem State.setFlag_crush (s : State) (f : Nat) (x : HFlag) : (s.setFlag f x).crush = s.crush := rfl
@[simp] theorem State.setFlag_bridge (s : State) (f : Nat) (x : HFlag) : (s.setFlag f x).bridge = s.bridge := rfl
@[simp] theorem State.setFlag_parts (s : State) (f : Nat) (x : HFlag) : (s.setFlag f x).parts = s.parts := rfl
@[simp] theorem State.setFlag_faults (s : State) (f : Nat) (x : HFlag) : (s.setFlag f x).faults = s.faults := rfl
@[simp] theorem State.setFlag_boot (s : State) (f : Nat) (x : HFlag) : (s.setFlag f x).boot = s.boot := rfl
@[simp] theorem State.setFlag_ctl (s : State) (f : Nat) (x : HFlag) : (s.setFlag f x).ctl = s.ctl := rfl
@[simp] theorem State.setFlag_power (s : State) (f : Nat) (x : HFlag) : (s.setFlag f x).power = s.power := rfl
@[simp] theorem State.setFlag_assay (s : State) (f : Nat) (x : HFlag) : (s.setFlag f x).assay = s.assay := rfl
@[simp] theorem State.setFlag_island (s : State) (f : Nat) (x : HFlag) : (s.setFlag f x).island = s.island := rfl
@[simp] theorem State.setFlag_counters (s : State) (f : Nat) (x : HFlag) : (s.setFlag f x).counters = s.counters := rfl
@[simp] theorem State.setFlag_out (s : State) (f : Nat) (x : HFlag) : (s.setFlag f x).out = s.out := rfl
@[simp] theorem State.setFlag_fresh (s : State) (f : Nat) (x : HFlag) : (s.setFlag f x).fresh = s.fresh := rfl
@[simp] theorem State.setFlag_pending (s : State) (f : Nat) (x : HFlag) : (s.setFlag f x).pending = s.pending := rfl
@[simp] theorem State.setFlag_port (s : State) (f : Nat) (x : HFlag) (j : Nat) : (s.setFlag f x).port j = s.port j := rfl
@[simp] theorem State.setFlag_queue (s : State) (f : Nat) (x : HFlag) (j : Nat) : (s.setFlag f x).queue j = s.queue j := rfl
@[simp] theorem State.setFlag_part (s : State) (f : Nat) (x : HFlag) (j : Nat) : (s.setFlag f x).part j = s.part j := rfl
@[simp] theorem State.setFlag_source (s : State) (f : Nat) (x : HFlag) (j : Nat) : (s.setFlag f x).source j = s.source j := rfl
@[simp] theorem State.setFlag_att (s : State) (f : Nat) (x : HFlag) (j : Nat) : (s.setFlag f x).att j = s.att j := rfl
@[simp] theorem State.setFlag_host (s : State) (f : Nat) (x : HFlag) (j : Nat) : (s.setFlag f x).host j = s.host j := rfl
@[simp] theorem State.setFlag_dset (s : State) (f : Nat) (x : HFlag) (j : Nat) : (s.setFlag f x).dset j = s.dset j := rfl
@[simp] theorem State.setFlag_canary (s : State) (f : Nat) (x : HFlag) (j : Nat) : (s.setFlag f x).canary j = s.canary j := rfl
@[simp] theorem State.setFlag_sampler (s : State) (f : Nat) (x : HFlag) (j : Nat) : (s.setFlag f x).sampler j = s.sampler j := rfl
@[simp] theorem State.setFlag_stream (s : State) (f : Nat) (x : HFlag) (j : Nat) : (s.setFlag f x).stream j = s.stream j := rfl
@[simp] theorem State.setFlag_trig (s : State) (f : Nat) (x : HFlag) (j : Nat) : (s.setFlag f x).trig j = s.trig j := rfl
@[simp] theorem State.setFlag_capt (s : State) (f : Nat) (x : HFlag) (j : Nat) : (s.setFlag f x).capt j = s.capt j := rfl
@[simp] theorem State.setFlag_group (s : State) (f : Nat) (x : HFlag) (j : Nat) : (s.setFlag f x).group j = s.group j := rfl
@[simp] theorem State.setFlag_twin (s : State) (f : Nat) (x : HFlag) (j : Nat) : (s.setFlag f x).twin j = s.twin j := rfl
@[simp] theorem State.setFlag_chan (s : State) (f : Nat) (x : HFlag) (j : Nat) : (s.setFlag f x).chan j = s.chan j := rfl
@[simp] theorem State.setFlag_map (s : State) (f : Nat) (x : HFlag) (j : Nat) : (s.setFlag f x).map j = s.map j := rfl
@[simp] theorem State.setFlag_pin (s : State) (f : Nat) (x : HFlag) (j : Nat) : (s.setFlag f x).pin j = s.pin j := rfl
@[simp] theorem State.setFlag_bank (s : State) (f : Nat) (x : HFlag) (j : Nat) : (s.setFlag f x).bank j = s.bank j := rfl
@[simp] theorem State.setFlag_hewer (s : State) (f : Nat) (x : HFlag) (j : Nat) : (s.setFlag f x).hewer j = s.hewer j := rfl
@[simp] theorem State.setFlag_flag_same (s : State) (f : Nat) (x : HFlag) : (s.setFlag f x).flag f = x := by
  simp [State.flag, State.setFlag]
@[simp] theorem State.setFlag_flag_ne (s : State) (f : Nat) (x : HFlag) {j : Nat} (hne : j ≠ f) : (s.setFlag f x).flag j = s.flag j := by
  simp [State.flag, State.setFlag, hne]
@[simp] theorem State.setFlag_setFlag (s : State) (f : Nat) (x : HFlag) (x' : HFlag) : (s.setFlag f x).setFlag f x' = s.setFlag f x' := by
  simp [State.setFlag]
@[simp] theorem State.setFlag_branch (s : State) (f : Nat) (x : HFlag) (j : Nat) : (s.setFlag f x).branch j = s.branch j := rfl
@[simp] theorem State.setFlag_pair (s : State) (f : Nat) (x : HFlag) (j : Nat) : (s.setFlag f x).pair j = s.pair j := rfl
@[simp] theorem State.setFlag_region (s : State) (f : Nat) (x : HFlag) (j : Nat) : (s.setFlag f x).region j = s.region j := rfl
@[simp] theorem State.setBranch_ring (s : State) (b : Nat) (x : Branch) : (s.setBranch b x).ring = s.ring := rfl
@[simp] theorem State.setBranch_sw (s : State) (b : Nat) (x : Branch) : (s.setBranch b x).sw = s.sw := rfl
@[simp] theorem State.setBranch_queues (s : State) (b : Nat) (x : Branch) : (s.setBranch b x).queues = s.queues := rfl
@[simp] theorem State.setBranch_pool (s : State) (b : Nat) (x : Branch) : (s.setBranch b x).pool = s.pool := rfl
@[simp] theorem State.setBranch_time (s : State) (b : Nat) (x : Branch) : (s.setBranch b x).time = s.time := rfl
@[simp] theorem State.setBranch_cycle (s : State) (b : Nat) (x : Branch) : (s.setBranch b x).cycle = s.cycle := rfl
@[simp] theorem State.setBranch_can (s : State) (b : Nat) (x : Branch) : (s.setBranch b x).can = s.can := rfl
@[simp] theorem State.setBranch_crush (s : State) (b : Nat) (x : Branch) : (s.setBranch b x).crush = s.crush := rfl
@[simp] theorem State.setBranch_field (s : State) (b : Nat) (x : Branch) : (s.setBranch b x).field = s.field := rfl
@[simp] theorem State.setBranch_bridge (s : State) (b : Nat) (x : Branch) : (s.setBranch b x).bridge = s.bridge := rfl
@[simp] theorem State.setBranch_parts (s : State) (b : Nat) (x : Branch) : (s.setBranch b x).parts = s.parts := rfl
@[simp] theorem State.setBranch_faults (s : State) (b : Nat) (x : Branch) : (s.setBranch b x).faults = s.faults := rfl
@[simp] theorem State.setBranch_boot (s : State) (b : Nat) (x : Branch) : (s.setBranch b x).boot = s.boot := rfl
@[simp] theorem State.setBranch_ctl (s : State) (b : Nat) (x : Branch) : (s.setBranch b x).ctl = s.ctl := rfl
@[simp] theorem State.setBranch_assay (s : State) (b : Nat) (x : Branch) : (s.setBranch b x).assay = s.assay := rfl
@[simp] theorem State.setBranch_island (s : State) (b : Nat) (x : Branch) : (s.setBranch b x).island = s.island := rfl
@[simp] theorem State.setBranch_counters (s : State) (b : Nat) (x : Branch) : (s.setBranch b x).counters = s.counters := rfl
@[simp] theorem State.setBranch_out (s : State) (b : Nat) (x : Branch) : (s.setBranch b x).out = s.out := rfl
@[simp] theorem State.setBranch_fresh (s : State) (b : Nat) (x : Branch) : (s.setBranch b x).fresh = s.fresh := rfl
@[simp] theorem State.setBranch_pending (s : State) (b : Nat) (x : Branch) : (s.setBranch b x).pending = s.pending := rfl
@[simp] theorem State.setBranch_port (s : State) (b : Nat) (x : Branch) (j : Nat) : (s.setBranch b x).port j = s.port j := rfl
@[simp] theorem State.setBranch_queue (s : State) (b : Nat) (x : Branch) (j : Nat) : (s.setBranch b x).queue j = s.queue j := rfl
@[simp] theorem State.setBranch_part (s : State) (b : Nat) (x : Branch) (j : Nat) : (s.setBranch b x).part j = s.part j := rfl
@[simp] theorem State.setBranch_source (s : State) (b : Nat) (x : Branch) (j : Nat) : (s.setBranch b x).source j = s.source j := rfl
@[simp] theorem State.setBranch_att (s : State) (b : Nat) (x : Branch) (j : Nat) : (s.setBranch b x).att j = s.att j := rfl
@[simp] theorem State.setBranch_host (s : State) (b : Nat) (x : Branch) (j : Nat) : (s.setBranch b x).host j = s.host j := rfl
@[simp] theorem State.setBranch_dset (s : State) (b : Nat) (x : Branch) (j : Nat) : (s.setBranch b x).dset j = s.dset j := rfl
@[simp] theorem State.setBranch_canary (s : State) (b : Nat) (x : Branch) (j : Nat) : (s.setBranch b x).canary j = s.canary j := rfl
@[simp] theorem State.setBranch_sampler (s : State) (b : Nat) (x : Branch) (j : Nat) : (s.setBranch b x).sampler j = s.sampler j := rfl
@[simp] theorem State.setBranch_stream (s : State) (b : Nat) (x : Branch) (j : Nat) : (s.setBranch b x).stream j = s.stream j := rfl
@[simp] theorem State.setBranch_trig (s : State) (b : Nat) (x : Branch) (j : Nat) : (s.setBranch b x).trig j = s.trig j := rfl
@[simp] theorem State.setBranch_capt (s : State) (b : Nat) (x : Branch) (j : Nat) : (s.setBranch b x).capt j = s.capt j := rfl
@[simp] theorem State.setBranch_group (s : State) (b : Nat) (x : Branch) (j : Nat) : (s.setBranch b x).group j = s.group j := rfl
@[simp] theorem State.setBranch_twin (s : State) (b : Nat) (x : Branch) (j : Nat) : (s.setBranch b x).twin j = s.twin j := rfl
@[simp] theorem State.setBranch_chan (s : State) (b : Nat) (x : Branch) (j : Nat) : (s.setBranch b x).chan j = s.chan j := rfl
@[simp] theorem State.setBranch_map (s : State) (b : Nat) (x : Branch) (j : Nat) : (s.setBranch b x).map j = s.map j := rfl
@[simp] theorem State.setBranch_pin (s : State) (b : Nat) (x : Branch) (j : Nat) : (s.setBranch b x).pin j = s.pin j := rfl
@[simp] theorem State.setBranch_bank (s : State) (b : Nat) (x : Branch) (j : Nat) : (s.setBranch b x).bank j = s.bank j := rfl
@[simp] theorem State.setBranch_hewer (s : State) (b : Nat) (x : Branch) (j : Nat) : (s.setBranch b x).hewer j = s.hewer j := rfl
@[simp] theorem State.setBranch_flag (s : State) (b : Nat) (x : Branch) (j : Nat) : (s.setBranch b x).flag j = s.flag j := rfl
@[simp] theorem State.setBranch_branch_same (s : State) (b : Nat) (x : Branch) : (s.setBranch b x).branch b = x := by
  simp [State.branch, State.setBranch]
@[simp] theorem State.setBranch_branch_ne (s : State) (b : Nat) (x : Branch) {j : Nat} (hne : j ≠ b) :
    (s.setBranch b x).branch j = s.branch j := by
  simp [State.branch, State.setBranch, hne]
@[simp] theorem State.setBranch_setBranch (s : State) (b : Nat) (x : Branch) (x' : Branch) :
    (s.setBranch b x).setBranch b x' = s.setBranch b x' := by
  simp [State.setBranch]
@[simp] theorem State.setBranch_pair (s : State) (b : Nat) (x : Branch) (j : Nat) : (s.setBranch b x).pair j = s.pair j := rfl
@[simp] theorem State.setBranch_region (s : State) (b : Nat) (x : Branch) (j : Nat) : (s.setBranch b x).region j = s.region j := rfl
@[simp] theorem State.setPair_ring (s : State) (p : Nat) (x : Pair) : (s.setPair p x).ring = s.ring := rfl
@[simp] theorem State.setPair_sw (s : State) (p : Nat) (x : Pair) : (s.setPair p x).sw = s.sw := rfl
@[simp] theorem State.setPair_queues (s : State) (p : Nat) (x : Pair) : (s.setPair p x).queues = s.queues := rfl
@[simp] theorem State.setPair_pool (s : State) (p : Nat) (x : Pair) : (s.setPair p x).pool = s.pool := rfl
@[simp] theorem State.setPair_time (s : State) (p : Nat) (x : Pair) : (s.setPair p x).time = s.time := rfl
@[simp] theorem State.setPair_cycle (s : State) (p : Nat) (x : Pair) : (s.setPair p x).cycle = s.cycle := rfl
@[simp] theorem State.setPair_can (s : State) (p : Nat) (x : Pair) : (s.setPair p x).can = s.can := rfl
@[simp] theorem State.setPair_crush (s : State) (p : Nat) (x : Pair) : (s.setPair p x).crush = s.crush := rfl
@[simp] theorem State.setPair_field (s : State) (p : Nat) (x : Pair) : (s.setPair p x).field = s.field := rfl
@[simp] theorem State.setPair_bridge (s : State) (p : Nat) (x : Pair) : (s.setPair p x).bridge = s.bridge := rfl
@[simp] theorem State.setPair_parts (s : State) (p : Nat) (x : Pair) : (s.setPair p x).parts = s.parts := rfl
@[simp] theorem State.setPair_faults (s : State) (p : Nat) (x : Pair) : (s.setPair p x).faults = s.faults := rfl
@[simp] theorem State.setPair_boot (s : State) (p : Nat) (x : Pair) : (s.setPair p x).boot = s.boot := rfl
@[simp] theorem State.setPair_power (s : State) (p : Nat) (x : Pair) : (s.setPair p x).power = s.power := rfl
@[simp] theorem State.setPair_assay (s : State) (p : Nat) (x : Pair) : (s.setPair p x).assay = s.assay := rfl
@[simp] theorem State.setPair_island (s : State) (p : Nat) (x : Pair) : (s.setPair p x).island = s.island := rfl
@[simp] theorem State.setPair_counters (s : State) (p : Nat) (x : Pair) : (s.setPair p x).counters = s.counters := rfl
@[simp] theorem State.setPair_out (s : State) (p : Nat) (x : Pair) : (s.setPair p x).out = s.out := rfl
@[simp] theorem State.setPair_fresh (s : State) (p : Nat) (x : Pair) : (s.setPair p x).fresh = s.fresh := rfl
@[simp] theorem State.setPair_pending (s : State) (p : Nat) (x : Pair) : (s.setPair p x).pending = s.pending := rfl
@[simp] theorem State.setPair_port (s : State) (p : Nat) (x : Pair) (j : Nat) : (s.setPair p x).port j = s.port j := rfl
@[simp] theorem State.setPair_queue (s : State) (p : Nat) (x : Pair) (j : Nat) : (s.setPair p x).queue j = s.queue j := rfl
@[simp] theorem State.setPair_part (s : State) (p : Nat) (x : Pair) (j : Nat) : (s.setPair p x).part j = s.part j := rfl
@[simp] theorem State.setPair_source (s : State) (p : Nat) (x : Pair) (j : Nat) : (s.setPair p x).source j = s.source j := rfl
@[simp] theorem State.setPair_att (s : State) (p : Nat) (x : Pair) (j : Nat) : (s.setPair p x).att j = s.att j := rfl
@[simp] theorem State.setPair_host (s : State) (p : Nat) (x : Pair) (j : Nat) : (s.setPair p x).host j = s.host j := rfl
@[simp] theorem State.setPair_dset (s : State) (p : Nat) (x : Pair) (j : Nat) : (s.setPair p x).dset j = s.dset j := rfl
@[simp] theorem State.setPair_canary (s : State) (p : Nat) (x : Pair) (j : Nat) : (s.setPair p x).canary j = s.canary j := rfl
@[simp] theorem State.setPair_sampler (s : State) (p : Nat) (x : Pair) (j : Nat) : (s.setPair p x).sampler j = s.sampler j := rfl
@[simp] theorem State.setPair_stream (s : State) (p : Nat) (x : Pair) (j : Nat) : (s.setPair p x).stream j = s.stream j := rfl
@[simp] theorem State.setPair_trig (s : State) (p : Nat) (x : Pair) (j : Nat) : (s.setPair p x).trig j = s.trig j := rfl
@[simp] theorem State.setPair_capt (s : State) (p : Nat) (x : Pair) (j : Nat) : (s.setPair p x).capt j = s.capt j := rfl
@[simp] theorem State.setPair_group (s : State) (p : Nat) (x : Pair) (j : Nat) : (s.setPair p x).group j = s.group j := rfl
@[simp] theorem State.setPair_twin (s : State) (p : Nat) (x : Pair) (j : Nat) : (s.setPair p x).twin j = s.twin j := rfl
@[simp] theorem State.setPair_chan (s : State) (p : Nat) (x : Pair) (j : Nat) : (s.setPair p x).chan j = s.chan j := rfl
@[simp] theorem State.setPair_map (s : State) (p : Nat) (x : Pair) (j : Nat) : (s.setPair p x).map j = s.map j := rfl
@[simp] theorem State.setPair_pin (s : State) (p : Nat) (x : Pair) (j : Nat) : (s.setPair p x).pin j = s.pin j := rfl
@[simp] theorem State.setPair_bank (s : State) (p : Nat) (x : Pair) (j : Nat) : (s.setPair p x).bank j = s.bank j := rfl
@[simp] theorem State.setPair_hewer (s : State) (p : Nat) (x : Pair) (j : Nat) : (s.setPair p x).hewer j = s.hewer j := rfl
@[simp] theorem State.setPair_flag (s : State) (p : Nat) (x : Pair) (j : Nat) : (s.setPair p x).flag j = s.flag j := rfl
@[simp] theorem State.setPair_branch (s : State) (p : Nat) (x : Pair) (j : Nat) : (s.setPair p x).branch j = s.branch j := rfl
@[simp] theorem State.setPair_pair_same (s : State) (p : Nat) (x : Pair) : (s.setPair p x).pair p = x := by
  simp [State.pair, State.setPair]
@[simp] theorem State.setPair_pair_ne (s : State) (p : Nat) (x : Pair) {j : Nat} (hne : j ≠ p) : (s.setPair p x).pair j = s.pair j := by
  simp [State.pair, State.setPair, hne]
@[simp] theorem State.setPair_setPair (s : State) (p : Nat) (x : Pair) (x' : Pair) : (s.setPair p x).setPair p x' = s.setPair p x' := by
  simp [State.setPair]
@[simp] theorem State.setPair_region (s : State) (p : Nat) (x : Pair) (j : Nat) : (s.setPair p x).region j = s.region j := rfl
@[simp] theorem State.setBoot_boot (s : State) (x : Boot) : (s.setBoot x).boot = x := rfl
@[simp] theorem State.setBoot_ring (s : State) (x : Boot) : (s.setBoot x).ring = s.ring := rfl
@[simp] theorem State.setBoot_sw (s : State) (x : Boot) : (s.setBoot x).sw = s.sw := rfl
@[simp] theorem State.setBoot_queues (s : State) (x : Boot) : (s.setBoot x).queues = s.queues := rfl
@[simp] theorem State.setBoot_pool (s : State) (x : Boot) : (s.setBoot x).pool = s.pool := rfl
@[simp] theorem State.setBoot_time (s : State) (x : Boot) : (s.setBoot x).time = s.time := rfl
@[simp] theorem State.setBoot_cycle (s : State) (x : Boot) : (s.setBoot x).cycle = s.cycle := rfl
@[simp] theorem State.setBoot_can (s : State) (x : Boot) : (s.setBoot x).can = s.can := rfl
@[simp] theorem State.setBoot_crush (s : State) (x : Boot) : (s.setBoot x).crush = s.crush := rfl
@[simp] theorem State.setBoot_field (s : State) (x : Boot) : (s.setBoot x).field = s.field := rfl
@[simp] theorem State.setBoot_bridge (s : State) (x : Boot) : (s.setBoot x).bridge = s.bridge := rfl
@[simp] theorem State.setBoot_parts (s : State) (x : Boot) : (s.setBoot x).parts = s.parts := rfl
@[simp] theorem State.setBoot_faults (s : State) (x : Boot) : (s.setBoot x).faults = s.faults := rfl
@[simp] theorem State.setBoot_ctl (s : State) (x : Boot) : (s.setBoot x).ctl = s.ctl := rfl
@[simp] theorem State.setBoot_power (s : State) (x : Boot) : (s.setBoot x).power = s.power := rfl
@[simp] theorem State.setBoot_assay (s : State) (x : Boot) : (s.setBoot x).assay = s.assay := rfl
@[simp] theorem State.setBoot_island (s : State) (x : Boot) : (s.setBoot x).island = s.island := rfl
@[simp] theorem State.setBoot_counters (s : State) (x : Boot) : (s.setBoot x).counters = s.counters := rfl
@[simp] theorem State.setBoot_out (s : State) (x : Boot) : (s.setBoot x).out = s.out := rfl
@[simp] theorem State.setBoot_fresh (s : State) (x : Boot) : (s.setBoot x).fresh = s.fresh := rfl
@[simp] theorem State.setBoot_pending (s : State) (x : Boot) : (s.setBoot x).pending = s.pending := rfl
@[simp] theorem State.setBoot_port (s : State) (x : Boot) (j : Nat) : (s.setBoot x).port j = s.port j := rfl
@[simp] theorem State.setBoot_queue (s : State) (x : Boot) (j : Nat) : (s.setBoot x).queue j = s.queue j := rfl
@[simp] theorem State.setBoot_part (s : State) (x : Boot) (j : Nat) : (s.setBoot x).part j = s.part j := rfl
@[simp] theorem State.setBoot_source (s : State) (x : Boot) (j : Nat) : (s.setBoot x).source j = s.source j := rfl
@[simp] theorem State.setBoot_att (s : State) (x : Boot) (j : Nat) : (s.setBoot x).att j = s.att j := rfl
@[simp] theorem State.setBoot_host (s : State) (x : Boot) (j : Nat) : (s.setBoot x).host j = s.host j := rfl
@[simp] theorem State.setBoot_dset (s : State) (x : Boot) (j : Nat) : (s.setBoot x).dset j = s.dset j := rfl
@[simp] theorem State.setBoot_canary (s : State) (x : Boot) (j : Nat) : (s.setBoot x).canary j = s.canary j := rfl
@[simp] theorem State.setBoot_sampler (s : State) (x : Boot) (j : Nat) : (s.setBoot x).sampler j = s.sampler j := rfl
@[simp] theorem State.setBoot_stream (s : State) (x : Boot) (j : Nat) : (s.setBoot x).stream j = s.stream j := rfl
@[simp] theorem State.setBoot_trig (s : State) (x : Boot) (j : Nat) : (s.setBoot x).trig j = s.trig j := rfl
@[simp] theorem State.setBoot_capt (s : State) (x : Boot) (j : Nat) : (s.setBoot x).capt j = s.capt j := rfl
@[simp] theorem State.setBoot_group (s : State) (x : Boot) (j : Nat) : (s.setBoot x).group j = s.group j := rfl
@[simp] theorem State.setBoot_twin (s : State) (x : Boot) (j : Nat) : (s.setBoot x).twin j = s.twin j := rfl
@[simp] theorem State.setBoot_chan (s : State) (x : Boot) (j : Nat) : (s.setBoot x).chan j = s.chan j := rfl
@[simp] theorem State.setBoot_map (s : State) (x : Boot) (j : Nat) : (s.setBoot x).map j = s.map j := rfl
@[simp] theorem State.setBoot_bank (s : State) (x : Boot) (j : Nat) : (s.setBoot x).bank j = s.bank j := rfl
@[simp] theorem State.setBoot_hewer (s : State) (x : Boot) (j : Nat) : (s.setBoot x).hewer j = s.hewer j := rfl
@[simp] theorem State.setBoot_flag (s : State) (x : Boot) (j : Nat) : (s.setBoot x).flag j = s.flag j := rfl
@[simp] theorem State.setBoot_branch (s : State) (x : Boot) (j : Nat) : (s.setBoot x).branch j = s.branch j := rfl
@[simp] theorem State.setBoot_pair (s : State) (x : Boot) (j : Nat) : (s.setBoot x).pair j = s.pair j := rfl
@[simp] theorem State.setBoot_region (s : State) (x : Boot) (j : Nat) : (s.setBoot x).region j = s.region j := rfl
@[simp] theorem State.count_ring (s : State) (c : CtrId) (i : Nat) (n : Nat) : (s.count c i n).ring = s.ring := rfl
@[simp] theorem State.count_sw (s : State) (c : CtrId) (i : Nat) (n : Nat) : (s.count c i n).sw = s.sw := rfl
@[simp] theorem State.count_queues (s : State) (c : CtrId) (i : Nat) (n : Nat) : (s.count c i n).queues = s.queues := rfl
@[simp] theorem State.count_pool (s : State) (c : CtrId) (i : Nat) (n : Nat) : (s.count c i n).pool = s.pool := rfl
@[simp] theorem State.count_time (s : State) (c : CtrId) (i : Nat) (n : Nat) : (s.count c i n).time = s.time := rfl
@[simp] theorem State.count_cycle (s : State) (c : CtrId) (i : Nat) (n : Nat) : (s.count c i n).cycle = s.cycle := rfl
@[simp] theorem State.count_can (s : State) (c : CtrId) (i : Nat) (n : Nat) : (s.count c i n).can = s.can := rfl
@[simp] theorem State.count_crush (s : State) (c : CtrId) (i : Nat) (n : Nat) : (s.count c i n).crush = s.crush := rfl
@[simp] theorem State.count_field (s : State) (c : CtrId) (i : Nat) (n : Nat) : (s.count c i n).field = s.field := rfl
@[simp] theorem State.count_bridge (s : State) (c : CtrId) (i : Nat) (n : Nat) : (s.count c i n).bridge = s.bridge := rfl
@[simp] theorem State.count_parts (s : State) (c : CtrId) (i : Nat) (n : Nat) : (s.count c i n).parts = s.parts := rfl
@[simp] theorem State.count_faults (s : State) (c : CtrId) (i : Nat) (n : Nat) : (s.count c i n).faults = s.faults := rfl
@[simp] theorem State.count_boot (s : State) (c : CtrId) (i : Nat) (n : Nat) : (s.count c i n).boot = s.boot := rfl
@[simp] theorem State.count_ctl (s : State) (c : CtrId) (i : Nat) (n : Nat) : (s.count c i n).ctl = s.ctl := rfl
@[simp] theorem State.count_power (s : State) (c : CtrId) (i : Nat) (n : Nat) : (s.count c i n).power = s.power := rfl
@[simp] theorem State.count_assay (s : State) (c : CtrId) (i : Nat) (n : Nat) : (s.count c i n).assay = s.assay := rfl
@[simp] theorem State.count_island (s : State) (c : CtrId) (i : Nat) (n : Nat) : (s.count c i n).island = s.island := rfl
@[simp] theorem State.count_out (s : State) (c : CtrId) (i : Nat) (n : Nat) : (s.count c i n).out = s.out := rfl
@[simp] theorem State.count_fresh (s : State) (c : CtrId) (i : Nat) (n : Nat) : (s.count c i n).fresh = s.fresh := rfl
@[simp] theorem State.count_pending (s : State) (c : CtrId) (i : Nat) (n : Nat) : (s.count c i n).pending = s.pending := rfl
@[simp] theorem State.count_port (s : State) (c : CtrId) (i : Nat) (n : Nat) (j : Nat) : (s.count c i n).port j = s.port j := rfl
@[simp] theorem State.count_queue (s : State) (c : CtrId) (i : Nat) (n : Nat) (j : Nat) : (s.count c i n).queue j = s.queue j := rfl
@[simp] theorem State.count_part (s : State) (c : CtrId) (i : Nat) (n : Nat) (j : Nat) : (s.count c i n).part j = s.part j := rfl
@[simp] theorem State.count_source (s : State) (c : CtrId) (i : Nat) (n : Nat) (j : Nat) : (s.count c i n).source j = s.source j := rfl
@[simp] theorem State.count_att (s : State) (c : CtrId) (i : Nat) (n : Nat) (j : Nat) : (s.count c i n).att j = s.att j := rfl
@[simp] theorem State.count_host (s : State) (c : CtrId) (i : Nat) (n : Nat) (j : Nat) : (s.count c i n).host j = s.host j := rfl
@[simp] theorem State.count_dset (s : State) (c : CtrId) (i : Nat) (n : Nat) (j : Nat) : (s.count c i n).dset j = s.dset j := rfl
@[simp] theorem State.count_canary (s : State) (c : CtrId) (i : Nat) (n : Nat) (j : Nat) : (s.count c i n).canary j = s.canary j := rfl
@[simp] theorem State.count_sampler (s : State) (c : CtrId) (i : Nat) (n : Nat) (j : Nat) : (s.count c i n).sampler j = s.sampler j := rfl
@[simp] theorem State.count_stream (s : State) (c : CtrId) (i : Nat) (n : Nat) (j : Nat) : (s.count c i n).stream j = s.stream j := rfl
@[simp] theorem State.count_trig (s : State) (c : CtrId) (i : Nat) (n : Nat) (j : Nat) : (s.count c i n).trig j = s.trig j := rfl
@[simp] theorem State.count_capt (s : State) (c : CtrId) (i : Nat) (n : Nat) (j : Nat) : (s.count c i n).capt j = s.capt j := rfl
@[simp] theorem State.count_group (s : State) (c : CtrId) (i : Nat) (n : Nat) (j : Nat) : (s.count c i n).group j = s.group j := rfl
@[simp] theorem State.count_twin (s : State) (c : CtrId) (i : Nat) (n : Nat) (j : Nat) : (s.count c i n).twin j = s.twin j := rfl
@[simp] theorem State.count_chan (s : State) (c : CtrId) (i : Nat) (n : Nat) (j : Nat) : (s.count c i n).chan j = s.chan j := rfl
@[simp] theorem State.count_map (s : State) (c : CtrId) (i : Nat) (n : Nat) (j : Nat) : (s.count c i n).map j = s.map j := rfl
@[simp] theorem State.count_pin (s : State) (c : CtrId) (i : Nat) (n : Nat) (j : Nat) : (s.count c i n).pin j = s.pin j := rfl
@[simp] theorem State.count_bank (s : State) (c : CtrId) (i : Nat) (n : Nat) (j : Nat) : (s.count c i n).bank j = s.bank j := rfl
@[simp] theorem State.count_hewer (s : State) (c : CtrId) (i : Nat) (n : Nat) (j : Nat) : (s.count c i n).hewer j = s.hewer j := rfl
@[simp] theorem State.count_flag (s : State) (c : CtrId) (i : Nat) (n : Nat) (j : Nat) : (s.count c i n).flag j = s.flag j := rfl
@[simp] theorem State.count_branch (s : State) (c : CtrId) (i : Nat) (n : Nat) (j : Nat) : (s.count c i n).branch j = s.branch j := rfl
@[simp] theorem State.count_pair (s : State) (c : CtrId) (i : Nat) (n : Nat) (j : Nat) : (s.count c i n).pair j = s.pair j := rfl
@[simp] theorem State.count_region (s : State) (c : CtrId) (i : Nat) (n : Nat) (j : Nat) : (s.count c i n).region j = s.region j := rfl
@[simp] theorem State.countIf_ring (s : State) (b : Bool) (c : CtrId) (i : Nat) : (s.countIf b c i).ring = s.ring := by cases b <;> rfl
@[simp] theorem State.countIf_sw (s : State) (b : Bool) (c : CtrId) (i : Nat) : (s.countIf b c i).sw = s.sw := by cases b <;> rfl
@[simp] theorem State.countIf_queues (s : State) (b : Bool) (c : CtrId) (i : Nat) : (s.countIf b c i).queues = s.queues :=
    by cases b <;> rfl
@[simp] theorem State.countIf_pool (s : State) (b : Bool) (c : CtrId) (i : Nat) : (s.countIf b c i).pool = s.pool := by cases b <;> rfl
@[simp] theorem State.countIf_time (s : State) (b : Bool) (c : CtrId) (i : Nat) : (s.countIf b c i).time = s.time := by cases b <;> rfl
@[simp] theorem State.countIf_cycle (s : State) (b : Bool) (c : CtrId) (i : Nat) : (s.countIf b c i).cycle = s.cycle := by cases b <;> rfl
@[simp] theorem State.countIf_can (s : State) (b : Bool) (c : CtrId) (i : Nat) : (s.countIf b c i).can = s.can := by cases b <;> rfl
@[simp] theorem State.countIf_crush (s : State) (b : Bool) (c : CtrId) (i : Nat) : (s.countIf b c i).crush = s.crush := by cases b <;> rfl
@[simp] theorem State.countIf_field (s : State) (b : Bool) (c : CtrId) (i : Nat) : (s.countIf b c i).field = s.field := by cases b <;> rfl
@[simp] theorem State.countIf_bridge (s : State) (b : Bool) (c : CtrId) (i : Nat) : (s.countIf b c i).bridge = s.bridge :=
    by cases b <;> rfl
@[simp] theorem State.countIf_parts (s : State) (b : Bool) (c : CtrId) (i : Nat) : (s.countIf b c i).parts = s.parts := by cases b <;> rfl
@[simp] theorem State.countIf_faults (s : State) (b : Bool) (c : CtrId) (i : Nat) : (s.countIf b c i).faults = s.faults :=
    by cases b <;> rfl
@[simp] theorem State.countIf_boot (s : State) (b : Bool) (c : CtrId) (i : Nat) : (s.countIf b c i).boot = s.boot := by cases b <;> rfl
@[simp] theorem State.countIf_ctl (s : State) (b : Bool) (c : CtrId) (i : Nat) : (s.countIf b c i).ctl = s.ctl := by cases b <;> rfl
@[simp] theorem State.countIf_power (s : State) (b : Bool) (c : CtrId) (i : Nat) : (s.countIf b c i).power = s.power := by cases b <;> rfl
@[simp] theorem State.countIf_assay (s : State) (b : Bool) (c : CtrId) (i : Nat) : (s.countIf b c i).assay = s.assay := by cases b <;> rfl
@[simp] theorem State.countIf_island (s : State) (b : Bool) (c : CtrId) (i : Nat) : (s.countIf b c i).island = s.island :=
    by cases b <;> rfl
@[simp] theorem State.countIf_out (s : State) (b : Bool) (c : CtrId) (i : Nat) : (s.countIf b c i).out = s.out := by cases b <;> rfl
@[simp] theorem State.countIf_fresh (s : State) (b : Bool) (c : CtrId) (i : Nat) : (s.countIf b c i).fresh = s.fresh := by cases b <;> rfl
@[simp] theorem State.countIf_pending (s : State) (b : Bool) (c : CtrId) (i : Nat) : (s.countIf b c i).pending = s.pending :=
    by cases b <;> rfl
@[simp] theorem State.countIf_port (s : State) (b : Bool) (c : CtrId) (i : Nat) (j : Nat) : (s.countIf b c i).port j = s.port j :=
    by cases b <;> rfl
@[simp] theorem State.countIf_queue (s : State) (b : Bool) (c : CtrId) (i : Nat) (j : Nat) : (s.countIf b c i).queue j = s.queue j :=
    by cases b <;> rfl
@[simp] theorem State.countIf_part (s : State) (b : Bool) (c : CtrId) (i : Nat) (j : Nat) : (s.countIf b c i).part j = s.part j :=
    by cases b <;> rfl
@[simp] theorem State.countIf_source (s : State) (b : Bool) (c : CtrId) (i : Nat) (j : Nat) : (s.countIf b c i).source j = s.source j :=
    by cases b <;> rfl
@[simp] theorem State.countIf_att (s : State) (b : Bool) (c : CtrId) (i : Nat) (j : Nat) : (s.countIf b c i).att j = s.att j :=
    by cases b <;> rfl
@[simp] theorem State.countIf_host (s : State) (b : Bool) (c : CtrId) (i : Nat) (j : Nat) : (s.countIf b c i).host j = s.host j :=
    by cases b <;> rfl
@[simp] theorem State.countIf_dset (s : State) (b : Bool) (c : CtrId) (i : Nat) (j : Nat) : (s.countIf b c i).dset j = s.dset j :=
    by cases b <;> rfl
@[simp] theorem State.countIf_canary (s : State) (b : Bool) (c : CtrId) (i : Nat) (j : Nat) : (s.countIf b c i).canary j = s.canary j :=
    by cases b <;> rfl
@[simp] theorem State.countIf_sampler (s : State) (b : Bool) (c : CtrId) (i : Nat) (j : Nat) : (s.countIf b c i).sampler j = s.sampler j :=
    by cases b <;> rfl
@[simp] theorem State.countIf_stream (s : State) (b : Bool) (c : CtrId) (i : Nat) (j : Nat) : (s.countIf b c i).stream j = s.stream j :=
    by cases b <;> rfl
@[simp] theorem State.countIf_trig (s : State) (b : Bool) (c : CtrId) (i : Nat) (j : Nat) : (s.countIf b c i).trig j = s.trig j :=
    by cases b <;> rfl
@[simp] theorem State.countIf_capt (s : State) (b : Bool) (c : CtrId) (i : Nat) (j : Nat) : (s.countIf b c i).capt j = s.capt j :=
    by cases b <;> rfl
@[simp] theorem State.countIf_group (s : State) (b : Bool) (c : CtrId) (i : Nat) (j : Nat) : (s.countIf b c i).group j = s.group j :=
    by cases b <;> rfl
@[simp] theorem State.countIf_twin (s : State) (b : Bool) (c : CtrId) (i : Nat) (j : Nat) : (s.countIf b c i).twin j = s.twin j :=
    by cases b <;> rfl
@[simp] theorem State.countIf_chan (s : State) (b : Bool) (c : CtrId) (i : Nat) (j : Nat) : (s.countIf b c i).chan j = s.chan j :=
    by cases b <;> rfl
@[simp] theorem State.countIf_map (s : State) (b : Bool) (c : CtrId) (i : Nat) (j : Nat) : (s.countIf b c i).map j = s.map j :=
    by cases b <;> rfl
@[simp] theorem State.countIf_pin (s : State) (b : Bool) (c : CtrId) (i : Nat) (j : Nat) : (s.countIf b c i).pin j = s.pin j :=
    by cases b <;> rfl
@[simp] theorem State.countIf_bank (s : State) (b : Bool) (c : CtrId) (i : Nat) (j : Nat) : (s.countIf b c i).bank j = s.bank j :=
    by cases b <;> rfl
@[simp] theorem State.countIf_hewer (s : State) (b : Bool) (c : CtrId) (i : Nat) (j : Nat) : (s.countIf b c i).hewer j = s.hewer j :=
    by cases b <;> rfl
@[simp] theorem State.countIf_flag (s : State) (b : Bool) (c : CtrId) (i : Nat) (j : Nat) : (s.countIf b c i).flag j = s.flag j :=
    by cases b <;> rfl
@[simp] theorem State.countIf_branch (s : State) (b : Bool) (c : CtrId) (i : Nat) (j : Nat) : (s.countIf b c i).branch j = s.branch j :=
    by cases b <;> rfl
@[simp] theorem State.countIf_pair (s : State) (b : Bool) (c : CtrId) (i : Nat) (j : Nat) : (s.countIf b c i).pair j = s.pair j :=
    by cases b <;> rfl
@[simp] theorem State.countIf_region (s : State) (b : Bool) (c : CtrId) (i : Nat) (j : Nat) : (s.countIf b c i).region j = s.region j :=
    by cases b <;> rfl
@[simp] theorem State.clearCtr_ring (s : State) (c : CtrId) (i : Nat) : (s.clearCtr c i).ring = s.ring := rfl
@[simp] theorem State.clearCtr_sw (s : State) (c : CtrId) (i : Nat) : (s.clearCtr c i).sw = s.sw := rfl
@[simp] theorem State.clearCtr_queues (s : State) (c : CtrId) (i : Nat) : (s.clearCtr c i).queues = s.queues := rfl
@[simp] theorem State.clearCtr_pool (s : State) (c : CtrId) (i : Nat) : (s.clearCtr c i).pool = s.pool := rfl
@[simp] theorem State.clearCtr_time (s : State) (c : CtrId) (i : Nat) : (s.clearCtr c i).time = s.time := rfl
@[simp] theorem State.clearCtr_cycle (s : State) (c : CtrId) (i : Nat) : (s.clearCtr c i).cycle = s.cycle := rfl
@[simp] theorem State.clearCtr_can (s : State) (c : CtrId) (i : Nat) : (s.clearCtr c i).can = s.can := rfl
@[simp] theorem State.clearCtr_crush (s : State) (c : CtrId) (i : Nat) : (s.clearCtr c i).crush = s.crush := rfl
@[simp] theorem State.clearCtr_field (s : State) (c : CtrId) (i : Nat) : (s.clearCtr c i).field = s.field := rfl
@[simp] theorem State.clearCtr_bridge (s : State) (c : CtrId) (i : Nat) : (s.clearCtr c i).bridge = s.bridge := rfl
@[simp] theorem State.clearCtr_parts (s : State) (c : CtrId) (i : Nat) : (s.clearCtr c i).parts = s.parts := rfl
@[simp] theorem State.clearCtr_faults (s : State) (c : CtrId) (i : Nat) : (s.clearCtr c i).faults = s.faults := rfl
@[simp] theorem State.clearCtr_boot (s : State) (c : CtrId) (i : Nat) : (s.clearCtr c i).boot = s.boot := rfl
@[simp] theorem State.clearCtr_ctl (s : State) (c : CtrId) (i : Nat) : (s.clearCtr c i).ctl = s.ctl := rfl
@[simp] theorem State.clearCtr_power (s : State) (c : CtrId) (i : Nat) : (s.clearCtr c i).power = s.power := rfl
@[simp] theorem State.clearCtr_assay (s : State) (c : CtrId) (i : Nat) : (s.clearCtr c i).assay = s.assay := rfl
@[simp] theorem State.clearCtr_island (s : State) (c : CtrId) (i : Nat) : (s.clearCtr c i).island = s.island := rfl
@[simp] theorem State.clearCtr_out (s : State) (c : CtrId) (i : Nat) : (s.clearCtr c i).out = s.out := rfl
@[simp] theorem State.clearCtr_fresh (s : State) (c : CtrId) (i : Nat) : (s.clearCtr c i).fresh = s.fresh := rfl
@[simp] theorem State.clearCtr_pending (s : State) (c : CtrId) (i : Nat) : (s.clearCtr c i).pending = s.pending := rfl
@[simp] theorem State.clearCtr_port (s : State) (c : CtrId) (i : Nat) (j : Nat) : (s.clearCtr c i).port j = s.port j := rfl
@[simp] theorem State.clearCtr_queue (s : State) (c : CtrId) (i : Nat) (j : Nat) : (s.clearCtr c i).queue j = s.queue j := rfl
@[simp] theorem State.clearCtr_part (s : State) (c : CtrId) (i : Nat) (j : Nat) : (s.clearCtr c i).part j = s.part j := rfl
@[simp] theorem State.clearCtr_source (s : State) (c : CtrId) (i : Nat) (j : Nat) : (s.clearCtr c i).source j = s.source j := rfl
@[simp] theorem State.clearCtr_att (s : State) (c : CtrId) (i : Nat) (j : Nat) : (s.clearCtr c i).att j = s.att j := rfl
@[simp] theorem State.clearCtr_host (s : State) (c : CtrId) (i : Nat) (j : Nat) : (s.clearCtr c i).host j = s.host j := rfl
@[simp] theorem State.clearCtr_dset (s : State) (c : CtrId) (i : Nat) (j : Nat) : (s.clearCtr c i).dset j = s.dset j := rfl
@[simp] theorem State.clearCtr_canary (s : State) (c : CtrId) (i : Nat) (j : Nat) : (s.clearCtr c i).canary j = s.canary j := rfl
@[simp] theorem State.clearCtr_sampler (s : State) (c : CtrId) (i : Nat) (j : Nat) : (s.clearCtr c i).sampler j = s.sampler j := rfl
@[simp] theorem State.clearCtr_stream (s : State) (c : CtrId) (i : Nat) (j : Nat) : (s.clearCtr c i).stream j = s.stream j := rfl
@[simp] theorem State.clearCtr_trig (s : State) (c : CtrId) (i : Nat) (j : Nat) : (s.clearCtr c i).trig j = s.trig j := rfl
@[simp] theorem State.clearCtr_capt (s : State) (c : CtrId) (i : Nat) (j : Nat) : (s.clearCtr c i).capt j = s.capt j := rfl
@[simp] theorem State.clearCtr_group (s : State) (c : CtrId) (i : Nat) (j : Nat) : (s.clearCtr c i).group j = s.group j := rfl
@[simp] theorem State.clearCtr_twin (s : State) (c : CtrId) (i : Nat) (j : Nat) : (s.clearCtr c i).twin j = s.twin j := rfl
@[simp] theorem State.clearCtr_chan (s : State) (c : CtrId) (i : Nat) (j : Nat) : (s.clearCtr c i).chan j = s.chan j := rfl
@[simp] theorem State.clearCtr_map (s : State) (c : CtrId) (i : Nat) (j : Nat) : (s.clearCtr c i).map j = s.map j := rfl
@[simp] theorem State.clearCtr_pin (s : State) (c : CtrId) (i : Nat) (j : Nat) : (s.clearCtr c i).pin j = s.pin j := rfl
@[simp] theorem State.clearCtr_bank (s : State) (c : CtrId) (i : Nat) (j : Nat) : (s.clearCtr c i).bank j = s.bank j := rfl
@[simp] theorem State.clearCtr_hewer (s : State) (c : CtrId) (i : Nat) (j : Nat) : (s.clearCtr c i).hewer j = s.hewer j := rfl
@[simp] theorem State.clearCtr_flag (s : State) (c : CtrId) (i : Nat) (j : Nat) : (s.clearCtr c i).flag j = s.flag j := rfl
@[simp] theorem State.clearCtr_branch (s : State) (c : CtrId) (i : Nat) (j : Nat) : (s.clearCtr c i).branch j = s.branch j := rfl
@[simp] theorem State.clearCtr_pair (s : State) (c : CtrId) (i : Nat) (j : Nat) : (s.clearCtr c i).pair j = s.pair j := rfl
@[simp] theorem State.clearCtr_region (s : State) (c : CtrId) (i : Nat) (j : Nat) : (s.clearCtr c i).region j = s.region j := rfl
@[simp] theorem State.emit_ring (s : State) (o : Output) : (s.emit o).ring = s.ring := rfl
@[simp] theorem State.emit_sw (s : State) (o : Output) : (s.emit o).sw = s.sw := rfl
@[simp] theorem State.emit_queues (s : State) (o : Output) : (s.emit o).queues = s.queues := rfl
@[simp] theorem State.emit_pool (s : State) (o : Output) : (s.emit o).pool = s.pool := rfl
@[simp] theorem State.emit_time (s : State) (o : Output) : (s.emit o).time = s.time := rfl
@[simp] theorem State.emit_cycle (s : State) (o : Output) : (s.emit o).cycle = s.cycle := rfl
@[simp] theorem State.emit_can (s : State) (o : Output) : (s.emit o).can = s.can := rfl
@[simp] theorem State.emit_crush (s : State) (o : Output) : (s.emit o).crush = s.crush := rfl
@[simp] theorem State.emit_field (s : State) (o : Output) : (s.emit o).field = s.field := rfl
@[simp] theorem State.emit_bridge (s : State) (o : Output) : (s.emit o).bridge = s.bridge := rfl
@[simp] theorem State.emit_parts (s : State) (o : Output) : (s.emit o).parts = s.parts := rfl
@[simp] theorem State.emit_faults (s : State) (o : Output) : (s.emit o).faults = s.faults := rfl
@[simp] theorem State.emit_boot (s : State) (o : Output) : (s.emit o).boot = s.boot := rfl
@[simp] theorem State.emit_ctl (s : State) (o : Output) : (s.emit o).ctl = s.ctl := rfl
@[simp] theorem State.emit_power (s : State) (o : Output) : (s.emit o).power = s.power := rfl
@[simp] theorem State.emit_assay (s : State) (o : Output) : (s.emit o).assay = s.assay := rfl
@[simp] theorem State.emit_island (s : State) (o : Output) : (s.emit o).island = s.island := rfl
@[simp] theorem State.emit_counters (s : State) (o : Output) : (s.emit o).counters = s.counters := rfl
@[simp] theorem State.emit_fresh (s : State) (o : Output) : (s.emit o).fresh = s.fresh := rfl
@[simp] theorem State.emit_pending (s : State) (o : Output) : (s.emit o).pending = s.pending := rfl
@[simp] theorem State.emit_port (s : State) (o : Output) (j : Nat) : (s.emit o).port j = s.port j := rfl
@[simp] theorem State.emit_queue (s : State) (o : Output) (j : Nat) : (s.emit o).queue j = s.queue j := rfl
@[simp] theorem State.emit_part (s : State) (o : Output) (j : Nat) : (s.emit o).part j = s.part j := rfl
@[simp] theorem State.emit_source (s : State) (o : Output) (j : Nat) : (s.emit o).source j = s.source j := rfl
@[simp] theorem State.emit_att (s : State) (o : Output) (j : Nat) : (s.emit o).att j = s.att j := rfl
@[simp] theorem State.emit_host (s : State) (o : Output) (j : Nat) : (s.emit o).host j = s.host j := rfl
@[simp] theorem State.emit_dset (s : State) (o : Output) (j : Nat) : (s.emit o).dset j = s.dset j := rfl
@[simp] theorem State.emit_canary (s : State) (o : Output) (j : Nat) : (s.emit o).canary j = s.canary j := rfl
@[simp] theorem State.emit_sampler (s : State) (o : Output) (j : Nat) : (s.emit o).sampler j = s.sampler j := rfl
@[simp] theorem State.emit_stream (s : State) (o : Output) (j : Nat) : (s.emit o).stream j = s.stream j := rfl
@[simp] theorem State.emit_trig (s : State) (o : Output) (j : Nat) : (s.emit o).trig j = s.trig j := rfl
@[simp] theorem State.emit_capt (s : State) (o : Output) (j : Nat) : (s.emit o).capt j = s.capt j := rfl
@[simp] theorem State.emit_group (s : State) (o : Output) (j : Nat) : (s.emit o).group j = s.group j := rfl
@[simp] theorem State.emit_twin (s : State) (o : Output) (j : Nat) : (s.emit o).twin j = s.twin j := rfl
@[simp] theorem State.emit_chan (s : State) (o : Output) (j : Nat) : (s.emit o).chan j = s.chan j := rfl
@[simp] theorem State.emit_map (s : State) (o : Output) (j : Nat) : (s.emit o).map j = s.map j := rfl
@[simp] theorem State.emit_pin (s : State) (o : Output) (j : Nat) : (s.emit o).pin j = s.pin j := rfl
@[simp] theorem State.emit_bank (s : State) (o : Output) (j : Nat) : (s.emit o).bank j = s.bank j := rfl
@[simp] theorem State.emit_hewer (s : State) (o : Output) (j : Nat) : (s.emit o).hewer j = s.hewer j := rfl
@[simp] theorem State.emit_flag (s : State) (o : Output) (j : Nat) : (s.emit o).flag j = s.flag j := rfl
@[simp] theorem State.emit_branch (s : State) (o : Output) (j : Nat) : (s.emit o).branch j = s.branch j := rfl
@[simp] theorem State.emit_pair (s : State) (o : Output) (j : Nat) : (s.emit o).pair j = s.pair j := rfl
@[simp] theorem State.emit_region (s : State) (o : Output) (j : Nat) : (s.emit o).region j = s.region j := rfl
@[simp] theorem State.setRegion_ring (s : State) (r : Nat) (x : Region) : (s.setRegion r x).ring = s.ring := rfl
@[simp] theorem State.setRegion_sw (s : State) (r : Nat) (x : Region) : (s.setRegion r x).sw = s.sw := rfl
@[simp] theorem State.setRegion_queues (s : State) (r : Nat) (x : Region) : (s.setRegion r x).queues = s.queues := rfl
@[simp] theorem State.setRegion_pool (s : State) (r : Nat) (x : Region) : (s.setRegion r x).pool = s.pool := rfl
@[simp] theorem State.setRegion_time (s : State) (r : Nat) (x : Region) : (s.setRegion r x).time = s.time := rfl
@[simp] theorem State.setRegion_cycle (s : State) (r : Nat) (x : Region) : (s.setRegion r x).cycle = s.cycle := rfl
@[simp] theorem State.setRegion_can (s : State) (r : Nat) (x : Region) : (s.setRegion r x).can = s.can := rfl
@[simp] theorem State.setRegion_crush (s : State) (r : Nat) (x : Region) : (s.setRegion r x).crush = s.crush := rfl
@[simp] theorem State.setRegion_field (s : State) (r : Nat) (x : Region) : (s.setRegion r x).field = s.field := rfl
@[simp] theorem State.setRegion_bridge (s : State) (r : Nat) (x : Region) : (s.setRegion r x).bridge = s.bridge := rfl
@[simp] theorem State.setRegion_parts (s : State) (r : Nat) (x : Region) : (s.setRegion r x).parts = s.parts := rfl
@[simp] theorem State.setRegion_faults (s : State) (r : Nat) (x : Region) : (s.setRegion r x).faults = s.faults := rfl
@[simp] theorem State.setRegion_boot (s : State) (r : Nat) (x : Region) : (s.setRegion r x).boot = s.boot := rfl
@[simp] theorem State.setRegion_ctl (s : State) (r : Nat) (x : Region) : (s.setRegion r x).ctl = s.ctl := rfl
@[simp] theorem State.setRegion_power (s : State) (r : Nat) (x : Region) : (s.setRegion r x).power = s.power := rfl
@[simp] theorem State.setRegion_assay (s : State) (r : Nat) (x : Region) : (s.setRegion r x).assay = s.assay := rfl
@[simp] theorem State.setRegion_counters (s : State) (r : Nat) (x : Region) : (s.setRegion r x).counters = s.counters := rfl
@[simp] theorem State.setRegion_out (s : State) (r : Nat) (x : Region) : (s.setRegion r x).out = s.out := rfl
@[simp] theorem State.setRegion_fresh (s : State) (r : Nat) (x : Region) : (s.setRegion r x).fresh = s.fresh := rfl
@[simp] theorem State.setRegion_pending (s : State) (r : Nat) (x : Region) : (s.setRegion r x).pending = s.pending := rfl
@[simp] theorem State.setRegion_port (s : State) (r : Nat) (x : Region) (j : Nat) : (s.setRegion r x).port j = s.port j := rfl
@[simp] theorem State.setRegion_queue (s : State) (r : Nat) (x : Region) (j : Nat) : (s.setRegion r x).queue j = s.queue j := rfl
@[simp] theorem State.setRegion_part (s : State) (r : Nat) (x : Region) (j : Nat) : (s.setRegion r x).part j = s.part j := rfl
@[simp] theorem State.setRegion_source (s : State) (r : Nat) (x : Region) (j : Nat) : (s.setRegion r x).source j = s.source j := rfl
@[simp] theorem State.setRegion_att (s : State) (r : Nat) (x : Region) (j : Nat) : (s.setRegion r x).att j = s.att j := rfl
@[simp] theorem State.setRegion_host (s : State) (r : Nat) (x : Region) (j : Nat) : (s.setRegion r x).host j = s.host j := rfl
@[simp] theorem State.setRegion_dset (s : State) (r : Nat) (x : Region) (j : Nat) : (s.setRegion r x).dset j = s.dset j := rfl
@[simp] theorem State.setRegion_canary (s : State) (r : Nat) (x : Region) (j : Nat) : (s.setRegion r x).canary j = s.canary j := rfl
@[simp] theorem State.setRegion_sampler (s : State) (r : Nat) (x : Region) (j : Nat) : (s.setRegion r x).sampler j = s.sampler j := rfl
@[simp] theorem State.setRegion_stream (s : State) (r : Nat) (x : Region) (j : Nat) : (s.setRegion r x).stream j = s.stream j := rfl
@[simp] theorem State.setRegion_trig (s : State) (r : Nat) (x : Region) (j : Nat) : (s.setRegion r x).trig j = s.trig j := rfl
@[simp] theorem State.setRegion_capt (s : State) (r : Nat) (x : Region) (j : Nat) : (s.setRegion r x).capt j = s.capt j := rfl
@[simp] theorem State.setRegion_group (s : State) (r : Nat) (x : Region) (j : Nat) : (s.setRegion r x).group j = s.group j := rfl
@[simp] theorem State.setRegion_twin (s : State) (r : Nat) (x : Region) (j : Nat) : (s.setRegion r x).twin j = s.twin j := rfl
@[simp] theorem State.setRegion_chan (s : State) (r : Nat) (x : Region) (j : Nat) : (s.setRegion r x).chan j = s.chan j := rfl
@[simp] theorem State.setRegion_map (s : State) (r : Nat) (x : Region) (j : Nat) : (s.setRegion r x).map j = s.map j := rfl
@[simp] theorem State.setRegion_pin (s : State) (r : Nat) (x : Region) (j : Nat) : (s.setRegion r x).pin j = s.pin j := rfl
@[simp] theorem State.setRegion_bank (s : State) (r : Nat) (x : Region) (j : Nat) : (s.setRegion r x).bank j = s.bank j := rfl
@[simp] theorem State.setRegion_hewer (s : State) (r : Nat) (x : Region) (j : Nat) : (s.setRegion r x).hewer j = s.hewer j := rfl
@[simp] theorem State.setRegion_flag (s : State) (r : Nat) (x : Region) (j : Nat) : (s.setRegion r x).flag j = s.flag j := rfl
@[simp] theorem State.setRegion_branch (s : State) (r : Nat) (x : Region) (j : Nat) : (s.setRegion r x).branch j = s.branch j := rfl
@[simp] theorem State.setRegion_pair (s : State) (r : Nat) (x : Region) (j : Nat) : (s.setRegion r x).pair j = s.pair j := rfl
@[simp] theorem State.setRegion_region_same (s : State) (r : Nat) (x : Region) : (s.setRegion r x).region r = x := by
  simp [State.region, State.setRegion]
@[simp] theorem State.setRegion_region_ne (s : State) (r : Nat) (x : Region) {j : Nat} (hne : j ≠ r) :
    (s.setRegion r x).region j = s.region j := by
  simp [State.region, State.setRegion, hne]
@[simp] theorem State.setRegion_setRegion (s : State) (r : Nat) (x : Region) (x' : Region) :
    (s.setRegion r x).setRegion r x' = s.setRegion r x' := by
  simp [State.setRegion]
@[simp] theorem State.setRing_ring (s : State) (x : RingNode) : (s.setRing x).ring = x := rfl
@[simp] theorem State.setRing_sw (s : State) (x : RingNode) : (s.setRing x).sw = s.sw := rfl
@[simp] theorem State.setRing_queues (s : State) (x : RingNode) : (s.setRing x).queues = s.queues := rfl
@[simp] theorem State.setRing_pool (s : State) (x : RingNode) : (s.setRing x).pool = s.pool := rfl
@[simp] theorem State.setRing_time (s : State) (x : RingNode) : (s.setRing x).time = s.time := rfl
@[simp] theorem State.setRing_cycle (s : State) (x : RingNode) : (s.setRing x).cycle = s.cycle := rfl
@[simp] theorem State.setRing_can (s : State) (x : RingNode) : (s.setRing x).can = s.can := rfl
@[simp] theorem State.setRing_crush (s : State) (x : RingNode) : (s.setRing x).crush = s.crush := rfl
@[simp] theorem State.setRing_field (s : State) (x : RingNode) : (s.setRing x).field = s.field := rfl
@[simp] theorem State.setRing_bridge (s : State) (x : RingNode) : (s.setRing x).bridge = s.bridge := rfl
@[simp] theorem State.setRing_parts (s : State) (x : RingNode) : (s.setRing x).parts = s.parts := rfl
@[simp] theorem State.setRing_faults (s : State) (x : RingNode) : (s.setRing x).faults = s.faults := rfl
@[simp] theorem State.setRing_boot (s : State) (x : RingNode) : (s.setRing x).boot = s.boot := rfl
@[simp] theorem State.setRing_ctl (s : State) (x : RingNode) : (s.setRing x).ctl = s.ctl := rfl
@[simp] theorem State.setRing_power (s : State) (x : RingNode) : (s.setRing x).power = s.power := rfl
@[simp] theorem State.setRing_assay (s : State) (x : RingNode) : (s.setRing x).assay = s.assay := rfl
@[simp] theorem State.setRing_island (s : State) (x : RingNode) : (s.setRing x).island = s.island := rfl
@[simp] theorem State.setRing_counters (s : State) (x : RingNode) : (s.setRing x).counters = s.counters := rfl
@[simp] theorem State.setRing_out (s : State) (x : RingNode) : (s.setRing x).out = s.out := rfl
@[simp] theorem State.setRing_fresh (s : State) (x : RingNode) : (s.setRing x).fresh = s.fresh := rfl
@[simp] theorem State.setRing_pending (s : State) (x : RingNode) : (s.setRing x).pending = s.pending := rfl
@[simp] theorem State.setRing_port (s : State) (x : RingNode) (j : Nat) : (s.setRing x).port j = s.port j := rfl
@[simp] theorem State.setRing_queue (s : State) (x : RingNode) (j : Nat) : (s.setRing x).queue j = s.queue j := rfl
@[simp] theorem State.setRing_part (s : State) (x : RingNode) (j : Nat) : (s.setRing x).part j = s.part j := rfl
@[simp] theorem State.setRing_source (s : State) (x : RingNode) (j : Nat) : (s.setRing x).source j = s.source j := rfl
@[simp] theorem State.setRing_att (s : State) (x : RingNode) (j : Nat) : (s.setRing x).att j = s.att j := rfl
@[simp] theorem State.setRing_host (s : State) (x : RingNode) (j : Nat) : (s.setRing x).host j = s.host j := rfl
@[simp] theorem State.setRing_dset (s : State) (x : RingNode) (j : Nat) : (s.setRing x).dset j = s.dset j := rfl
@[simp] theorem State.setRing_canary (s : State) (x : RingNode) (j : Nat) : (s.setRing x).canary j = s.canary j := rfl
@[simp] theorem State.setRing_sampler (s : State) (x : RingNode) (j : Nat) : (s.setRing x).sampler j = s.sampler j := rfl
@[simp] theorem State.setRing_stream (s : State) (x : RingNode) (j : Nat) : (s.setRing x).stream j = s.stream j := rfl
@[simp] theorem State.setRing_trig (s : State) (x : RingNode) (j : Nat) : (s.setRing x).trig j = s.trig j := rfl
@[simp] theorem State.setRing_capt (s : State) (x : RingNode) (j : Nat) : (s.setRing x).capt j = s.capt j := rfl
@[simp] theorem State.setRing_group (s : State) (x : RingNode) (j : Nat) : (s.setRing x).group j = s.group j := rfl
@[simp] theorem State.setRing_twin (s : State) (x : RingNode) (j : Nat) : (s.setRing x).twin j = s.twin j := rfl
@[simp] theorem State.setRing_chan (s : State) (x : RingNode) (j : Nat) : (s.setRing x).chan j = s.chan j := rfl
@[simp] theorem State.setRing_map (s : State) (x : RingNode) (j : Nat) : (s.setRing x).map j = s.map j := rfl
@[simp] theorem State.setRing_pin (s : State) (x : RingNode) (j : Nat) : (s.setRing x).pin j = s.pin j := rfl
@[simp] theorem State.setRing_bank (s : State) (x : RingNode) (j : Nat) : (s.setRing x).bank j = s.bank j := rfl
@[simp] theorem State.setRing_hewer (s : State) (x : RingNode) (j : Nat) : (s.setRing x).hewer j = s.hewer j := rfl
@[simp] theorem State.setRing_flag (s : State) (x : RingNode) (j : Nat) : (s.setRing x).flag j = s.flag j := rfl
@[simp] theorem State.setRing_branch (s : State) (x : RingNode) (j : Nat) : (s.setRing x).branch j = s.branch j := rfl
@[simp] theorem State.setRing_pair (s : State) (x : RingNode) (j : Nat) : (s.setRing x).pair j = s.pair j := rfl
@[simp] theorem State.setRing_region (s : State) (x : RingNode) (j : Nat) : (s.setRing x).region j = s.region j := rfl
@[simp] theorem State.setDom_ring (s : State) (d : Nat) (x : Domain) : (s.setDom d x).ring = s.ring := rfl
@[simp] theorem State.setDom_sw (s : State) (d : Nat) (x : Domain) : (s.setDom d x).sw = s.sw := rfl
@[simp] theorem State.setDom_queues (s : State) (d : Nat) (x : Domain) : (s.setDom d x).queues = s.queues := rfl
@[simp] theorem State.setDom_pool (s : State) (d : Nat) (x : Domain) : (s.setDom d x).pool = s.pool := rfl
@[simp] theorem State.setDom_cycle (s : State) (d : Nat) (x : Domain) : (s.setDom d x).cycle = s.cycle := rfl
@[simp] theorem State.setDom_can (s : State) (d : Nat) (x : Domain) : (s.setDom d x).can = s.can := rfl
@[simp] theorem State.setDom_crush (s : State) (d : Nat) (x : Domain) : (s.setDom d x).crush = s.crush := rfl
@[simp] theorem State.setDom_field (s : State) (d : Nat) (x : Domain) : (s.setDom d x).field = s.field := rfl
@[simp] theorem State.setDom_bridge (s : State) (d : Nat) (x : Domain) : (s.setDom d x).bridge = s.bridge := rfl
@[simp] theorem State.setDom_parts (s : State) (d : Nat) (x : Domain) : (s.setDom d x).parts = s.parts := rfl
@[simp] theorem State.setDom_faults (s : State) (d : Nat) (x : Domain) : (s.setDom d x).faults = s.faults := rfl
@[simp] theorem State.setDom_boot (s : State) (d : Nat) (x : Domain) : (s.setDom d x).boot = s.boot := rfl
@[simp] theorem State.setDom_ctl (s : State) (d : Nat) (x : Domain) : (s.setDom d x).ctl = s.ctl := rfl
@[simp] theorem State.setDom_power (s : State) (d : Nat) (x : Domain) : (s.setDom d x).power = s.power := rfl
@[simp] theorem State.setDom_assay (s : State) (d : Nat) (x : Domain) : (s.setDom d x).assay = s.assay := rfl
@[simp] theorem State.setDom_island (s : State) (d : Nat) (x : Domain) : (s.setDom d x).island = s.island := rfl
@[simp] theorem State.setDom_counters (s : State) (d : Nat) (x : Domain) : (s.setDom d x).counters = s.counters := rfl
@[simp] theorem State.setDom_out (s : State) (d : Nat) (x : Domain) : (s.setDom d x).out = s.out := rfl
@[simp] theorem State.setDom_fresh (s : State) (d : Nat) (x : Domain) : (s.setDom d x).fresh = s.fresh := rfl
@[simp] theorem State.setDom_pending (s : State) (d : Nat) (x : Domain) : (s.setDom d x).pending = s.pending := rfl
@[simp] theorem State.setDom_port (s : State) (d : Nat) (x : Domain) (j : Nat) : (s.setDom d x).port j = s.port j := rfl
@[simp] theorem State.setDom_queue (s : State) (d : Nat) (x : Domain) (j : Nat) : (s.setDom d x).queue j = s.queue j := rfl
@[simp] theorem State.setDom_part (s : State) (d : Nat) (x : Domain) (j : Nat) : (s.setDom d x).part j = s.part j := rfl
@[simp] theorem State.setDom_source (s : State) (d : Nat) (x : Domain) (j : Nat) : (s.setDom d x).source j = s.source j := rfl
@[simp] theorem State.setDom_att (s : State) (d : Nat) (x : Domain) (j : Nat) : (s.setDom d x).att j = s.att j := rfl
@[simp] theorem State.setDom_host (s : State) (d : Nat) (x : Domain) (j : Nat) : (s.setDom d x).host j = s.host j := rfl
@[simp] theorem State.setDom_dset (s : State) (d : Nat) (x : Domain) (j : Nat) : (s.setDom d x).dset j = s.dset j := rfl
@[simp] theorem State.setDom_canary (s : State) (d : Nat) (x : Domain) (j : Nat) : (s.setDom d x).canary j = s.canary j := rfl
@[simp] theorem State.setDom_sampler (s : State) (d : Nat) (x : Domain) (j : Nat) : (s.setDom d x).sampler j = s.sampler j := rfl
@[simp] theorem State.setDom_stream (s : State) (d : Nat) (x : Domain) (j : Nat) : (s.setDom d x).stream j = s.stream j := rfl
@[simp] theorem State.setDom_group (s : State) (d : Nat) (x : Domain) (j : Nat) : (s.setDom d x).group j = s.group j := rfl
@[simp] theorem State.setDom_twin (s : State) (d : Nat) (x : Domain) (j : Nat) : (s.setDom d x).twin j = s.twin j := rfl
@[simp] theorem State.setDom_chan (s : State) (d : Nat) (x : Domain) (j : Nat) : (s.setDom d x).chan j = s.chan j := rfl
@[simp] theorem State.setDom_map (s : State) (d : Nat) (x : Domain) (j : Nat) : (s.setDom d x).map j = s.map j := rfl
@[simp] theorem State.setDom_pin (s : State) (d : Nat) (x : Domain) (j : Nat) : (s.setDom d x).pin j = s.pin j := rfl
@[simp] theorem State.setDom_bank (s : State) (d : Nat) (x : Domain) (j : Nat) : (s.setDom d x).bank j = s.bank j := rfl
@[simp] theorem State.setDom_hewer (s : State) (d : Nat) (x : Domain) (j : Nat) : (s.setDom d x).hewer j = s.hewer j := rfl
@[simp] theorem State.setDom_flag (s : State) (d : Nat) (x : Domain) (j : Nat) : (s.setDom d x).flag j = s.flag j := rfl
@[simp] theorem State.setDom_branch (s : State) (d : Nat) (x : Domain) (j : Nat) : (s.setDom d x).branch j = s.branch j := rfl
@[simp] theorem State.setDom_pair (s : State) (d : Nat) (x : Domain) (j : Nat) : (s.setDom d x).pair j = s.pair j := rfl
@[simp] theorem State.setDom_region (s : State) (d : Nat) (x : Domain) (j : Nat) : (s.setDom d x).region j = s.region j := rfl
@[simp] theorem State.setTime_time (s : State) (t : Time) : (s.setTime t).time = t := rfl
@[simp] theorem State.setTime_ring (s : State) (t : Time) : (s.setTime t).ring = s.ring := rfl
@[simp] theorem State.setTime_sw (s : State) (t : Time) : (s.setTime t).sw = s.sw := rfl
@[simp] theorem State.setTime_queues (s : State) (t : Time) : (s.setTime t).queues = s.queues := rfl
@[simp] theorem State.setTime_pool (s : State) (t : Time) : (s.setTime t).pool = s.pool := rfl
@[simp] theorem State.setTime_cycle (s : State) (t : Time) : (s.setTime t).cycle = s.cycle := rfl
@[simp] theorem State.setTime_can (s : State) (t : Time) : (s.setTime t).can = s.can := rfl
@[simp] theorem State.setTime_crush (s : State) (t : Time) : (s.setTime t).crush = s.crush := rfl
@[simp] theorem State.setTime_field (s : State) (t : Time) : (s.setTime t).field = s.field := rfl
@[simp] theorem State.setTime_bridge (s : State) (t : Time) : (s.setTime t).bridge = s.bridge := rfl
@[simp] theorem State.setTime_parts (s : State) (t : Time) : (s.setTime t).parts = s.parts := rfl
@[simp] theorem State.setTime_faults (s : State) (t : Time) : (s.setTime t).faults = s.faults := rfl
@[simp] theorem State.setTime_boot (s : State) (t : Time) : (s.setTime t).boot = s.boot := rfl
@[simp] theorem State.setTime_ctl (s : State) (t : Time) : (s.setTime t).ctl = s.ctl := rfl
@[simp] theorem State.setTime_power (s : State) (t : Time) : (s.setTime t).power = s.power := rfl
@[simp] theorem State.setTime_assay (s : State) (t : Time) : (s.setTime t).assay = s.assay := rfl
@[simp] theorem State.setTime_island (s : State) (t : Time) : (s.setTime t).island = s.island := rfl
@[simp] theorem State.setTime_counters (s : State) (t : Time) : (s.setTime t).counters = s.counters := rfl
@[simp] theorem State.setTime_out (s : State) (t : Time) : (s.setTime t).out = s.out := rfl
@[simp] theorem State.setTime_fresh (s : State) (t : Time) : (s.setTime t).fresh = s.fresh := rfl
@[simp] theorem State.setTime_pending (s : State) (t : Time) : (s.setTime t).pending = s.pending := rfl
@[simp] theorem State.setTime_port (s : State) (t : Time) (j : Nat) : (s.setTime t).port j = s.port j := rfl
@[simp] theorem State.setTime_queue (s : State) (t : Time) (j : Nat) : (s.setTime t).queue j = s.queue j := rfl
@[simp] theorem State.setTime_part (s : State) (t : Time) (j : Nat) : (s.setTime t).part j = s.part j := rfl
@[simp] theorem State.setTime_source (s : State) (t : Time) (j : Nat) : (s.setTime t).source j = s.source j := rfl
@[simp] theorem State.setTime_att (s : State) (t : Time) (j : Nat) : (s.setTime t).att j = s.att j := rfl
@[simp] theorem State.setTime_host (s : State) (t : Time) (j : Nat) : (s.setTime t).host j = s.host j := rfl
@[simp] theorem State.setTime_dset (s : State) (t : Time) (j : Nat) : (s.setTime t).dset j = s.dset j := rfl
@[simp] theorem State.setTime_canary (s : State) (t : Time) (j : Nat) : (s.setTime t).canary j = s.canary j := rfl
@[simp] theorem State.setTime_sampler (s : State) (t : Time) (j : Nat) : (s.setTime t).sampler j = s.sampler j := rfl
@[simp] theorem State.setTime_stream (s : State) (t : Time) (j : Nat) : (s.setTime t).stream j = s.stream j := rfl
@[simp] theorem State.setTime_group (s : State) (t : Time) (j : Nat) : (s.setTime t).group j = s.group j := rfl
@[simp] theorem State.setTime_twin (s : State) (t : Time) (j : Nat) : (s.setTime t).twin j = s.twin j := rfl
@[simp] theorem State.setTime_chan (s : State) (t : Time) (j : Nat) : (s.setTime t).chan j = s.chan j := rfl
@[simp] theorem State.setTime_map (s : State) (t : Time) (j : Nat) : (s.setTime t).map j = s.map j := rfl
@[simp] theorem State.setTime_pin (s : State) (t : Time) (j : Nat) : (s.setTime t).pin j = s.pin j := rfl
@[simp] theorem State.setTime_bank (s : State) (t : Time) (j : Nat) : (s.setTime t).bank j = s.bank j := rfl
@[simp] theorem State.setTime_hewer (s : State) (t : Time) (j : Nat) : (s.setTime t).hewer j = s.hewer j := rfl
@[simp] theorem State.setTime_flag (s : State) (t : Time) (j : Nat) : (s.setTime t).flag j = s.flag j := rfl
@[simp] theorem State.setTime_branch (s : State) (t : Time) (j : Nat) : (s.setTime t).branch j = s.branch j := rfl
@[simp] theorem State.setTime_pair (s : State) (t : Time) (j : Nat) : (s.setTime t).pair j = s.pair j := rfl
@[simp] theorem State.setTime_region (s : State) (t : Time) (j : Nat) : (s.setTime t).region j = s.region j := rfl

end Sys2Proof.Machine
end

