-- ==== Sys2Proof/Laws/Access.lean ====
section
/-!
SUPPORT. What an access row answers, once for all of them: the access counts where it arrived, and then acts as its partition.
-/
namespace Sys2Proof.Machine

@[simp] theorem State.arrived_of_none (s : State) (a : Acc) (c : CtrId) (h : a.att = none) : s.arrived a c = s := by
  simp [State.arrived, h]

@[simp] theorem State.arrived_of_some (s : State) (a : Acc) (c : CtrId) (n : Nat) (h : a.att = some n) : s.arrived a c = s.count c n := by
  simp [State.arrived, h]

/-- An access that arrives changes nothing but a counter. -/
theorem State.arrived_frame (s : State) (a : Acc) (c : CtrId) : { s.arrived a c with counters := s.counters } = s := by
  unfold State.arrived; split <;> rfl

@[simp] theorem State.arrived_part (s : State) (a : Acc) (c : CtrId) (p : Nat) : (s.arrived a c).part p = s.part p := by
  unfold State.arrived; split <;> rfl
@[simp] theorem State.arrived_queue (s : State) (a : Acc) (c : CtrId) (q : Nat) : (s.arrived a c).queue q = s.queue q := by
  unfold State.arrived; split <;> rfl
@[simp] theorem State.arrived_att (s : State) (a : Acc) (c : CtrId) (n : Nat) : (s.arrived a c).att n = s.att n := by
  unfold State.arrived; split <;> rfl
@[simp] theorem State.arrived_owns (s : State) (a : Acc) (c : CtrId) (p k n : Nat) : (s.arrived a c).owns p k n = s.owns p k n := by
  unfold State.arrived; split <;> rfl
@[simp] theorem State.arrived_isOpen (s : State) (a : Acc) (c : CtrId) (p : Nat) : (s.arrived a c).isOpen p = s.isOpen p := by
  unfold State.arrived; split <;> rfl
@[simp] theorem State.arrived_who (s : State) (a b : Acc) (c : CtrId) : (s.arrived a c).who b = s.who b := by
  unfold State.arrived; split <;> rfl
@[simp] theorem State.arrived_pool (s : State) (a : Acc) (c : CtrId) : (s.arrived a c).pool = s.pool := by
  unfold State.arrived; split <;> rfl
@[simp] theorem State.arrived_boot (s : State) (a : Acc) (c : CtrId) : (s.arrived a c).boot = s.boot := by
  unfold State.arrived; split <;> rfl
@[simp] theorem State.arrived_work (s : State) (a : Acc) (c : CtrId) : (s.arrived a c).work = s.work := by
  unfold State.arrived; split <;> rfl
@[simp] theorem State.arrived_cycle (s : State) (a : Acc) (c : CtrId) : (s.arrived a c).cycle = s.cycle := by
  unfold State.arrived; split <;> rfl

/-- A write by an open partition counts where it arrived and has its effect. -/
theorem accessAs_open {a : Acc} {s : State} {p : Nat} (f : State → Nat → Ans) (hw : s.who a = some p) (ho : s.isOpen p = true) :
    accessAs a s f = f (s.arrived a cAttWrites) p := by
  simp [accessAs, hw, ho]

/-- The same for a space that rescue station mode does not reach. -/
theorem accessIn_open {a : Acc} {s : State} {p : Nat} (f : State → Nat → Ans) (hr : s.boot.rescue = false) (hw : s.who a = some p)
    (ho : s.isOpen p = true) : accessIn a s f = f (s.arrived a cAttWrites) p := by
  simp [accessIn, hr, accessAs_open f hw ho]

/-- A write by a partition that is not open, or through an attachment without one, changes at most a counter. -/
theorem accessAs_closed {a : Acc} {s : State} (f : State → Nat → Ans) (h : ∀ p, s.who a = some p → s.isOpen p = false) :
    (accessAs a s f).s = s ∨ (accessAs a s f).s = s.arrived a cAttWrites := by
  unfold accessAs
  split
  · exact .inl rfl
  · next p hp => simp [h p hp, ansNr]

end Sys2Proof.Machine
end

