-- ==== Sys2Proof/Laws/Mailbox.lean ====
section
/-!
SUPPORT. What the row of a mailbox command answers, once for all of them, and what a completion leaves.
-/
namespace Sys2Proof.Machine

/-- Reserving the completion slot changes CQ_WAIT of the partition and nothing else. -/
theorem begins_part (s : State) (p : Nat) : (begins s p).part p = { s.part p with cqWait := false } := by simp [begins]

theorem changing_of_isNone {i : CmdInfo} {d : Desc} {s : State} (h : precheck i d s = none) : precheck i d (begins s d.part) = none := by
  simp only [precheck, begins_part] at h ⊢
  exact h

/-- Where both service pairs run, a command is handed to one that runs it. -/
theorem handed_begins {s : State} {p : Nat} (svc : Bool) (hs : s.serviceStalled = false) (hh : s.pairHalted = false) :
    handed svc (begins s p) = (false, begins s p) := by
  have h1 : (begins s p).serviceStalled = false := hs
  have h2 : (begins s p).pairHalted = false := hh
  simp [handed, h1, h2]

/-- A command that starts at once is judged by its own checks alone. -/
theorem runCmd_starts {i : CmdInfo} {d : Desc} {s : State} (body : Cmd → State → CmdRes) (h : starts i d s = true) :
    runCmd i d body s = endCmd (begins s d.part) d i.op (cmdOf (begins s d.part) d).bulk false
      (runBody i body (cmdOf (begins s d.part) d) (begins s d.part)) := by
  simp only [starts, Bool.and_eq_true, decide_eq_true_eq, Bool.not_eq_true', Option.isNone_iff_eq_none] at h
  obtain ⟨⟨⟨⟨⟨⟨⟨⟨hp, hr⟩, hb⟩, hh⟩, hs⟩, hph⟩, hroom⟩, hf⟩, hpre⟩ := h
  have hpre' := changing_of_isNone hpre
  have hd : handed i.svc (begins s d.part) = (false, begins s d.part) := handed_begins i.svc hs hph
  simp only [begins] at hpre' hd ⊢
  simp [runCmd, hr, hb, hh, hf, Nat.not_lt.mpr hroom, hpre', hd]

/-- The row of a command that starts at once answers what its own checks give. -/
theorem cmdRow_starts {i : CmdInfo} {d : Desc} {s : State} (body : Cmd → State → CmdRes) (h : starts i d s = true) :
    cmdRow i d body s = .next (endCmd (begins s d.part) d i.op (cmdOf (begins s d.part) d).bulk false
      (runBody i body (cmdOf (begins s d.part) d) (begins s d.part))) := by
  have hp : d.part < 16 := by simp only [starts, Bool.and_eq_true, decide_eq_true_eq] at h; exact h.1.1.1.1.1.1.1.1
  simp [cmdRow, hp, runCmd_starts body h]

/-- A command that runs to its end has started at once. -/
theorem starts_of_runs {i : CmdInfo} {d : Desc} {s : State} (h : runs i d s = true) : starts i d s = true := by
  simp only [runs, Bool.and_eq_true] at h
  exact h.1.1.1.1

/-- The row of a command that runs to its end answers what its own checks give. -/
theorem cmdRow_runs {i : CmdInfo} {d : Desc} {s : State} (body : Cmd → State → CmdRes) (h : runs i d s = true) :
    cmdRow i d body s = .next (endCmd (begins s d.part) d i.op (cmdOf (begins s d.part) d).bulk false
      (runBody i body (cmdOf (begins s d.part) d) (begins s d.part))) := cmdRow_starts body (starts_of_runs h)

/-- A test that fails for every entry of a table fails for every entry after a write of one that fails it. -/
theorem any_tblSet {α : Type} (f : Nat × α → Bool) (t : Tbl α) (k : Nat) (v : α) (h : t.any f = false) (hv : f (k, v) = false) :
    (tblSet t k v).any f = false := by
  induction t with
  | nil => simp [tblSet, hv]
  | cons e r ih =>
    obtain ⟨j, w⟩ := e
    simp only [List.any_cons, Bool.or_eq_false_iff] at h
    simp only [tblSet]
    split
    · simp [hv, h.1, h.2]
    · split
      · simp [hv, h.2]
      · simp [h.1, ih h.2]

/-- A test that no entry passes is failed by the entry a table holds for a number. -/
theorem any_tblGet {α : Type} (f : Nat × α → Bool) (t : Tbl α) (k : Nat) (v : α) (h : t.any f = false) (hg : tblGet t k = some v) :
    f (k, v) = false := by
  induction t with
  | nil => simp [tblGet] at hg
  | cons e r ih =>
    obtain ⟨j, w⟩ := e
    simp only [List.any_cons, Bool.or_eq_false_iff] at h
    simp only [tblGet] at hg
    split at hg
    · cases hg; subst_vars; exact h.1
    · exact ih h.2 hg

/-- Reserving a completion slot leaves what a handle names. -/
theorem localRes_begins (s : State) (p q h : Nat) : localRes (begins s p) q h = localRes s q h := by
  have hl : (begins s p).isLocal = s.isLocal := rfl
  have hv : ∀ cls i, viewIndex ((begins s p).part q) cls i = viewIndex (s.part q) cls i := by
    intro cls i
    by_cases hq : q = p
    · subst hq; simp [begins, viewIndex]
    · simp [begins, hq]
  simp only [localRes, hl, hv]

/-- Reserving a completion slot leaves the resources that a command would change. -/
theorem resKeys_begins (s : State) (i : CmdInfo) (d : Desc) : resKeys (begins s d.part) i d = resKeys s i d := by
  simp only [resKeys, localRes_begins]
  cases i.chg <;> simp [begins, viewIndex]

/-- Nothing changes a resource that reserving a completion slot would show. -/
theorem changing_begins {i : CmdInfo} {d : Desc} {s : State} (h : runs i d s = true) : changing (begins s d.part) i d = false := by
  simp only [runs, starts, Bool.and_eq_true, decide_eq_true_eq, Bool.not_eq_true', Option.isNone_iff_eq_none] at h
  have hch := h.1.1.1.2
  simp only [changing, resKeys_begins, List.any_eq_false] at hch ⊢
  intro k hk
  have hk' := hch k hk
  simp only [Bool.not_eq_true] at hk' ⊢
  refine any_tblSet _ _ _ _ hk' ?_
  cases hg : tblGet s.parts d.part with
  | none => simp [State.part, tblGetD, hg]
  | some v =>
    have := any_tblGet _ _ _ _ hk' hg
    simpa [State.part, tblGetD, hg] using this

/-- A command that starts at once ends as its own body answers: nothing else judges it. -/
theorem runBody_runs {i : CmdInfo} {d : Desc} {s : State} (body : Cmd → State → CmdRes) (h : runs i d s = true) :
    runBody i body (cmdOf (begins s d.part) d) (begins s d.part) = body (cmdOf (begins s d.part) d) (begins s d.part) := by
  have hc := changing_begins h
  have hal : ¬(i.bulk = .yes ∧ (cmdOf (begins s d.part) d).d.bulkOff % 8 ≠ 0) := by
    simp only [runs, starts, Bool.and_eq_true, Bool.or_eq_true, beq_iff_eq] at h
    rintro ⟨h1, h2⟩
    rcases h.1.1.2 with h3 | h3
    · rw [h1] at h3; cases h3
    · exact h2 h3
  have hn : ¬(i.op / 256 = 0x0E ∧ (!(begins s d.part).assay.fitted) = true) := by
    simp only [runs, starts, Bool.and_eq_true, Bool.or_eq_true, bne_iff_ne, ne_eq] at h
    rintro ⟨h1, h2⟩
    rcases h.2 with h3 | h3
    · exact h3 h1
    · simp [begins, h3] at h2
  have hx : (begins s d.part).crossable (cmdIsland i.op) = true := by
    simp only [runs, starts, Bool.and_eq_true] at h
    exact h.1.2
  have hd : (cmdOf (begins s d.part) d).d = d := rfl
  rw [runBody, if_neg hn, if_neg hal, hd, hc, hx]
  cases body (cmdOf (begins s d.part) d) (begins s d.part) <;> simp

/-- A command that starts at once ends as its body answers. -/
theorem cmdRow_body {i : CmdInfo} {d : Desc} {s : State} {r : CmdRes} (body : Cmd → State → CmdRes) (h : runs i d s = true)
    (hb : body (cmdOf (begins s d.part) d) (begins s d.part) = r) :
    cmdRow i d body s = .next (endCmd (begins s d.part) d i.op (cmdOf (begins s d.part) d).bulk false r) := by
  rw [cmdRow_runs body h, runBody_runs body h, hb]

/-- A command whose own checks pass completes with OK, its results and its effect. -/
theorem cmdRow_ok {i : CmdInfo} {d : Desc} {s t : State} {res out : List Byte} (body : Cmd → State → CmdRes) (h : runs i d s = true)
    (hb : body (cmdOf (begins s d.part) d) (begins s d.part) = .ok res out t) :
    cmdRow i d body s = .next (ends t d stOk res out) := cmdRow_body body h hb

/-- A command that an outside event completes waits in its partition with what its body has done (R351). -/
theorem cmdRow_later {i : CmdInfo} {d : Desc} {s t : State} (body : Cmd → State → CmdRes) (h : runs i d s = true)
    (hb : body (cmdOf (begins s d.part) d) (begins s d.part) = .later t) :
    cmdRow i d body s = .next (endCmd (begins s d.part) d i.op (cmdOf (begins s d.part) d).bulk false (.later t)) := cmdRow_body body h hb

end Sys2Proof.Machine
end

