-- ==== Sys2Proof/WellFormed.lean ====
section
/-!
DEFINITION. Which operand values a command can have at all: bytes counts and field widths of the row's layout.
-/
namespace Sys2Proof

/-- The widths of a descriptor (R383). -/
def Desc.wf (d : Desc) : Bool :=
  decide (d.part < 16) && decide (d.flags < 256) && decide (d.byte3 < 256) && decide (d.tag < 2 ^ 32)
    && decide (d.params.length ≤ 48) && decide (d.bulkOff < 2 ^ 32) && decide (d.bulkLen < 2 ^ 32)

/-- The widths of a ring address (R40). -/
def RingAddr.wf (a : RingAddr) : Bool :=
  decide (a.node < 256) && decide (a.part < 16) && decide (a.space < 16) && decide (a.off < 2 ^ 48)

/-- The widths of an access (R23, R301). -/
def Acc.wf (a : Acc) : Bool :=
  decide (a.node < 256) && decide (a.part < 16) && decide (a.att.getD 0 < 28)

/-- The widths of a GRT frame (R49). -/
def GrtFrame.wf (f : GrtFrame) : Bool :=
  decide (f.port < 16) && decide (f.smac < 2 ^ 48) && decide (f.vid < 4096) && f.hdr.addr.wf && decide (f.hdr.srcNode < 256)
    && decide (f.hdr.srcPart < 16) && decide (f.hdr.tag < 65536) && decide (f.hdr.info.length ≤ 8)

/-- A CAN frame fits its formats (R226, R229). -/
def CanFrame.wf (f : CanFrame) : Bool :=
  decide (f.idWord < 2 ^ 32) && decide (f.dlc < 16) && decide (f.xlFields.length ≤ 8) && decide (f.data.length ≤ 2048)

end Sys2Proof
end

