-- ==== Sys2Proof/Tests/Slice0.lean ====
section
/-!
SUPPORT. The model's own tests, and for every statement with hypotheses a state and operands that meet them.
-/
namespace Sys2Proof.Tests
open Sys2Proof.Machine

/-- A hub that runs, with partition 0 open. -/
def rdy : State := { boot := { running := true, configured := true }, parts := [(0, { st := 1 })] }

/-- A descriptor of partition 0 with parameters given by completion-style offset, size and value, from descriptor byte 8. -/
def dsc (par : List (Nat × Nat × Nat)) (off len : Nat) : Desc :=
  { part := 0, flags := 0, byte3 := 0, tag := 7, params := resOf par, bulkOff := off, bulkLen := len }

/-- Partition 0 with one descriptor of opcode 0 waiting in slot 255. -/
def rdyOne : State := rdy.setPart 0 { st := 1, sqHead := 255, sqTail := 256 }

/-- Partition 0 with DEV_INFO waiting in slot 0. -/
def rdyTwo : State := rdy.setPart 0 { st := 1, sqTail := 1, sq := [(1, 1)] }

/-- Partition 0 with an accepted DEV_INFO of tag 9. -/
def rdyAsync : State := rdy.setPart 0 { st := 1, cmds := [{ opcode := 0x0100, desc := { tag := 9, flags := 1 } }] }

/-- Partition 0 with a TEMP_READ that waits since instant 0, 100 ms later. -/
def rdyLate : State :=
  { rdy.setPart 0 { st := 1, cmds := [{ opcode := 0x1001, async := false, service := true, begun := true }] } with
    time := { lt := { t := 100000000 * nsUnit } } }

/-- An update of slot 1 of TYPE 1 in progress. -/
def rdyUpd (length got : Nat) (verified : Bool) : State :=
  rdy.setBoot { rdy.boot with upd := some { typ := 1, slot := 1, length := length, got := got, verified := verified } }

/-- A debug challenge that was just asked for. -/
def rdyAsked : State :=
  (rdy.setBoot { rdy.boot with dbgOem := true }).setCtl { rdy.ctl with challenge := some (List.replicate 16 0, 0) }

/-- The acting manager, node 1, with its East link up, 20 ms after reset. -/
def rdyRing : State :=
  ({ rdy with ring := { node := 1, nodeSrc := 1, actingMgr := true }, time := { lt := { t := 20000000 * nsUnit } } }).setPort 1
    { rdy.port 1 with link := { up := true, rate := 10000 } }

/-- A standby manager, node 2, that has heard no beacon for 40 ms. -/
def rdyStandby : State :=
  { rdy with ring := { node := 2, nodeSrc := 1 }, boot := { rdy.boot with ringRole := 2 }, time := { lt := { t := 40000000 * nsUnit } } }

/-- A stream entry in space 4: INGRESS_MASK 1, DEST 0, CBS 64. -/
def rdyStream : State := { rdy with island := { sram := [(10, 1), (36, 64)] } }

/-- A roster of one entry in space 4: CYCLE 1,000, INTERVAL 1. -/
def rdyRoster : State := { rdy with island := { sram := [(12, 0xE8), (13, 3), (16, 1), (32, 255), (33, 1)] } }


/-- Queue 4095 with a host as producer and consumer, and the given contents. -/
def rdyHost (x : Queue) : State := rdy.setQueue 4095 { x with enable := true, prod := .host, cons := .host }

/-- Queue 7 drained by DMA into a ring of function 0, with one packet waiting. -/
def rdyDma (slots : Nat) (fired : Bool) : State :=
  (rdy.setAtt 0 { bound := some 0, linkUp := true, bme := true, mse := true }).setQueue 7
    { enable := true, dma := true, cons := .dma, packets := [{ bytes := [1, 2], cells := [5] }]
      ring := some { slots := slots, slotSize := 256, fired := fired } }

/-- The hub of `rdyRing` with port 1 able to carry time. -/
def rdyPtp : State := rdyRing.setPort 1 { rdyRing.port 1 with asCapable := true }

/-- A hub whose working clock is valid. -/
def rdyVal : State := rdy.setTime { rdy.time with valid := true }

/-- CYCLE_START of cycles of 31,250 ns from second 1 on. -/
def rdyCycDesc : Desc := dsc [(0, 4, 31250), (4, 4, 999999999), (8, 8, 1), (16, 4, 8000), (20, 4, 9000), (24, 4, 14000)] 0 0

/-- Node 1 in cycle 2 of 1,000,000 ns, at 20 ms. -/
def rdyCyc : State :=
  ({ rdyRing with time := { rdyRing.time with valid := true, work := { t := 20000000 * nsUnit } } }).setCycle
    { running := true, last := 2, cfg := { t := 1000000, base := 0, pubOff := 8000, dlOff := 9000, apOff := 14000 } }

/-- Group 511 written with LEN 1, and the 40 bytes of a descriptor with one item in space 4. -/
def rdyGroup : State :=
  ({ rdy with island := { sram := [(1, 1), (2, 1), (4, 1), (8, 2), (12, 1), (32, 1), (34, 1), (36, 255), (38, 3)] } }).setGroup 511 { len := 1 }

/-- The bulk of a MAP_SET in space 4: one source, image segment 0 of this node, and one signal of 8 bits. -/
def rdyMap : State := { rdy with island := { sram := [(1, 1), (2, 1), (16, 2), (36, 8), (40, 1), (44, 1)] } }

/-- A hub whose assay die measures under the seal. -/
def rdyAssay : State := rdy.setAssay { powered := true, st := 1, sealLevel := true }

set_option maxRecDepth 100000 in
theorem witness_StepTakesFront : State.reset.pending = [] := by
  decide

set_option maxRecDepth 100000 in
theorem witness_MailboxChecks : ((rowOf 0x0D04).isSome = true ∧ rdy.mbxReady 0 = true ∧ (rdy.part 0).blocked = false ∧ (rdy.pair 0).halted = false ∧ 2 ≤ (rdy.part 0).cqRoom)
    ∧ (let s := rdy.setPart 3 { st := 1 }; s.mbxReady 3 = true ∧ iInrushCfg.p0 = true ∧ reservedOk iInrushCfg { dsc [] 0 0 with part := 3 } = true ∧ (s.part 3).ktx22 = false)
    ∧ ((rdy.setPart 0 { st := 1, ktx22 := true }).mbxReady 0 = true ∧ iInrushCfg.k = false)
    ∧ (bitAt ({ dsc [] 0 0 with flags := 1 } : Desc).flags 0 = true ∧ (rdy.part 0).asyncActive < 16 ∧ 16 ≤ ({ cmds := List.replicate 16 { opcode := 0x0100 } } : Partition).asyncActive)
    ∧ (((rdy.setPart 0 { st := 1, cqTail := 256 }).part 0).cqRoom = 0)
    ∧ ((rdy.setBoot { rdy.boot with rescue := true }).boot.rescue = true) := by
  refine ⟨?_, ?_, ?_, ?_, ?_, ?_⟩ <;> decide

set_option maxRecDepth 100000 in
theorem witness_RecordsAndAuditLogKept : (let s := rdyAssay.setAssay { rdyAssay.assay with store := [{ seq := 4, bytes := [4] }, { seq := 5, bytes := [5] }], nextSeq := 6, audit := [{ bytes := [1] }], eventCounter := 1 }; RecordsWf s)
    ∧ ((match step { rdyAssay with pending := [.vddaAssayAbsent] } with | .next t => !t.assay.powered | _ => false) = true) := by
  refine ⟨?_, ?_⟩ <;> decide

set_option maxRecDepth 100000 in
theorem witness_MemoriesKept : (MemoriesWf (rdyUpd 8 0 false) ∧ MemoriesWf { rdy with island := { sram := [(0, 1), (1572863, 255)] } })
    ∧ ((match step { rdy with pending := [.registerWrite { part := 0 } { space := 4, off := 8 } [1, 2]] } with | .next t => t.island.sram == [(8, 1), (9, 2)] | _ => false) = true) := by
  refine ⟨?_, ?_⟩ <;> decide

set_option maxRecDepth 100000 in
theorem witness_RingCommands : (runs iRingStatus (dsc [] 0 0) rdy = true)
    ∧ (runs iRingCfg (dsc [(2, 2, 4094), (6, 2, 1), (8, 2, 10), (12, 4, 10000)] 0 0) rdy = true)
    ∧ (runs iLinkCfg (dsc [(0, 4, 0x090005), (4, 1, 5)] 0 0) rdy = true ∧ localRes rdy 0 0x090005 = some (9, 5) ∧ rdy.owns 0 9 5 = true)
    ∧ (runs iPlcaCfg (dsc [(0, 4, 0x09000D), (5, 1, 1), (6, 1, 255)] 0 0) rdy = true ∧ localRes rdy 0 0x09000D = some (9, 13))
    ∧ (runs iBarrier (dsc [(0, 4, 77)] 0 0) rdyRing = true ∧ rdyRing.passThrough = false)
    ∧ (runs iRingReset (dsc [] 0 0) rdyRing = true ∧ rdyRing.ring.actingMgr = true) := by
  refine ⟨?_, ?_, ?_, ?_, ?_, ?_⟩ <;> decide

set_option maxRecDepth 100000 in
theorem witness_MacsecCommands : (runs iMacsecSaAdd (dsc [(0, 4, 0x090001), (4, 1, 3), (5, 1, 1), (6, 1, 3)] 8 64) rdy = true ∧ localRes rdy 0 0x090001 = some (9, 1) ∧ bulkOwned rdy 0 8 64 = true ∧ rdy.owns 0 9 1 = true)
    ∧ ((tblGet ((rdy.setPort 1 { rdy.port 1 with macsec := { txSa := [(2, {})] } }).port 1).macsec.txSa 2).isSome = true ∧ runs iMacsecTxAn (dsc [(0, 4, 0x090001), (4, 1, 2)] 0 0) (rdy.setPort 1 { rdy.port 1 with macsec := { txSa := [(2, {})] } }) = true)
    ∧ (runs iMacsecSaDel (dsc [(0, 4, 0x090005), (4, 1, 0), (5, 1, 1)] 0 0) rdy = true)
    ∧ (runs iMacsecCfg (dsc [(0, 4, 0x090000), (4, 1, 1), (6, 2, 1024)] 0 0) rdy = true)
    ∧ (runs iMacsecStatus (dsc [(0, 4, 0x090000)] 0 0) rdy = true ∧ localRes rdy 0 0x090000 = some (9, 0)) := by
  refine ⟨?_, ?_, ?_, ?_, ?_⟩ <;> decide

set_option maxRecDepth 100000 in
theorem witness_EnumerationFrames : (let f : GrtFrame := { hdr := { typ := tEnumWalk, info := [0, 12, 0, 1, 0, 0, 0, 0] } }; bitsAt f.hdr.flags 6 2 = 1 ∧ grtLenOk f = true ∧ rdy.ring.actingMgr = false ∧ rdy.boot.ringRole ≠ 3)
    ∧ (let f : GrtFrame := { hdr := { typ := tEnumWalk, info := [0, 13, 0, 1, 0, 0, 0, 0] } }; infoAt f.hdr 19 1 = rdyRing.ring.node ∧ infoAt f.hdr 18 1 = 0 ∧ (rdyRing.setRing { rdyRing.ring with walkAt := some 19500000 }).lt ≤ 19500000 + 1000000)
    ∧ (let f : GrtFrame := { hdr := { typ := tEnumAssign, info := [250, 0, 0, 0, 0, 0, 0, 0] } }; grtLenOk f = true ∧ infoAt f.hdr 16 1 = 250)
    ∧ (let f : GrtFrame := { hdr := { typ := tEnumReport, len := 24 }, payload := List.replicate 24 1 }; rdyRing.passThrough = false ∧ rdyRing.queues = [] ∧ grtLenOk f = true ∧ beAt f.payload 0 6 ≠ rdyRing.boot.mac)
    ∧ (let s := rdyRing.setRing { rdyRing.ring with reports := [{ node := 2, role := 2 }] }; ({ s with boot := { s.boot with ringRole := 1 } }).boot.ringRole = 1 ∧ s.passThrough = false ∧ s.ring.reported 2 = some { node := 2, role := 2 })
    ∧ (let f : GrtFrame := { smac := rdyRing.grtMac, hdr := { typ := tMgrBeacon, info := [1, 0, 0, 0, 0, 0, 0, 0] } }; grtLenOk f = true ∧ f.port = 0)
    ∧ (let f : GrtFrame := { smac := macOfNode 0 9, hdr := { typ := tRingReset } }; grtLenOk f = true ∧ f.smac ≠ rdyRing.grtMac ∧ f.smac ≠ macOfNode rdyRing.ring.ringId rdyRing.ring.mgrNode)
    ∧ (let s := rdyRing.setRing { rdyRing.ring with mgrNode := 9, actingMgr := false }; s.passThrough = false ∧ macOfNode 0 9 ≠ s.grtMac ∧ macOfNode 0 9 = macOfNode s.ring.ringId s.ring.mgrNode)
    ∧ (State.reset.ring.node = 0 ∧ State.reset.boot.nodeSel = 0 ∧ State.reset.boot.running = false ∧ State.reset.ringLive 1 = false) := by
  refine ⟨?_, ?_, ?_, ?_, ?_, ?_, ?_, ?_, ?_⟩ <;> decide

set_option maxRecDepth 100000 in
theorem witness_RingTimersAndTokens : (rdyRing.ring.actingMgr = true ∧ rdyRing.passThrough = false ∧ rdyRing.ring.beaconAt + rdyRing.ring.beaconMs * 1000000 ≤ rdyRing.lt)
    ∧ (rdyStandby.boot.ringRole = 2 ∧ rdyStandby.passThrough = false ∧ rdyStandby.ring.heardAt + 3 * rdyStandby.ring.beaconMs * 1000000 ≤ rdyStandby.lt)
    ∧ (rdyRing.ringLive 1 = true)
    ∧ ((rdyStandby.setRing { rdyStandby.ring with walkAt := some 0 }).ring.walkAt = some 0 ∧ 0 + 1000000 < rdyStandby.lt)
    ∧ ((advertised 1 (rdy.port 1).link.forced).contains 10000 = true ∧ (rdy.port 1).link.up = false ∧ rdy.boot.ringRole ≠ 3)
    ∧ ((rdy.port 13).link.up = false ∧ 13 < 14)
    ∧ (let f : GrtFrame := { hdr := { typ := tBarrier, info := [0, 0, 0, 1, 0, 1, 0, 9] } }; bitsAt f.hdr.flags 6 2 = 1 ∧ grtLenOk f = true ∧ infoAt f.hdr 23 1 ≠ rdyRing.ring.node)
    ∧ (let f : GrtFrame := { hdr := { typ := tBarrier, info := [0, 0, 0, 1, 0, 2, 2, 1] } }; infoAt f.hdr 23 1 = rdyRing.ring.node ∧ infoAt f.hdr 22 1 ≠ 1)
    ∧ (let b : BarrierRun := { token := { barrierId := 1, initiator := 1 } }; b.token.same { barrierId := 1, initiator := 1, passed := 4 } = true)
    ∧ (rdyRing.ring.ringNodes = 0 ∧ rdyRing.ring.ringState ≠ 3 ∧ (rdyRing.setRing { rdyRing.ring with ringNodes := 4 }).ring.ringNodes ≠ 0)
    ∧ (rdy.bridge.outP = []) := by
  refine ⟨?_, ?_, ?_, ?_, ?_, ?_, ?_, ?_, ?_, ?_, ?_⟩ <;> decide

set_option maxRecDepth 100000 in
theorem witness_SwitchTableCommands : (runs iPortCfg (dsc [(0, 4, 0x090000), (4, 2, 2048), (6, 2, 1)] 0 0) rdy = true ∧ localRes rdy 0 0x090000 = some (9, 0) ∧ rdy.owns 0 9 0 = true)
    ∧ (runs iPortCfg (dsc [(0, 4, 0x09000F), (4, 2, 64), (6, 2, 4094)] 0 0) rdy = true ∧ localRes rdy 0 0x09000F = some (9, 15))
    ∧ (runs iFdbWrite (dsc [(0, 6, 0x0000000000AA), (6, 2, 1), (8, 1, 1), (9, 1, 1), (10, 2, 15)] 0 0) rdy = true ∧ fdbTargetOk 1 15 = true ∧ (fdbWriteWay rdy (Config.fdbHash 0xAA 1 % 4096) 0xAA 1 true).isSome = true)
    ∧ (runs iFdbDelete (dsc [(0, 6, 5), (6, 2, 4094)] 0 0) rdy = true)
    ∧ (runs iFdbRead (dsc [(0, 2, 16383)] 0 16) rdy = true ∧ bulkOwned rdy 0 0 16 = true ∧ rdy.sw.fdb = [])
    ∧ (runs iFdbFlush (dsc [(0, 1, 1), (1, 1, 0xFF)] 0 0) rdy = true)
    ∧ (runs iFdbFlush (dsc [(0, 1, 0), (1, 1, 15)] 0 0) rdy = true)
    ∧ (runs iDsetWrite (dsc [(0, 2, 1023), (8, 2, 0x3FFD), (10, 1, 2), (12, 2, 4095), (14, 2, 7)] 0 0) rdy = true ∧ destCount 0x3FFD 2 ≤ 16) := by
  refine ⟨?_, ?_, ?_, ?_, ?_, ?_, ?_, ?_⟩ <;> decide

set_option maxRecDepth 100000 in
theorem witness_StreamLimitCanaryCommands : ((cmdOf rdyStream (dsc [(0, 4, 0x080FFF)] 0 64)).owned = true ∧ runs iStreamWrite (dsc [(0, 4, 0x080FFF)] 0 64) rdyStream = true ∧ localRes rdyStream 0 0x080FFF = some (8, 4095) ∧ leAt (cmdOf rdyStream (dsc [(0, 4, 0x080FFF)] 0 64)).bulk 36 4 = 64 ∧ leAt (cmdOf rdyStream (dsc [] 0 64)).bulk 10 2 ≠ 0)
    ∧ (runs iStreamRead (dsc [(0, 4, 0x080FFF)] 0 64) rdy = true ∧ rdy.mayRead 0 8 4095 = true)
    ∧ (runs iLimitSet (dsc [(0, 4, 0x09000E), (4, 1, 0xFF), (8, 4, 4194304)] 0 0) rdy = true ∧ rdy.owns 0 9 14 = true)
    ∧ (runs iLimitSet (dsc [(0, 4, 0x090000), (4, 1, 7)] 0 0) rdy = true)
    ∧ (runs iPoolSet (dsc [(0, 4, 65536), (4, 1, 7), (8, 4, 65536)] 0 0) rdy = true)
    ∧ (runs iAgeSet (dsc [(0, 1, 7), (4, 4, 16777215), (8, 4, 10)] 0 0) rdy = true)
    ∧ (runs iCanarySet (dsc [(0, 1, 63), (9, 1, 15), (10, 1, 255), (12, 2, 1), (14, 2, 4095)] 0 0) rdy = true ∧ rdy.owns 0 5 4095 = true ∧ (rdy.queue 4095).fwUse = 0 ∧ (rdy.canary 63).enable = false) := by
  refine ⟨?_, ?_, ?_, ?_, ?_, ?_, ?_⟩ <;> decide

set_option maxRecDepth 100000 in
theorem witness_SchedulingCommands : (runs iSchedSet (dsc [(0, 4, 0x09000F), (4, 1, 127), (5, 1, 3), (8, 4, 16777215), (12, 8, 0x0101010101010101)] 0 0) rdy = true ∧ localRes rdy 0 0x09000F = some (9, 15) ∧ (rdy.port 15).strictCount = 3)
    ∧ (runs iSchedSet (dsc [(0, 4, 0x090000), (4, 1, 192), (5, 1, 0), (6, 1, 1), (12, 8, 0xFF01010101010101)] 0 0) rdy = true ∧ (rdy.port 0).strictCount ≠ 0)
    ∧ (runs iSchedSet (dsc [(0, 4, 0x09000E), (4, 1, 0)] 0 0) rdy = true ∧ localRes rdy 0 0x09000E = some (9, 14))
    ∧ (runs iRosterSet (dsc [(0, 4, 0x090001)] 0 36) rdyRoster = true ∧ (rosterOf (cmdOf rdyRoster (dsc [] 0 36)).bulk).cycle = 1000 ∧ leAt (cmdOf rdyRoster (dsc [] 0 36)).bulk 16 2 = 1 ∧ (rosterOf (cmdOf rdyRoster (dsc [] 0 36)).bulk).entries.all (fun e => e.interval != 0) = true)
    ∧ (runs iRosterRead (dsc [(0, 4, 0x090001)] 0 40) (rdy.setPort 1 { rdy.port 1 with operRoster := some { entries := [{}] } }) = true ∧ ({ entries := [{}] } : Roster).bytes.length ≤ 40)
    ∧ (runs iSampleCfg (dsc [(0, 4, 0x050FFF), (12, 4, 16777215), (16, 4, 1)] 0 0) rdy = true ∧ sampleObj rdy (cmdOf rdy (dsc [(0, 4, 0x050FFF)] 0 0)) = some (5, 4095, 4223) ∧ (rdy.sampler 4223).uDepth ≠ 16777215)
    ∧ (runs iSampleRead (dsc [(0, 4, 0x09000F), (4, 1, 7), (5, 1, 1)] 0 152) rdy = true ∧ sampleObj rdy (cmdOf rdy (dsc [(0, 4, 0x09000F), (4, 1, 7)] 0 152)) = some (9, 15, 127)) := by
  refine ⟨?_, ?_, ?_, ?_, ?_, ?_, ?_⟩ <;> decide

set_option maxRecDepth 100000 in
theorem witness_FrameReception : ((rdyRing.port 1).rx = none ∧ (rdyRing.port 1).link.up = true ∧ (rdyRing.port 0).link.up = false ∧ rdyRing.crossable 1 = true)
    ∧ ((rdyRing.port 1).macsec.enable = false ∧ (rdyRing.port 1).link.keyWait = false ∧ rdyRing.sw.streams = [] ∧ isLinkLocal { hsr := some 1, smac := rdyRing.grtMac } = false)
    ∧ (let s := rdyRing.setCtl { rdyRing.ctl with islands := [true, false] }; s.crossable 1 = false ∧ (s.port 1).link.up = true)
    ∧ (let s := rdyRing.setPort 1 { rdyRing.port 1 with rx := some {} }; (s.port 1).rx = some {} ∧ s.sw.canaries = [] ∧ (s.port 1).maxFrame = 2048 ∧ ({} : RxFrame).got < 2049)
    ∧ (let s := arriveTo (rdyRing.setPort 1 { rdyRing.port 1 with rx := some { macBad := true } }) 1 64; (s.port 1).rx = some { macBad := true, got := 64 } ∧ s.sw.canaries = [])
    ∧ (let s := arriveTo (rdyRing.setPort 1 { rdyRing.port 1 with rx := some {} }) 1 2049; (s.port 1).rx = some { tooLong := true, got := 2049 }) := by
  refine ⟨?_, ?_, ?_, ?_, ?_, ?_⟩ <;> decide

set_option maxRecDepth 100000 in
theorem witness_EgressEvents : ((rdy.port 15).sending = none ∧ (rdy.port 13).sending = none ∧ 15 < 16)
    ∧ (let s := rdy.setPort 0 { rdy.port 0 with sending := some {} }; (s.port 0).sending.isSome = true ∧ (s.port 0).macsec.exhausted = false)
    ∧ (let s := rdy.setPort 2 { rdy.port 2 with switchAt := some 0 }; (s.port 2).switchAt = some 0 ∧ 0 ≤ s.work)
    ∧ (let s := rdy.setPort 2 { rdy.port 2 with queues := [[{ launch := some 0 }], [], [], [], [], [], [], []] }; (s.port 2).head 0 = some { launch := some 0 })
    ∧ (((rdyRing.port 1).head 7) = none ∧ (rdyRing.port 15).head 0 = none)
    ∧ (let s := ({ rdy with time := { work := { t := 5000 * nsUnit } } }).setSampler 4223 { period := 2 }; s.work / 1000 / 2 * 2 = 4 ∧ (s.sampler 4223).lastAt < 4)
    ∧ ((rdy.sampler 0).period = 0)
    ∧ ((rdy.queue 4095).fresh = [] ∧ (rdy.queue 4095).packets = []) := by
  refine ⟨?_, ?_, ?_, ?_, ?_, ?_, ?_, ?_⟩ <;> decide

set_option maxRecDepth 100000 in
theorem witness_QueueCommands : (runs iQConfig (dsc [(0, 4, 0x050FFF), (4, 2, 0x37), (8, 4, 4194304), (16, 1, 1), (17, 1, 63)] 0 0) rdy = true ∧ localRes rdy 0 0x050FFF = some (5, 4095) ∧ (rdy.queue 4095).quiet = true)
    ∧ (let s := rdy.setQueue 7 { opn := some {}, packets := [{ bytes := [1], cells := [3] }] }; runs iQConfig (dsc [(0, 4, 0x050007), (4, 2, 2)] 0 0) s = true ∧ (s.queue 7).quiet = false)
    ∧ (runs iQBind (dsc [(0, 4, 0x050000), (4, 1, 0), (5, 1, 1)] 0 0) rdy = true ∧ localRes rdy 0 0x050000 = some (5, 0) ∧ pairOk .host (rdy.queue 0).cons = true)
    ∧ (runs iQBind (dsc [(0, 4, 0x050FFF), (4, 1, 1), (5, 1, 1)] 0 0) rdy = true ∧ pairOk (rdy.queue 4095).prod .host = true)
    ∧ (runs iQFlush (dsc [(0, 4, 0x050FFF)] 0 0) rdy = true ∧ rdy.owns 0 5 4095 = true)
    ∧ (let s := rdy.setQueue 7 { opn := some {} }; runs iQFlush (dsc [(0, 4, 0x050007)] 0 0) s = true ∧ (s.queue 7).isOpen = true)
    ∧ (runs iQDesc (dsc [(0, 4, 0x050FFF)] 0 0) rdy = true ∧ rdy.mayRead 0 5 4095 = true)
    ∧ (runs iDmaRingSet (dsc [(0, 4, 0x050FFF), (4, 1, 63), (8, 8, 4096), (16, 8, 8), (24, 4, 65536), (28, 4, 64)] 0 0) rdy = true ∧ powerBetween 8 16 65536 = true ∧ powerBetween 6 16 64 = true)
    ∧ (let s := rdy.setQueue 4095 { fwUse := 2 }; runs iQMap (dsc [] 0 8) s = true ∧ bulkOwned s 0 0 8 = true) := by
  refine ⟨?_, ?_, ?_, ?_, ?_, ?_, ?_, ?_, ?_⟩ <;> decide

set_option maxRecDepth 100000 in
theorem witness_QueueProducerPort : (let a : Acc := { part := 0 }; rdy.boot.rescue = false ∧ rdy.who a = some 0 ∧ rdy.isOpen 0 = true ∧ rdy.owns 0 5 4095 = true ∧ rdy.owns 3 5 4095 = false)
    ∧ (let s := rdyHost {}; (s.queue 4095).charged < (s.queue 4095).limit ∧ s.pool.reserve < s.freeCells ∧ s.pool.pinKeep < s.onFree ∧ s.owns 0 5 4095 = true)
    ∧ (let s := rdyHost { opn := some { bytes := [1], cells := [9] }, lastWrite := 4 }; (s.queue 4095).opn = some { bytes := [1], cells := [9] } ∧ cellsFor (1 + 8) ≤ 1 ∧ cellsFor 1 = 1 ∧ (s.queue 4095).lastWrite < 5 ∧ (s.queue 4095).flushPending = false)
    ∧ (let s := rdy.setQueue 7 { prod := .host }; (s.queue 7).enable = false ∧ (s.queue 7).prod = .host ∧ (s.queue 7).refused = false)
    ∧ (let s := rdyHost { fwUse := 1 }; (s.queue 4095).fwUse ≠ 0 ∧ s.owns 0 5 4095 = true)
    ∧ ((rdy.queue 4095).prod ≠ .host ∧ (rdy.queue 4095).fwUse = 0 ∧ (rdy.queue 4095).isOpen = false ∧ (rdy.queue 4095).opn = none ∧ (rdy.queue 4095).presented = false) := by
  refine ⟨?_, ?_, ?_, ?_, ?_, ?_⟩ <;> decide

set_option maxRecDepth 100000 in
theorem witness_QueueConsumerPort : (let a : Acc := { part := 0, node := 3 }; let s := rdyHost { packets := [{ bytes := [1, 2, 3, 4, 5], cells := [65535] }] }; s.who a = some 0 ∧ ((s.queue 4095).packets.head?).isSome = true ∧ 0 + 4 < 5 ∧ s.pool.poisoned = [])
    ∧ (let s := rdyHost {}; (s.queue 4095).packets = [] ∧ (s.queue 4095).noticeEn = false ∧ (s.queue 4095).hold = false)
    ∧ (let a : Acc := { att := some 0, spec := true }; let s := (rdyHost {}).setAtt 0 { bound := some 0, linkUp := true, bme := true, mse := true }; s.who a = some 0 ∧ s.owns 0 5 4095 = true)
    ∧ (let s := rdyHost { hold := true, presented := true, presentSeq := 4294967295, packets := [{ bytes := [1], cells := [4194303] }] }; (s.queue 4095).presented = true ∧ (s.queue 4095).enable = true ∧ (s.queue 4095).wmark = 0)
    ∧ ((rdy.queue 4095).cons ≠ .host ∧ (rdy.queue 4095).wmark = 0)
    ∧ (let s := rdyHost { ring := some { slots := 64 }, dmaTail := 63, dmaHead := 60 }; (s.queue 4095).ringPending = 3 ∧ (63 + 64 - 59) % 64 > 3 ∧ 63 < 64 ∧ 1 ≤ (s.part (s.owner 5 4095)).countMod) := by
  refine ⟨?_, ?_, ?_, ?_, ?_, ?_⟩ <;> decide

set_option maxRecDepth 100000 in
theorem witness_StaleAcknowledge : (let s := rdyHost { hold := true, presented := true, presentSeq := 5 }; s.who { part := 0 } = some 0 ∧ (s.queue 4095).hold = true ∧ (s.queue 4095).cons = .host ∧ 6 ≠ (s.queue 4095).presentSeq)
    ∧ (let s := rdyHost { hold := true }; (s.queue 4095).presented = false)
    ∧ (let s := rdyHost { hold := true, presented := true, packets := [{ bytes := [1], cells := [1] }] }; (s.queue 4095).packets ≠ [] ∧ (s.queue 4095).presentSeq = 0) := by
  refine ⟨?_, ?_, ?_⟩ <;> decide

set_option maxRecDepth 100000 in
theorem witness_QueueEngineEvents : (let s := rdyHost { hold := true, packets := [{ bytes := [1], cells := [1] }] }; (s.queue 4095).presented = false ∧ (s.queue 4095).cons = .host)
    ∧ (let s := rdyHost { fresh := [{ bytes := [1], cells := [1] }] }; (s.queue 4095).fresh ≠ [] ∧ (s.queue 4095).wmark = 0)
    ∧ ((rdy.queue 0).prod = .none ∧ (rdy.queue 0).ring = none ∧ 4095 < 4096)
    ∧ (let s := rdy.setQueue 7 { enable := true, prod := .can 0 }; (s.queue 7).charged < (s.queue 7).limit ∧ s.pool.reserve < s.freeCells ∧ s.pool.pinKeep < s.onFree)
    ∧ (let s := rdyDma 64 false; s.boundAtts (s.owner 5 7) 0 8 = [0] ∧ (s.att 0).masterUp = true ∧ (s.queue 7).ringPending = 0 ∧ (s.queue 7).packets ≠ [] ∧ s.pool.poisoned = [])
    ∧ (let s := rdyDma 1 true; (s.att 0).masterUp = true ∧ (s.queue 7).cons = .dma)
    ∧ ((rdy.att 0).masterUp = false) := by
  refine ⟨?_, ?_, ?_, ?_, ?_, ?_, ?_⟩ <;> decide

set_option maxRecDepth 100000 in
theorem witness_TimeCommands : (runs iDomainCfg (dsc [(0, 1, 127), (1, 1, 0), (2, 1, 15), (3, 1, 249), (4, 1, 2), (8, 4, 2000000), (12, 2, 200)] 0 0) rdy = true ∧ (cmdOf rdy (dsc [(3, 1, 249)] 0 0)).i 11 1 = -7 ∧ rdy.owns 0 10 1 = true ∧ rdy.owns 0 10 2 = true ∧ rdy.time.follow = 0 ∧ bitAt 15 0 = true)
    ∧ (runs iPtpPortCfg (dsc [(0, 4, 0x090005), (4, 1, 2), (5, 1, 251), (6, 2, 100), (8, 4, 0xFFFFFC18), (12, 4, 1000)] 0 0) rdy = true ∧ (cmdOf rdy (dsc [(8, 4, 0xFFFFFC18)] 0 0)).i 16 4 = -1000 ∧ localRes rdy 0 0x090005 = some (9, 5))
    ∧ (runs iStepPermit (dsc [(0, 1, 1)] 0 0) rdy = true ∧ rdy.time.source ≠ 3)
    ∧ (runs iDomainSwitch (dsc [(0, 1, 2)] 0 0) rdy = true ∧ rdy.time.follow ≠ 2)
    ∧ (let s := rdy.setTime { rdy.time with domB := { rdy.time.domB with st := 3 }, follow := 1 }; runs iDomainSwitch (dsc [(0, 1, 2)] 0 0) s = true ∧ s.canFollow 2 = true ∧ s.time.follow = 1)
    ∧ (let s := rdy.setTime { rdy.time with ppsLast := some 0, lt := { t := 100000000 * nsUnit } }; runs iTodSet (dsc [(0, 1, 2), (8, 8, 281474976710655)] 0 0) s = true ∧ 0 + 100000000 ≤ s.lt)
    ∧ (runs iPpsCfg (dsc [(0, 1, 1), (1, 1, 3), (4, 4, 500000)] 0 0) rdy = true)
    ∧ (runs iTrigSet (dsc [(0, 4, 0x0D003F), (8, 16, 2 ^ 31 + 100 * 2 ^ 96)] 0 0) rdy = true ∧ localRes rdy 0 0x0D003F = some (13, 63) ∧ armOk (2 ^ 31 + 100 * 2 ^ 96) = true ∧ (rdy.trig 63).held = false)
    ∧ (let s := rdy.setTrig 63 { held := true }; runs iTrigSet (dsc [(0, 4, 0x0D003F)] 0 0) s = true ∧ (s.trig 63).held = true)
    ∧ (runs iTrigRead (dsc [(0, 4, 0x0D003F)] 0 0) rdy = true ∧ rdy.mayRead 0 13 63 = true)
    ∧ (runs iCaptSet (dsc [(0, 4, 0x0E007F), (4, 2, 256), (6, 1, 3), (8, 2, 0xFFFF)] 0 0) rdy = true ∧ localRes rdy 0 0x0E007F = some (14, 127) ∧ (rdy.capt 127).queue = none)
    ∧ (let s := rdy.setQueue 4095 { prod := .capture 1 }; runs iCaptSet (dsc [(0, 4, 0x0E007F), (4, 2, 256), (8, 2, 4095)] 0 0) s = true ∧ (s.queue 4095).prod ≠ .none ∧ (s.queue 4095).prod ≠ .capture 127) := by
  refine ⟨?_, ?_, ?_, ?_, ?_, ?_, ?_, ?_, ?_, ?_, ?_, ?_⟩ <;> decide

set_option maxRecDepth 100000 in
theorem witness_DomainSwitchRegister : (rdy.boot.rescue = false ∧ rdy.who { part := 0 } = some 0 ∧ rdy.isOpen 0 = true ∧ bitsAt (3 * 2 ^ 80) 80 2 = 3 ∧ (rdy.dom 2).isGm = false)
    ∧ (bitsAt (2 * 2 ^ 80 + 2 ^ 32) 80 2 = 2 ∧ bitsAt (2 * 2 ^ 80 + 1000) 0 30 = 1000 ∧ rdy.work + 1000 ≤ 1000) := by
  refine ⟨?_, ?_⟩ <;> decide

set_option maxRecDepth 100000 in
theorem witness_ClockFollowing : (let s := rdy.setTime { rdy.time with follow := 1, lastFollow := 1, source := 1, domB := { rdy.time.domB with st := 3 } }; s.canFollow 2 = true ∧ s.canFollow 1 = false ∧ s.time.lastFollow ≠ 2)
    ∧ (let s := rdy.setTime { rdy.time with switchAt := some (0, 2) }; s.time.switchAt = some (s.work, 2))
    ∧ (let s := rdy.setTime { rdy.time with switchAt := some (1, 2) }; s.work < 1)
    ∧ (let s := rdy.setTime { rdy.time with domB := { rdy.time.domB with qualityAt := some 5 }, follow := 2 }; (s.dom 2).qualityAt = some 5 ∧ (s.dom (other 2)).qualityAt = none ∧ s.work < 5 ∧ s.time.switchAt = none)
    ∧ (let s := rdyPtp.setDom 1 { rdyPtp.dom 1 with gmId := 7, gmPort := 1 }; s.carries 1 = true ∧ s.domOf s.time.domA.num = some 1 ∧ s.domOf 128 = none ∧ (s.dom 1).st = 1 ∧ (s.dom 1).isGm = false ∧ s.time.follow = 0 ∧ s.time.source = 0 ∧ s.carries 0 = false ∧ s.carries 5 = false ∧ (s.port 2).ptpProfile = 0)
    ∧ (let s := rdyPtp; s.ptpOn 1 = true ∧ (s.dom 1).heard = [] ∧ (s.dom 1).gmId = 0 ∧ (s.dom 1).gmCapable = false ∧ (s.dom 1).lastGm = 0 ∧ 7 ≠ ownClockId s ∧ s.carries 2 = false)
    ∧ (let s := rdyPtp.setPort 1 { rdyPtp.port 1 with asCapable := false }; s.ptpOn 1 = true ∧ s.carries 1 = false ∧ (s.dom 2).st = 1)
    ∧ (let s := rdy.setTime { rdy.time with domA := { rdy.time.domA with st := 3, clk := { t := 400000000 * nsUnit } } }; lossDue s 1 = true ∧ s.time.follow ≠ 1 ∧ (s.dom 1).heard = []) := by
  refine ⟨?_, ?_, ?_, ?_, ?_, ?_, ?_, ?_⟩ <;> decide

set_option maxRecDepth 100000 in
theorem witness_ClockSending : ((rdy.dom 1).isGm = false ∧ (rdyRing.passThrough = false))
    ∧ (let s := rdyPtp.setTime { rdyPtp.time with follow := 2, source := 2, domA := { rdyPtp.time.domA with isGm := true, gmSource := 2, st := 3, annAt := some 0 } }; (s.dom 1).isGm = true ∧ s.time.follow = other 1 ∧ s.carries 1 = true ∧ s.carries 0 = false ∧ s.carries 2 = false ∧ s.carries 3 = false ∧ s.carries 4 = false ∧ s.carries 5 = false ∧ s.passThrough = false ∧ s.lt < 0 + 1000000000 ∧ s.sw.canaries = [])
    ∧ (rdyPtp.ptpOn 1 = true ∧ (rdyPtp.port 1).pdelayAt = none ∧ rdyPtp.ptpOn 0 = false ∧ (rdyPtp.port 15).ptpProfile = 0)
    ∧ (let s := rdyPtp.setPort 1 { rdyPtp.port 1 with pdelayAt := some 20000000 }; s.lt < 20000000 + (s.port 1).pdelayNs)
    ∧ (let s := rdyPtp.setPort 1 { rdyPtp.port 1 with oneStepRefused := true }; (s.port 1).oneStepRefused = true ∧ (rdyPtp.port 1).oneStepRefused = false)
    ∧ (let s := { rdy with time := { rdy.time with ppsLast := some 0, ppsRun := 2, lt := { t := 999000000 * nsUnit } } }; 0 + 1000000000 ≤ s.lt + 1000000 ∧ s.time.ppsOk = false ∧ s.time.ppsRun = 2 ∧ s.time.domA.todSec = none)
    ∧ (let s := { rdy with time := { rdy.time with ppsLast := some 0, lt := { t := 998999999 * nsUnit } } }; s.lt + 1000000 < 0 + 1000000000)
    ∧ (let s := { rdy with time := { rdy.time with ppsLast := some 0, lt := { t := 3001000001 * nsUnit } } }; 0 + 3001000000 < s.lt)
    ∧ (rdy.time.outClock = 0 ∧ rdy.time.valid = false) := by
  refine ⟨?_, ?_, ?_, ?_, ?_, ?_, ?_, ?_, ?_⟩ <;> decide

set_option maxRecDepth 100000 in
theorem witness_TriggersAndCaptures : (rdy.owns 3 13 63 = false ∧ rdy.owns 0 13 63 = true ∧ rdy.isOpen 0 = true ∧ armOk (2 ^ 31 + 99 * 2 ^ 96) = false ∧ armOk (2 ^ 30 + 49) = true ∧ bitsAt (2 ^ 30 + 50) 30 2 = 1 ∧ rdy.work + 50 ≤ 50)
    ∧ (let s := { rdy with time := { rdy.time with work := { t := 1000 * nsUnit } } }; armOk (2 ^ 31 + 5 + 100 * 2 ^ 96) = true ∧ 5 < s.work + 50)
    ∧ (let s := rdy.setTrig 63 { pending := true, mode := 2, period := 4294967295 }; (s.trig 63).next ≤ s.work ∧ s.field.hewers = [] ∧ s.queues = [])
    ∧ (let s := ({ rdy with time := { lt := { t := 2 * nsUnit } } } : State).setCapt 127 { edges := 3 }; edgeSel (s.capt 127).edges true = true ∧ (s.capt 127).lastEdge + 2 ≤ s.lt ∧ (s.capt 127).queue = none)
    ∧ (let s := ({ rdy with time := { lt := { t := 2 * nsUnit } } } : State).setCapt 127 { edges := 3, queue := some 7, overRaised := true }; edgeSel (s.capt 127).edges true = true ∧ (s.queue 7).enable = false)
    ∧ (edgeSel (rdy.capt 0).edges true = false ∧ edgeSel 1 false = false) := by
  refine ⟨?_, ?_, ?_, ?_, ?_, ?_⟩ <;> decide

set_option maxRecDepth 100000 in
theorem witness_CycleAndImageCommands : (runs iCycleStart rdyCycDesc rdyVal = true ∧ (cycleCfgOf (cmdOf rdyVal rdyCycDesc)).ok = true ∧ rdyVal.mayTake 60 = true ∧ rdyVal.mayTake 61 = true ∧ rdyVal.mayTake 62 = true ∧ rdyVal.mayTake 63 = true ∧ rdyVal.time.valid = true)
    ∧ (let s := rdyVal.setCycle { rdyVal.cycle with running := true }; runs iCycleStart rdyCycDesc s = true ∧ s.cycle.running = true ∧ runs iCycleStop (dsc [] 0 0) s = true ∧ s.cycle.stopAt = none)
    ∧ (runs iCycleStop (dsc [] 0 0) rdy = true ∧ rdy.cycle.running = false)
    ∧ (runs iImageMapSet (dsc [(0, 2, 16128), (2, 2, 0)] 0 0) rdy = true ∧ (cmdOf rdy (dsc [(0, 2, 16128), (2, 2, 0)] 0 0)).owned = true)
    ∧ (runs iSegCfg (dsc [(0, 1, 15), (1, 1, 1), (2, 2, 65535)] 0 0) rdy = true)
    ∧ (runs iImageSub (dsc [(0, 2, 4095), (2, 2, 1), (8, 8, 2)] 0 0) rdy = true ∧ pairOk (.image 0) (rdy.queue 4095).cons = true)
    ∧ (let s := rdy.setQueue 4095 { prod := .can 3 }; runs iImageSub (dsc [(0, 2, 4095), (2, 2, 1)] 0 0) s = true ∧ (s.queue 4095).prod ≠ .image 0 ∧ (s.queue 4095).prod ≠ .none) := by
  refine ⟨?_, ?_, ?_, ?_, ?_, ?_, ?_⟩ <;> decide

set_option maxRecDepth 100000 in
theorem witness_OutputGroupCommands : (let s := rdyGroup; let c := cmdOf s (dsc [(0, 4, 0x0701FF)] 0 40); runs iGroupSet (dsc [(0, 4, 0x0701FF)] 0 40) s = true ∧ localRes s 0 0x0701FF = some (7, 511) ∧ c.owned = true ∧ leAt c.bulk 1 1 = 1 ∧ leAt c.bulk 2 2 = 1 ∧ leAt c.bulk 4 2 = 1 ∧ leAt c.bulk 8 1 = 2 ∧ leAt c.bulk 12 2 = 1 ∧ ({ kind := 1, dlen := 1, handle := 0x0300FF } : Item).ok s 0 1 = true ∧ ({ kind := 1, dlen := 1, handle := 0x0300FF } : Item).owned s 0 = true ∧ leAt (bytesAt (c.bulk.drop 32) 0 8) 4 4 = 0x0300FF ∧ (s.group 511).len = 1)
    ∧ (let s := rdy.setGroup 511 { len := 1, items := [{ kind := 1, dlen := 1, handle := 5 }] }; runs iGroupEnable (dsc [(0, 4, 0x0701FF), (4, 1, 1)] 0 0) s = true ∧ itemsClash (s.group 511).items (s.driven 511) = false ∧ (s.group 511).enable = false)
    ∧ (runs iGroupEnable (dsc [(0, 4, 0x0701FF), (4, 1, 0)] 0 0) rdy = true ∧ rdy.owns 0 7 511 = true)
    ∧ (let s := rdy.setGroup 511 { len := 1 }; runs iGroupSafeSet (dsc [(0, 4, 0x0701FF)] 0 1) s = true ∧ bulkOwned s 0 0 1 = true ∧ (s.group 511).len = 1)
    ∧ (runs iGroupStatus (dsc [(0, 4, 0x0701FF)] 0 0) rdy = true ∧ rdy.mayRead 0 7 511 = true ∧ (cmdOf rdy (dsc [] 0 0)).owned = true) := by
  refine ⟨?_, ?_, ?_, ?_, ?_⟩ <;> decide

set_option maxRecDepth 100000 in
theorem witness_TwinCommands : (runs iTwinSet (dsc [(0, 1, 15)] 0 0) rdy = true ∧ (rdy.twin 15).defined = false ∧ (rdy.twin 15).maps = [])
    ∧ (let s := { rdy with island := { sram := [(0, 250)] } }; let d := dsc [(0, 1, 15), (1, 1, 250), (2, 1, 1), (3, 1, 255), (4, 2, 65534), (6, 2, 1024), (8, 2, 1023), (10, 2, 1)] 0 4; runs iTwinSet d s = true ∧ (cmdOf s d).owned = true ∧ pairFits s 1024 1023 (leAt (cmdOf s d).bulk 0 1, leAt (cmdOf s d).bulk 2 2) = true ∧ s.isLocal 250 = false)
    ∧ (let s := rdy.setTwin 15 { defined := true }; runs iTwinEnable (dsc [(0, 1, 15), (1, 1, 1)] 0 0) s = true ∧ runs iTwinStatus (dsc [(0, 1, 15)] 0 0) s = true ∧ (s.twin 15).owner = 0 ∧ (s.twin 15).enable = false ∧ (s.twin 15).role ≠ 3)
    ∧ (let s := (rdy.setTwin 15 { role := 4 }).setCycle { (rdy.setTwin 15 { role := 4 }).cycle with needRearm := true }; runs iTwinRearm (dsc [(0, 1, 15)] 0 0) s = true ∧ (s.twin 15).role = 4 ∧ (s.twin 0).role ≠ 4 ∧ s.cycle.needRearm = true)
    ∧ (let s := rdy.setTwin 15 { defined := true, role := 3, heardTally := 65534 }; runs iTwinTakeover (dsc [(0, 1, 15)] 0 0) s = true ∧ (s.twin 15).heardTally < 0xFFFF)
    ∧ (let s := rdy.setTwin 15 { defined := true, role := 2, tally := 65534 }; runs iDrill (dsc [(0, 1, 15), (8, 8, 2)] 0 0) s = true ∧ ofCycle 1 0 2 = true ∧ firstOf 1 0 (s.cycleNow + 1) + 1 ≤ 2 ∧ (s.twin 15).inUse < 0xFFFF)
    ∧ (runs iTallyRegister (dsc [(0, 1, 250), (2, 2, 511), (4, 2, 65535)] 0 0) rdy = true)
    ∧ (runs iTallyRegister (dsc [(0, 1, 250), (1, 1, 1), (2, 2, 511), (4, 2, 1)] 0 0) rdy = true ∧ rdy.cycle.regs = []) := by
  refine ⟨?_, ?_, ?_, ?_, ?_, ?_, ?_, ?_⟩ <;> decide

set_option maxRecDepth 100000 in
theorem witness_CycleInstants : (rdy.cycle.running = false)
    ∧ (let s := rdyCyc; s.cycle.running = true ∧ s.cycle.snap s.cycle.next ≤ s.work ∧ s.cycle.stopAt = none ∧ s.time.valid = true ∧ s.crush.maps = [] ∧ s.cycle.image.pendMaps = [] ∧ (s.twin 0).defined = false ∧ (s.twin 0).drillTag = none ∧ s.cycle.groups = [])
    ∧ (let s := rdyCyc.setCycle { rdyCyc.cycle with stopAt := some 3, startN := some 3, toPublish := [2], toDeadline := [2], toApply := [2] }; s.cycle.next = 3 ∧ s.cycle.snap 3 ≤ s.work ∧ s.cycle.pub 2 ≤ s.work ∧ s.cycle.image.work = none ∧ s.cycle.image.view.cycle ≠ 2 ∧ s.cycle.dl 2 ≤ s.work ∧ s.cycle.ap 2 ≤ s.work)
    ∧ (let s := rdyCyc.setTime { rdyCyc.time with valid := false }; s.time.valid = false ∧ s.cycle.snap s.cycle.next ≤ s.work)
    ∧ (let s := rdyCyc.setCycle { rdyCyc.cycle with toPublish := [2], image := { rdyCyc.cycle.image with view := { cycle := 2, size := 1009 }, publish := 3, built := 1 } }; s.cycle.image.view.cycle = 2 ∧ s.cycle.pub 2 ≤ s.work ∧ s.time.valid = true ∧ s.cycle.image.published 1009 = [0, 1])
    ∧ (let s := rdyCyc.setTime { rdyCyc.time with work := {} }; s.work < s.cycle.snap s.cycle.next)
    ∧ (let s := rdyCyc.setCycle { rdyCyc.cycle with toPublish := [99], toDeadline := [99], toApply := [99] }; s.work < s.cycle.pub 99 ∧ s.work < s.cycle.dl 99 ∧ s.work < s.cycle.ap 99)
    ∧ (let s := rdyCyc.setCycle { rdyCyc.cycle with image := { rdyCyc.cycle.image with work := some { cycle := 3, size := 16128 } } }; s.cycle.image.work = some { cycle := 3, size := 16128 } ∧ s.cycle.image.map = [])
    ∧ (let s := rdyCyc.setGroup 511 { enable := true }; s.groupLive 511 = true ∧ ofCycle (s.group 511).k (s.group 511).phase 3 = true ∧ (s.group 511).beginAt ≤ s.cycle.dl 3 ∧ (s.group 511).accTally = 0)
    ∧ (let f : GrtFrame := { hdr := { typ := tImageIn, len := 16, srcNode := 9, info := [0, 0, 0, 20, 0, 15, 0, 0] }, smac := macOfNode 0 9, payload := List.replicate 16 1 }; rdyCyc.passThrough = false ∧ grtLenOk f = true ∧ infoAt f.hdr 20 2 = 15 ∧ fullCycle rdyCyc.cycleNow (infoAt f.hdr 16 4) = 20 ∧ rdyCyc.cycleNow ≤ 20 + 16 ∧ 20 ≤ rdyCyc.cycleNow + 1 ∧ rdyCyc.fromNode f = true)
    ∧ (let f : GrtFrame := { hdr := { typ := tImageIn, info := [0, 0, 0, 200] } }; fullCycle rdyCyc.cycleNow (infoAt f.hdr 16 4) > rdyCyc.cycleNow + 1) := by
  refine ⟨?_, ?_, ?_, ?_, ?_, ?_, ?_, ?_, ?_, ?_, ?_⟩ <;> decide

set_option maxRecDepth 100000 in
theorem witness_OutputDataArrives : (let s := rdyRing.setGroup 511 { accNode := 4, accPart := 15, accTally := 65535, writers := 1 }; s.ring.node ≠ 0 ∧ (s.group 511).accNode = 4 ∧ 1 < (s.group 511).accTally ∧ bitAt (s.group 511).writers 0 = true ∧ bitAt (s.group 511).writers 1 = false)
    ∧ (let s := rdyCyc.setGroup 511 { enable := true, writers := 1 }; s.cycle.running = true ∧ 0 ≤ s.cycleNow + 16 ∧ ofCycle (s.group 511).k (s.group 511).phase 0 = true ∧ (s.group 511).beginAt ≤ s.cycle.dl 0 ∧ s.cycle.dl 0 ≤ s.work)
    ∧ (let a : Acc := { node := 7, part := 0 }; rdyRing.who a = some 0 ∧ rdyRing.isOpen 0 = true ∧ (rdyRing.part 0).ktx22 = false ∧ rdyRing.cycle.stages.length < 1024 ∧ (stageCells rdyRing [] 256).isSome = true)
    ∧ (let a : Acc := { node := 7, part := 0 }; let s := rdyRing.setCycle { rdyRing.cycle with stages := [{ node := 7, part := 0, group := 511 }] }; (decide (srcNode s a = 7)) = true ∧ bitAt (2 ^ 63) 63 = true ∧ bitsAt (2 ^ 32 + 2 ^ 48) 48 9 ≠ (s.group 511).len ∧ bitsAt (2 ^ 32) 48 9 = (s.group 511).len ∧ s.cycle.stages = [{ node := 7, part := 0, group := 511 }] ∧ 0 + 1000000 ≤ s.lt)
    ∧ (let f : GrtFrame := { hdr := { typ := tImageOut, srcNode := 9, addr := { node := 1 }, info := [0, 0, 0, 3, 1, 255, 0, 5] }, smac := macOfNode 0 9 }; rdyRing.fromNode f = true ∧ rdyRing.passThrough = false ∧ grtLenOk f = true ∧ rdyRing.partnerSets 9 = [] ∧ f.hdr.addr.node = rdyRing.ring.node ∧ infoAt f.hdr 20 2 = 511 ∧ (rdyRing.group 511).len = 0)
    ∧ (let f : GrtFrame := { hdr := { typ := tResign, addr := { node := 2 }, info := [0, 0, 0, 3, 1, 255, 0, 0] } }; grtLenOk f = true ∧ f.hdr.addr.node ≠ rdyRing.ring.node)
    ∧ (let s := rdy.setTwin 15 { defined := true, enable := true, role := 1, listen := 3, prefActive := true }; (s.twin 15).lease ≤ (s.twin 15).listen ∧ (s.twin 15).nextRole ≠ some 3)
    ∧ (let s := rdy.setTwin 15 { defined := true, enable := true, role := 3, drillTag := some (0, 7), drillAt := some 4, drillTally := 9 }; (s.twin 15).drillTag = some (0, 7) ∧ s.lt < (s.twin 15).drillSent + s.ring.cplTimeout * 100000 ∧ (s.twin 15).drillTally = 9)
    ∧ (let s := rdy.setTwin 15 { defined := true, enable := true, role := 3 }; (s.twin 15).drillTag = none ∧ (s.twin 15).role = 3)
    ∧ (let s := ({ rdy with time := { lt := { t := 2000000 * nsUnit } } } : State).setTwin 15 { defined := true, enable := true, role := 3, drillTag := some (0, 7) }; (s.twin 15).drillSent + s.ring.cplTimeout * 100000 ≤ s.lt) := by
  refine ⟨?_, ?_, ?_, ?_, ?_, ?_, ?_, ?_, ?_, ?_⟩ <;> decide

set_option maxRecDepth 100000 in
theorem witness_CanChannelCommands : (localRes rdy 0 0x010017 = some (1, 23) ∧ rdy.owns 0 1 23 = true ∧ (rdy.chan 23).mode = 0)
    ∧ (let d := dsc [(0, 4, 0x010017), (4, 1, 4), (5, 1, 20), (6, 2, 139), (8, 1, 16), (9, 1, 2), (10, 1, 29), (11, 1, 10), (12, 1, 10), (13, 1, 1), (14, 1, 11), (15, 1, 4), (16, 1, 4), (18, 1, 4), (19, 1, 12), (21, 1, 0x2D), (24, 2, 1000), (26, 2, 5), (28, 4, 1000000)] 0 0; runs iCanCfg d rdy = true ∧ (canCfgOf (cmdOf rdy d)).ok = true)
    ∧ (let d := dsc [(0, 4, 0x010017), (4, 1, 4), (5, 1, 20), (6, 2, 139), (8, 1, 16), (9, 1, 2), (10, 1, 29), (11, 1, 10), (12, 1, 10), (13, 1, 1), (14, 1, 11), (15, 1, 4), (16, 1, 4), (18, 1, 4), (19, 1, 12), (21, 1, 0x2C), (24, 2, 1000), (26, 2, 5), (28, 4, 1000000)] 0 0; let s := rdy.setChan 23 { mode := 1 }; runs iCanCfg d s = true ∧ (s.chan 23).mode ≠ 0 ∧ canCfgOf (cmdOf s d) ≠ (s.chan 23).cfg.daggered (canCfgOf (cmdOf s d)))
    ∧ (runs iCanCfg (dsc [(0, 4, 0x010017)] 0 0) rdy = true ∧ (canCfgOf (cmdOf rdy (dsc [(0, 4, 0x010017)] 0 0))).ok = false)
    ∧ (let s := rdy.setChan 23 { busy := true }; runs iCanMode (dsc [(0, 4, 0x010017), (4, 1, 4)] 0 0) s = true ∧ (s.chan 23).busy = true ∧ (s.chan 23).busOff = false)
    ∧ (runs iCanMode (dsc [(0, 4, 0x010017), (4, 1, 1)] 0 0) rdy = true ∧ (rdy.chan 23).busy = false ∧ (rdy.chan 23).mode ≠ 1)
    ∧ (let s := rdy.setChan 23 { mode := 1, busOff := true }; runs iCanMode (dsc [(0, 4, 0x010017), (4, 1, 0)] 0 0) s = true ∧ s.sessions 23 = [] ∧ runs iCanMode (dsc [(0, 4, 0x010017), (4, 1, 2)] 0 0) s = true ∧ (s.chan 23).busOff = true)
    ∧ (runs iCanMode (dsc [(0, 4, 0x010017), (4, 1, 5)] 0 0) rdy = true ∧ (rdy.part 0).ktx22 = false)
    ∧ (runs iCanQueueBind (dsc [(0, 4, 0x010017), (6, 2, 4095)] 0 0) rdy = true ∧ rdy.viewQueue 0 4095 = some 4095 ∧ (rdy.chan 23).rxq = none ∧ (rdy.queue 4095).prod = .none ∧ pairOk (.can 23) (rdy.queue 4095).cons = true)
    ∧ (runs iCanQueueBind (dsc [(0, 4, 0x010017), (4, 1, 1), (6, 2, 4095)] 0 0) rdy = true ∧ rdy.mayRead 0 1 23 = true ∧ (rdy.chan 23).freeSlot = some 0)
    ∧ (let s := rdy.setChan 23 { slots := [some 1, some 2, some 3, some 4097] }; runs iCanQueueBind (dsc [(0, 4, 0x010017), (4, 1, 1), (6, 2, 4095)] 0 0) s = true ∧ (s.chan 23).freeSlot = none)
    ∧ (let d := dsc [(0, 4, 0x010017), (4, 1, 31), (8, 4, 7), (12, 1, 1), (24, 1, 9)] 0 0; let c := cmdOf rdy d; runs iCanTxBuf d rdy = true ∧ descClean (c.bytes 16 16) = true ∧ (rdy.chan 23).cfg.accepts (frameOfDesc (c.bytes 16 16) (c.bytes 32 24)) = true ∧ descLen (c.bytes 16 16) = 1 ∧ ((c.bytes 32 24).drop 1).all (· == 0) = true ∧ c.owned = true ∧ (rdy.chan 23).fwBuf 31 = false ∧ (tblGetD (rdy.chan 23).bufs 31 {}).frame = none)
    ∧ (let s := rdy.setChan 23 { tpEn := true, bufs := [(1, { frame := some {}, onBus := true })] }; (s.chan 23).fwBuf 31 = true ∧ (s.chan 23).fwBuf 1 = false ∧ (tblGetD (s.chan 23).bufs 1 {}).onBus = true)
    ∧ (let s := rdy.setChan 23 { bufs := [(31, { frame := some {}, onBus := true })] }; runs iCanTxAbort (dsc [(0, 4, 0x010017), (4, 4, 0x80000000)] 0 0) s = true ∧ (s.chan 23).fwBuf 31 = false ∧ bitAt 0x80000000 31 = true)
    ∧ (let s := rdy.setChan 23 { bufs := [(0, { frame := some {} })] }; runs iCanTxAbort (dsc [(0, 4, 0x010017), (4, 4, 1)] 0 0) s = true ∧ (s.chan 23).fwBuf 0 = false)
    ∧ (runs iCanStatus (dsc [(0, 4, 0x010017)] 0 0) rdy = true ∧ rdy.mayRead 0 1 23 = true)
    ∧ (runs iTpCfg (dsc [(0, 4, 0x010017), (4, 1, 1), (5, 1, 255)] 0 0) rdy = true ∧ (rdy.chan 23).hostIn30 = false ∧ runs iTpCfg (dsc [(0, 4, 0x010017), (5, 1, 1)] 0 0) rdy = true ∧ rdy.sessions 23 = [])
    ∧ (let s := rdy.setChan 23 { bufs := [(31, { frame := some {} })] }; runs iTpCfg (dsc [(0, 4, 0x010017), (4, 1, 1), (5, 1, 255)] 0 0) s = true ∧ (s.chan 23).hostIn30 = true)
    ∧ (runs iAclCfg (dsc [(0, 4, 0x010017), (5, 1, 253)] 0 0) rdy = true ∧ bitAt 0 63 = false)
    ∧ (let d := dsc [(0, 4, 0x010017), (4, 1, 1), (5, 1, 253), (6, 1, 128), (7, 1, 253), (8, 8, 0x8000000000000001)] 0 0; runs iAclCfg d rdy = true ∧ (rdy.chan 23).hostIn30 = false ∧ (tblGetD (rdy.chan 23).bufs 30 {}).frame = none ∧ (rdy.chan 23).fwq = [] ∧ bitAt ((cmdOf rdy d).u 16 8) 63 = true)
    ∧ (runs iAclStatus (dsc [(0, 4, 0x010017)] 0 0) rdy = true ∧ (cmdOf rdy (dsc [(0, 4, 0x010017)] 0 0)).owned = true)
    ∧ (runs iTunnelSet (dsc [(0, 4, 0x010017), (4, 1, 250), (5, 1, 23), (8, 4, 100000), (12, 4, 1000)] 0 0) rdy = true ∧ (rdy.chan 23).tunnel = none ∧ (rdy.chan 23).freeSlot = some 0)
    ∧ (let s := rdy.setChan 23 { tunnel := some {}, slots := [some 4097, none, none, none] }; runs iTunnelSet (dsc [(0, 4, 0x010017)] 0 0) s = true ∧ (s.chan 23).tunnel.isSome = true)
    ∧ (let s := rdy.setChan 23 { slots := [some 1, some 2, some 3, some 4096] }; runs iTunnelSet (dsc [(0, 4, 0x010017), (4, 1, 2)] 0 0) s = true ∧ (s.chan 23).freeSlot = none) := by
  refine ⟨?_, ?_, ?_, ?_, ?_, ?_, ?_, ?_, ?_, ?_, ?_, ?_, ?_, ?_, ?_, ?_, ?_, ?_, ?_, ?_, ?_, ?_, ?_, ?_⟩ <;> decide

set_option maxRecDepth 100000 in
theorem witness_CanBusEvents : (let s := rdy.setChan 23 { mode := 1, sof := some 5, recv := 127 }; (s.chan 23).takesPart = true ∧ (s.chan 23).ownOnBus = false ∧ (s.chan 23).cfg.handles { idWord := 0x80000000, dlc := 15, data := [1] } = true ∧ (s.chan 23).passive = false ∧ (s.chan 23).rxq = none)
    ∧ (let s := rdyHost {}; (putPacket s 4095 (canRecord false {} 5 false false false false 0) 0 false).2 = true ∧ (putPacket rdy 7 (canRecord false {} 5 false false true false 0) 0 false).2 = false)
    ∧ (let s := rdy.setChan 23 { mode := 1, recv := 87 }; (s.chan 23).takesPart = true ∧ (s.chan 23).ownOnBus = false ∧ (s.chan 23).recv + 8 < 96)
    ∧ (let s := rdy.setChan 0 { mode := 1, tec := 255, bufs := [(2, { frame := some {}, onBus := true })] }; (s.chan 0).takesPart = true ∧ (s.chan 0).ownOnBus = true ∧ s.sessions 0 = [] ∧ tblGet (s.chan 0).bufs 2 = some { frame := some {}, onBus := true })
    ∧ (let s := rdy.setChan 0 { mode := 1, tec := 256, busOff := true, recovery := 127 }; (s.chan 0).busOff = true ∧ (s.chan 0).timed = [] ∧ (s.chan 0).bufs = [] ∧ (s.chan 0).crush = [] ∧ (rdy.chan 0).busOff = false)
    ∧ (let s := rdy.setChan 23 { mode := 2 }; (s.chan 23).takesPart = true ∧ (s.chan 23).ownOnBus = false ∧ (s.chan 23).cfg.xlEn = false ∧ (s.chan 23).cfg.fdEn = true ∧ (s.chan 23).cfg.pex = true)
    ∧ (let s := rdy.setChan 23 { mode := 1, integrating := true, pendMode := some 4 }; (s.chan 23).busOff = false ∧ (s.chan 23).pendMode = some 4 ∧ (s.chan 23).ownOnBus = false ∧ (rdy.chan 23).pendMode = none) := by
  refine ⟨?_, ?_, ?_, ?_, ?_, ?_, ?_⟩ <;> decide

set_option maxRecDepth 100000 in
theorem witness_CanTransmission : (bestOffer [(.buf 1, { idWord := 9 }), (.buf 3, { idWord := 4 })] = some (.buf 3, { idWord := 4 }))
    ∧ (let s := rdy.setChan 23 { mode := 1, bufs := [(31, { frame := some { idWord := 5 } })] }; (s.chan 23).takesPart = true ∧ (s.chan 23).sends = true ∧ (offerBest s 23 4096).2 = some (.buf 31, { idWord := 5 }) ∧ ((offerBest s 23 4096).1.chan 23).mode = 1)
    ∧ (let s := rdy.setChan 23 { mode := 1 }; (offerBest s 23 4096).2 = none ∧ (s.chan 23).onBusFrame = none ∧ (s.chan 23).feeder = none)
    ∧ (let s := rdy.setChan 23 { mode := 1, cfg := { rxOwn := false }, bufs := [(0, { frame := some { idWord := 5 }, onBus := true })] }; (s.chan 23).onBusFrame = some (.buf 0, { idWord := 5 }, false) ∧ (s.chan 23).passive = false ∧ (tblGetD (s.chan 23).bufs 0 {}).notify = false)
    ∧ (let s := (rdy.setChan 23 { mode := 1, feeder := some 7 }).setQueue 7 { enable := true, packets := [{ bytes := zeros 16 }] }; (s.chan 23).feeder = some 7 ∧ descLen (zeros 16) = 0 ∧ (s.chan 23).cfg.accepts (frameOfDesc (zeros 16) []) = true)
    ∧ (let b := leBytes 4 0x80000000 ++ leBytes 12 1; let s := (rdy.setChan 23 { mode := 1, feeder := some 7 }).setQueue 7 { enable := true, packets := [{ bytes := b }] }; (s.queue 7).launchSrc = 0 ∧ 16 < 16 + descLen b) := by
  refine ⟨?_, ?_, ?_, ?_, ?_, ?_⟩ <;> decide

set_option maxRecDepth 100000 in
theorem witness_CanServiceEvents : (let t : TpSession := { chan := 23, sa := 9, da := 255, len := 9, stage := 4090 }; let s := { rdy with can := { rdy.can with sessions := [t] } }; s.sessions 23 = [t] ∧ t.due ≤ s.lt ∧ t.phase ≠ 4 ∧ rdy.sessions 23 = [] ∧ sessionOf rdy 23 9 255 false = none)
    ∧ (let t : TpSession := { chan := 23, sa := 9, da := 255, len := 9, phase := 4, data := zeros 9 }; let s := { ((rdyHost {}).setChan 23 { tpq := some 4095 }) with can := { ((rdyHost {}).setChan 23 { tpq := some 4095 }).can with sessions := [t] } }; sessionOf s 23 9 255 false = some t ∧ ((dropSession s t).chan 23).tpq = some 4095 ∧ (putPacket (dropSession s t) 4095 t.packet 0 false).2 = true)
    ∧ (let t : TpSession := { chan := 23, transmit := true, window := 2 }; let s0 := rdy.setChan 23 { tpEn := true }; let s := { s0 with can := { s0.can with sessions := [t] }, time := { lt := { t := 50000000 * nsUnit } } }; s.firmwareRuns = true ∧ (s.chan 23).tpEn = true ∧ s.sessions 23 = [t] ∧ t.seq ≤ t.window ∧ t.sentAt + 50000000 ≤ s.lt)
    ∧ (let s := { (rdy.setChan 23 { claim := { enable := true, st := 1 } }) with time := { lt := { t := 250000000 * nsUnit } } }; (s.chan 23).claim.st = 1 ∧ (s.chan 23).claim.claimAt + 250000000 ≤ s.lt ∧ rdy.lt < (rdy.chan 23).claim.claimAt + 250000000)
    ∧ (let t : Tunnel := { remote := 2, held := [zeros 24] }; let s := rdy.setChan 23 { tunnel := some t }; (s.chan 23).tunnel = some t ∧ t.heldAt + t.batch * 1000 ≤ s.lt)
    ∧ (let f : GrtFrame := { hdr := { typ := tCanTunnel, len := 24, srcNode := 2, info := [0, 23, 0, 0, 1] }, smac := macOfNode 0 2, payload := zeros 24 }; rdyRing.fromNode f = true ∧ let s := rdyRing.setChan 23 { tunnel := some { remote := 2, rxSeq := some 0 } }; s.passThrough = false ∧ bitsAt f.hdr.flags 6 2 = 1 ∧ grtLenOk f = true ∧ infoAt f.hdr 17 1 = 23 ∧ infoAt f.hdr 20 1 = 1 ∧ tunnelRecords 1 f.payload = some [(0, {})] ∧ s.owner 1 23 = f.hdr.addr.part ∧ (s.chan 23).cfg.accepts {} = true) := by
  refine ⟨?_, ?_, ?_, ?_, ?_, ?_⟩ <;> decide

set_option maxRecDepth 100000 in
theorem witness_BitFieldRoundTrip : walk 7 16 true = [8, 9, 10, 11, 12, 13, 14, 15, 0, 1, 2, 3, 4, 5, 6, 7] ∧ (walk 7 16 true).getLast? = some 7 := by
  decide

set_option maxRecDepth 100000 in
theorem witness_FieldFallback : ({ len := 64, ranges := true } : DField).fallback = 0 ∧ 64 % 8 = 0 ∧ ({ len := 63 } : DField).len % 8 ≠ 0 ∧ ({ len := 1, fallback := 1, lastEnc := some 1 } : DField).lastEnc = some 1 ∧ ({ len := 1, fallback := 2 } : DField).fallback = 2 := by
  decide

set_option maxRecDepth 100000 in
theorem witness_CrusherCommands : (localRes rdy 0 0x0B00FF = some (11, 255) ∧ rdy.owns 0 11 255 = true ∧ rdy.mayRead 0 11 255 = true ∧ (rdy.map 255).enable = false)
    ∧ (let d := dsc [(0, 4, 0x0B00FF)] 0 56; let c := cmdOf rdyMap d; runs iMapSet d rdyMap = true ∧ leAt c.bulk 1 1 = 1 ∧ leAt c.bulk 2 2 = 1 ∧ (tplCuts c.bulk (leAt c.bulk 4 1) 56).2 = 56 ∧ (srcOf (bytesAt c.bulk 16 16)).ok = true ∧ signalOk 1 (bytesAt c.bulk 32 24) = true ∧ c.owned = true ∧ (rdyMap.map 255).enable = false ∧ (rdyMap.crushUse 255).1 = 0 ∧ twinFits rdyMap none [srcOf (bytesAt c.bulk 16 16)] [] = true)
    ∧ (let s := rdyMap.setMap 255 { enable := true }; runs iMapSet (dsc [(0, 4, 0x0B00FF)] 0 56) s = true ∧ (s.map 255).enable = true ∧ runs iMapEnable (dsc [(0, 4, 0x0B00FF)] 0 0) s = true ∧ (s.map 255).channels = [])
    ∧ (let s := rdyMap.setMap 0 { sources := List.replicate 4096 {} }; (s.crushUse 255).1 = 4096)
    ∧ (let s := rdy.setMap 255 { written := true, sources := [{ kind := 1, unit := 23 }] }; runs iMapEnable (dsc [(0, 4, 0x0B00FF), (4, 1, 1)] 0 0) s = true ∧ (s.map 255).channels = [23] ∧ (s.chan 23).freeSlot.isSome = true)
    ∧ (let s := (rdy.setMap 255 { written := true, sources := [{ kind := 1, unit := 23 }] }).setChan 23 { slots := [some 1, some 2, some 3, some 4] }; runs iMapEnable (dsc [(0, 4, 0x0B00FF), (4, 1, 1)] 0 0) s = true ∧ (s.chan 23).crusherSlot = false ∧ (s.chan 23).freeSlot.isSome = false)
    ∧ (runs iMapEnable (dsc [(0, 4, 0x0B00FF), (4, 1, 0)] 0 0) rdy = true ∧ runs iMapStatus (dsc [(0, 4, 0x0B00FF)] 0 0) rdy = true) := by
  refine ⟨?_, ?_, ?_, ?_, ?_, ?_, ?_⟩ <;> decide

set_option maxRecDepth 100000 in
theorem witness_CrusherEvents : (State.reset.firmwareRuns = false)
    ∧ (let w : CrushWork := { kind := 2, payload := [1, 2] }; let s0 := rdy.setMap 255 { enable := true, sources := [{ kind := 2 }], signals := [{ len := 16 }] }; let s := { s0 with crush := { s0.crush with work := [w] } }; s.firmwareRuns = true ∧ s.periodicDue = [] ∧ s.hewerHeads = [] ∧ s.lt < w.atLt + 10000000 ∧ s.takers w = [(255, 0)] ∧ s.cycle.image.work = none ∧ ({ len := 16 } : Signal).fits 2 = true ∧ ({ len := 17 } : Signal).fits 2 = false ∧ (s.map 255).tpls = [])
    ∧ (let w : CrushWork := { kind := 2 }; let s0 := rdy.setMap 255 { enable := true, overRaised := true, sources := [{ kind := 2 }] }; let s := { s0 with crush := { s0.crush with work := [w] }, time := { lt := { t := 10000000 * nsUnit } } }; w.atLt + 10000000 ≤ s.lt ∧ s.takers w = [(255, 0)] ∧ (s.map 255).overRaised = true ∧ rdy.lt < w.atLt + 10000000)
    ∧ (let s := { (rdy.setMap 255 { enable := true, sources := [{ kind := 2, timeout := 1 }] }) with time := { lt := { t := 1000000 * nsUnit } } }; (s.map 255).enable = true ∧ ((s.map 255).sources.getD 0 {}).lastAt + 1 * 1000000 ≤ s.lt)
    ∧ (let t : Template := { trigger := 2, period := 1000, kind := 1, len := 1 }; let s := { (rdy.setMap 255 { enable := true, tpls := [t] }) with time := { work := { t := 1000000 * nsUnit } } }; (s.map 255).tpls.getD 0 {} = t ∧ t.lastPer < s.work / (t.period * 1000) ∧ t.tooSoon s.lt = false ∧ ({ t with minGap := 1, lastSent := some (0, []) } : Template).tooSoon s.lt = true ∧ (buildTpl (s.map 255) t).2.2 = [] ∧ (s.chan 0).cfg.accepts (tplFrame t [0]) = true ∧ (s.chan 0).crush = [])
    ∧ (let t : Template := { trigger := 3, period := 1000, lastSent := some (0, []), heldBack := true }; let s := { (rdy.setMap 255 { enable := true, tpls := [t] }) with time := { lt := { t := 1000000 * nsUnit } } }; 0 + t.period * 1000 ≤ s.lt ∧ t.tooSoon s.lt = false ∧ t.heldBack = true) := by
  refine ⟨?_, ?_, ?_, ?_, ?_, ?_⟩ <;> decide

set_option maxRecDepth 100000 in
theorem witness_PinCommandsAndEvents : (localRes rdy 0 0x0300F0 = some (3, 240) ∧ rdy.owns 0 3 240 = true ∧ rdy.mayRead 0 3 240 = true ∧ rdy.hewerHeld 240 = false ∧ (rdy.pin 240).lastAct = none ∧ maskList 16 1 = [0])
    ∧ (let v := 0x03E8000000000020; let d := dsc [(0, 4, 0x0300F0), (8, 8, v)] 0 0; runs iPinCfg d rdy = true ∧ (pinCfgOf v).pull ≠ 3 ∧ (pinCfgOf v).glitch = (rdy.pin 240).cfg.glitch ∧ (pinCfgOf v).debounce = (rdy.pin 240).cfg.debounce ∧ (pinCfgOf v).stuckEn = (rdy.pin 240).cfg.stuckEn ∧ (pinCfgOf v).stuckMs ≠ 0 ∧ bitAt v 7 = false ∧ bitsAt v 21 11 = 0)
    ∧ (let v := 0x000100000000FF20; let d := dsc [(0, 4, 0x0300F0), (8, 8, v)] 0 0; runs iPinCfg d rdy = true ∧ (pinCfgOf v).glitch ≠ (rdy.pin 240).cfg.glitch ∧ (pinCfgOf v).stuckEn = (rdy.pin 240).cfg.stuckEn ∧ (pinCfgOf v).stuckMs = 1)
    ∧ (runs iPinCfg (dsc [(0, 4, 0x0300F0), (8, 8, 24)] 0 0) rdy = true ∧ runs iPinRead (dsc [(0, 4, 0x0300F0)] 0 0) rdy = true ∧ runs iPinWrite (dsc [(0, 4, 0x0300F0), (4, 2, 1), (6, 2, 1), (8, 2, 1)] 0 0) rdy = true)
    ∧ (let s := rdy.setHewer 56 { cfg := { setBase := 16 }, st := 1 }; s.hewerHeld 240 = true)
    ∧ (runs iPinTimed (dsc [(0, 4, 0x0300F0), (4, 1, 131)] 0 0) rdy = true ∧ runs iPinTimed (dsc [(0, 4, 0x0300F0), (4, 1, 3), (16, 4, 50)] 0 0) rdy = true ∧ rdy.work + 50 ≤ 50 ∧ runs iPinCountClear (dsc [(0, 4, 0x0300F0)] 0 0) rdy = true)
    ∧ (let s := rdy.setPin 255 { cfg := { glitch := 1, debounce := 7 } }; (s.bank 15).present = true ∧ 25 ≤ (s.pin 255).cfg.glitch * 25 ∧ ((s.pin 255).cfg.glitch + 1) * 25 ≤ 50 ∧ (s.pin 255).filt ≠ true)
    ∧ (let s := { (rdy.setPin 255 { cfg := { activeLow := true, debounce := 1, stuckEn := true, stuckMs := 1, countEdge := 1 }, filt := true }) with time := { lt := { t := 1000000 * nsUnit } } }; (s.pin 255).filt ≠ (s.pin 255).deb ∧ (s.pin 255).filtAt + 1000 ≤ s.lt ∧ edgeSel (s.pin 255).cfg.edgeEv true = false ∧ (s.pin 255).deb ≠ (s.pin 255).cfg.activeLow ∧ (s.pin 255).stuckArmed = true ∧ (s.pin 255).activeAt + 1 * 1000000 ≤ s.lt)
    ∧ (let s := rdy.setPin 240 { timed := some (0, true, true) }; (s.pin 240).timed = some (0, true, true) ∧ 0 ≤ s.work ∧ s.hewerHeld 240 = false ∧ (rdy.setPin 240 { timed := some (1, true, true) }).work < 1)
    ∧ (let s := (rdy.setPin 240 { timed := some (0, true, true) }).setHewer 56 { cfg := { setBase := 16 }, st := 1 }; s.hewerHeld 240 = true ∧ (s.bank 15).present = true ∧ ((s.setBank 15 { present := false }).bank 15).present = false) := by
  refine ⟨?_, ?_, ?_, ?_, ?_, ?_, ?_, ?_, ?_, ?_⟩ <;> decide

set_option maxRecDepth 100000 in
theorem witness_HewerCommands : (localRes rdy 0 0x02003F = some (2, 63) ∧ rdy.owns 0 2 63 = true ∧ (rdy.hewer 63).st = 0 ∧ (rdy.hewer 63).pktOpen = false)
    ∧ (let d := dsc [(0, 4, 0x02003F), (8, 2, 65535), (20, 1, 1), (21, 1, 32), (24, 2, 65535), (26, 2, 65535), (28, 2, 512)] 0 0; let c := cmdOf rdy d; runs iHewerCfg d rdy = true ∧ hewerCfgOk (c.bytes 16 32) = true ∧ viewCfg (rdy.part 0) (hewerCfgOf (c.bytes 16 32)) = some (hewerCfgOf (c.bytes 16 32)) ∧ cfgOwned rdy 0 63 (hewerCfgOf (c.bytes 16 32)) = true ∧ (hewerCfgOf (c.bytes 16 32)).rxQueue = 0xFFFF ∧ (hewerCfgOf (c.bytes 16 32)).txQueue = 0xFFFF)
    ∧ (let d := dsc [(0, 4, 0x02003F), (4, 1, 1)] 0 4; let s := { rdy with island := { sram := [(3, 0x68)] } }; let c := cmdOf s d; let l := (wordsOf c.bulk 1).map (viewWord (s.part 0)); runs iHewerLoad d s = true ∧ l = [0x68000000] ∧ c.owned = true ∧ l.all (wordOk 1 0) = true ∧ l.all (wordOwned s 0 63) = true)
    ∧ (let d := dsc [(0, 4, 0x02003F), (4, 1, 11), (5, 1, 255), (8, 1, 100), (9, 1, 1), (12, 4, 1000000)] 0 0; let c := cmdOf rdy d; runs iHewerLoadLib d rdy = true ∧ libListed c 11 = true ∧ libParamOk c 11 = true ∧ libUnit c 11 = none ∧ rdy.owns 0 3 252 = true ∧ rdy.owns 0 3 253 = true)
    ∧ (runs iHewerRegWrite (dsc [(0, 4, 0x02003F), (4, 1, 1), (8, 4, 9)] 0 0) rdy = true ∧ runs iHewerIrqSet (dsc [(0, 4, 0x02003F), (4, 1, 15)] 0 0) rdy = true ∧ runs iHewerStatus (dsc [(0, 4, 0x02003F)] 0 0) rdy = true ∧ rdy.mayRead 0 2 63 = true)
    ∧ (let s := rdy.setHewer 63 { prog := [0x68000000] }; let d := dsc [(0, 8, 0x8000000000000000), (8, 1, 3), (9, 1, 63)] 0 0; runs iHewerStart d s = true ∧ maskHewers (s.part 0) 0x8000000000000000 = some [63] ∧ (s.hewer 63).canStart = true ∧ s.mayBind 0 63 = true ∧ (rdy.hewer 63).canStart = false)
    ∧ (runs iHewerStop (dsc [(0, 8, 0x8000000000000000)] 0 0) rdy = true ∧ runs iFlagAssign (dsc [(0, 2, 271), (2, 1, 0)] 0 0) rdy = true ∧ rdy.flagInUse 271 = false ∧ (rdy.part 0).st ≠ 0)
    ∧ (let s := rdy.setHewer 63 { st := 1, prog := [0x8000002F] }; s.flagInUse 271 = true)
    ∧ (runs iFlagRead (dsc [(0, 1, 7)] 0 0) rdy = true ∧ runs iFlagWrite (dsc [(0, 1, 7), (4, 4, 1)] 0 0) rdy = true ∧ (rdy.flag 224).owner = 0 ∧ (rdy.flag 224).act = none ∧ ((rdy.setFlag 224 { owner := 3 }).flag 224).owner ≠ 0)
    ∧ (let s := { rdy with island := { owners := [(2 * 65536 + 63, 3)] } }; let d := dsc [(0, 8, 0x8000000000000000)] 0 0; runs iHewerStart d s = true ∧ [63].any (fun h => !s.owns 0 2 h) = true) := by
  refine ⟨?_, ?_, ?_, ?_, ?_, ?_, ?_, ?_, ?_, ?_⟩ <;> decide

set_option maxRecDepth 100000 in
theorem witness_HewerInstructions : (∀ e ∈ [(0x01, 0x0803FFFF), (0x02, 0x10060400), (0x04, 0x20018000), (0x05, 0x28000000), (0x08, 0x40010020), (0x09, 0x48050020), (0x0A, 0x50060000), (0x0B, 0x58020000), (0x0C, 0x60020000), (0x0D, 0x68000000), (0x10, 0x8000002F), (0x11, 0x88000002)], (rdy.setHewer 63 { st := 1, prog := [BitVec.ofNat 32 e.2] }).hwStarts 63 e.1 = true)
    ∧ (let x : Hewer := { st := 1, prog := [0x20048000], tlatch := true }; (rdy.setHewer 63 x).hwStarts 63 0x04 = true ∧ bitsAt x.word 15 4 = 9 ∧ (rdy.setHewer 63 { x with prog := [0x30040000] }).hwStarts 63 0x06 = true ∧ bitsAt 0x30040000 15 3 = 0 ∧ bitAt 0x30040000 18 = true ∧ rdy.hwStarts 63 0x01 = false)
    ∧ (let x : Hewer := { st := 1, prog := [0x40010020], rx := List.replicate 8 (0, false), cfg := { autoStore := true } }; (rdy.setHewer 63 x).hwStarts 63 0x08 = true ∧ x.cfg.inWidth ≤ min 32 (x.gCnt + bitsAt x.word 0 6) ∧ bitsAt x.word 16 3 ≠ 6 ∧ x.rx.length = 8 ∧ (rdy.setHewer 63 { x with prog := [0x50060000] }).hwStarts 63 0x0A = true)
    ∧ (let x : Hewer := { st := 1, prog := [0x48050020], sCnt := 32, cfg := { autoFetch := true } }; (rdy.setHewer 63 x).hwStarts 63 0x09 = true ∧ x.cfg.outWidth ≤ x.sCnt ∧ x.tx = [])
    ∧ (let x : Hewer := { st := 1, prog := [0x58000000], tx := [(5, true)] }; (rdy.setHewer 63 x).hwStarts 63 0x0B = true ∧ bitAt x.word 17 = false ∧ bitAt x.word 16 = false)
    ∧ (let x : Hewer := { st := 1, prog := [0x68000000], pktOpen := true, rx := [(1, false)] }; (rdy.setHewer 63 x).hwStarts 63 0x0D = true ∧ x.pktOpen = true)
    ∧ (let x : Hewer := { st := 1, stall := 2, prog := [0x58020000], tx := [(1, true)] }; (rdy.setHewer 63 x).tickDue 63 = true ∧ x.stall ≠ 0)
    ∧ (let s := (rdy.setHewer 0 { st := 1, prog := [0x8000001F], extU := some 0 }).setFlag 31 { act := some (0, 64) }; s.hwStarts 0 0x10 = true ∧ flagNo 0 (bitsAt (s.hewer 0).word 0 6) = 31 ∧ (s.flag 31).act = some ((s.hewer 0).edge, 64) ∧ (s.hewer 0).extU = some (s.hewer 0).edge ∧ (rdy.flag 31).act = none ∧ ((s.setFlag 31 { act := some (0, 63) }).flag 31).act = some ((s.hewer 0).edge, 63))
    ∧ (let s := (rdyHost { prod := .none }).setHewer 63 { rx := [(9, true)], cfg := { rxQueue := 4095 } }; (s.hewer 63).rx = [(9, true)] ∧ (appendOpen s 4095 (leBytes 4 9) 0 false).2 = true)
    ∧ (let s := (rdyHost { packets := [{ bytes := [1, 2, 3, 4, 5] }] }).setHewer 63 { st := 1, tx := List.replicate 7 (0, false), cfg := { txQueue := 4095 } }; (s.hewer 63).tx.length = 7 ∧ (s.queue 4095).enable = true ∧ (s.queue 4095).popped + 4 < 5 ∧ ((s.setQueue 4095 { enable := true, popped := 4, packets := [{ bytes := [1, 2, 3, 4, 5] }] }).queue 4095).popped + 4 ≥ 5)
    ∧ (let x : Hewer := { st := 2, armUnit := 63 }; let s := (rdy.setHewer 63 x).setTrig 63 { fireCount := 1 }; s.field.hewers = [(63, x)] ∧ x.armCount < (s.trig 63).fireCount) := by
  refine ⟨?_, ?_, ?_, ?_, ?_, ?_, ?_, ?_, ?_, ?_, ?_⟩ <;> decide

set_option maxRecDepth 100000 in
theorem witness_HostAccesses : ((match pcieGate rdy 7 with | .silent => true | _ => false) = true ∧ (match pcieGate (rdy.setAtt 7 { linkUp := true }) 7 with | .ur => true | _ => false) = true ∧ (match pcieGate (rdy.setAtt 7 { linkUp := true, bme := true, mse := true, bound := some 0 }) 7 with | .ok 0 => true | _ => false) = true)
    ∧ (let s := rdy.setAtt 7 { linkUp := true, bme := true, mse := true, popReply := some { lt := rdy.lt, data := zeros 8, bytes := 8, flags := 1 } }; (s.att 7).pcieUp = true ∧ (s.att 7).bound = none ∧ bitAt (s.att 7).rcvStatus 0 = false ∧ s.ring.outst = [] ∧ s.bridge.outNp = [] ∧ s.bridge.bParts = [] ∧ ((s.att 7).popReply.map (fun k => k.lt)) = some s.lt)
    ∧ (bar0At 0x3FFFFFC 4 = .space 3 0x1FFFFFC ∧ bar0At 0x203FC 4 = .msix 0x3FC ∧ bar0At 0x20400 4 = .bad ∧ (rdy.att 7).pcieUp = false ∧ (rdy.att 7).msixPend = 0)
    ∧ (let s := rdy.setAtt 11 { bound := some 0 }; (s.att 11).bound = some 0 ∧ s.isOpen 0 = true ∧ (s.att 11).up = true ∧ ((s.setAtt 11 { up := false }).att 11).up = false)
    ∧ (let r : OutReq := { tag := noTag, kind := tRead, addr := { off := 8 }, len := 8, att := 7 }; r.isPop = false ∧ rdy.boot.rescue = false ∧ (rdy.part 0).ktx22 = false ∧ rdy.isLocal 0 = true ∧ rdy.ring.node < 251 ∧ 1024 ≤ r.tag ∧ bitAt (rdy.att 7).rcvStatus 0 = false ∧ (serveTx rdy r.tx).st = 0 ∧ (serveTx rdy { r with len := 4 }.tx).st = 1) := by
  refine ⟨?_, ?_, ?_, ?_, ?_⟩ <;> decide

set_option maxRecDepth 100000 in
theorem witness_BridgeAndMemory : (let f : GrtFrame := { port := 3, hdr := { typ := tRead, len := 8 } }; let r := rdyRing; r.boot.rescue = false ∧ r.passThrough = false ∧ grtLenOk f = true ∧ (takeFromQueue r 2 f).fromNode f = false ∧ (takeFromQueue r 2 f).hostOf f = none)
    ∧ (let r := rdyRing; let f : GrtFrame := { port := 1, smac := macOfNode r.ring.ringId 250, hdr := { typ := tWriteNp, len := 8 }, payload := zeros 8 }; (takeFromQueue r 2 f).fromNode f = true ∧ (serveTx r (nodeTx f)).st ≠ 8 ∧ (serveTx (r.setCtl { r.ctl with islands := List.replicate 11 false }) (nodeTx f)).st = 8 ∧ grtLenOk f = true ∧ grtLenOk { f with hdr := { typ := tLockRead, len := 8 }, payload := [] } = true ∧ grtLenOk { f with hdr := { typ := tWriteUnlock } , payload := [] } = true)
    ∧ (let f : GrtFrame := { smac := macOfNode rdyRing.ring.ringId 2, hdr := { typ := tCompletion, tag := 3, srcNode := 2, len := 4, info := [0, 1, 0, 0, 0, 0, 0, 0] }, payload := [1, 2, 3, 4] }; let q : OutReq := { tag := 3, kind := tRead, addr := { node := 2 }, len := 4, cells := 1 }; (takeFromQueue rdyRing 2 f).fromNode f = true ∧ grtLenOk f = true ∧ infoAt f.hdr 16 1 = 0 ∧ q.isPop = false ∧ q.tag = f.hdr.tag ∧ q.addr.node = f.hdr.srcNode ∧ rdyRing.ring.outst = [] ∧ rdyRing.ring.late = [])
    ∧ (let q : OutReq := { tag := 3, kind := tRead, addr := { node := 2, space := 3, off := 0x100000 }, len := 8, cells := 1, cut := true }; q.isPop = true ∧ ({ q with spec := true } : OutReq).isPop = false ∧ bitAt (rdyRing.att q.att).rcvStatus 0 = false ∧ q.retryNow = false ∧ infoAt ({ tag := 3, srcNode := 2, info := zeros 8 } : GrtHdr) 16 1 = 0)
    ∧ (let q : OutReq := { tag := 3, kind := tRead, addr := { node := 2 }, len := 4, cells := 1 }; let s := rdyLate.setRing { rdyLate.ring with outst := [q] }; s.ring.barriers = [] ∧ q.sentAt + s.ring.cplTimeout * 100000 ≤ s.lt ∧ q.sentAt + 1000 ≤ s.lt ∧ q.retrySince + s.bridge.lockTimeout * 1000 + 10000 ≤ s.lt ∧ rdy.lt < q.sentAt + rdy.ring.cplTimeout * 100000)
    ∧ (rdy.bridge.outC = [] ∧ rdy.bridge.outNp = [] ∧ rdy.bridge.outP = [] ∧ rdyRing.ringRoom 512 = true)
    ∧ (let q : OutReq := { tag := 3, kind := tRead, addr := { node := 2 }, len := 4 }; mayIssue rdyRing [] q = true ∧ rdyRing.tagFor q = some 3)
    ∧ (let s := (rdyRing.setPort 1 { rdyRing.port 1 with egrLimit := [] }); s.ringRoom 512 = false)
    ∧ (let l : Lock := { space := 4, gran := 7 }; let s := rdyLate.setLocks [l]; s.lockOf 4 7 = some l ∧ l.atNs + s.bridge.lockTimeout * 1000 ≤ s.lt ∧ rdy.lockOf 4 7 = none ∧ (rdy.setLocks [l]).lt < l.atNs + rdy.bridge.lockTimeout * 1000)
    ∧ (Memory.wf rdy.island.sram = true ∧ Memory.wf rdy.island.ddr = true ∧ rdy.who { part := 0 } = some 0 ∧ sramAllows rdy 0 0 8 true = true ∧ rdy.bridge.locks = [] ∧ rdy.isLocal 0 = true ∧ rdy.crossable 2 = true ∧ rdy.island.badWords = []) := by
  refine ⟨?_, ?_, ?_, ?_, ?_, ?_, ?_, ?_, ?_, ?_⟩ <;> decide

set_option maxRecDepth 100000 in
theorem witness_DoorbellsMoveForwardOnly : (rdy.who {} = some 0 ∧ rdy.isOpen 0 = true ∧ (256 + 65536 - (rdy.part 0).sqHead) % 65536 ≤ 256)
    ∧ (rdy.who {} = some 0 ∧ 256 < (257 + 65536 - (rdy.part 0).sqHead) % 65536)
    ∧ (((rdy.part 0).cqTail + 65536 - 0) % 65536 ≤ ((rdy.part 0).cqTail + 65536 - (rdy.part 0).cqHead) % 65536)
    ∧ (((rdy.part 0).cqTail + 65536 - (rdy.part 0).cqHead) % 65536 < ((rdy.part 0).cqTail + 65536 - 65535) % 65536) := by
  refine ⟨?_, ?_, ?_, ?_⟩ <;> decide

set_option maxRecDepth 100000 in
theorem witness_SubmissionOrderAndOverrun : (rdyOne.mbxReady 0 = true ∧ (rdyOne.part 0).blocked = false ∧ (rdyOne.part 0).sqHead ≠ (rdyOne.part 0).sqTail ∧ 2 ≤ (rdyOne.part 0).cqRoom ∧ (rowOf (slotDesc rdyOne 0 255).1).isNone = true)
    ∧ ((rdyOne.setPart 0 { rdyOne.part 0 with cqTail := 256 }).mbxReady 0 = true ∧ ((rdyOne.setPart 0 { rdyOne.part 0 with cqTail := 256 }).part 0).cqRoom = 0)
    ∧ ((rdyTwo.part 0).sqHead ≠ (rdyTwo.part 0).sqTail ∧ (rowOf (slotDesc rdyTwo 0 0).1).isSome = true ∧ 2 ≤ (rdyTwo.part 0).cqRoom)
    ∧ (rdyAsync.mbxReady 0 = true ∧ rdyAsync.serviceStalled = false ∧ rdyAsync.pairHalted = false ∧ (rowOf 0x0100).isSome = true ∧ ((rdyAsync.part 0).cmds.map (fun x => x.opcode)) = [0x0100])
    ∧ (rdyLate.lt = 100000000 ∧ (takeFirst (fun (x : Async) => x.service && decide (x.due + overrunNs rdyLate x ≤ rdyLate.lt)) (rdyLate.part 0).cmds).isSome = true) := by
  refine ⟨?_, ?_, ?_, ?_, ?_⟩ <;> decide

set_option maxRecDepth 100000 in
theorem witness_PartitionLifeCommands : (runs iDevInfo (dsc [] 0 0) rdy = true)
    ∧ (runs iPartCreate (dsc [(0, 1, 15)] 0 0) rdy = true ∧ (rdy.part 15).st = 0)
    ∧ (runs iPartCreate (dsc [(0, 1, 1), (1, 1, 1), (2, 1, 15), (4, 4, 0x17020100), (8, 2, 3840)] 0 0) rdy = true
  ∧ (viewRes 15 3840 [0, 1, 2, 23]).all (fun r => rdy.owns 0 r.1 r.2 && !rdy.fwHeld r.1 r.2) = true)
    ∧ (runs iPartReset (dsc [(0, 1, 15)] 0 0) (rdy.setPart 15 { st := 1 }) = true ∧ (rdy.setPart 15 { st := 1 }).exists_ 15 = true)
    ∧ (runs iPartReset { dsc [(0, 1, 15)] 0 0 with part := 15 } (rdy.setPart 15 { st := 1 }) = true)
    ∧ (let a : Async := { opcode := 0x0103, desc := dsc [(0, 1, 15)] 0 0, begun := true }; waitsReset 15 a = true ∧ waitsReset 15 { a with opcode := 0x0102 } = true ∧ ((rdy.setPart 0 { cmds := [a] }).part 0).cmds = [a])
    ∧ (runs iPartDestroy (dsc [(0, 1, 1)] 0 0) (rdy.setPart 1 { st := 1 }) = true ∧ (rdy.setPart 1 { st := 1 }).exists_ 1 = true) := by
  refine ⟨?_, ?_, ?_, ?_, ?_, ?_, ?_⟩ <;> decide

set_option maxRecDepth 100000 in
theorem witness_BindingAndRegionCommands : (runs iPartBind (dsc [(0, 1, 27), (1, 1, 1)] 0 0) (rdy.setPart 1 { st := 1 }) = true
  ∧ keepsZero (rdy.setPart 1 { st := 1 }) 27 (some 1) = true ∧ (rdy.setPart 1 { st := 1 }).attBusy 27 = false)
    ∧ (runs iPartBind (dsc [(0, 1, 0), (1, 1, 0xFF)] 0 0) rdy = true ∧ keepsZero rdy 0 none = true)
    ∧ (runs iHostSet (dsc [(0, 1, 15), (8, 6, 0x020000000001), (14, 1, 5), (15, 1, 1), (16, 2, 4095)] 0 0) rdy = true
  ∧ keepsZero rdy 27 (some 0) = true ∧ rdy.attBusy 27 = false)
    ∧ (runs iSramRegionSet (dsc [(0, 1, 0), (4, 4, 4096), (8, 4, 1568768)] 0 0) rdy = true ∧ 4096 + 1568768 = 1572864
  ∧ (∀ k, k < 16 → k ≠ 0 → (rdy.region k).size = 0))
    ∧ (runs iCmdAbort (dsc [(0, 4, 9)] 0 0) (rdy.setPart 0 { st := 1, cmds := [{ part := 0, opcode := 0x0F02, desc := { tag := 9 }, bulk := [], async := true, due := 0, service := true }] }) = true)
    ∧ (runs iCmdAbort (dsc [(0, 4, 9)] 0 0) (rdy.setPart 0 { st := 1, cmds := [{ part := 0, opcode := 0x0100, desc := { tag := 9 }, bulk := [], async := true, due := 0, service := true }] }) = true) := by
  refine ⟨?_, ?_, ?_, ?_, ?_, ?_⟩ <;> decide

set_option maxRecDepth 100000 in
theorem witness_OwnershipCommands : (runs iResAssign (dsc [(0, 4, 0x030000 + 255)] 0 0) rdy = true ∧ localRes rdy 0 0x0300FF = some (3, 255) ∧ rdy.idle 3 255 = true)
    ∧ (runs iResAssign (dsc [(0, 4, 0x060000 + 6239)] 0 0) rdy = true ∧ localRes rdy 0 (0x060000 + 6239) = some (6, 6239) ∧ fixedSource 6239 = false)
    ∧ (runs iResSubscribe (dsc [(0, 4, 0x010017), (4, 1, 1)] 0 0) (rdy.setPart 1 { st := 1 }) = true ∧ localRes rdy 0 0x010017 = some (1, 23)
  ∧ 1 ≠ rdy.resOwner 1 23 ∧ (rdy.subsOf 1 23).contains 1 = false)
    ∧ ((setSubs rdy 1 23 [0]).exists_ 0 = true ∧ ((setSubs rdy 1 23 [0]).subsOf 1 23).contains 0 = true
  ∧ runs iResUnsubscribe (dsc [(0, 4, 0x010017)] 0 0) (setSubs rdy 1 23 [0]) = true)
    ∧ (runs iResQuery (dsc [(0, 4, 0x0E007F)] 0 0) rdy = true ∧ localRes rdy 0 0x0E007F = some (14, 127))
    ∧ (runs iResList (dsc [(0, 1, 10)] 0 16) rdy = true ∧ bulkOwned rdy 0 0 16 = true) := by
  refine ⟨?_, ?_, ?_, ?_, ?_, ?_⟩ <;> decide

set_option maxRecDepth 100000 in
theorem witness_EventQueueAndSources : (runs iEvqSet (dsc [(0, 2, 4095), (2, 1, 1)] 0 0) rdy = true ∧ rdy.viewQueue 0 4095 = some 4095 ∧ (rdy.queue 4095).prod = .none ∧ (rdy.part 0).evq = none ∧ rdy.boundAtts 0 8 12 = [8])
    ∧ (let s := rdy.setAtt 8 {}; s.boundAtts 0 8 12 = [] ∧ runs iEvqSet (dsc [(0, 2, 4095)] 0 0) s = true)
    ∧ (let s := rdy.setPart 0 { st := 1, evq := some 7 }; runs iEvqSet (dsc [(0, 2, 7)] 0 0) s = true ∧ (s.part 0).evq = some 7)
    ∧ (let s := rdy.setQueue 7 { enable := true }; runs iEvqSet (dsc [(0, 2, 7)] 0 0) s = true ∧ (s.part 0).evq ≠ some 7)
    ∧ (runs iEvtCfg (dsc [(0, 4, 0x060FFF), (4, 2, 0), (6, 2, 1), (8, 2, 65535), (10, 1, 250)] 0 0) rdy = true ∧ localRes rdy 0 0x060FFF = some (6, 4095) ∧ rdy.sourceOwner 4095 = some 0 ∧ rdy.sourceOwner 6284 = some 0 ∧ rdy.sourceOwner 6285 ≠ some 0)
    ∧ (runs iEvtStatus (dsc [(0, 4, 0x060000)] 0 0) rdy = true ∧ rdy.sourceOwner 0 = some 0)
    ∧ (let s := (rdy.setAtt 8 {}).setPart 0 { st := 1, evqHead := 4294967295, evqTail := 1, fired := true }; s.who { part := 0 } = some 0 ∧ s.isOpen 0 = true ∧ (s.part 0).pendingRecs = 2 ∧ 1 ≤ (s.part 0).countMod ∧ (2 + 4294967296 - 4294967295) % 4294967296 > 2 ∧ evqCtrlBad s 0 (2 ^ 32) = false ∧ evqCtrlBad s 0 0 = true ∧ s.boundAtts 0 8 12 = [])
    ∧ ((rdy.att 0).bound = some 0 ∧ (rdy.att 27).bound ≠ some 0) := by
  refine ⟨?_, ?_, ?_, ?_, ?_, ?_, ?_, ?_⟩ <;> decide

set_option maxRecDepth 100000 in
theorem witness_EventRecords : ((rdy.source 8191).storm = false ∧ bitAt ((rdy.setSource 1 { mask := 0 }).source 1).mask 15 = false ∧ bitAt ((rdy.setSource 1 { offHi := 65535 }).source 1).offHi 15 = true)
    ∧ (let s := rdy.setSource 3 { winAt := some 0, winCnt := 100 }; (s.source 3).stormN < 101 ∧ s.lt < 0 + (s.source 3).stormWin * 1000000)
    ∧ (let s := rdy.setSource 3 { winAt := some 0, winCnt := 99 }; (s.source 3).winCnt + 1 ≤ (s.source 3).stormN ∧ (s.source 3).after = false)
    ∧ (let s := rdy.setSource 3 { storm := true, lastAt := 0 }; (s.source 3).storm = true ∧ s.lt < (s.source 3).lastAt + (s.source 3).stormWin * 1000000)
    ∧ ((rdy.part 5).st ≠ 1 ∧ (rdy.part 0).st = 1 ∧ (rdy.part 0).evq = none)
    ∧ (let s := (rdy.setPart 0 { st := 1, evq := some 7, fired := true }).setQueue 7 { enable := true, pin := true, prod := .event 0, cons := .host }; (s.queue 7).charged < (s.queue 7).limit ∧ 0 < s.onFree ∧ (s.queue 7).lostBefore = false)
    ∧ (let f : GrtFrame := { smac := macOfNode rdyRing.ring.ringId 250, hdr := { typ := tEvent, len := 16 }, payload := List.replicate 16 0 }; (takeFromQueue rdyRing 2 f).fromNode f = true ∧ rdyRing.passThrough = false ∧ bitsAt f.hdr.flags 6 2 = 1 ∧ grtLenOk f = true ∧ beAt f.payload 0 2 < srcPort 0 0)
    ∧ (let s := { rdy.setSource 3 { storm := true, lastAt := 0 } with time := { lt := { t := 100000000 * nsUnit } } }; (s.source 3).lastAt + (s.source 3).stormWin * 1000000 ≤ s.lt)
    ∧ (let s := { rdy.setPart 0 { st := 1, evqTail := 1, evqTimes := [0], countMod := 5, timeMod := 65535 } with time := { lt := { t := 65535000 * nsUnit } } }; (s.part 0).pendingRecs = 1 ∧ max ((s.part 0).evqTimes.headD 0) (s.part 0).headAt + (s.part 0).timeMod * 1000 ≤ s.lt ∧ (s.part 0).target = 0) := by
  refine ⟨?_, ?_, ?_, ?_, ?_, ?_, ?_, ?_, ?_⟩ <;> decide

set_option maxRecDepth 100000 in
theorem witness_FaultLadder : (let s := rdy.setFaults { rdy.faults with safeHalt := true }; faultLevel s 0x01 0 = some 0 ∧ faultLevel s 0x13 0 = some 1 ∧ s.faults.safeHalt = true)
    ∧ (faultLevel rdy 0x01 0 = some 0 ∧ rdy.faults.handling = [] ∧ rdy.faults.resetting = false ∧ (rdy.pair 0).halted = false ∧ faultLevel rdy 0x05 3 = some 1 ∧ faultLevel rdy 0x0D 1 = some 2)
    ∧ (let s := rdy.setFaults { rdy.faults with handling := [{ code := 4, level := 2 }] }; faultLevel s 0x06 1 = some 2 ∧ faultLevel s 0x05 1 = some 1 ∧ s.faults.queued = [])
    ∧ (let s := rdy.setFaults { rdy.faults with handling := [{ code := 4, level := 2 }], queued := [{ code := 5, level := 1 }] }; s.faults.queued ≠ [] ∧ s.faults.safeHalt = false)
    ∧ (let s := rdy.setPair 2 { closed := true }; (s.pair 2).closed = true ∧ (rdy.pair 0).ok = true ∧ (rdy.pair 0).closed = false)
    ∧ (let s := { rdy.setCtl { rdy.ctl with wdRun := true, wdAt := 0 } with time := { lt := { t := 50000000 * nsUnit } } }; s.ctl.wdRun = true ∧ s.ctl.wdAt + 50000000 ≤ s.lt)
    ∧ (rdy.ctl.wdRun = false) := by
  refine ⟨?_, ?_, ?_, ?_, ?_, ?_, ?_⟩ <;> decide

set_option maxRecDepth 100000 in
theorem witness_HardwareMonitors : (rdy.ctl.temps.length = 5 ∧ rdy.ctl.tempRaised.length = 5 ∧ rdy.ctl.temps.all (fun x => decide (x < 440)) = true ∧ rdy.ctl.tempRaised.getD 4 0 = 0)
    ∧ (let s := rdy.setCtl { rdy.ctl with tempRaised := [0, 0, 0, 0, 3] }; s.ctl.tempRaised.getD 4 0 = 3)
    ∧ (rdy.queueOfCell 65535 = none ∧ rdy.copyHolds 65535 = false ∧ 65535 < 65536 + rdy.pool.extCells ∧ ({ rdy with cycle := { stages := [{ cells := [65535] }] } } : State).copyHolds 65535 = true)
    ∧ (let s := rdy.setQueue 7 { opn := some { cells := [65535] } }; s.queueOfCell 65535 = some 7)
    ∧ (rdy.ctl.debug = 0 ∧ (rdy.setCtl { rdy.ctl with debug := 2 }).ctl.debug = 2 ∧ (rdy.pair 2).halted = false)
    ∧ (let s := (rdy.setCtl { rdy.ctl with debug := 2 }).setPair 2 { halted := true }; (s.pair 2).halted = true ∧ s.ctl.debug ≠ 0)
    ∧ (debugMay 2 10 true = true ∧ debugMay 2 13 true = false ∧ debugMay 1 0 true = false ∧ debugMay 2 9 false = true ∧ rdy.debugBytes 9 131071 1 = some [0] ∧ rdy.debugBytes 9 131072 1 = none)
    ∧ ((railOf 0).isSome = true ∧ ((railOf 0).map (fun r => r.reset.isSome)) = some true ∧ (rdy.part 0).st = 1 ∧ railOf 40 = none)
    ∧ (let s := (rdy.setCtl { rdy.ctl with debug := 2 }).setPair 0 { halted := true }; s.debugReach 0 = true ∧ (s.pair 0).halted = true ∧ s.faults.queued = [] ∧ (rdy.setCtl { rdy.ctl with debug := 1 }).debugReach 2 = true) := by
  refine ⟨?_, ?_, ?_, ?_, ?_, ?_, ?_, ?_, ?_⟩ <;> decide

set_option maxRecDepth 100000 in
theorem witness_PowerCommands : (let d := dsc [(0, 4, 0x040007), (4, 2, 1000), (6, 1, 100), (7, 1, 1), (8, 2, 800), (10, 2, 1000), (12, 4, 4000), (16, 2, 300), (18, 1, 255), (19, 1, 20), (20, 2, 4), (22, 2, 600), (24, 2, 400)] 0 32; let t := { rdy with island := { sram := [(0, 1), (4, 1), (8, 1), (12, 1), (16, 1), (20, 1), (25, 1)] } }; runs iBranchCfg d t = true ∧ localRes (begins t 0) 0 0x040007 = some (4, 7) ∧ (cmdOf (begins t 0) d).len = 32 ∧ (cmdOf (begins t 0) d).owned = true ∧ (begins t 0).owns 0 4 7 = true ∧ (brCfgOf (cmdOf (begins t 0) d)).ok = true)
    ∧ (let d := dsc [(0, 4, 0x040000), (10, 2, 1000), (16, 2, 100)] 0 32; runs iBranchCfg d rdy = true ∧ (brCfgOf (cmdOf rdy d)).shortI * 100 ≤ (brCfgOf (cmdOf rdy d)).iNom * 10)
    ∧ (let d := dsc [(0, 4, 0x040000)] 0 32; (brCfgOf (cmdOf rdy d)).duty = 0 ∧ ((rdy.setBranch 0 { st := 3 }).branch 0).st ≠ 0)
    ∧ (runs iBranchSet (dsc [(0, 4, 0x040000), (4, 1, 1)] 0 0) (rdy.setBranch 0 { accepted := true }) = true ∧ (cmdOf rdy (dsc [(0, 4, 0x040000), (4, 1, 1)] 0 0)).u 12 1 = 1 ∧ (cmdOf rdy (dsc [(0, 4, 0x040000)] 0 0)).u 12 1 = 0)
    ∧ (let s := rdy.setBranch 7 { accepted := true, st := 3 }; runs iBranchSet (dsc [(0, 4, 0x040007), (4, 1, 1)] 0 0) s = true ∧ ((branchRewritten s 7).branch 7).st = 3 ∧ (branchRewritten s 7).crossable 9 = true ∧ ((branchRewritten s 7).branch 7).offCyc = none ∧ ((rdy.setBranch 7 { st := 4 }).branch 7).st = 4 ∧ (rdy.branch 7).accepted = false)
    ∧ (let s := rdy.setBranch 1 { st := 3, tModel := 5, cfg := { tempReentry := 5 } }; runs iRetryNow (dsc [(0, 4, 0x040001)] 0 0) s = true ∧ (s.branch 1).tModel ≤ (s.branch 1).cfg.tempReentry ∧ (s.branch 1).startWait = false)
    ∧ (let s := rdy.setBranch 1 { st := 3, tModel := 6, cfg := { tempReentry := 5 }, startWait := true }; (s.branch 1).cfg.tempReentry < (s.branch 1).tModel ∧ (s.branch 1).startWait = true)
    ∧ (runs iBranchStatus (dsc [(0, 4, 0x040007)] 0 0) rdy = true ∧ (cmdOf rdy (dsc [(0, 4, 0x040007)] 0 0)).owned = true ∧ rdy.mayRead 0 4 7 = true ∧ runs iBranchStatus (dsc [(0, 4, 0x040007)] 8 32) rdy = true ∧ (cmdOf rdy (dsc [(0, 4, 0x040007)] 8 32)).len = 32)
    ∧ (runs iInrushCfg (dsc [(0, 1, 8), (8, 4, 1000000), (12, 2, 250), (14, 2, 249), (16, 1, 1)] 0 0) rdy = true ∧ rdy.owns 0 13 59 = true ∧ (rdy.trig 59).mode = 0 ∧ (rdy.trig 59).held = false)
    ∧ (let s := rdy.setTrig 59 { held := true }; runs iInrushCfg (dsc [(0, 1, 1), (8, 4, 100), (12, 2, 1), (14, 2, 0)] 0 0) s = true ∧ (s.trig 59).held = true)
    ∧ (let s := rdy.setTrig 59 { mode := 1 }; (s.trig 59).held = false ∧ (s.trig 59).mode ≠ 0)
    ∧ (runs iEnergyClear (dsc [(0, 4, 0x040000)] 0 0) rdy = true ∧ localRes rdy 0 0x040000 = some (4, 0)) := by
  refine ⟨?_, ?_, ?_, ?_, ?_, ?_, ?_, ?_, ?_, ?_, ?_, ?_⟩ <;> decide

set_option maxRecDepth 100000 in
theorem witness_PowerEvents : (let s := rdy.setBranch 7 { st := 1, e := 100000000, cfg := { i2t := 1, shortI := 10, rampIlim := 1, tempTrip := 0 }, retriesLeft := 1 }; (s.branch 7).cfg.i2t * 100000000 ≤ (s.branch 7).e ∧ ((12 : Nat) : Int) < 13 ∧ (s.branch 7).cfg.tempTrip ≤ (s.branch 7).tModel ∧ min ((s.branch 7).cfg.shortI * 100) ((s.branch 7).cfg.rampIlim * 25 / 2) = 12)
    ∧ (let s := rdy.setBranch 0 { st := 2, e := 1, cfg := { i2t := 1, shortI := 10 } }; (s.branch 0).e < (s.branch 0).cfg.i2t * 100000000 ∧ (s.branch 0).retriesLeft = 0 ∧ (-1001 : Int) < -(((s.branch 0).cfg.shortI * 100 : Nat) : Int))
    ∧ ((rdy.branch 0).accepted = false ∧ (rdy.branch 0).energy * 100000000 + (rdy.branch 0).energyRem + 65535 * (Int.toNat 100000) < 2 ^ 64 * 100000000)
    ∧ (let s := rdy.setBranch 3 { st := 1, vIn := 24000, vOut := 23500 }; (s.branch 3).vIn ≤ (s.branch 3).vOut + 500 ∧ ¬ (s.branch 3).vIn ≤ 23499 + 500)
    ∧ (let s := { rdy.setBranch 3 { st := 3, cfg := { duty := 20, retryInt := 1, tempReentry := 100 }, tripAt := 100000000 } with time := { lt := { t := 5000000000 * nsUnit } } }; (s.branch 3).tripAt + (s.branch 3).cfg.retryInt * 500000000 ≤ s.lt ∧ (100000000 - 0) * (1000 - 20) ≤ (s.lt - 100000000) * 20 ∧ (s.branch 3).tModel ≤ (s.branch 3).cfg.tempReentry)
    ∧ (let s := rdy.setBranch 0 { isRetry := true, startWait := true, st := 3, retriesLeft := 3 }; let s := { s with power := { s.power with requests := [0] } }; (s.power.br.filter (fun e => e.2.st == 1)).length < s.power.k ∧ s.power.budget = 0 ∧ s.power.slotsEn = false ∧ s.boot.rescue = false ∧ s.faults.safeHalt = false)
    ∧ (let s := { rdy.setBranch 2 { st := 2, cfg := { retries := 3 } } with time := { lt := { t := 60000000000 * nsUnit } } }; (s.branch 2).onAt + 60000000000 ≤ s.lt)
    ∧ (let s := rdy.setBranch 2 { st := 3, supplyHold := true }; (s.branch 2).supplyHold = true ∧ (s.branch 2).startWait = false ∧ (rdy.branch 2).backfeed = false ∧ (rdy.branch 2).supplyHold = false)
    ∧ (let s := rdy.setBranch 2 { cfg := { ntcFitted := true } }; (s.branch 2).cfg.ntcFitted = true ∧ (s.branch 2).ntcFault = false)
    ∧ (let s := { rdy.setBranch 2 { st := 2 } with power := { (rdy.setBranch 2 { st := 2 }).power with holdAt := some 0 }, time := { lt := { t := 50000000 * nsUnit } } }; s.power.holdAt = some 0 ∧ 0 + 50000000 ≤ s.lt ∧ (s.branch 2).rewritten = false) := by
  refine ⟨?_, ?_, ?_, ?_, ?_, ?_, ?_, ?_, ?_, ?_⟩ <;> decide

set_option maxRecDepth 100000 in
theorem witness_AssayCommands : (runs iAssayInfo (dsc [] 0 0) rdy = true ∧ rdy.assay.fitted = true ∧ (begins rdy 0).assayReach = false)
    ∧ (runs iAssayInfo (dsc [] 0 0) rdyAssay = true ∧ (begins rdyAssay 0).assayReach = true ∧ rdyAssay.assay.st = 1)
    ∧ (let s := rdy.setAssay { fitted := false }; s.assay.fitted = false ∧ starts iAssayInfo (dsc [] 0 0) s = true ∧ starts iAssayMeasure (dsc [] 0 0) s = true ∧ starts iAssayZero (dsc [] 0 0) s = true)
    ∧ (let s := rdy.setAssay { fitted := false }; s.assay.fitted = false ∧ starts iAssayTare (dsc [] 0 0) s = true ∧ starts iAssayTransfer (dsc [] 4 0) s = true ∧ starts iAssayParamSet (dsc [] 4 0) s = true ∧ starts iAuditRead (dsc [] 4 0) s = true)
    ∧ (let d := dsc [(0, 4, 0x0C0005), (4, 2, 65535)] 0 0; runs iAssayMeasure d rdyAssay = true ∧ localRes (begins rdyAssay 0) 0 0x0C0005 = some (12, 5) ∧ (begins rdyAssay 0).owns 0 12 5 = true ∧ (tblGetD rdyAssay.assay.running 5 {}).kind = 0)
    ∧ (let d := dsc [(0, 4, 0x0C0003)] 0 0; runs iAssayZero d rdyAssay = true ∧ runs iAssayTare d rdyAssay = true ∧ rdyAssay.assay.masked 3 = false ∧ localRes (begins rdyAssay 0) 0 0x0C0003 = some (12, 3))
    ∧ (let s := rdyAssay.setAssay { rdyAssay.assay with params := [(pid 1 0, 15)] }; s.assay.masked 3 = true ∧ (tblGetD [(3, ({ kind := 1 } : Meas))] 3 {}).kind ≠ 0)
    ∧ (let d := dsc [(0, 8, 1), (8, 2, 512)] 0 65536; let s := rdyAssay.setAssay { rdyAssay.assay with store := [{ seq := 1, channel := 0xFF }] }; runs iAssayTransfer d s = true ∧ (cmdOf (begins s 0) d).owned = true ∧ (cmdOf (begins s 0) d).len = 128 * (cmdOf (begins s 0) d).u 16 2)
    ∧ (let d := dsc [(0, 2, 0x00BF)] 8 8; runs iAssayParamSet d rdyAssay = true ∧ (cmdOf (begins rdyAssay 0) d).owned = true ∧ (cmdOf (begins rdyAssay 0) d).len = 8 ∧ paramApplies 11 15 = true ∧ rdyAssay.assay.paramOk 11 15 (leAt (cmdOf (begins rdyAssay 0) d).bulk 0 8) = true ∧ rdyAssay.assay.sealLevel = true ∧ rdyAssay.assay.uses 15 = false ∧ rdyAssay.assay.audit.length < 1024)
    ∧ ((rdyAssay.setAssay { rdyAssay.assay with running := [(0, { kind := 1 })] }).assay.uses 15 = true ∧ paramApplies 14 0 = false)
    ∧ (let d := dsc [(0, 2, 1023)] 8 40; runs iAuditRead d rdyAssay = true ∧ (cmdOf (begins rdyAssay 0) d).owned = true ∧ (cmdOf (begins rdyAssay 0) d).len % 40 = 0) := by
  refine ⟨?_, ?_, ?_, ?_, ?_, ?_, ?_, ?_, ?_, ?_, ?_⟩ <;> decide

set_option maxRecDepth 100000 in
theorem witness_AssayEvents : (rdy.assay.fitted = true ∧ rdy.assay.powered = false ∧ rdy.assay.trial = none ∧ rdyAssay.assay.powered = true ∧ rdyAssay.assay.st = 1)
    ∧ (let s := rdyAssay.setAssay { rdyAssay.assay with st := 0, selfFails := 2 }; s.assay.st = 0 ∧ s.assay.selfFails = 2)
    ∧ (rdyAssay.assay.startDue = false ∧ rdyAssay.assay.trial = none ∧ rdyAssay.assay.running = [] ∧ rdyAssay.assay.waiting = [] ∧ rdyAssay.boot.upd = none ∧ rdyAssay.assay.sealLevel ≠ false)
    ∧ (rdyAssay.assayReach = true ∧ (rdyAssay.setAssay { rdyAssay.assay with hubAt := some 0, time := 10000000 }).assay.hubAt = some 0)
    ∧ (rdyAssay.assay.param 13 5 ≤ 20 ∧ ¬ rdyAssay.assay.param 13 5 ≤ 19 ∧ tblGetD rdyAssay.assay.excFault 3 false ≠ true)
    ∧ (let s := rdyAssay.setAssay { rdyAssay.assay with waiting := [{ pid := 0xBF, value := 4 }] }; s.assay.uses 15 = false ∧ s.assay.audit.length < 1024 ∧ s.assay.waiting = [{ pid := 0xBF, value := 4 }])
    ∧ (let s := rdyAssay.setAssay { rdyAssay.assay with running := [(3, { kind := 1, samples := 1 })], time := 100000000 }; (tblGetD s.assay.running 3 {}).kind = 1 ∧ 0 + 1 * 1000000000 / s.assay.param 2 3 ≤ s.assay.time)
    ∧ (let s := rdyAssay.setAssay { rdyAssay.assay with running := [(5, { kind := 1, samples := 65535 })], time := 65535000000 }; (tblGetD s.assay.running 5 {}).kind = 1 ∧ 0 + 65535 * 1000000 ≤ s.assay.time)
    ∧ (let s := rdyAssay.setAssay { rdyAssay.assay with running := [(0, { kind := 2 })], time := 100000000 }; 0 + s.assay.motionMs 0 * 1000000 ≤ s.assay.time)
    ∧ (rdy.assayReach = false ∧ rdy.mayRead 5 12 5 = false ∧ rdy.assay.fitted = true) := by
  refine ⟨?_, ?_, ?_, ?_, ?_, ?_, ?_, ?_, ?_, ?_⟩ <;> decide

set_option maxRecDepth 100000 in
theorem witness_UpdateCommands : (runs iUpdBegin (dsc [(0, 1, 1), (4, 4, 8388608)] 0 0) rdy = true ∧ 8388608 ≤ slotSize 1 ∧ rdy.boot.flashOk = true ∧ rdy.boot.upd.isNone = true ∧ rdy.boot.current.trial = false)
    ∧ (runs iUpdData (dsc [(0, 4, 0)] 0 8) (rdyUpd 8 0 false) = true ∧ bulkOwned (rdyUpd 8 0 false) 0 0 8 = true)
    ∧ (runs iUpdVerify (dsc [] 0 0) (rdyUpd 8 8 false) = true)
    ∧ (runs iUpdActivate (dsc [] 0 0) (rdyUpd 8 8 true) = true)
    ∧ (runs iUpdConfirm (dsc [] 0 0) (rdy.setBoot { rdy.boot with trialRun := true }) = true)
    ∧ (runs iUpdAbort (dsc [] 0 0) (rdyUpd 8 3 false) = true) := by
  refine ⟨?_, ?_, ?_, ?_, ?_, ?_⟩ <;> decide

set_option maxRecDepth 100000 in
theorem witness_BootInfoAndWarmResetCommands : (runs iBootInfo (dsc [] 0 0) rdy = true)
    ∧ (runs iWarmReset (dsc [] 0 0) rdy = true)
    ∧ (runs iTempRead (dsc [] 0 0) rdy = true)
    ∧ (runs iLogRead (dsc [(0, 4, 0xFFFFFFFF)] 8 64) rdy = true ∧ bulkOwned rdy 0 8 64 = true ∧ rdy.boot.log.length ≤ 1)
    ∧ (runs iCellHeaderRead (dsc [(0, 4, 65535)] 0 0) rdy = true ∧ 65535 < 65536 + rdy.pool.extCells)
    ∧ (runs iDebugUnlock (dsc [] 0 0) rdy = true ∧ rdy.cycle.twins.any (fun e => e.2.role == 2) = false)
    ∧ (runs iDebugUnlock (dsc [(0, 1, 1)] 0 64) rdyAsked = true ∧ bulkOwned rdyAsked 0 0 64 = true ∧ rdyAsked.lt ≤ 0 + 60000000000) := by
  refine ⟨?_, ?_, ?_, ?_, ?_, ?_, ?_⟩ <;> decide

set_option maxRecDepth 100000 in
theorem witness_CounterReads : (runs iCountersRead (dsc [(4, 4, 0x03000A)] 0 64) rdy = true ∧ localRes rdy 0 0x03000A = some (3, 10) ∧ bulkOwned rdy 0 0 64 = true ∧ rdy.mayRead 0 3 10 = true ∧ 8 * (resCtrs rdy 3 10).length ≤ 64)
    ∧ (runs iCountersRead (dsc [(2, 1, 1), (4, 4, 0x03000A)] 0 64) rdy = true ∧ rdy.owns 0 3 10 = true ∧ rdy.fwHeld 3 10 = false)
    ∧ (runs iCountersRead (dsc [(0, 1, 4)] 0 4096) rdy = true ∧ bulkOwned rdy 0 0 4096 = true ∧ 8 * hubCtrs.length ≤ 4096) := by
  refine ⟨?_, ?_, ?_⟩ <;> decide

set_option maxRecDepth 100000 in
theorem witness_ResetsAndStartUp : (State.reset.boot.running = false ∧ State.reset.boot.rescue = false ∧ State.reset.faults.safeHalt = false ∧ State.reset.hotHold = false
  ∧ (State.reset.setBoot { State.reset.boot with rescueN := false }).boot.rescueN = false)
    ∧ (({ State.reset with boot := { trialRun := true }, time := { lt := { t := 600000000000 * nsUnit } } } : State).lt = 600000000000)
    ∧ (({ State.reset with boot := { running := true, flashOk := false } } : State).boot.configured = false) := by
  refine ⟨?_, ?_, ?_⟩ <;> decide

/-- R383: the descriptor's widths; each check refuses a term beyond it. -/
theorem test_desc_wf : Desc.wf (dsc [(0, 4, 1)] 8 32) = true ∧ Desc.wf { part := 16 } = false ∧ Desc.wf { flags := 256 } = false
    ∧ Desc.wf { byte3 := 256 } = false ∧ Desc.wf { tag := 2 ^ 32 } = false ∧ Desc.wf { params := zeros 49 } = false
    ∧ Desc.wf { bulkOff := 2 ^ 32 } = false ∧ Desc.wf { bulkLen := 2 ^ 32 } = false := by decide

/-- R40: the address's widths. -/
theorem test_ringAddr_wf : RingAddr.wf { node := 255, part := 15, space := 15, off := 2 ^ 48 - 1 } = true
    ∧ RingAddr.wf { node := 256 } = false ∧ RingAddr.wf { part := 16 } = false ∧ RingAddr.wf { space := 16 } = false
    ∧ RingAddr.wf { off := 2 ^ 48 } = false := by decide

/-- R23, R301: the access's widths. -/
theorem test_acc_wf : Acc.wf { node := 255, part := 15, att := some 27 } = true ∧ Acc.wf { node := 256 } = false
    ∧ Acc.wf { part := 16 } = false ∧ Acc.wf { att := some 28 } = false := by decide

/-- R49: the frame's widths. -/
theorem test_grtFrame_wf : GrtFrame.wf {} = true ∧ GrtFrame.wf { port := 16 } = false ∧ GrtFrame.wf { smac := 2 ^ 48 } = false
    ∧ GrtFrame.wf { vid := 4096 } = false ∧ GrtFrame.wf { hdr := { addr := { node := 256 } } } = false
    ∧ GrtFrame.wf { hdr := { srcNode := 256 } } = false ∧ GrtFrame.wf { hdr := { srcPart := 16 } } = false
    ∧ GrtFrame.wf { hdr := { tag := 65536 } } = false ∧ GrtFrame.wf { hdr := { info := zeros 9 } } = false := by decide

/-- R226, R229: the CAN frame's widths. -/
theorem test_canFrame_wf : CanFrame.wf { dlc := 15, xlFields := zeros 8 } = true ∧ CanFrame.wf { idWord := 2 ^ 32 } = false
    ∧ CanFrame.wf { dlc := 16 } = false ∧ CanFrame.wf { xlFields := zeros 9 } = false := by decide

/-- No row of the table has bits, so no word spells a command. -/
theorem test_decode_none : decodeTableWord 32 0xFFFFFFFF = none := by decide

/-- R443: a load of 30 A over I_NOM 10 A adds (900 − 100) × 0.01 = 8 A²·ms, and 15 A adds 1.25 A²·ms, in each sample. -/
theorem test_breaker_content :
    ((({ cfg := { iNom := 1000 } } : Branch).take { i := 30000 } 100 0).e = 800000000)
      ∧ ((({ cfg := { iNom := 1000 } } : Branch).take { i := 15000 } 100 0).e = 125000000) := by
  simp [Branch.take]

/-- R435: with DUTY 20 a trip after 100 ms is retried after 4.9 s, one that comes at once after RETRY_INT. -/
theorem test_retry_interval :
    ({ cfg := { duty := 20, retryInt := 4 }, tripAt := 100000000 } : Branch).retryAfter = 4900000000
      ∧ ({ cfg := { duty := 20, retryInt := 4 } } : Branch).retryAfter = 2000000000 := by decide

/-- Worked example of chapter 16: during the ramp a RAMP_ILIM of 8 A puts the comparator at 10 A, below the SHORT_I of 30 A. -/
theorem test_short_in_ramp :
    ({ st := 1, cfg := { rampIlim := 800, shortI := 300 } } : Branch).shorted 10001 = true
      ∧ ({ st := 1, cfg := { rampIlim := 800, shortI := 300 } } : Branch).shorted 10000 = false
      ∧ ({ st := 2, cfg := { rampIlim := 800, shortI := 300 } } : Branch).shorted 10001 = false := by decide

set_option maxRecDepth 100000 in
/-- R209: the CRC-32 of IEEE 802.3, whose check value over "123456789" is 0xCBF43926. -/
theorem test_crc32 : crc32 [0x31, 0x32, 0x33, 0x34, 0x35, 0x36, 0x37, 0x38, 0x39] = 0xCBF43926 := by decide

/-- R349: a doorbell that would pass 256 slots leaves the tail and sets DOORBELL_ERR. -/
theorem test_doorbell : (match exec (.mbxSqTailWrite {} 257) rdy with
    | .next t => (t.part 0).sqTail == 0 && (t.part 0).doorbellErr | _ => false) = true := by decide

/-- R350: a partition 0 command of partition 3 completes with DENIED and the settings stay. -/
theorem test_p0_denied : (match exec (.inrushCfg { dsc [(0, 1, 1), (8, 4, 100), (12, 2, 1)] 0 0 with part := 3 }) (rdy.setPart 3 { st := 1 }) with
    | .next t => leAt ((memRead (t.part 3).cq 0 32)) 4 2 == stDenied && t.power.k == 2 | _ => false) = true := by decide


/-- R507: the worked examples: pin 70 is ball B20 and pin 200 is ball AN18, and each ball carries its pin. -/
theorem test_pin_balls : pinBall 70 = (2, 20) ∧ pinBall 200 = (32, 18) ∧ rowNames.getD 1 "" = "B" ∧ rowNames.getD 31 "" = "AN"
    ∧ ballAt true 2 20 = some (Ball.sig "FP" 70) ∧ ballAt true 32 18 = some (Ball.sig "FP" 200) := by decide

end Sys2Proof.Tests
end

/-!
SUPPORT. What a HOLD_ACK reads of the state, what releasing a packet and raising a notice leave of it, and O18 (R114, R115).

Releasing the head evaluates the watermark (R117), which may deliver an event record into any queue, send a frame or signal a
host. The view `State.served` holds just what decides a HOLD_ACK; each operation on that way has one lemma that says it keeps
the view, so a second HOLD_ACK finds its queue as the first one left it.
-/
namespace Sys2Proof.Machine

/-- What a HOLD_ACK reads of its queue, but the SEQ. -/
structure HoldPort where
  /-- The consumer (R105). -/
  cons : Consumer
  /-- HOLD mode (R114). -/
  hold : Bool
  /-- The queue is enabled and presents a packet (R104, R114). -/
  presenting : Bool

/-- The HOLD port of a queue. -/
def Queue.holdPort (x : Queue) : HoldPort := ⟨x.cons, x.hold, x.enable && x.presented⟩

/-- What decides how an access to a queue's port in HOLD mode is served. -/
@[ext] structure Served where
  /-- Rescue station mode (R501). -/
  rescue : Bool
  /-- The partition that an access is made as. -/
  who : Acc → Option Nat
  /-- The partitions that take accesses. -/
  isOpen : Nat → Bool
  /-- Ownership (R337). -/
  owns : Nat → Nat → Nat → Bool
  /-- The HOLD ports. -/
  port : Nat → HoldPort

/-- The view of a state. -/
def State.served (s : State) : Served := ⟨s.boot.rescue, s.who, s.isOpen, s.owns, fun q => (s.queue q).holdPort⟩

/-- The view with the HOLD port of queue `q` written. -/
def Served.setPort (v : Served) (q : Nat) (h : HoldPort) : Served := { v with port := fun j => if j = q then h else v.port j }

/-- The view in which queue `q` presents nothing any more. -/
def Served.released (v : Served) (q : Nat) : Served := v.setPort q { v.port q with presenting := false }

/-- A HOLD port written as it stands changes nothing. -/
theorem Served.setPort_self (v : Served) (q : Nat) : v.setPort q (v.port q) = v := by
  refine Served.ext rfl rfl rfl rfl (funext fun j => ?_)
  show (if j = q then v.port q else v.port j) = v.port j
  split
  · next hj => rw [hj]
  · rfl

/-! What writes of single parts leave of the view. -/

@[simp] theorem served_count (s : State) (c : CtrId) (i n : Nat) : (s.count c i n).served = s.served := rfl
@[simp] theorem served_emit (s : State) (o : Output) : (s.emit o).served = s.served := rfl
@[simp] theorem served_setPort (s : State) (p : Nat) (x : Port) : (s.setPort p x).served = s.served := rfl
@[simp] theorem served_setSource (s : State) (e : Nat) (x : EvSrc) : (s.setSource e x).served = s.served := rfl

@[simp] theorem served_countIf (s : State) (b : Bool) (c : CtrId) (i : Nat) : (s.countIf b c i).served = s.served := by
  cases b <;> rfl

@[simp] theorem served_arrived (s : State) (a : Acc) (c : CtrId) : (s.arrived a c).served = s.served := by
  unfold State.arrived; split <;> rfl

/-- A queue's write changes the view in that queue's HOLD port alone. -/
theorem served_setQueue (s : State) (q : Nat) (x : Queue) : (s.setQueue q x).served = s.served.setPort q x.holdPort := by
  refine Served.ext rfl rfl rfl rfl (funext fun j => ?_)
  show ((s.setQueue q x).queue j).holdPort = if j = q then x.holdPort else (s.queue j).holdPort
  split
  · next hj => rw [hj, State.setQueue_queue_same]
  · next hj => rw [State.setQueue_queue_ne _ _ _ hj]

/-- A queue's contents do not show in the view. -/
@[simp] theorem served_setQueue_contents {s : State} {q : Nat} {x : Queue} (hc : x.cons = (s.queue q).cons)
    (hh : x.hold = (s.queue q).hold) (he : x.enable = (s.queue q).enable) (hp : x.presented = (s.queue q).presented) :
    (s.setQueue q x).served = s.served := by
  have hsame : x.holdPort = s.served.port q := by simp [Queue.holdPort, State.served, hc, hh, he, hp]
  rw [served_setQueue, hsame, Served.setPort_self]

/-- A partition's write that leaves it open or closed does not show in the view. -/
@[simp] theorem served_setPart_of_st {s : State} {p : Nat} {x : Partition} (h : x.st = (s.part p).st) :
    (s.setPart p x).served = s.served := by
  have hopen : (s.setPart p x).isOpen = s.isOpen := by
    funext j
    by_cases hj : j = p
    · subst hj; simp [State.isOpen, h]
    · simp [State.isOpen, hj]
  exact Served.ext rfl rfl hopen rfl rfl

/-- An attachment's write that keeps it up or down and its binding does not show in the view. -/
theorem served_setAtt {s : State} {n : Nat} {x : Att} (hup : x.pcieUp = (s.att n).pcieUp)
    (hbound : x.bound = (s.att n).bound) : (s.setAtt n x).served = s.served := by
  have hwho : (s.setAtt n x).who = s.who := by
    funext a
    cases ha : a.att with
    | none => simp [State.who, ha]
    | some m =>
      by_cases hm : m = n
      · subst hm; simp [State.who, ha, hup, hbound]
      · simp [State.who, ha, hm]
  exact Served.ext rfl hwho rfl rfl rfl

/-- Either branch keeps the view. -/
theorem served_ite {b : Prop} [Decidable b] {s t : State} {v : Served} (hs : s.served = v) (ht : t.served = v) :
    (if b then s else t).served = v := by
  split
  · exact hs
  · exact ht

/-- A loop of operations that keep the view keeps it. -/
theorem served_forEach {α : Type} (f : α → State → State) (hf : ∀ a s, (f a s).served = s.served) (l : List α) (s : State) :
    (forEach l s f).served = s.served := by
  induction l generalizing s with
  | nil => rfl
  | cons a r ih => exact (ih (f a s)).trans (hf a s)

/-! The cell pool (R87, R88, R100, R102, R118). -/

@[simp] theorem served_chargeIng (s : State) (p : Nat) (d : Int) : (s.chargeIng p d).served = s.served := rfl
@[simp] theorem served_chargeEg (s : State) (p c : Nat) (d : Int) : (s.chargeEg p c d).served = s.served := rfl

@[simp] theorem served_freeCell (s : State) (c : Nat) : (freeCell s c).served = s.served := by
  show (joinFreed s).served = _
  unfold joinFreed; split <;> rfl

@[simp] theorem served_freeAll (l : List Nat) (s : State) : (freeAll s l).served = s.served :=
  served_forEach (fun c s => freeCell s c) (fun c s => served_freeCell s c) l s

@[simp] theorem served_freePacket (s : State) (k : Packet) : (freePacket s k).served = s.served := by
  rw [freePacket, served_freeAll]
  unfold unchargePacket; split <;> rfl

@[simp] theorem served_freeCopy (s : State) (k : Copy) : (freeCopy s k).served = s.served := by simp [freeCopy]

@[simp] theorem served_takeOn (s : State) : (takeOn s).2.served = s.served := by unfold takeOn; split <;> rfl

theorem served_grantExt {s t : State} {c : Nat} (h : grantExt s = .ok c t) : t.served = s.served := by
  unfold grantExt at h
  split at h
  · cases h
  · cases h
    show (takeExt s).2.served = _
    unfold takeExt; split <;> rfl

theorem served_takeCell {s t : State} {pin : Bool} {c : Nat} (h : takeCell s pin = .ok c t) : t.served = s.served := by
  unfold takeCell at h
  split at h
  · split at h
    · cases h; exact served_takeOn s
    · cases h
  · split at h
    · cases h; exact served_takeOn s
    · split at h
      · exact served_grantExt h
      · split at h
        · cases h; exact served_takeOn s
        · cases h

theorem served_grantCell {s t : State} {pin ev : Bool} {cls c : Nat} (h : grantCell s pin cls ev = .ok c t) :
    t.served = s.served := by
  unfold grantCell at h
  dsimp only at h
  split at h
  · split at h
    · next hc => cases h; rw [served_countIf, served_takeCell hc]
    · cases h
  · cases h

/-- A cell granted after a check was granted by what follows the check. -/
theorem grant_of_not_refused {b : Prop} [Decidable b] {w : Refused} {g : Grant} {c : Nat} {t : State}
    (h : (if b then .no w else g) = Grant.ok c t) : g = .ok c t := by
  split at h
  · cases h
  · exact h

theorem served_grantForQueue {s t : State} {q cls c : Nat} {ev : Bool} {i : Option Nat}
    (h : grantForQueue s q cls ev i = .ok c t) : t.served = s.served := by
  unfold grantForQueue at h
  replace h := grant_of_not_refused h
  split at h
  · exact served_grantCell h
  · cases h

/-! Packets of a queue (R104 to R108, R116): none of this presents a packet or changes the mode. -/

@[simp] theorem served_growOpen (q cls : Nat) (ev : Bool) (n : Nat) (s : State) :
    (growOpen s q cls ev n).1.served = s.served := by
  induction n generalizing s with
  | zero => rfl
  | succ n ih =>
    unfold growOpen
    split
    · rfl
    · next hg => simp [ih, served_grantForQueue hg]

@[simp] theorem served_countRefused (s : State) (q : Nat) (w : Refused) : (countRefused s q w).served = s.served := by
  cases w <;> rfl

@[simp] theorem served_flushNow (s : State) (q : Nat) : (flushNow s q).served = s.served := by
  unfold flushNow
  dsimp only
  simp only [served_setQueue_contents, served_count, served_forEach _ (fun k s => served_freePacket s k)]

@[simp] theorem served_flushIfPending (s : State) (q : Nat) : (flushIfPending s q).served = s.served := by
  unfold flushIfPending; split <;> simp

@[simp] theorem served_abortOpen (s : State) (q : Nat) : (abortOpen s q).served = s.served := by
  unfold abortOpen
  split
  · rfl
  · simp only [served_flushIfPending, served_setQueue_contents, served_count, served_freePacket]

@[simp] theorem served_appendOpen (s : State) (q : Nat) (d : List Byte) (cls : Nat) (ev : Bool) :
    (appendOpen s q d cls ev).1.served = s.served := by
  unfold appendOpen
  dsimp only
  split
  · simp
  split
  · simp
  · have hgrow := served_growOpen q cls ev
      (cellsFor ((s.queue q).openBytes + d.length) - ((s.queue q).opn.getD {}).cells.length)
      (s.setQueue q { s.queue q with opn := some ((s.queue q).opn.getD {}) })
    split <;> next hg => rw [hg] at hgrow; simpa using hgrow

@[simp] theorem served_commitPacket (s : State) (q : Nat) (k : Packet) (l : Option Nat) :
    (commitPacket s q k l).served = s.served := by
  unfold commitPacket
  dsimp only
  simp only [served_flushIfPending, served_count, served_setQueue_contents]
  rfl

@[simp] theorem served_commitOpen (s : State) (q : Nat) (l : Option Nat) : (commitOpen s q l).served = s.served := by
  unfold commitOpen
  dsimp only
  split
  · simp
  · split
    · simp
    · split <;> simp

@[simp] theorem served_putPacket (s : State) (q : Nat) (d : List Byte) (cls : Nat) (ev : Bool) :
    (putPacket s q d cls ev).1.served = s.served := by
  have happend := served_appendOpen s q d cls ev
  unfold putPacket
  split <;> next hp => rw [hp] at happend; simpa using happend

/-! Frames that a unit of the hub sends (R17, R32, R123). -/

@[simp] theorem served_grantCopy (i o c n : Nat) (s : State) (l : List Nat) : (grantCopy s i o c n l).1.served = s.served := by
  induction n generalizing s l with
  | zero => rfl
  | succ n ih =>
    unfold grantCopy
    split
    · rfl
    split
    · rfl
    · split
      · rfl
      · next hg => rw [ih, served_chargeEg, served_chargeIng, served_grantCell hg]

@[simp] theorem served_countCopyRefused (s : State) (i o c : Nat) (w : Refused) :
    (countCopyRefused s i o c w).served = s.served := by
  cases w <;> rfl

@[simp] theorem served_pushCopy (s : State) (k : Copy) : (s.pushCopy k).served = s.served := rfl

@[simp] theorem served_enqueueFrame (s : State) (f : Frame) (i o c : Nat) (l : Option Nat) :
    (enqueueFrame s f i o c l).served = s.served := by
  have hgrant := served_grantCopy i o c (cellsFor f.len) s []
  unfold enqueueFrame
  split <;> next hg => rw [hg] at hgrant; simpa using hgrant

@[simp] theorem served_sendRing (s : State) (f : Frame) (i c : Nat) (l : Option Nat) :
    (sendRing s f i c l).served = s.served := by
  unfold sendRing
  dsimp only
  rw [served_enqueueFrame, served_enqueueFrame]; rfl

@[simp] theorem served_putFrame (s : State) (q : Nat) (f : Frame) (cls : Nat) (e : Option Nat) :
    (putFrame s q f cls e).served = s.served := by
  have happend := served_appendOpen s q (frameBytes f) cls (q == qEventTx)
  unfold putFrame offerFrame
  split <;> next hp => rw [hp] at happend; simpa using happend

@[simp] theorem served_sendVia (s : State) (q mac : Nat) (h : GrtHdr) (d : List Byte) :
    (sendVia s q mac h d).served = s.served := by
  unfold sendVia; dsimp only; split <;> simp

/-! Event records and their notification (R364 to R373). -/

@[simp] theorem served_sendMsix (s : State) (fn v : Nat) : (sendMsix s fn v).served = s.served := by
  unfold sendMsix
  dsimp only
  split
  · exact served_setAtt rfl rfl
  · simp

@[simp] theorem served_signalTarget (s : State) (p : Nat) : (signalTarget s p).served = s.served := by
  unfold signalTarget
  split
  · split <;> simp
  · split
    · exact served_forEach _ (fun a s => by exact served_setAtt rfl rfl) _ _
    · rfl

@[simp] theorem served_testNotify (s : State) (p : Nat) : (testNotify s p).served = s.served := by
  unfold testNotify
  dsimp only
  split <;> simp

@[simp] theorem served_commitRecord (s : State) (p src node cause flags data time : Nat) :
    (commitRecord s p src node cause flags data time).served = s.served := by
  unfold commitRecord
  dsimp only
  split
  · simp
  · split
    · simp
    · next q _ =>
      have hput := served_putPacket s q
        (recordBytes src node cause (flags + if (s.queue q).lostBefore then 4 else 0) data time) 0 true
      split <;> next hp => rw [hp] at hput; simpa using hput

@[simp] theorem served_deliverRecord (s : State) (src cause flags data : Nat) :
    (deliverRecord s src cause flags data).served = s.served := by
  unfold deliverRecord
  split
  · rfl
  · dsimp only
    split
    · exact served_count s _ _ _
    · split
      · exact served_commitRecord s _ _ _ _ _ _ _
      · exact served_sendVia s _ _ _ _

@[simp] theorem served_raise (s : State) (src cause data : Nat) : (raise s src cause data).served = s.served := by
  unfold raise
  dsimp only
  have hdeliver (x : EvSrc) (c f d : Nat) : (deliverRecord (s.setSource src x) src c f d).served = s.served :=
    (served_deliverRecord ..).trans (served_setSource s src x)
  refine served_ite (served_setSource ..) (served_ite (served_setSource ..) (served_ite ?storm (served_ite ?after ?plain)))
  case storm => exact hdeliver ..
  case after => exact hdeliver ..
  case plain => exact hdeliver ..

@[simp] theorem served_raiseIf (s : State) (b : Bool) (src cause data : Nat) :
    (raiseIf s b src cause data).served = s.served := by
  cases b
  · rfl
  · exact served_raise s src cause data

/-! The release of a presented packet (R114, R117). -/

@[simp] theorem served_wmEval (s : State) (q : Nat) : (wmEval s q).served = s.served := by
  unfold wmEval
  dsimp only
  split <;> simp

/-- A queue written without its presented packet. -/
theorem served_setQueue_unpresented {s : State} {q : Nat} {x : Queue} (hc : x.cons = (s.queue q).cons)
    (hh : x.hold = (s.queue q).hold) (hp : x.presented = false) : (s.setQueue q x).served = s.served.released q := by
  rw [served_setQueue, Served.released]
  simp [Queue.holdPort, State.served, hc, hh, hp]

/-- The release of a head packet ends its presentation and changes nothing else that decides a HOLD_ACK. -/
theorem served_releaseHead {s : State} {q : Nat} (h : (s.queue q).packets ≠ []) :
    (releaseHead s q).served = s.served.released q := by
  obtain ⟨k, r, hk⟩ := List.exists_cons_of_ne_nil h
  have hdrop : (dropPacket (s.count cDeqPackets q) q).served = s.served.released q := by
    unfold dropPacket
    simp only [State.count_queue, hk]
    simp [served_setQueue_unpresented]
  simpa [releaseHead, hk] using hdrop

/-! The HOLD_ACK itself (R114, R115). -/

/-- A HOLD_ACK of the owner, which is open, counts where it arrived and reaches its queue. -/
theorem exec_holdAck_owned {a : Acc} {p q : Nat} (n : Nat) {s : State} (hq : q < 4096) (hr : s.boot.rescue = false)
    (hw : s.who a = some p) (ho : s.isOpen p = true) (hown : s.owns p 5 q = true) :
    exec (.holdAck a q n) s = .next (holdAckReg (s.arrived a cAttWrites) q n) := by
  show execHoldAck a q n s = _
  simp [execHoldAck, unit, hq, accessIn_open _ hr hw ho, ownQueue, hown, ansOk]

/-- Where nothing is presented, or under another SEQ, a HOLD_ACK is stale. -/
theorem holdAckReg_stale {s : State} {q n : Nat} (hc : (s.queue q).cons = .host) (hh : (s.queue q).hold = true)
    (hstale : ((s.queue q).enable && (s.queue q).presented) = false ∨ n ≠ (s.queue q).presentSeq) :
    holdAckReg s q n = s.count cAckStale q := by
  have hcond : ((s.queue q).enable && (s.queue q).presented && n == (s.queue q).presentSeq) = false := by
    rcases hstale with h | h <;> simp [h]
  simp [holdAckReg, hc, hh, hcond]

/-- After a HOLD_ACK with the presented SEQ the queue presents nothing, and what else decides a HOLD_ACK stands: the packet is
released, or the queue is disabled and presents none (R104). -/
theorem served_holdAckReg {s : State} {q : Nat} (hc : (s.queue q).cons = .host) (hh : (s.queue q).hold = true)
    (hp : (s.queue q).presented = true) (hk : (s.queue q).packets ≠ []) :
    (holdAckReg s q (s.queue q).presentSeq).served = s.served.released q := by
  cases he : (s.queue q).enable with
  | true =>
    have hrel : holdAckReg s q (s.queue q).presentSeq = wmEval (releaseHead s q) q := by simp [holdAckReg, hc, hh, he, hp]
    rw [hrel, served_wmEval, served_releaseHead hk]
  | false =>
    have hidle : s.served.port q = { s.served.port q with presenting := false } := by
      simp [State.served, Queue.holdPort, he]
    rw [holdAckReg_stale hc hh (.inl (by simp [he])), served_count, Served.released, ← hidle, Served.setPort_self]

/-- A HOLD_ACK in a state that looks to it like `s` with its packet released is stale. -/
theorem exec_holdAck_of_released {a : Acc} {p q : Nat} (n : Nat) {s t : State} (hv : t.served = s.served.released q)
    (hq : q < 4096) (hr : s.boot.rescue = false) (hw : s.who a = some p) (ho : s.isOpen p = true) (hown : s.owns p 5 q = true)
    (hc : (s.queue q).cons = .host) (hh : (s.queue q).hold = true) :
    exec (.holdAck a q n) t = .next ((t.arrived a cAttWrites).count cAckStale q) := by
  have hport : (t.queue q).holdPort = ⟨.host, true, false⟩ := by
    calc (t.queue q).holdPort = (s.served.released q).port q := congrArg (Served.port · q) hv
      _ = ⟨.host, true, false⟩ := by simp [Served.released, Served.setPort, State.served, Queue.holdPort, hc, hh]
  obtain ⟨htc, hth, htp⟩ := HoldPort.mk.inj hport
  rw [exec_holdAck_owned n hq ((congrArg Served.rescue hv).trans hr) ((congrArg (Served.who · a) hv).trans hw)
    ((congrArg (Served.isOpen · p) hv).trans ho) ((congrArg (Served.owns · p 5 q) hv).trans hown)]
  rw [holdAckReg_stale (by simpa using htc) (by simpa using hth) (.inl (by simpa using htp))]

/-- No write reaches the HOLD view (R43, R115). -/
theorem queueWrite_beyond_ports {p off : Nat} (d : List Byte) (s : State) (h : 0x200000 ≤ off) :
    queueWrite p off d s = ansUr s := by
  rw [queueWrite, if_neg (by omega)]

/-- Settles O18: a stale HOLD_ACK counts alone, and a release leaves a state whose queue presents nothing. -/
theorem staleAcknowledge : Obligations.StaleAcknowledge := by
  unfold Obligations.StaleAcknowledge
  intro a p q n o hq hr hw ho hown s hc hh
  have hack := exec_holdAck_owned n hq hr hw ho hown
  refine ⟨fun hstale => ?stale, fun t hp hn hk ht => ?repeated, fun off d hlo _ => ?holdView⟩
  case stale =>
    rw [hack, holdAckReg_stale hc hh (hstale.imp_left fun hp => by rw [hp, Bool.and_false])]
  case repeated =>
    have ht' : t = holdAckReg s q n := by rw [hack] at ht; exact (Host.Outcome.next.inj ht).symm
    subst ht' hn
    have hv : (holdAckReg s q (s.queue q).presentSeq).served = o.served.released q := by
      rw [served_holdAckReg hc hh hp hk, served_arrived]
    exact exec_holdAck_of_released _ hv hq hr hw ho hown (by simpa [s] using hc) (by simpa [s] using hh)
  case holdView =>
    rw [queueWrite_beyond_ports d s (by omega)]
    exact ⟨rfl, rfl⟩

end Sys2Proof.Machine

/-!
SUPPORT and O21. A write of DOMAIN_SWITCH (R167, R170): the access row hands it to the register, and the register's three
answers are stated once each.
-/
namespace Sys2Proof.Machine

/-- A write of DOMAIN_SWITCH by partition 0, which is open, counts where it arrived and reaches the register. -/
theorem exec_domainSwitchWrite_open {a : Acc} (v : Nat) {s : State} (hr : s.boot.rescue = false) (hw : s.who a = some 0)
    (ho : s.isOpen 0 = true) :
    exec (.domainSwitchWrite a v) s = .next (domainSwitchReg (s.arrived a cAttWrites) v) := by
  show execDomainSwitchWrite a v s = _
  simp [execDomainSwitchWrite, accessIn_open _ hr hw ho, ansOk]

/-- A TARGET that names no domain, or an NS that is no part of a second, is counted and nothing else. -/
theorem domainSwitchReg_malformed {v : Nat} (s : State)
    (h : bitsAt v 80 2 = 0 ∨ bitsAt v 80 2 = 3 ∨ 999999999 < bitsAt v 0 30) :
    domainSwitchReg s v = s.count cTimeBadWrite 0 :=
  if_pos (h.imp_right (Or.imp_right .inl))

/-- A well-formed write, which names a domain that the hub does not serve from its working clock, acts at its instant. -/
theorem domainSwitchReg_wellFormed {v : Nat} {s : State} (hd : bitsAt v 80 2 = 1 ∨ bitsAt v 80 2 = 2)
    (hns : bitsAt v 0 30 ≤ 999999999) (hgm : (s.dom (bitsAt v 80 2)).isGm = false ∨ (s.dom (bitsAt v 80 2)).gmSource ≠ 1) :
    domainSwitchReg s v =
      if bitsAt v 32 48 * 1000000000 + bitsAt v 0 30 < s.work + 1000 then
        trySwitch (s.setTime { s.time with switchAt := none }) (bitsAt v 80 2)
      else s.setTime { s.time with switchAt := some (bitsAt v 32 48 * 1000000000 + bitsAt v 0 30, bitsAt v 80 2) } := by
  refine if_neg ?accepted
  rintro (h0 | h3 | hlarge | ⟨hserves, hwork⟩)
  case accepted.inl => omega
  case accepted.inr.inl => omega
  case accepted.inr.inr.inl => omega
  case accepted.inr.inr.inr => exact hgm.elim (fun h => by simp [h] at hserves) (· hwork)

/-- Settles O21, from the three answers of the register to the write that the access row hands it. -/
theorem domainSwitchRegister : Obligations.DomainSwitchRegister := by
  unfold Obligations.DomainSwitchRegister
  intro a v o hr hw ho s d at_
  rw [exec_domainSwitchWrite_open v hr hw ho]
  refine ⟨fun hbad => ?ignored, fun hd hns hgm => ⟨fun hahead => ?scheduled, fun hlate => ?atOnce⟩⟩
  case ignored => rw [domainSwitchReg_malformed _ hbad]
  case scheduled => rw [domainSwitchReg_wellFormed hd hns hgm, if_neg (Nat.not_lt.mpr hahead)]
  case atOnce => rw [domainSwitchReg_wellFormed hd hns hgm, if_pos hlate]

end Sys2Proof.Machine

/-!
SUPPORT and O35. A destination field whose signal is not VALID (R254, R258, R259): that it encodes nothing, and what each
FALLBACK makes it carry. The codes of R254 fit the field's LEN bits.
-/
namespace Sys2Proof.Machine

section

variable {f : DField} {rawCopy : Bool} {st value : Nat}

/-- A signal in a state other than VALID leaves the field's last encoded value and is never clamped. -/
theorem DField.encode_snd_of_notValid (hst : st ≠ 0) : (f.encode rawCopy st value).2 = (f, false) := by
  rw [DField.encode, if_pos hst]

theorem DField.encode_fst_of_fallback_code (hst : st ≠ 0) (hf : f.fallback = 0) :
    (f.encode rawCopy st value).1 = (if st = 1 then errorCode f.len else naCode f.len) % 2 ^ f.len := by
  rw [DField.encode, if_pos hst, if_pos hf]

theorem DField.encode_fst_of_fallback_last (hst : st ≠ 0) (hf : f.fallback = 1) :
    (f.encode rawCopy st value).1 = f.lastEnc.getD f.fill % 2 ^ f.len := by
  rw [DField.encode, if_pos hst, if_neg (by omega), if_pos hf]

theorem DField.encode_fst_of_fallback_fill (hst : st ≠ 0) (hf : f.fallback = 2) :
    (f.encode rawCopy st value).1 = f.fill % 2 ^ f.len := by
  rw [DField.encode, if_pos hst, if_neg (by omega), if_neg (by omega)]

end

theorem naCode_lt (len : Nat) : naCode len < 2 ^ len :=
  Nat.sub_lt (Nat.two_pow_pos len) Nat.one_pos

/-- In whole bytes the error code is 0xFE on top of bytes that are all ones. -/
theorem errorCode_wholeBytes {len : Nat} (hpos : 1 ≤ len) (hbytes : len % 8 = 0) :
    errorCode len = 0xFE * 2 ^ (len - 8) + (2 ^ (len - 8) - 1) := by
  have hsplit : 2 ^ len = 256 * 2 ^ (len - 8) := by
    rw [← Nat.pow_sub_mul_pow 2 (show 8 ≤ len by omega), Nat.mul_comm]
  have hlow := Nat.two_pow_pos (len - 8)
  rw [errorCode, if_pos hbytes]
  omega

theorem errorCode_notBytes {len : Nat} (hbytes : len % 8 ≠ 0) : errorCode len = 2 ^ len - 2 :=
  if_neg hbytes

theorem errorCode_le_naCode (len : Nat) : errorCode len ≤ naCode len := by
  unfold errorCode naCode
  split
  next => exact Nat.sub_le _ _
  next => omega

/-- Settles O35, from what each FALLBACK makes the field carry and the bound on the codes of R254. -/
theorem fieldFallback : Obligations.FieldFallback := by
  unfold Obligations.FieldFallback
  intro f rawCopy st value hlo _ hlen
  have hst : st ≠ 0 := by omega
  refine ⟨DField.encode_snd_of_notValid hst, fun hf hne => ?naCode, fun hf he hb => ?errorBytes, fun hf he hb => ?errorBits,
    fun v hf hlast hv => ?lastEncoded, fun hf hnone => ?noneEncoded, DField.encode_fst_of_fallback_fill hst⟩
  case naCode =>
    rw [DField.encode_fst_of_fallback_code hst hf, if_neg hne, Nat.mod_eq_of_lt (naCode_lt _), naCode]
  case errorBytes =>
    rw [DField.encode_fst_of_fallback_code hst hf, if_pos he,
      Nat.mod_eq_of_lt (Nat.lt_of_le_of_lt (errorCode_le_naCode _) (naCode_lt _)), errorCode_wholeBytes hlen hb]
  case errorBits =>
    rw [DField.encode_fst_of_fallback_code hst hf, if_pos he, errorCode_notBytes hb]
  case lastEncoded =>
    rw [DField.encode_fst_of_fallback_last hst hf, hlast, Option.getD_some, Nat.mod_eq_of_lt hv]
  case noneEncoded =>
    rw [DField.encode_fst_of_fallback_last hst hf, hnone, Option.getD_none]

end Sys2Proof.Machine

/-!
SUPPORT for O4 and O5. The view `State.vault` holds what the two invariants read of a state: the assay die's audit log and records, and
the bytes of spaces 4 and 7. Almost every operation leaves the view as it is; what does not lets it evolve: the invariants stay, the
audit log grows, the sequence number never falls.
-/
namespace Sys2Proof.Machine

/-- What the invariants of the records, the audit log and the byte memories read. -/
structure Vault where
  /-- The audit log (R464). -/
  audit : List Audit
  /-- The event counter (R463). -/
  eventCounter : Nat
  /-- The record store (R475). -/
  store : List ARec
  /-- The next sequence number (R472). -/
  nextSeq : Nat
  /-- Space 4 (R340). -/
  sram : List Host.Cell
  /-- Space 7 (R41). -/
  ddr : List Host.Cell

/-- The view of a state. -/
def State.vault (s : State) : Vault :=
  ⟨s.assay.audit, s.assay.eventCounter, s.assay.store, s.assay.nextSeq, s.island.sram, s.island.ddr⟩

/-- The invariant of `RecordsWf`, of a view. -/
def Vault.recordsWf (v : Vault) : Prop :=
  v.store.length ≤ 4096 ∧ v.store.length < v.nextSeq ∧ seqsFrom (v.nextSeq - v.store.length) v.store = true
    ∧ v.eventCounter = v.audit.length % 2 ^ 32 ∧ countersFrom 1 v.audit = true

/-- The invariant of `MemoriesWf`, of a view. -/
def Vault.memoriesWf (v : Vault) : Prop := Memory.wf v.sram = true ∧ Memory.wf v.ddr = true

/-- What any step may do with the view. -/
structure Vault.Evolves (v w : Vault) : Prop where
  /-- The records and the log stay in form. -/
  records : v.recordsWf → w.recordsWf
  /-- The log only grows. -/
  audit : v.audit <+: w.audit
  /-- The next sequence number never falls. -/
  seq : v.nextSeq ≤ w.nextSeq
  /-- The memories stay in canonical form. -/
  memories : v.memoriesWf → w.memoriesWf

@[simp] theorem Vault.Evolves.refl (v : Vault) : v.Evolves v := ⟨id, List.prefix_rfl, Nat.le_refl _, id⟩

theorem Vault.Evolves.trans {u v w : Vault} (h : u.Evolves v) (k : v.Evolves w) : u.Evolves w :=
  ⟨k.records ∘ h.records, h.audit.trans k.audit, Nat.le_trans h.seq k.seq, k.memories ∘ h.memories⟩

/-- Where the view is as it was, it has evolved. -/
theorem Vault.Evolves.of_eq {v : Vault} {s t : State} (h : v.Evolves s.vault) (e : t.vault = s.vault) : v.Evolves t.vault := e ▸ h

/-! Writes that leave the assay die and both memories leave the view. -/

section
variable {s : State} {ring : RingNode} {sw : Switch} {queues : Tbl Queue} {pool : Pool} {time : Time} {cycle : Cycle} {can : Can}
  {crush : Crusher} {field : FieldIo} {bridge : Bridge} {parts : Tbl Partition} {faults : Faults} {boot : Boot} {ctl : Ctl} {power : Power}
  {counters : Tbl Nat} {out : List Output} {fresh : Nat} {pending : List Instr} {regions : Tbl Region} {owners : Tbl Nat}
  {subs : Tbl (List Nat)} {sources : Tbl EvSrc} {badWords : List (Nat × Nat)} {fw : FwSram}

@[simp] theorem vault_mk : (State.mk ring sw queues pool time cycle can crush field bridge parts faults boot ctl power s.assay s.island
    counters out fresh pending).vault = s.vault := (rfl)

@[simp] theorem vault_mk_island : (State.mk ring sw queues pool time cycle can crush field bridge parts faults boot ctl power s.assay
    ⟨s.island.sram, s.island.ddr, regions, owners, subs, sources, badWords, fw⟩ counters out fresh pending).vault = s.vault := (rfl)

end

@[simp] theorem vault_ite {c : Prop} [Decidable c] {s t : State} : (if c then s else t).vault = if c then s.vault else t.vault :=
  apply_ite State.vault c s t

/-- A loop leaves the view where each of its rounds does. -/
@[simp] theorem vault_forEach {α : Type} {l : List α} {s : State} {f : α → State → State} (h : ∀ a (s : State), (f a s).vault = s.vault) :
    (forEach l s f).vault = s.vault := by
  rw [forEach]
  induction l generalizing s with
  | nil => rfl
  | cons a l ih => rw [List.foldl_cons, ih, h]

@[simp] theorem vault_foldl {α : Type} {l : List α} {s : State} {f : State → α → State} (h : ∀ (s : State) a, (f s a).vault = s.vault) :
    (l.foldl f s).vault = s.vault := vault_forEach (f := fun a s => f s a) fun a s => h s a

/-- The view evolves over a loop where it does over each round. -/
@[simp] theorem evolves_forEach {α : Type} {l : List α} {v : Vault} {s : State} {f : α → State → State}
    (h : ∀ a (s : State), s.vault.Evolves (f a s).vault) (hs : v.Evolves s.vault) : v.Evolves (forEach l s f).vault := by
  rw [forEach]
  induction l generalizing s with
  | nil => exact hs
  | cons a l ih => exact ih (hs.trans (h a s))

@[simp] theorem vault_ifDo {s : State} {b : Bool} {f : State → State} (h : ∀ s : State, (f s).vault = s.vault) : (s.ifDo b f).vault = s.vault := by
  cases b
  · rfl
  · exact h s

@[simp] theorem evolves_ite {c : Prop} [Decidable c] {v x y : Vault} :
    v.Evolves (if c then x else y) ↔ (c → v.Evolves x) ∧ (¬c → v.Evolves y) := by
  split <;> simp [*]

theorem evolves_vault_ite {c : Prop} [Decidable c] {v : Vault} {s t : State} (h : v.Evolves s.vault) (k : v.Evolves t.vault) :
    v.Evolves (if c then s else t).vault := by
  split <;> assumption

theorem evolves_ans_ite {c : Prop} [Decidable c] {v : Vault} {a b : Ans} (h : v.Evolves a.s.vault) (k : v.Evolves b.s.vault) :
    v.Evolves (if c then a else b).s.vault := by
  split <;> assumption

/-- A command's end that leaves a state whose view has evolved from `v`. -/
def CmdRes.From (v : Vault) : CmdRes → Prop
  | .fail _ => True
  | .ok _ _ s | .ends _ _ s | .later s | .silent s => v.Evolves s.vault

/-- A row's answer: the view has evolved from `v`. -/
def From (v : Vault) : Res → Prop
  | .next s => v.Evolves s.vault
  | _ => True

/-- A command's end from a later view is one from an earlier view. -/
theorem CmdRes.From.of_evolves {u v : Vault} {r : CmdRes} (h : r.From v) (k : u.Evolves v) : r.From u := by
  cases r with
  | fail => trivial
  | ok | ends | later | silent => exact k.trans h

section
variable {v : Vault} {s : State} {st : Nat} {res out : List Byte}
@[simp] theorem from_fail : (CmdRes.fail st).From v := trivial
@[simp] theorem from_ok : (CmdRes.ok res out s).From v ↔ v.Evolves s.vault := Iff.rfl
@[simp] theorem from_ends : (CmdRes.ends st res s).From v ↔ v.Evolves s.vault := Iff.rfl
@[simp] theorem from_later : (CmdRes.later s).From v ↔ v.Evolves s.vault := Iff.rfl
@[simp] theorem from_silent : (CmdRes.silent s).From v ↔ v.Evolves s.vault := Iff.rfl
@[simp] theorem from_okS : (okS s).From v ↔ v.Evolves s.vault := Iff.rfl
@[simp] theorem from_cmd_ite {c : Prop} [Decidable c] {a b : CmdRes} :
    (if c then a else b).From v ↔ (c → a.From v) ∧ (¬c → b.From v) := by
  split <;> simp [*]
@[simp] theorem from_next : From v (.next s) ↔ v.Evolves s.vault := Iff.rfl
@[simp] theorem from_fault {f : Fault} : From v (.fault f) := trivial
@[simp] theorem from_refused {r : Refusal} : From v (.refused r) := trivial
@[simp] theorem from_ite {c : Prop} [Decidable c] {a b : Res} :
    From v (if c then a else b) ↔ (c → From v a) ∧ (¬c → From v b) := by
  split <;> simp [*]
end

@[simp] theorem from_chk {v : Vault} {b : Bool} {st : Nat} {k : CmdRes} : (chk b st k).From v ↔ (b = true → k.From v) := by simp [chk]
@[simp] theorem from_unit {v : Vault} {n m : Nat} {s : State} : From v (unit n m s) ↔ (n < m → v.Evolves s.vault) := by simp [unit]

@[simp] theorem vault_ansOk {s : State} {d : List Byte} : (ansOk s d).s.vault = s.vault := (rfl)
@[simp] theorem vault_ansUr {s : State} : (ansUr s).s.vault = s.vault := (rfl)
@[simp] theorem vault_ansCa {s : State} : (ansCa s).s.vault = s.vault := (rfl)
@[simp] theorem vault_ansNr {s : State} : (ansNr s).s.vault = s.vault := (rfl)
@[simp] theorem vault_ans_ite {c : Prop} [Decidable c] {a b : Ans} : (if c then a else b).s.vault = if c then a.s.vault else b.s.vault :=
  apply_ite (fun a : Ans => a.s.vault) c a b

end Sys2Proof.Machine
namespace Sys2Proof.Machine

@[simp] theorem vault_fst_ite {α : Type} {c : Prop} [Decidable c] {a b : State × α} :
    (if c then a else b).1.vault = if c then a.1.vault else b.1.vault := apply_ite (fun a => a.1.vault) c a b
@[simp] theorem vault_snd_ite {α : Type} {c : Prop} [Decidable c] {a b : α × State} :
    (if c then a else b).2.vault = if c then a.2.vault else b.2.vault := apply_ite (fun a => a.2.vault) c a b

/-- A write of the assay island that leaves its log and its records leaves the view. -/
@[simp] theorem vault_setAssay {s : State} {x : Assay} (ha : x.audit = s.assay.audit) (hc : x.eventCounter = s.assay.eventCounter)
    (hs : x.store = s.assay.store) (hn : x.nextSeq = s.assay.nextSeq) : (s.setAssay x).vault = s.vault := by
  simp [State.vault, ha, hc, hs, hn]


theorem vault_of_fst {α : Type} {p : State × α} {t : State} {a : α} {v : Vault} (h : p = (t, a)) (e : p.1.vault = v) : t.vault = v := by
  rw [← e, h]

theorem vault_of_snd {α : Type} {p : α × State} {t : State} {a : α} {v : Vault} (h : p = (a, t)) (e : p.2.vault = v) : t.vault = v := by
  rw [← e, h]

/-- A hewer instruction's end that leaves the view `v`. -/
def HwEnd.Keeps (v : Vault) : HwEnd → Prop
  | .fin _ s | .stall _ s => s.vault = v

@[simp] theorem keeps_fin {v : Vault} {j : Option Nat} {s : State} : (HwEnd.fin j s).Keeps v ↔ s.vault = v := Iff.rfl
@[simp] theorem keeps_stall {v : Vault} {c : Nat} {s : State} : (HwEnd.stall c s).Keeps v ↔ s.vault = v := Iff.rfl
@[simp] theorem keeps_ite {v : Vault} {c : Prop} [Decidable c] {a b : HwEnd} :
    (if c then a else b).Keeps v ↔ (c → a.Keeps v) ∧ (¬c → b.Keeps v) := by
  split <;> simp [*]

theorem vault_ite_of {c : Prop} [Decidable c] {s t : State} {v : Vault} (h : s.vault = v) (k : t.vault = v) :
    (if c then s else t).vault = v := by
  split <;> assumption

theorem vault_fst_ite_of {α : Type} {c : Prop} [Decidable c] {a b : State × α} {v : Vault} (h : a.1.vault = v) (k : b.1.vault = v) :
    (if c then a else b).1.vault = v := by
  split <;> assumption

theorem vault_snd_ite_of {α : Type} {c : Prop} [Decidable c] {a b : α × State} {v : Vault} (h : a.2.vault = v) (k : b.2.vault = v) :
    (if c then a else b).2.vault = v := by
  split <;> assumption

end Sys2Proof.Machine

namespace Sys2Proof.Machine

@[simp] theorem vault_setPort (s : State) (p : Nat) (x : Port) : (State.setPort s p x).vault = s.vault := (rfl)

@[simp] theorem vault_setQueue (s : State) (q : Nat) (x : Queue) : (State.setQueue s q x).vault = s.vault := (rfl)

@[simp] theorem vault_setPart (s : State) (p : Nat) (x : Partition) : (State.setPart s p x).vault = s.vault := (rfl)

@[simp] theorem vault_setSource (s : State) (e : Nat) (x : EvSrc) : (State.setSource s e x).vault = s.vault := (rfl)

@[simp] theorem vault_setAtt (s : State) (a : Nat) (x : Att) : (State.setAtt s a x).vault = s.vault := (rfl)

@[simp] theorem vault_setCanary (s : State) (r : Nat) (x : Canary) : (State.setCanary s r x).vault = s.vault := (rfl)

@[simp] theorem vault_setSampler (s : State) (o : Nat) (x : Sampler) : (State.setSampler s o x).vault = s.vault := (rfl)

@[simp] theorem vault_setStream (s : State) (e : Nat) (x : Stream) : (State.setStream s e x).vault = s.vault := (rfl)

@[simp] theorem vault_setTrig (s : State) (t : Nat) (x : TrigUnit) : (State.setTrig s t x).vault = s.vault := (rfl)

@[simp] theorem vault_setCapt (s : State) (u : Nat) (x : CaptUnit) : (State.setCapt s u x).vault = s.vault := (rfl)

@[simp] theorem vault_setGroup (s : State) (g : Nat) (x : OutGroup) : (State.setGroup s g x).vault = s.vault := (rfl)

@[simp] theorem vault_setTwin (s : State) (t : Nat) (x : TwinSet) : (State.setTwin s t x).vault = s.vault := (rfl)

@[simp] theorem vault_setChan (s : State) (c : Nat) (x : CanChan) : (State.setChan s c x).vault = s.vault := (rfl)

@[simp] theorem vault_setMap (s : State) (m : Nat) (x : SigMap) : (State.setMap s m x).vault = s.vault := (rfl)

@[simp] theorem vault_setPin (s : State) (p : Nat) (x : Pin) : (State.setPin s p x).vault = s.vault := (rfl)

@[simp] theorem vault_setBank (s : State) (b : Nat) (x : Bank) : (State.setBank s b x).vault = s.vault := (rfl)

@[simp] theorem vault_setHewer (s : State) (h : Nat) (x : Hewer) : (State.setHewer s h x).vault = s.vault := (rfl)

@[simp] theorem vault_setFlag (s : State) (f : Nat) (x : HFlag) : (State.setFlag s f x).vault = s.vault := (rfl)

@[simp] theorem vault_setBranch (s : State) (b : Nat) (x : Branch) : (State.setBranch s b x).vault = s.vault := (rfl)

@[simp] theorem vault_setPair (s : State) (p : Nat) (x : Pair) : (State.setPair s p x).vault = s.vault := (rfl)

@[simp] theorem vault_setBoot (s : State) (x : Boot) : (State.setBoot s x).vault = s.vault := (rfl)

@[simp] theorem vault_count (s : State) (c : CtrId) (i : Nat) (n : Nat) : (State.count s c i n).vault = s.vault := (rfl)

@[simp] theorem vault_countIf (s : State) (b : Bool) (c : CtrId) (i : Nat) : (State.countIf s b c i).vault = s.vault := by simp [State.countIf]

@[simp] theorem vault_clearCtr (s : State) (c : CtrId) (i : Nat) : (State.clearCtr s c i).vault = s.vault := (rfl)

@[simp] theorem vault_emit (s : State) (o : Output) : (State.emit s o).vault = s.vault := (rfl)

@[simp] theorem vault_draw (s : State) : (State.draw s).2.vault = s.vault := (rfl)

@[simp] theorem vault_drawBytes {n : Nat} {s : State} : (State.drawBytes n s).2.vault = s.vault := by
  induction n generalizing s with
  | zero => rfl
  | succ n ih => simp [State.drawBytes, ih]

@[simp] theorem vault_holdWord (s : State) (src : Nat) (dst : Nat) : (holdWord s src dst).vault = s.vault := (rfl)

@[simp] theorem vault_clearCrossings (s : State) (reset : Nat → Bool) : (clearCrossings s reset).vault = s.vault := (rfl)

@[simp] theorem vault_arrived (s : State) (a : Acc) (c : CtrId) : (State.arrived s a c).vault = s.vault := by
  unfold State.arrived
  split <;> simp

@[simp] theorem vault_accessAs {a : Acc} {s : State} {f : State → Nat → Ans} (h : ∀ t p, (f t p).s.vault = t.vault) :
    (accessAs a s f).s.vault = s.vault := by
  unfold accessAs
  split <;> simp [h]

@[simp] theorem vault_accessIn {a : Acc} {s : State} {f : State → Nat → Ans} (h : ∀ t p, (f t p).s.vault = t.vault) :
    (accessIn a s f).s.vault = s.vault := by
  unfold accessIn
  cases s.who a <;> simp [h]

@[simp] theorem vault_takeOn (s : State) : (takeOn s).2.vault = s.vault := by
  unfold takeOn
  split <;> simp

@[simp] theorem vault_takeExt (s : State) : (takeExt s).2.vault = s.vault := by
  unfold takeExt
  split <;> exact vault_mk

@[simp] theorem vault_extMove (s : State) : (extMove s).vault = s.vault := (rfl)

theorem vault_of_grantExt {s t : State} {c : Nat} (h : grantExt s = .ok c t) : t.vault = s.vault := by
  rw [grantExt] at h
  split at h
  · cases h
  · have ht : extMove (takeExt s).2 = t := (Grant.ok.inj h).2
    rw [← ht, vault_extMove, vault_takeExt]

theorem vault_of_takeCell {s t : State} {pin : Bool} {c : Nat} (h : takeCell s pin = .ok c t) : t.vault = s.vault := by
  have hon {t : State} (h : Grant.ok (takeOn s).1 (takeOn s).2 = .ok c t) : t.vault = s.vault := by
    obtain ⟨-, rfl⟩ := Grant.ok.inj h
    exact vault_takeOn _
  unfold takeCell at h
  split at h
  · split at h
    · exact hon h
    · cases h
  · split at h
    · exact hon h
    · split at h
      · exact vault_of_grantExt h
      · split at h
        · exact hon h
        · cases h

theorem vault_of_grantCell {s t : State} {pin : Bool} {cls : Nat} {fromEvent : Bool} {c : Nat}
    (h : grantCell s pin cls fromEvent = .ok c t) : t.vault = s.vault := by
  unfold grantCell at h
  dsimp only at h
  split at h
  · split at h
    · next hc =>
      obtain ⟨-, rfl⟩ := Grant.ok.inj h
      rw [vault_countIf, vault_of_takeCell hc]
    · cases h
  · cases h

@[simp] theorem vault_joinFreed (s : State) : (joinFreed s).vault = s.vault := by simp [joinFreed]

@[simp] theorem vault_freeCell (s : State) (c : Nat) : (freeCell s c).vault = s.vault := by simp [freeCell]

@[simp] theorem vault_freeAll (s : State) (l : List Nat) : (freeAll s l).vault = s.vault := by simp [freeAll]

@[simp] theorem vault_chargeIng (s : State) (p : Nat) (d : Int) : (State.chargeIng s p d).vault = s.vault := (rfl)

@[simp] theorem vault_chargeEg (s : State) (p : Nat) (c : Nat) (d : Int) : (State.chargeEg s p c d).vault = s.vault := (rfl)

@[simp] theorem vault_unchargePacket (s : State) (k : Packet) : (unchargePacket s k).vault = s.vault := by
  unfold unchargePacket
  split <;> simp

@[simp] theorem vault_freePacket (s : State) (k : Packet) : (freePacket s k).vault = s.vault := by simp [freePacket]

theorem else_of_ite {α : Type} {c : Prop} [Decidable c] {a b r : α} (h : (if c then a else b) = r) (ha : a ≠ r) : b = r := by
  by_cases hc : c
  · exact absurd ((if_pos hc).symm.trans h) ha
  · exact (if_neg hc).symm.trans h

theorem then_of_ite {α : Type} {c : Prop} [Decidable c] {a b r : α} (h : (if c then a else b) = r) (hb : b ≠ r) : a = r := by
  by_cases hc : c
  · exact (if_pos hc).symm.trans h
  · exact absurd ((if_neg hc).symm.trans h) hb

theorem vault_of_grantForQueue {s t : State} {q cls : Nat} {fromEvent : Bool} {inPort : Option Nat} {c : Nat}
    (h : grantForQueue s q cls fromEvent inPort = .ok c t) : t.vault = s.vault := by
  unfold grantForQueue at h
  exact vault_of_grantCell (then_of_ite (else_of_ite h nofun) nofun)

@[simp] theorem vault_growOpen {s : State} {q cls : Nat} {fromEvent : Bool} {n : Nat} :
    (growOpen s q cls fromEvent n).1.vault = s.vault := by
  induction n generalizing s with
  | zero => rfl
  | succ n ih =>
    rw [growOpen]
    split
    · rfl
    · next hc => simp [ih, vault_of_grantForQueue hc]

@[simp] theorem vault_countRefused (s : State) (q : Nat) (x2 : Refused) : (countRefused s q x2).vault = s.vault := by
  unfold countRefused
  split <;> simp

@[simp] theorem vault_flushNow (s : State) (q : Nat) : (flushNow s q).vault = s.vault := by simp [flushNow]

@[simp] theorem vault_flushReq (s : State) (q : Nat) : (flushReq s q).vault = s.vault := by simp [flushReq]

@[simp] theorem vault_flushIfPending (s : State) (q : Nat) : (flushIfPending s q).vault = s.vault := by simp [flushIfPending]

@[simp] theorem vault_abortOpen (s : State) (q : Nat) : (abortOpen s q).vault = s.vault := by
  unfold abortOpen
  split <;> simp

@[simp] theorem vault_appendOpen (s : State) (q : Nat) (d : List Byte) (cls : Nat) (fromEvent : Bool) :
    (appendOpen s q d cls fromEvent).1.vault = s.vault := by
  unfold appendOpen
  dsimp only
  split
  · simp
  · split
    · simp
    · split
      · next h => simp [vault_of_fst h (vault_growOpen ..)]
      · next h => simp [vault_of_fst h (vault_growOpen ..)]

@[simp] theorem vault_commitPacket (s : State) (q : Nat) (k : Packet) (launch : Option Nat) : (commitPacket s q k launch).vault = s.vault := by simp [commitPacket]

@[simp] theorem vault_commitOpen (s : State) (q : Nat) (launch : Option Nat) : (commitOpen s q launch).vault = s.vault := by
  simp only [commitOpen]
  repeat' split
  all_goals simp

@[simp] theorem vault_putPacket (s : State) (q : Nat) (d : List Byte) (cls : Nat) (fromEvent : Bool) : (putPacket s q d cls fromEvent).1.vault = s.vault := by
  unfold putPacket
  split
  all_goals obtain ⟨rfl, _⟩ := Prod.ext_iff.mp ‹_ = (_, _)›
  all_goals simp

@[simp] theorem vault_growArrival {s : State} {q i place cls n : Nat} : (growArrival s q i place cls n).1.vault = s.vault := by
  induction n generalizing s with
  | zero => rfl
  | succ n ih =>
    rw [growArrival]
    split
    · rfl
    · next hc => simp [ih, vault_of_grantForQueue hc]

@[simp] theorem vault_abortArrival (s : State) (q : Nat) (i : Nat) (place : Nat) : (abortArrival s q i place).vault = s.vault := by
  unfold abortArrival
  split <;> simp

@[simp] theorem vault_arriveInQueue (s : State) (q i place cls : Nat) (b : List Byte) :
    (arriveInQueue s q i place cls b).1.vault = s.vault := by
  unfold arriveInQueue
  split
  · simp
  · dsimp only
    split
    · next h => simp [vault_of_fst h (vault_growArrival ..)]
    · next h => simp [vault_of_fst h (vault_growArrival ..)]

@[simp] theorem vault_commitArrival (s : State) (q : Nat) (i : Nat) (place : Nat) : (commitArrival s q i place).1.vault = s.vault := by
  unfold commitArrival
  split <;> simp

@[simp] theorem vault_dropPacket (s : State) (q : Nat) : (dropPacket s q).vault = s.vault := by
  unfold dropPacket
  split <;> simp

@[simp] theorem vault_releaseHead (s : State) (q : Nat) : (releaseHead s q).vault = s.vault := by
  unfold releaseHead
  split <;> simp

@[simp] theorem vault_readCells (s : State) (q : Nat) (cs : List Nat) : (readCells s q cs).vault = s.vault := by simp [readCells]

@[simp] theorem vault_grantCopy {s : State} {i o c n : Nat} {l : List Nat} : (grantCopy s i o c n l).1.vault = s.vault := by
  induction n generalizing s l with
  | zero => rfl
  | succ n ih =>
    rw [grantCopy]
    split
    · rfl
    · split
      · rfl
      · split
        · rfl
        · next hc => simp [ih, vault_of_grantCell hc]

@[simp] theorem vault_freeCopy (s : State) (k : Copy) : (freeCopy s k).vault = s.vault := by simp [freeCopy]

@[simp] theorem vault_countCopyRefused (s : State) (i : Nat) (o : Nat) (c : Nat) (x4 : Refused) : (countCopyRefused s i o c x4).vault = s.vault := by
  unfold countCopyRefused
  split <;> simp

@[simp] theorem vault_pushCopy (s : State) (k : Copy) : (State.pushCopy s k).vault = s.vault := (rfl)

@[simp] theorem vault_enqueueFrame (s : State) (f : Frame) (i o c : Nat) (launch : Option Nat) :
    (enqueueFrame s f i o c launch).vault = s.vault := by
  unfold enqueueFrame
  split
  · next h => simp [vault_of_fst h vault_grantCopy]
  · next h => simp [vault_of_fst h vault_grantCopy]

@[simp] theorem vault_nextSeq (s : State) (mac : Nat) : (nextSeq s mac).2.vault = s.vault := (rfl)

@[simp] theorem vault_sendRing (s : State) (f : Frame) (i : Nat) (c : Nat) (launch : Option Nat) : (sendRing s f i c launch).vault = s.vault := by simp [sendRing]

@[simp] theorem vault_offerFrame (s : State) (q : Nat) (f : Frame) (cls : Nat) (egress : Option Nat) : (offerFrame s q f cls egress).1.vault = s.vault := by
  unfold offerFrame
  split
  all_goals obtain ⟨rfl, _⟩ := Prod.ext_iff.mp ‹_ = (_, _)›
  all_goals simp

@[simp] theorem vault_putFrame (s : State) (q : Nat) (f : Frame) (cls : Nat) (egress : Option Nat) : (putFrame s q f cls egress).vault = s.vault := by simp [putFrame]

@[simp] theorem vault_sendVia (s : State) (q : Nat) (dmac : Nat) (h : GrtHdr) (d : List Byte) : (sendVia s q dmac h d).vault = s.vault := by simp [sendVia]

@[simp] theorem vault_sendGrt (s : State) (dmac : Nat) (h : GrtHdr) (d : List Byte) : (sendGrt s dmac h d).vault = s.vault := by simp [sendGrt]

@[simp] theorem vault_sendLink (s : State) (port : Nat) (h : GrtHdr) : (sendLink s port h).vault = s.vault := by simp [sendLink]

@[simp] theorem vault_sendToHost (s : State) (port : Nat) (mac : Nat) (vid : Nat) (h : GrtHdr) (d : List Byte) : (sendToHost s port mac vid h d).vault = s.vault := by simp [sendToHost]

@[simp] theorem vault_sendMsix (s : State) (fn : Nat) (vec : Nat) : (sendMsix s fn vec).vault = s.vault := by simp [sendMsix]

@[simp] theorem vault_signalTarget (s : State) (p : Nat) : (signalTarget s p).vault = s.vault := by
  simp only [signalTarget]
  repeat' split
  all_goals simp

@[simp] theorem vault_intSettle (s : State) (p : Nat) : (intSettle s p).vault = s.vault := by simp [intSettle]

@[simp] theorem vault_testNotify (s : State) (p : Nat) : (testNotify s p).vault = s.vault := by simp [testNotify]

@[simp] theorem vault_commitRecord (s : State) (p : Nat) (src : Nat) (node : Nat) (cause : Nat) (flags : Nat) (data : Nat) (time : Nat) : (commitRecord s p src node cause flags data time).vault = s.vault := by
  simp only [commitRecord]
  repeat' split
  all_goals try obtain ⟨rfl, _⟩ := Prod.ext_iff.mp ‹_ = (_, _)›
  all_goals simp

@[simp] theorem vault_deliverRecord (s : State) (src : Nat) (cause : Nat) (flags : Nat) (data : Nat) : (deliverRecord s src cause flags data).vault = s.vault := by
  unfold deliverRecord
  split <;> simp

@[simp] theorem vault_raise (s : State) (src : Nat) (cause : Nat) (data : Nat) : (raise s src cause data).vault = s.vault := by simp [raise]

@[simp] theorem vault_raiseIf (s : State) (b : Bool) (src : Nat) (cause : Nat) (data : Nat) : (raiseIf s b src cause data).vault = s.vault := by simp [raiseIf]

@[simp] theorem from_execStormEnd (src : Nat) (s : State) : From s.vault (execStormEnd src s) := by simp [execStormEnd]

@[simp] theorem vault_eventFrame (f : GrtFrame) (s : State) : (eventFrame f s).vault = s.vault := by simp [eventFrame]

@[simp] theorem vault_wmEval (s : State) (q : Nat) : (wmEval s q).vault = s.vault := by simp [wmEval]

@[simp] theorem vault_showOne (s : State) (q : Nat) : (showOne s q).vault = s.vault := by
  simp only [showOne]
  split <;> simp

@[simp] theorem vault_holdPresent (s : State) (q : Nat) : (holdPresent s q).vault = s.vault := by simp [holdPresent]

@[simp] theorem from_execHoldPresent (q : Nat) (s : State) : From s.vault (execHoldPresent q s) := by simp [execHoldPresent]

@[simp] theorem vault_ownQueue {s : State} {p q : Nat} {f : Ans} :
    (ownQueue s p q f).s.vault = if s.owns p 5 q then f.s.vault else s.vault := by
  unfold ownQueue
  cases s.owns p 5 q <;> simp

@[simp] theorem vault_prodDataReg (s : State) (q : Nat) (d : List Byte) : (prodDataReg s q d).vault = s.vault := by
  unfold prodDataReg
  split
  all_goals obtain ⟨rfl, _⟩ := Prod.ext_iff.mp ‹_ = (_, _)›
  all_goals simp

@[simp] theorem from_execProdData (a : Acc) (q : Nat) (data : List Byte) (s : State) : From s.vault (execProdData a q data s) := by simp [execProdData]

@[simp] theorem vault_trimOpen (s : State) (q : Nat) (n : Nat) : (trimOpen s q n).vault = s.vault := by
  unfold trimOpen
  split <;> simp

@[simp] theorem vault_prodCommitReg (s : State) (q : Nat) (trim : Nat) : (prodCommitReg s q trim).vault = s.vault := by simp [prodCommitReg]

@[simp] theorem from_execProdCommit (a : Acc) (q : Nat) (trim : Nat) (s : State) : From s.vault (execProdCommit a q trim s) := by simp [execProdCommit]

@[simp] theorem vault_prodAbortReg (s : State) (q : Nat) : (prodAbortReg s q).vault = s.vault := by simp [prodAbortReg]

@[simp] theorem from_execProdAbort (a : Acc) (q : Nat) (s : State) : From s.vault (execProdAbort a q s) := by simp [execProdAbort]

@[simp] theorem vault_flushReg (s : State) (q : Nat) (b : Bool) : (flushReg s q b).vault = s.vault := by simp [flushReg]

@[simp] theorem from_execFlush (a : Acc) (q : Nat) (s : State) : From s.vault (execFlush a q s) := by simp [execFlush]

@[simp] theorem vault_testRing (s : State) (q : Nat) : (testRing s q).vault = s.vault := by
  simp only [testRing]
  repeat' split
  all_goals simp

@[simp] theorem vault_dmaHeadReg (s : State) (q : Nat) (v : Nat) : (dmaHeadReg s q v).vault = s.vault := by simp [dmaHeadReg]

@[simp] theorem from_execDmaHeadWrite (a : Acc) (q : Nat) (v : Nat) (s : State) : From s.vault (execDmaHeadWrite a q v s) := by simp [execDmaHeadWrite]

@[simp] theorem vault_popEmpty (s : State) (q : Nat) (key : Nat) (n : Nat) : (popEmpty s q key n).2.vault = s.vault := by simp [popEmpty]

@[simp] theorem vault_popTake (s : State) (q : Nat) (key : Nat) (n : Nat) (k : Packet) : (popTake s q key n k).2.vault = s.vault := by simp [popTake]

@[simp] theorem vault_popReg (s : State) (q : Nat) (key : Nat) (n : Nat) (spec : Bool) : (popReg s q key n spec).2.vault = s.vault := by
  simp only [popReg]
  repeat' split
  all_goals simp

@[simp] theorem vault_holdOffsetReg (s : State) (q : Nat) (v : Nat) : (holdOffsetReg s q v).vault = s.vault := by simp [holdOffsetReg]

@[simp] theorem from_execHoldOffsetWrite (a : Acc) (q : Nat) (v : Nat) (s : State) : From s.vault (execHoldOffsetWrite a q v s) := by simp [execHoldOffsetWrite]

@[simp] theorem vault_holdAckReg (s : State) (q : Nat) (seq : Nat) : (holdAckReg s q seq).vault = s.vault := by simp [holdAckReg]

@[simp] theorem from_execHoldAck (a : Acc) (q : Nat) (seq : Nat) (s : State) : From s.vault (execHoldAck a q seq s) := by simp [execHoldAck]

@[simp] theorem vault_qStatusReg (s : State) (q : Nat) (v : Nat) : (qStatusReg s q v).vault = s.vault := by simp [qStatusReg]

@[simp] theorem from_execWmPendingAck (a : Acc) (q : Nat) (s : State) : From s.vault (execWmPendingAck a q s) := by simp [execWmPendingAck]

@[simp] theorem vault_dmaDeliver (s : State) (q : Nat) (f : Nat) (r : DmaRing) (k : Packet) : (dmaDeliver s q f r k).vault = s.vault := by simp [dmaDeliver]

@[simp] theorem vault_dmaRun (s : State) (q : Nat) : (dmaRun s q).vault = s.vault := by
  simp only [dmaRun]
  split <;> simp

@[simp] theorem from_execDmaPacketDeliver (q : Nat) (s : State) : From s.vault (execDmaPacketDeliver q s) := by simp [execDmaPacketDeliver]

@[simp] theorem from_execNotificationTimeout (p : Nat) (s : State) : From s.vault (execNotificationTimeout p s) := by simp [execNotificationTimeout]

@[simp] theorem vault_holdView (s : State) (q : Nat) (off : Nat) (len : Nat) : (holdView s q off len).s.vault = s.vault := by
  simp only [holdView]
  repeat' split
  all_goals simp

@[simp] theorem vault_consumerRead (s : State) (a : Acc) (q : Nat) (r : Nat) (len : Nat) : (consumerRead s a q r len).s.vault = s.vault := by simp [consumerRead]

@[simp] theorem vault_queueRead (a : Acc) (p : Nat) (off : Nat) (len : Nat) (s : State) : (queueRead a p off len s).s.vault = s.vault := by
  simp only [queueRead]
  repeat' split
  all_goals simp

@[simp] theorem vault_statusWrite (s : State) (q : Nat) (r : Nat) (d : List Byte) : (statusWrite s q r d).vault = s.vault := by simp [statusWrite]

@[simp] theorem vault_consumerWrite (s : State) (q : Nat) (r : Nat) (v : Nat) : (consumerWrite s q r v).vault = s.vault := by simp [consumerWrite]

@[simp] theorem vault_queueWrite (p : Nat) (off : Nat) (d : List Byte) (s : State) : (queueWrite p off d s).s.vault = s.vault := by
  simp only [queueWrite]
  repeat' split
  all_goals simp

@[simp] theorem vault_dropHead (s : State) (p : Nat) (c : Nat) (ctr : CtrId) : (dropHead s p c ctr).vault = s.vault := by
  unfold dropHead
  split <;> simp

@[simp] theorem vault_newHead (s : State) (p : Nat) (c : Nat) (x3 : Nat) : (newHead s p c x3).vault = s.vault := by
  fun_induction newHead s p c x3 <;> simp [*]

@[simp] theorem vault_joinClass (s : State) (k : Copy) : (joinClass s k).vault = s.vault := by simp [joinClass]

@[simp] theorem vault_selectWrr (s : State) (p : Nat) (x2 : Nat) : (selectWrr s p x2).2.vault = s.vault := by
  fun_induction selectWrr s p x2 <;> simp [*]

@[simp] theorem vault_selectClass (s : State) (p : Nat) : (selectClass s p).2.vault = s.vault := by
  simp only [selectClass]
  split <;> simp

@[simp] theorem vault_protectTx (s : State) (p : Nat) (f : Frame) : (protectTx s p f).2.vault = s.vault := by
  simp only [protectTx]
  split <;> simp

@[simp] theorem vault_startTx (s : State) (p : Nat) (c : Nat) : (startTx s p c).vault = s.vault := by
  unfold startTx
  split <;> simp

@[simp] theorem vault_selectStart (s : State) (p n : Nat) : (selectStart s p n).vault = s.vault := by
  induction n generalizing s with
  | zero => rfl
  | succ n ih =>
    rw [selectStart]
    split
    · next h => exact vault_of_snd h (vault_selectClass ..)
    · next h =>
      have hc := vault_of_snd h (vault_selectClass ..)
      split
      · exact hc
      · simp [ih, hc]

@[simp] theorem vault_dropStopped (s : State) (p : Nat) : (dropStopped s p).vault = s.vault := by simp [dropStopped]

@[simp] theorem vault_trySelect (s : State) (p : Nat) : (trySelect s p).vault = s.vault := by simp [trySelect]

@[simp] theorem vault_canarySample (s : State) (r : Nat) (cls : Nat) (since : Nat) (bad : Bool) (stomped : Bool) (cut : Bool) (f : Frame) (fcs : List Byte) : (canarySample s r cls since bad stomped cut f fcs).vault = s.vault := by
  simp only [canarySample]
  repeat' split
  all_goals try obtain ⟨rfl, _⟩ := Prod.ext_iff.mp ‹_ = (_, _)›
  all_goals simp

@[simp] theorem vault_canaryTap (s : State) (dir : Nat) (port : Nat) (cls : Nat) (since : Nat) (bad : Bool) (stomped : Bool) (cut : Bool) (f : Frame) (fcs : List Byte) : (canaryTap s dir port cls since bad stomped cut f fcs).vault = s.vault := by simp [canaryTap]

@[simp] theorem vault_finishTx (s : State) (p : Nat) : (finishTx s p).2.vault = s.vault := by
  unfold finishTx
  split <;> simp

@[simp] theorem vault_drainSending (s : State) (p : Nat) : (drainSending s p).vault = s.vault := by
  unfold drainSending
  split <;> simp

@[simp] theorem from_execSelectRetry (port : Nat) (s : State) : From s.vault (execSelectRetry port s) := by simp [execSelectRetry]

@[simp] theorem from_execLaunchTimeReached (port : Nat) (cls : Nat) (s : State) : From s.vault (execLaunchTimeReached port cls s) := by
  simp only [execLaunchTimeReached]
  repeat' split
  all_goals simp

@[simp] theorem vault_gateStep (s : State) (p : Nat) : (gateStep s p).vault = s.vault := by simp [gateStep]

@[simp] theorem from_execRosterEntryBoundary (port : Nat) (s : State) : From s.vault (execRosterEntryBoundary port s) := by simp [execRosterEntryBoundary]

@[simp] theorem from_execRosterSwitchover (port : Nat) (s : State) : From s.vault (execRosterSwitchover port s) := by
  simp only [execRosterSwitchover]
  repeat' split
  all_goals simp

@[simp] theorem vault_portStep (s : State) (p : Nat) : (portStep s p).vault = s.vault := by
  unfold portStep
  dsimp only
  rw [vault_gateStep, vault_forEach fun c s => ?late, vault_setPort]
  split
  · simp
  · rfl

@[simp] theorem from_execAgeSweep (s : State) : From s.vault (execAgeSweep s) := by
  unfold execAgeSweep
  rw [from_next, vault_forEach fun p s => vault_forEach fun c s => ?old]
  · exact .refl _
  · split
    · simp
    · rfl

@[simp] theorem vault_resample (s : State) : (resample s).vault = s.vault := (rfl)

@[simp] theorem from_execSampleInstant (obj : Nat) (s : State) : From s.vault (execSampleInstant obj s) := by simp [execSampleInstant]

@[simp] theorem vault_ddPut (s : State) (e : DdEntry) : (ddPut s e).vault = s.vault := (rfl)

@[simp] theorem vault_ddRoom (s : State) : (ddRoom s).vault = s.vault := by
  simp only [ddRoom]
  repeat' split
  all_goals simp

@[simp] theorem vault_ddArrive (s : State) (mac : Nat) (sn : Nat) : (ddArrive s mac sn).2.vault = s.vault := by
  unfold ddArrive
  split <;> simp

@[simp] theorem vault_hsrArrive (s : State) (i : Nat) (f : Frame) : (hsrArrive s i f).2.vault = s.vault := by
  unfold hsrArrive
  split
  · simp
  · refine vault_snd_ite_of (by simp) ?_
    split
    · next h => simp [vault_of_snd h (vault_ddArrive ..)]
    · next h => simp [vault_of_snd h (vault_ddArrive ..)]

@[simp] theorem vault_setDelivered (s : State) (mac : Nat) (sn : Nat) : (setDelivered s mac sn).vault = s.vault := by
  unfold setDelivered
  split <;> simp

@[simp] theorem vault_learnProxy (s : State) (mac : Nat) : (learnProxy s mac).2.vault = s.vault := by simp [learnProxy]

@[simp] theorem vault_copyToPort (s : State) (i o : Nat) (f : Frame) (r : RxFrame) (launch : Option Nat) (badLaunch : Bool) :
    (copyToPort s i o f r launch badLaunch).2.vault = s.vault := by
  rw [copyToPort]
  split
  · simp
  · dsimp only
    split
    · next h => simp [vault_of_fst h vault_grantCopy]
    · next h => simp [vault_of_fst h vault_grantCopy]

@[simp] theorem vault_copyToQueue (s : State) (i : Nat) (q : Nat) (f : Frame) (r : RxFrame) : (copyToQueue s i q f r).2.vault = s.vault := by simp [copyToQueue]

/-- Copies made one after another leave the view. -/
theorem vault_foldl_snd {α β : Type} {l : List α} {x : β × State} {f : β × State → α → β × State}
    (h : ∀ x a, (f x a).2.vault = x.2.vault) : (l.foldl f x).2.vault = x.2.vault := by
  induction l generalizing x with
  | nil => rfl
  | cons a l ih => rw [List.foldl_cons, ih, h]

theorem vault_foldl_fst {α β : Type} {l : List α} {x : State × β} {f : State × β → α → State × β}
    (h : ∀ x a, (f x a).1.vault = x.1.vault) : (l.foldl f x).1.vault = x.1.vault := by
  induction l generalizing x with
  | nil => rfl
  | cons a l ih => rw [List.foldl_cons, ih, h]

@[simp] theorem vault_makeCopies (s : State) (i : Nat) (f : Frame) (rt : Route) (fwd : Option Nat) (r : RxFrame) (launch : Option Nat)
    (badLaunch : Bool) : (makeCopies s i f rt fwd r launch badLaunch).2.vault = s.vault := by
  simp only [makeCopies]
  rw [vault_foldl_snd fun x q => by simp, vault_foldl_snd fun x o => by simp]
  cases fwd <;> simp

@[simp] theorem vault_police (s : State) (i : Nat) (len : Nat) (e : Nat) : (police s i len e).2.vault = s.vault := by simp [police]

@[simp] theorem vault_headRing (s : State) (i : Nat) (f : Frame) (r : RxFrame) : (headRing s i f r).2.vault = s.vault := by simp [headRing]

@[simp] theorem vault_headInternal (s : State) (f : Frame) (egress : Option Nat) (r : RxFrame) (launch : Option Nat) (badLaunch : Bool) :
    (headInternal s f egress r launch badLaunch).2.vault = s.vault := by
  have hp : (match r.stream with | some e => police s 14 f.len e | none => (none, s)).2.vault = s.vault := by
    cases r.stream <;> simp
  unfold headInternal
  split
  · next h => simp [vault_of_snd h hp]
  · next h => simp [vault_of_snd h hp]

@[simp] theorem vault_headLocal (s : State) (i : Nat) (f : Frame) (r : RxFrame) : (headLocal s i f r).2.vault = s.vault := by simp [headLocal]

@[simp] theorem vault_headCore (s : State) (i : Nat) (f : Frame) (since : Nat) (egress : Option Nat) (launch : Option Nat) (badLaunch : Bool) : (headCore s i f since egress launch badLaunch).vault = s.vault := by
  simp only [headCore]
  repeat' split
  all_goals simp

@[simp] theorem vault_stompCopy (s : State) (i : Nat) (o : Nat) (n : Option Nat) (propagated : Bool) : (stompCopy s i o n propagated).vault = s.vault := by
  unfold stompCopy
  split <;> simp

@[simp] theorem vault_killCopy (s : State) (n : Option Nat) (propagated : Bool) (k : Copy) : (killCopy s n propagated k).vault = s.vault := by simp [killCopy]

@[simp] theorem vault_growCopy (s : State) (k : Copy) (b : Nat) : (growCopy s k b).2.vault = s.vault := by
  unfold growCopy
  split
  · split
    · rfl
    · dsimp only
      split <;> simp
  · split
    · next h => simp [vault_of_fst h vault_grantCopy]
    · next h => simp [vault_of_fst h vault_grantCopy]

@[simp] theorem vault_arriveCopy (i n : Nat) (x : RxFrame × State) (k : Copy) : (arriveCopy i n x k).2.vault = x.2.vault := by
  simp [arriveCopy]

@[simp] theorem vault_arriveTo (s : State) (i n : Nat) : (arriveTo s i n).vault = s.vault := by
  unfold arriveTo
  split
  · rfl
  · simp [vault_foldl_snd]

@[simp] theorem vault_arriveNow (s : State) (i : Nat) : (arriveNow s i).vault = s.vault := by
  unfold arriveNow
  split <;> simp

@[simp] theorem vault_keepCopy (s : State) (f : Frame) (len : Nat) (k : Copy) : (keepCopy s f len k).1.vault = s.vault := by
  simp only [keepCopy]
  repeat' split
  all_goals simp

theorem vault_of_inboundFull {s t : State} {k : Copy} (h : inboundFull s k = some t) : t.vault = s.vault := by
  unfold inboundFull at h
  split at h
  · cases h
  · dsimp only at h
    (repeat' split at h) <;> cases h <;> simp

@[simp] theorem vault_keepInQueue (s : State) (k : Copy) : (keepInQueue s k).1.vault = s.vault := by
  unfold keepInQueue
  split
  · rfl
  · split
    · next h => simp [vault_of_inboundFull h]
    · simp

@[simp] theorem vault_fdbPut (s : State) (k : Nat) (e : FdbEntry) : (fdbPut s k e).vault = s.vault := (rfl)

@[simp] theorem vault_learn (s : State) (i : Nat) (mac : Nat) (vlan : Nat) : (learn s i mac vlan).vault = s.vault := by
  simp only [learn]
  repeat' split
  all_goals simp

@[simp] theorem vault_macsecTake (s : State) (i : Nat) (f : Frame) : (macsecTake s i f).vault = s.vault := by
  simp only [macsecTake]
  repeat' split
  all_goals simp

@[simp] theorem vault_keepAll (s : State) (f : Frame) (len : Nat) (l : List Copy) : (keepAll s f len l).1.vault = s.vault :=
  vault_foldl_fst fun x k => by simp

@[simp] theorem vault_endGood (s : State) (i : Nat) (r : RxFrame) (len : Nat) : (endGood s i r len).vault = s.vault := by
  unfold endGood
  split <;> simp

@[simp] theorem vault_learnFrom (s : State) (i : Nat) (r : RxFrame) : (learnFrom s i r).vault = s.vault := by simp [learnFrom]

@[simp] theorem vault_endWhole (s : State) (i : Nat) (r : RxFrame) (len : Nat) : (endWhole s i r len).2.vault = s.vault := by
  simp only [endWhole]
  repeat' split
  all_goals simp

@[simp] theorem vault_rxFcs (s : State) (bad : Nat) (f : Frame) : (rxFcs s bad f).2.vault = s.vault := by simp [rxFcs]

@[simp] theorem vault_endCore (s : State) (i : Nat) (bad : Nat) (len : Nat) : (endCore s i bad len).vault = s.vault := by
  simp only [endCore]
  split <;> simp

@[simp] theorem from_execFrameHead (port : Nat) (fr : Frame) (s : State) : From s.vault (execFrameHead port fr s) := by simp [execFrameHead]

@[simp] theorem from_execFrameEnd (port : Nat) (bad : Nat) (len : Nat) (s : State) : From s.vault (execFrameEnd port bad len s) := by simp [execFrameEnd]

@[simp] theorem from_execTransmitterFree (port : Nat) (s : State) : From s.vault (execTransmitterFree port s) := by
  rw [execTransmitterFree, from_ite]
  refine ⟨fun _ => from_next.2 ?_, fun _ => trivial⟩
  split
  · next h => simp [vault_of_snd h (vault_finishTx ..)]
  · next h => simp [vault_of_snd h (vault_finishTx ..)]

@[simp] theorem vault_forwardHead (s : State) (q : Nat) : (forwardHead s q).vault = s.vault := by
  simp only [forwardHead]
  split <;> simp

@[simp] theorem vault_forwardAll (s : State) (q : Nat) (x2 : Nat) : (forwardAll s q x2).vault = s.vault := by
  fun_induction forwardAll s q x2 <;> simp [*]

@[simp] theorem from_execPacketVisible (q : Nat) (s : State) : From s.vault (execPacketVisible q s) := by simp [execPacketVisible]

@[simp] theorem vault_cellAllocate (s : State) (q : Nat) (d : List Byte) : (cellAllocate s q d).vault = s.vault := by
  simp only [cellAllocate]
  repeat' split
  all_goals simp

@[simp] theorem from_execCellAllocate (q : Nat) (data : List Byte) (s : State) : From s.vault (execCellAllocate q data s) := by simp [execCellAllocate]

@[simp] theorem vault_fdbDrop (s : State) (p : FdbEntry → Bool) : (fdbDrop s p).vault = s.vault := (rfl)

@[simp] theorem from_execFdbAgeExpiry (mac : Nat) (vlan : Nat) (s : State) : From s.vault (execFdbAgeExpiry mac vlan s) := by simp [execFdbAgeExpiry]

@[simp] theorem from_execDdForget (mac : Nat) (s : State) : From s.vault (execDdForget mac s) := by simp [execDdForget]

@[simp] theorem from_execProxyForget (mac : Nat) (s : State) : From s.vault (execProxyForget mac s) := by simp [execProxyForget]

@[simp] theorem vault_writeCpl (s : State) (p : Nat) (tag : Nat) (st : Nat) (res : List Byte) : (writeCpl s p tag st res).vault = s.vault := (rfl)

@[simp] theorem vault_finalCpl (s : State) (d : Desc) (st : Nat) (res : List Byte) : (finalCpl s d st res).vault = s.vault := by simp [finalCpl]

/-- A write of space 4 keeps it in form. -/
theorem evolves_sramWrite {v : Vault} {s : State} {off : Nat} {b : List Byte} (h : v.Evolves s.vault) :
    v.Evolves ({ s with island := { s.island with sram := memWrite s.island.sram off b } } : State).vault :=
  h.trans ⟨id, List.prefix_rfl, Nat.le_refl _, fun ⟨hs, hd⟩ => ⟨memWrite_wf _ _ _ hs, hd⟩⟩

@[simp] theorem evolves_writeBulk {v : Vault} {s : State} {off : Nat} {b : List Byte} (h : v.Evolves s.vault) :
    v.Evolves (writeBulk s off b).vault := by
  unfold writeBulk
  split
  · exact h
  · exact evolves_sramWrite h

theorem evolves_endCmd {v : Vault} {s : State} {d : Desc} {op : Nat} {bulk : List Byte} {async : Bool} {r : CmdRes}
    (hs : v.Evolves s.vault) (h : r.From v) : v.Evolves (endCmd s d op bulk async r).vault := by
  cases r with
  | fail => simpa [endCmd] using hs
  | ok => simpa [endCmd] using evolves_writeBulk h
  | ends => simpa [endCmd] using h
  | later => simpa [endCmd] using h
  | silent => exact h

theorem from_runBody {v : Vault} {i : CmdInfo} {body : Cmd → State → CmdRes} {c : Cmd} {s : State} (hs : v.Evolves s.vault)
    (h : (body c s).From v) : (runBody i body c s).From v := by
  unfold runBody
  refine from_cmd_ite.2 ⟨fun _ => trivial, fun _ => from_cmd_ite.2 ⟨fun _ => trivial, fun _ => ?_⟩⟩
  split
  · trivial
  · refine from_cmd_ite.2 ⟨fun _ => trivial, fun _ => from_cmd_ite.2 ⟨fun _ => h, fun _ => ?_⟩⟩
    exact from_later.2 (hs.of_eq (vault_holdWord _ _ _))

@[simp] theorem vault_handed (svc : Bool) (s : State) : (handed svc s).2.vault = s.vault := by simp [handed]

theorem evolves_runCmd {v : Vault} {s : State} {i : CmdInfo} {d : Desc} {body : Cmd → State → CmdRes} (hs : v.Evolves s.vault)
    (h : ∀ c t, (body c t).From t.vault) : v.Evolves (runCmd i d body s).vault := by
  have hend (c : Cmd) (t : State) (ht : t.vault = s.vault) : v.Evolves (endCmd t d i.op c.bulk false (runBody i body c t)).vault := by
    have hv : v.Evolves t.vault := hs.of_eq ht
    exact evolves_endCmd hv (from_runBody hv ((h c t).of_evolves hv))
  unfold runCmd
  dsimp only
  refine evolves_vault_ite hs (evolves_vault_ite (hs.of_eq (vault_setPart ..)) ?_)
  split
  · exact hs.of_eq (by simp)
  · refine evolves_vault_ite (evolves_vault_ite ?_ (evolves_vault_ite ?_ ?_)) (evolves_vault_ite ?_ (hend _ _ ?_))
    case refine_5 => simp
    all_goals exact hs.of_eq (by simp)

theorem from_cmdRow {s : State} {i : CmdInfo} {d : Desc} {body : Cmd → State → CmdRes} (h : ∀ c t, (body c t).From t.vault) :
    From s.vault (cmdRow i d body s) := from_ite.2 ⟨fun _ => evolves_runCmd (.refl _) h, fun _ => from_fault⟩

theorem evolves_finishAsync {v : Vault} {s : State} {p : Nat} {i : CmdInfo} {body : Cmd → State → CmdRes} {a : Async} {rest : List Async}
    (hs : v.Evolves s.vault) (h : ∀ c t, (body c t).From t.vault) : v.Evolves (finishAsync s p i body a rest).vault := by
  unfold finishAsync
  have hv : v.Evolves (s.setPart p { s.part p with cmds := rest }).vault := by simpa using hs
  exact evolves_endCmd hv (from_runBody hv ((h _ _).of_evolves hv))

@[simp] theorem vault_finishBegun (s : State) (p : Nat) (op : Nat) (tag : Nat) (st : Nat) (res : List Byte) : (finishBegun s p op tag st res).vault = s.vault := by
  unfold finishBegun
  split <;> simp

@[simp] theorem from_handle {v : Vault} {s : State} {c : Cmd} {k cls : Nat} {f : Nat → CmdRes} :
    (handle s c k cls f).From v ↔ ∀ i, localRes s c.p (c.u k 4) = some (cls, i) → (f i).From v := by
  unfold handle
  split
  · next cl i h => simp [h, eq_comm]
  · next h => simp [h]

@[simp] theorem from_ownRes {v : Vault} {s : State} {c : Cmd} {cls i : Nat} {k : CmdRes} :
    (ownRes s c cls i k).From v ↔ (s.owns c.p cls i = true → s.fwHeld cls i = false → k.From v) := by
  simp [ownRes]

@[simp] theorem from_readRes {v : Vault} {s : State} {c : Cmd} {cls i : Nat} {k : CmdRes} :
    (readRes s c cls i k).From v ↔ (s.mayRead c.p cls i = true → k.From v) := by
  simp [readRes]

@[simp] theorem vault_sqTailReg (s : State) (p : Nat) (v : Nat) : (sqTailReg s p v).vault = s.vault := by simp [sqTailReg]

@[simp] theorem vault_cqHeadReg (s : State) (p : Nat) (v : Nat) : (cqHeadReg s p v).vault = s.vault := by simp [cqHeadReg]

@[simp] theorem from_execMbxSqTailWrite (a : Acc) (v : Nat) (s : State) : From s.vault (execMbxSqTailWrite a v s) := by simp [execMbxSqTailWrite]

@[simp] theorem from_execMbxCqHeadWrite (a : Acc) (v : Nat) (s : State) : From s.vault (execMbxCqHeadWrite a v s) := by simp [execMbxCqHeadWrite]

@[simp] theorem vault_mbxRead (s : State) (p : Nat) (off : Nat) (len : Nat) : (mbxRead s p off len).s.vault = s.vault := by simp [mbxRead]

@[simp] theorem vault_mbxWrite (s : State) (p : Nat) (off : Nat) (d : List Byte) : (mbxWrite s p off d).s.vault = s.vault := by simp [mbxWrite]

@[simp] theorem vault_bindProd (s : State) (q : Nat) (p : Producer) : (bindProd s q p).vault = s.vault := (rfl)

@[simp] theorem vault_bindCons (s : State) (q : Nat) (k : Consumer) : (bindCons s q k).vault = s.vault := by simp [bindCons]

@[simp] theorem from_chkSt {v : Vault} {st : Nat} {k : CmdRes} : (chkSt st k).From v ↔ (st = stOk → k.From v) := by simp [chkSt]

@[simp] theorem from_bodyQConfig (c : Cmd) (s : State) : (bodyQConfig c s).From s.vault := by simp [bodyQConfig]

@[simp] theorem from_execQConfig (d : Desc) (s : State) : From s.vault (execQConfig d s) := from_cmdRow fun c t => by simp

@[simp] theorem from_bodyQBind (c : Cmd) (s : State) : (bodyQBind c s).From s.vault := by
  simp only [bodyQBind]
  repeat' split
  all_goals simp

@[simp] theorem from_execQBind (d : Desc) (s : State) : From s.vault (execQBind d s) := from_cmdRow fun c t => by simp

@[simp] theorem from_bodyQFlush (c : Cmd) (s : State) : (bodyQFlush c s).From s.vault := by simp [bodyQFlush]

@[simp] theorem from_execQFlush (d : Desc) (s : State) : From s.vault (execQFlush d s) := from_cmdRow fun c t => by simp

@[simp] theorem from_bodyQDesc (c : Cmd) (s : State) : (bodyQDesc c s).From s.vault := by simp [bodyQDesc]

@[simp] theorem from_execQDesc (d : Desc) (s : State) : From s.vault (execQDesc d s) := from_cmdRow fun c t => by simp

@[simp] theorem from_bodyDmaRingSet (c : Cmd) (s : State) : (bodyDmaRingSet c s).From s.vault := by simp [bodyDmaRingSet]

@[simp] theorem from_execDmaRingSet (d : Desc) (s : State) : From s.vault (execDmaRingSet d s) := from_cmdRow fun c t => by simp

@[simp] theorem from_bodyQMap (c : Cmd) (s : State) : (bodyQMap c s).From s.vault := by simp [bodyQMap]

@[simp] theorem from_execQMap (d : Desc) (s : State) : From s.vault (execQMap d s) := from_cmdRow fun c t => by simp

theorem vault_of_stageCells {s t : State} {have_ l : List Nat} {n : Nat} (h : stageCells s have_ n = some (l, t)) : t.vault = s.vault := by
  unfold stageCells at h
  refine List.foldlRecOn (motive := fun a => ∀ l t, a = some (l, t) → t.vault = s.vault) _ _ ?start ?round l t h
  case start =>
    intro l t h
    cases h
    rfl
  case round =>
    intro a ha _ _ l t h
    split at h
    · cases h
    · split at h
      · next hc =>
        cases h
        rw [vault_mk, vault_of_grantCell hc]
        exact ha _ _ rfl
      · cases h

@[simp] theorem vault_reapStaged (s : State) : (reapStaged s).vault = s.vault := by simp [reapStaged]

@[simp] theorem vault_takeData (s : State) (g : Nat) (node : Nat) (part : Nat) (tally : Nat) (n : Nat) (data : List Byte) (cells : List Nat) : (takeData s g node part tally n data cells).vault = s.vault := by simp [takeData]

@[simp] theorem vault_onData (s : State) (g node part tally n : Nat) (data : List Byte) :
    (onData s g node part tally n data).vault = s.vault := by
  unfold onData
  split
  · next h => simp [vault_of_stageCells h]
  · simp

@[simp] theorem vault_onShadow (s : State) (g : Nat) (node : Nat) (part : Nat) (n : Nat) (crc : Nat) (len : Nat) : (onShadow s g node part n crc len).vault = s.vault := (rfl)

@[simp] theorem vault_offer {s : State} {g part n : Nat} {f : State → State} (h : ∀ t : State, (f t).vault = t.vault) :
    (offer s g part n f).vault = s.vault := by
  unfold offer
  split <;> simp [h]

@[simp] theorem vault_compareShadows (s : State) (g : Nat) (n : Nat) : (compareShadows s g n).vault = s.vault := by
  simp only [compareShadows]
  split <;> simp

@[simp] theorem vault_groupDeadline (s : State) (g : Nat) (n : Nat) : (groupDeadline s g n).vault = s.vault := by simp [groupDeadline]

@[simp] theorem vault_takeFromQueue (s : State) (use : Nat) (f : GrtFrame) : (takeFromQueue s use f).vault = s.vault := by
  simp only [takeFromQueue]
  repeat' split
  all_goals simp

@[simp] theorem vault_grtServe {s : State} {t : Nat} {f : GrtFrame} {g : State → State} (h : ∀ t : State, (g t).vault = t.vault) :
    (grtServe s t f g).vault = s.vault := by
  simp [grtServe, h]

@[simp] theorem evolves_grtServe {v : Vault} {s : State} {t : Nat} {f : GrtFrame} {g : State → State}
    (h : ∀ t : State, t.vault.Evolves (g t).vault) (hs : v.Evolves s.vault) : v.Evolves (grtServe s t f g).vault := by
  have hg (q : Nat) : v.Evolves (g (takeFromQueue s q f)).vault := (hs.of_eq (vault_takeFromQueue ..)).trans (h _)
  simp [grtServe, hs, hg]

@[simp] theorem vault_becomeActive (s : State) (t : Nat) : (becomeActive s t).vault = s.vault := by simp [becomeActive]

@[simp] theorem vault_twinHear (s : State) (node : Nat) (g : Nat) (target : Nat) (typ : Nat) (tally : Nat) (n : Nat) : (twinHear s node g target typ tally n).vault = s.vault := by simp [twinHear]

@[simp] theorem from_execImageOut (f : GrtFrame) (s : State) : From s.vault (execImageOut f s) := by simp [execImageOut]

@[simp] theorem from_execShadow (f : GrtFrame) (s : State) : From s.vault (execShadow f s) := by simp [execShadow]

@[simp] theorem from_execResign (f : GrtFrame) (s : State) : From s.vault (execResign f s) := by
  refine from_next.2 ((Vault.Evolves.refl _).of_eq (vault_grtServe fun t => ?_))
  simp

@[simp] theorem vault_stageData (s : State) (node part g off : Nat) (d : List Byte) : (stageData s node part g off d).vault = s.vault := by
  unfold stageData
  dsimp only
  split
  · split
    · simp
    · split
      · simp
      · next h => simp [vault_of_stageCells h]
  · split
    · simp
    · next h => simp [vault_of_stageCells h]

@[simp] theorem vault_takeStage (s : State) (node : Nat) (part : Nat) (g : Nat) : (takeStage s node part g).2.vault = s.vault := by
  unfold takeStage
  split <;> simp

@[simp] theorem vault_stageCommit (s : State) (node part g v : Nat) : (stageCommit s node part g v).vault = s.vault := by
  have hdata (t : State) (l : List Nat) (len n tally : Nat) (d : List Byte) : (match stageCells t l len with
      | some (l, s) => takeData s g node part tally n d l
      | none => t.count cDropPool 0).vault = t.vault := by
    split
    · next h => simp [vault_of_stageCells h]
    · simp
  simp only [stageCommit]
  refine vault_ite_of (by simp) (vault_ite_of (by simp) ?_)
  split
  · simp
  · refine vault_ite_of (by simp) ((vault_offer fun t => vault_ite_of (by simp) ?_).trans (vault_takeStage ..))
    exact hdata ..

@[simp] theorem from_execStageDataWrite (a : Acc) (g : Nat) (off : Nat) (data : List Byte) (s : State) : From s.vault (execStageDataWrite a g off data s) := by simp [execStageDataWrite]

@[simp] theorem from_execStageCommit (a : Acc) (g : Nat) (value : Nat) (s : State) : From s.vault (execStageCommit a g value s) := by simp [execStageCommit]

@[simp] theorem from_execStageAbort (a : Acc) (g : Nat) (s : State) : From s.vault (execStageAbort a g s) := by simp [execStageAbort]

@[simp] theorem from_execStageRecordExpiry (node : Nat) (part : Nat) (g : Nat) (s : State) : From s.vault (execStageRecordExpiry node part g s) := by simp [execStageRecordExpiry]

@[simp] theorem vault_twinSnapshot (s : State) (n : Nat) : (twinSnapshot s n).vault = s.vault := by simp [twinSnapshot]

@[simp] theorem vault_drillTimeout (s : State) (t : Nat) : (drillTimeout s t).vault = s.vault := by
  simp only [drillTimeout]
  split <;> simp

@[simp] theorem vault_drillTimeouts (s : State) : (drillTimeouts s).vault = s.vault := by simp [drillTimeouts]

@[simp] theorem vault_twinDeadline (s : State) (n : Nat) : (twinDeadline s n).vault = s.vault := by simp [twinDeadline]

@[simp] theorem vault_listenEnd (s : State) (t : Nat) : (listenEnd s t).vault = s.vault := by simp [listenEnd]

@[simp] theorem from_execTwinListenEnd (set : Nat) (s : State) : From s.vault (execTwinListenEnd set s) := by simp [execTwinListenEnd]

@[simp] theorem vault_sendHandoff (s : State) (t : Nat) (tally : Nat) (n : Nat) (ack : Bool) : (sendHandoff s t tally n ack).vault = s.vault := (rfl)

@[simp] theorem from_execDrillHandoff (set : Nat) (tally : Nat) (n : Nat) (ack : Bool) (s : State) : From s.vault (execDrillHandoff set tally n ack s) := by
  simp only [execDrillHandoff]
  repeat' split
  all_goals simp

@[simp] theorem vault_resignLocal (s : State) (part n : Nat) (groups : List Nat) : (resignLocal s part n groups).vault = s.vault :=
  vault_forEach fun _ _ => vault_offer fun _ => vault_onData ..

theorem vault_of_pinnedCells {s t : State} {n : Nat} {l : List Nat} (h : pinnedCells s n = some (l, t)) : t.vault = s.vault := by
  induction n generalizing s l with
  | zero => cases h; rfl
  | succ n ih =>
    rw [pinnedCells] at h
    split at h
    · cases h
    · next hc =>
      obtain ⟨⟨l', t'⟩, he, hl⟩ := Option.map_eq_some_iff.1 h
      cases hl
      rw [ih he, vault_of_takeCell hc]

@[simp] theorem vault_settleGasp (s : State) : (settleGasp s).vault = s.vault := by
  unfold settleGasp
  split
  · rfl
  · dsimp only
    rw [vault_forEach fun a s => ?_, vault_freeAll, vault_mk]
    split
    · next h => simp [vault_of_pinnedCells h]
    · rfl

@[simp] theorem vault_sendBuilt (s : State) (h : GrtHdr) (d : List Byte) : (sendBuilt s h d).vault = s.vault := by simp [sendBuilt]

@[simp] theorem vault_restTwin (s : State) (t : Nat) : (restTwin s t).vault = s.vault := by simp [restTwin]

@[simp] theorem vault_lastGasp (s : State) : (lastGasp s).vault = s.vault := by simp [lastGasp]

@[simp] theorem vault_resignPairs (s : State) (p : Nat) (l : List (Nat × Nat)) : (resignPairs s p l).vault = s.vault := by simp [resignPairs]

@[simp] theorem vault_resignPart (s : State) (p : Nat) : (resignPart s p).vault = s.vault := by simp [resignPart]

@[simp] theorem vault_freeLocks (s : State) (p : Nat) : (freeLocks s p).vault = s.vault := (rfl)

@[simp] theorem vault_attDown (s : State) (a : Nat) : (attDown s a).vault = s.vault := by
  unfold attDown
  split <;> simp

@[simp] theorem vault_putChan (s : State) (c : Nat) (x : CanChan) : (State.putChan s c x).vault = s.vault := (rfl)

@[simp] theorem vault_errEvents (s : State) (ch : Nat) (a : CanChan) (b : CanChan) : (errEvents s ch a b).vault = s.vault := by simp [errEvents]

@[simp] theorem vault_recordTo (s : State) (ch : Nat) (q : Nat) (ctr : CtrId) (b : Bool → List Byte) : (recordTo s ch q ctr b).1.vault = s.vault := by
  simp only [recordTo]
  repeat' split
  all_goals try obtain ⟨rfl, _⟩ := Prod.ext_iff.mp ‹_ = (_, _)›
  all_goals simp

@[simp] theorem vault_tunnelSend (s : State) (ch : Nat) (t : Tunnel) (l : List (List Byte)) : (tunnelSend s ch t l).vault = s.vault := by simp [tunnelSend]

@[simp] theorem vault_tunnelFlush (s : State) (ch : Nat) : (tunnelFlush s ch).vault = s.vault := by
  unfold tunnelFlush
  split <;> simp

@[simp] theorem vault_tunnelTake (s : State) (ch : Nat) (b : List Byte) : (tunnelTake s ch b).vault = s.vault := by
  unfold tunnelTake
  split <;> simp

@[simp] theorem vault_fwRelease (s : State) (q : Nat) : (fwRelease s q).vault = s.vault := by simp [fwRelease]

@[simp] theorem vault_crushAdd (s : State) (w : CrushWork) : (crushAdd s w).vault = s.vault := (rfl)

@[simp] theorem vault_slotTake (s : State) (ch : Nat) (i : Nat) (v : Option Nat) (f : CanFrame) (tun : Bool) (b : Bool → List Byte) (be : Bool → List Byte) : (slotTake s ch i v f tun b be).vault = s.vault := by
  simp only [slotTake]
  repeat' split
  all_goals try obtain ⟨rfl, _⟩ := Prod.ext_iff.mp ‹_ = (_, _)›
  all_goals simp

@[simp] theorem vault_chanRecord (s : State) (ch : Nat) (f : CanFrame) (own : Bool) (tun : Bool) (stamp : Nat) (passive : Bool) : (chanRecord s ch f own tun stamp passive).vault = s.vault := by
  simp only [chanRecord]
  repeat' split
  all_goals try obtain ⟨rfl, _⟩ := Prod.ext_iff.mp ‹_ = (_, _)›
  all_goals simp

@[simp] theorem vault_openRecords (s : State) (ch : Nat) : (openRecords s ch).vault = s.vault := by simp [openRecords]

@[simp] theorem vault_abortRecords (s : State) (ch : Nat) : (abortRecords s ch).vault = s.vault := by simp [abortRecords]

@[simp] theorem vault_dropLate (s : State) (ch : Nat) (e : TimedEnt) : (dropLate s ch e).vault = s.vault := by simp [dropLate]

@[simp] theorem vault_timedSettle (s : State) (ch : Nat) (x2 : Nat) : (timedSettle s ch x2).vault = s.vault := by
  fun_induction timedSettle s ch x2 <;> simp [*]

@[simp] theorem vault_fwFrame (s : State) (ch : Nat) (f : CanFrame) : (fwFrame s ch f).vault = s.vault := by simp [fwFrame]

@[simp] theorem vault_fwNext (s : State) (ch : Nat) : (fwNext s ch).vault = s.vault := by
  simp only [fwNext]
  split <;> simp

@[simp] theorem vault_dropAged (s : State) (ch : Nat) (src : TxSrc) : (dropAged s ch src).vault = s.vault := by simp [dropAged]

@[simp] theorem vault_offerBest (s : State) (ch n : Nat) : (offerBest s ch n).1.vault = s.vault := by
  induction n generalizing s with
  | zero => rfl
  | succ n ih =>
    rw [offerBest]
    split
    · simp
    · simp [ih]

@[simp] theorem vault_checkAll (s : State) (ch : Nat) : (checkAll s ch).vault = s.vault := by simp [checkAll]

@[simp] theorem vault_foreignSof (s : State) (ch : Nat) (xl : Bool) : (foreignSof s ch xl).vault = s.vault := by simp [foreignSof]

@[simp] theorem vault_ownSof (s : State) (ch : Nat) (src : TxSrc) : (ownSof s ch src).vault = s.vault := by simp [ownSof]

@[simp] theorem vault_canArbitrate (s : State) (ch : Nat) (lost : Option Bool) : (canArbitrate s ch lost).vault = s.vault := by
  simp only [canArbitrate]
  repeat' split
  all_goals simp

@[simp] theorem from_execCanArbitration (ch : Nat) (lost : Option Bool) (s : State) : From s.vault (execCanArbitration ch lost s) := by simp [execCanArbitration]

@[simp] theorem vault_attemptFailed (s : State) (ch : Nat) : (attemptFailed s ch).vault = s.vault := (rfl)

@[simp] theorem vault_setSession (s : State) (t : TpSession) : (State.setSession s t).vault = s.vault := (rfl)

@[simp] theorem vault_dropSession (s : State) (t : TpSession) : (dropSession s t).vault = s.vault := by
  simp only [dropSession]
  repeat' split
  all_goals simp

@[simp] theorem vault_tpAbort (s : State) (t : TpSession) (ctr : CtrId) (reason : Option Nat) : (tpAbort s t ctr reason).vault = s.vault := by
  unfold tpAbort
  split <;> simp

@[simp] theorem vault_tpAbortAll (s : State) (ch : Nat) : (tpAbortAll s ch).vault = s.vault := by simp [tpAbortAll]

@[simp] theorem vault_canErr (s : State) (ch : Nat) (kind : Nat) (tx : Bool) (step : Nat) : (canErr s ch kind tx step).vault = s.vault := by simp [canErr]

@[simp] theorem from_execCanError (ch : Nat) (kind : Nat) (tx : Bool) (step : Nat) (s : State) : From s.vault (execCanError ch kind tx step s) := by simp [execCanError]

@[simp] theorem vault_protoException (s : State) (ch : Nat) (xl : Bool) : (protoException s ch xl).vault = s.vault := by simp [protoException]

@[simp] theorem from_execProtocolException (ch : Nat) (xl : Bool) (s : State) : From s.vault (execProtocolException ch xl s) := by simp [execProtocolException]

@[simp] theorem from_execCanIntegrated (ch : Nat) (s : State) : From s.vault (execCanIntegrated ch s) := by simp [execCanIntegrated]

@[simp] theorem vault_modeEffect (s : State) (ch : Nat) (m : Nat) : (modeEffect s ch m).vault = s.vault := by simp [modeEffect]

@[simp] theorem vault_canModeEffect (s : State) (ch : Nat) : (canModeEffect s ch).vault = s.vault := by
  unfold canModeEffect
  split <;> simp

@[simp] theorem from_execCanModeEffect (ch : Nat) (s : State) : From s.vault (execCanModeEffect ch s) := by simp [execCanModeEffect]

@[simp] theorem vault_busRecover (s : State) (ch : Nat) (n : Nat) : (busRecover s ch n).vault = s.vault := by simp [busRecover]

@[simp] theorem from_execBusReturn (ch : Nat) (n : Nat) (s : State) : From s.vault (execBusReturn ch n s) := by simp [execBusReturn]

@[simp] theorem vault_timedPut (s : State) (ch : Nat) (f : CanFrame) (launch : Nat) (tun : Bool) : (timedPut s ch f launch tun).1.vault = s.vault := by simp [timedPut]

@[simp] theorem vault_crushPut (s : State) (ch : Nat) (tpl : Nat) (f : CanFrame) : (crushPut s ch tpl f).vault = s.vault := by
  simp only [crushPut]
  split <;> simp

@[simp] theorem vault_feederBad (s : State) (ch : Nat) (q : Nat) : (feederBad s ch q).vault = s.vault := by simp [feederBad]

@[simp] theorem vault_feederMove (s : State) (ch : Nat) : (feederMove s ch).vault = s.vault := by
  simp only [feederMove]
  repeat' split
  all_goals try obtain ⟨rfl, _⟩ := Prod.ext_iff.mp ‹_ = (_, _)›
  all_goals simp

@[simp] theorem from_execFeederHeadMove (ch : Nat) (s : State) : From s.vault (execFeederHeadMove ch s) := by simp [execFeederHeadMove]

@[simp] theorem from_execTunnelBatch (ch : Nat) (s : State) : From s.vault (execTunnelBatch ch s) := by
  unfold execTunnelBatch
  split <;> simp

@[simp] theorem vault_tunnelFrameIn (s : State) (ch : Nat) (t : Tunnel) (stamp : Nat) (f : CanFrame) : (tunnelFrameIn s ch t stamp f).vault = s.vault := by
  simp only [tunnelFrameIn]
  repeat' split
  all_goals try obtain ⟨rfl, _⟩ := Prod.ext_iff.mp ‹_ = (_, _)›
  all_goals simp

@[simp] theorem vault_tunnelIn (s : State) (f : GrtFrame) : (tunnelIn s f).vault = s.vault := by
  simp only [tunnelIn]
  repeat' split
  all_goals simp

@[simp] theorem from_execCanTunnel (f : GrtFrame) (s : State) : From s.vault (execCanTunnel f s) := by simp [execCanTunnel]

@[simp] theorem vault_claimSend (s : State) (ch : Nat) : (claimSend s ch).vault = s.vault := by simp [claimSend]

@[simp] theorem vault_cannotClaim (s : State) (ch : Nat) : (cannotClaim s ch).vault = s.vault := by simp [cannotClaim]

@[simp] theorem vault_claimStart (s : State) (ch : Nat) (a : Nat) : (claimStart s ch a).vault = s.vault := by simp [claimStart]

@[simp] theorem vault_claimLose (s : State) (ch : Nat) : (claimLose s ch).vault = s.vault := by
  simp only [claimLose]
  repeat' split
  all_goals simp

@[simp] theorem vault_claimHeard (s : State) (ch : Nat) (a : Nat) (name : Nat) : (claimHeard s ch a name).vault = s.vault := by simp [claimHeard]

@[simp] theorem vault_claimAsked (s : State) (ch : Nat) (dest : Nat) : (claimAsked s ch dest).vault = s.vault := by simp [claimAsked]

@[simp] theorem from_execAddressClaimTimeout (ch : Nat) (s : State) : From s.vault (execAddressClaimTimeout ch s) := by simp [execAddressClaimTimeout]

@[simp] theorem vault_sendCts (s : State) (t : TpSession) : (sendCts s t).vault = s.vault := by simp [sendCts]

@[simp] theorem vault_sendEoma (s : State) (t : TpSession) : (sendEoma s t).vault = s.vault := by simp [sendEoma]

@[simp] theorem vault_sessionOpen (s : State) (t : TpSession) : (sessionOpen s t).vault = s.vault := by
  simp only [sessionOpen]
  repeat' split
  all_goals simp

@[simp] theorem vault_sessionData (s : State) (t : TpSession) (num : Nat) (d : List Byte) : (sessionData s t num d).vault = s.vault := by
  simp only [sessionData]
  repeat' split
  all_goals try obtain ⟨rfl, _⟩ := Prod.ext_iff.mp ‹_ = (_, _)›
  all_goals simp

@[simp] theorem vault_sendDone (s : State) (t : TpSession) : (sendDone s t).vault = s.vault := by simp [sendDone]

@[simp] theorem vault_sendDpo (s : State) (t : TpSession) : (sendDpo s t).vault = s.vault := by simp [sendDpo]

@[simp] theorem vault_tpControl (s : State) (ch : Nat) (f : CanFrame) (stamp : Nat) : (tpControl s ch f stamp).vault = s.vault := by
  simp only [tpControl]
  repeat' split
  all_goals simp

@[simp] theorem vault_serviceFrame (s : State) (ch : Nat) (f : CanFrame) (stamp : Nat) : (serviceFrame s ch f stamp).vault = s.vault := by
  simp only [serviceFrame]
  repeat' split
  all_goals simp

@[simp] theorem vault_rxStamp (s : State) (ch : Nat) : (rxStamp s ch).2.vault = s.vault := by
  unfold rxStamp
  split <;> simp

@[simp] theorem vault_frameReceived (s : State) (ch : Nat) (f : CanFrame) : (frameReceived s ch f).vault = s.vault := by simp [frameReceived]

@[simp] theorem from_execCanFrameReceived (ch : Nat) (fr : CanFrame) (s : State) : From s.vault (execCanFrameReceived ch fr s) := by simp [execCanFrameReceived]

@[simp] theorem vault_tpSent (s : State) (ch : Nat) (i : Nat) : (tpSent s ch i).vault = s.vault := by
  unfold tpSent
  split <;> simp

@[simp] theorem vault_serviceOwn (s : State) (ch : Nat) (f : CanFrame) (firmware : Bool) (stamp : Nat) : (serviceOwn s ch f firmware stamp).vault = s.vault := by simp [serviceOwn]

@[simp] theorem vault_txComplete (s : State) (ch : Nat) : (txComplete s ch).vault = s.vault := by
  simp only [txComplete]
  repeat' split
  all_goals simp

@[simp] theorem from_execCanTxComplete (ch : Nat) (s : State) : From s.vault (execCanTxComplete ch s) := by simp [execCanTxComplete]

@[simp] theorem vault_tpTimeout (s : State) (ch : Nat) (sa : Nat) (da : Nat) : (tpTimeout s ch sa da).vault = s.vault := by simp [tpTimeout]

@[simp] theorem from_execTpTimeout (ch : Nat) (sa : Nat) (da : Nat) (s : State) : From s.vault (execTpTimeout ch sa da s) := by simp [execTpTimeout]

@[simp] theorem vault_tpComplete (s : State) (ch : Nat) (sa : Nat) (da : Nat) : (tpComplete s ch sa da).vault = s.vault := by
  simp only [tpComplete]
  repeat' split
  all_goals try obtain ⟨rfl, _⟩ := Prod.ext_iff.mp ‹_ = (_, _)›
  all_goals simp

@[simp] theorem from_execTpMessageComplete (ch : Nat) (sa : Nat) (da : Nat) (s : State) : From s.vault (execTpMessageComplete ch sa da s) := by simp [execTpMessageComplete]

@[simp] theorem vault_tpStart (s : State) (ch : Nat) (q : Nat) (b : List Byte) : (tpStart s ch q b).vault = s.vault := by simp [tpStart]

@[simp] theorem vault_tpTransmit (s : State) (ch : Nat) : (tpTransmit s ch).vault = s.vault := by
  simp only [tpTransmit]
  repeat' split
  all_goals simp

@[simp] theorem from_execTpTransmit (ch : Nat) (s : State) : From s.vault (execTpTransmit ch s) := by simp [execTpTransmit]

@[simp] theorem from_bodyCanCfg (c : Cmd) (s : State) : (bodyCanCfg c s).From s.vault := by simp [bodyCanCfg]

@[simp] theorem from_execCanCfg (d : Desc) (s : State) : From s.vault (execCanCfg d s) := from_cmdRow fun c t => by simp

@[simp] theorem from_bodyCanMode (c : Cmd) (s : State) : (bodyCanMode c s).From s.vault := by simp [bodyCanMode]

@[simp] theorem from_execCanMode (d : Desc) (s : State) : From s.vault (execCanMode d s) := from_cmdRow fun c t => by simp

@[simp] theorem vault_canBindEnd (s : State) (ch : Nat) (w : Nat) (q : Nat) (on : Bool) : (canBindEnd s ch w q on).vault = s.vault := by simp [canBindEnd]

@[simp] theorem from_bodyCanQueueBind (c : Cmd) (s : State) : (bodyCanQueueBind c s).From s.vault := by
  simp only [bodyCanQueueBind, from_handle, from_chk, from_cmd_ite]
  refine fun ch _ _ => ⟨fun _ _ => ⟨fun _ => ?_, fun _ => ?_⟩, fun _ => ?_⟩
  · split <;> simp
  · split <;> simp
  · split
    · trivial
    · simp only [from_chk, from_cmd_ite, from_chkSt]
      refine fun _ _ => ⟨fun _ _ => ?_, fun _ => ⟨fun _ => by simp, fun _ _ => ?_⟩⟩
      · split <;> simp
      · split <;> simp

@[simp] theorem from_execCanQueueBind (d : Desc) (s : State) : From s.vault (execCanQueueBind d s) := from_cmdRow fun c t => by simp

@[simp] theorem from_bodyCanTxBuf (c : Cmd) (s : State) : (bodyCanTxBuf c s).From s.vault := by simp [bodyCanTxBuf]

@[simp] theorem from_execCanTxBuf (d : Desc) (s : State) : From s.vault (execCanTxBuf d s) := from_cmdRow fun c t => by simp

@[simp] theorem from_bodyCanTxAbort (c : Cmd) (s : State) : (bodyCanTxAbort c s).From s.vault := by simp [bodyCanTxAbort]

@[simp] theorem from_execCanTxAbort (d : Desc) (s : State) : From s.vault (execCanTxAbort d s) := from_cmdRow fun c t => by simp

@[simp] theorem from_bodyCanStatus (c : Cmd) (s : State) : (bodyCanStatus c s).From s.vault := by simp [bodyCanStatus]

@[simp] theorem from_execCanStatus (d : Desc) (s : State) : From s.vault (execCanStatus d s) := from_cmdRow fun c t => by simp

@[simp] theorem from_bodyTpCfg (c : Cmd) (s : State) : (bodyTpCfg c s).From s.vault := by simp [bodyTpCfg]

@[simp] theorem from_execTpCfg (d : Desc) (s : State) : From s.vault (execTpCfg d s) := from_cmdRow fun c t => by simp

@[simp] theorem from_bodyAclCfg (c : Cmd) (s : State) : (bodyAclCfg c s).From s.vault := by simp [bodyAclCfg]

@[simp] theorem from_execAclCfg (d : Desc) (s : State) : From s.vault (execAclCfg d s) := from_cmdRow fun c t => by simp

@[simp] theorem from_bodyAclStatus (c : Cmd) (s : State) : (bodyAclStatus c s).From s.vault := by simp [bodyAclStatus]

@[simp] theorem from_execAclStatus (d : Desc) (s : State) : From s.vault (execAclStatus d s) := from_cmdRow fun c t => by simp

@[simp] theorem from_bodyTunnelSet (c : Cmd) (s : State) : (bodyTunnelSet c s).From s.vault := by
  simp only [bodyTunnelSet, from_handle, from_chk, from_ownRes, from_cmd_ite]
  refine fun ch _ _ _ _ => ⟨fun _ => by simp, fun _ _ => ?_⟩
  split <;> simp

@[simp] theorem from_execTunnelSet (d : Desc) (s : State) : From s.vault (execTunnelSet d s) := from_cmdRow fun c t => by simp

@[simp] theorem vault_decodeOne (s : State) (m : Nat) (i : Nat) (g : Nat) (w : CrushWork) (p : Nat) (latch : Bool) : (decodeOne s m i g w p latch).1.vault = s.vault := by simp [decodeOne]

@[simp] theorem vault_twinSendGroup (s : State) (part node g n tally : Nat) (shadow : Bool) (b : List Byte) :
    (twinSendGroup s part node g n tally shadow b).vault = s.vault := by
  have ho : (offer s g part n fun s => if shadow then onShadow s g s.me part n (crc32 b) b.length
      else onData s g s.me part tally n b).vault = s.vault := vault_offer fun t => by simp
  simp [twinSendGroup, ho]

@[simp] theorem vault_stageRecord (s : State) (part : Nat) (node : Nat) (g : Nat) (n : Nat) (tally : Nat) (b : List Byte) : (stageRecord s part node g n tally b).vault = s.vault := by simp [stageRecord]

@[simp] theorem vault_sendTpl (s : State) (m : Nat) (k : Nat) (n : Nat) (t : Template) (b : List Byte) : (sendTpl s m k n t b).2.vault = s.vault := by
  simp only [sendTpl]
  split <;> simp

@[simp] theorem vault_lateTpl (s : State) (m : Nat) (k : Nat) (n : Nat) (t : Template) : (lateTpl s m k n t).vault = s.vault := by simp [lateTpl]

@[simp] theorem vault_emitTpl (s : State) (m k n : Nat) (force : Bool) : (emitTpl s m k n force).vault = s.vault := by
  simp only [emitTpl]
  refine vault_ite_of ?_ ?_
  · simp
  · split
    · next h => simp [vault_of_snd h (vault_sendTpl ..)]
    · next h => simp [vault_of_snd h (vault_sendTpl ..)]

@[simp] theorem vault_trigTpl (s : State) (m : Nat) (k : Nat) (n : Nat) (force : Bool) : (trigTpl s m k n force).vault = s.vault := by simp [trigTpl]

@[simp] theorem vault_cycleTpls (s : State) (m : Nat) (n : Nat) : (cycleTpls s m n).vault = s.vault := by simp [cycleTpls]

@[simp] theorem vault_setTpls (s : State) (m : Nat) (before : Option Nat) : (setTpls s m before).vault = s.vault := by simp [setTpls]

@[simp] theorem vault_setsDue (s : State) : (setsDue s).vault = s.vault := by simp [setsDue]

@[simp] theorem vault_takeMessage (s : State) (m i : Nat) (w : CrushWork) (latch : Bool) : (takeMessage s m i w latch).vault = s.vault := by
  have hset (l : List Nat) (x : State × Bool) (p : Nat) : (l.foldl (fun (a : State × Bool) g =>
      ((decodeOne a.1 m i g w p latch).1, a.2 || (decodeOne a.1 m i g w p latch).2)) x).1.vault = x.1.vault :=
    vault_foldl_fst fun x g => by simp
  simp [takeMessage, hset]

@[simp] theorem vault_dropMessage (s : State) (x1 : CrushNext) : (dropMessage s x1).vault = s.vault := by
  simp only [dropMessage]
  repeat' split
  all_goals simp

@[simp] theorem vault_overrunMessage (s : State) (e : CrushNext) : (overrunMessage s e).vault = s.vault := by simp [overrunMessage]

@[simp] theorem vault_periodicTpl (s : State) (m : Nat) (k : Nat) : (periodicTpl s m k).vault = s.vault := by simp [periodicTpl]

@[simp] theorem from_execPeriodicTemplate (m : Nat) (t : Nat) (s : State) : From s.vault (execPeriodicTemplate m t s) := by simp [execPeriodicTemplate]

@[simp] theorem vault_settleMap (s : State) (m : Nat) (n : Nat) : (settleMap s m n).vault = s.vault := by simp [settleMap]

@[simp] theorem vault_serveMessage (s : State) (e : CrushNext) : (serveMessage s e).vault = s.vault := by
  simp only [serveMessage]
  repeat' split
  all_goals simp

@[simp] theorem vault_crushReceive (s : State) : (crushReceive s).vault = s.vault := by
  simp only [crushReceive]
  repeat' split
  all_goals simp

@[simp] theorem from_execCrushReception (s : State) : From s.vault (execCrushReception s) := by simp [execCrushReception]

@[simp] theorem vault_crushOverrun (s : State) : (crushOverrun s).vault = s.vault := by
  unfold crushOverrun
  split <;> simp

@[simp] theorem from_execCrushOverrun (s : State) : From s.vault (execCrushOverrun s) := by simp [execCrushOverrun]

@[simp] theorem vault_crushStale (s : State) (m : Nat) (i : Nat) : (crushStale s m i).vault = s.vault := by simp [crushStale]

@[simp] theorem from_execCrushStale (m : Nat) (src : Nat) (s : State) : From s.vault (execCrushStale m src s) := by simp [execCrushStale]

@[simp] theorem vault_minGapTpl (s : State) (m : Nat) (k : Nat) : (minGapTpl s m k).vault = s.vault := by simp [minGapTpl]

@[simp] theorem from_execMinGapExpiry (m : Nat) (t : Nat) (s : State) : From s.vault (execMinGapExpiry m t s) := by simp [execMinGapExpiry]

@[simp] theorem vault_onChangePeriodTpl (s : State) (m : Nat) (k : Nat) : (onChangePeriodTpl s m k).vault = s.vault := by simp [onChangePeriodTpl]

@[simp] theorem from_execOnChangePeriod (m : Nat) (t : Nat) (s : State) : From s.vault (execOnChangePeriod m t s) := by simp [execOnChangePeriod]

@[simp] theorem vault_latchMaps (s : State) (n : Nat) : (latchMaps s n).vault = s.vault := by simp [latchMaps]

@[simp] theorem vault_crushSnapshot (s : State) (n : Nat) : (crushSnapshot s n).vault = s.vault := by simp [crushSnapshot]

@[simp] theorem vault_crushAssembled (s : State) (n : Nat) : (crushAssembled s n).vault = s.vault := by simp [crushAssembled]

@[simp] theorem vault_crushDeadline (s : State) (n : Nat) : (crushDeadline s n).vault = s.vault := by simp [crushDeadline]

@[simp] theorem vault_crushStart (s : State) : (crushStart s).vault = s.vault := by simp [crushStart]

@[simp] theorem vault_periodStep (s : State) : (periodStep s).vault = s.vault := by simp [periodStep]

@[simp] theorem from_bodyMapSet (c : Cmd) (s : State) : (bodyMapSet c s).From s.vault := by
  simp only [bodyMapSet, from_handle, from_chk, from_ownRes, from_okS, vault_setMap]
  refine fun m _ _ _ _ _ _ _ => ?_
  rw [vault_forEach fun e s => ?_]
  · exact .refl _
  · split <;> simp

@[simp] theorem from_execMapSet (d : Desc) (s : State) : From s.vault (execMapSet d s) := from_cmdRow fun c t => by simp

@[simp] theorem vault_takeCrusherSlot (s : State) (ch : Nat) : (takeCrusherSlot s ch).vault = s.vault := by
  simp only [takeCrusherSlot]
  repeat' split
  all_goals simp

@[simp] theorem vault_freeCrusherSlot (s : State) (ch : Nat) : (freeCrusherSlot s ch).vault = s.vault := by simp [freeCrusherSlot]

@[simp] theorem vault_disableMap (s : State) (m : Nat) : (disableMap s m).vault = s.vault := by simp [disableMap]

@[simp] theorem from_bodyMapEnable (c : Cmd) (s : State) : (bodyMapEnable c s).From s.vault := by simp [bodyMapEnable]

@[simp] theorem from_execMapEnable (d : Desc) (s : State) : From s.vault (execMapEnable d s) := from_cmdRow fun c t => by simp

@[simp] theorem from_bodyMapStatus (c : Cmd) (s : State) : (bodyMapStatus c s).From s.vault := by simp [bodyMapStatus]

@[simp] theorem from_execMapStatus (d : Desc) (s : State) : From s.vault (execMapStatus d s) := from_cmdRow fun c t => by simp

@[simp] theorem vault_debChange (s : State) (p : Nat) (lvl : Bool) : (debChange s p lvl).vault = s.vault := by simp [debChange]

@[simp] theorem vault_filtChange (s : State) (p : Nat) (lvl : Bool) : (filtChange s p lvl).vault = s.vault := by simp [filtChange]

@[simp] theorem vault_padEdge (s : State) (p : Nat) (lvl : Bool) (width : Nat) : (padEdge s p lvl width).vault = s.vault := by simp [padEdge]

@[simp] theorem from_execPinInputEdge (p : Nat) (level : Bool) (width : Nat) (s : State) : From s.vault (execPinInputEdge p level width s) := by simp [execPinInputEdge]

@[simp] theorem from_execDebounceExpiry (p : Nat) (s : State) : From s.vault (execDebounceExpiry p s) := by simp [execDebounceExpiry]

@[simp] theorem from_execStuckTimeout (p : Nat) (s : State) : From s.vault (execStuckTimeout p s) := by simp [execStuckTimeout]

@[simp] theorem vault_showPad (s : State) (p : Nat) : (showPad s p).vault = s.vault := by
  unfold showPad
  split <;> simp

@[simp] theorem vault_putLevel (s : State) (p : Nat) (lvl : Bool) (dir : Bool) : (putLevel s p lvl dir).vault = s.vault := by simp [putLevel]

@[simp] theorem vault_passOwn (s : State) (p : Nat) : (passOwn s p).vault = s.vault := by
  unfold passOwn
  split <;> simp

@[simp] theorem vault_drivePin (s : State) (kind : Nat) (p : Nat) (lvl : Bool) (dir : Bool) : (drivePin s kind p lvl dir).vault = s.vault := by
  unfold drivePin
  split <;> simp

@[simp] theorem vault_padReach (s : State) (w : PadWrite) : (padReach s w).vault = s.vault := by simp [padReach]

@[simp] theorem vault_padStage (s : State) : (padStage s).vault = s.vault := by simp [padStage]

@[simp] theorem vault_sendPad (s : State) (w : PadWrite) : (State.sendPad s w).vault = s.vault := (rfl)

@[simp] theorem vault_actTimed (s : State) (p : Nat) (late : Bool) : (actTimed s p late).vault = s.vault := by
  unfold actTimed
  split <;> simp

@[simp] theorem from_execTimedTransition (p : Nat) (s : State) : From s.vault (execTimedTransition p s) := by
  unfold execTimedTransition
  split <;> simp

@[simp] theorem vault_timedStep (s : State) : (timedStep s).vault = s.vault := by
  unfold timedStep
  refine vault_forEach fun _ _ => ?_
  split <;> simp

@[simp] theorem from_execBankSupplyLoss (b : Nat) (s : State) : From s.vault (execBankSupplyLoss b s) := by simp [execBankSupplyLoss]

@[simp] theorem from_execBankSupplyReturn (b : Nat) (mv : Nat) (s : State) : From s.vault (execBankSupplyReturn b mv s) := by simp [execBankSupplyReturn]

@[simp] theorem vault_restartInput (s : State) (p : Nat) (glitch : Bool) : (restartInput s p glitch).vault = s.vault := (rfl)

@[simp] theorem from_bodyPinCfg (c : Cmd) (s : State) : (bodyPinCfg c s).From s.vault := by simp [bodyPinCfg]

@[simp] theorem from_execPinCfg (d : Desc) (s : State) : From s.vault (execPinCfg d s) := from_cmdRow fun c t => by simp

@[simp] theorem from_bodyPinRead (c : Cmd) (s : State) : (bodyPinRead c s).From s.vault := by simp [bodyPinRead]

@[simp] theorem from_execPinRead (d : Desc) (s : State) : From s.vault (execPinRead d s) := from_cmdRow fun c t => by simp

@[simp] theorem from_bodyPinWrite (c : Cmd) (s : State) : (bodyPinWrite c s).From s.vault := by simp [bodyPinWrite]

@[simp] theorem from_execPinWrite (d : Desc) (s : State) : From s.vault (execPinWrite d s) := from_cmdRow fun c t => by simp

@[simp] theorem from_bodyPinTimed (c : Cmd) (s : State) : (bodyPinTimed c s).From s.vault := by simp [bodyPinTimed]

@[simp] theorem from_execPinTimed (d : Desc) (s : State) : From s.vault (execPinTimed d s) := from_cmdRow fun c t => by simp

@[simp] theorem from_bodyPinCountClear (c : Cmd) (s : State) : (bodyPinCountClear c s).From s.vault := by simp [bodyPinCountClear]

@[simp] theorem from_execPinCountClear (d : Desc) (s : State) : From s.vault (execPinCountClear d s) := from_cmdRow fun c t => by simp

@[simp] theorem vault_writeLevels (s : State) (h : Nat) (base : Nat) (count : Nat) (v : Nat) : (writeLevels s h base count v).vault = s.vault := by simp [writeLevels]

@[simp] theorem vault_writeDirs (s : State) (h : Nat) (base : Nat) (count : Nat) (v : Nat) : (writeDirs s h base count v).vault = s.vault := by simp [writeDirs]

@[simp] theorem vault_sideAct (s : State) (h : Nat) (w : Nat) : (sideAct s h w).vault = s.vault := by simp [sideAct]

@[simp] theorem vault_completeHw (s : State) (h : Nat) (w : Nat) (jump : Option Nat) : (completeHw s h w jump).vault = s.vault := (rfl)

@[simp] theorem vault_stallHw (s : State) (h : Nat) (code : Nat) : (stallHw s h code).vault = s.vault := (rfl)

@[simp] theorem vault_startHw {h opc : Nat} {act : Nat → State → HwEnd} {s : State} (ha : ∀ w, (act w s).Keeps s.vault) :
    (startHw h opc act s).vault = s.vault := by
  unfold startHw
  split
  · dsimp only
    have hk := ha (s.hewer h).word
    split
    · next he => simpa [he] using hk
    · next he => simpa [he] using hk
  · rfl

@[simp] theorem vault_breakPacket (s : State) (h : Nat) : (breakPacket s h).vault = s.vault := by simp [breakPacket]

theorem vault_of_pushWords {s t : State} {h : Nat} {l : List Word} {eop block : Bool} (hp : pushWords s h l eop block = some t) :
    t.vault = s.vault := by
  unfold pushWords at hp
  dsimp only at hp
  (repeat' split at hp) <;> cases hp <;> simp

theorem vault_of_pullWord {s t : State} {h : Nat} (hp : pullWord s h = some t) : t.vault = s.vault := by
  unfold pullWord at hp
  dsimp only at hp
  split at hp <;> cases hp
  simp

@[simp] theorem vault_flagOp (s : State) (k : Nat) (f : Nat) (op : Nat) : (flagOp s k f op).vault = s.vault := by
  simp only [flagOp]
  repeat' split
  all_goals simp

@[simp] theorem vault_setUV (s : State) (h : Nat) (v : Bool) (a : Word) : (setUV s h v a).vault = s.vault := by simp [setUV]

@[simp] theorem vault_destCommon (s : State) (h : Nat) (dest : Nat) (v : Nat) (base : Nat) (count : Nat) : (destCommon s h dest v base count).vault = s.vault := by simp [destCommon]

@[simp] theorem keeps_hwSet (h w : Nat) (s : State) : (hwSet h w s).Keeps s.vault := by
  simp [hwSet]

@[simp] theorem keeps_hwMov (h w : Nat) (s : State) : (hwMov h w s).Keeps s.vault := by
  simp [hwMov]

@[simp] theorem keeps_hwJmp (h w : Nat) (s : State) : (hwJmp h w s).Keeps s.vault := by
  simp [hwJmp]

@[simp] theorem keeps_hwDjnz (h w : Nat) (s : State) : (hwDjnz h w s).Keeps s.vault := by
  simp [hwDjnz]

@[simp] theorem vault_waitClear (s : State) (h : Nat) (src : Nat) (i : Nat) (clr : Bool) : (waitClear s h src i clr).vault = s.vault := by simp [waitClear]

@[simp] theorem keeps_hwWait (h w : Nat) (s : State) : (hwWait h w s).Keeps s.vault := by
  simp [hwWait]

@[simp] theorem keeps_hwIn (h w : Nat) (s : State) : (hwIn h w s).Keeps s.vault := by
  simp only [hwIn, keeps_ite]
  refine ⟨fun _ => ?_, fun _ => by simp⟩
  split
  · next hp => simp [vault_of_pushWords hp]
  · simp

@[simp] theorem keeps_outBits (h w : Nat) (s : State) : (outBits h w s).Keeps s.vault := by
  simp [outBits]

@[simp] theorem keeps_hwOut (h w : Nat) (s : State) : (hwOut h w s).Keeps s.vault := by
  have hbits {t : State} (ht : t.vault = s.vault) : (outBits h w t).Keeps s.vault := ht ▸ keeps_outBits h w t
  simp only [hwOut, keeps_ite]
  refine ⟨fun _ => ?_, fun _ => ⟨fun _ => hbits (vault_setHewer ..), fun _ => hbits rfl⟩⟩
  split
  · next hp => exact hbits (vault_of_pullWord hp)
  · simp

@[simp] theorem keeps_hwPush (h w : Nat) (s : State) : (hwPush h w s).Keeps s.vault := by
  simp only [hwPush, keeps_ite]
  refine ⟨fun _ => by simp, fun _ => ?_⟩
  split
  · next hp => simp [vault_of_pushWords hp]
  · simp

@[simp] theorem keeps_hwPull (h w : Nat) (s : State) : (hwPull h w s).Keeps s.vault := by
  simp only [hwPull, keeps_ite]
  refine ⟨fun _ => by simp, fun _ => ?_⟩
  split
  · next hp => simp [vault_of_pullWord hp]
  · simp

@[simp] theorem vault_stampNs (s : State) (h : Nat) : (stampNs s h).2.vault = s.vault := (rfl)

@[simp] theorem keeps_hwTstamp (h w : Nat) (s : State) : (hwTstamp h w s).Keeps s.vault := by
  simp only [hwTstamp]
  split
  · next hp => simp [vault_of_pushWords hp]
  · simp

@[simp] theorem keeps_hwAbort (h w : Nat) (s : State) : (hwAbort h w s).Keeps s.vault := by
  simp [hwAbort]

@[simp] theorem keeps_hwFlag (h w : Nat) (s : State) : (hwFlag h w s).Keeps s.vault := by
  simp [hwFlag]

@[simp] theorem keeps_hwIrq (h w : Nat) (s : State) : (hwIrq h w s).Keeps s.vault := by
  simp [hwIrq]

@[simp] theorem keeps_hwAct (h w : Nat) (s : State) : (hwAct h w s).Keeps s.vault := by
  unfold hwAct
  split <;> simp

@[simp] theorem from_execHwSet (h : Nat) (s : State) : From s.vault (execHwSet h s) := by simp [execHwSet]

@[simp] theorem from_execHwMov (h : Nat) (s : State) : From s.vault (execHwMov h s) := by simp [execHwMov]

@[simp] theorem from_execHwJmp (h : Nat) (s : State) : From s.vault (execHwJmp h s) := by simp [execHwJmp]

@[simp] theorem from_execHwDjnz (h : Nat) (s : State) : From s.vault (execHwDjnz h s) := by simp [execHwDjnz]

@[simp] theorem from_execHwWait (h : Nat) (s : State) : From s.vault (execHwWait h s) := by simp [execHwWait]

@[simp] theorem from_execHwIn (h : Nat) (s : State) : From s.vault (execHwIn h s) := by simp [execHwIn]

@[simp] theorem from_execHwOut (h : Nat) (s : State) : From s.vault (execHwOut h s) := by simp [execHwOut]

@[simp] theorem from_execHwPush (h : Nat) (s : State) : From s.vault (execHwPush h s) := by simp [execHwPush]

@[simp] theorem from_execHwPull (h : Nat) (s : State) : From s.vault (execHwPull h s) := by simp [execHwPull]

@[simp] theorem from_execHwTstamp (h : Nat) (s : State) : From s.vault (execHwTstamp h s) := by simp [execHwTstamp]

@[simp] theorem from_execHwAbort (h : Nat) (s : State) : From s.vault (execHwAbort h s) := by simp [execHwAbort]

@[simp] theorem from_execHwFlag (h : Nat) (s : State) : From s.vault (execHwFlag h s) := by simp [execHwFlag]

@[simp] theorem from_execHwIrq (h : Nat) (s : State) : From s.vault (execHwIrq h s) := by simp [execHwIrq]

@[simp] theorem vault_stallRetry (s : State) (h : Nat) : (stallRetry s h).vault = s.vault := by
  unfold stallRetry
  dsimp only
  split
  · have hk := keeps_hwAct h (s.hewer h).word s
    split
    · next he => simpa [he] using hk
    · next he => simpa [he] using hk
  · rfl

@[simp] theorem vault_delayTicks (s : State) (h : Nat) (x2 : Nat) : (delayTicks s h x2).vault = s.vault := by
  fun_induction delayTicks s h x2 <;> simp [*]

@[simp] theorem vault_hewerTicks (s : State) : (hewerTicks s).vault = s.vault := by simp [hewerTicks]

@[simp] theorem from_execStallComplete (h : Nat) (s : State) : From s.vault (execStallComplete h s) := by simp [execStallComplete]

@[simp] theorem vault_drainRx (s : State) (h n : Nat) : (drainRx s h n).vault = s.vault := by
  induction n generalizing s with
  | zero => rfl
  | succ n ih =>
    rw [drainRx]
    dsimp only
    split
    · rfl
    · refine vault_ite_of rfl ?_
      split
      · next hp => simp [ih, vault_of_fst hp (vault_appendOpen ..)]
      · next hp => simp [ih, vault_of_fst hp (vault_appendOpen ..)]

@[simp] theorem from_execRxFifoDrain (h : Nat) (s : State) : From s.vault (execRxFifoDrain h s) := by simp [execRxFifoDrain]

@[simp] theorem vault_fillTx (s : State) (h n : Nat) : (fillTx s h n).vault = s.vault := by
  induction n generalizing s with
  | zero => rfl
  | succ n ih =>
    rw [fillTx]
    dsimp only
    split
    · rfl
    · simp [ih]

@[simp] theorem from_execTxFifoFill (h : Nat) (s : State) : From s.vault (execTxFifoFill h s) := by simp [execTxFifoFill]

@[simp] theorem from_execHewerStartEdge (u : Nat) (s : State) : From s.vault (execHewerStartEdge u s) := by simp [execHewerStartEdge]

@[simp] theorem vault_hewersSee (s : State) (t : Nat) : (hewersSee s t).vault = s.vault := by simp [hewersSee]

@[simp] theorem vault_stopHewer (s : State) (h : Nat) : (stopHewer s h).vault = s.vault := (rfl)

@[simp] theorem vault_cfgBind (s : State) (h : Nat) (c : HewerCfg) : (cfgBind s h c).vault = s.vault := by simp [cfgBind]

@[simp] theorem from_bodyHewerCfg (c : Cmd) (s : State) : (bodyHewerCfg c s).From s.vault := by
  simp only [bodyHewerCfg]
  split <;> simp

@[simp] theorem from_execHewerCfg (d : Desc) (s : State) : From s.vault (execHewerCfg d s) := from_cmdRow fun c t => by simp

@[simp] theorem vault_loadProgram (s : State) (h : Nat) (prog : List Word) (entry : Nat) (loopTo : Nat) (u : Word) (v : Word) : (loadProgram s h prog entry loopTo u v).vault = s.vault := by simp [loadProgram]

@[simp] theorem from_bodyHewerLoad (c : Cmd) (s : State) : (bodyHewerLoad c s).From s.vault := by simp [bodyHewerLoad]

@[simp] theorem from_execHewerLoad (d : Desc) (s : State) : From s.vault (execHewerLoad d s) := from_cmdRow fun c t => by simp

@[simp] theorem from_bodyHewerLoadLib (c : Cmd) (s : State) : (bodyHewerLoadLib c s).From s.vault := by simp [bodyHewerLoadLib]

@[simp] theorem from_execHewerLoadLib (d : Desc) (s : State) : From s.vault (execHewerLoadLib d s) := from_cmdRow fun c t => by simp

@[simp] theorem from_bodyHewerStart (c : Cmd) (s : State) : (bodyHewerStart c s).From s.vault := by
  unfold bodyHewerStart
  split <;> simp

@[simp] theorem from_execHewerStart (d : Desc) (s : State) : From s.vault (execHewerStart d s) := from_cmdRow fun c t => by simp

@[simp] theorem from_bodyHewerStop (c : Cmd) (s : State) : (bodyHewerStop c s).From s.vault := by
  unfold bodyHewerStop
  split <;> simp

@[simp] theorem from_execHewerStop (d : Desc) (s : State) : From s.vault (execHewerStop d s) := from_cmdRow fun c t => by simp

@[simp] theorem vault_extWrite (s : State) (h : Nat) (v : Bool) (x : Word) : (extWrite s h v x).vault = s.vault := (rfl)

@[simp] theorem from_bodyHewerRegWrite (c : Cmd) (s : State) : (bodyHewerRegWrite c s).From s.vault := by simp [bodyHewerRegWrite]

@[simp] theorem from_execHewerRegWrite (d : Desc) (s : State) : From s.vault (execHewerRegWrite d s) := from_cmdRow fun c t => by simp

@[simp] theorem from_bodyHewerIrqSet (c : Cmd) (s : State) : (bodyHewerIrqSet c s).From s.vault := by simp [bodyHewerIrqSet]

@[simp] theorem from_execHewerIrqSet (d : Desc) (s : State) : From s.vault (execHewerIrqSet d s) := from_cmdRow fun c t => by simp

@[simp] theorem from_bodyHewerStatus (c : Cmd) (s : State) : (bodyHewerStatus c s).From s.vault := by simp [bodyHewerStatus]

@[simp] theorem from_execHewerStatus (d : Desc) (s : State) : From s.vault (execHewerStatus d s) := from_cmdRow fun c t => by simp

@[simp] theorem from_bodyFlagAssign (c : Cmd) (s : State) : (bodyFlagAssign c s).From s.vault := by simp [bodyFlagAssign]

@[simp] theorem from_execFlagAssign (d : Desc) (s : State) : From s.vault (execFlagAssign d s) := from_cmdRow fun c t => by simp

@[simp] theorem from_bodyFlagRead (c : Cmd) (s : State) : (bodyFlagRead c s).From s.vault := by simp [bodyFlagRead]

@[simp] theorem from_execFlagRead (d : Desc) (s : State) : From s.vault (execFlagRead d s) := from_cmdRow fun c t => by simp

@[simp] theorem from_bodyFlagWrite (c : Cmd) (s : State) : (bodyFlagWrite c s).From s.vault := by simp [bodyFlagWrite]

@[simp] theorem from_execFlagWrite (d : Desc) (s : State) : From s.vault (execFlagWrite d s) := from_cmdRow fun c t => by simp

@[simp] theorem vault_setDom (s : State) (d : Nat) (x : Domain) : (State.setDom s d x).vault = s.vault := (rfl)

@[simp] theorem vault_setTime (s : State) (t : Time) : (State.setTime s t).vault = s.vault := (rfl)

@[simp] theorem vault_markSecond (s : State) : (markSecond s).vault = s.vault := (rfl)

@[simp] theorem vault_fireUnit (s : State) (t : Nat) (late : Bool) : (fireUnit s t late).vault = s.vault := by simp [fireUnit]

@[simp] theorem from_execTriggerFire (t : Nat) (s : State) : From s.vault (execTriggerFire t s) := by simp [execTriggerFire]

@[simp] theorem vault_armUnit (s : State) (t : Nat) (mode : Nat) (sec : Nat) (ns : Nat) (period : Nat) : (armUnit s t mode sec ns period).vault = s.vault := by simp [armUnit]

@[simp] theorem vault_trigStep (s : State) : (trigStep s).vault = s.vault := by simp [trigStep]

@[simp] theorem vault_armCycle (s : State) (n : Nat) : (armCycle s n).vault = s.vault := by simp [armCycle]

@[simp] theorem vault_cyclesStep (s : State) (wasValid : Bool) : (cyclesStep s wasValid).vault = s.vault := by simp [cyclesStep]

@[simp] theorem vault_stepWork (s : State) (d : Nat) : (stepWork s d).vault = s.vault := by simp [stepWork]

@[simp] theorem vault_followDom (s : State) (d : Nat) : (followDom s d).vault = s.vault := by simp [followDom]

@[simp] theorem vault_holdover (s : State) : (holdover s).vault = s.vault := by simp [holdover]

@[simp] theorem vault_leaveHoldover (s : State) : (leaveHoldover s).vault = s.vault := by simp [leaveHoldover]

@[simp] theorem vault_loseFollowed (s : State) (d : Nat) : (loseFollowed s d).vault = s.vault := by simp [loseFollowed]

@[simp] theorem vault_markLost (s : State) (d : Nat) : (markLost s d).vault = s.vault := by simp [markLost]

@[simp] theorem vault_enterLocked (s : State) (d : Nat) : (enterLocked s d).vault = s.vault := by simp [enterLocked]

@[simp] theorem vault_trySwitch (s : State) (d : Nat) : (trySwitch s d).vault = s.vault := by simp [trySwitch]

@[simp] theorem vault_followSync (s : State) (d : Nat) : (followSync s d).vault = s.vault := by simp [followSync]

@[simp] theorem vault_stepDom (s : State) (d : Nat) (at_ : Nat) : (stepDom s d at_).vault = s.vault := (rfl)

@[simp] theorem vault_servo (s : State) (d : Nat) (at_ : Nat) (rate : Int) : (servo s d at_ rate).vault = s.vault := by simp [servo]

@[simp] theorem vault_ptpOff (s : State) (p : Nat) : (ptpOff s p).vault = s.vault := by simp [ptpOff]

@[simp] theorem vault_sendPtp (s : State) (p : Nat) (f : Frame) : (sendPtp s p f).vault = s.vault := by simp [sendPtp]

@[simp] theorem vault_sendSync (s : State) (d : Nat) (log : Int) (rate : Int) (f : Nat → Nat × Int) : (sendSync s d log rate f).vault = s.vault := by simp [sendSync]

@[simp] theorem vault_sendAnnounce (s : State) (d : Nat) (log : Int) (utc : Int) (vector : Nat) (steps : Nat) (source : Nat) (path : List Nat) : (sendAnnounce s d log utc vector steps source path).vault = s.vault := by simp [sendAnnounce]

@[simp] theorem vault_syncReceived (s : State) (m : SyncMsg) (d : Nat) : (syncReceived s m d).vault = s.vault := by simp [syncReceived]

@[simp] theorem from_execSyncReceived (m : SyncMsg) (s : State) : From s.vault (execSyncReceived m s) := by
  simp only [execSyncReceived]
  repeat' split
  all_goals simp

@[simp] theorem vault_holdGm (s : State) (d : Nat) : (holdGm s d).vault = s.vault := by simp [holdGm]

@[simp] theorem vault_gmIs (s : State) (d : Nat) (id : Nat) : (gmIs s d id).vault = s.vault := by simp [gmIs]

@[simp] theorem vault_noMaster (s : State) (d : Nat) : (noMaster s d).vault = s.vault := by simp [noMaster]

@[simp] theorem vault_elect (s : State) (d : Nat) : (elect s d).vault = s.vault := by
  simp only [elect]
  repeat' split
  all_goals simp

@[simp] theorem vault_elects (s : State) : (elects s).vault = s.vault := by simp [elects]

@[simp] theorem vault_agePtp (s : State) : (agePtp s).vault = s.vault := by simp [agePtp]

@[simp] theorem vault_announceReceived (s : State) (m : AnnounceMsg) (d : Nat) : (announceReceived s m d).vault = s.vault := by simp [announceReceived]

@[simp] theorem from_execAnnounceReceived (m : AnnounceMsg) (s : State) : From s.vault (execAnnounceReceived m s) := by
  simp only [execAnnounceReceived]
  repeat' split
  all_goals simp

@[simp] theorem vault_syncLoss (s : State) (d : Nat) : (syncLoss s d).vault = s.vault := by simp [syncLoss]

@[simp] theorem from_execSyncLoss (d : Nat) (s : State) : From s.vault (execSyncLoss d s) := by simp [execSyncLoss]

@[simp] theorem vault_qualitySwitch (s : State) (f : Nat) : (qualitySwitch s f).vault = s.vault := by
  unfold qualitySwitch
  split <;> simp

@[simp] theorem from_execScheduledSwitch (s : State) : From s.vault (execScheduledSwitch s) := by
  unfold execScheduledSwitch
  split <;> simp

@[simp] theorem vault_domainSwitchReg (s : State) (v : Nat) : (domainSwitchReg s v).vault = s.vault := by simp [domainSwitchReg]

@[simp] theorem from_execDomainSwitchWrite (a : Acc) (value : Nat) (s : State) : From s.vault (execDomainSwitchWrite a value s) := by simp [execDomainSwitchWrite]

@[simp] theorem vault_announceOwn (s : State) (d : Nat) : (announceOwn s d).vault = s.vault := by simp [announceOwn]

@[simp] theorem vault_syncSend (s : State) (d : Nat) : (syncSend s d).vault = s.vault := by simp [syncSend]

@[simp] theorem from_execSyncSend (d : Nat) (s : State) : From s.vault (execSyncSend d s) := by simp [execSyncSend]

@[simp] theorem vault_capCheck (s : State) (p : Nat) : (capCheck s p).vault = s.vault := by simp [capCheck]

@[simp] theorem from_execPdelayExchange (p : Nat) (trip : Option Int) (s : State) : From s.vault (execPdelayExchange p trip s) := by simp [execPdelayExchange]

@[simp] theorem from_execPdelayReq (m : PdelayMsg) (s : State) : From s.vault (execPdelayReq m s) := by simp [execPdelayReq]

@[simp] theorem from_execOneStepRefused (p : Nat) (s : State) : From s.vault (execOneStepRefused p s) := by simp [execOneStepRefused]

@[simp] theorem vault_ppsMeasure (s : State) (d : Nat) (dt : Option Nat) : (ppsMeasure s d dt).vault = s.vault := by
  simp only [ppsMeasure]
  split <;> simp

@[simp] theorem vault_ppsInEdge (s : State) (rising : Bool) : (ppsInEdge s rising).vault = s.vault := by simp [ppsInEdge]

@[simp] theorem from_execPpsInEdge (rising : Bool) (s : State) : From s.vault (execPpsInEdge rising s) := by simp [execPpsInEdge]

@[simp] theorem from_execPpsInLost (s : State) : From s.vault (execPpsInLost s) := by
  unfold execPpsInLost
  split <;> simp

@[simp] theorem from_execPpsOutPulse (s : State) : From s.vault (execPpsOutPulse s) := by simp [execPpsOutPulse]

@[simp] theorem vault_trigArmReg (s : State) (t : Nat) (v : Nat) : (trigArmReg s t v).vault = s.vault := by simp [trigArmReg]

@[simp] theorem from_execTrigArmWrite (a : Acc) (t : Nat) (value : Nat) (s : State) : From s.vault (execTrigArmWrite a t value s) := by simp [execTrigArmWrite]

@[simp] theorem vault_captLose (s : State) (u : Nat) : (captLose s u).vault = s.vault := by simp [captLose]

@[simp] theorem vault_captureEdge (s : State) (u : Nat) (rising : Bool) : (captureEdge s u rising).vault = s.vault := by
  simp only [captureEdge]
  repeat' split
  all_goals try obtain ⟨rfl, _⟩ := Prod.ext_iff.mp ‹_ = (_, _)›
  all_goals simp

@[simp] theorem from_execCaptureEdge (u : Nat) (rising : Bool) (s : State) : From s.vault (execCaptureEdge u rising s) := by simp [execCaptureEdge]

@[simp] theorem from_ownDomains {v : Vault} {s : State} {c : Cmd} {k : CmdRes} :
    (ownDomains s c k).From v ↔ ((s.owns c.p 10 1 && s.owns c.p 10 2) = true → k.From v) := from_chk

@[simp] theorem from_bodyDomainCfg (c : Cmd) (s : State) : (bodyDomainCfg c s).From s.vault := by simp [bodyDomainCfg]

@[simp] theorem from_execDomainCfg (d : Desc) (s : State) : From s.vault (execDomainCfg d s) := from_cmdRow fun c t => by simp

@[simp] theorem from_bodyPtpPortCfg (c : Cmd) (s : State) : (bodyPtpPortCfg c s).From s.vault := by simp [bodyPtpPortCfg]

@[simp] theorem from_execPtpPortCfg (d : Desc) (s : State) : From s.vault (execPtpPortCfg d s) := from_cmdRow fun c t => by simp

@[simp] theorem from_bodyStepPermit (c : Cmd) (s : State) : (bodyStepPermit c s).From s.vault := by simp [bodyStepPermit]

@[simp] theorem from_execStepPermit (d : Desc) (s : State) : From s.vault (execStepPermit d s) := from_cmdRow fun c t => by simp

@[simp] theorem from_bodyDomainSwitch (c : Cmd) (s : State) : (bodyDomainSwitch c s).From s.vault := by simp [bodyDomainSwitch]

@[simp] theorem from_execDomainSwitch (d : Desc) (s : State) : From s.vault (execDomainSwitch d s) := from_cmdRow fun c t => by simp

@[simp] theorem from_bodyTodSet (c : Cmd) (s : State) : (bodyTodSet c s).From s.vault := by simp [bodyTodSet]

@[simp] theorem from_execTodSet (d : Desc) (s : State) : From s.vault (execTodSet d s) := from_cmdRow fun c t => by simp

@[simp] theorem from_bodyPpsCfg (c : Cmd) (s : State) : (bodyPpsCfg c s).From s.vault := by simp [bodyPpsCfg]

@[simp] theorem from_execPpsCfg (d : Desc) (s : State) : From s.vault (execPpsCfg d s) := from_cmdRow fun c t => by simp

@[simp] theorem from_bodyTrigSet (c : Cmd) (s : State) : (bodyTrigSet c s).From s.vault := by simp [bodyTrigSet]

@[simp] theorem from_execTrigSet (d : Desc) (s : State) : From s.vault (execTrigSet d s) := from_cmdRow fun c t => by simp

@[simp] theorem from_bodyTrigRead (c : Cmd) (s : State) : (bodyTrigRead c s).From s.vault := by simp [bodyTrigRead]

@[simp] theorem from_execTrigRead (d : Desc) (s : State) : From s.vault (execTrigRead d s) := from_cmdRow fun c t => by simp

@[simp] theorem vault_unbindCapt (s : State) (u : Nat) : (unbindCapt s u).vault = s.vault := by
  unfold unbindCapt
  split <;> simp

@[simp] theorem from_bodyCaptSet (c : Cmd) (s : State) : (bodyCaptSet c s).From s.vault := by simp [bodyCaptSet]

@[simp] theorem from_execCaptSet (d : Desc) (s : State) : From s.vault (execCaptSet d s) := from_cmdRow fun c t => by simp

@[simp] theorem vault_timeRead (s : State) (p : Nat) (off : Nat) (len : Nat) : (timeRead s p off len).s.vault = s.vault := by simp [timeRead]

@[simp] theorem vault_timeWrite (s : State) (p : Nat) (off : Nat) (d : List Byte) : (timeWrite s p off d).s.vault = s.vault := by simp [timeWrite]

@[simp] theorem vault_warnStep (s : State) (b : Nat) : (warnStep s b).vault = s.vault := by simp [warnStep]

@[simp] theorem vault_crossRecord (s : State) (b : Nat) : (crossRecord s b).vault = s.vault := by simp [crossRecord]

@[simp] theorem from_execBranchSample (b : Nat) (m : BrSample) (s : State) : From s.vault (execBranchSample b m s) := by simp [execBranchSample]

@[simp] theorem vault_startReq (s : State) (b : Nat) (retry : Bool) : (startReq s b retry).vault = s.vault := by simp [startReq]

@[simp] theorem vault_openBranch (s : State) (b : Nat) : (openBranch s b).vault = s.vault := (rfl)

@[simp] theorem vault_branchOff (s : State) (b : Nat) : (branchOff s b).vault = s.vault := (rfl)

@[simp] theorem vault_branchRewritten (s : State) (b : Nat) : (branchRewritten s b).vault = s.vault := by simp [branchRewritten]

@[simp] theorem vault_waitItem (s : State) (b : Nat) (on : Bool) : (waitItem s b on).vault = s.vault := (rfl)

@[simp] theorem vault_branchItem (s : State) (b : Nat) (on : Bool) : (branchItem s b on).1.vault = s.vault := by
  simp only [branchItem]
  repeat' split
  all_goals simp

@[simp] theorem vault_allBranchesOff (s : State) : (allBranchesOff s).vault = s.vault := by simp [allBranchesOff]

@[simp] theorem vault_tripBranch (s : State) (b : Nat) (kind : Nat) : (tripBranch s b kind).vault = s.vault := by simp [tripBranch]

@[simp] theorem from_execBreakerTrip (b : Nat) (s : State) : From s.vault (execBreakerTrip b s) := by simp [execBreakerTrip]

@[simp] theorem from_execShortTrip (b : Nat) (i : Int) (s : State) : From s.vault (execShortTrip b i s) := by simp [execShortTrip]

@[simp] theorem from_execThermalTrip (b : Nat) (s : State) : From s.vault (execThermalTrip b s) := by simp [execThermalTrip]

@[simp] theorem from_execRampDone (b : Nat) (s : State) : From s.vault (execRampDone b s) := by simp [execRampDone]

@[simp] theorem from_execRetryDue (b : Nat) (s : State) : From s.vault (execRetryDue b s) := by simp [execRetryDue]

@[simp] theorem vault_grantStart (s : State) (b : Nat) : (grantStart s b).vault = s.vault := by simp [grantStart]

@[simp] theorem from_execStartGrant (s : State) : From s.vault (execStartGrant s) := by
  unfold execStartGrant
  split <;> simp

@[simp] theorem from_execRetriesRestore (b : Nat) (s : State) : From s.vault (execRetriesRestore b s) := by simp [execRetriesRestore]

@[simp] theorem from_execSupplyLow (b : Nat) (vin : Nat) (us : Nat) (s : State) : From s.vault (execSupplyLow b vin us s) := by simp [execSupplyLow]

@[simp] theorem from_execSupplyHold (b : Nat) (vin : Nat) (us : Nat) (s : State) : From s.vault (execSupplyHold b vin us s) := by simp [execSupplyHold]

@[simp] theorem from_execSupplyRestored (b : Nat) (vin : Nat) (us : Nat) (s : State) : From s.vault (execSupplyRestored b vin us s) := by simp [execSupplyRestored]

@[simp] theorem from_execBackfeed (b : Nat) (vout : Nat) (us : Nat) (s : State) : From s.vault (execBackfeed b vout us s) := by simp [execBackfeed]

@[simp] theorem from_execNtcFault (b : Nat) (bad : Bool) (s : State) : From s.vault (execNtcFault b bad s) := by simp [execNtcFault]

@[simp] theorem vault_startHold (s : State) : (startHold s).vault = s.vault := by simp [startHold]

@[simp] theorem vault_reportHold (s : State) : (reportHold s).vault = s.vault := by simp [reportHold]

@[simp] theorem vault_holdOpen (b : Nat) (s : State) : (holdOpen b s).vault = s.vault := by simp [holdOpen]

@[simp] theorem from_execBranchHoldExpiry (s : State) : From s.vault (execBranchHoldExpiry s) := by
  unfold execBranchHoldExpiry
  split <;> simp

@[simp] theorem from_execVddPwrFail (s : State) : From s.vault (execVddPwrFail s) := by simp [execVddPwrFail]

@[simp] theorem vault_takeUnit (s : State) (t : Nat) (at_ : Nat) (period : Nat) : (takeUnit s t at_ period).vault = s.vault := (rfl)

@[simp] theorem vault_returnUnit (s : State) (t : Nat) : (returnUnit s t).vault = s.vault := (rfl)

@[simp] theorem from_bodyBranchCfg (c : Cmd) (s : State) : (bodyBranchCfg c s).From s.vault := by simp [bodyBranchCfg]

@[simp] theorem from_execBranchCfg (d : Desc) (s : State) : From s.vault (execBranchCfg d s) := from_cmdRow fun c t => by simp

@[simp] theorem from_bodyBranchSet (c : Cmd) (s : State) : (bodyBranchSet c s).From s.vault := by simp [bodyBranchSet]

@[simp] theorem from_execBranchSet (d : Desc) (s : State) : From s.vault (execBranchSet d s) := from_cmdRow fun c t => by simp

@[simp] theorem from_bodyRetryNow (c : Cmd) (s : State) : (bodyRetryNow c s).From s.vault := by simp [bodyRetryNow]

@[simp] theorem from_execRetryNow (d : Desc) (s : State) : From s.vault (execRetryNow d s) := from_cmdRow fun c t => by simp

@[simp] theorem from_bodyBranchStatus (c : Cmd) (s : State) : (bodyBranchStatus c s).From s.vault := by simp [bodyBranchStatus]

@[simp] theorem from_execBranchStatus (d : Desc) (s : State) : From s.vault (execBranchStatus d s) := from_cmdRow fun c t => by simp

@[simp] theorem from_bodyInrushCfg (c : Cmd) (s : State) : (bodyInrushCfg c s).From s.vault := by simp [bodyInrushCfg]

@[simp] theorem from_execInrushCfg (d : Desc) (s : State) : From s.vault (execInrushCfg d s) := from_cmdRow fun c t => by simp

@[simp] theorem from_bodyEnergyClear (c : Cmd) (s : State) : (bodyEnergyClear c s).From s.vault := by simp [bodyEnergyClear]

@[simp] theorem from_execEnergyClear (d : Desc) (s : State) : From s.vault (execEnergyClear d s) := from_cmdRow fun c t => by simp

theorem from_branchRow (op : Nat) (c : Cmd) (t : State) : ((branchRow op).2 c t).From t.vault := by
  unfold branchRow
  (repeat' split) <;> simp

@[simp] theorem evolves_powerLinkUp {v : Vault} (s : State) (hs : v.Evolves s.vault) : v.Evolves (powerLinkUp s).vault := by
  have hfin (s : State) (p : Nat) (a : Async) : s.vault.Evolves (match takeFirst (fun b => b == a) (s.part p).cmds with
      | some (a, rest) => finishAsync s p (branchRow a.opcode).1 (branchRow a.opcode).2 a rest
      | none => s).vault := by
    split
    · exact evolves_finishAsync (.refl _) (from_branchRow _)
    · exact .refl _
  simp only [powerLinkUp]
  refine evolves_forEach (fun p s => evolves_forEach (fun a s => ?_) (.refl _)) (hs.of_eq ?_)
  · exact evolves_vault_ite (hfin s p a) (.refl _)
  · simp

@[simp] theorem vault_setCycle (s : State) (x : Cycle) : (State.setCycle s x).vault = s.vault := (rfl)

@[simp] theorem vault_holdUnits (s : State) : (holdUnits s).vault = s.vault := by simp [holdUnits]

@[simp] theorem from_bodyCycleStart (c : Cmd) (s : State) : (bodyCycleStart c s).From s.vault := by simp [bodyCycleStart]

@[simp] theorem from_execCycleStart (d : Desc) (s : State) : From s.vault (execCycleStart d s) := from_cmdRow fun c t => by simp

@[simp] theorem from_bodyCycleStop (_c : Cmd) (s : State) : (bodyCycleStop _c s).From s.vault := by simp [bodyCycleStop]

@[simp] theorem from_execCycleStop (d : Desc) (s : State) : From s.vault (execCycleStop d s) := from_cmdRow fun c t => by simp

@[simp] theorem vault_endCycle (s : State) : (endCycle s).vault = s.vault := by simp [endCycle]

@[simp] theorem from_bodyImageMapSet (c : Cmd) (s : State) : (bodyImageMapSet c s).From s.vault := by simp [bodyImageMapSet]

@[simp] theorem from_execImageMapSet (d : Desc) (s : State) : From s.vault (execImageMapSet d s) := from_cmdRow fun c t => by simp

@[simp] theorem from_bodySegCfg (c : Cmd) (s : State) : (bodySegCfg c s).From s.vault := by simp [bodySegCfg]

@[simp] theorem from_execSegCfg (d : Desc) (s : State) : From s.vault (execSegCfg d s) := from_cmdRow fun c t => by simp

@[simp] theorem from_bodyImageSub (c : Cmd) (s : State) : (bodyImageSub c s).From s.vault := by simp [bodyImageSub]

@[simp] theorem from_execImageSub (d : Desc) (s : State) : From s.vault (execImageSub d s) := from_cmdRow fun c t => by simp

@[simp] theorem vault_takeMaps (s : State) (n : Nat) : (takeMaps s n).vault = s.vault := by
  simp only [takeMaps]
  split <;> simp

@[simp] theorem vault_snapshotAt (s : State) (n : Nat) : (snapshotAt s n).vault = s.vault := by simp [snapshotAt]

@[simp] theorem from_execSnapshot (s : State) : From s.vault (execSnapshot s) := by simp [execSnapshot]

@[simp] theorem vault_commitImage (s : State) (w : ImageBuf) : (commitImage s w).vault = s.vault := by simp [commitImage]

@[simp] theorem from_execImageAssembled (s : State) : From s.vault (execImageAssembled s) := by
  unfold execImageAssembled
  split <;> simp

@[simp] theorem vault_publishAt (s : State) (n : Nat) : (publishAt s n).vault = s.vault := by simp [publishAt]

@[simp] theorem from_execPublish (s : State) : From s.vault (execPublish s) := by
  simp only [execPublish]
  repeat' split
  all_goals simp

@[simp] theorem from_execDeadline (s : State) : From s.vault (execDeadline s) := by
  simp only [execDeadline]
  split <;> simp

@[simp] theorem vault_pinItem (s : State) (p : Nat) (lvl : Bool) (dir : Bool) : (pinItem s p lvl dir).1.vault = s.vault := by simp [pinItem]

@[simp] theorem vault_actItem (s : State) (e : Item) (d : List Byte) (at_ : Nat) : (actItem s e d at_).1.vault = s.vault := by
  have hpins (i v : Nat) : ((List.range 16).foldl (fun (a : State × Bool) k =>
      if bitAt v k then ((pinItem a.1 (i + k) (bitAt v (16 + k)) true).1, a.2 && (pinItem a.1 (i + k) (bitAt v (16 + k)) true).2)
      else a) (s, true)).1.vault = s.vault := vault_foldl_fst fun x k => by simp
  simp [actItem, hpins]

@[simp] theorem vault_applyRecord (s : State) (g : Nat) (b : List Byte) (at_ : Nat) : (applyRecord s g b at_).vault = s.vault := by
  have hitems (l : List Item) : (l.foldl (fun (a : State × Nat) e =>
      ((actItem a.1 e (bytesAt (fitBytes 256 b) e.doff e.dlen) at_).1,
        if (actItem a.1 e (bytesAt (fitBytes 256 b) e.doff e.dlen) at_).2 then a.2 else a.2 + 1)) (s, 0)).1.vault = s.vault :=
    vault_foldl_fst fun x e => by simp
  simp [applyRecord, hitems]

@[simp] theorem vault_groupApply (s : State) (g : Nat) (n : Nat) : (groupApply s g n).vault = s.vault := by
  simp only [groupApply]
  repeat' split
  all_goals simp

@[simp] theorem from_execApply (s : State) : From s.vault (execApply s) := by
  simp only [execApply]
  repeat' split
  all_goals simp

@[simp] theorem vault_imageInBody (f : GrtFrame) (s : State) : (imageInBody f s).vault = s.vault := by simp [imageInBody]

@[simp] theorem from_execImageIn (f : GrtFrame) (s : State) : From s.vault (execImageIn f s) := by simp [execImageIn]

@[simp] theorem from_bodyGroupSet (c : Cmd) (s : State) : (bodyGroupSet c s).From s.vault := by simp [bodyGroupSet]

@[simp] theorem from_execGroupSet (d : Desc) (s : State) : From s.vault (execGroupSet d s) := from_cmdRow fun c t => by simp

@[simp] theorem from_bodyGroupEnable (c : Cmd) (s : State) : (bodyGroupEnable c s).From s.vault := by simp [bodyGroupEnable]

@[simp] theorem from_execGroupEnable (d : Desc) (s : State) : From s.vault (execGroupEnable d s) := from_cmdRow fun c t => by simp

@[simp] theorem from_bodyGroupSafeSet (c : Cmd) (s : State) : (bodyGroupSafeSet c s).From s.vault := by simp [bodyGroupSafeSet]

@[simp] theorem from_execGroupSafeSet (d : Desc) (s : State) : From s.vault (execGroupSafeSet d s) := from_cmdRow fun c t => by simp

@[simp] theorem from_bodyGroupStatus (c : Cmd) (s : State) : (bodyGroupStatus c s).From s.vault := by simp [bodyGroupStatus]

@[simp] theorem from_execGroupStatus (d : Desc) (s : State) : From s.vault (execGroupStatus d s) := from_cmdRow fun c t => by simp

@[simp] theorem from_ownSet {v : Vault} {s : State} {c : Cmd} {f : Nat → CmdRes} (h : (f (c.u 8 1)).From v) : (ownSet s c f).From v := by
  simp [ownSet, h]

@[simp] theorem vault_markMaps (s : State) (l : List Nat) (v : Option Nat) : (markMaps s l v).vault = s.vault := by simp [markMaps]

@[simp] theorem from_bodyTwinSet (c : Cmd) (s : State) : (bodyTwinSet c s).From s.vault := by simp [bodyTwinSet]

@[simp] theorem from_execTwinSet (d : Desc) (s : State) : From s.vault (execTwinSet d s) := from_cmdRow fun c t => by simp

@[simp] theorem from_bodyTwinEnable (c : Cmd) (s : State) : (bodyTwinEnable c s).From s.vault := by simp [bodyTwinEnable]

@[simp] theorem from_execTwinEnable (d : Desc) (s : State) : From s.vault (execTwinEnable d s) := from_cmdRow fun c t => by simp

@[simp] theorem from_bodyTwinRearm (c : Cmd) (s : State) : (bodyTwinRearm c s).From s.vault := by simp [bodyTwinRearm]

@[simp] theorem from_execTwinRearm (d : Desc) (s : State) : From s.vault (execTwinRearm d s) := from_cmdRow fun c t => by simp

@[simp] theorem from_bodyTwinTakeover (c : Cmd) (s : State) : (bodyTwinTakeover c s).From s.vault := by simp [bodyTwinTakeover]

@[simp] theorem from_execTwinTakeover (d : Desc) (s : State) : From s.vault (execTwinTakeover d s) := from_cmdRow fun c t => by simp

@[simp] theorem from_bodyDrill (c : Cmd) (s : State) : (bodyDrill c s).From s.vault := by simp [bodyDrill]

@[simp] theorem from_execDrill (d : Desc) (s : State) : From s.vault (execDrill d s) := from_cmdRow fun c t => by simp

@[simp] theorem from_bodyTwinStatus (c : Cmd) (s : State) : (bodyTwinStatus c s).From s.vault := by simp [bodyTwinStatus]

@[simp] theorem from_execTwinStatus (d : Desc) (s : State) : From s.vault (execTwinStatus d s) := from_cmdRow fun c t => by simp

@[simp] theorem from_bodyTallyRegister (c : Cmd) (s : State) : (bodyTallyRegister c s).From s.vault := by simp [bodyTallyRegister]

@[simp] theorem from_execTallyRegister (d : Desc) (s : State) : From s.vault (execTallyRegister d s) := from_cmdRow fun c t => by simp

@[simp] theorem vault_cycleRead (s : State) (p : Nat) (off : Nat) (len : Nat) : (cycleRead s p off len).s.vault = s.vault := by simp [cycleRead]

@[simp] theorem vault_cycleWrite (s : State) (node : Nat) (p : Nat) (off : Nat) (d : List Byte) : (cycleWrite s node p off d).s.vault = s.vault := by simp [cycleWrite]

theorem leNat_leBytes (n v : Nat) : leNat (leBytes n v) = v % 256 ^ n := by
  induction n generalizing v with
  | zero => simp [leBytes, leNat, Nat.mod_one]
  | succ n ih =>
    have hpow : 256 ^ (n + 1) = 256 * 256 ^ n := Nat.pow_succ'
    rw [leBytes, leNat, ih, BitVec.toNat_ofNat, hpow, Nat.mod_mul]

theorem length_leBytes (n v : Nat) : (leBytes n v).length = n := by
  induction n generalizing v with
  | zero => rfl
  | succ n ih => rw [leBytes, List.length_cons, ih]

/-- The field that a byte list begins with. -/
theorem leAt_leBytes_append (n v : Nat) (l : List Byte) : leAt (leBytes n v ++ l) 0 n = v % 256 ^ n := by
  have hfit : fitBytes n (leBytes n v ++ l) = leBytes n v := by
    simp [fitBytes, zeros, length_leBytes]
  rw [leAt, bytesAt, List.drop_zero, hfit, leNat_leBytes]

theorem countersFrom_append {n : Nat} {l : List Audit} {e : Audit} (h : countersFrom n l = true)
    (he : leAt e.bytes 0 4 = (n + l.length) % 2 ^ 32) : countersFrom n (l ++ [e]) = true := by
  induction l generalizing n with
  | nil => simpa [countersFrom] using he
  | cons a l ih =>
    simp only [countersFrom, Bool.and_eq_true, List.cons_append] at h ⊢
    exact ⟨h.1, ih h.2 (by rw [he, List.length_cons]; congr 1; omega)⟩

/-- An entry that carries the next counter may be appended to the audit log. -/
theorem evolves_appendAudit {v : Vault} {e : Audit} {cnt : Nat} (hc : cnt = (v.eventCounter + 1) % 2 ^ 32)
    (he : leAt e.bytes 0 4 = cnt % 2 ^ 32) : v.Evolves { v with audit := v.audit ++ [e], eventCounter := cnt } := by
  refine ⟨fun ⟨hlen, hlt, hseq, hcnt, hlog⟩ => ⟨hlen, hlt, hseq, ?_, countersFrom_append hlog ?_⟩, List.prefix_append .., Nat.le_refl _, id⟩
  · simp only [hc, hcnt, List.length_append, List.length_singleton]
    omega
  · rw [he, hc, hcnt]
    omega

@[simp] theorem evolves_auditAdd {v : Vault} (s : State) (param origin old new : Nat) (h : v.Evolves s.vault) :
    v.Evolves (auditAdd s param origin old new).vault := by
  simp only [auditAdd, vault_raiseIf]
  exact h.trans (evolves_appendAudit rfl (by simp only [List.append_assoc]; exact leAt_leBytes_append ..))

@[simp] theorem evolves_commitParam {v₀ : Vault} (s : State) (k c v : Nat) (h : v₀.Evolves s.vault) :
    v₀.Evolves (commitParam s k c v).vault := by
  simp [commitParam, h]

theorem seqsFrom_append {n : Nat} {l : List ARec} {r : ARec} (h : seqsFrom n l = true) (hr : r.seq = n + l.length)
    (hb : leAt r.bytes 0 8 = r.seq % 2 ^ 64) : seqsFrom n (l ++ [r]) = true := by
  induction l generalizing n with
  | nil =>
    have hn : r.seq = n := by simpa using hr
    simp [seqsFrom, hb, hn]
  | cons a l ih =>
    simp only [seqsFrom, Bool.and_eq_true, List.cons_append] at h ⊢
    exact ⟨h.1, ih h.2 (by rw [hr, List.length_cons]; omega)⟩

theorem seqsFrom_drop_one {n : Nat} {l : List ARec} (h : seqsFrom n l = true) : seqsFrom (n + 1) (l.drop 1) = true := by
  cases l with
  | nil => rfl
  | cons a l =>
    simp only [seqsFrom, Bool.and_eq_true] at h
    exact h.2

/-- A record with the next number may be appended to the store, the oldest leaving a full one. -/
theorem evolves_appendRecord {v : Vault} {r : ARec} (hr : r.seq = v.nextSeq) (hb : leAt r.bytes 0 8 = r.seq % 2 ^ 64) :
    v.Evolves { v with
      nextSeq := v.nextSeq + 1
      store := if (v.store ++ [r]).length > 4096 then (v.store ++ [r]).drop 1 else v.store ++ [r] } := by
  refine ⟨fun ⟨hlen, hlt, hseq, hcnt, hlog⟩ => ?_, List.prefix_rfl, Nat.le_succ _, id⟩
  have happ : seqsFrom (v.nextSeq - v.store.length) (v.store ++ [r]) = true := seqsFrom_append hseq (by omega) hb
  have hlen' : (v.store ++ [r]).length = v.store.length + 1 := by simp
  simp only [Vault.recordsWf]
  split
  · have hdrop : ((v.store ++ [r]).drop 1).length = v.store.length := by simp
    refine ⟨by omega, by omega, ?_, hcnt, hlog⟩
    rw [hdrop, show v.nextSeq + 1 - v.store.length = v.nextSeq - v.store.length + 1 by omega]
    exact seqsFrom_drop_one happ
  · refine ⟨by omega, by omega, ?_, hcnt, hlog⟩
    rw [hlen', Nat.add_sub_add_right]
    exact happ

@[simp] theorem evolves_commitRec {v : Vault} (s : State) (c kind status samples : Nat) (gross tare net pulses : Int) (h : v.Evolves s.vault) :
    v.Evolves (commitRec s c kind status samples gross tare net pulses).vault := by
  simp only [commitRec, vault_raiseIf]
  exact h.trans (evolves_appendRecord rfl (by simp only [List.append_assoc]; exact leAt_leBytes_append ..))

@[simp] theorem vault_overStep (s : State) (c : Nat) (seq : Nat) (status : Nat) : (overStep s c seq status).vault = s.vault := by simp [overStep]

@[simp] theorem vault_finishMeas (s : State) (m : Meas) (st : Nat) (res : List Byte) : (finishMeas s m st res).vault = s.vault := by simp [finishMeas]

@[simp] theorem evolves_bridgeEnd {v₀ : Vault} (s : State) (c : Nat) (m : Meas) (outs : List (List Int)) (h : v₀.Evolves s.vault) : v₀.Evolves (bridgeEnd s c m outs).vault := by simp [bridgeEnd, h]

@[simp] theorem evolves_pulseEnd {v₀ : Vault} (s : State) (c : Nat) (m : Meas) (h : v₀.Evolves s.vault) : v₀.Evolves (pulseEnd s c m).vault := by simp [pulseEnd, h]

@[simp] theorem from_execMeasurementComplete (c : Nat) (m : AssaySample) (s : State) : From s.vault (execMeasurementComplete c m s) := by simp [execMeasurementComplete]

@[simp] theorem evolves_paramCommitOne {v₀ : Vault} (s : State) (w : ParamWait) (h : v₀.Evolves s.vault) : v₀.Evolves (paramCommitOne s w).vault := by simp [paramCommitOne, h]

@[simp] theorem from_execParamCommit (s : State) : From s.vault (execParamCommit s) := by
  simp only [execParamCommit]
  repeat' split
  all_goals simp

@[simp] theorem vault_dropAssayUpdate (s : State) : (dropAssayUpdate s).vault = s.vault := by
  unfold dropAssayUpdate
  split <;> simp

@[simp] theorem from_execSealChange (asserted : Bool) (ms : Nat) (s : State) : From s.vault (execSealChange asserted ms s) := by simp [execSealChange]

@[simp] theorem from_execHubTimeUpdate (s : State) : From s.vault (execHubTimeUpdate s) := by simp [execHubTimeUpdate]

@[simp] theorem from_execHubTimeLoss (s : State) : From s.vault (execHubTimeLoss s) := by
  unfold execHubTimeLoss
  split <;> simp

@[simp] theorem from_execPulseInput (c : Nat) (down : Bool) (us : Nat) (s : State) : From s.vault (execPulseInput c down us s) := by simp [execPulseInput]

@[simp] theorem from_execExcFault (c : Nat) (bad : Bool) (s : State) : From s.vault (execExcFault c bad s) := by simp [execExcFault]

@[simp] theorem vault_dropMeasurements (s : State) : (dropMeasurements s).vault = s.vault := by simp [dropMeasurements]

@[simp] theorem evolves_revertAssay {v₀ : Vault} (s : State) (old : Nat × Nat × Nat) (h : v₀.Evolves s.vault) : v₀.Evolves (revertAssay s old).vault := by simp [revertAssay, h]

@[simp] theorem evolves_assaySelfTest {v₀ : Vault} (s : State) (pass : Bool) (h : v₀.Evolves s.vault) : v₀.Evolves (assaySelfTest s pass).vault := by
  simp only [assaySelfTest]
  repeat' split
  all_goals simp [h]

@[simp] theorem vault_assayClock (s : State) : (assayClock s).vault = s.vault := (rfl)

@[simp] theorem vault_assayStart (s : State) : (assayStart s).vault = s.vault := (rfl)

@[simp] theorem from_execAssayPowerOn (pass : Bool) (s : State) : From s.vault (execAssayPowerOn pass s) := by simp [execAssayPowerOn]

@[simp] theorem from_execAssayFault (kind : Nat) (pass : Bool) (s : State) : From s.vault (execAssayFault kind pass s) := by simp [execAssayFault]

@[simp] theorem from_execVddaAssayAbsent (s : State) : From s.vault (execVddaAssayAbsent s) := by simp [execVddaAssayAbsent]

@[simp] theorem from_assayCmd {v : Vault} {s : State} {k : CmdRes} : (assayCmd s k).From v ↔ (s.assay.fitted = true → k.From v) := by
  simp [assayCmd]

@[simp] theorem from_assayRuns {v : Vault} {s : State} {k : CmdRes} :
    (assayRuns s k).From v ↔ ((s.assayReach && s.assay.st == 1) = true → k.From v) := from_chk

@[simp] theorem from_assayAnswers {v : Vault} {s : State} {k : CmdRes} :
    (assayAnswers s k).From v ↔ ((s.assayReach && (s.assay.st == 1 || s.assay.st == 3)) = true → k.From v) := from_chk

@[simp] theorem from_bodyAssayInfo (_c : Cmd) (s : State) : (bodyAssayInfo _c s).From s.vault := by simp [bodyAssayInfo]

@[simp] theorem from_execAssayInfo (d : Desc) (s : State) : From s.vault (execAssayInfo d s) := from_cmdRow fun c t => by simp

@[simp] theorem from_startMeas (c : Cmd) (s : State) (ch : Nat) (kind : Nat) (samples : Nat) : (startMeas c s ch kind samples).From s.vault := by simp [startMeas]

@[simp] theorem from_bodyAssayMeasure (c : Cmd) (s : State) : (bodyAssayMeasure c s).From s.vault := by simp [bodyAssayMeasure]

@[simp] theorem from_execAssayMeasure (d : Desc) (s : State) : From s.vault (execAssayMeasure d s) := from_cmdRow fun c t => by simp

@[simp] theorem from_bodyAssayZero (c : Cmd) (s : State) : (bodyAssayZero c s).From s.vault := by simp [bodyAssayZero]

@[simp] theorem from_execAssayZero (d : Desc) (s : State) : From s.vault (execAssayZero d s) := from_cmdRow fun c t => by simp

@[simp] theorem from_bodyAssayTare (c : Cmd) (s : State) : (bodyAssayTare c s).From s.vault := by simp [bodyAssayTare]

@[simp] theorem from_execAssayTare (d : Desc) (s : State) : From s.vault (execAssayTare d s) := from_cmdRow fun c t => by simp

@[simp] theorem from_bodyAssayTransfer (c : Cmd) (s : State) : (bodyAssayTransfer c s).From s.vault := by simp [bodyAssayTransfer]

@[simp] theorem from_execAssayTransfer (d : Desc) (s : State) : From s.vault (execAssayTransfer d s) := from_cmdRow fun c t => by simp

@[simp] theorem from_bodyAssayParamSet (c : Cmd) (s : State) : (bodyAssayParamSet c s).From s.vault := by simp [bodyAssayParamSet]

@[simp] theorem from_execAssayParamSet (d : Desc) (s : State) : From s.vault (execAssayParamSet d s) := from_cmdRow fun c t => by simp

@[simp] theorem from_bodyAuditRead (c : Cmd) (s : State) : (bodyAuditRead c s).From s.vault := by simp [bodyAuditRead]

@[simp] theorem from_execAuditRead (d : Desc) (s : State) : From s.vault (execAuditRead d s) := from_cmdRow fun c t => by simp

@[simp] theorem vault_assayRead (s : State) (p : Nat) (off : Nat) (len : Nat) : (assayRead s p off len).s.vault = s.vault := by simp [assayRead]

@[simp] theorem vault_setFaults (s : State) (x : Faults) : (State.setFaults s x).vault = s.vault := (rfl)

@[simp] theorem vault_setCtl (s : State) (x : Ctl) : (State.setCtl s x).vault = s.vault := (rfl)

@[simp] theorem vault_faultReg (s : State) (p : Nat) (f : Flt) : (faultReg s p f).vault = s.vault := (rfl)

@[simp] theorem vault_faultRegs (s : State) (f : Flt) : (faultRegs s f).vault = s.vault := by simp [faultRegs]

@[simp] theorem vault_faultRecord (s : State) (p : Nat) (f : Flt) : (faultRecord s p f).vault = s.vault := by simp [faultRecord]

@[simp] theorem vault_loseCommands (s : State) (p : Nat) : (loseCommands s p).vault = s.vault := by
  unfold loseCommands
  refine vault_forEach fun a s => ?_
  split
  · rfl
  · dsimp only
    split
    · split <;> simp
    · simp

@[simp] theorem vault_loseSessions (s : State) : (loseSessions s).vault = s.vault := by simp [loseSessions]

@[simp] theorem vault_pairLost (s : State) (p : Nat) : (pairLost s p).vault = s.vault := by simp [pairLost]

@[simp] theorem vault_localAction (s : State) (f : Flt) : (localAction s f).vault = s.vault := by simp [localAction]

@[simp] theorem vault_goFatal (s : State) (f : Flt) : (goFatal s f).vault = s.vault := by simp [goFatal]

@[simp] theorem vault_beginFault (s : State) (f : Flt) : (beginFault s f).vault = s.vault := by simp [beginFault]

@[simp] theorem vault_queueFault (s : State) (f : Flt) : (queueFault s f).vault = s.vault := by simp [queueFault]

@[simp] theorem vault_enterSafeHalt (s : State) : (enterSafeHalt s).vault = s.vault := by simp [enterSafeHalt]

@[simp] theorem vault_detect (s : State) (f : Flt) : (detect s f).vault = s.vault := by
  simp only [detect]
  repeat' split
  all_goals simp

@[simp] theorem vault_detectCode (s : State) (code : Nat) (detail : Nat) : (detectCode s code detail).vault = s.vault := by
  unfold detectCode
  split <;> simp

@[simp] theorem vault_poisonQueue (s : State) (q : Nat) : (poisonQueue s q).vault = s.vault := by
  simp only [poisonQueue]
  split <;> simp

@[simp] theorem from_execFaultDetected (code : Nat) (detail : Nat) (s : State) : From s.vault (execFaultDetected code detail s) := by simp [execFaultDetected]

@[simp] theorem from_execFaultQueuedHandle (s : State) : From s.vault (execFaultQueuedHandle s) := by
  simp only [execFaultQueuedHandle]
  repeat' split
  all_goals simp

@[simp] theorem vault_mismatch (s : State) (p : Nat) : (mismatch s p).vault = s.vault := by simp [mismatch]

@[simp] theorem from_execLockstepMismatch (p : Nat) (s : State) : From s.vault (execLockstepMismatch p s) := by simp [execLockstepMismatch]

@[simp] theorem vault_codeError (s : State) (addr : Nat) : (codeError s addr).vault = s.vault := by simp [codeError]

@[simp] theorem from_execFirewallBlock (p : Nat) (s : State) : From s.vault (execFirewallBlock p s) := by simp [execFirewallBlock]

@[simp] theorem from_execWatchdogExpiry (s : State) : From s.vault (execWatchdogExpiry s) := by simp [execWatchdogExpiry]

@[simp] theorem from_execClockAlarm (island : Nat) (s : State) : From s.vault (execClockAlarm island s) := by simp [execClockAlarm]

@[simp] theorem from_execSupplyAlarm (rail : Nat) (s : State) : From s.vault (execSupplyAlarm rail s) := by
  unfold execSupplyAlarm
  split <;> simp

@[simp] theorem vault_tempSettle (s : State) : (tempSettle s).vault = s.vault := by simp [tempSettle]

@[simp] theorem from_execTempThreshold (k : Nat) (r : Int) (s : State) : From s.vault (execTempThreshold k r s) := by simp [execTempThreshold]

@[simp] theorem from_execTempRearm (k : Nat) (r : Int) (s : State) : From s.vault (execTempRearm k r s) := by simp [execTempRearm]

@[simp] theorem vault_dropHolders (s : State) (c : Nat) : (dropHolders s c).vault = s.vault := by
  have hrx (t : State) (p : Nat) : (match (t.port p).rx with
      | some r =>
        let m := r.copies.filter (fun (k : Copy) => !k.dead && k.cells.contains c)
        forEach m (t.setPort p { t.port p with rx := some { r with
          copies := r.copies.map (fun (k : Copy) => if k.cells.contains c then { k with dead := true, cells := [] } else k) } })
          (fun k s => freeCopy s k)
      | none => t).vault = t.vault := by
    split <;> simp
  have hsend (t : State) (p : Nat) : (match (t.port p).sending with
      | some k =>
        if k.cells.contains c then
          (t.setPort p { t.port p with sending := some { k with dead := true, whole := true, stopAt := some (k.gone * 128) } }).count
            cStompOrigin p
        else t
      | none => t).vault = t.vault := by
    split <;> simp
  unfold dropHolders
  refine (vault_forEach fun p s => ?_).trans vault_mk
  refine (hsend _ p).trans ((hrx _ p).trans ?_)
  simp

@[simp] theorem vault_markBad (s : State) (space : Nat) (addr : Nat) : (markBad s space addr).vault = s.vault := (rfl)

@[simp] theorem vault_loseEntry (s : State) (table : Nat) (e : Nat) : (loseEntry s table e).vault = s.vault := (rfl)

@[simp] theorem from_execEccError (kind : Nat) (at_ : EccPlace) (s : State) : From s.vault (execEccError kind at_ s) := by
  simp only [execEccError]
  repeat' split
  all_goals simp

@[simp] theorem vault_dropAssayWaits (s : State) : (dropAssayWaits s).vault = s.vault := by simp [dropAssayWaits]

@[simp] theorem from_execDieLink (die : Nat) (up : Bool) (s : State) : From s.vault (execDieLink die up s) := by simp [execDieLink]

@[simp] theorem from_execDebugHalt (h : Nat) (halt : Bool) (s : State) : From s.vault (execDebugHalt h halt s) := by
  simp only [execDebugHalt]
  repeat' split
  all_goals simp

@[simp] theorem from_execDebuggerAccess (at_ : DebugPlace) (write : Option (List Byte)) (s : State) : From s.vault (execDebuggerAccess at_ write s) := by
  simp only [execDebuggerAccess]
  repeat' split
  all_goals simp

@[simp] theorem vault_resetMailbox (s : State) (p : Nat) : (resetMailbox s p).vault = s.vault := by simp [resetMailbox]

@[simp] theorem vault_resetQueues (s : State) (p : Nat) : (resetQueues s p).vault = s.vault := by
  have hall : (forEach (s.owned p 5) s fun q s => (flushReq s q).setQueue q { (flushReq s q).queue q with enable := false }).vault
      = s.vault := vault_forEach fun q s => by rw [vault_setQueue, vault_flushReq]
  unfold resetQueues
  dsimp only
  split
  · rw [vault_flushNow, vault_setQueue, hall]
  · exact hall

@[simp] theorem vault_canOff (s : State) (ch : Nat) : (canOff s ch).vault = s.vault := by simp [canOff]

@[simp] theorem vault_resetField (s : State) (p : Nat) : (resetField s p).vault = s.vault := by simp [resetField]

@[simp] theorem vault_resetTwins (s : State) (p : Nat) : (resetTwins s p).vault = s.vault := by simp [resetTwins]

@[simp] theorem vault_resetPartition (s : State) (p : Nat) : (resetPartition s p).vault = s.vault := by simp [resetPartition]

@[simp] theorem vault_beginReset (s : State) (p : Nat) : (beginReset s p).vault = s.vault := by simp [beginReset]

@[simp] theorem vault_clearScope (s : State) (kind : Nat) (lo : Nat) (n : Nat) : (clearScope s kind lo n).vault = s.vault := (rfl)

@[simp] theorem vault_setOwner (s : State) (cls : Nat) (i : Nat) (p : Nat) : (setOwner s cls i p).vault = s.vault := (rfl)

@[simp] theorem vault_moveRes (s : State) (cls : Nat) (i : Nat) (p : Nat) : (moveRes s cls i p).vault = s.vault := by simp [moveRes]

@[simp] theorem vault_moveSource (s : State) (e : Nat) (p : Nat) : (moveSource s e p).vault = s.vault := (rfl)

@[simp] theorem from_bodyDevInfo (c : Cmd) (s : State) : (bodyDevInfo c s).From s.vault := by simp [bodyDevInfo]

@[simp] theorem from_execDevInfo (d : Desc) (s : State) : From s.vault (execDevInfo d s) := from_cmdRow fun c t => by simp

@[simp] theorem from_bodyPartCreate (c : Cmd) (s : State) : (bodyPartCreate c s).From s.vault := by simp [bodyPartCreate]

@[simp] theorem from_execPartCreate (d : Desc) (s : State) : From s.vault (execPartCreate d s) := from_cmdRow fun c t => by simp

@[simp] theorem vault_rebind (s : State) (a : Nat) (dst : Option Nat) : (rebind s a dst).vault = s.vault := by
  unfold rebind
  refine vault_ite_of rfl ?_
  dsimp only
  split
  · exact (vault_intSettle ..).trans ((vault_setAtt ..).trans (vault_attDown ..))
  · exact (vault_setAtt ..).trans (vault_attDown ..)

@[simp] theorem vault_returnAll (s : State) (p : Nat) : (returnAll s p).vault = s.vault := by simp [returnAll]

@[simp] theorem vault_removePart (s : State) (p : Nat) : (removePart s p).vault = s.vault := by
  simp only [removePart]
  split <;> simp

@[simp] theorem vault_endReset (s : State) (p : Nat) : (endReset s p).vault = s.vault := by simp [endReset]

@[simp] theorem vault_dueResets (s : State) : (dueResets s).vault = s.vault := by simp [dueResets]

@[simp] theorem from_bodyPartDestroy (c : Cmd) (s : State) : (bodyPartDestroy c s).From s.vault := by simp [bodyPartDestroy]

@[simp] theorem from_execPartDestroy (d : Desc) (s : State) : From s.vault (execPartDestroy d s) := from_cmdRow fun c t => by simp

@[simp] theorem from_bodyPartReset (c : Cmd) (s : State) : (bodyPartReset c s).From s.vault := by simp [bodyPartReset]

@[simp] theorem from_execPartReset (d : Desc) (s : State) : From s.vault (execPartReset d s) := from_cmdRow fun c t => by simp

@[simp] theorem from_bodyPartBind (c : Cmd) (s : State) : (bodyPartBind c s).From s.vault := by simp [bodyPartBind]

@[simp] theorem from_execPartBind (d : Desc) (s : State) : From s.vault (execPartBind d s) := from_cmdRow fun c t => by simp

@[simp] theorem from_bodyHostSet (c : Cmd) (s : State) : (bodyHostSet c s).From s.vault := by simp [bodyHostSet]

@[simp] theorem from_execHostSet (d : Desc) (s : State) : From s.vault (execHostSet d s) := from_cmdRow fun c t => by simp

@[simp] theorem vault_setRegion (s : State) (r : Nat) (x : Region) : (State.setRegion s r x).vault = s.vault := (rfl)

@[simp] theorem from_bodySramRegionSet (c : Cmd) (s : State) : (bodySramRegionSet c s).From s.vault := by simp [bodySramRegionSet]

@[simp] theorem from_execSramRegionSet (d : Desc) (s : State) : From s.vault (execSramRegionSet d s) := from_cmdRow fun c t => by simp

@[simp] theorem from_bodyCmdAbort (c : Cmd) (s : State) : (bodyCmdAbort c s).From s.vault := by
  unfold bodyCmdAbort
  split <;> simp

@[simp] theorem from_execCmdAbort (d : Desc) (s : State) : From s.vault (execCmdAbort d s) := from_cmdRow fun c t => by simp

@[simp] theorem from_anyHandle {v : Vault} {s : State} {c : Cmd} {f : Nat → Nat → CmdRes} (h : ∀ cls i, (f cls i).From v) :
    (anyHandle s c f).From v := by
  unfold anyHandle
  split
  · exact h _ _
  · trivial

@[simp] theorem from_bodyResAssign (c : Cmd) (s : State) : (bodyResAssign c s).From s.vault := by simp [bodyResAssign]

@[simp] theorem from_execResAssign (d : Desc) (s : State) : From s.vault (execResAssign d s) := from_cmdRow fun c t => by simp

@[simp] theorem vault_setSubs (s : State) (cls : Nat) (i : Nat) (l : List Nat) : (setSubs s cls i l).vault = s.vault := (rfl)

@[simp] theorem from_bodyResSubscribe (c : Cmd) (s : State) : (bodyResSubscribe c s).From s.vault := by simp [bodyResSubscribe]

@[simp] theorem from_execResSubscribe (d : Desc) (s : State) : From s.vault (execResSubscribe d s) := from_cmdRow fun c t => by simp

@[simp] theorem from_bodyResUnsubscribe (c : Cmd) (s : State) : (bodyResUnsubscribe c s).From s.vault := by simp [bodyResUnsubscribe]

@[simp] theorem from_execResUnsubscribe (d : Desc) (s : State) : From s.vault (execResUnsubscribe d s) := from_cmdRow fun c t => by simp

@[simp] theorem from_bodyResQuery (c : Cmd) (s : State) : (bodyResQuery c s).From s.vault := by simp [bodyResQuery]

@[simp] theorem from_execResQuery (d : Desc) (s : State) : From s.vault (execResQuery d s) := from_cmdRow fun c t => by simp

@[simp] theorem from_bodyResList (c : Cmd) (s : State) : (bodyResList c s).From s.vault := by simp [bodyResList]

@[simp] theorem from_execResList (d : Desc) (s : State) : From s.vault (execResList d s) := from_cmdRow fun c t => by simp

@[simp] theorem vault_setRing (s : State) (x : RingNode) : (State.setRing s x).vault = s.vault := (rfl)

@[simp] theorem vault_keySettle (s : State) (p : Nat) : (keySettle s p).vault = s.vault := by simp [keySettle]

@[simp] theorem vault_noteBreak (s : State) (n : Nat) (p : Nat) (down : Bool) : (noteBreak s n p down).vault = s.vault := by simp [noteBreak]

@[simp] theorem vault_reportLink (s : State) (p : Nat) (e : Nat) (data : Nat) (down : Bool) : (reportLink s p e data down).vault = s.vault := by simp [reportLink]

@[simp] theorem vault_setCrossed (s : State) (port : Nat) (v : Bool) : (setCrossed s port v).vault = s.vault := by simp [setCrossed]

@[simp] theorem vault_linkUp (s : State) (port : Nat) (rate : Nat) (partner : List Nat) (crossed : Bool) : (linkUp s port rate partner crossed).vault = s.vault := by simp [linkUp]

@[simp] theorem from_execLinkUp (port : Nat) (rate : Nat) (partner : List Nat) (crossed : Bool) (s : State) : From s.vault (execLinkUp port rate partner crossed s) := by simp [execLinkUp]

@[simp] theorem vault_linkDown (s : State) (port : Nat) : (linkDown s port).vault = s.vault := by
  simp only [linkDown]
  repeat' split
  all_goals simp

@[simp] theorem from_execLinkDown (port : Nat) (s : State) : From s.vault (execLinkDown port s) := by simp [execLinkDown]

@[simp] theorem vault_sendHop (s : State) (port : Nat) (typ : Nat) (info : List Byte) : (sendHop s port typ info).vault = s.vault := by simp [sendHop]

@[simp] theorem vault_grtForm {s : State} {t : Nat} {f : GrtFrame} {g : State → State} (h : ∀ t : State, (g t).vault = t.vault) :
    (grtForm s t f g).vault = s.vault := by
  simp [grtForm, h]

@[simp] theorem vault_sendReport (s : State) (mgr : Nat) : (sendReport s mgr).vault = s.vault := by simp [sendReport]

@[simp] theorem vault_walkPass (s : State) (port : Nat) (hop : Nat) (dir : Nat) (mgr : Nat) : (walkPass s port hop dir mgr).vault = s.vault := by simp [walkPass]

@[simp] theorem vault_walkBack (s : State) (hop : Nat) : (walkBack s hop).vault = s.vault := by
  unfold walkBack
  split <;> simp

@[simp] theorem from_execEnumWalk (f : GrtFrame) (s : State) : From s.vault (execEnumWalk f s) := by simp [execEnumWalk]

@[simp] theorem vault_sendAssign (s : State) (mac : Nat) (n : Nat) : (sendAssign s mac n).vault = s.vault := by simp [sendAssign]

@[simp] theorem vault_takeNumber (s : State) (n : Nat) : (takeNumber s n).vault = s.vault := by simp [takeNumber]

@[simp] theorem vault_resolve (s : State) (r : NodeReport) : (resolve s r).vault = s.vault := by
  simp only [resolve]
  split <;> simp

@[simp] theorem from_execEnumReport (f : GrtFrame) (s : State) : From s.vault (execEnumReport f s) := by simp [execEnumReport]

@[simp] theorem from_execEnumAssign (f : GrtFrame) (s : State) : From s.vault (execEnumAssign f s) := by simp [execEnumAssign]

@[simp] theorem vault_mgrConflict (s : State) (node : Nat) (mac : Nat) : (mgrConflict s node mac).vault = s.vault := by simp [mgrConflict]

@[simp] theorem vault_takeBeacon (s : State) (f : GrtFrame) : (takeBeacon s f).vault = s.vault := (rfl)

@[simp] theorem vault_otherBeacon (s : State) (f : GrtFrame) : (otherBeacon s f).vault = s.vault := by
  simp only [otherBeacon]
  repeat' split
  all_goals simp

@[simp] theorem from_execMgrBeacon (f : GrtFrame) (s : State) : From s.vault (execMgrBeacon f s) := by simp [execMgrBeacon]

@[simp] theorem vault_beaconTimer (s : State) : (beaconTimer s).vault = s.vault := by simp [beaconTimer]

@[simp] theorem from_execBeaconTimer (s : State) : From s.vault (execBeaconTimer s) := by simp [execBeaconTimer]

@[simp] theorem from_execBeaconLoss (s : State) : From s.vault (execBeaconLoss s) := by simp [execBeaconLoss]

@[simp] theorem from_execEnumerationStart (s : State) : From s.vault (execEnumerationStart s) := by simp [execEnumerationStart]

@[simp] theorem from_execWalkTimeout (s : State) : From s.vault (execWalkTimeout s) := by
  unfold execWalkTimeout
  split <;> simp

@[simp] theorem vault_sendToken (s : State) (t : Token) (x2 : Nat) : (sendToken s t x2).vault = s.vault := by
  fun_induction sendToken s t x2 <;> simp [*]

@[simp] theorem vault_barrierStatus (s : State) (passed : Nat) : (barrierStatus s passed).2.vault = s.vault := by simp [barrierStatus]

@[simp] theorem vault_endBarrier (s : State) (t : Token) : (endBarrier s t).vault = s.vault := by
  unfold endBarrier
  split <;> simp

@[simp] theorem vault_passToken (s : State) (t : Token) : (passToken s t).vault = s.vault := by simp [passToken]

@[simp] theorem from_execBarrierToken (f : GrtFrame) (s : State) : From s.vault (execBarrierToken f s) := by simp [execBarrierToken]

@[simp] theorem from_execBarrierTokenRelease (s : State) : From s.vault (execBarrierTokenRelease s) := by simp [execBarrierTokenRelease]

@[simp] theorem vault_noteRate (s : State) (n : Nat) (p : Nat) (v : Nat) : (noteRate s n p v).vault = s.vault := by simp [noteRate]

@[simp] theorem from_execEvent (f : GrtFrame) (s : State) : From s.vault (execEvent f s) := by simp [execEvent]

@[simp] theorem from_bodyRingStatus (_c : Cmd) (s : State) : (bodyRingStatus _c s).From s.vault := by simp [bodyRingStatus]

@[simp] theorem from_execRingStatus (d : Desc) (s : State) : From s.vault (execRingStatus d s) := from_cmdRow fun c t => by simp

@[simp] theorem from_bodyRingCfg (c : Cmd) (s : State) : (bodyRingCfg c s).From s.vault := by simp [bodyRingCfg]

@[simp] theorem from_execRingCfg (d : Desc) (s : State) : From s.vault (execRingCfg d s) := from_cmdRow fun c t => by simp

@[simp] theorem from_bodyLinkCfg (c : Cmd) (s : State) : (bodyLinkCfg c s).From s.vault := by simp [bodyLinkCfg]

@[simp] theorem from_execLinkCfg (d : Desc) (s : State) : From s.vault (execLinkCfg d s) := from_cmdRow fun c t => by simp

@[simp] theorem from_bodyPlcaCfg (c : Cmd) (s : State) : (bodyPlcaCfg c s).From s.vault := by simp [bodyPlcaCfg]

@[simp] theorem from_execPlcaCfg (d : Desc) (s : State) : From s.vault (execPlcaCfg d s) := from_cmdRow fun c t => by simp

@[simp] theorem from_bodyBarrier (c : Cmd) (s : State) : (bodyBarrier c s).From s.vault := by simp [bodyBarrier]

@[simp] theorem from_execBarrier (d : Desc) (s : State) : From s.vault (execBarrier d s) := from_cmdRow fun c t => by simp

@[simp] theorem from_bodyRingReset (_c : Cmd) (s : State) : (bodyRingReset _c s).From s.vault := by simp [bodyRingReset]

@[simp] theorem from_execRingReset (d : Desc) (s : State) : From s.vault (execRingReset d s) := from_cmdRow fun c t => by simp

@[simp] theorem vault_setMacsec (s : State) (p : Nat) (m : Macsec) : (setMacsec s p m).vault = s.vault := by simp [setMacsec]

@[simp] theorem from_bodyMacsecSaAdd (c : Cmd) (s : State) : (bodyMacsecSaAdd c s).From s.vault := by simp [bodyMacsecSaAdd]

@[simp] theorem evolves_wipeKeyBulk {v : Vault} (s : State) (d : Desc) (h : v.Evolves s.vault) : v.Evolves (wipeKeyBulk s d).vault := by
  simp [wipeKeyBulk, h]

@[simp] theorem from_execMacsecSaAdd (d : Desc) (s : State) : From s.vault (execMacsecSaAdd d s) := by
  have hrun : s.vault.Evolves (runCmd iMacsecSaAdd d bodyMacsecSaAdd s).vault := evolves_runCmd (.refl _) fun c t => by simp
  rw [execMacsecSaAdd, from_ite]
  exact ⟨fun _ => from_next.2 (evolves_vault_ite (evolves_wipeKeyBulk _ _ hrun) hrun), fun _ => trivial⟩

@[simp] theorem from_bodyMacsecTxAn (c : Cmd) (s : State) : (bodyMacsecTxAn c s).From s.vault := by simp [bodyMacsecTxAn]

@[simp] theorem from_execMacsecTxAn (d : Desc) (s : State) : From s.vault (execMacsecTxAn d s) := from_cmdRow fun c t => by simp

@[simp] theorem from_bodyMacsecSaDel (c : Cmd) (s : State) : (bodyMacsecSaDel c s).From s.vault := by simp [bodyMacsecSaDel]

@[simp] theorem from_execMacsecSaDel (d : Desc) (s : State) : From s.vault (execMacsecSaDel d s) := from_cmdRow fun c t => by simp

@[simp] theorem from_bodyMacsecCfg (c : Cmd) (s : State) : (bodyMacsecCfg c s).From s.vault := by simp [bodyMacsecCfg]

@[simp] theorem from_execMacsecCfg (d : Desc) (s : State) : From s.vault (execMacsecCfg d s) := from_cmdRow fun c t => by simp

@[simp] theorem from_bodyMacsecStatus (c : Cmd) (s : State) : (bodyMacsecStatus c s).From s.vault := by simp [bodyMacsecStatus]

@[simp] theorem from_execMacsecStatus (d : Desc) (s : State) : From s.vault (execMacsecStatus d s) := from_cmdRow fun c t => by simp

@[simp] theorem from_bodyPortCfg (c : Cmd) (s : State) : (bodyPortCfg c s).From s.vault := by simp [bodyPortCfg]

@[simp] theorem from_execPortCfg (d : Desc) (s : State) : From s.vault (execPortCfg d s) := from_cmdRow fun c t => by simp

@[simp] theorem from_bodyFdbWrite (c : Cmd) (s : State) : (bodyFdbWrite c s).From s.vault := by
  simp only [bodyFdbWrite]
  split <;> simp

@[simp] theorem from_execFdbWrite (d : Desc) (s : State) : From s.vault (execFdbWrite d s) := from_cmdRow fun c t => by simp

@[simp] theorem from_bodyFdbDelete (c : Cmd) (s : State) : (bodyFdbDelete c s).From s.vault := by simp [bodyFdbDelete]

@[simp] theorem from_execFdbDelete (d : Desc) (s : State) : From s.vault (execFdbDelete d s) := from_cmdRow fun c t => by simp

@[simp] theorem from_bodyFdbRead (c : Cmd) (s : State) : (bodyFdbRead c s).From s.vault := by simp [bodyFdbRead]

@[simp] theorem from_execFdbRead (d : Desc) (s : State) : From s.vault (execFdbRead d s) := from_cmdRow fun c t => by simp

@[simp] theorem from_bodyFdbFlush (c : Cmd) (s : State) : (bodyFdbFlush c s).From s.vault := by simp [bodyFdbFlush]

@[simp] theorem from_execFdbFlush (d : Desc) (s : State) : From s.vault (execFdbFlush d s) := from_cmdRow fun c t => by simp

@[simp] theorem from_bodyDsetWrite (c : Cmd) (s : State) : (bodyDsetWrite c s).From s.vault := by simp [bodyDsetWrite]

@[simp] theorem from_execDsetWrite (d : Desc) (s : State) : From s.vault (execDsetWrite d s) := from_cmdRow fun c t => by simp

@[simp] theorem from_bodyStreamWrite (c : Cmd) (s : State) : (bodyStreamWrite c s).From s.vault := by simp [bodyStreamWrite]

@[simp] theorem from_execStreamWrite (d : Desc) (s : State) : From s.vault (execStreamWrite d s) := from_cmdRow fun c t => by simp

@[simp] theorem from_bodyStreamRead (c : Cmd) (s : State) : (bodyStreamRead c s).From s.vault := by simp [bodyStreamRead]

@[simp] theorem from_execStreamRead (d : Desc) (s : State) : From s.vault (execStreamRead d s) := from_cmdRow fun c t => by simp

@[simp] theorem from_bodyLimitSet (c : Cmd) (s : State) : (bodyLimitSet c s).From s.vault := by simp [bodyLimitSet]

@[simp] theorem from_execLimitSet (d : Desc) (s : State) : From s.vault (execLimitSet d s) := from_cmdRow fun c t => by simp

@[simp] theorem from_bodyPoolSet (c : Cmd) (s : State) : (bodyPoolSet c s).From s.vault := by simp [bodyPoolSet]

@[simp] theorem from_execPoolSet (d : Desc) (s : State) : From s.vault (execPoolSet d s) := from_cmdRow fun c t => by simp

@[simp] theorem from_bodyAgeSet (c : Cmd) (s : State) : (bodyAgeSet c s).From s.vault := by simp [bodyAgeSet]

@[simp] theorem from_execAgeSet (d : Desc) (s : State) : From s.vault (execAgeSet d s) := from_cmdRow fun c t => by simp

@[simp] theorem vault_canaryLeave (s : State) (r : Nat) : (canaryLeave s r).vault = s.vault := by simp [canaryLeave]

@[simp] theorem from_bodyCanarySet (c : Cmd) (s : State) : (bodyCanarySet c s).From s.vault := by simp [bodyCanarySet]

@[simp] theorem from_execCanarySet (d : Desc) (s : State) : From s.vault (execCanarySet d s) := from_cmdRow fun c t => by simp

@[simp] theorem from_bodySchedSet (c : Cmd) (s : State) : (bodySchedSet c s).From s.vault := by simp [bodySchedSet]

@[simp] theorem from_execSchedSet (d : Desc) (s : State) : From s.vault (execSchedSet d s) := from_cmdRow fun c t => by simp

@[simp] theorem from_bodyRosterSet (c : Cmd) (s : State) : (bodyRosterSet c s).From s.vault := by simp [bodyRosterSet]

@[simp] theorem from_execRosterSet (d : Desc) (s : State) : From s.vault (execRosterSet d s) := from_cmdRow fun c t => by simp

@[simp] theorem from_bodyRosterRead (c : Cmd) (s : State) : (bodyRosterRead c s).From s.vault := by simp [bodyRosterRead]

@[simp] theorem from_execRosterRead (d : Desc) (s : State) : From s.vault (execRosterRead d s) := from_cmdRow fun c t => by simp

@[simp] theorem from_bodySampleCfg (c : Cmd) (s : State) : (bodySampleCfg c s).From s.vault := by
  unfold bodySampleCfg
  split <;> simp

@[simp] theorem from_execSampleCfg (d : Desc) (s : State) : From s.vault (execSampleCfg d s) := from_cmdRow fun c t => by simp

@[simp] theorem from_bodySampleRead (c : Cmd) (s : State) : (bodySampleRead c s).From s.vault := by
  unfold bodySampleRead
  split <;> simp

@[simp] theorem from_execSampleRead (d : Desc) (s : State) : From s.vault (execSampleRead d s) := from_cmdRow fun c t => by simp

@[simp] theorem from_bodyEvqSet (c : Cmd) (s : State) : (bodyEvqSet c s).From s.vault := by
  simp only [bodyEvqSet]
  repeat' split
  all_goals simp

@[simp] theorem from_execEvqSet (d : Desc) (s : State) : From s.vault (execEvqSet d s) := from_cmdRow fun c t => by simp

@[simp] theorem from_bodyEvtCfg (c : Cmd) (s : State) : (bodyEvtCfg c s).From s.vault := by simp [bodyEvtCfg]

@[simp] theorem from_execEvtCfg (d : Desc) (s : State) : From s.vault (execEvtCfg d s) := from_cmdRow fun c t => by simp

@[simp] theorem from_bodyEvtStatus (c : Cmd) (s : State) : (bodyEvtStatus c s).From s.vault := by simp [bodyEvtStatus]

@[simp] theorem from_execEvtStatus (d : Desc) (s : State) : From s.vault (execEvtStatus d s) := from_cmdRow fun c t => by simp

@[simp] theorem vault_rcvClear (s : State) (a : Nat) : (rcvClear s a).vault = s.vault := (rfl)

@[simp] theorem vault_attRegWrite (s : State) (a : Nat) (k : Nat) (v : Nat) : (attRegWrite s a k v).vault = s.vault := by simp [attRegWrite]

@[simp] theorem vault_faultClear (s : State) (p : Nat) : (faultClear s p).vault = s.vault := (rfl)

@[simp] theorem vault_evqHeadReg (s : State) (p : Nat) (v : Nat) : (evqHeadReg s p v).vault = s.vault := by simp [evqHeadReg]

@[simp] theorem vault_evqCtrlReg (s : State) (p : Nat) (v : Nat) : (evqCtrlReg s p v).vault = s.vault := by simp [evqCtrlReg]

@[simp] theorem vault_ctrlRegWrite (s : State) (p : Nat) (off : Nat) (v : Nat) : (ctrlRegWrite s p off v).vault = s.vault := by simp [ctrlRegWrite]

@[simp] theorem vault_ctrlRead (s : State) (p : Nat) (off : Nat) (len : Nat) : (ctrlRead s p off len).s.vault = s.vault := by
  simp only [ctrlRead]
  repeat' split
  all_goals simp

@[simp] theorem vault_ctrlWrite (s : State) (p : Nat) (off : Nat) (d : List Byte) : (ctrlWrite s p off d).s.vault = s.vault := by
  simp only [ctrlWrite]
  repeat' split
  all_goals simp

@[simp] theorem vault_mendWords (s : State) (space : Nat) (off : Nat) (len : Nat) : (mendWords s space off len).vault = s.vault := by simp [mendWords]

@[simp] theorem vault_memAns (s : State) (space : Nat) (off : Nat) (len : Nat) (d : List Byte) : (memAns s space off len d).s.vault = s.vault := by simp [memAns]

@[simp] theorem vault_spaceRead (s : State) (a : Acc) (p : Nat) (space : Nat) (off : Nat) (len : Nat) : (spaceRead s a p space off len).s.vault = s.vault := by simp [spaceRead]

@[simp] theorem evolves_spaceWrite {v : Vault} (s : State) (a : Acc) (p space off : Nat) (d : List Byte) (h : v.Evolves s.vault) :
    v.Evolves (spaceWrite s a p space off d).s.vault := by
  have hddr : v.Evolves ({ s with island := { s.island with ddr := memWrite s.island.ddr off d } } : State).vault :=
    h.trans ⟨id, List.prefix_rfl, Nat.le_refl _, fun ⟨hs, hd⟩ => ⟨hs, memWrite_wf _ _ _ hd⟩⟩
  unfold spaceWrite
  refine evolves_ans_ite (h.of_eq (vault_ctrlWrite ..)) (evolves_ans_ite (h.of_eq (vault_mbxWrite ..))
    (evolves_ans_ite (h.of_eq (vault_cycleWrite ..)) (evolves_ans_ite (h.of_eq (vault_queueWrite ..)) (evolves_ans_ite
    (evolves_ans_ite ((evolves_sramWrite h).of_eq (vault_mendWords ..)) h) (evolves_ans_ite (h.of_eq (vault_timeWrite ..))
    (evolves_ans_ite (hddr.of_eq (vault_mendWords ..)) h))))))

@[simp] theorem vault_setLocks (s : State) (l : List Lock) : (State.setLocks s l).vault = s.vault := (rfl)

@[simp] theorem evolves_guard {v : Vault} {s : State} {t : Tx} {r : Ans} (hs : v.Evolves s.vault) (hr : v.Evolves r.s.vault) :
    v.Evolves (guard s t r).s.vault :=
  evolves_ans_ite hs (evolves_ans_ite hs hr)

@[simp] theorem vault_guard {s : State} {t : Tx} {r : Ans} (hr : r.s.vault = s.vault) : (guard s t r).s.vault = s.vault := by
  simp [guard, hr]

@[simp] theorem vault_serveLockRead (s : State) (t : Tx) : (serveLockRead s t).s.vault = s.vault := by simp [serveLockRead]

@[simp] theorem evolves_serveUnlock {v : Vault} (s : State) (t : Tx) (h : v.Evolves s.vault) : v.Evolves (serveUnlock s t).s.vault := by
  have hr : v.Evolves (guard s t (if t.len = 0 then spaceRead s t.a t.p t.addr.space t.addr.off 1
      else spaceWrite s t.a t.p t.addr.space t.addr.off t.d)).s.vault :=
    evolves_guard h (evolves_ans_ite (h.of_eq (vault_spaceRead ..)) (evolves_spaceWrite _ _ _ _ _ _ h))
  simp only [serveUnlock]
  refine evolves_ans_ite h ?_
  split
  · exact h
  · exact evolves_ans_ite h (hr.of_eq (vault_setLocks ..))

@[simp] theorem vault_serveRead (s : State) (t : Tx) : (serveRead s t).s.vault = s.vault := by simp [serveRead]

@[simp] theorem evolves_serveWrite {v : Vault} (s : State) (t : Tx) (h : v.Evolves s.vault) : v.Evolves (serveWrite s t).s.vault := by
  have hr : v.Evolves (guard s t (spaceWrite s t.a t.p t.addr.space t.addr.off t.d)).s.vault :=
    evolves_guard h (evolves_spaceWrite _ _ _ _ _ _ h)
  simp only [serveWrite]
  refine evolves_ans_ite hr (evolves_ans_ite (evolves_ans_ite hr (h.of_eq ?_)) h)
  simp

@[simp] theorem evolves_serveTx {v : Vault} (s : State) (t : Tx) (h : v.Evolves s.vault) : v.Evolves (serveTx s t).s.vault := by
  simp only [serveTx]
  refine evolves_ans_ite h (evolves_ans_ite h (evolves_ans_ite h (evolves_ans_ite (h.of_eq (vault_holdWord ..)) (evolves_ans_ite
    (h.of_eq (vault_serveLockRead ..)) (evolves_ans_ite (evolves_serveUnlock _ _ h) (evolves_ans_ite (h.of_eq (vault_serveRead ..)) ?_))))))
  exact evolves_serveWrite _ _ h

@[simp] theorem vault_countPosted (r : Ans) : (countPosted r).vault = r.s.vault := vault_countIf ..

@[simp] theorem from_execEvqHeadWrite (a : Acc) (v : Nat) (s : State) : From s.vault (execEvqHeadWrite a v s) := by simp [execEvqHeadWrite]

@[simp] theorem from_execEvqCtrlWrite (a : Acc) (v : Nat) (s : State) : From s.vault (execEvqCtrlWrite a v s) := by simp [execEvqCtrlWrite]

@[simp] theorem from_execFaultFirstClear (a : Acc) (s : State) : From s.vault (execFaultFirstClear a s) := by simp [execFaultFirstClear]

@[simp] theorem from_execRcvStatusClear (a : Acc) (att : Nat) (s : State) : From s.vault (execRcvStatusClear a att s) := by simp [execRcvStatusClear]

@[simp] theorem vault_setBridge (s : State) (x : Bridge) : (State.setBridge s x).vault = s.vault := (rfl)

@[simp] theorem vault_loadRcv (s : State) (att : Nat) (addr : RingAddr) (data : List Byte) (flags : Nat) (late : Bool) (unc : Bool) (notice : Bool) : (loadRcv s att addr data flags late unc notice).vault = s.vault := by simp [loadRcv]

@[simp] theorem vault_freeFlags (s : State) : (freeFlags s).2.vault = s.vault := (rfl)

@[simp] theorem vault_sendOut (s : State) (dmac : Nat) (h : GrtHdr) (d : List Byte) : (sendOut s dmac h d).vault = s.vault := by simp [sendOut]

@[simp] theorem vault_drainCpl (n : Nat) (s : State) : (drainCpl n s).vault = s.vault := by
  induction n generalizing s with
  | zero => rfl
  | succ n ih =>
    rw [drainCpl]
    split
    · rfl
    · dsimp only
      refine vault_ite_of rfl ((ih _).trans ?_)
      split <;> simp

@[simp] theorem vault_sendCpl (s : State) (c : OutCpl) : (sendCpl s c).vault = s.vault := by simp [sendCpl]

@[simp] theorem vault_hostCpl (s : State) (r : OutReq) (st : Nat) (d : List Byte) : (hostCpl s r st d).vault = s.vault := by simp [hostCpl]

@[simp] theorem vault_portReply (s : State) (att : Nat) (len : Nat) (st : Nat) (d : List Byte) : (portReply s att len st d).vault = s.vault := by simp [portReply]

@[simp] theorem vault_replyTo (s : State) (r : OutReq) (st : Nat) (d : List Byte) : (replyTo s r st d).vault = s.vault := by simp [replyTo]

@[simp] theorem vault_partDone (s : State) (r : OutReq) (st : Nat) (d : List Byte) : (partDone s r st d).vault = s.vault := by
  simp only [partDone]
  repeat' split
  all_goals simp

@[simp] theorem vault_keepPop (s : State) (r : OutReq) (st : Nat) (d : List Byte) (popped : Option (Nat × Nat)) : (keepPop s r st d popped).vault = s.vault := by
  simp only [keepPop]
  repeat' split
  all_goals simp

@[simp] theorem vault_endReq (s : State) (r : OutReq) (st : Nat) (d : List Byte) (popped : Option (Nat × Nat)) : (endReq s r st d popped).vault = s.vault := by simp [endReq]

@[simp] theorem vault_waitRetry (s : State) (r : OutReq) : (waitRetry s r).vault = s.vault := (rfl)

@[simp] theorem evolves_localUnlock {v₀ : Vault} (s : State) (r : OutReq) (old : List Byte) (h : v₀.Evolves s.vault) : v₀.Evolves (localUnlock s r old).vault := by simp [localUnlock, h]

@[simp] theorem evolves_localTry {v : Vault} (s : State) (r : OutReq) (h : v.Evolves s.vault) : v.Evolves (localTry s r).vault := by
  have ha := evolves_serveTx s r.tx h
  simp only [localTry]
  refine evolves_vault_ite ha (evolves_vault_ite (ha.of_eq (vault_waitRetry ..)) (evolves_vault_ite (evolves_localUnlock _ _ _ ha) ?_))
  exact ha.of_eq (by simp)

@[simp] theorem vault_issue (s : State) (r : OutReq) (tag : Nat) : (issue s r tag).vault = s.vault := by simp [issue]

@[simp] theorem vault_npSubmit (s : State) (r : OutReq) : (npSubmit s r).vault = s.vault := by
  unfold npSubmit
  split <;> simp

@[simp] theorem vault_npRun (s : State) : (npRun s).vault = s.vault := by
  simp only [npRun]
  repeat' split
  all_goals simp

@[simp] theorem vault_sendPosted (s : State) (w : Posted) : (sendPosted s w).vault = s.vault := by simp [sendPosted]

@[simp] theorem vault_postedSubmit (s : State) (r : OutReq) : (postedSubmit s r).vault = s.vault := by simp [postedSubmit]

@[simp] theorem vault_postedRun (s : State) : (postedRun s).vault = s.vault := by
  unfold postedRun
  split <;> simp

@[simp] theorem vault_bcastRefused (s : State) : (bcastRefused s).vault = s.vault := by simp [bcastRefused]

@[simp] theorem evolves_broadcast {v₀ : Vault} (s : State) (r : OutReq) (h : v₀.Evolves s.vault) : v₀.Evolves (broadcast s r).vault := by simp [broadcast, h]

@[simp] theorem evolves_route {v₀ : Vault} (s : State) (r : OutReq) (h : v₀.Evolves s.vault) : v₀.Evolves (route s r).vault := by simp [route, h]

@[simp] theorem vault_countAccess (s : State) (r : OutReq) : (countAccess s r).vault = s.vault := (rfl)

@[simp] theorem evolves_accept {v₀ : Vault} (s : State) (r : OutReq) (h : v₀.Evolves s.vault) : v₀.Evolves (accept s r).vault := by simp [accept, h]

@[simp] theorem vault_answered (s : State) (r : OutReq) (st : Nat) (d : List Byte) : (answered s r st d).vault = s.vault := by simp [answered]

@[simp] theorem vault_retire (s : State) (r : OutReq) (rest : List OutReq) : (retire s r rest).vault = s.vault := (rfl)

@[simp] theorem vault_completionIn (s : State) (h : GrtHdr) (d : List Byte) : (completionIn s h d).vault = s.vault := by
  simp only [completionIn]
  repeat' split
  all_goals simp

@[simp] theorem from_execCompletion (f : GrtFrame) (s : State) : From s.vault (execCompletion f s) := by simp [execCompletion]

@[simp] theorem vault_timeoutReq (s : State) (tag : Nat) : (timeoutReq s tag).vault = s.vault := by
  unfold timeoutReq
  split <;> simp

@[simp] theorem vault_timeoutBarriers (s : State) : (timeoutBarriers s).vault = s.vault := by simp [timeoutBarriers]

@[simp] theorem from_execGrtTimeout (tag : Nat) (s : State) : From s.vault (execGrtTimeout tag s) := by simp [execGrtTimeout]

@[simp] theorem evolves_retryReq {v₀ : Vault} (s : State) (tag : Nat) (h : v₀.Evolves s.vault) : v₀.Evolves (retryReq s tag).vault := by
  simp only [retryReq]
  repeat' split
  all_goals simp [h]

@[simp] theorem from_execLockRetry (tag : Nat) (s : State) : From s.vault (execLockRetry tag s) := by simp [execLockRetry]

@[simp] theorem from_execLockTimeoutExpiry (space : Nat) (gran : Nat) (s : State) : From s.vault (execLockTimeoutExpiry space gran s) := by
  unfold execLockTimeoutExpiry
  split <;> simp

@[simp] theorem from_execNpRequestIssue (s : State) : From s.vault (execNpRequestIssue s) := by simp [execNpRequestIssue]

@[simp] theorem from_execPostedWriteIssue (s : State) : From s.vault (execPostedWriteIssue s) := by simp [execPostedWriteIssue]

@[simp] theorem evolves_serveNode {v : Vault} (s : State) (f : GrtFrame) (h : v.Evolves s.vault) : v.Evolves (serveNode s f).vault := by
  have ha := evolves_serveTx s (nodeTx f) h
  simp only [serveNode]
  refine evolves_vault_ite (evolves_vault_ite (evolves_vault_ite (evolves_vault_ite ha (ha.of_eq (vault_bcastRefused ..)))
    (h.of_eq (vault_bcastRefused ..))) (ha.of_eq (vault_countPosted ..))) (evolves_vault_ite ha (ha.of_eq (vault_sendCpl ..)))

@[simp] theorem evolves_serveHost {v : Vault} (s : State) (e : Nat) (f : GrtFrame) (h : v.Evolves s.vault) : v.Evolves (serveHost s e f).vault := by
  simp only [serveHost]
  refine evolves_vault_ite (h.of_eq (vault_count ..)) ?_
  split
  · exact evolves_accept _ _ (h.of_eq (vault_setBridge ..))
  · exact evolves_accept _ _ h

@[simp] theorem evolves_rescueIn {v₀ : Vault} (s : State) (t : Nat) (f : GrtFrame) (h : v₀.Evolves s.vault) : v₀.Evolves (rescueIn s t f).vault := by simp [rescueIn, h]

@[simp] theorem from_requestIn (t : Nat) (f : GrtFrame) (s : State) : From s.vault (requestIn t f s) := by
  rw [requestIn, from_next]
  refine evolves_vault_ite (evolves_rescueIn _ _ _ (.refl _)) (evolves_vault_ite (evolves_serveTx _ _ (.refl _))
    (evolves_grtServe (fun s => evolves_vault_ite (evolves_serveNode _ _ (.refl _)) ?_) (.refl _)))
  split
  · exact evolves_serveHost _ _ _ (.refl _)
  · simp

@[simp] theorem from_execRead (f : GrtFrame) (s : State) : From s.vault (execRead f s) := by simp [execRead]

@[simp] theorem from_execWriteP (f : GrtFrame) (s : State) : From s.vault (execWriteP f s) := by simp [execWriteP]

@[simp] theorem from_execWriteNp (f : GrtFrame) (s : State) : From s.vault (execWriteNp f s) := by simp [execWriteNp]

@[simp] theorem from_execLockRead (f : GrtFrame) (s : State) : From s.vault (execLockRead f s) := by simp [execLockRead]

@[simp] theorem from_execWriteUnlock (f : GrtFrame) (s : State) : From s.vault (execWriteUnlock f s) := by simp [execWriteUnlock]

theorem evolves_registerWrite {v : Vault} {a : Acc} {p : Nat} {addr : RingAddr} {data : List Byte} {s t : State} (hs : v.Evolves s.vault)
    (ht : v.Evolves t.vault) : v.Evolves (registerWrite a p addr data s t).s.vault := by
  unfold registerWrite
  refine evolves_ans_ite (evolves_serveTx _ _ ht) ?_
  split
  · exact evolves_accept _ _ hs
  · exact hs

@[simp] theorem from_execRegisterWrite (a : Acc) (addr : RingAddr) (data : List Byte) (s : State) :
    From s.vault (execRegisterWrite a addr data s) := by
  have harr : s.vault.Evolves (s.arrived a cAttWrites).vault := by simp
  rw [execRegisterWrite, from_next, accessAs]
  split
  · exact .refl _
  · exact evolves_ans_ite (evolves_registerWrite (.refl _) harr) harr

@[simp] theorem vault_sendHeld (s : State) (fn : Nat) : (sendHeld s fn).vault = s.vault := by simp [sendHeld]

@[simp] theorem vault_msixWrite (s : State) (fn : Nat) (off : Nat) (d : List Byte) : (msixWrite s fn off d).vault = s.vault := by simp [msixWrite]

@[simp] theorem evolves_bar0Read {v₀ : Vault} (s : State) (fn : Nat) (p : Nat) (off : Nat) (len : Nat) (h : v₀.Evolves s.vault) : v₀.Evolves (bar0Read s fn p off len).vault := by
  unfold bar0Read
  split <;> simp [h]

@[simp] theorem evolves_bar2Read {v₀ : Vault} (s : State) (fn : Nat) (p : Nat) (off : Nat) (len : Nat) (h : v₀.Evolves s.vault) : v₀.Evolves (bar2Read s fn p off len).vault := by
  simp only [bar2Read]
  repeat' split
  all_goals simp [h]

@[simp] theorem from_execPcieMemRead (att : Nat) (bar : Nat) (off : Nat) (len : Nat) (s : State) : From s.vault (execPcieMemRead att bar off len s) := by
  simp only [execPcieMemRead]
  repeat' split
  all_goals simp

@[simp] theorem evolves_bar0Write {v₀ : Vault} (s : State) (fn : Nat) (p : Nat) (off : Nat) (d : List Byte) (h : v₀.Evolves s.vault) : v₀.Evolves (bar0Write s fn p off d).vault := by
  unfold bar0Write
  split <;> simp [h]

@[simp] theorem evolves_bar2Write {v₀ : Vault} (s : State) (fn : Nat) (p : Nat) (off : Nat) (d : List Byte) (h : v₀.Evolves s.vault) : v₀.Evolves (bar2Write s fn p off d).vault := by simp [bar2Write, h]

@[simp] theorem from_execPcieMemWrite (att : Nat) (bar : Nat) (off : Nat) (data : List Byte) (s : State) : From s.vault (execPcieMemWrite att bar off data s) := by
  simp only [execPcieMemWrite]
  repeat' split
  all_goals simp

@[simp] theorem evolves_pcieAtomicRun {v₀ : Vault} (s : State) (fn : Nat) (p : Nat) (bar : Nat) (off : Nat) (op : Nat) (d : List Byte) (h : v₀.Evolves s.vault) : v₀.Evolves (pcieAtomicRun s fn p bar off op d).vault := by
  simp only [pcieAtomicRun]
  repeat' split
  all_goals simp [h]

@[simp] theorem from_execPcieAtomic (att : Nat) (bar : Nat) (off : Nat) (op : Nat) (data : List Byte) (s : State) : From s.vault (execPcieAtomic att bar off op data s) := by
  simp only [execPcieAtomic]
  repeat' split
  all_goals simp

@[simp] theorem vault_cutAtt (s : State) (a : Nat) : (cutAtt s a).vault = s.vault := (rfl)

@[simp] theorem vault_recoverPop (s : State) (fn : Nat) : (recoverPop s fn).vault = s.vault := by
  unfold recoverPop
  split <;> simp

@[simp] theorem vault_pcieDown (s : State) (fn : Nat) (cause : Nat) : (pcieDown s fn cause).vault = s.vault := by simp [pcieDown]

@[simp] theorem from_execPcieLinkDown (att : Nat) (cause : Nat) (s : State) : From s.vault (execPcieLinkDown att cause s) := by simp [execPcieLinkDown]

@[simp] theorem from_execPcieLinkUp (att : Nat) (s : State) : From s.vault (execPcieLinkUp att s) := by simp [execPcieLinkUp]

@[simp] theorem vault_spiUp (s : State) (a : Nat) : (spiUp s a).vault = s.vault := (rfl)

@[simp] theorem evolves_spiFrame {v₀ : Vault} (s : State) (cs : Nat) (cmd : Nat) (addr : RingAddr) (len : Nat) (spec : Bool) (d : List Byte) (cut : Bool) (h : v₀.Evolves s.vault) : v₀.Evolves (spiFrame s cs cmd addr len spec d cut).vault := by
  simp only [spiFrame]
  repeat' split
  all_goals simp [h]

@[simp] theorem from_spiRow (cs : Nat) (cmd : Nat) (addr : RingAddr) (len : Nat) (spec : Bool) (d : List Byte) (s : State) : From s.vault (spiRow cs cmd addr len spec d s) := by simp [spiRow]

@[simp] theorem from_execSpiRead (cs : Nat) (addr : RingAddr) (len : Nat) (spec : Bool) (s : State) : From s.vault (execSpiRead cs addr len spec s) := by simp [execSpiRead]

@[simp] theorem from_execSpiWrite (cs : Nat) (addr : RingAddr) (data : List Byte) (s : State) : From s.vault (execSpiWrite cs addr data s) := by simp [execSpiWrite]

@[simp] theorem from_execSpiWriteNp (cs : Nat) (addr : RingAddr) (data : List Byte) (s : State) : From s.vault (execSpiWriteNp cs addr data s) := by simp [execSpiWriteNp]

@[simp] theorem from_execSpiFetchadd (cs : Nat) (addr : RingAddr) (data : List Byte) (s : State) : From s.vault (execSpiFetchadd cs addr data s) := by simp [execSpiFetchadd]

@[simp] theorem from_execSpiSwap (cs : Nat) (addr : RingAddr) (data : List Byte) (s : State) : From s.vault (execSpiSwap cs addr data s) := by simp [execSpiSwap]

@[simp] theorem from_execSpiCas (cs : Nat) (addr : RingAddr) (data : List Byte) (s : State) : From s.vault (execSpiCas cs addr data s) := by simp [execSpiCas]

@[simp] theorem from_execSpiShort (cs : Nat) (cmd : Nat) (addr : Option RingAddr) (len : Nat) (spec : Bool) (data : List Byte) (s : State) : From s.vault (execSpiShort cs cmd addr len spec data s) := by
  simp only [execSpiShort]
  repeat' split
  all_goals simp

@[simp] theorem from_execSpiCsIdleTimeout (cs : Nat) (s : State) : From s.vault (execSpiCsIdleTimeout cs s) := by simp [execSpiCsIdleTimeout]

@[simp] theorem vault_attPop (s : State) (a : Acc) (n : Nat) (p : Nat) (q : Nat) (len : Nat) : (attPop s a n p q len).vault = s.vault := by simp [attPop]

@[simp] theorem from_execPop (a : Acc) (q : Nat) (len : Nat) (s : State) : From s.vault (execPop a q len s) := by
  simp only [execPop]
  repeat' split
  all_goals simp

@[simp] theorem vault_writeRecord (s : State) (r : BootRec) : (writeRecord s r).vault = s.vault := by simp [writeRecord]

@[simp] theorem vault_logAdd (s : State) (kind : Nat) (detail : List Byte) : (logAdd s kind detail).vault = s.vault := by simp [logAdd]

/-- A reset of the main die empties space 4 at most. -/
theorem evolves_reset {v : Vault} {s t : State} (h : v.Evolves s.vault) (ha : t.assay = s.assay) (hs : t.island.sram = [])
    (hd : t.island.ddr = s.island.ddr ∨ t.island.ddr = []) : v.Evolves t.vault := by
  refine h.trans ⟨?_, ?_, ?_, fun ⟨_, hwf⟩ => ?_⟩
  · rw [State.vault, State.vault, ha]
    exact id
  · have haudit : t.vault.audit = s.vault.audit := congrArg Assay.audit ha
    exact haudit.symm ▸ List.prefix_refl s.vault.audit
  · exact Nat.le_of_eq (congrArg Assay.nextSeq ha.symm)
  · simp only [Vault.memoriesWf, State.vault, hs]
    rcases hd with hd | hd
    · exact ⟨rfl, hd ▸ hwf⟩
    · exact ⟨rfl, by rw [hd]; rfl⟩

@[simp] theorem evolves_warmClear {v : Vault} (s : State) (cause : Nat) (h : v.Evolves s.vault) : v.Evolves (warmClear s cause).vault := by
  simp only [warmClear]
  rw [vault_forEach fun p t => vault_restartInput .., vault_count ..]
  exact evolves_reset h rfl rfl (.inl rfl)

@[simp] theorem evolves_doWarm {v₀ : Vault} (s : State) (cause : Nat) (h : v₀.Evolves s.vault) : v₀.Evolves (doWarm s cause).vault := by simp [doWarm, h]

@[simp] theorem evolves_powerOn {v : Vault} (s : State) (cause : Nat) (h : v.Evolves s.vault) : v.Evolves (powerOn s cause).vault := by
  simp only [powerOn]
  exact evolves_reset h rfl rfl (.inr rfl)

@[simp] theorem from_execPowerOnReset (s : State) : From s.vault (execPowerOnReset s) := by simp [execPowerOnReset]

@[simp] theorem from_execResetN (ns : Nat) (s : State) : From s.vault (execResetN ns s) := by
  simp only [execResetN]
  split <;> simp

@[simp] theorem from_execBrownOut (us : Nat) (s : State) : From s.vault (execBrownOut us s) := by
  unfold execBrownOut
  split <;> simp

@[simp] theorem evolves_dueReset {v : Vault} (s : State) (h : v.Evolves s.vault) : v.Evolves (dueReset s).vault := by
  unfold dueReset
  split
  · exact evolves_vault_ite (evolves_doWarm _ _ h) h
  · exact h

@[simp] theorem vault_enterRescue (s : State) : (enterRescue s).vault = s.vault := by
  unfold enterRescue
  dsimp only
  rw [vault_logAdd, vault_setFaults, vault_setCtl, vault_setBoot, vault_setPart,
    vault_forEach fun p s => (vault_restartInput ..).trans (vault_setPin ..), vault_allBranchesOff]

@[simp] theorem vault_loadFirmware (s : State) (k : Nat) : (loadFirmware s k).vault = s.vault := by simp [loadFirmware]

@[simp] theorem vault_startSlot (s : State) (k : Nat) (trial : Bool) : (startSlot s k trial).vault = s.vault := by simp [startSlot]

@[simp] theorem vault_revertTrial (s : State) (left : Nat) (started : Nat) : (revertTrial s left started).vault = s.vault := by simp [revertTrial]

@[simp] theorem vault_romBoot (s : State) : (romBoot s).vault = s.vault := by simp [romBoot]

@[simp] theorem from_execBoot (failed : List Nat) (s : State) : From s.vault (execBoot failed s) := by
  have hr : s.vault.Evolves (dueReset s).vault := evolves_dueReset s (.refl _)
  simp [execBoot, hr]

@[simp] theorem from_execRingResetFrame (f : GrtFrame) (s : State) : From s.vault (execRingResetFrame f s) := by
  simp [execRingResetFrame]

@[simp] theorem from_execTrialWindowExpiry (s : State) : From s.vault (execTrialWindowExpiry s) := by
  simp only [execTrialWindowExpiry]
  split <;> simp

@[simp] theorem from_updEnd {v : Vault} {op : Nat} {s : State} {r : CmdRes} (hs : v.Evolves s.vault) (h : r.From v) : (updEnd op s r).From v := by
  cases r with
  | fail => simpa [updEnd] using hs
  | ok | ends | later | silent => simpa [updEnd] using h

@[simp] theorem vault_setSlot (s : State) (typ : Nat) (k : Nat) (x : Slot) : (setSlot s typ k x).vault = s.vault := by simp [setSlot]

@[simp] theorem from_chkAssayUpd {v : Vault} {s : State} {k : CmdRes} (h : k.From v) : (chkAssayUpd s k).From v := by
  simp [chkAssayUpd, h]

@[simp] theorem from_sealedUpd {v : Vault} {s : State} {u : Update} {k : CmdRes} (h : k.From v) : (sealedUpd s u k).From v := by
  simp [sealedUpd, h]

@[simp] theorem from_bodyUpdBegin (c : Cmd) (s : State) : (bodyUpdBegin c s).From s.vault := by simp [bodyUpdBegin]

@[simp] theorem from_execUpdBegin (d : Desc) (s : State) : From s.vault (execUpdBegin d s) := from_cmdRow fun c t => by simp

@[simp] theorem from_bodyUpdData (c : Cmd) (s : State) : (bodyUpdData c s).From s.vault := by
  unfold bodyUpdData
  split <;> simp

@[simp] theorem from_execUpdData (d : Desc) (s : State) : From s.vault (execUpdData d s) := from_cmdRow fun c t => by simp

@[simp] theorem from_bodyUpdVerify (_c : Cmd) (s : State) : (bodyUpdVerify _c s).From s.vault := by
  unfold bodyUpdVerify
  split <;> simp

@[simp] theorem from_execUpdVerify (d : Desc) (s : State) : From s.vault (execUpdVerify d s) := from_cmdRow fun c t => by simp

@[simp] theorem evolves_activateAssay {v₀ : Vault} (s : State) (u : Update) (h : v₀.Evolves s.vault) : v₀.Evolves (activateAssay s u).vault := by simp [activateAssay, h]

@[simp] theorem from_bodyUpdActivate (c : Cmd) (s : State) : (bodyUpdActivate c s).From s.vault := by
  refine from_updEnd (.refl _) (from_chk.2 fun _ => ?_)
  split
  · next u _ =>
    have ha : s.vault.Evolves (activateAssay s u).vault := evolves_activateAssay _ _ (.refl _)
    refine from_chk.2 fun _ => from_cmd_ite.2 ⟨fun _ => from_chkAssayUpd (from_okS.2 ?_), fun _ => from_okS.2 ?_⟩
    · exact evolves_vault_ite (ha.of_eq (vault_setBoot ..)) ha
    · simp
  · trivial

@[simp] theorem from_execUpdActivate (d : Desc) (s : State) : From s.vault (execUpdActivate d s) := from_cmdRow fun c t => by simp

@[simp] theorem from_bodyUpdConfirm (_c : Cmd) (s : State) : (bodyUpdConfirm _c s).From s.vault := by simp [bodyUpdConfirm]

@[simp] theorem from_execUpdConfirm (d : Desc) (s : State) : From s.vault (execUpdConfirm d s) := from_cmdRow fun c t => by simp

@[simp] theorem from_bodyUpdAbort (_c : Cmd) (s : State) : (bodyUpdAbort _c s).From s.vault := by
  unfold bodyUpdAbort
  split <;> simp

@[simp] theorem from_execUpdAbort (d : Desc) (s : State) : From s.vault (execUpdAbort d s) := from_cmdRow fun c t => by simp

@[simp] theorem from_bodyBootInfo (_c : Cmd) (s : State) : (bodyBootInfo _c s).From s.vault := by simp [bodyBootInfo]

@[simp] theorem from_execBootInfo (d : Desc) (s : State) : From s.vault (execBootInfo d s) := from_cmdRow fun c t => by simp

@[simp] theorem from_bodyWarmReset (_c : Cmd) (s : State) : (bodyWarmReset _c s).From s.vault := by simp [bodyWarmReset]

@[simp] theorem from_execWarmReset (d : Desc) (s : State) : From s.vault (execWarmReset d s) := from_cmdRow fun c t => by simp

@[simp] theorem from_bodyDebugUnlock (c : Cmd) (s : State) : (bodyDebugUnlock c s).From s.vault := by
  simp only [bodyDebugUnlock]
  repeat' split
  all_goals simp

@[simp] theorem from_execDebugUnlock (d : Desc) (s : State) : From s.vault (execDebugUnlock d s) := from_cmdRow fun c t => by simp

@[simp] theorem from_bodyLogRead (c : Cmd) (s : State) : (bodyLogRead c s).From s.vault := by simp [bodyLogRead]

@[simp] theorem from_execLogRead (d : Desc) (s : State) : From s.vault (execLogRead d s) := from_cmdRow fun c t => by simp

@[simp] theorem from_readCtrs {c : Cmd} {s : State} {vals : List Nat} {clear : State → State} (h : (clear s).vault = s.vault) :
    (readCtrs c s vals clear).From s.vault := by
  simp [readCtrs, h]

@[simp] theorem from_bodyCountersRead (c : Cmd) (s : State) : (bodyCountersRead c s).From s.vault := by
  unfold bodyCountersRead
  split <;> simp

@[simp] theorem from_execCountersRead (d : Desc) (s : State) : From s.vault (execCountersRead d s) := from_cmdRow fun c t => by simp

@[simp] theorem from_bodyTempRead (_c : Cmd) (s : State) : (bodyTempRead _c s).From s.vault := by simp [bodyTempRead]

@[simp] theorem from_execTempRead (d : Desc) (s : State) : From s.vault (execTempRead d s) := from_cmdRow fun c t => by simp

@[simp] theorem from_bodyCellHeaderRead (c : Cmd) (s : State) : (bodyCellHeaderRead c s).From s.vault := by simp [bodyCellHeaderRead]

@[simp] theorem from_execCellHeaderRead (d : Desc) (s : State) : From s.vault (execCellHeaderRead d s) := from_cmdRow fun c t => by simp

/-- The bodies of a list of command rows let the view evolve. -/
def RowsFrom (l : List CmdRow) : Prop := ∀ r ∈ l, ∀ c t, (r.body c t).From t.vault

theorem rowsFrom_nil : RowsFrom [] := fun _ h => nomatch h

theorem rowsFrom_cons {i : CmdInfo} {b : Cmd → State → CmdRes} {l : List CmdRow} (h : ∀ c t, (b c t).From t.vault) (hl : RowsFrom l) :
    RowsFrom (⟨i, b⟩ :: l) := by
  intro r hr
  rcases List.mem_cons.1 hr with rfl | hr
  · exact h
  · exact hl r hr

theorem rowsFrom_rows01 : RowsFrom rows01 :=
  rowsFrom_cons from_bodyDevInfo <| rowsFrom_cons from_bodyPartCreate <| rowsFrom_cons from_bodyPartDestroy <| rowsFrom_cons
   from_bodyPartReset <| rowsFrom_cons from_bodyPartBind <| rowsFrom_cons from_bodyHostSet <| rowsFrom_cons
   from_bodySramRegionSet <| rowsFrom_cons from_bodyCmdAbort <| rowsFrom_nil

theorem rowsFrom_rows02 : RowsFrom rows02 :=
  rowsFrom_cons from_bodyResAssign <| rowsFrom_cons from_bodyResSubscribe <| rowsFrom_cons from_bodyResUnsubscribe <|
   rowsFrom_cons from_bodyResQuery <| rowsFrom_cons from_bodyResList <| rowsFrom_nil

theorem rowsFrom_rows03 : RowsFrom rows03 :=
  rowsFrom_cons from_bodyRingStatus <| rowsFrom_cons from_bodyRingCfg <| rowsFrom_cons from_bodyLinkCfg <| rowsFrom_cons
   from_bodyPlcaCfg <| rowsFrom_cons from_bodyBarrier <| rowsFrom_cons from_bodyRingReset <| rowsFrom_cons from_bodyMacsecSaAdd
   <| rowsFrom_cons from_bodyMacsecTxAn <| rowsFrom_cons from_bodyMacsecSaDel <| rowsFrom_cons from_bodyMacsecCfg <|
   rowsFrom_cons from_bodyMacsecStatus <| rowsFrom_nil

theorem rowsFrom_rows04 : RowsFrom rows04 :=
  rowsFrom_cons from_bodyPortCfg <| rowsFrom_cons from_bodyFdbWrite <| rowsFrom_cons from_bodyFdbDelete <| rowsFrom_cons
   from_bodyFdbRead <| rowsFrom_cons from_bodyFdbFlush <| rowsFrom_cons from_bodyDsetWrite <| rowsFrom_cons from_bodyStreamWrite
   <| rowsFrom_cons from_bodyStreamRead <| rowsFrom_cons from_bodyLimitSet <| rowsFrom_cons from_bodyPoolSet <| rowsFrom_cons
   from_bodyAgeSet <| rowsFrom_cons from_bodyCanarySet <| rowsFrom_nil

theorem rowsFrom_rows05 : RowsFrom rows05 :=
  rowsFrom_cons from_bodyQConfig <| rowsFrom_cons from_bodyQBind <| rowsFrom_cons from_bodyQFlush <| rowsFrom_cons
   from_bodyQDesc <| rowsFrom_cons from_bodyDmaRingSet <| rowsFrom_cons from_bodyQMap <| rowsFrom_nil

theorem rowsFrom_rows06 : RowsFrom rows06 :=
  rowsFrom_cons from_bodySchedSet <| rowsFrom_cons from_bodyRosterSet <| rowsFrom_cons from_bodyRosterRead <| rowsFrom_cons
   from_bodySampleCfg <| rowsFrom_cons from_bodySampleRead <| rowsFrom_nil

theorem rowsFrom_rows07 : RowsFrom rows07 :=
  rowsFrom_cons from_bodyDomainCfg <| rowsFrom_cons from_bodyPtpPortCfg <| rowsFrom_cons from_bodyStepPermit <| rowsFrom_cons
   from_bodyDomainSwitch <| rowsFrom_cons from_bodyTodSet <| rowsFrom_cons from_bodyPpsCfg <| rowsFrom_cons from_bodyTrigSet <|
   rowsFrom_cons from_bodyTrigRead <| rowsFrom_cons from_bodyCaptSet <| rowsFrom_nil

theorem rowsFrom_rows08 : RowsFrom rows08 :=
  rowsFrom_cons from_bodyCycleStart <| rowsFrom_cons from_bodyCycleStop <| rowsFrom_cons from_bodyImageMapSet <| rowsFrom_cons
   from_bodySegCfg <| rowsFrom_cons from_bodyImageSub <| rowsFrom_cons from_bodyGroupSet <| rowsFrom_cons from_bodyGroupEnable
   <| rowsFrom_cons from_bodyGroupSafeSet <| rowsFrom_cons from_bodyGroupStatus <| rowsFrom_cons from_bodyTwinSet <|
   rowsFrom_cons from_bodyTwinEnable <| rowsFrom_cons from_bodyTwinRearm <| rowsFrom_cons from_bodyTwinTakeover <| rowsFrom_cons
   from_bodyDrill <| rowsFrom_cons from_bodyTwinStatus <| rowsFrom_cons from_bodyTallyRegister <| rowsFrom_nil

theorem rowsFrom_rows09 : RowsFrom rows09 :=
  rowsFrom_cons from_bodyCanCfg <| rowsFrom_cons from_bodyCanMode <| rowsFrom_cons from_bodyCanQueueBind <| rowsFrom_cons
   from_bodyCanTxBuf <| rowsFrom_cons from_bodyCanTxAbort <| rowsFrom_cons from_bodyCanStatus <| rowsFrom_cons from_bodyTpCfg <|
   rowsFrom_cons from_bodyAclCfg <| rowsFrom_cons from_bodyAclStatus <| rowsFrom_cons from_bodyTunnelSet <| rowsFrom_nil

theorem rowsFrom_rows0A : RowsFrom rows0A :=
  rowsFrom_cons from_bodyMapSet <| rowsFrom_cons from_bodyMapEnable <| rowsFrom_cons from_bodyMapStatus <| rowsFrom_nil

theorem rowsFrom_rows0B : RowsFrom rows0B :=
  rowsFrom_cons from_bodyPinCfg <| rowsFrom_cons from_bodyPinRead <| rowsFrom_cons from_bodyPinWrite <| rowsFrom_cons
   from_bodyPinTimed <| rowsFrom_cons from_bodyPinCountClear <| rowsFrom_cons from_bodyHewerCfg <| rowsFrom_cons
   from_bodyHewerLoad <| rowsFrom_cons from_bodyHewerLoadLib <| rowsFrom_cons from_bodyHewerStart <| rowsFrom_cons
   from_bodyHewerStop <| rowsFrom_cons from_bodyHewerRegWrite <| rowsFrom_cons from_bodyHewerIrqSet <| rowsFrom_cons
   from_bodyHewerStatus <| rowsFrom_cons from_bodyFlagAssign <| rowsFrom_cons from_bodyFlagRead <| rowsFrom_cons
   from_bodyFlagWrite <| rowsFrom_nil

theorem rowsFrom_rows0C : RowsFrom rows0C :=
  rowsFrom_cons from_bodyEvqSet <| rowsFrom_cons from_bodyEvtCfg <| rowsFrom_cons from_bodyEvtStatus <| rowsFrom_nil

theorem rowsFrom_rows0D : RowsFrom rows0D :=
  rowsFrom_cons from_bodyBranchCfg <| rowsFrom_cons from_bodyBranchSet <| rowsFrom_cons from_bodyRetryNow <| rowsFrom_cons
   from_bodyBranchStatus <| rowsFrom_cons from_bodyInrushCfg <| rowsFrom_cons from_bodyEnergyClear <| rowsFrom_nil

theorem rowsFrom_rows0E : RowsFrom rows0E :=
  rowsFrom_cons from_bodyAssayInfo <| rowsFrom_cons from_bodyAssayMeasure <| rowsFrom_cons from_bodyAssayZero <| rowsFrom_cons
   from_bodyAssayTare <| rowsFrom_cons from_bodyAssayTransfer <| rowsFrom_cons from_bodyAssayParamSet <| rowsFrom_cons
   from_bodyAuditRead <| rowsFrom_nil

theorem rowsFrom_rows0F : RowsFrom rows0F :=
  rowsFrom_cons from_bodyUpdBegin <| rowsFrom_cons from_bodyUpdData <| rowsFrom_cons from_bodyUpdVerify <| rowsFrom_cons
   from_bodyUpdActivate <| rowsFrom_cons from_bodyUpdConfirm <| rowsFrom_cons from_bodyUpdAbort <| rowsFrom_cons
   from_bodyBootInfo <| rowsFrom_cons from_bodyWarmReset <| rowsFrom_nil

theorem rowsFrom_rows10 : RowsFrom rows10 :=
  rowsFrom_cons from_bodyCountersRead <| rowsFrom_cons from_bodyTempRead <| rowsFrom_cons from_bodyCellHeaderRead <|
   rowsFrom_cons from_bodyDebugUnlock <| rowsFrom_cons from_bodyLogRead <| rowsFrom_nil

@[simp] theorem evolves_configParam {v : Vault} (s : State) (h : v.Evolves s.vault) : v.Evolves (configParam s).2.vault := by
  unfold configParam
  split
  · exact h
  · simp only [vault_snd_ite, evolves_ite, vault_setAssay]
    simp [h]

@[simp] theorem vault_takeQueues (s : State) : (takeQueues s).vault = s.vault := by simp [takeQueues]

@[simp] theorem vault_configReports (s : State) (short : Bool) : (configReports s short).vault = s.vault := by
  simp only [configReports]
  split <;> simp

@[simp] theorem vault_advance (s : State) : ({ s with time := s.time.advance, assay := s.assay.advance } : State).vault = s.vault := by
  simp only [State.vault, Assay.advance]
  split <;> rfl

@[simp] theorem evolves_tick {v : Vault} (s : State) (h : v.Evolves s.vault) : v.Evolves (tick s).vault := by
  simp only [tick, vault_drainCpl, vault_dueResets]
  refine evolves_dueReset _ (h.of_eq ?_)
  simp

@[simp] theorem vault_withFetchWord (s : State) (nbits : Nat) (w : Nat) : (State.withFetchWord s nbits w).vault = s.vault := by
  unfold State.withFetchWord
  split <;> simp

@[simp] theorem vault_begins (s : State) (p : Nat) : (begins s p).vault = s.vault := by simp [begins]

end Sys2Proof.Machine

namespace Sys2Proof.Machine

theorem rowsFrom_ite {c : Prop} [Decidable c] {l m : List CmdRow} (h : RowsFrom l) (k : RowsFrom m) : RowsFrom (if c then l else m) := by
  split <;> assumption

theorem from_rowsOf (g : Nat) : RowsFrom (rowsOf g) :=
  rowsFrom_ite rowsFrom_rows01 <| rowsFrom_ite rowsFrom_rows02 <| rowsFrom_ite rowsFrom_rows03 <| rowsFrom_ite rowsFrom_rows04
   <| rowsFrom_ite rowsFrom_rows05 <| rowsFrom_ite rowsFrom_rows06 <| rowsFrom_ite rowsFrom_rows07 <| rowsFrom_ite
   rowsFrom_rows08 <| rowsFrom_ite rowsFrom_rows09 <| rowsFrom_ite rowsFrom_rows0A <| rowsFrom_ite rowsFrom_rows0B <|
   rowsFrom_ite rowsFrom_rows0C <| rowsFrom_ite rowsFrom_rows0D <| rowsFrom_ite rowsFrom_rows0E <| rowsFrom_ite rowsFrom_rows0F
   <| rowsFrom_ite rowsFrom_rows10 <| rowsFrom_nil

theorem from_rowOf {op : Nat} {r : CmdRow} (h : rowOf op = some r) (c : Cmd) (t : State) : (r.body c t).From t.vault :=
  from_rowsOf _ r (List.mem_of_find?_eq_some h) c t

theorem evolves_startOf {v : Vault} {op : Nat} {r : CmdRow} (h : rowOf op = some r) (d : Desc) {s : State} (hs : v.Evolves s.vault) :
    v.Evolves (startOf r d s).vault := by
  unfold startOf
  refine evolves_vault_ite ?_ (evolves_runCmd hs (from_rowOf h))
  have hm := from_execMacsecSaAdd d s
  split
  · next he => exact hs.trans (from_next.1 (he ▸ hm))
  · exact hs

@[simp] theorem from_execCommandStart (p : Nat) (s : State) : From s.vault (execCommandStart p s) := by
  refine from_unit.2 fun _ => evolves_vault_ite (.refl _) (evolves_vault_ite (by simp) ?_)
  split
  · simp
  · next h => exact evolves_startOf h _ (by simp)

@[simp] theorem from_execAsyncComplete (p tag : Nat) (s : State) : From s.vault (execAsyncComplete p tag s) := by
  refine from_unit.2 fun _ => ?_
  split
  · exact .refl _
  · next a rest _ =>
    refine evolves_vault_ite (.refl _) ?_
    split
    · exact .refl _
    · next r h =>
      have hf : s.vault.Evolves (finishAsync s p r.info r.body a rest).vault := evolves_finishAsync (.refl _) (from_rowOf h)
      exact evolves_vault_ite (evolves_wipeKeyBulk _ _ hf) hf

@[simp] theorem from_execCommandOverrun (p : Nat) (s : State) : From s.vault (execCommandOverrun p s) := by
  refine from_unit.2 fun _ => ?_
  split
  · exact .refl _
  · next a rest _ =>
    refine evolves_vault_ite (.refl _) ?_
    have hs : s.vault.Evolves (s.setPart p { s.part p with cmds := rest }).draw.2.vault := by simp
    simp only [vault_detectCode, vault_finalCpl]
    split
    · next h =>
      refine evolves_vault_ite hs ?_
      have hb := from_rowOf h { cmdOf (s.setPart p { s.part p with cmds := rest }).draw.2 a.desc with bulk := a.bulk }
        (s.setPart p { s.part p with cmds := rest }).draw.2
      split
      · next he => exact hs.trans (from_ok.1 (he ▸ hb))
      · next he => exact hs.trans (from_ends.1 (he ▸ hb))
      · exact hs
    · exact hs

@[simp] theorem evolves_configEntry {v : Vault} (s : State) (b : List Byte) (h : v.Evolves s.vault) : v.Evolves (configEntry s b).2.vault := by
  simp only [configEntry, vault_snd_ite, evolves_ite]
  refine ⟨fun _ => h, fun _ => ?_⟩
  split
  · exact h
  · next r hr =>
    split
    · exact h
    · simp only [vault_snd_ite, evolves_ite]
      refine ⟨fun _ => h, fun _ => ?_⟩
      have hb {c : Cmd} {x : CmdRes} (he : r.body c s = x) : x.From s.vault := he ▸ from_rowOf hr c s
      split
      · exact h
      · next he => exact h.trans (from_ok.1 (hb he))
      · next he => exact h.trans (from_ends.1 (hb he))
      · next he =>
        simp only [vault_snd_ite, evolves_ite]
        exact ⟨fun _ => evolves_configParam _ (h.trans (from_later.1 (hb he))), fun _ => h⟩
      · next he => exact h.trans (from_silent.1 (hb he))

@[simp] theorem evolves_configEntries {v : Vault} (s : State) (b : List Byte) (k n : Nat) (h : v.Evolves s.vault) :
    v.Evolves (configEntries s b k n).2.vault := by
  induction n generalizing s b k with
  | zero => exact h
  | succ n ih =>
    rw [configEntries]
    have ht := evolves_configEntry s b h
    simp only [vault_snd_ite, evolves_ite]
    exact ⟨fun _ => ih _ _ _ ht, fun _ => ht⟩

theorem evolves_configSlot {v : Vault} (s : State) (k : Nat) (h : v.Evolves s.vault) :
    v.Evolves (configSlot s k).2.vault ∧ ∀ t b, (configSlot s k).1 = some (t, b) → v.Evolves t.vault := by
  have hnote (t : State) (x : List Byte) : v.Evolves (logAdd { s with out := t.out, fresh := t.fresh } 4 x).vault := by simpa using h
  have hentries {t : State} {b : List Byte} {n : Nat} {x : Option (Nat × Nat) × State} (he : configEntries t b 0 n = x)
      (ht : t.vault = s.vault) : v.Evolves x.2.vault := he ▸ evolves_configEntries t b 0 n (h.of_eq ht)
  unfold configSlot
  dsimp only
  split
  · exact ⟨h, fun _ _ he => by cases he⟩
  · split
    · exact ⟨hnote _ _, fun _ _ he => by cases he⟩
    · split
      · next he =>
        refine ⟨h, fun _ _ heq => ?_⟩
        cases heq
        exact hentries he vault_mk
      · exact ⟨hnote _ _, fun _ _ he => by cases he⟩

/-- The first configuration slot of two that applies, or the state without one (R483). -/
theorem evolves_configSlots {v : Vault} {q : State} {a : Nat} (hq : v.Evolves q.vault) {x : State × Bool}
    (hx : (match configSlot q a with
      | (some t, _) => t
      | (none, s) => match configSlot s (1 - a) with
        | (some t, _) => t
        | (none, s) => (s, false)) = x) : v.Evolves x.1.vault := by
  obtain ⟨hs, ht⟩ := evolves_configSlot q a hq
  split at hx
  · next he => exact ht _ _ (by rw [he, ← hx])
  · next he =>
    obtain ⟨hs', ht'⟩ := evolves_configSlot _ (1 - a) (he ▸ hs)
    split at hx
    · next he' => exact ht' _ _ (by rw [he', ← hx])
    · next he' =>
      rw [he'] at hs'
      rw [← hx]
      exact hs'

@[simp] theorem from_execConfigApply (s : State) : From s.vault (execConfigApply s) := by
  rw [execConfigApply, from_ite]
  refine ⟨fun _ => .refl _, fun _ => from_next.2 ?_⟩
  have hslots := evolves_configSlots (v := s.vault) (q := takeQueues (s.setPart 0 { s.part 0 with st := 1 }))
    (a := (takeQueues (s.setPart 0 { s.part 0 with st := 1 })).boot.current.config) (by simp) rfl
  have hunits (t : State) : (if t.cycle.running then t
      else forEach [60, 61, 62, 63] t (fun u t => if (t.trig u).held then returnUnit t u else t)).vault = t.vault := by
    simp
  have hunit (t : State) : (if t.power.slotsEn || !(t.trig 59).held then t else returnUnit t 59).vault = t.vault := by
    simp
  dsimp only
  rw [vault_configReports, hunit, hunits, vault_setRing, vault_setBoot]
  exact hslots

theorem from_exec (c : Instr) (s : State) : From s.vault (exec c s) := by
  cases c <;> simp [exec]

theorem evolves_step {s t : State} (h : step s = .next t) : s.vault.Evolves t.vault := by
  unfold step at h
  split at h
  · rw [← Host.Outcome.next.inj h]
    exact evolves_tick s (.refl _)
  · next c rest _ =>
    have hc : From s.vault (exec c { s with pending := rest }) := from_exec c _
    rw [h] at hc
    exact from_next.1 hc

/-- Settles O4: the view that the records and the audit log are read from evolves over every step. -/
theorem recordsAndAuditLogKept : Obligations.RecordsAndAuditLogKept := by
  unfold Obligations.RecordsAndAuditLogKept
  intro s t hwf hstep
  obtain ⟨hrecords, haudit, hseq, -⟩ := evolves_step hstep
  exact ⟨hrecords hwf, haudit, hseq⟩

/-- Settles O5: the view that holds both byte memories evolves over every step. -/
theorem memoriesKept : Obligations.MemoriesKept := by
  unfold Obligations.MemoriesKept
  intro s t hwf hstep
  exact (evolves_step hstep).memories hwf

end Sys2Proof.Machine

/-!
SUPPORT and O3 (R348, R350 to R352, R384, R430, R501). What a command does before its own checks: one lemma for each place where it
stops, over the status that the checks of R350 give.
-/
namespace Sys2Proof.Machine

theorem rowOf_op {op : Nat} {r : CmdRow} (h : rowOf op = some r) : r.info.op = op := by
  have hr := List.find?_some (p := fun r : CmdRow => r.info.op == op) h
  exact beq_iff_eq.mp hr

/-- The mailbox of the issuer takes the command now (R346, R351, R430). -/
def takes (d : Desc) (s : State) : Prop :=
  s.mbxReady d.part = true ∧ (s.part d.part).blocked = false ∧ (s.pair 0).halted = false

/-- Completion slots that a command needs at its start (R352). -/
def slotsNeeded (d : Desc) : Nat := if bitAt d.flags 0 then 2 else 1

theorem precheck_begins (i : CmdInfo) (d : Desc) (s : State) : precheck i d (begins s d.part) = precheck i d s := by
  simp only [precheck, begins_part]
  rfl

section
variable {i : CmdInfo} {d : Desc} {s : State} {body : Cmd → State → CmdRes} {st : Nat}

theorem runCmd_of_noRoom (h : takes d s) (hroom : (s.part d.part).cqRoom < slotsNeeded d) :
    runCmd i d body s = s.setPart d.part { s.part d.part with cqWait := true } := by
  obtain ⟨hready, hfree, hrun⟩ := h
  rw [slotsNeeded] at hroom
  simp [runCmd, hready, hfree, hrun, hroom]

theorem runCmd_of_precheck (h : takes d s) (hroom : slotsNeeded d ≤ (s.part d.part).cqRoom) (hc : precheck i d s = some st) :
    runCmd i d body s = ends (begins s d.part) d st := by
  obtain ⟨hready, hfree, hrun⟩ := h
  rw [slotsNeeded, ← Nat.not_lt] at hroom
  have hb : precheck i d (s.setPart d.part { s.part d.part with cqWait := false }) = some st := (precheck_begins i d s).trans hc
  simp [runCmd, hready, hfree, hrun, hroom, hb, ends, begins, writeBulk]

theorem runCmd_async (h : takes d s) (hroom : slotsNeeded d ≤ (s.part d.part).cqRoom) (hc : precheck i d s = none)
    (ha : bitAt d.flags 0 = true) (hop : i.op ≠ 0x0107) :
    (16 ≤ (s.part d.part).asyncActive → runCmd i d body s = ends (begins s d.part) d stBusy) ∧
    ((s.part d.part).asyncActive < 16 →
      let x := handed i.svc (writeCpl (begins s d.part) d.part d.tag stAccepted [])
      let u := x.2
      runCmd i d body s = u.setPart d.part { u.part d.part with
        cmds := (u.part d.part).cmds ++ [{ part := d.part, opcode := i.op, desc := d, bulk := (cmdOf u d).bulk, due := u.lt
                                           service := i.svc, res := resKeys u i d, stalled := x.1 }] }) := by
  obtain ⟨hready, hfree, hrun⟩ := h
  rw [slotsNeeded, if_pos ha, ← Nat.not_lt] at hroom
  have hb : precheck i d (s.setPart d.part { s.part d.part with cqWait := false }) = none := (precheck_begins i d s).trans hc
  have hact : ({ s.part d.part with cqWait := false } : Partition).asyncActive = (s.part d.part).asyncActive := rfl
  constructor
  · intro hfull
    simp [runCmd, hready, hfree, hrun, hroom, hb, ha, hop, hfull, ends, begins, writeBulk]
  · intro hfew
    simp [runCmd, hready, hfree, hrun, hroom, hb, ha, hop, Nat.not_le.mpr hfew, begins]

/-- The checks of R350 pass for a full-view partition down to those of rescue station mode. -/
theorem precheck_of_plain (hk : (s.part d.part).ktx22 = false) (hf : d.flags < 8) (hb : d.byte3 = 0) (hr : reservedOk i d = true) :
    precheck i d s = if bitAt d.flags 2 then some stDenied else if i.p0 ∧ d.part ≠ 0 then some stDenied
      else if s.boot.rescue ∧ i.op / 256 ≠ 0x0F then some stWrongState else none := by
  simp [precheck, hk, hb, hr, Nat.div_eq_of_lt hf]

end

/-- A completion without NOTIFY raises nothing (R353). -/
theorem ends_quiet {s : State} {d : Desc} (st : Nat) (res : List Byte) (h : bitAt d.flags 1 = false) :
    ends s d st res = writeCpl s d.part d.tag st res := by
  simp [ends, finalCpl, writeBulk, raiseIf, h]

theorem length_fitBytes (n : Nat) (l : List Byte) : (fitBytes n l).length = n := by
  simp [fitBytes, zeros]; omega

/-- A field of a layout, after the bytes `k` before it. -/
theorem leAt_append_right {k : Nat} (l m : List Byte) (n : Nat) (h : l.length = k) : leAt (l ++ m) k n = leAt m 0 n := by
  simp [leAt, bytesAt, ← h]

theorem leAt_zeros_append (n : Nat) (l : List Byte) : leAt (zeros n ++ l) 0 n = 0 := by
  have hz : zeros n = leBytes n 0 := by
    induction n with
    | zero => rfl
    | succ n ih => rw [leBytes, ← ih]; rfl
  rw [hz, leAt_leBytes_append, Nat.zero_mod]

/-- Settles O3, from what a command does at each of the places where it stops before its own checks. -/
theorem mailboxChecks : Obligations.MailboxChecks := by
  unfold Obligations.MailboxChecks
  refine ⟨fun op r d s hrow hp hready hfree hrun => ?rows, fun s d st res hq => ends_quiet st res hq, fun tag st res => ?layout⟩
  case layout =>
    have h4 : (leBytes 4 tag).length = 4 := length_leBytes ..
    have h6 : (leBytes 4 tag ++ leBytes 2 st).length = 6 := by simp [length_leBytes]
    refine ⟨by simp [completion, length_leBytes, length_fitBytes, zeros], ?_, ?_, ?_⟩
    · rw [completion, List.append_assoc, List.append_assoc, leAt_leBytes_append] <;> rfl
    · rw [completion, List.append_assoc, List.append_assoc, leAt_append_right _ _ _ h4, leAt_leBytes_append] <;> rfl
    · rw [completion, List.append_assoc, leAt_append_right _ _ _ h6, leAt_zeros_append]
  case rows =>
    have hop : r.info.op = op := rowOf_op hrow
    have ht : takes d s := ⟨hready, hfree, hrun⟩
    refine ⟨fun hroom => runCmd_of_noRoom ht hroom, fun hroom => ⟨fun hk hrk => ?badOpcode, fun hk hbad => ?badParam,
      fun hk ⟨hf, hb, hr⟩ h2 => ?viewBit, fun hk ⟨hf, hb, hr⟩ h2 hp0 hpart => ?denied, fun hk ⟨hf, hb, hr⟩ h2 hp0 => ⟨fun hres hg => ?rescue,
      fun hres ha hne => ?accepted⟩⟩⟩
    case badOpcode => exact runCmd_of_precheck ht hroom (by simp [precheck, hk, hrk])
    case badParam =>
      have hbad' : d.flags / 8 ≠ 0 ∨ d.byte3 ≠ 0 ∨ !reservedOk r.info d := by
        rcases hbad with h | h | h
        · left; omega
        · exact .inr (.inl h)
        · simp [h]
      exact runCmd_of_precheck ht hroom (by rw [precheck, if_neg (by simp [hk]), if_pos hbad'])
    case viewBit => exact runCmd_of_precheck ht hroom (by rw [precheck_of_plain hk hf hb hr, if_pos h2])
    case denied => exact runCmd_of_precheck ht hroom (by simp [precheck_of_plain hk hf hb hr, h2, hp0, hpart])
    case rescue =>
      refine runCmd_of_precheck ht hroom ?_
      rcases hp0 with hp0 | hp0 <;> simp [precheck_of_plain hk hf hb hr, h2, hp0, hres, hop, hg]
    case accepted =>
      have hc : precheck r.info d s = none := by
        rcases hp0 with hp0 | hp0 <;> simp [precheck_of_plain hk hf hb hr, h2, hp0, hres]
      obtain ⟨hbusy, hfew⟩ := runCmd_async (body := r.body) ht hroom hc ha (hop ▸ hne)
      exact ⟨hbusy, fun hlt => ⟨_, hop, rfl, rfl, rfl, rfl, hfew hlt⟩⟩

end Sys2Proof.Machine

/-!
SUPPORT. The checks that command bodies share, where they pass.
-/
namespace Sys2Proof.Machine

section
variable {s : State} {c : Cmd} {cls i k st : Nat} {b : Bool} {r : CmdRes} {f : Nat → CmdRes}

theorem handle_of_localRes (h : localRes s c.p (c.u k 4) = some (cls, i)) : handle s c k cls f = f i := by
  simp [handle, h]

/-- A class whose resources firmware never holds (R339). -/
theorem fwHeld_of_class (hq : cls ≠ 5) (ht : cls ≠ 13) : s.fwHeld cls i = false := by
  simp [State.fwHeld, hq, ht]

theorem ownRes_of_owns (ho : s.owns c.p cls i = true) (hf : s.fwHeld cls i = false) : ownRes s c cls i r = r := by
  simp [ownRes, ho, hf]

theorem ownRes_of_free_class (ho : s.owns c.p cls i = true) (hq : cls ≠ 5 := by decide) (ht : cls ≠ 13 := by decide) :
    ownRes s c cls i r = r := ownRes_of_owns ho (fwHeld_of_class hq ht)

@[simp] theorem chk_true : chk true st r = r := rfl
@[simp] theorem chk_false : chk false st r = .fail st := rfl

theorem chk_of (h : b = true) : chk b st r = r := if_pos h

theorem inRange_of {lo hi n : Nat} (hlo : lo ≤ n) (hhi : n ≤ hi) : inRange lo hi n = true := by
  simp [inRange, hlo, hhi]

end

/-- Ownership is not the partition's own record. -/
theorem readRes_of_owns {s : State} {c : Cmd} {cls i : Nat} {r : CmdRes} (h : s.owns c.p cls i = true) : readRes s c cls i r = r := by
  simp [readRes, State.mayRead, h]

/-- A command whose own checks fail completes with their status and has no effect (R388). -/
theorem cmdRow_fail {i : CmdInfo} {d : Desc} {s : State} {st : Nat} (body : Cmd → State → CmdRes) (h : runs i d s = true)
    (hb : body (cmdOf (begins s d.part) d) (begins s d.part) = .fail st) :
    cmdRow i d body s = .next (ends (begins s d.part) d st) := cmdRow_body body h hb

end Sys2Proof.Machine

/-!
SUPPORT. What a notice leaves. Raising one may commit an event record into a queue, send a frame and signal a host. The view
`State.kept` blanks what that way can change; each operation on it has one lemma that says it keeps the view.
-/
namespace Sys2Proof.Machine

/-- A partition without its event delivery (R367, R371). -/
def Partition.unsignalled (x : Partition) : Partition := { x with evqTail := 0, evqTimes := [], summary := [], fired := false }

/-- What a notice leaves of a state. -/
structure Kept where
  /-- The state without switch, queues, pool, sequence numbers, attachments, partitions, event sources, counters and output. -/
  rest : State
  /-- The partitions without their event delivery. -/
  parts : Nat → Partition
  /-- The partition that each attachment is bound to. -/
  bounds : Nat → Option Nat

/-- The view of a state. -/
def State.kept (s : State) : Kept where
  rest := { s with
    sw := {}, queues := [], pool := {}, ring := { s.ring with seqs := [] }, bridge := { s.bridge with atts := [] }, parts := []
    island := { s.island with sources := [] }, counters := [], out := [] }
  parts p := (s.part p).unsignalled
  bounds a := (s.att a).bound

section
variable {s t : State}

@[simp] theorem kept_setPort (p : Nat) (x : Port) : (s.setPort p x).kept = s.kept := (rfl)
@[simp] theorem kept_setQueue (q : Nat) (x : Queue) : (s.setQueue q x).kept = s.kept := (rfl)
@[simp] theorem kept_setSource (e : Nat) (x : EvSrc) : (s.setSource e x).kept = s.kept := (rfl)
@[simp] theorem kept_count (c : CtrId) (i n : Nat) : (s.count c i n).kept = s.kept := (rfl)
@[simp] theorem kept_emit (o : Output) : (s.emit o).kept = s.kept := (rfl)
@[simp] theorem kept_pool (p : Pool) : ({ s with pool := p } : State).kept = s.kept := (rfl)
@[simp] theorem kept_nextSeq (mac : Nat) : (nextSeq s mac).2.kept = s.kept := (rfl)
@[simp] theorem kept_chargeIng (p : Nat) (d : Int) : (s.chargeIng p d).kept = s.kept := (rfl)
@[simp] theorem kept_chargeEg (p c : Nat) (d : Int) : (s.chargeEg p c d).kept = s.kept := (rfl)
@[simp] theorem kept_pushCopy (k : Copy) : (s.pushCopy k).kept = s.kept := (rfl)
@[simp] theorem kept_freeCell (c : Nat) : (freeCell s c).kept = s.kept := by
  unfold freeCell joinFreed
  split <;> rfl

@[simp] theorem kept_countIf (b : Bool) (c : CtrId) (i : Nat) : (s.countIf b c i).kept = s.kept := by
  cases b <;> rfl

@[simp] theorem kept_ite {c : Prop} [Decidable c] : (if c then s else t).kept = if c then s.kept else t.kept :=
  apply_ite State.kept c s t

theorem kept_setPart {p : Nat} {x : Partition} (h : x.unsignalled = (s.part p).unsignalled) : (s.setPart p x).kept = s.kept := by
  have hparts : (s.setPart p x).kept.parts = s.kept.parts := by
    funext j
    by_cases hj : j = p
    · subst hj
      show ((s.setPart j x).part j).unsignalled = _
      rw [State.setPart_part_same, h]
      rfl
    · show ((s.setPart p x).part j).unsignalled = _
      rw [State.setPart_part_ne _ _ _ hj]
      rfl
  exact congrArg (fun f => Kept.mk s.kept.rest f s.kept.bounds) hparts

@[simp] theorem kept_setAtt {a : Nat} {x : Att} (h : x.bound = (s.att a).bound) : (s.setAtt a x).kept = s.kept := by
  have hbounds : (s.setAtt a x).kept.bounds = s.kept.bounds := by
    funext j
    by_cases hj : j = a
    · subst hj
      show ((s.setAtt j x).att j).bound = _
      rw [State.setAtt_att_same, h]
      rfl
    · show ((s.setAtt a x).att j).bound = _
      rw [State.setAtt_att_ne _ _ _ hj]
      rfl
  exact congrArg (Kept.mk s.kept.rest s.kept.parts) hbounds

theorem kept_foldl {α : Type} {f : State → α → State} (h : ∀ (s : State) a, (f s a).kept = s.kept) {l : List α} :
    (l.foldl f s).kept = s.kept := by
  induction l generalizing s with
  | nil => rfl
  | cons a l ih => rw [List.foldl_cons, ih, h]

theorem kept_forEach {α : Type} {f : α → State → State} (h : ∀ a (s : State), (f a s).kept = s.kept) {l : List α} :
    (forEach l s f).kept = s.kept := kept_foldl (f := fun s a => f a s) fun s a => h a s

theorem kept_of_fst {α : Type} {p : State × α} {a : α} {v : Kept} (h : p = (t, a)) (e : p.1.kept = v) : t.kept = v := by
  rw [← e, h]

/-! The pool and the queues. -/

@[simp] theorem kept_freeAll (l : List Nat) : (freeAll s l).kept = s.kept := kept_foldl fun _ _ => kept_freeCell _

@[simp] theorem kept_freePacket (k : Packet) : (freePacket s k).kept = s.kept := by
  rw [freePacket, kept_freeAll]
  unfold unchargePacket
  split <;> rfl

@[simp] theorem kept_takeOn : (takeOn s).2.kept = s.kept := by
  unfold takeOn
  split <;> rfl

theorem kept_of_grantExt {c : Nat} (h : grantExt s = .ok c t) : t.kept = s.kept := by
  unfold grantExt at h
  split at h
  · cases h
  · rw [← (Grant.ok.inj h).2]
    show (takeExt s).2.kept = _
    unfold takeExt
    split <;> rfl

theorem kept_of_takeCell {pin : Bool} {c : Nat} (h : takeCell s pin = .ok c t) : t.kept = s.kept := by
  have hon {t : State} (h : Grant.ok (takeOn s).1 (takeOn s).2 = .ok c t) : t.kept = s.kept := by
    rw [← (Grant.ok.inj h).2, kept_takeOn]
  unfold takeCell at h
  split at h
  · split at h
    · exact hon h
    · cases h
  · split at h
    · exact hon h
    · split at h
      · exact kept_of_grantExt h
      · split at h
        · exact hon h
        · cases h

theorem kept_of_grantCell {pin ev : Bool} {cls c : Nat} (h : grantCell s pin cls ev = .ok c t) : t.kept = s.kept := by
  unfold grantCell at h
  dsimp only at h
  split at h
  · split at h
    · next hc => rw [← (Grant.ok.inj h).2, kept_countIf, kept_of_takeCell hc]
    · cases h
  · cases h

theorem kept_of_grantForQueue {q cls c : Nat} {ev : Bool} {i : Option Nat} (h : grantForQueue s q cls ev i = .ok c t) :
    t.kept = s.kept := by
  unfold grantForQueue at h
  exact kept_of_grantCell (then_of_ite (else_of_ite h nofun) nofun)

@[simp] theorem kept_growOpen {q cls n : Nat} {ev : Bool} : (growOpen s q cls ev n).1.kept = s.kept := by
  induction n generalizing s with
  | zero => rfl
  | succ n ih =>
    rw [growOpen]
    split
    · rfl
    · next hc => simp [ih, kept_of_grantForQueue hc]

@[simp] theorem kept_countRefused (q : Nat) (w : Refused) : (countRefused s q w).kept = s.kept := by
  cases w <;> rfl

@[simp] theorem kept_flushIfPending (q : Nat) : (flushIfPending s q).kept = s.kept := by
  simp [flushIfPending, flushNow, kept_forEach]

@[simp] theorem kept_abortOpen (q : Nat) : (abortOpen s q).kept = s.kept := by
  unfold abortOpen
  split <;> simp

@[simp] theorem kept_appendOpen {q cls : Nat} {d : List Byte} {ev : Bool} : (appendOpen s q d cls ev).1.kept = s.kept := by
  unfold appendOpen
  dsimp only
  split
  · simp
  · split
    · simp
    · split <;> next h => simp [kept_of_fst h kept_growOpen]

@[simp] theorem kept_commitPacket (q : Nat) (k : Packet) (l : Option Nat) : (commitPacket s q k l).kept = s.kept := by
  simp [commitPacket]

@[simp] theorem kept_commitOpen (q : Nat) (l : Option Nat) : (commitOpen s q l).kept = s.kept := by
  simp only [commitOpen]
  repeat' split
  all_goals simp

theorem kept_putPacket {q cls : Nat} {d : List Byte} {ev : Bool} : (putPacket s q d cls ev).1.kept = s.kept := by
  unfold putPacket
  split <;> next h => simp [kept_of_fst h kept_appendOpen]

/-! Frames that the hub sends. -/

@[simp] theorem kept_grantCopy {i o c n : Nat} {l : List Nat} : (grantCopy s i o c n l).1.kept = s.kept := by
  induction n generalizing s l with
  | zero => rfl
  | succ n ih =>
    rw [grantCopy]
    split
    · rfl
    · split
      · rfl
      · split
        · rfl
        · next hc => simp [ih, kept_of_grantCell hc]

@[simp] theorem kept_countCopyRefused (i o c : Nat) (w : Refused) : (countCopyRefused s i o c w).kept = s.kept := by
  cases w <;> rfl

@[simp] theorem kept_enqueueFrame {f : Frame} {i o c : Nat} {l : Option Nat} : (enqueueFrame s f i o c l).kept = s.kept := by
  unfold enqueueFrame
  split <;> next h => simp [freeCopy, kept_of_fst h kept_grantCopy]

@[simp] theorem kept_sendRing {f : Frame} {i c : Nat} {l : Option Nat} : (sendRing s f i c l).kept = s.kept := by
  simp [sendRing]

@[simp] theorem kept_putFrame {q cls : Nat} {f : Frame} {e : Option Nat} : (putFrame s q f cls e).kept = s.kept := by
  unfold putFrame offerFrame
  split <;> next h => simp [kept_of_fst h kept_appendOpen]

@[simp] theorem kept_sendVia (q mac : Nat) (h : GrtHdr) (d : List Byte) : (sendVia s q mac h d).kept = s.kept := by
  simp [sendVia]

/-! Records and what they signal (R364 to R373). -/

@[simp] theorem kept_sendMsix (fn v : Nat) : (sendMsix s fn v).kept = s.kept := by
  simp [sendMsix]

@[simp] theorem kept_signalTarget (p : Nat) : (signalTarget s p).kept = s.kept := by
  simp only [signalTarget]
  repeat' split
  all_goals simp [kept_forEach]

@[simp] theorem kept_testNotify (p : Nat) : (testNotify s p).kept = s.kept := by
  unfold testNotify
  dsimp only
  split
  · rw [kept_signalTarget]
    exact kept_setPart rfl
  · rfl

@[simp] theorem kept_commitRecord (p src node cause flags data time : Nat) :
    (commitRecord s p src node cause flags data time).kept = s.kept := by
  unfold commitRecord
  dsimp only
  split
  · rfl
  · split
    · rfl
    · split
      · next h =>
        rw [kept_count, kept_setQueue]
        exact kept_of_fst h kept_putPacket
      · next h =>
        rw [kept_testNotify]
        refine (kept_setPart ?_).trans (kept_of_fst h kept_putPacket)
        rfl

@[simp] theorem kept_deliverRecord (src cause flags data : Nat) : (deliverRecord s src cause flags data).kept = s.kept := by
  unfold deliverRecord
  split <;> simp

/-- A notice keeps the view. -/
@[simp] theorem kept_raise (src cause data : Nat) : (raise s src cause data).kept = s.kept := by simp [raise]

@[simp] theorem kept_raiseIf (b : Bool) (src cause data : Nat) : (raiseIf s b src cause data).kept = s.kept := by
  cases b <;> simp [raiseIf]

/-! What states of one view share. -/

theorem part_of_kept (h : t.kept = s.kept) (p : Nat) : (t.part p).unsignalled = (s.part p).unsignalled :=
  congrFun (congrArg Kept.parts h) p

theorem bound_of_kept (h : t.kept = s.kept) (a : Nat) : (t.att a).bound = (s.att a).bound := congrFun (congrArg Kept.bounds h) a

theorem cqTail_of_kept (h : t.kept = s.kept) (p : Nat) : (t.part p).cqTail = (s.part p).cqTail := by
  show (t.part p).unsignalled.cqTail = _
  rw [part_of_kept h]
  rfl

theorem cmds_of_kept (h : t.kept = s.kept) (p : Nat) : (t.part p).cmds = (s.part p).cmds := by
  show (t.part p).unsignalled.cmds = _
  rw [part_of_kept h]
  rfl

end
end Sys2Proof.Machine

/-!
SUPPORT, O6 and O7 (chapter 2). Each row's own checks pass under the conditions of its clause.
-/
namespace Sys2Proof.Machine

/-- LINK_CFG allows AUTO at every ring and 1G port, the ring rates at ports 0 and 1, the 1G rates at ports 2 to 5 (R25). -/
theorem linkRate_ok {p v : Nat} (h : v = 0 ∨ (p ≤ 1 ∧ v ≤ 3) ∨ (2 ≤ p ∧ (v = 4 ∨ v = 5))) :
    (v == 0 || (if p ≤ 1 then decide (v ≤ 3) else v == 4 || v == 5)) = true := by
  rcases h with h | ⟨hp, hv⟩ | ⟨hp, hv⟩
  · simp [h]
  · simp [hp, hv]
  · simp [Nat.not_le.mpr (show 1 < p by omega), hv]

/-- Settles O6, row by row. -/
theorem ringCommands : Obligations.RingCommands := by
  unfold Obligations.RingCommands
  intro d s t c
  refine ⟨fun h => ?status, fun h hv hv' hb hb' hf hf' hc hc' => ?ringCfg, fun p h hl hp hv ho => ?linkCfg,
    fun p h hl hp hp' hn ht ho => ?plcaCfg, fun h hpass => ?barrier, fun h hm hpass => ?ringReset⟩
  case status => exact cmdRow_ok bodyRingStatus h rfl
  case ringCfg =>
    refine cmdRow_ok bodyRingCfg h (?_ : bodyRingCfg c t = _)
    rw [bodyRingCfg, inRange_of hv hv', inRange_of hb hb', inRange_of hf hf', inRange_of hc hc']
    rfl
  case linkCfg =>
    refine cmdRow_ok bodyLinkCfg h (?_ : bodyLinkCfg c t = _)
    simp [bodyLinkCfg, handle_of_localRes hl, linkRate_ok hv, ownRes_of_free_class (c := c) ho, hp, okS]
  case plcaCfg =>
    refine cmdRow_ok bodyPlcaCfg h (?_ : bodyPlcaCfg c t = _)
    rw [bodyPlcaCfg, handle_of_localRes hl, ownRes_of_free_class (c := c) ho, inRange_of hp hp', decide_eq_true hn, decide_eq_true ht]
    rfl
  case barrier =>
    have hlive : ¬t.passThrough = true := by simp [hpass]
    exact cmdRow_later bodyBarrier h (congrArg CmdRes.later (if_neg hlive))
  case ringReset =>
    refine cmdRow_ok bodyRingReset h (?_ : bodyRingReset c t = _)
    rw [bodyRingReset, hm, hpass]
    rfl

theorem kept_ends (s : State) (d : Desc) (st : Nat) (res : List Byte) : (ends s d st res).kept = (writeCpl s d.part d.tag st res).kept := by
  simp [ends, finalCpl, writeBulk]

theorem cqTail_ends (s : State) (d : Desc) (st : Nat) (res : List Byte) :
    ((ends s d st res).part d.part).cqTail = ((s.part d.part).cqTail + 1) % 65536 := by
  rw [cqTail_of_kept (kept_ends s d st res)]
  simp [writeCpl]

theorem cmds_ends (s : State) (d : Desc) (st : Nat) (res : List Byte) : ((ends s d st res).part d.part).cmds = (s.part d.part).cmds := by
  rw [cmds_of_kept (kept_ends s d st res)]
  simp [writeCpl]

/-- The key in the bulk buffer of a MACSEC_SA_ADD that has completed is overwritten (R30). -/
theorem execMacsecSaAdd_ok {d : Desc} {s t : State} (h : runs iMacsecSaAdd d s = true)
    (hb : bodyMacsecSaAdd (cmdOf (begins s d.part) d) (begins s d.part) = okS t) (hk : t.kept = (begins s d.part).kept) :
    execMacsecSaAdd d s = .next (wipeKeyBulk (ends t d stOk) d) := by
  have hp : d.part < 16 := by
    have hs := starts_of_runs h
    simp only [starts, Bool.and_eq_true, decide_eq_true_eq] at hs
    exact hs.1.1.1.1.1.1.1.1
  have hrun : runCmd iMacsecSaAdd d bodyMacsecSaAdd s = ends t d stOk := by
    rw [runCmd_starts _ (starts_of_runs h), runBody_runs _ h, hb]
    rfl
  have htail : ((ends t d stOk).part d.part).cqTail ≠ (s.part d.part).cqTail := by
    rw [cqTail_ends, cqTail_of_kept hk, begins_part]
    dsimp only
    omega
  have hcmds : ((ends t d stOk).part d.part).cmds.length ≤ (s.part d.part).cmds.length := by
    have heq := (cmds_ends t d stOk []).trans ((cmds_of_kept hk d.part).trans (congrArg Partition.cmds (begins_part s d.part)))
    exact Nat.le_of_eq (congrArg List.length heq)
  rw [execMacsecSaAdd, if_pos hp, hrun]
  exact congrArg Host.Outcome.next (if_pos ⟨htail, hcmds⟩)

theorem kept_setMacsec (s : State) (p : Nat) (m : Macsec) : (setMacsec s p m).kept = s.kept := by
  simp [setMacsec, keySettle]

/-- Settles O7, row by row. -/
theorem macsecCommands : Obligations.MacsecCommands := by
  unfold Obligations.MacsecCommands
  intro d s p t c hl hp ho
  have hown (r : CmdRes) : ownRes t c 9 p r = r := ownRes_of_free_class (c := c) ho
  refine ⟨fun h han hdir hsuite hlen hbulk hfree => ?saAdd, fun h han hsa => ?txAn, fun h han hdir hcur => ?saDel, fun h hen hrep => ?cfg,
    fun h => ?status⟩
  case saAdd =>
    refine execMacsecSaAdd_ok h (?_ : bodyMacsecSaAdd c t = _) ?_
    · simp [bodyMacsecSaAdd, handle_of_localRes hl, hown, hp, han, hdir, hsuite, hbulk, hfree, Cmd.len, show c.d = d from rfl, hlen]
    · exact kept_setMacsec t p _
  case txAn =>
    refine cmdRow_ok bodyMacsecTxAn h (?_ : bodyMacsecTxAn c t = _)
    simp [bodyMacsecTxAn, handle_of_localRes hl, hown, hp, han, hsa, okS]
  case saDel =>
    have hother : (!(c.u 13 1 == 0 && (t.port p).macsec.txAn == c.u 12 1 && (tblGet (t.port p).macsec.txSa (t.port p).macsec.txAn).isSome))
        = true := by
      rcases hcur with h1 | h1 <;> simp [h1]
    refine cmdRow_ok bodyMacsecSaDel h (?_ : bodyMacsecSaDel c t = _)
    simp only [bodyMacsecSaDel, handle_of_localRes hl, hown, hp, han, hdir, hother, decide_true, Bool.and_true, chk_true, okS]
  case cfg =>
    refine cmdRow_ok bodyMacsecCfg h (?_ : bodyMacsecCfg c t = _)
    simp [bodyMacsecCfg, handle_of_localRes hl, hown, hp, hen, hrep, okS]
  case status =>
    refine cmdRow_ok bodyMacsecStatus h (?_ : bodyMacsecStatus c t = _)
    simp [bodyMacsecStatus, handle_of_localRes hl, readRes_of_owns (c := c) ho, hp]

end Sys2Proof.Machine

/-!
SUPPORT and O8 (R39, R55 to R60). A frame in form reaches its row's own part.
-/
namespace Sys2Proof.Machine

section
variable {s : State} {f : GrtFrame} {t : Nat} {g : State → State}

theorem grtForm_of (hv : bitsAt f.hdr.flags 6 2 = 1) (ht : f.hdr.typ = t) (hl : grtLenOk f = true) : grtForm s t f g = g s := by
  simp [grtForm, hv, ht, hl]

/-- What firmware takes from its queue reaches its row's own part, where the type needs no sender known to the hub (R51). -/
theorem grtServe_of (hp : s.passThrough = false) (hv : bitsAt f.hdr.flags 6 2 = 1) (ht : f.hdr.typ = t) (hl : grtLenOk f = true)
    (hopen : t ≠ tCompletion ∧ (t < tEvent ∨ tEnumWalk ≤ t)) (hown : ¬(0x20 ≤ t ∧ t ≤ 0x23)) :
    grtServe s t f g = g (takeFromQueue s 2 f) := by
  simp [grtServe, hp, hv, ht, hl, hopen, hown]

end

theorem walkNumber_east {mgr : Nat} (k : Nat) (h : 1 ≤ mgr) : walkNumber mgr k 0 = (mgr - 1 + k) % 250 + 1 := by
  have hv : (mgr : Int) - 1 + k = ((mgr - 1 + k : Nat) : Int) := by omega
  rw [walkNumber, if_pos rfl, hv]
  rfl

theorem sendReport_of_stopped {s : State} (mgr : Nat) (h : s.boot.running = false) : sendReport s mgr = s := by
  simp [sendReport, State.firmwareRuns, h]

theorem sendHop_of_dead {s : State} {port : Nat} (typ : Nat) (info : List Byte) (h : s.ringLive port = false) :
    sendHop s port typ info = s := by
  simp [sendHop, h]

/-- Settles O8, frame by frame. -/
theorem enumerationFrames : Obligations.EnumerationFrames := by
  unfold Obligations.EnumerationFrames
  refine ⟨fun f s hv hl => ⟨fun ht hp hr hm => ?pass, fun n ht hp hr hm hn hd hw hlt => ?back, fun ht hlo hhi => ?assign⟩,
    fun f r0 hpt hv hl => ?served, fun s port hop mgr hn hsel hlo hhi hrun hlive => ?number⟩
  case pass =>
    refine congrArg Host.Outcome.next ((grtForm_of hv ht hl).trans ?_)
    dsimp only
    rw [if_neg (by omega), if_neg (by simp [hm])]
  case back =>
    refine congrArg Host.Outcome.next ((grtForm_of hv ht hl).trans ?_)
    dsimp only
    rw [if_neg (by omega), if_pos ⟨hm, hn⟩, if_pos hd, walkBack, hw]
    exact if_pos hlt
  case assign =>
    refine congrArg Host.Outcome.next ((grtForm_of hv ht hl).trans ?_)
    dsimp only
    rw [takeNumber, if_neg (by omega), if_pos hhi]
  case served =>
    have reach (t : Nat) (g : State → State) (ht : f.hdr.typ = t) (hopen : t ≠ tCompletion ∧ (t < tEvent ∨ tEnumWalk ≤ t))
        (hown : ¬(0x20 ≤ t ∧ t ≤ 0x23)) : grtServe r0 t f g = g (takeFromQueue r0 2 f) := grtServe_of hpt hv ht hl hopen hown
    generalize takeFromQueue r0 2 f = s at reach ⊢
    refine ⟨fun ht hm => ?ignored, fun ht hm hmac => ?report, fun ht hm => ?member, fun ht hm hmac hport => ?own,
      fun x ht hm hmac hrole hx hxr => ?strap, fun ht hmac hmgr hfrom => ?reset, fun ht hmac hfrom => ?refused⟩
    case ignored =>
      refine congrArg Host.Outcome.next ((reach _ _ ht (by decide) (by decide)).trans (if_pos ?_))
      simp [hm]
    case report =>
      refine congrArg Host.Outcome.next ((reach _ _ ht (by decide) (by decide)).trans (if_neg ?_))
      simp [hm, reportOf, hmac]
    case member =>
      refine congrArg Host.Outcome.next ((reach _ _ ht (by decide) (by decide)).trans (if_pos ?_))
      simp [hm]
    case own =>
      refine congrArg Host.Outcome.next ((reach _ _ ht (by decide) (by decide)).trans ?_)
      simp [hm, hmac, hport]
    case strap =>
      refine congrArg Host.Outcome.next ((reach _ _ ht (by decide) (by decide)).trans ?_)
      simp [hm, hmac, otherBeacon, hrole, hx, hxr]
    case reset =>
      refine congrArg Host.Outcome.next ((reach _ _ ht (by decide) (by decide)).trans ((if_neg hmac).trans (if_pos ⟨hmgr, hfrom⟩)))
    case refused =>
      refine congrArg Host.Outcome.next ((reach _ _ ht (by decide) (by decide)).trans ((if_neg hmac).trans (if_neg ?_)))
      exact fun h => hfrom h.2
  case number =>
    rw [walkPass, sendReport_of_stopped, sendHop_of_dead]
    · simp [hn, hsel, walkNumber_east _ hlo]
    · exact hlive
    · rw [sendHop_of_dead]
      · exact hrun
      · exact hlive

end Sys2Proof.Machine

/-!
SUPPORT and O9 (R27, R39, R55 to R60, R71). The timers and tokens of the ring at their instants.
-/
namespace Sys2Proof.Machine

/-- A beacon that has nothing to judge of the last one keeps RING_STATE. -/
theorem beaconTimer_of_first {s : State} (hm : s.ring.actingMgr = true) (hp : s.passThrough = false)
    (hd : s.ring.beaconAt + s.ring.beaconMs * 1000000 ≤ s.lt) (h0 : s.ring.beaconAt = 0) :
    let r := { s.ring with beaconWest := false, beaconEast := false, beaconAt := s.lt,
                           brkWest := if s.ring.ringState = 1 then 0 else s.ring.brkWest,
                           brkEast := if s.ring.ringState = 1 then 0 else s.ring.brkEast }
    beaconTimer s = sendGrt (s.setRing r) (macAll r.ringId) (hdrOf (s.setRing r) tMgrBeacon 0 {} 0 0
      (beBytes 1 r.ringState ++ beBytes 1 r.brkWest ++ beBytes 1 r.brkEast ++ zeros 5)) [] := by
  have hdue : ¬s.lt < s.ring.beaconAt + s.ring.beaconMs * 1000000 := Nat.not_lt.mpr hd
  simp only [beaconTimer, hm, hp, decide_eq_false hdue, if_pos h0, raiseIf, bne_self_eq_false]
  rfl

/-- A link whose rate both ends know comes up; here neither crossed nor in rescue station mode. -/
theorem linkUp_of_match {s : State} {port rate : Nat} {partner : List Nat} (hdown : (s.port port).link.up = false)
    (hring : 2 ≤ port ∨ s.boot.ringRole ≠ 3) (hcfg : port ≤ 1 ∨ s.boot.configured = true) (hr : s.boot.rescue = false)
    (hrate : (advertised port (s.port port).link.forced).contains rate = true) (hpart : partner.contains rate = true) :
    linkUp s port rate partner false = reportLink (keySettle (setCrossed (raise (s.setPort port { s.port port with
        link := { (s.port port).link with up := true, rate := rate, partner := partner },
        pdelays := 0, pdelayAt := none, asCapable := false, oneStepRefused := false, capRaised := false })
      (srcPort port 0) 1 rate) port false) port) port 0 rate false := by
  have hrole : (decide (port ≤ 1) && s.boot.ringRole == 3) = false := by
    rcases hring with h | h
    · simp [show ¬port ≤ 1 by omega]
    · simp [h]
  have hconf : (decide (port ≥ 2) && !s.boot.configured) = false := by
    rcases hcfg with h | h
    · simp [show ¬2 ≤ port by omega]
    · simp [h]
  simp only [linkUp, hdown, hrole, hconf, hr, Bool.false_and, Bool.or_false, Bool.not_true, Bool.false_eq_true, if_false, hrate,
    hpart, raiseIf]

theorem barrierStatus_of_count {s : State} (passed : Nat) (h : s.ring.ringNodes ≠ 0 ∨ s.ring.ringState = 3) :
    barrierStatus s passed = (if passed = s.ring.ringNodes then stOk else stAborted, s) := if_pos h

theorem barrierStatus_of_noCount {s : State} (passed : Nat) (h0 : s.ring.ringNodes = 0) (h3 : s.ring.ringState ≠ 3) :
    barrierStatus s passed = (if (Config.free s.fresh).getLsbD 0 then stOk else stAborted, { s with fresh := s.fresh + 1 }) :=
  if_neg (by simp [h0, h3])

theorem endBarrier_single {s u : State} {k : Token} {b : BarrierRun} {st : Nat} (hb : s.ring.barriers = [b]) (hk : b.token.same k = true)
    (hst : barrierStatus (s.setRing { s.ring with barriers := [] }) k.passed = (st, u)) :
    endBarrier s k = finishBegun u b.part 0x0304 b.cmdTag st (leBytes 1 k.passed) := by
  simp only [endBarrier, hb, takeFirst, hk, if_true, hst]

/-- Settles O9, instant by instant. -/
theorem ringTimersAndTokens : Obligations.RingTimersAndTokens := by
  unfold Obligations.RingTimersAndTokens
  refine ⟨fun s hm hp hd h0 => congrArg Host.Outcome.next (beaconTimer_of_first hm hp hd h0), fun s hrole hm hp hl => ?takeOver,
    fun s hm hp hl => ?walk, fun s n hw hl => ?walkWest,
    fun s port rate partner crossed hport hdown hring hcfg hr hrate hpart hcr => ⟨_, rfl, ?linkUp⟩, fun s port hport => ⟨?linkDown, ?noLink⟩,
    fun s f hv ht hl hport => ⟨fun hi => ?other, fun hi hn hdir => ?own⟩,
    fun s k b hb hk => ⟨fun hc => ?counted, fun h0 h3 => ?uncounted⟩, fun s ho => ?release⟩
  case takeOver =>
    refine congrArg Host.Outcome.next (if_neg ?_)
    simp [hrole, hm, hp, Nat.not_lt.mpr hl]
  case walk => exact congrArg Host.Outcome.next (if_pos (by simp [hm, hp, hl]))
  case walkWest =>
    show execWalkTimeout s = _
    simp only [execWalkTimeout, hw, if_pos (show s.lt > n + 1000000 from hl)]
    rfl
  case linkUp =>
    subst hcr
    exact (if_pos (show port < 14 by omega)).trans (congrArg Host.Outcome.next (linkUp_of_match hdown hring hcfg hr hrate hpart))
  case linkDown => exact if_pos hport
  case noLink =>
    intro hdown
    simp [linkDown, hdown]
  case other =>
    refine congrArg Host.Outcome.next ((grtForm_of hv ht hl).trans ?_)
    dsimp only
    rw [if_neg (by omega)]
    exact if_neg fun h => hi h.1
  case own =>
    refine congrArg Host.Outcome.next ((grtForm_of hv ht hl).trans ?_)
    dsimp only
    rw [if_neg (by omega)]
    refine (if_pos ⟨hi, hn⟩).trans (if_neg ?_)
    rcases hdir with h | h <;> simp [h]
  case counted => exact endBarrier_single hb hk (barrierStatus_of_count _ hc)
  case uncounted =>
    refine ⟨if (Config.free s.fresh).getLsbD 0 then stOk else stAborted, ?_, endBarrier_single hb hk (barrierStatus_of_noCount _ h0 h3)⟩
    split <;> simp
  case release => exact congrArg Host.Outcome.next (if_pos (by simp [ho]))

end Sys2Proof.Machine

/-!
SUPPORT, O10 and O11 (chapters 3 and 5). Each row's own checks pass under the conditions of its clause.
-/
namespace Sys2Proof.Machine

theorem within_of {lo hi n : Nat} (hlo : lo ≤ n) (hhi : n ≤ hi) : within lo hi n = true := by
  simp [within, hlo, hhi]

theorem maxFrame_ok {p n : Nat} (h : if p = 0 ∨ p = 1 ∨ p = 14 then n = 2048 else 64 ≤ n ∧ n ≤ 2048) :
    (if p = 0 ∨ p = 1 ∨ p = 14 then n == 2048 else within 64 2048 n) = true := by
  split at h
  · next hp => simp [hp, h]
  · next hp => simp [hp, within, h]

/-- Settles O10, row by row. -/
theorem switchTableCommands : Obligations.SwitchTableCommands := by
  unfold Obligations.SwitchTableCommands
  intro d s t c
  refine ⟨fun p h hl ho hmx hv hv' hcl hle hmap hfl => ?portCfg, fun w h hv hv' hf ht hz hw => ?fdbWrite, fun h hv hv' => ?fdbDelete,
    fun l h hi hlen hlen0 hown hl hfit => ?fdbRead, fun h ha hp => ?flushAll, fun h ha hp hp' => ?flushPort,
    fun h hi hi' hm hn hz hq hq' hz' hcount => ?dset⟩
  case portCfg =>
    refine cmdRow_ok bodyPortCfg h (?_ : bodyPortCfg c t = _)
    rw [bodyPortCfg, handle_of_localRes hl]
    dsimp only
    rw [maxFrame_ok hmx, within_of hv hv', decide_eq_true hcl, decide_eq_true hle, decide_eq_true hmap, decide_eq_true hfl,
      ownRes_of_free_class (c := c) ho]
    rfl
  case fdbWrite =>
    refine cmdRow_ok bodyFdbWrite h (?_ : bodyFdbWrite c t = _)
    simp [bodyFdbWrite, within_of hv hv', hf, ht, hz, hw]
  case fdbDelete =>
    refine cmdRow_ok bodyFdbDelete h (?_ : bodyFdbDelete c t = _)
    simp [bodyFdbDelete, within_of hv hv']
  case fdbRead =>
    refine cmdRow_ok bodyFdbRead h (?_ : bodyFdbRead c t = _)
    have hlen' : c.len % 16 = 0 := hlen
    have hlen0' : (c.len != 0) = true := bne_iff_ne.mpr hlen0
    have hall : l.take (c.len / 16) = l := List.take_of_length_le hfit
    simp only [bodyFdbRead, ← hl, hall, hi, hlen', hown, hlen0']
    simp
  case flushAll =>
    refine cmdRow_ok bodyFdbFlush h (?_ : bodyFdbFlush c t = _)
    simp [bodyFdbFlush, ha, hp]
  case flushPort =>
    refine cmdRow_ok bodyFdbFlush h (?_ : bodyFdbFlush c t = _)
    simp [bodyFdbFlush, ha, hp', beq_false_of_ne (show c.u 9 1 ≠ 0xFF by omega), show ¬c.u 9 1 ≤ 1 by omega]
  case dset =>
    refine cmdRow_ok bodyDsetWrite h (?_ : bodyDsetWrite c t = _)
    simp only [bodyDsetWrite, within_of hi hi', hm, decide_eq_true hn, hz, hq, hq', hz', decide_eq_true hcount]
    rfl

/-- A rule that samples nothing into a queue of its own, or into one that another rule holds, binds nothing (R136). -/
theorem canaryLeave_of_disabled {s : State} {r : Nat} (h : (s.canary r).enable = false) : canaryLeave s r = s := by
  simp [canaryLeave, h]

/-- Settles O11, row by row. -/
theorem streamLimitCanaryCommands : Obligations.StreamLimitCanaryCommands := by
  unfold Obligations.StreamLimitCanaryCommands
  intro d s t c
  refine ⟨fun e h hl ho hlen hown hmode hin hdest hcir hcbs hcbs' => ?streamWrite, fun e h hl hr hlen hown => ?streamRead,
    fun p h hl ho hk hv => ?limitSet, fun h hr hm hp => ?poolSet, fun h hk hv hv' hf => ?ageSet,
    fun h hr hen hp hm hz hn hq hz' hoq hfw ho hold huse => ?canarySet⟩
  case streamWrite =>
    refine cmdRow_ok bodyStreamWrite h (?_ : bodyStreamWrite c t = _)
    have hlen' : (c.len == 64) = true := beq_iff_eq.mpr hlen
    have hdest' : (leAt c.bulk 28 2 == 0xFFFF || decide (leAt c.bulk 28 2 < 1024)) = true := by simpa using hdest
    simp only [bodyStreamWrite, handle_of_localRes hl, hlen', bne_iff_ne.mpr hmode, bne_iff_ne.mpr hin, hdest', decide_eq_true hcir,
      within_of hcbs hcbs', hown, ownRes_of_free_class (c := c) ho]
    rfl
  case streamRead =>
    refine cmdRow_ok bodyStreamRead h (?_ : bodyStreamRead c t = _)
    have hlen' : (c.len == 64) = true := beq_iff_eq.mpr hlen
    have hread : t.mayRead c.p 8 e = true := hr
    simp [bodyStreamRead, handle_of_localRes hl, hlen', hown, readRes, hread]
  case limitSet =>
    refine cmdRow_ok bodyLimitSet h (?_ : bodyLimitSet c t = _)
    have hk' : (c.u 12 1 == 0xFF || decide (c.u 12 1 < 8)) = true := by simpa using hk
    simp only [bodyLimitSet, handle_of_localRes hl, hk', decide_eq_true hv, ownRes_of_free_class (c := c) ho]
    rfl
  case poolSet =>
    refine cmdRow_ok bodyPoolSet h (?_ : bodyPoolSet c t = _)
    simp [bodyPoolSet, hr, hm, hp, okS]
  case ageSet =>
    refine cmdRow_ok bodyAgeSet h (?_ : bodyAgeSet c t = _)
    have hf' : (c.u 16 4 == 0 || within 10 65535 (c.u 16 4)) = true := by simpa [within] using hf
    simp [bodyAgeSet, hk, within_of hv hv', hf', okS]
  case canarySet =>
    refine cmdRow_ok bodyCanarySet h (?_ : bodyCanarySet c t = _)
    have hoq' : t.owns c.p 5 (c.u 22 2) = true := hoq
    have ho' : t.owns c.p 9 (c.u 17 1) = true := ho
    have hm' : (c.u 18 1 != 0) = true := bne_iff_ne.mpr hm
    have hn' : (c.u 20 2 != 0) = true := bne_iff_ne.mpr hn
    rcases huse with h0 | ⟨h1, huse⟩
    case inl =>
      simp only [bodyCanarySet, hr, hp, hz, hz', hm', hn', hq, hoq', hfw, ho', hold, canaryLeave_of_disabled hold, h0]
      rfl
    case inr =>
      simp only [bodyCanarySet, hr, hp, hz, hz', hm', hn', hq, hoq', hfw, ho', hold, canaryLeave_of_disabled hold, h1, huse]
      simp [chkSt, bitAt, okS, Cmd.p, b2n]
      rfl

end Sys2Proof.Machine

/-!
SUPPORT and O12 (R81, R123 to R128, R135). Each row's own checks pass under the conditions of its clause.
-/
namespace Sys2Proof.Machine

/-- Opening or closing the gates moves no class between groups (R125, R127). -/
theorem setGate_groups (x : Port) (on : Bool) (now : Nat) :
    (setGate x on now).strictCount = x.strictCount ∧ (setGate x on now).rr = x.rr ∧ (setGate x on now).deficit = x.deficit := by
  unfold setGate
  split
  · exact ⟨rfl, rfl, rfl⟩
  · split
    · split <;> exact ⟨rfl, rfl, rfl⟩
    · exact ⟨rfl, rfl, rfl⟩

theorem regroup_deficit {x : Port} {n k : Nat} (hk : k < 8)
    (hmoved : decide (k + x.strictCount ≤ 7) ≠ decide (k + n ≤ 7)) : (regroup x n).deficit.getD k 1 = 0 := by
  have hkept : (decide (k + x.strictCount ≤ 7) == decide (k + n ≤ 7)) = false := beq_false_of_ne hmoved
  simp only [regroup, List.getD, List.getElem?_map, List.getElem?_range hk, Option.map_some, hkept]
  rfl

/-- What SCHED_SET gives a port but port 14 (R123 to R127). -/
def Port.scheduled (x : Port) (c : Cmd) : Port :=
  { x with overhead := c.i 12 1, lateLimit := c.u 16 4, weight := (c.bytes 20 8).map BitVec.toNat }

theorem bodySchedSet_port {c : Cmd} {s : State} {p : Nat} (hl : localRes s c.p (c.u 8 4) = some (9, p)) (ho : s.owns c.p 9 p = true)
    (hp : p ≠ 14) (hov : -64 ≤ c.i 12 1) (hst : c.u 13 1 ≤ 4) (hg : c.u 14 1 ≤ 1) (hlate : c.u 16 4 ≤ 16777215)
    (hw : ((c.bytes 20 8).map BitVec.toNat).all (· != 0) = true) :
    bodySchedSet c s = okS (s.setPort p (setGate
      (if (s.port p).strictCount = c.u 13 1 then (s.port p).scheduled c else regroup ((s.port p).scheduled c) (c.u 13 1))
      (c.u 14 1 == 1) s.work)) := by
  simp only [bodySchedSet, handle_of_localRes hl, decide_eq_true hov, if_neg hp, decide_eq_true hst, decide_eq_true hg, decide_eq_true hlate,
    hw, ownRes_of_free_class ho]
  rfl

/-- Settles O12, row by row. -/
theorem schedulingCommands : Obligations.SchedulingCommands := by
  unfold Obligations.SchedulingCommands
  intro d s t c
  refine ⟨fun p h hl ho hp hov hst hg hlate hw hsame => ?sched, fun p h hl ho hp hov hst hg hlate hw hdiff => ?regroup,
    fun h hl ho hov h1 h2 h3 h4 => ?sched14, fun p r h hl ho hp hr hn hn' hlen hns hcy hcy' hmod hint hown => ?rosterSet,
    fun p r h hl hread hsel hr hmod hlen hown hfit => ?rosterRead, fun cls i obj x h hobj ho hm hper hu hu' hv hv' hne hx => ?sampleCfg,
    fun cls i obj h hobj hread hm hlen hown => ?sampleRead⟩
  case sched =>
    refine cmdRow_ok bodySchedSet h ((bodySchedSet_port (c := c) hl ho hp hov hst hg hlate hw).trans ?_)
    rw [if_pos hsame]
    rfl
  case regroup =>
    let y := regroup ((t.port p).scheduled c) (c.u 13 1)
    obtain ⟨hstrict, hrr, hdef⟩ := setGate_groups y (c.u 14 1 == 1) t.work
    refine ⟨setGate y (c.u 14 1 == 1) t.work, ?_, hstrict, hrr, fun k hk hmoved => ?_⟩
    · refine cmdRow_ok bodySchedSet h ((bodySchedSet_port (c := c) hl ho hp hov hst hg hlate hw).trans ?_)
      rw [if_neg hdiff]
      rfl
    · rw [hdef]
      exact regroup_deficit hk hmoved
  case sched14 =>
    refine cmdRow_ok bodySchedSet h (?_ : bodySchedSet c t = _)
    simp [bodySchedSet, handle_of_localRes hl, hov, h1, h2, h3, h4, ownRes_of_free_class (c := c) ho, okS]
  case rosterSet =>
    refine cmdRow_ok bodyRosterSet h (?_ : bodyRosterSet c t = _)
    have hlen' : (c.len == 32 + 4 * leAt c.bulk 16 2) = true := beq_iff_eq.mpr hlen
    subst hr
    simp only [bodyRosterSet, handle_of_localRes hl, decide_eq_true hp, within_of hn hn', hlen', decide_eq_true hns, within_of hcy hcy', hmod,
      hint, hown, ownRes_of_free_class (c := c) ho]
    rfl
  case rosterRead =>
    refine cmdRow_ok bodyRosterRead h (?_ : bodyRosterRead c t = _)
    have hmod' : c.len % 8 = 0 := hmod
    have hlen' : c.len ≤ 4128 := hlen
    have hread' : t.mayRead c.p 9 p = true := hread
    have hfit' : r.bytes.length ≤ c.len := hfit
    simp [bodyRosterRead, handle_of_localRes hl, hsel, hr, hmod', hlen', hown, readRes, hread', hfit']
  case sampleCfg =>
    refine cmdRow_ok bodySampleCfg h (?_ : bodySampleCfg c t = _)
    have ho' : t.owns c.p cls i = true := ho
    have hnew : ((t.sampler obj).depthMode == bitAt (c.u 13 1) 0 && (t.sampler obj).sojMode == bitAt (c.u 13 1) 1
        && (t.sampler obj).uDepth == c.u 20 4 && (t.sampler obj).uSoj == c.u 24 4) = false := by
      simp [hne]
    simp only [bodySampleCfg, hobj, decide_eq_true hm, hper, within_of hu hu', within_of hv hv', ho', hnew, hx]
    rfl
  case sampleRead =>
    refine cmdRow_ok bodySampleRead h (?_ : bodySampleRead c t = _)
    have hlen' : (c.len == 152) = true := beq_iff_eq.mpr hlen
    have hread' : t.mayRead c.p cls i = true := hread
    simp [bodySampleRead, hobj, hm, hlen', hown, readRes, hread']

end Sys2Proof.Machine

/-!
SUPPORT and O13 (R14, R33, R79, R84, R97). What the head and the end of a frame without copies do.
-/
namespace Sys2Proof.Machine

theorem streamOf_of_empty {s : State} (port : Nat) (f : Frame) (h : s.sw.streams = []) : streamOf s port f = none := by
  simp [streamOf, h]

theorem coverFrame_of_plain {f : Frame} (h : f.macsec = none) : coverFrame f = f := by
  simp [coverFrame, h]

theorem etherType_of_not_linkLocal {f : Frame} (h : isLinkLocal f = false) : (f.etherType != 0x88F7) = true := by
  simp only [isLinkLocal, Bool.or_eq_false_iff] at h
  simp [bne, h.1]

/-- The head of a plain frame on a ring port without MACsec and streams is the ring's to judge. -/
theorem headCore_ring {s : State} {port : Nat} {f : Frame} (hp : port ≤ 1) (hkw : (s.port port).link.keyWait = false)
    (hm : (s.port port).macsec.enable = false) (hf : f.macsec = none) (hst : s.sw.streams = []) (hlen : 64 ≤ f.len)
    (hll : isLinkLocal f = false) :
    headCore s port f s.work none none false =
      let r := headRing s port f { frame := f, cls := frameClass s port f none, since := s.work, headAt := s.lt, got := 64 }
      r.2.setPort port { r.2.port port with rx := some r.1 } := by
  have hgood : macsecBad (s.port port).macsec f = false := by simp [macsecBad, hm]
  simp only [headCore, hm, Bool.false_eq_true, if_false, coverFrame_of_plain hf, hll, streamOf_of_empty port f hst, hgood, hkw, Bool.false_and,
    Bool.or_false, if_neg (Nat.not_lt.mpr hlen), if_pos hp, Nat.min_eq_left hlen]

/-- A frame without copies grows by its length alone. -/
theorem arriveTo_noCopies {s : State} {port n : Nat} {r : RxFrame} (hr : (s.port port).rx = some r) (hc : r.copies = [])
    (ht : r.tooLong = false) (hn : r.got < n) :
    arriveTo s port n = if (s.port port).maxFrame < n then
        (s.count cRxOversize port).setPort port { s.port port with rx := some { r with got := n, tooLong := true } }
      else s.setPort port { s.port port with rx := some { r with got := n } } := by
  have hgrow : ¬(n ≤ r.got ∨ r.tooLong = true) := by simp [ht, hn]
  obtain ⟨⟩ := r
  subst hc
  simp only [arriveTo, hr, if_neg hgrow]
  rfl

section
variable {s v : State} {port bad len : Nat} {r : RxFrame}

theorem endCore_of_idle (h : (s.port port).rx = none) : endCore s port bad len = s := by
  simp [endCore, arriveTo, h]

/-- Where no rule samples, a canary tap does nothing (R136). -/
theorem canaryTap_of_empty (h : v.sw.canaries = []) (dir cls since : Nat) (b st cut : Bool) (f : Frame) (fcs : List Byte) :
    canaryTap v dir port cls since b st cut f fcs = v := by
  simp [canaryTap, h, forEach]

theorem rxFcs_canaries (f : Frame) : (rxFcs v bad f).2.sw.canaries = v.sw.canaries := by
  unfold rxFcs
  split <;> rfl

/-- The end of a frame without copies: its octets are counted, and then the counter of its cause. -/
theorem endCore_noCopies {u w : State} {drop : Option CtrId} (hr : ((arriveTo s port len).port port).rx = some r) (hc : r.copies = [])
    (hu : u = (((arriveTo s port len).setPort port { (arriveTo s port len).port port with rx := none }).count cRxFrames port).count
      cRxBytes port len)
    (hw : (if len < 64 then (none, u.count cRxRunt port) else if r.tooLong then (none, u)
      else if bad ≠ 0 then (none, u.count (badCounter bad) port) else if r.macBad then (none, u.count cMacsecDrop port)
      else endWhole u port r len) = (drop, w)) (hcan : w.sw.canaries = []) :
    endCore s port bad len = (rxFcs w bad { r.frame with len := len }).2 := by
  subst hu
  simp only [endCore, hr, hc]
  simp only [forEach, List.foldl_nil, hw]
  exact canaryTap_of_empty ((rxFcs_canaries _).trans hcan) ..

end

/-- Settles O13, clause by clause. -/
theorem frameReception : Obligations.FrameReception := by
  unfold Obligations.FrameReception
  intro port f s hp h14
  have head : exec (.frameHead port f) s = .next (if (s.port port).rx.isSome ∨ (port ≠ 15 ∧ !(s.port port).link.up) then s
      else if s.crossable 1 then headCore s port f s.work none none false else holdWord s 0 1) := if_pos ⟨hp, h14⟩
  have live (hrx : (s.port port).rx = none) (hup : port = 15 ∨ (s.port port).link.up = true) :
      ¬((s.port port).rx.isSome ∨ (port ≠ 15 ∧ !(s.port port).link.up)) := by
    rw [hrx]
    rcases hup with h | h <;> simp [h]
  have tail (bad len : Nat) : exec (.frameEnd port bad len) s = .next (endCore s port bad len) := if_pos ⟨hp, h14⟩
  refine ⟨fun hx hrx hup => ?crossed, fun hx hrx hup => ?stopped, fun hidle => ?ignored,
    fun n hring hx hrx hup hkw hm hf hst hlen hll hsn hown => ?returned, fun hring hx hrx hup hkw hm hf hst hlen hll hsn => ?noTag, tail,
    fun bad len hrx => ?endIdle, fun r n hr hc ht hn => arriveTo_noCopies hr hc ht hn, fun bad len r _ hr hc hcan => ?ends⟩
  case crossed => rw [head, if_neg (live hrx hup), if_pos hx]
  case stopped => rw [head, if_neg (live hrx hup), if_neg (by simp [hx])]
  case ignored =>
    rw [head, if_pos]
    simpa using hidle
  case returned =>
    have hmine : s.ownMac f.smac = true := by simp [State.ownMac, hown]
    rw [head, if_neg (live hrx (.inr hup)), if_pos hx, headCore_ring hring hkw hm hf hst hlen hll]
    simp only [headRing, hsrArrive, hsn, hmine, Bool.true_or, if_true]
    rfl
  case noTag =>
    rw [head, if_neg (live hrx (.inr hup)), if_pos hx, headCore_ring hring hkw hm hf hst hlen hll]
    simp only [headRing, hsrArrive, hsn]
    rfl
  case endIdle => rw [tail, endCore_of_idle hrx]
  case ends =>
    have reach {w : State} := fun hw hcw => (tail bad len).trans (congrArg Host.Outcome.next (endCore_noCopies (w := w) (drop := none) hr hc rfl hw hcw))
    refine ⟨fun hlt => ?_, fun hge hl => ?_, fun hge hl hb => ?_, fun hge hl hb => ?_, fun hge hl hb => ?_, fun hge hl hb hmb => ?_⟩
    · exact reach (if_pos hlt) hcan
    all_goals refine reach (w := _) ?_ hcan; rw [if_neg (Nat.not_lt.mpr hge)]
    · rw [if_pos hl]
    all_goals rw [hl, hb]
    · rfl
    · rfl
    · rfl
    · rw [hmb]; rfl

end Sys2Proof.Machine

/-!
SUPPORT and O14 (R33, R76, R81, R94, R123 to R135). What transmission, selection, gates and sampling do at their instants.
-/
namespace Sys2Proof.Machine

theorem finishTx_of_idle {s : State} {p : Nat} (h : (s.port p).sending = none) : finishTx s p = (none, s) := by
  simp [finishTx, h]

/-- A port that sends selects nothing (R123). -/
theorem trySelect_of_sending {s : State} {p : Nat} (h : (s.port p).sending.isSome = true) (he : (s.port p).macsec.exhausted = false) :
    trySelect s p = s := by
  obtain ⟨k, hk⟩ := Option.isSome_iff_exists.mp h
  simp [trySelect, he, hk]

theorem forEach_of_fixed {α : Type} {l : List α} {s : State} {f : α → State → State} (h : ∀ a, f a s = s) : forEach l s f = s := by
  rw [forEach]
  induction l with
  | nil => rfl
  | cons a l ih => rw [List.foldl_cons, h, ih]

theorem showOne_of_shown {s : State} {q : Nat} (h : (s.queue q).fresh = []) : showOne s q = s := by
  simp [showOne, h]

/-- Settles O14, instant by instant. -/
theorem egressEvents : Obligations.EgressEvents := by
  unfold Obligations.EgressEvents
  refine ⟨fun port s hp h14 => ⟨fun hs => ?free, fun h15 => ?sent, if_pos ⟨hp, h14⟩, if_pos ⟨hp, h14⟩, fun hs he => ?busy, fun x hx hle => ?switch,
    fun c k t hc hk ht hle => ?launch⟩, fun s hyoung => ?sweep, fun s mac vlan => rfl, fun s mac => rfl, fun s mac => rfl,
    fun s obj ho => ⟨fun hper hdue => ?sample, fun hnot => ?noSample⟩, fun s q hq hf hk => ?nothing, fun s q hq => if_pos hq⟩
  case free =>
    refine (if_pos ⟨hp, h14⟩).trans ?_
    rw [finishTx_of_idle hs]
  case sent =>
    refine (if_pos ⟨hp, h14⟩).trans (congrArg Host.Outcome.next ?_)
    split
    · next k u h => rw [h]; simp [h15]
    · next u h => rw [h]
  case busy => exact (if_pos ⟨hp, h14⟩).trans (congrArg Host.Outcome.next (trySelect_of_sending hs he))
  case switch =>
    refine (if_pos ⟨hp, h14⟩).trans (congrArg Host.Outcome.next ?_)
    rw [hx]
    exact if_pos hle
  case launch =>
    refine (if_pos ⟨hp, h14, hc⟩).trans (congrArg Host.Outcome.next ?_)
    simp only [hk, ht]
    exact if_pos hle
  case sweep =>
    refine congrArg Host.Outcome.next (forEach_of_fixed fun p => forEach_of_fixed fun c => ?_)
    split
    · next k hk => exact if_neg (by simp [hyoung p c k hk])
    · rfl
  case sample => exact (if_pos ho).trans (congrArg Host.Outcome.next (if_pos ⟨hper, hdue⟩))
  case noSample =>
    refine (if_pos ho).trans (congrArg Host.Outcome.next (if_neg ?_))
    rintro ⟨hper, hdue⟩
    rcases hnot with h | h
    · exact hper h
    · exact Nat.not_lt.mpr h hdue
  case nothing =>
    refine (if_pos hq).trans (congrArg Host.Outcome.next ?_)
    dsimp only
    rw [showOne_of_shown hf, hk]
    rfl

end Sys2Proof.Machine

/-!
SUPPORT and O15 (R103 to R108, R117 to R121). Each row's own checks pass under the conditions of its clause.
-/
namespace Sys2Proof.Machine

/-- A queue without a watermark settles unarmed or armed, and never above (R117). -/
theorem wmEval_of_unwatched {s : State} {q : Nat} (h : (s.queue q).wmark = 0) :
    wmEval s q = s.setQueue q { s.queue q with above := false, wmArmed := (s.queue q).wmArmed || !(s.queue q).wmPending } := by
  simp [wmEval, h]

theorem forwardHead_of_not_port14 {s : State} {q : Nat} (h : (s.queue q).cons ≠ .port14) : forwardHead s q = s := by
  unfold forwardHead
  dsimp only
  split
  · rfl
  · exact if_pos (by simp [h])

theorem forwardAll_of_not_port14 {s : State} {q : Nat} (h : (s.queue q).cons ≠ .port14) (n : Nat) : forwardAll s q n = s := by
  induction n with
  | zero => rfl
  | succ n ih => rw [forwardAll, forwardHead_of_not_port14 h, ih]

/-- The settings that Q_CONFIG writes, before the watermark is tested (R103). -/
def Queue.configured (x : Queue) (c : Cmd) : Queue :=
  { x with
    enable := bitAt (c.u 12 2) 0, hold := bitAt (c.u 12 2) 1, pin := bitAt (c.u 12 2) 2 || x.isEvent, dma := bitAt (c.u 12 2) 3
    urNotice := bitAt (c.u 12 2) 4, noticeEn := bitAt (c.u 12 2) 5, limit := c.u 16 4, wmark := c.u 20 4, launchSrc := c.u 24 1
    launchUnit := c.u 25 1, lastPop := 0 }

theorem fwHeld_of_free_queue {s : State} {q : Nat} (h : (s.queue q).fwUse = 0) : s.fwHeld 5 q = false := by
  simp [State.fwHeld, h]

theorem quiet_of_empty {x : Queue} (hp : x.packets = []) (hf : x.fresh = []) (ha : x.arriving = []) (ho : x.opn = none)
    (hs : x.presented = false) : x.quiet = true := by
  simp [Queue.quiet, Queue.openCells, hp, hf, ha, ho, hs, sumNat]

/-- Settles O15, row by row. -/
theorem queueCommands : Obligations.QueueCommands := by
  unfold Obligations.QueueCommands
  intro d s t c
  have own {q : Nat} (ho : t.owns d.part 5 q = true) (hfw : (t.queue q).fwUse = 0) (r : CmdRes) : ownRes t c 5 q r = r :=
    ownRes_of_owns (c := c) ho (fwHeld_of_free_queue hfw)
  refine ⟨fun q h hl hfw ho hv hlim hwm hls hlu hmode hdma hcons => ?config, fun q h hl hfw ho hv hlim hwm hls hlu hmode hbusy => ?refused,
    fun q h hl hfw ho => ⟨fun h0 hk => ?unbind, fun h0 hk hfree hpair => ?bindProd, fun h0 hk hbound hpair => ?second,
      fun h1 hk hfree hpair => ?bindCons⟩,
    fun q h hl hfw ho hp hf hop har hwm => ?flush, fun q h hl hfw ho hop hwm => ?flushLater, fun q h hl hread => ?desc,
    fun q h hl hfw ho hvec hbase hwb hsize hslots hp hf har hop hpres => ?ring, fun l h hmod hlen hown hl hfit => ?map⟩
  case config =>
    refine cmdRow_ok bodyQConfig h (?_ : bodyQConfig c t = _)
    have hmode' : ((bitAt (c.u 12 2) 1 == (t.queue q).hold && bitAt (c.u 12 2) 3 == (t.queue q).dma) || (t.queue q).quiet) = true := by
      rcases hmode with ⟨hh, hd⟩ | hq <;> simp [*]
    have hdma' : (!bitAt (c.u 12 2) 3 || !(t.boundAtts (t.owner 5 q) 0 8).isEmpty) = true := by
      cases hb : bitAt (c.u 12 2) 3 <;> simp [hdma, hb]
    have hnot2 : (c.u 24 1 != 2) = true := bne_iff_ne.mpr (by omega)
    have hsettled : forwardAll (wmEval (t.setQueue q ((t.queue q).configured c)) q) q
        ((t.setQueue q ((t.queue q).configured c)).queue q).packets.length
        = t.setQueue q { (t.queue q).configured c with
          above := false, wmArmed := (t.queue q).wmArmed || !(t.queue q).wmPending } := by
      rw [wmEval_of_unwatched (by simp [Queue.configured, hwm]), forwardAll_of_not_port14 (by simpa [Queue.configured] using hcons),
        State.setQueue_setQueue, State.setQueue_queue_same]
      rfl
    simp only [bodyQConfig, handle_of_localRes hl, decide_eq_true hv, decide_eq_true hlim, decide_eq_true (show c.u 20 4 ≤ 4194304 by omega),
      decide_eq_true (show c.u 24 1 ≤ 2 by omega), decide_eq_true hlu, own ho hfw, hnot2, hmode', hdma']
    refine (congrArg okS hsettled).trans ?_
    simp only [Queue.configured, hwm]
    rfl
  case refused =>
    refine cmdRow_fail bodyQConfig h (?_ : bodyQConfig c t = _)
    have hmode' : ((bitAt (c.u 12 2) 1 == (t.queue q).hold && bitAt (c.u 12 2) 3 == (t.queue q).dma) || (t.queue q).quiet) = false := by
      simp [beq_false_of_ne hmode, hbusy]
    have hnot2 : (c.u 24 1 != 2) = true := bne_iff_ne.mpr (by omega)
    simp only [bodyQConfig, handle_of_localRes hl, decide_eq_true hv, decide_eq_true hlim, decide_eq_true hwm,
      decide_eq_true (show c.u 24 1 ≤ 2 by omega), decide_eq_true hlu, own ho hfw, hnot2, hmode']
    rfl
  case unbind =>
    refine cmdRow_ok bodyQBind h (?_ : bodyQBind c t = _)
    simp only [bodyQBind, handle_of_localRes hl, h0, hk, if_true, prodOfKind, own ho hfw]
    rfl
  case bindProd =>
    refine cmdRow_ok bodyQBind h (?_ : bodyQBind c t = _)
    have hst : prodBindStatus t q .host = stOk := by simp [prodBindStatus, hpair, hfree]
    simp only [bodyQBind, handle_of_localRes hl, h0, hk, if_true, prodOfKind, own ho hfw]
    simp [hst, chkSt, okS, bindProd]
  case second =>
    refine cmdRow_fail bodyQBind h (?_ : bodyQBind c t = _)
    have hst : prodBindStatus t q .host = stBusy := by simp [prodBindStatus, hpair, hbound]
    simp only [bodyQBind, handle_of_localRes hl, h0, hk, if_true, prodOfKind, own ho hfw]
    simp [hst, chkSt, stOk, stBusy]
  case bindCons =>
    refine cmdRow_ok bodyQBind h (?_ : bodyQBind c t = _)
    have hst : consBindStatus t q .host = stOk := by simp [consBindStatus, hpair, hfree]
    simp only [bodyQBind, handle_of_localRes hl, h1, hk, if_true, consOfKind, own ho hfw]
    have hdma : (Consumer.host != .dma) = true := rfl
    simp [hst, chkSt, okS, bindCons, forwardAll_of_not_port14, hdma]
  case flush =>
    let x := { t.queue q with popped := 0, lastPop := 0, above := false, flushPending := false
                              wmArmed := (t.queue q).wmArmed || !(t.queue q).wmPending }
    have hopen : (t.queue q).isOpen = false := by simp [Queue.isOpen, hop, har]
    have hempty : wmEval (flushReq t q) q = (t.count cFlushDrop q 0).setQueue q x := by
      have hflush : flushReq t q = (t.count cFlushDrop q 0).setQueue q x := by
        simp [flushReq, hopen, flushNow, hp, hf, forEach, hwm, x]
      rw [hflush, wmEval_of_unwatched (by simp [x, hwm])]
      simp [x]
    refine ⟨(t.count cFlushDrop q 0).setQueue q x, cmdRow_ok bodyQFlush h (?_ : bodyQFlush c t = _), ?_, by simp [x],
      fun r hr => by simp [hr]⟩
    · simp only [bodyQFlush, handle_of_localRes hl, own ho hfw, hempty]
      simp [x, b2n]
    · simp [State.ctr, State.count]
  case flushLater =>
    refine cmdRow_ok bodyQFlush h (?_ : bodyQFlush c t = _)
    simp only [bodyQFlush, handle_of_localRes hl, own ho hfw, flushReq, hop, if_true]
    rw [wmEval_of_unwatched (by simp [hwm])]
    simp [b2n]
  case desc =>
    refine cmdRow_ok bodyQDesc h (?_ : bodyQDesc c t = _)
    have hread' : t.mayRead c.p 5 q = true := hread
    simp [bodyQDesc, handle_of_localRes hl, readRes, hread']
  case ring =>
    refine cmdRow_ok bodyDmaRingSet h (?_ : bodyDmaRingSet c t = _)
    have hquiet : (t.queue q).quiet = true := quiet_of_empty hp hf har hop hpres
    simp only [bodyDmaRingSet, handle_of_localRes hl, decide_eq_true hvec, hbase, hwb, hsize, hslots, hp, hf, har, hop, own ho hfw, hquiet]
    rfl
  case map =>
    refine cmdRow_ok bodyQMap h (?_ : bodyQMap c t = _)
    have hmod' : (c.len % 8 == 0) = true := beq_iff_eq.mpr hmod
    have hfit' : decide (4 * l.length ≤ c.len) = true := decide_eq_true hfit
    simp only [bodyQMap, ← hl, hmod', hown, hfit']
    rfl

end Sys2Proof.Machine

/-!
SUPPORT and O16 (R104 to R110, R118, R329). What a host's writes to the producer port of a queue do.
-/
namespace Sys2Proof.Machine

section
variable {a : Acc} {p q : Nat} {o : State}

/-- A write to a port of a queue by an open partition counts where it arrived, and acts only on a queue that the partition owns. -/
theorem portWrite_open (g : State → State) (hq : q < 4096) (hr : o.boot.rescue = false) (hw : o.who a = some p) (ho : o.isOpen p = true) :
    unit q 4096 (accessIn a o (fun s p => ownQueue s p q (ansOk (g s)))).s =
      .next (if (o.arrived a cAttWrites).owns p 5 q then g (o.arrived a cAttWrites) else o.arrived a cAttWrites) := by
  rw [unit, if_pos hq, accessIn_open _ hr hw ho]
  unfold ownQueue
  split <;> rfl

theorem execProdData_open (data : List Byte) (hd : data.length = 4 ∨ data.length = 8) (hq : q < 4096) (hr : o.boot.rescue = false)
    (hw : o.who a = some p) (ho : o.isOpen p = true) :
    execProdData a q data o =
      .next (if (o.arrived a cAttWrites).owns p 5 q then prodDataReg (o.arrived a cAttWrites) q data else o.arrived a cAttWrites) := by
  rw [execProdData, unit, if_pos hq, accessIn_open _ hr hw ho, if_pos hd]
  unfold ownQueue
  split <;> rfl

end

/-! Cells returned (R118): the pool and the ingress accounts change alone. -/

/-- Cells of the pool, those that join at the end of the cycle included. -/
def State.allFree (s : State) : Nat := s.freeCells + s.pool.freed.length

theorem queue_freeCell (s : State) (c r : Nat) : (freeCell s c).queue r = s.queue r := by
  unfold freeCell joinFreed
  split <;> rfl

theorem counters_freeCell (s : State) (c : Nat) : (freeCell s c).counters = s.counters := by
  unfold freeCell joinFreed
  split <;> rfl

theorem length_filter_split (l : List Nat) : (l.filter (· < 65536)).length + (l.filter (65536 ≤ ·)).length = l.length := by
  induction l with
  | nil => rfl
  | cons c l ih =>
    rw [List.filter_cons, List.filter_cons, List.length_cons]
    by_cases hc : c < 65536
    · rw [if_pos (decide_eq_true hc), if_neg (by simp [hc]), List.length_cons]
      omega
    · rw [if_neg (by simp [hc]), if_pos (decide_eq_true (Nat.le_of_not_lt hc)), List.length_cons]
      omega

theorem allFree_joinFreed (s : State) : (joinFreed s).allFree = s.allFree := by
  unfold joinFreed
  split
  · rfl
  · have hsplit := length_filter_split s.pool.freed
    simp only [State.allFree, State.freeCells, State.onFree, State.extFree, Pool.join, List.length_append, List.length_nil]
    omega

theorem allFree_freeCell (s : State) (c : Nat) : (freeCell s c).allFree = s.allFree + 1 := by
  rw [← allFree_joinFreed s]
  simp only [freeCell, State.allFree, State.freeCells, State.onFree, State.extFree, List.length_append, List.length_singleton]
  omega

theorem freeAll_cons (s : State) (c : Nat) (l : List Nat) : freeAll s (c :: l) = freeAll (freeCell s c) l := rfl

theorem allFree_freeAll (l : List Nat) (s : State) : (freeAll s l).allFree = s.allFree + l.length := by
  induction l generalizing s with
  | nil => rfl
  | cons c l ih => rw [freeAll_cons, ih, allFree_freeCell, List.length_cons, Nat.add_assoc, Nat.add_comm 1]

@[simp] theorem queue_freeAll (l : List Nat) (s : State) (r : Nat) : (freeAll s l).queue r = s.queue r := by
  induction l generalizing s with
  | nil => rfl
  | cons c l ih => rw [freeAll_cons, ih, queue_freeCell]

@[simp] theorem counters_freeAll (l : List Nat) (s : State) : (freeAll s l).counters = s.counters := by
  induction l generalizing s with
  | nil => rfl
  | cons c l ih => rw [freeAll_cons, ih, counters_freeCell]

@[simp] theorem queue_freePacket (s : State) (k : Packet) (r : Nat) : (freePacket s k).queue r = s.queue r := by
  rw [freePacket, queue_freeAll]
  unfold unchargePacket
  split <;> rfl

@[simp] theorem counters_freePacket (s : State) (k : Packet) : (freePacket s k).counters = s.counters := by
  rw [freePacket, counters_freeAll]
  unfold unchargePacket
  split <;> rfl

theorem freePackets_keep (l : List Packet) (s : State) :
    (∀ r, (forEach l s (fun k s => freePacket s k)).queue r = s.queue r) ∧
      (forEach l s (fun k s => freePacket s k)).counters = s.counters := by
  induction l generalizing s with
  | nil => exact ⟨fun _ => rfl, rfl⟩
  | cons k l ih =>
    obtain ⟨hq, hc⟩ := ih (freePacket s k)
    exact ⟨fun r => (hq r).trans (queue_freePacket s k r), hc.trans (counters_freePacket s k)⟩

@[simp] theorem ctr_count_same (s : State) (c : CtrId) (i n : Nat) : (s.count c i n).ctr c i = s.ctr c i + n := by
  simp [State.ctr, State.count]

theorem ctr_of_counters {s t : State} (h : t.counters = s.counters) (c : CtrId) (i : Nat) : t.ctr c i = s.ctr c i := by
  rw [State.ctr, h, State.ctr]

/-! The producer port's registers. -/

section
variable {s : State} {q : Nat}

theorem appendOpen_grown {v : State} {data : List Byte} {cls : Nat} {ev : Bool} (he : (s.queue q).enable = true)
    (hlen : (s.queue q).openBytes + data.length ≤ 2097152)
    (hg : growOpen (s.setQueue q { s.queue q with opn := some ((s.queue q).opn.getD {}) }) q cls ev
      (cellsFor ((s.queue q).openBytes + data.length) - ((s.queue q).opn.getD {}).cells.length) = (v, none)) :
    appendOpen s q data cls ev = (v.setQueue q { v.queue q with
      opn := some { (v.queue q).opn.getD {} with bytes := ((v.queue q).opn.getD {}).bytes ++ data }, lastWrite := data.length }, true) := by
  unfold appendOpen
  dsimp only
  rw [if_neg (by simp [he]), if_neg (Nat.not_lt.mpr hlen), hg]

theorem prodDataReg_of_appended {t : State} {data : List Byte} (hp : (s.queue q).prod = .host) (hr : (s.queue q).refused = false)
    (ha : appendOpen s q data 0 false = (t, true)) : prodDataReg s q data = t := by
  unfold prodDataReg
  dsimp only
  rw [if_neg (by simp [hp]), if_neg (by simp [hr]), ha]

theorem reserve_takeOn : (takeOn s).2.pool.reserve = s.pool.reserve := by
  unfold takeOn
  split <;> rfl

/-- A cell that the pool has on chip is granted for a queue below its LIMIT (R87 to R89, R100). -/
theorem grantForQueue_onChip (hlim : (s.queue q).charged < (s.queue q).limit) (hres : s.pool.reserve < s.freeCells)
    (hpin : s.pool.pinKeep < s.onFree) : grantForQueue s q 0 false none = .ok (takeOn s).1 (takeOn s).2 := by
  have htake : takeCell s (s.queue q).pinned = .ok (takeOn s).1 (takeOn s).2 := by
    unfold takeCell
    rw [if_pos (show s.onFree > s.pool.pinKeep from hpin), if_pos (show s.onFree > 0 by omega)]
    split <;> rfl
  have hroom : (s.freeCells > s.pool.reserve || (s.freeCells > 0 && (decide (0 ≥ s.pool.reserveMinClass) || false))) = true := by
    simp [hres]
  simp only [grantForQueue, Bool.false_eq_true, if_false, if_pos hlim, grantCell, if_pos hroom, htake, reserve_takeOn,
    decide_eq_false (Nat.not_le.mpr hres)]
  rfl

theorem takeOn_frame : (∀ r, (takeOn s).2.queue r = s.queue r) ∧ (takeOn s).2.counters = s.counters := by
  unfold takeOn
  split <;> exact ⟨fun _ => rfl, rfl⟩

/-- Which cell is next depends on the pool alone (R100). -/
theorem takeOn_fst : (takeOn s).1 = s.pool.onFreed.headD s.pool.onNext := by
  unfold takeOn
  split <;> next h => rw [h]; rfl

theorem freeCells_takeOn (h : 0 < s.onFree) : (takeOn s).2.freeCells + 1 = s.freeCells := by
  unfold takeOn
  simp only [State.freeCells, State.onFree, State.extFree] at h ⊢
  split <;> next hf => simp only [hf, List.length_cons, List.length_nil] at h ⊢; omega

/-- The first bytes of a packet take one cell (R104). -/
theorem appendOpen_first {d : List Byte} (he : (s.queue q).enable = true) (ho : (s.queue q).opn = none) (hd : 0 < d.length)
    (hd' : d.length ≤ 128) (hlim : (s.queue q).charged < (s.queue q).limit) (hres : s.pool.reserve < s.freeCells)
    (hpin : s.pool.pinKeep < s.onFree) :
    ∃ t, appendOpen s q d 0 false = (t, true) ∧ t.freeCells + 1 = s.freeCells ∧ t.counters = s.counters ∧
      t.queue q = { s.queue q with opn := some { bytes := d, cells := [(takeOn s).1] }, lastWrite := d.length } ∧
      ∀ r, r ≠ q → t.queue r = s.queue r := by
  let u := s.setQueue q { s.queue q with opn := some {} }
  have hcells : cellsFor ((s.queue q).openBytes + d.length) - ((s.queue q).opn.getD {}).cells.length = 1 := by
    simp only [Queue.openBytes, ho, cellsFor, Option.getD_none, List.length_nil]
    omega
  have hgrant : grantForQueue u q 0 false none = .ok (takeOn u).1 (takeOn u).2 := by
    refine grantForQueue_onChip ?_ hres hpin
    simpa [u, Queue.charged, Queue.openCells, Queue.depth, ho] using hlim
  obtain ⟨hqueue, hctr⟩ := takeOn_frame (s := u)
  have hgrow : growOpen (s.setQueue q { s.queue q with opn := some ((s.queue q).opn.getD {}) }) q 0 false
      (cellsFor ((s.queue q).openBytes + d.length) - ((s.queue q).opn.getD {}).cells.length)
      = ((takeOn u).2.setQueue q { s.queue q with opn := some { cells := [(takeOn u).1] } }, none) := by
    rw [hcells, ho]
    show growOpen u q 0 false 1 = _
    simp only [growOpen, hgrant, hqueue]
    simp [u]
  have hlen : (s.queue q).openBytes + d.length ≤ 2097152 := by
    simp only [Queue.openBytes, ho]
    omega
  have hfirst : (takeOn u).1 = (takeOn s).1 := by rw [takeOn_fst, takeOn_fst]; rfl
  refine ⟨_, appendOpen_grown he hlen hgrow, ?_, hctr, ?_, fun r hr => ?_⟩
  · exact freeCells_takeOn (s := u) (by show 0 < s.onFree; omega)
  · simp [hfirst]
  · simp [hr, hqueue, u]

theorem abortOpen_open {k : Packet} (ho : (s.queue q).opn = some k) (hf : (s.queue q).flushPending = false) :
    abortOpen s q = ((freePacket s k).count cAborts q).setQueue q { s.queue q with opn := none, lastWrite := 0 } := by
  simp only [abortOpen, ho]
  simp [flushIfPending, hf]

theorem abortOpen_idle (ho : (s.queue q).opn = none) : abortOpen s q = s := by
  simp [abortOpen, ho]

theorem allFree_freePacket {k : Packet} (hi : k.inPort = none) : (freePacket s k).allFree = s.allFree + k.cells.length := by
  rw [freePacket, allFree_freeAll]
  simp [unchargePacket, hi]

theorem trimOpen_whole {k : Packet} (ho : (s.queue q).opn = some k) (hc : k.cells.length = cellsFor k.bytes.length) :
    trimOpen s q 0 = s.setQueue q { s.queue q with opn := some k } := by
  simp [trimOpen, ho, ← hc, freeAll]

/-- The packet that a commit makes of an open one (R106, R116). -/
def Packet.committed (k : Packet) (s : State) (lost : Bool) : Packet :=
  { k with committedAt := s.work, launch := none, lost := lost, seq := s.pool.commits, atLt := s.lt }

/-- The state that has given one more place in commit order (R106). -/
def State.counting (s : State) : State := { s with pool := { s.pool with commits := s.pool.commits + 1 } }

theorem commitPacket_setQueue {x : Queue} (k : Packet) (hf : x.flushPending = false) :
    commitPacket (s.setQueue q x) q k none = ((s.counting.setQueue q {
      x with fresh := x.fresh ++ [k.committed s x.lostBefore], lostBefore := false }).count cEnqPackets q).count cEnqBytes q k.bytes.length := by
  let u := s.counting.setQueue q x
  have hcommit : commitPacket (s.setQueue q x) q k none = flushIfPending (((u.setQueue q { u.queue q with
      fresh := (u.queue q).fresh ++ [k.committed s (u.queue q).lostBefore], lostBefore := false }).count cEnqPackets q).count
      cEnqBytes q k.bytes.length) q := rfl
  have hu : u.queue q = x := State.setQueue_queue_same ..
  rw [hcommit, hu, State.setQueue_setQueue]
  simp [flushIfPending, hf]

theorem commitOpen_open {k : Packet} (he : (s.queue q).enable = true) (ho : (s.queue q).opn = some k) (hk : k.bytes ≠ [])
    (hf : (s.queue q).flushPending = false) :
    commitOpen s q none = ((s.counting.setQueue q { s.queue q with
        opn := none, lastWrite := 0, lostBefore := false
        fresh := (s.queue q).fresh ++ [k.committed s (s.queue q).lostBefore] }).count cEnqPackets q).count cEnqBytes q k.bytes.length := by
  unfold commitOpen
  dsimp only
  rw [if_neg (by simp [he]), ho]
  dsimp only
  rw [if_neg (by simp [hk])]
  refine commitPacket_setQueue k ?_
  exact hf

theorem prodCommitReg_empty (hp : (s.queue q).prod = .host) (hr : (s.queue q).refused = false) (he : (s.queue q).enable = true) :
    prodCommitReg s q 0 = commitOpen (trimOpen s q 0) q none := by
  simp [prodCommitReg, hp, hr, he]

/-- FLUSH of a queue that presents nothing and has nothing open takes out what waits (R108). -/
theorem flushReq_closed (ho : (s.queue q).isOpen = false) (hp : (s.queue q).presented = false) :
    ∃ t, flushReq s q = t ∧ t.ctr cFlushDrop q = s.ctr cFlushDrop q + (s.queue q).packets.length + (s.queue q).fresh.length ∧
      t.queue q = { s.queue q with
        packets := [], fresh := [], popped := 0, lastPop := 0, above := false, flushPending := false
        wmArmed := (s.queue q).wmArmed || !(s.queue q).wmPending } ∧ ∀ r, r ≠ q → t.queue r = s.queue r := by
  obtain ⟨hqueue, hctr⟩ := freePackets_keep ((s.queue q).packets ++ (s.queue q).fresh) s
  have hctr' := ctr_of_counters hctr cFlushDrop q
  generalize hu : forEach ((s.queue q).packets ++ (s.queue q).fresh) s (fun k s => freePacket s k) = u at hqueue hctr'
  have hdepth (w : Nat) : (w == 0 || decide (0 < w)) = true := by cases w <;> simp
  refine ⟨_, rfl, ?_, ?_, fun r hr => ?_⟩ <;> simp only [flushReq, ho, flushNow, hp, hu, Bool.false_eq_true, if_false]
  · show (u.count cFlushDrop q _).ctr cFlushDrop q = _
    rw [ctr_count_same, hctr', List.length_append, Nat.add_assoc]
  · simp [hqueue, Queue.depth, sumNat, hdepth, hp]
  · simp [hr, hqueue]

end

/-- Settles O16, register by register. -/
theorem queueProducerPort : Obligations.QueueProducerPort := by
  unfold Obligations.QueueProducerPort
  intro a p q o hq hr hw ho s x
  have row (g : State → State) : unit q 4096 (accessIn a o (fun s p => ownQueue s p q (ansOk (g s)))).s = .next (if s.owns p 5 q then g s else s) :=
    portWrite_open g hq hr hw ho
  have own (g : State → State) (hown : s.owns p 5 q = true) :
      unit q 4096 (accessIn a o (fun s p => ownQueue s p q (ansOk (g s)))).s = .next (g s) := (row g).trans (by rw [if_pos hown])
  have data (b : List Byte) (hb : b.length = 4 ∨ b.length = 8) (hown : s.owns p 5 q = true) :
      exec (.prodData a q b) o = .next (prodDataReg s q b) :=
    (execProdData_open b hb hq hr hw ho).trans (by rw [if_pos hown])
  refine ⟨fun hown b n => ?stranger, fun hown hp b n hb => ?conflict, fun b k hown hp hrf he ho' hb hroom hlen hi => ?fill,
    fun b hown hp hrf he ho' hb hlim hres hpin => ?opens, fun b hown hp hrf he ho' hb => ?disabled,
    fun k hown hp hrf he ho' hk hc hfp => ?commit, fun n hown hp hrf he hlt hn => ?badTrim, fun hown hp he ho' hrf => ?emptyCommit,
    fun k hown hp ho' hi hfp => ?abort, fun hown hfw => ?misuse, fun hown hfw hop => ?flushLater, fun hown hfw hop hpr => ?flush⟩
  case stranger =>
    have none (g : State → State) : unit q 4096 (accessIn a o (fun s p => ownQueue s p q (ansOk (g s)))).s = .next s :=
      (row g).trans (by simp [hown])
    refine ⟨fun hb => (execProdData_open b hb hq hr hw ho).trans ?_, none _, none _, none _, none _, none _, none _, none _⟩
    exact congrArg Host.Outcome.next (if_neg (show ¬s.owns p 5 q = true by simp [hown]))
  case conflict =>
    exact ⟨(data b hb hown).trans (congrArg _ (if_pos hp)), (own _ hown).trans (congrArg _ (if_pos hp)),
      (own _ hown).trans (congrArg _ (if_pos hp))⟩
  case fill =>
    have hbytes : (s.queue q).openBytes = k.bytes.length := by simp [Queue.openBytes, show (s.queue q).opn = some k from ho']
    have hgrow : growOpen (s.setQueue q { s.queue q with opn := some ((s.queue q).opn.getD {}) }) q 0 false
        (cellsFor ((s.queue q).openBytes + b.length) - ((s.queue q).opn.getD {}).cells.length)
        = (s.setQueue q { s.queue q with opn := some k }, none) := by
      rw [hbytes, show (s.queue q).opn = some k from ho', Option.getD_some, Nat.sub_eq_zero_of_le hroom]
      rfl
    rw [data b hb hown, prodDataReg_of_appended hp hrf (appendOpen_grown he (by rw [hbytes]; exact hlen) hgrow)]
    simp [x]
  case opens =>
    have hlen : 0 < b.length ∧ b.length ≤ 128 := by omega
    obtain ⟨t, happ, hrest⟩ := appendOpen_first he ho' hlen.1 hlen.2 hlim hres hpin
    exact ⟨t, (data b hb hown).trans (congrArg _ (prodDataReg_of_appended hp hrf happ)), hrest⟩
  case disabled =>
    have hopn : (s.queue q).opn = none := ho'
    have happ : appendOpen s q b 0 false = (s.count cProdDisabled q, false) := by
      unfold appendOpen
      dsimp only
      rw [if_pos (by simp [show (s.queue q).enable = false from he]), abortOpen_idle (by simpa using hopn)]
    rw [data b hb hown]
    unfold prodDataReg
    dsimp only
    rw [if_neg (not_not_intro hp), if_neg (by simp [show (s.queue q).refused = false from hrf]), happ]
    rfl
  case commit =>
    refine (own _ hown).trans (congrArg _ ((prodCommitReg_empty hp hrf he).trans ?_))
    rw [trimOpen_whole ho' hc, commitOpen_open (k := k) (by simpa using he) (by simp) hk (by simpa using hfp)]
    have hset (y z : Queue) : (s.setQueue q y).counting.setQueue q z = s.counting.setQueue q z := State.setQueue_setQueue s.counting q y z
    rw [State.setQueue_queue_same, hset]
    rfl
  case badTrim =>
    refine (own _ hown).trans (congrArg _ ?_)
    rw [Nat.mod_eq_of_lt hn]
    unfold prodCommitReg
    dsimp only
    rw [if_neg (by simpa using hp), if_neg (by simp [show (s.queue q).refused = false from hrf]),
      if_neg (by simp [show (s.queue q).enable = true from he]), if_pos (.inl hlt)]
  case emptyCommit =>
    have hopn : (s.queue q).opn = none := ho'
    have htrim : trimOpen s q 0 = s := by simp [trimOpen, hopn]
    refine (own _ hown).trans (congrArg _ ((prodCommitReg_empty hp hrf he).trans ?_))
    rw [htrim]
    simp [commitOpen, hopn, show (s.queue q).enable = true from he]
  case abort =>
    let y := { x with refused := false }
    have hopn : ((s.setQueue q y).queue q).opn = some k := by simpa [y] using ho'
    have hfree := allFree_freePacket (s := s.setQueue q y) hi
    have habort : prodAbortReg s q = ((freePacket (s.setQueue q y) k).count cAborts q).setQueue q { y with opn := none, lastWrite := 0 } := by
      refine (if_neg (not_not_intro hp)).trans ?_
      rw [abortOpen_open hopn (by simpa [y] using hfp), State.setQueue_queue_same]
    refine ⟨_, (own _ hown).trans (congrArg _ habort), ?_, ?_, by simp [y], fun r hr => by simp [hr]⟩
    · exact hfree.trans rfl
    · show ((freePacket (s.setQueue q y) k).count cAborts q).ctr cAborts q = _
      rw [ctr_count_same, ctr_of_counters (counters_freePacket ..)]
      rfl
  case misuse => exact (own _ hown).trans (congrArg _ (if_pos hfw))
  case flushLater => exact (own _ hown).trans (congrArg _ ((if_neg (not_not_intro hfw)).trans (if_pos hop)))
  case flush =>
    obtain ⟨t, ht, hrest⟩ := flushReq_closed hop hpr
    exact ⟨t, (own _ hown).trans (congrArg _ ((if_neg (not_not_intro hfw)).trans ht)), hrest⟩

end Sys2Proof.Machine

/-!
SUPPORT and O17 (R111 to R117, R121, R326, R329). What reads and writes of the consumer port of a queue do.
-/
namespace Sys2Proof.Machine

section
variable {a : Acc} {p q : Nat} {o : State}

/-- A POP of a GRT requester, which is open, reaches the queue that it owns. -/
theorem exec_pop_grt {len : Nat} (hq : q < 4096) (ha : a.att = none) (hr : o.boot.rescue = false) (hw : o.who a = some p)
    (ho : o.isOpen p = true) (hown : o.owns p 5 q = true) (hlen : len = 4 ∨ len = 8) :
    exec (.pop a q len) o = .next (popReg o q (28 + a.node) len a.spec).2 := by
  have hpart : a.part = p := by simpa [State.who, ha] using hw
  have hkey : accKey a = 28 + a.node := by simp [accKey, ha]
  have hlen' : (len == 4 || len == 8) = true := by simpa using hlen
  refine (if_pos hq).trans ?_
  simp [ha, hr, hpart, ho, hown, hlen', hkey]

theorem readCells_onChip {s : State} (h : s.pool.poisoned = []) {l : List Nat} (hl : ∀ c ∈ l, c < 65536) : readCells s q l = s := by
  have hext : l.filter (fun c => decide (c ≥ 65536)) = [] :=
    List.filter_eq_nil_iff.mpr fun c hc => by simp [hl c hc]
  simp [readCells, hext, forEach, h]

/-- Bytes inside the head packet are popped and leave it in the queue (R111). -/
theorem popTake_inside {s : State} {key n : Nat} {k : Packet} (hn : (s.queue q).popped + n < k.bytes.length) (hp : s.pool.poisoned = [])
    (hc : ∀ c ∈ k.cells, c < 65536) :
    (popTake s q key n k).2 = s.setQueue q { s.queue q with
      popped := (s.queue q).popped + n, lastPop := leNat (bytesAt k.bytes (s.queue q).popped n)
      popLast := tblSet (s.queue q).popLast key n } := by
  have hvalid : min n (k.bytes.length - (s.queue q).popped) = n := by omega
  have heop : decide ((s.queue q).popped + n ≥ k.bytes.length) = false := decide_eq_false (by omega)
  have hcells (m i j : Nat) : ∀ c ∈ (if m = 0 then (k.cells.drop i).take j else ((k.cells.drop i).take j).drop 1), c < 65536 := by
    intro c hmem
    have hsub : c ∈ (k.cells.drop i).take j := by
      split at hmem
      · exact hmem
      · exact List.mem_of_mem_drop hmem
    exact hc c (List.mem_of_mem_drop (List.mem_of_mem_take hsub))
  simp only [popTake, hvalid, heop, readCells_onChip hp (hcells _ _ _), hp]
  simp [popLastOf, b2n]

theorem keepPop_speculative {s : State} {r : OutReq} (h : r.spec = true) (st : Nat) (d : List Byte) (v : Option (Nat × Nat)) :
    keepPop s r st d v = s := by
  simp [keepPop, OutReq.isPop, h]

/-- A speculative read of POP through a PCIe function is answered with Q_STATUS and pops nothing (R326). -/
theorem exec_pop_speculative {n len : Nat} (hq : q < 4096) (ha : a.att = some n) (hn : n < 8) (hs : a.spec = true)
    (hr : o.boot.rescue = false) (hw : o.who a = some p) (ho : o.isOpen p = true) (hown : o.owns p 5 q = true) (hlen : len = 4 ∨ len = 8)
    (hpop : (o.queue q).popOk = true) :
    exec (.pop a q len) o = .next ((o.count cAttReads n).emit (.reply n 0 false (leBytes len (o.queue q).status))) := by
  have hown' : (o.count cAttReads n).owns p 5 q = true := hown
  refine (if_pos hq).trans ?_
  simp only [ha, hw, hr, ho, attPop, State.arrived_of_some o a cAttReads n ha, hs, if_pos hlen, ownQueue, if_pos hown', popReg,
    State.count_queue, hpop]
  simp [keepPop_speculative, portReply, hn, ansOk]

/-! Releases and acknowledgements. -/

theorem releaseHead_cons {s : State} {k : Packet} {r : List Packet} (h : (s.queue q).packets = k :: r) :
    releaseHead s q = (freePacket (s.count cDeqPackets q) k).setQueue q { s.queue q with
      packets := r, popped := 0, presented := false, holdOffset := 0 } := by
  simp [releaseHead, dropPacket, h]

/-- A release under an unwatched queue: the packet's cells are free again, and the queue has its next packet in front. -/
theorem release_unwatched {s : State} {k : Packet} {r : List Packet} (hk : (s.queue q).packets = k :: r) (hi : k.inPort = none)
    (hw : (s.queue q).wmark = 0) :
    let t := wmEval (releaseHead s q) q
    t.ctr cDeqPackets q = s.ctr cDeqPackets q + 1 ∧ t.allFree = s.allFree + k.cells.length ∧ t.queue q = { s.queue q with
      packets := r, popped := 0, presented := false, holdOffset := 0, above := false
      wmArmed := (s.queue q).wmArmed || !(s.queue q).wmPending } := by
  have hfree := allFree_freePacket (s := s.count cDeqPackets q) hi
  intro t
  have ht : t = (freePacket (s.count cDeqPackets q) k).setQueue q { s.queue q with
      packets := r, popped := 0, presented := false, holdOffset := 0, above := false
      wmArmed := (s.queue q).wmArmed || !(s.queue q).wmPending } := by
    show wmEval (releaseHead s q) q = _
    rw [releaseHead_cons hk, wmEval_of_unwatched (by simpa using hw), State.setQueue_setQueue, State.setQueue_queue_same]
  rw [ht]
  refine ⟨?_, hfree, by simp⟩
  show (freePacket (s.count cDeqPackets q) k).ctr cDeqPackets q = _
  rw [ctr_of_counters (counters_freePacket ..), ctr_count_same]

theorem qStatusReg_wmAck {s : State} (hw : (s.queue q).wmark = 0) :
    qStatusReg s q (2 ^ 25) = s.setQueue q { s.queue q with wmPending := false, above := false, wmArmed := true } := by
  have h24 : bitAt (2 ^ 25) 24 = false := by decide
  have h25 : bitAt (2 ^ 25) 25 = true := by decide
  have h30 : bitAt (2 ^ 25) 30 = false := by decide
  simp only [qStatusReg, h24, h25, h30]
  rw [wmEval_of_unwatched (by simpa using hw)]
  simp

/-! The DMA ring's head (R121). -/

theorem dmaHeadReg_bad {s : State} {v : Nat} {r : DmaRing} (hfw : (s.queue q).fwUse = 0) (hring : (s.queue q).ring = some r)
    (hv : r.slots ≤ v ∨ (s.queue q).ringPending < ((s.queue q).dmaTail + r.slots - v) % r.slots) :
    dmaHeadReg s q v = s.count cDmaBadHead q := by
  unfold dmaHeadReg
  dsimp only
  rw [if_neg (not_not_intro hfw), hring, if_pos hv]

/-- A ring in which nothing waits signals nothing (R122). -/
theorem testRing_of_empty {s : State} (hp : (s.queue q).ringPending = 0) (hc : 1 ≤ (s.part (s.owner 5 q)).countMod) : testRing s q = s := by
  unfold testRing
  dsimp only
  split
  · rfl
  · refine if_neg ?_
    have hnone : ¬(s.part (s.owner 5 q)).countMod = 0 := by omega
    simp [hp, notifyDue, hnone]

theorem dmaHeadReg_tail {s : State} {r : DmaRing} (hfw : (s.queue q).fwUse = 0) (hring : (s.queue q).ring = some r)
    (ht : (s.queue q).dmaTail < r.slots) (hc : 1 ≤ (s.part (s.owner 5 q)).countMod) :
    dmaHeadReg s q (s.queue q).dmaTail = s.setQueue q { s.queue q with
      dmaHead := (s.queue q).dmaTail, ring := some { r with fired := false, since := s.lt } } := by
  unfold dmaHeadReg
  dsimp only
  rw [if_neg (not_not_intro hfw), hring, if_neg (by simp [ht])]
  refine testRing_of_empty ?_ hc
  simp [Queue.ringPending, Nat.mod_eq_of_lt ht]

end

/-- Settles O17, register by register. -/
theorem queueConsumerPort : Obligations.QueueConsumerPort := by
  unfold Obligations.QueueConsumerPort
  intro a p q o hq hr hw ho hown s x
  have write (g : State → State) : unit q 4096 (accessIn a o (fun s p => ownQueue s p q (ansOk (g s)))).s = .next (g s) :=
    (portWrite_open g hq hr hw ho).trans (by rw [if_pos (show (o.arrived a cAttWrites).owns p 5 q = true by simpa using hown)])
  have grt (ha : a.att = none) : s = o := State.arrived_of_none o a cAttWrites ha
  have pop (ha : a.att = none) (len : Nat) (hlen : len = 4 ∨ len = 8) :
      exec (.pop a q len) o = .next (popReg s q (28 + a.node) len a.spec).2 := by
    rw [exec_pop_grt hq ha hr hw ho hown hlen, grt ha]
  have popOk (hc : x.cons = .host) (hh : x.hold = false) : x.popOk = true := by simp [Queue.popOk, hc, hh]
  have noHold (hm : x.cons ≠ .host ∨ x.hold = false) : x.cons ≠ .host ∨ (!x.hold) = true := by simpa using hm
  refine ⟨fun k len ha hs hlen hc hh he hk hin hpo hcells => ?inside, fun len ha hs hlen hc hh hk hn => ?empty,
    fun len ha hlen hm => ?misused, fun len n ha hn hs hlen hc hh => ?speculative, fun v hc hh => ?offset,
    fun v n hm => ⟨(write _).trans (congrArg _ (if_pos (noHold hm))), (write _).trans (congrArg _ (if_pos (noHold hm)))⟩,
    fun k r hc hh he hp hk hi hwm => ?ack, fun hwm => ?wmAck, fun v r hfw hring hv => ?badHead, fun r hfw hring ht hcm => ?head⟩
  case inside =>
    obtain ⟨l, hl⟩ := List.head?_eq_some_iff.mp hk
    have hcells' : ∀ c ∈ k.cells, c < 65536 := by simpa using hcells
    refine (pop ha len hlen).trans (congrArg _ (Eq.trans ?_ (popTake_inside (key := 28 + a.node) hin hpo hcells')))
    simp only [popReg, show (s.queue q).popOk = true from popOk hc hh, hs, show (s.queue q).enable = true from he,
      show (s.queue q).packets = k :: l from hl]
    rfl
  case empty =>
    refine (pop ha len hlen).trans (congrArg _ ?_)
    simp only [popReg, show (s.queue q).popOk = true from popOk hc hh, hs, show (s.queue q).packets = [] from hk, ite_self]
    simp [popEmpty, popLastOf, b2n, raiseIf, show (s.queue q).noticeEn = false from hn, x]
  case misused =>
    refine (pop ha len hlen).trans (congrArg _ ?_)
    have hno : (s.queue q).popOk = false := by
      rcases hm with h | h
      · simp [Queue.popOk, show (s.queue q).cons ≠ .host from h]
      · simp [Queue.popOk, show (s.queue q).hold = true from h]
    simp [popReg, hno]
  case speculative =>
    have hsame : (o.queue q) = x := (State.arrived_queue ..).symm
    rw [exec_pop_speculative hq ha hn hs hr hw ho hown hlen (by rw [hsame]; exact popOk hc hh), hsame]
  case offset => exact (write _).trans (congrArg _ (if_neg (by simp [show (s.queue q).cons = .host from hc, show (s.queue q).hold = true from hh])))
  case ack =>
    have hrel : holdAckReg s q x.presentSeq = wmEval (releaseHead s q) q := by
      refine (if_neg (by simp [show (s.queue q).cons = .host from hc, show (s.queue q).hold = true from hh])).trans (if_pos ?_)
      simp [show (s.queue q).enable = true from he, show (s.queue q).presented = true from hp, x]
    exact ⟨_, (write _).trans (congrArg _ hrel), release_unwatched hk hi hwm⟩
  case wmAck => exact (write _).trans (congrArg _ (qStatusReg_wmAck hwm))
  case badHead => exact (write _).trans (congrArg _ (dmaHeadReg_bad hfw hring hv))
  case head => exact (write _).trans (congrArg _ (dmaHeadReg_tail hfw hring ht hcm))

end Sys2Proof.Machine

/-!
SUPPORT and O19 (R106, R114, R120 to R122). What the queue engine does by itself.
-/
namespace Sys2Proof.Machine

section
variable {s : State} {q : Nat}

theorem out_freeAll (l : List Nat) (s : State) : (freeAll s l).out = s.out := by
  induction l generalizing s with
  | nil => rfl
  | cons c l ih =>
    rw [freeAll_cons, ih]
    unfold freeCell joinFreed
    split <;> rfl

theorem out_freePacket (s : State) (k : Packet) : (freePacket s k).out = s.out := by
  rw [freePacket, out_freeAll]
  unfold unchargePacket
  split <;> rfl

theorem wmEval_unwatched_out (h : (s.queue q).wmark = 0) : (wmEval s q).out = s.out := by
  rw [wmEval_of_unwatched h]
  rfl

/-- A packet that waits moves to the queue's packets; an unwatched queue that does not feed the switch does no more (R106). -/
theorem packetVisible_unwatched {k : Packet} {r : List Packet} (hf : (s.queue q).fresh = k :: r) (hw : (s.queue q).wmark = 0)
    (hc : (s.queue q).cons ≠ .port14) :
    forwardAll (showOne s q) q ((showOne s q).queue q).packets.length = s.setQueue q { s.queue q with
      packets := (s.queue q).packets ++ [k], fresh := r, above := false, wmArmed := (s.queue q).wmArmed || !(s.queue q).wmPending } := by
  have hshow : showOne s q = s.setQueue q { s.queue q with
      packets := (s.queue q).packets ++ [k], fresh := r, above := false, wmArmed := (s.queue q).wmArmed || !(s.queue q).wmPending } := by
    simp only [showOne, hf]
    rw [wmEval_of_unwatched (by simpa using hw)]
    simp
  rw [hshow, forwardAll_of_not_port14 (by simpa using hc)]

/-! The DMA engine (R120 to R122). -/

theorem dmaRun_ready {r : DmaRing} {k : Packet} {l : List Packet} {f : Nat} {m : List Nat} (hr : (s.queue q).ring = some r)
    (hk : (s.queue q).packets = k :: l) (hb : s.boundAtts (s.owner 5 q) 0 8 = f :: m) (hd : (s.queue q).dma = true)
    (he : (s.queue q).enable = true) (hc : (s.queue q).cons = .dma) :
    dmaRun s q = if (s.att f).masterUp then dmaDeliver s q f r k else s := by
  have hcons : (Consumer.dma == .dma) = true := rfl
  simp only [dmaRun, hr, hk, hb, hd, he, hc, Bool.true_and, hcons]

theorem dmaRun_of_notReady (h : (s.queue q).ring = none ∨ (s.queue q).packets = [] ∨ s.boundAtts (s.owner 5 q) 0 8 = [] ∨
    (s.queue q).dma = false ∨ (s.queue q).enable = false ∨ (s.queue q).cons ≠ .dma) : dmaRun s q = s := by
  unfold dmaRun
  dsimp only
  split
  · next r k l f m hr hk hb =>
    refine if_neg ?_
    rcases h with h | h | h | h | h | h
    · rw [h] at hr; cases hr
    · rw [h] at hk; cases hk
    · rw [h] at hb; cases hb
    · simp [h]
    · simp [h]
    · simp [h]
  · rfl

theorem dropPacket_cons {k : Packet} {l : List Packet} (h : (s.queue q).packets = k :: l) :
    dropPacket s q = (freePacket s k).setQueue q { s.queue q with packets := l, popped := 0, presented := false, holdOffset := 0 } := by
  simp [dropPacket, h]

/-- A packet longer than the ring holds is discarded and counted (R121). -/
theorem dmaDeliver_oversize {f : Nat} {r : DmaRing} {k : Packet} {l : List Packet} (hk : (s.queue q).packets = k :: l)
    (hn : r.slots - 1 < (k.bytes.length + (r.slotSize - 16) - 1) / (r.slotSize - 16)) (hi : k.inPort = none) (hw : (s.queue q).wmark = 0) :
    let t := dmaDeliver s q f r k
    t.out = s.out ∧ t.ctr cDmaOversize q = s.ctr cDmaOversize q + 1 ∧ (t.queue q).packets = l ∧ t.allFree = s.allFree + k.cells.length := by
  let y : Queue := { s.queue q with packets := l, popped := 0, presented := false, holdOffset := 0 }
  have ht : dmaDeliver s q f r k = (((freePacket s k).setQueue q y).count cDmaOversize q).setQueue q
      { y with above := false, wmArmed := y.wmArmed || !y.wmPending } := by
    refine (if_pos hn).trans ?_
    rw [dropPacket_cons hk, wmEval_of_unwatched (by simpa [y] using hw)]
    simp [y]
  intro t
  rw [show t = _ from ht]
  refine ⟨out_freePacket s k, ?_, by simp [y], allFree_freePacket hi⟩
  show (((freePacket s k).setQueue q y).count cDmaOversize q).ctr cDmaOversize q = _
  rw [ctr_count_same]
  exact congrArg (· + 1) (ctr_of_counters (counters_freePacket s k) _ _)

/-- Reading cells without POISON touches the pool alone (R98, R102). -/
theorem readCells_frame (h : s.pool.poisoned = []) (l : List Nat) : ∃ p, readCells s q l = { s with pool := p } := by
  have hmoves (m : List Nat) (s : State) : s.pool.poisoned = [] →
      ∃ p, forEach m s (fun _ s => extMove s) = { s with pool := p } ∧ p.poisoned = [] := by
    induction m generalizing s with
    | nil => exact fun hs => ⟨s.pool, rfl, hs⟩
    | cons c m ih =>
      intro hs
      obtain ⟨p, hp, hpp⟩ := ih (extMove s) hs
      exact ⟨p, hp, hpp⟩
  obtain ⟨p, hp, hpp⟩ := hmoves (l.filter (fun c => decide (c ≥ 65536))) s h
  refine ⟨p, ?_⟩
  simp [readCells, hp, hpp]

theorem forEach_emit (g : Nat → Output) (l : List Nat) (s : State) :
    forEach l s (fun i s => s.emit (g i)) = { s with out := s.out ++ l.map g } := by
  rw [forEach]
  induction l generalizing s with
  | nil => simp
  | cons i l ih => rw [List.foldl_cons, ih]; simp [State.emit]

/-- A ring that has signalled signals nothing more (R122). -/
theorem testRing_of_fired {r : DmaRing} (hr : (s.queue q).ring = some r) (hf : r.fired = true) : testRing s q = s := by
  simp [testRing, hr, hf]

/-- A packet that fits is written in slots, then the tail, and leaves its queue (R120, R121). -/
theorem dmaDeliver_fits {f n : Nat} {r : DmaRing} {k : Packet} {l : List Packet} (hk : (s.queue q).packets = k :: l)
    (hn : n = (k.bytes.length + (r.slotSize - 16) - 1) / (r.slotSize - 16)) (hfit : n ≤ r.slots - 1)
    (hroom : n ≤ r.slots - 1 - (s.queue q).ringPending) (hp : s.pool.poisoned = []) (hw : (s.queue q).wmark = 0) (hfired : r.fired = true) :
    let t := dmaDeliver s q f r k
    t.out = s.out ++ (List.range n).map (fun i =>
        .memWrite f (r.base + ((s.queue q).dmaTail + i) % r.slots * r.slotSize) (dmaSlot r k false n i))
      ++ [.memWrite f r.tailWb (leBytes 8 (((s.queue q).dmaTail + n) % r.slots))] ∧
    (t.queue q).dmaTail = ((s.queue q).dmaTail + n) % r.slots ∧ (t.queue q).packets = l ∧
    t.ctr cDeqPackets q = s.ctr cDeqPackets q + 1 := by
  obtain ⟨p, hread⟩ := readCells_frame (q := q) hp k.cells
  let w : State := { s with
    pool := p
    out := s.out ++ (List.range n).map (fun i =>
        .memWrite f (r.base + ((s.queue q).dmaTail + i) % r.slots * r.slotSize) (dmaSlot r k false n i))
      ++ [.memWrite f r.tailWb (leBytes 8 (((s.queue q).dmaTail + n) % r.slots))] }
  let ring : DmaRing := { r with
    seq := (r.seq + 1) % 4294967296, since := if (s.queue q).ringPending = 0 then s.lt else r.since }
  let y : Queue := { s.queue q with dmaTail := ((s.queue q).dmaTail + n) % r.slots, ring := some ring }
  let z : Queue := { y with packets := l, popped := 0, presented := false, holdOffset := 0 }
  let t : State := (freePacket ((w.setQueue q y).count cDeqPackets q) k).setQueue q
    { z with above := false, wmArmed := z.wmArmed || !z.wmPending }
  have hwrite : dmaDeliver s q f r k = testRing (wmEval (releaseHead (w.setQueue q y) q) q) q := by
    refine (if_neg (by rw [← hn]; exact Nat.not_lt.mpr hfit)).trans ((if_neg (by rw [← hn]; exact Nat.not_lt.mpr hroom)).trans ?_)
    have hbad : k.cells.any (fun c => s.pool.poisoned.contains c) = false := by simp [hp]
    dsimp only
    rw [forEach_emit, hread, ← hn, hbad]
    rfl
  have hrelease : wmEval (releaseHead (w.setQueue q y) q) q = t := by
    rw [releaseHead_cons (k := k) (r := l) (by simpa [y] using hk), wmEval_of_unwatched (by simpa [y] using hw)]
    simp [t, y, z]
  have ht : dmaDeliver s q f r k = t := by
    rw [hwrite, hrelease]
    exact testRing_of_fired (r := ring) (by simp [t, z, y]) hfired
  intro t'
  rw [show t' = t from ht]
  refine ⟨out_freePacket .., by simp [t, z, y], by simp [t, z], ?_⟩
  show (freePacket ((w.setQueue q y).count cDeqPackets q) k).ctr cDeqPackets q = _
  rw [ctr_of_counters (counters_freePacket ..), ctr_count_same]
  rfl

end

/-- Settles O19, instant by instant. -/
theorem queueEngineEvents : Obligations.QueueEngineEvents := by
  unfold Obligations.QueueEngineEvents
  intro q s hq x
  refine ⟨fun k r he hh hc hp hk => ?present, fun hidle => ?noPresent, fun k r hf hw hc => ?visible, fun d hp => ?noProducer,
    fun d c hp he ho hd hd' hlim hres hpin => ?allocate, fun hidle => ?noDelivery, fun r k l f m hr hk hb hd he hc hsz => ?ring⟩
  case present =>
    refine (if_pos hq).trans (congrArg _ (if_pos ?_))
    simp [show (s.queue q).enable = true from he, show (s.queue q).hold = true from hh, show (s.queue q).cons = .host from hc,
      show (s.queue q).presented = false from hp, show (s.queue q).packets = k :: r from hk]
  case noPresent =>
    refine (if_pos hq).trans (congrArg _ (if_neg ?_))
    rcases hidle with h | h | h | h
    · simp [show (s.queue q).enable = false from h]
    · simp [show (s.queue q).hold = false from h]
    · simp [show (s.queue q).presented = true from h]
    · simp [show (s.queue q).packets = [] from h]
  case visible => exact (if_pos hq).trans (congrArg _ (packetVisible_unwatched hf hw hc))
  case noProducer =>
    refine (if_pos hq).trans (congrArg _ ?_)
    simp [cellAllocate, show (s.queue q).prod = .none from hp]
  case allocate =>
    have hpos : 0 < d.length := List.length_pos_iff.mpr hd
    obtain ⟨t, happ, hfree, -, hqueue, -⟩ := appendOpen_first he ho hpos hd' hlim hres hpin
    refine ⟨t, (if_pos hq).trans (congrArg _ ?_), hfree, hqueue⟩
    simp [cellAllocate, show (s.queue q).prod = .can c from hp, happ]
  case noDelivery => exact (if_pos hq).trans (congrArg _ (dmaRun_of_notReady hidle))
  case ring =>
    have run : exec (.dmaPacketDeliver q) s = .next (if (s.att f).masterUp then dmaDeliver s q f r k else s) :=
      (if_pos hq).trans (congrArg _ (dmaRun_ready hr hk hb hd he hc))
    refine ⟨fun hup => ?_, fun hfit hroom => ?_, fun hup hn hi hw => ?_, fun hup hfit hroom hi hp hw hfired _ => ?_⟩
    · rw [run, if_neg (by simp [hup])]
    · rw [run]
      refine congrArg _ ?_
      split
      · exact (if_neg (Nat.not_lt.mpr hfit)).trans (if_pos hroom)
      · rfl
    · exact ⟨_, run.trans (by rw [if_pos hup]), dmaDeliver_oversize hk hn hi hw⟩
    · exact ⟨_, run.trans (by rw [if_pos hup]), dmaDeliver_fits hk rfl hfit hroom hp hw hfired⟩

end Sys2Proof.Machine

/-!
SUPPORT and O20 (R152 to R182). Each row's own checks pass under the conditions of its clause.
-/
namespace Sys2Proof.Machine

section
variable {s : State} {c : Cmd} {r : CmdRes}

theorem ownDomains_of (h1 : s.owns c.p 10 1 = true) (h2 : s.owns c.p 10 2 = true) : ownDomains s c r = r := by
  simp [ownDomains, h1, h2]

/-- A domain that can be followed is not served from the working clock (R167). -/
theorem notServed_of_canFollow {d : Nat} (h : s.canFollow d = true) : (!((s.dom d).isGm && (s.dom d).gmSource == 1)) = true := by
  simp only [State.canFollow, Bool.and_eq_true] at h
  exact h.2

theorem leaveHoldover_of_following (h : s.time.source ≠ 3) : leaveHoldover s = s := if_pos h

end

/-- Settles O20, row by row. -/
theorem timeCommands : Obligations.TimeCommands := by
  unfold Obligations.TimeCommands
  intro d s t c
  have own (ho1 : t.owns d.part 10 1 = true) (ho2 : t.owns d.part 10 2 = true) (r : CmdRes) : ownDomains t c r = r :=
    ownDomains_of (c := c) ho1 ho2
  have dom {v : Nat} (hv : v = 1 ∨ v = 2) : (v == 1 || v == 2) = true := by simpa using hv
  refine ⟨fun h hn hn' hne hf hb hs hs' hl hg hg' hh hh' hw hw' ho1 ho2 hna hnb => ?domainCfg,
    fun p h hl ho hpr hp hpd hpd' hdt hdt' htx htx' hrx hrx' => ?portCfg, fun h ho1 ho2 hv => ?cancel, fun h ho1 ho2 hv hsrc => ?arm,
    fun h ho1 ho2 hv hf => ?already, fun h ho1 ho2 hv hf hcan => ?switch, fun h ho1 ho2 hv hsec l hl hlo hhi => ?tod,
    fun h ho1 ho2 hfall hclk hw hw' => ?pps, fun u h hl ho hheld hok hres => ?trig, fun u h hl ho hheld hok hres => ?held,
    fun u h hl hread => ?trigRead, fun u h hl ho hq hsrc hed hnone => ?capt, fun u h hl ho hq hsrc hed hoq hfw hcc hp hp' => ?captBusy⟩
  case domainCfg =>
    refine cmdRow_ok bodyDomainCfg h (?_ : bodyDomainCfg c t = _)
    have hfl : (c.u 10 1 / 16 == 0) = true := beq_iff_eq.mpr (Nat.div_eq_of_lt hf)
    have hkeep : (!(c.u 13 1 == 1 && t.time.follow == 1) && !(c.u 14 1 == 1 && t.time.follow == 2)) = true := by
      simp only [Bool.and_eq_true, Bool.not_eq_true', Bool.and_eq_false_iff, beq_eq_false_iff_ne]
      omega
    simp only [bodyDomainCfg, decide_eq_true hn, decide_eq_true hn', bne_iff_ne.mpr hne, hfl, decide_eq_true hs, decide_eq_true hs',
      decide_eq_true hl, decide_eq_true hg, decide_eq_true hg', inRange_of hh hh', inRange_of hw hw', own ho1 ho2, hkeep, hb]
    rfl
  case portCfg =>
    refine cmdRow_ok bodyPtpPortCfg h (?_ : bodyPtpPortCfg c t = _)
    have hp' : (decide (p < 6) || c.u 12 1 == 0) = true := by simpa using hp
    simp only [bodyPtpPortCfg, handle_of_localRes hl, decide_eq_true hpr, hp', decide_eq_true hpd, decide_eq_true hpd', inRange_of hdt hdt',
      decide_eq_true htx, decide_eq_true htx', decide_eq_true hrx, decide_eq_true hrx', ownRes_of_free_class (c := c) ho]
    simp only [State.setPort_port_same]
    rfl
  case cancel =>
    refine cmdRow_ok bodyStepPermit h (?_ : bodyStepPermit c t = _)
    simp only [bodyStepPermit, hv, own ho1 ho2]
    rfl
  case arm =>
    refine cmdRow_ok bodyStepPermit h (?_ : bodyStepPermit c t = _)
    have hstay : leaveHoldover (t.setTime { t.time with stepArmed := true }) = t.setTime { t.time with stepArmed := true } :=
      leaveHoldover_of_following hsrc
    simp only [bodyStepPermit, hv, own ho1 ho2]
    simp [hstay, b2n]
    rfl
  case already =>
    refine cmdRow_ok bodyDomainSwitch h (?_ : bodyDomainSwitch c t = _)
    simp only [bodyDomainSwitch, dom hv, own ho1 ho2, if_pos hf]
    rfl
  case switch =>
    refine cmdRow_ok bodyDomainSwitch h (?_ : bodyDomainSwitch c t = _)
    simp only [bodyDomainSwitch, dom hv, own ho1 ho2, if_neg hf, notServed_of_canFollow hcan, hcan]
    rfl
  case tod =>
    refine cmdRow_ok bodyTodSet h (?_ : bodyTodSet c t = _)
    simp only [bodyTodSet, dom hv, decide_eq_true hsec, own ho1 ho2, hl, decide_eq_true (show t.lt ≥ l + 100000000 from hlo),
      decide_eq_true hhi]
    rfl
  case pps =>
    refine cmdRow_ok bodyPpsCfg h (?_ : bodyPpsCfg c t = _)
    simp only [bodyPpsCfg, decide_eq_true hfall, decide_eq_true hclk, inRange_of hw hw', own ho1 ho2]
    rfl
  case trig =>
    refine cmdRow_ok bodyTrigSet h (?_ : bodyTrigSet c t = _)
    have hfree : t.fwHeld 13 u = false := by simp [State.fwHeld, hheld]
    simp only [bodyTrigSet, handle_of_localRes hl, hok, hres, ownRes_of_owns (c := c) ho hfree]
    rfl
  case held =>
    refine cmdRow_fail bodyTrigSet h (?_ : bodyTrigSet c t = _)
    have hfw : t.fwHeld 13 u = true := by simp [State.fwHeld, hheld]
    have ho' : t.owns c.p 13 u = true := ho
    simp [bodyTrigSet, handle_of_localRes hl, hok, hres, ownRes, ho', hfw]
  case trigRead =>
    refine cmdRow_ok bodyTrigRead h (?_ : bodyTrigRead c t = _)
    have hread' : t.mayRead c.p 13 u = true := hread
    simp [bodyTrigRead, handle_of_localRes hl, readRes, hread']
  case capt =>
    refine cmdRow_ok bodyCaptSet h (?_ : bodyCaptSet c t = _)
    have hsrc' : decide (c.u 12 2 ≤ 256) = true := decide_eq_true (by omega)
    have hpin : (c.u 12 2 == 256 || t.mayRead c.p 3 (c.u 12 2)) = true := by
      rcases hsrc with hs | ⟨-, hs⟩
      · simp [hs]
      · simp [show t.mayRead c.p 3 (c.u 12 2) = true from hs]
    have hun : unbindCapt t u = t := by simp [unbindCapt, hnone]
    simp only [bodyCaptSet, handle_of_localRes hl, hsrc', decide_eq_true hed, hq, ownRes_of_free_class (c := c) ho, hpin, hun]
    rfl
  case captBusy =>
    refine cmdRow_fail bodyCaptSet h (?_ : bodyCaptSet c t = _)
    have hoq' : t.owns c.p 5 (c.u 16 2) = true := hoq
    have hhas : (c.u 16 2 != 0xFFFF) = true := bne_iff_ne.mpr (by omega)
    have hbound : (!true || (t.queue (c.u 16 2)).prod == .none || (t.queue (c.u 16 2)).prod == .capture u) = false := by
      simp [hp, hp']
    simp only [bodyCaptSet, handle_of_localRes hl, hsrc, decide_eq_true hed, hhas, decide_eq_true hq, ownRes_of_free_class (c := c) ho, hoq',
      hfw, hcc, hbound]
    rfl

end Sys2Proof.Machine

/-!
SUPPORT and O22 (R152, R157 to R170). Notices leave the time island as it is, and the rest of these events moves domains by rate.
-/
namespace Sys2Proof.Machine

section
variable {s : State} {d : Nat}

theorem time_of_kept {t : State} (h : t.kept = s.kept) : t.time = s.time := congrArg (fun k : Kept => k.rest.time) h

@[simp] theorem time_raise (s : State) (src cause data : Nat) : (raise s src cause data).time = s.time := time_of_kept (kept_raise ..)

@[simp] theorem time_raiseIf (s : State) (b : Bool) (src cause data : Nat) : (raiseIf s b src cause data).time = s.time :=
  time_of_kept (kept_raiseIf ..)

theorem dom_of_time {t : State} (h : t.time = s.time) (d : Nat) : t.dom d = s.dom d := by rw [State.dom, h, State.dom]

@[simp] theorem dom_raise (s : State) (src cause data d : Nat) : (raise s src cause data).dom d = s.dom d := dom_of_time (time_raise ..) d

@[simp] theorem dom_raiseIf (s : State) (b : Bool) (src cause data d : Nat) : (raiseIf s b src cause data).dom d = s.dom d :=
  dom_of_time (time_raiseIf ..) d

@[simp] theorem dom_setDom_same (s : State) (d : Nat) (x : Domain) : (s.setDom d x).dom d = x := by
  unfold State.setDom State.dom
  split <;> rfl

@[simp] theorem setDom_setDom (s : State) (d : Nat) (x y : Domain) : (s.setDom d x).setDom d y = s.setDom d y := by
  unfold State.setDom
  split <;> rfl

/-- Writing a domain shows at the other in nothing. -/
theorem dom_setDom_proj {α : Type} (f : Domain → α) {x : Domain} (h : f x = f (s.dom d)) (k : Nat) : f ((s.setDom d x).dom k) = f (s.dom k) := by
  unfold State.setDom State.dom at *
  by_cases hd : d = 2 <;> by_cases hk : k = 2 <;> simp_all

theorem time_setDom (s : State) (d : Nat) (x : Domain) :
    (s.setDom d x).time.work = s.time.work ∧ (s.setDom d x).time.follow = s.time.follow ∧ (s.setDom d x).time.source = s.time.source := by
  unfold State.setDom
  split <;> exact ⟨rfl, rfl, rfl⟩

/-- The correction of the working clock stays within its bounds. -/
theorem clampInt_within {lo hi v : Int} (h : lo ≤ hi) : lo ≤ clampInt lo hi v ∧ clampInt lo hi v ≤ hi := by
  unfold clampInt
  split
  · omega
  · split <;> omega

/-- Following a domain sets the working clock's rate and leaves its time (R168). -/
theorem followDom_time (h : d = 1 ∨ d = 2) :
    (followDom s d).time.work = { s.time.work with rate := s.followRate d } ∧ (followDom s d).time.follow = d ∧
    (followDom s d).time.source = d ∧ (s.time.lastFollow ≠ d → (followDom s d).time.converging = true) ∧
    (followDom s d).time.lt = s.time.lt := by
  rw [followDom, time_raiseIf]
  rcases h with rfl | rfl
  · exact ⟨rfl, rfl, rfl, fun h => by simp [State.setTime, State.setDom, h], rfl⟩
  · exact ⟨rfl, rfl, rfl, fun h => by simp [State.setTime, State.setDom, h], rfl⟩

theorem qualityAt_trySwitch (s : State) (d k : Nat) : ((trySwitch s d).dom k).qualityAt = (s.dom k).qualityAt := by
  unfold trySwitch
  split
  · rfl
  · split
    · rw [followDom, dom_raiseIf]
      exact dom_setDom_proj (fun x => x.qualityAt) (by rfl) k
    · rw [dom_raise]

theorem qualitySwitch_of_none (h : (s.dom d).qualityAt = none) : qualitySwitch s d = s := by
  simp [qualitySwitch, h]

theorem qualitySwitch_of_some {t : Nat} (h : (s.dom d).qualityAt = some t) :
    (s.work < t → qualitySwitch s d = s) ∧ (t ≤ s.work → s.time.follow = d →
      qualitySwitch s d = trySwitch (s.setDom d { s.dom d with qualityAt := none }) (other d)) := by
  constructor
  · intro hlt
    simp [qualitySwitch, h, hlt]
  · intro hle hf
    have hf' : (s.setDom d { s.dom d with qualityAt := none }).time.follow = d := (time_setDom ..).2.1.trans hf
    simp only [qualitySwitch, h, if_neg (Nat.not_lt.mpr hle), if_pos hf']

theorem ptpOn_of_off {p : Nat} (h : (s.port p).ptpProfile = 0 ∨ 6 ≤ p) : s.ptpOn p = false := by
  rcases h with h | h
  · simp [State.ptpOn, h]
  · simp [State.ptpOn, Nat.not_lt.mpr h]

theorem ptpOff_of_off {p : Nat} (h : (s.port p).ptpProfile = 0 ∨ 6 ≤ p) : ptpOff s p = s.count cPtpNotEnabled p := by
  have hb : (decide ((s.port p).ptpProfile = 0) || decide (p ≥ 6)) = true := by simpa using h
  rw [ptpOff, hb]
  rfl

theorem ptpOn_of_carries {p : Nat} (h : s.carries p = true) : s.ptpOn p = true := by
  simp only [State.carries, Bool.and_eq_true] at h
  exact h.1.1

theorem domOf_range {n : Nat} (h : s.domOf n = some d) : d = 1 ∨ d = 2 := by
  unfold State.domOf at h
  split at h
  · exact .inl (Option.some.inj h).symm
  · exact .inr (Option.some.inj (then_of_ite h nofun)).symm

/-- A port that carries no time is nobody's master port (R154). -/
theorem masterPort_of_not_carries {p : Nat} (h : s.carries p = false) : s.masterPort d p = false := by
  simp [State.masterPort, h]

/-- The port on which a domain's master is heard is no master port of it (R154). -/
theorem masterPort_of_slave {p : Nat} (hg : (s.dom d).isGm = false) (hp : (s.dom d).gmPort = p) : s.masterPort d p = false := by
  simp [State.masterPort, hg, hp]

theorem noMasterPort {q : Nat} (hg : (s.dom d).isGm = false) (hp : (s.dom d).gmPort = q) (ho : ∀ p, p < 6 → p ≠ q → s.carries p = false)
    (p : Nat) (h6 : p < 6) : s.masterPort d p = false := by
  by_cases hq : p = q
  · exact masterPort_of_slave hg (hp.trans hq.symm)
  · exact masterPort_of_not_carries (ho p h6 hq)

theorem forEach_of_fixed_mem {α : Type} {l : List α} {f : α → State → State} (h : ∀ a ∈ l, f a s = s) : forEach l s f = s := by
  rw [forEach]
  induction l with
  | nil => rfl
  | cons a l ih => rw [List.foldl_cons, h a List.mem_cons_self, ih fun b hb => h b (List.mem_cons_of_mem a hb)]

theorem sendSync_of_none {log rate : Int} {f : Nat → Nat × Int} (h : ∀ p, p < 6 → s.masterPort d p = false) : sendSync s d log rate f = s :=
  forEach_of_fixed_mem fun p hp => by rw [h p (List.mem_range.mp hp)]; rfl

theorem sendAnnounce_of_none {log utc : Int} {vector steps source : Nat} {path : List Nat} (h : ∀ p, p < 6 → s.masterPort d p = false) :
    sendAnnounce s d log utc vector steps source path = s :=
  forEach_of_fixed_mem fun p hp => by rw [h p (List.mem_range.mp hp)]; rfl

/-- The ports' part in carrying time is not in the time island. -/
theorem carries_setDom (x : Domain) (p : Nat) : (s.setDom d x).carries p = s.carries p := rfl

/-- A Sync that is not its domain's master's on its port changes nothing (R157). -/
theorem syncReceived_ignored {m : SyncMsg} (h : s.carries m.port = false ∨ (s.dom d).isGm = true ∨ (s.dom d).gmId ≠ m.gmId ∨ m.gmId = 0 ∨
    (s.dom d).gmPort ≠ m.port ∨ (s.dom d).st = 0) : syncReceived s m d = s := by
  refine if_pos ?_
  rcases h with h | h | h | h | h | h <;> simp [h]

theorem servo_searching (h : (s.dom d).st = 1) (at_ : Nat) (rate : Int) : servo s d at_ rate = s.setDom d { s.dom d with
    clk := { (s.dom d).clk with rate := clampRate rate }, st := 2, syncs := 0, good := 0 } := by
  simp [servo, h]

theorem followSync_unfollowed (hf : s.time.follow ≠ d) (hsrc : s.time.source ≠ 3) :
    followSync s d = s.setDom d { s.dom d with offset := s.delta d } := by
  have hf' (x : Domain) : (s.setDom d x).time.follow ≠ d := by rw [(time_setDom s d x).2.1]; exact hf
  have hsrc' (x : Domain) : (s.setDom d x).time.source ≠ 3 := by rw [(time_setDom s d x).2.2]; exact hsrc
  simp only [followSync, if_pos (hf' _), ne_eq]
  exact leaveHoldover_of_following (hsrc' _)

/-- The first Sync of a domain that searches sets its rate and starts its servo; nobody follows it yet (R158). -/
theorem syncReceived_first {m : SyncMsg} (hc : s.carries m.port = true) (hst : (s.dom d).st = 1) (hg : (s.dom d).isGm = false)
    (hid : (s.dom d).gmId = m.gmId) (hid0 : m.gmId ≠ 0) (hp : (s.dom d).gmPort = m.port) (hd : d ≠ 0) (hf : s.time.follow = 0)
    (hsrc : s.time.source = 0) (ho : ∀ p, p < 6 → p ≠ m.port → s.carries p = false) :
    ∃ x : Domain, syncReceived s m d = s.setDom d x ∧ x.st = 2 ∧ x.lastOrigin = syncCarried m ∧ x.clk.rate = clampRate m.rate := by
  have hown : ¬(!s.carries m.port || (s.dom d).st == 0 || (s.dom d).isGm || (s.dom d).gmId != m.gmId || m.gmId == 0 || (s.dom d).gmPort != m.port)
      = true := by simp [hc, hst, hg, hid, hid0, hp]
  let y : Domain := { s.dom d with
    interval := logNs m.log, lastOrigin := syncCarried m, lastWork := s.work, quality := false
    qualityAt := if (s.dom d).quality && s.time.follow == d then some (syncCarried m + 1000000) else (s.dom d).qualityAt }
  let z : Domain := { y with clk := { y.clk with rate := clampRate m.rate }, st := 2, syncs := 0, good := 0 }
  let x : Domain := { z with offset := (s.setDom d z).delta d }
  have hservo (at_ : Nat) : servo (s.setDom d y) d at_ m.rate = s.setDom d z := by
    rw [servo_searching (by rw [dom_setDom_same]; exact hst), setDom_setDom, dom_setDom_same]
  have hfollow : followSync (s.setDom d z) d = s.setDom d x := by
    rw [followSync_unfollowed (by rw [(time_setDom s d z).2.1, hf]; exact hd.symm) (by rw [(time_setDom s d z).2.2, hsrc]; decide),
      setDom_setDom, dom_setDom_same]
  refine ⟨x, (if_neg hown).trans ?_, rfl, rfl, rfl⟩
  rw [hservo, hfollow]
  exact sendSync_of_none (noMasterPort (by rw [dom_setDom_same]; exact hg) (by rw [dom_setDom_same]; exact hp) ho)

/-! Announces (R152, R161). -/

theorem announceReceived_ignored {m : AnnounceMsg} (h : (s.dom d).st = 0 ∨ m.path.contains (ownClockId s) = true ∨ m.gmId = ownClockId s) :
    announceReceived s m d = s := by
  refine if_pos ?_
  rcases h with h | h | h
  · simp [h]
  · rw [h]; simp
  · simp [h]

/-- What an Announce notes of its master (R152). -/
def heardMaster (m : AnnounceMsg) (now : Nat) : PtpMaster :=
  { port := m.port, gmId := m.gmId, vector := m.vector, steps := m.steps, sender := m.sender, until_ := now + 3 * logNs m.log }

theorem bestHeard_single {m : PtpMaster} (h : (s.dom d).heard = [m]) : s.bestHeard d = if s.carries m.port then some m else none := by
  rw [State.bestHeard, h]
  cases hc : s.carries m.port <;> simp [hc]

theorem bestHeard_none (h : (s.dom d).heard = []) : s.bestHeard d = none := by
  simp [State.bestHeard, h]

/-- The one master heard on a port that carries time is elected, where this hub cannot be grandmaster (R152, R161). -/
theorem elect_single {m : PtpMaster} (hst : (s.dom d).st ≠ 0) (hh : (s.dom d).heard = [m]) (hc : s.carries m.port = true)
    (hg : (s.dom d).isGm = false) (hcap : (s.dom d).gmCapable = false) (hlast : (s.dom d).lastGm = 0 ∨ (s.dom d).lastGm = m.gmId) :
    elect s d = s.setDom d { s.dom d with lastGm := m.gmId, gmId := m.gmId, gmVector := m.vector, gmPort := m.port } := by
  have hbest : s.bestHeard d = some m := by rw [bestHeard_single hh, if_pos hc]
  have hsame : ((s.dom d).lastGm != 0 && (s.dom d).lastGm != m.gmId) = false := by
    rcases hlast with h | h <;> simp [h]
  have hgm : gmIs s d m.gmId = s.setDom d { s.dom d with lastGm := m.gmId } := by
    simp only [gmIs, hsame, raiseIf]
    rfl
  have hclk : (s.setDom d { s.dom d with lastGm := m.gmId }).domClock d = (s.dom d).clk := by
    simp [State.domClock, hg]
  refine (if_neg hst).trans ((if_neg (by simp [hcap])).trans ?_)
  rw [hbest]
  dsimp only
  rw [hgm, hclk, setDom_setDom, dom_setDom_same]
  dsimp only
  rw [hg, if_neg Bool.false_ne_true]

/-- Without a master, a domain that searches already stays as it is (R161). -/
theorem noMaster_searching (hg : (s.dom d).isGm = false) (hid : (s.dom d).gmId = 0) (hst : (s.dom d).st = 1) : noMaster s d = s := by
  simp [noMaster, hg, hid, hst]

theorem elect_of_no_best (hst : (s.dom d).st ≠ 0) (hb : s.bestHeard d = none) (hcap : (s.dom d).gmCapable = false) :
    elect s d = noMaster s d := by
  simp [elect, hst, hb, hcap]

/-- An Announce is noted; what it announces further and the quality switch depend on the election it leads to. -/
theorem announceReceived_noted {m : AnnounceMsg} {u : State} (hst : (s.dom d).st ≠ 0) (hh : (s.dom d).heard = [])
    (hpath : m.path.contains (ownClockId s) = false) (hid : m.gmId ≠ ownClockId s)
    (hu : elect (s.setDom d { s.dom d with heard := [heardMaster m s.lt] }) d = u) (hf : u.time.follow = 0)
    (hm : (u.dom d).isGm = false) (hp : (u.dom d).gmPort = m.port → (u.dom d).gmId = m.gmId → ∀ p, p < 6 → p ≠ m.port → u.carries p = false) :
    announceReceived s m d = u := by
  have hnew : ¬((s.dom d).st == 0 || m.path.contains (ownClockId s) || m.gmId == ownClockId s) = true := by
    rw [hpath]
    simp [hst, hid]
  have hrelay : (if !(u.dom d).isGm && (u.dom d).gmPort == m.port && (u.dom d).gmId == m.gmId then
      sendAnnounce u d m.log m.utc m.vector (m.steps + 1) m.source m.path else u) = u := by
    split
    · next h =>
      simp only [Bool.and_eq_true, beq_iff_eq] at h
      exact sendAnnounce_of_none (noMasterPort hm h.1.2 (hp h.1.2 h.2))
    · rfl
  refine (if_neg hnew).trans ?_
  dsimp only [heardMaster] at hu ⊢
  rw [hh, List.filter_nil, List.nil_append, hu, hrelay, hf]
  rfl

/-! A domain that is lost (R161). -/

theorem dom_markLost (s : State) (d : Nat) : (markLost s d).dom d = { s.dom d with st := 4, good := 0, syncs := 0 } := by
  rw [markLost, dom_raise, dom_setDom_same]

theorem loseFollowed_of_not_followed (h : s.time.follow ≠ d) : loseFollowed s d = s := if_pos h

theorem syncLoss_ignored (h : (s.dom d).st ≠ 2 ∧ (s.dom d).st ≠ 3 ∨ (s.dom d).isGm = true ∨ lossDue s d = false) : syncLoss s d = s := by
  refine if_neg ?_
  rcases h with ⟨h2, h3⟩ | h | h
  · simp [h2, h3]
  · simp [h]
  · simp [h]

/-- A domain that no port hears any more, and that nobody follows, searches (R161). -/
theorem syncLoss_unheard (hst : (s.dom d).st = 2 ∨ (s.dom d).st = 3) (hg : (s.dom d).isGm = false) (hl : lossDue s d = true)
    (hf : s.time.follow ≠ d) (hcap : (s.dom d).gmCapable = false) (hh : (s.dom d).heard = []) :
    syncLoss s d = (markLost s d).setDom d { (markLost s d).dom d with gmId := 0, gmVector := 0, quality := false, st := 1 } := by
  have hdue : ((((s.dom d).st == 2 || (s.dom d).st == 3) && !(s.dom d).isGm && lossDue s d)) = true := by
    rcases hst with h | h <;> simp [h, hg, hl]
  have hdom := dom_markLost s d
  have hlose : loseFollowed (markLost s d) d = markLost s d := by
    refine loseFollowed_of_not_followed ?_
    rw [markLost, time_raise, (time_setDom ..).2.1]
    exact hf
  have hmaster : elect (markLost s d) d = (markLost s d).setDom d { (markLost s d).dom d with
      gmId := 0, gmVector := 0, quality := false, st := 1 } := by
    rw [elect_of_no_best (by simp [hdom]) (bestHeard_none (by rw [hdom]; exact hh)) (by rw [hdom]; exact hcap)]
    simp [noMaster, hdom, hg, State.domClock]
  refine (if_pos hdue).trans ?_
  dsimp only
  rw [hlose]
  refine (if_neg ?_).trans hmaster
  rw [bestHeard_none (by rw [dom_setDom_same, hdom]; simp [hh]), hdom]
  simp [hcap]

/-- Holding over, the working clock keeps its time and rate while no domain may be followed (R162). -/
theorem loseFollowed_holdover (hf : s.time.follow = 1) (h2 : s.canFollow 2 = false) (harm : s.time.stepArmed = false) (h1 : s.canFollow 1 = false) :
    (loseFollowed s 1).time = { s.time with follow := 0, source := 3, converging := false } := by
  let u := holdover (raise s (srcTime 8) 1 0)
  have htime : u.time = { s.time with follow := 0, source := 3, converging := false } := by
    simp [u, holdover, State.setTime]
  have hcan (k : Nat) : u.canFollow k = s.canFollow k := by
    simp [State.canFollow, State.delta, State.domClock, State.dom, htime]
  have hstay : leaveHoldover u = u := by
    simp [leaveHoldover, hcan, h1, h2, htime, harm]
  calc (loseFollowed s 1).time = (leaveHoldover u).time := congrArg State.time ((if_neg (not_not_intro hf)).trans (if_neg (by simp [other, h2])))
    _ = _ := by rw [hstay, htime]

end

/-- Settles O22, clause by clause. -/
theorem clockFollowing : Obligations.ClockFollowing := by
  unfold Obligations.ClockFollowing
  refine ⟨fun delta i m => clampInt_within (by omega), fun s d hd => followDom_time hd, fun s d h => if_pos h,
    fun s d hne hc => (if_neg hne).trans (if_neg (by simp [hc])), fun s h1 h2 => ⟨fun d hsw => ?due, fun hsw => ?noSwitch, fun t d hsw hlt => ?early⟩,
    fun s f t hf hsw hq hother => ?quality, fun s m hm => ⟨fun hoff => ?syncOff, fun hon hno => ?syncStrange, fun d hon hd h => ?syncIgnored,
      fun d hc hd hst hg hid hid0 hp hf hsrc ho => ?syncFirst⟩,
    fun s m hm => ⟨fun hoff => ?annOff, fun hon hno => ?annStrange, fun d hon hd h => ?annIgnored,
      fun d hon hd hst hh hg hcap hpath hid hf ho => ⟨fun hc hlast => ?annElected, fun hc h1 h0 hm0 => ?annNoted⟩⟩,
    fun s d hd => ⟨fun h => (if_pos hd).trans (congrArg _ (syncLoss_ignored h)),
      fun hst hg hl hf hcap hh => (if_pos hd).trans (congrArg _ (syncLoss_unheard hst hg hl hf hcap hh)), dom_markLost s d⟩,
    fun s hf hc => (if_neg (not_not_intro hf)).trans (if_pos hc), fun s hf hc2 harm hc1 => ?holdover⟩
  case due =>
    have hnone (k : Nat) (h : (s.dom k).qualityAt = none) :
        ((trySwitch (s.setTime { s.time with switchAt := none }) d).dom k).qualityAt = none :=
      (qualityAt_trySwitch ..).trans h
    show execScheduledSwitch s = _
    simp only [execScheduledSwitch, hsw, if_pos (Nat.le_refl s.work)]
    rw [qualitySwitch_of_none (hnone 1 h1), qualitySwitch_of_none (hnone 2 h2)]
  case noSwitch =>
    show execScheduledSwitch s = _
    simp only [execScheduledSwitch, hsw]
    rw [qualitySwitch_of_none h1, qualitySwitch_of_none h2]
  case early =>
    show execScheduledSwitch s = _
    simp only [execScheduledSwitch, hsw, if_neg (Nat.not_le.mpr hlt)]
    rw [qualitySwitch_of_none h1, qualitySwitch_of_none h2]
  case quality =>
    obtain ⟨hearly, hdue⟩ := qualitySwitch_of_some hq
    have hrun : exec .scheduledSwitch s = .next (qualitySwitch (qualitySwitch s 1) 2) := by
      show execScheduledSwitch s = _
      simp only [execScheduledSwitch, hsw]
    rw [hrun]
    rcases hf with rfl | rfl
    · have h2 : qualitySwitch s 2 = s := qualitySwitch_of_none hother
      exact ⟨fun hlt => by rw [hearly hlt, h2], fun hle hfol => by
        rw [hdue hle hfol]
        exact congrArg _ (qualitySwitch_of_none ((qualityAt_trySwitch ..).trans hother))⟩
    · rw [qualitySwitch_of_none (d := 1) hother]
      exact ⟨fun hlt => by rw [hearly hlt], fun hle hfol => by rw [hdue hle hfol]⟩
  case syncOff => exact (if_pos hm).trans (congrArg _ ((if_pos (by simp [ptpOn_of_off hoff])).trans (ptpOff_of_off hoff)))
  case syncStrange =>
    refine (if_pos hm).trans (congrArg _ ((if_neg (by simp [hon])).trans ?_))
    rw [hno]
  case syncIgnored =>
    refine (if_pos hm).trans (congrArg _ ((if_neg (by simp [hon])).trans ?_))
    rw [hd]
    exact syncReceived_ignored h
  case syncFirst =>
    have hd0 : d ≠ 0 := by have := domOf_range hd; omega
    obtain ⟨x, hx, hx2, hxo, hxr⟩ := syncReceived_first hc hst hg hid hid0 hp hd0 hf hsrc ho
    refine ⟨s.setDom d x, (if_pos hm).trans (congrArg _ ((if_neg (by simp [ptpOn_of_carries hc])).trans ?_)), ?_, ?_, ?_, (time_setDom ..).1, rfl⟩
    · rw [hd]
      exact hx
    · rwa [dom_setDom_same]
    · rwa [dom_setDom_same]
    · rwa [dom_setDom_same]
  case annOff => exact (if_pos hm).trans (congrArg _ ((if_pos (by simp [ptpOn_of_off hoff])).trans (ptpOff_of_off hoff)))
  case annStrange =>
    refine (if_pos hm).trans (congrArg _ ((if_neg (by simp [hon])).trans ?_))
    rw [hno]
  case annIgnored =>
    refine (if_pos hm).trans (congrArg _ ((if_neg (by simp [hon])).trans ?_))
    rw [hd]
    exact announceReceived_ignored h
  case annElected =>
    refine (if_pos hm).trans (congrArg _ ((if_neg (by simp [hon])).trans ?_))
    rw [hd]
    refine announceReceived_noted hst hh hpath hid ((elect_single (m := heardMaster m s.lt) ?_ ?_ ((carries_setDom ..).trans hc) ?_ ?_ ?_).trans ?_) ?_ ?_ ?_
    · rw [dom_setDom_same]; exact hst
    · rw [dom_setDom_same]
    · rw [dom_setDom_same]; exact hg
    · rw [dom_setDom_same]; exact hcap
    · rw [dom_setDom_same]; exact hlast
    · rw [setDom_setDom, dom_setDom_same]; rfl
    · rw [(time_setDom ..).2.1]; exact hf
    · rw [dom_setDom_same]; exact hg
    · exact fun _ _ => ho
  case annNoted =>
    refine (if_pos hm).trans (congrArg _ ((if_neg (by simp [hon])).trans ?_))
    rw [hd]
    have hbest : (s.setDom d { s.dom d with heard := [heardMaster m s.lt] }).bestHeard d = none := by
      rw [bestHeard_single (by rw [dom_setDom_same])]
      exact if_neg (by rw [carries_setDom]; exact Bool.eq_false_iff.mp hc)
    refine announceReceived_noted hst hh hpath hid ((elect_of_no_best ?_ hbest ?_).trans (noMaster_searching ?_ ?_ ?_)) ?_ ?_ ?_
    · rw [dom_setDom_same]; exact hst
    · rw [dom_setDom_same]; exact hcap
    · rw [dom_setDom_same]; exact hg
    · rw [dom_setDom_same]; exact h0
    · rw [dom_setDom_same]; exact h1
    · rw [(time_setDom ..).2.1]; exact hf
    · rw [dom_setDom_same]; exact hg
    · exact fun _ _ => ho
  case holdover =>
    rw [loseFollowed_holdover hf hc2 harm hc1]
    exact ⟨rfl, rfl, rfl⟩

end Sys2Proof.Machine

/-!
SUPPORT and O24 (R175 to R182). Trigger units are armed and fire; capture units record edges.
-/
namespace Sys2Proof.Machine

section
variable {s o : State} {a : Acc} {p t v : Nat}

/-- A write of TRIG_ARM that arrives (R178). -/
theorem exec_trigArm (ht : t < 64) (hr : o.boot.rescue = false) (hw : o.who a = some p) (ho : o.isOpen p = true) (t0 : State)
    (h : (if (o.arrived a cAttWrites).owns p 13 t then trigArmReg (o.arrived a cAttWrites) t v else o.arrived a cAttWrites) = t0) :
    exec (.trigArmWrite a t v) o = .next t0 := by
  refine (if_pos ht).trans (congrArg _ ?_)
  rw [accessIn_open _ hr hw ho, ← h]
  split <;> rfl

theorem trigArmReg_refused (h : armOk v = false ∨ (s.trig t).held = true) : trigArmReg s t v = s.count cTimeBadWrite 0 := by
  refine if_pos ?_
  rcases h with h | h <;> simp [h]

theorem trigArmReg_accepted (hok : armOk v = true) (hheld : (s.trig t).held = false) (hlate : bitAt v 81 = false) :
    trigArmReg s t v = armUnit s t (bitsAt v 30 2) (bitsAt v 32 48) (bitsAt v 0 30) (bitsAt v 96 32) := by
  refine (if_neg (by simp [hok, hheld])).trans ?_
  rw [hlate]
  rfl

/-- The first instant of a grid not before one that lies past its origin (R175). -/
theorem gridFrom_spec {at_ period n : Nat} (h : at_ < n) (hp : 0 < period) :
    n ≤ gridFrom at_ period n ∧ gridFrom at_ period n < n + period ∧ (gridFrom at_ period n - at_) % period = 0 := by
  have hval : gridFrom at_ period n = at_ + (n - at_ + period - 1) / period * period := by
    rw [gridFrom, if_neg (Nat.not_le.mpr h), if_neg (Nat.ne_of_gt hp)]
  have hdiv := Nat.div_add_mod' (n - at_ + period - 1) period
  have hmod := Nat.mod_lt (n - at_ + period - 1) hp
  rw [hval]
  refine ⟨by omega, by omega, ?_⟩
  rw [Nat.add_sub_cancel_left]
  exact Nat.mul_mod_left ..

theorem period_of_armOk (hok : armOk v = true) (hm : bitsAt v 30 2 = 2) : 0 < bitsAt v 96 32 := by
  simp only [armOk, hm, Bool.and_eq_true, Bool.or_eq_true, decide_eq_true_eq] at hok
  have := hok.2
  simp at this
  omega

/-- A unit that no hewer watches and no queue launches by is counted and goes on (R175). -/
theorem fireUnit_alone (hh : s.field.hewers = []) (hq : s.queues = []) : fireUnit s t false = s.setTrig t { s.trig t with
    fireCount := (s.trig t).fireCount + 1, firedEdge := s.edgeNext, late := (s.trig t).late, pending := (s.trig t).mode == 2
    next := if (s.trig t).mode = 2 then (s.trig t).next + (s.trig t).period else (s.trig t).next } := by
  simp [fireUnit, hewersSee, raiseIf, hh, hq, forEach]

section
variable {mode sec ns period : Nat}

theorem armUnit_cancel (hm : mode = 0) : armUnit s t mode sec ns period = s.setTrig t { s.trig t with
    ns := ns, mode := mode, sec := sec, period := period, pending := false } := if_pos hm

theorem armUnit_ahead (hm : mode = 1 ∨ mode = 2) (h : s.work + 50 ≤ sec * 1000000000 + ns) : armUnit s t mode sec ns period =
    s.setTrig t { s.trig t with
      ns := ns, mode := mode, sec := sec, period := period, pending := true, next := sec * 1000000000 + ns } := by
  have hwork (x : TrigUnit) : (s.setTrig t x).work = s.work := rfl
  rcases hm with rfl | rfl
  · simp [armUnit, hwork, Nat.not_lt.mpr h]
  · simp [armUnit, Nat.not_lt.mpr h]

theorem armUnit_late (hm : mode = 1) (h : sec * 1000000000 + ns < s.work + 50) : armUnit s t mode sec ns period =
    fireUnit (s.setTrig t { s.trig t with
      ns := ns, mode := mode, sec := sec, period := period, pending := true, next := sec * 1000000000 + ns }) t true := by
  have hwork (x : TrigUnit) : (s.setTrig t x).work = s.work := rfl
  simp [armUnit, hm, hwork, h]

theorem armUnit_grid (hm : mode = 2) (h : sec * 1000000000 + ns < s.work + 50) : armUnit s t mode sec ns period =
    s.setTrig t { s.trig t with
      ns := ns, mode := mode, sec := sec, period := period, pending := true
      next := gridFrom (sec * 1000000000 + ns) period (s.work + 50) } := by
  simp [armUnit, hm, h]

end

/-! Capture units. -/

theorem ctr_count_ne_pos {c k : CtrId} (h : k.pos % 64 ≠ c.pos % 64) (s : State) (i j n : Nat) : (s.count c i n).ctr k j = s.ctr k j :=
  tblGetD_tblSet_ne _ _ _ (by unfold ctrKey; omega)

/-- A record for a disabled queue without open packet is refused and counted. -/
theorem putPacket_disabled {q cls : Nat} {d : List Byte} {ev : Bool} (he : (s.queue q).enable = false) (ho : (s.queue q).opn = none) :
    putPacket s q d cls ev = (s.count cProdDisabled q, false) := by
  have happ : appendOpen s q d cls ev = (s.count cProdDisabled q, false) := by
    refine (if_pos (by simp [he])).trans ?_
    simp [abortOpen, ho]
  rw [putPacket, happ]

theorem captLose_raised {u : Nat} (h : (s.capt u).overRaised = true) :
    captLose s u = (s.setCapt u { s.capt u with lost := true, overRaised := true }).count cCaptLost u := by
  simp [captLose, h, raiseIf]

/-- An edge that a unit records (R179). -/
theorem capture_recorded {x : CaptUnit} {r : Bool} (he : edgeSel x.edges r = true) (hfar : x.seq = 0 ∨ x.lastEdge + 2 ≤ s.lt) :
    ¬(!edgeSel x.edges r || (x.seq != 0 && decide (s.lt < x.lastEdge + 2))) = true := by
  rcases hfar with h | h
  · simp [he, h]
  · simp [he, h]

end

/-- Settles O24, clause by clause. -/
theorem triggersAndCaptures : Obligations.TriggersAndCaptures := by
  unfold Obligations.TriggersAndCaptures
  refine ⟨fun a p t v o ht hr hw hop => ?_, fun t s ht => ⟨fun h => ?quiet, fun hp hn hh hq hm => ?alone, fun hp hn => ?fires⟩,
    fun u r s hu => ⟨fun h => ?unselected, fun h0 hl => ?close, fun hed hfar hq => ?latest, fun q hed hfar hq he ho hwait hover => ?full⟩⟩
  · have arm := exec_trigArm (v := v) ht hr hw hop
    refine ⟨fun hno => arm _ (if_neg (by simp [hno])), fun hown h => arm _ ((if_pos hown).trans (trigArmReg_refused h)),
      fun hown hok hheld hlate => ?_⟩
    have arm (t0 : State) (h : armUnit (o.arrived a cAttWrites) t (bitsAt v 30 2) (bitsAt v 32 48) (bitsAt v 0 30) (bitsAt v 96 32) = t0) :=
      arm t0 ((if_pos hown).trans ((trigArmReg_accepted hok hheld hlate).trans h))
    refine ⟨fun hm => arm _ (armUnit_cancel hm), fun hm hl => arm _ (armUnit_ahead (.inl hm) hl), fun hm hl => arm _ (armUnit_late hm hl),
      fun hm hl => arm _ (armUnit_ahead (.inr hm) hl), fun hm hl => ?_⟩
    obtain ⟨hle, hlt, hgrid⟩ := gridFrom_spec hl (period_of_armOk hok hm)
    exact ⟨_, arm _ (armUnit_grid hm hl), hle, by omega, hgrid⟩
  case quiet =>
    refine (if_pos ht).trans (congrArg _ (if_neg ?_))
    rcases h with h | h
    · simp [h]
    · simp [h]
  case alone =>
    refine (if_pos ht).trans (congrArg _ ((if_pos (by simp [hp, hn])).trans ((fireUnit_alone hh hq).trans ?_)))
    rw [hm, if_pos rfl]
    simp [hp]
  case fires => exact (if_pos ht).trans (congrArg _ (if_pos (by simp [hp, hn])))
  case unselected => exact (if_pos hu).trans (congrArg _ (if_pos (by simp [h])))
  case close => exact (if_pos hu).trans (congrArg _ (if_pos (by simp [h0, hl])))
  case latest =>
    refine (if_pos hu).trans (congrArg _ ((if_neg (capture_recorded hed hfar)).trans ?_))
    dsimp only
    rw [hq]
    exact State.setCapt_setCapt ..
  case full =>
    let x : CaptUnit := { s.capt u with
      seq := ((s.capt u).seq + 1) % 4294967296, lastEdge := s.lt, waiting := (s.capt u).waiting.filter (fun t => decide (t > s.lt)) }
    have hput (v : CaptUnit) (d : List Byte) : putPacket (s.setCapt u v) q d 0 false = ((s.setCapt u v).count cProdDisabled q, false) :=
      putPacket_disabled he ho
    have hrun : captureEdge s u r = captLose ((s.setCapt u x).count cProdDisabled q) u := by
      refine (if_neg (capture_recorded hed hfar)).trans ?_
      dsimp only
      rw [hq]
      dsimp only
      rw [if_neg (by simp [hwait]), hput, ← hq]
    refine ⟨_, (if_pos hu).trans (congrArg _ (hrun.trans (captLose_raised ?_))), ?_, ?_, ?_, ?_⟩
    all_goals simp [x, hover]
    exact ctr_count_ne_pos (by decide) ..

end Sys2Proof.Machine

/-!
SUPPORT and O25 (R185 to R195). CYCLE_START arms the four units of the cycle; the other rows write the cycle's own records.
-/
namespace Sys2Proof.Machine

/-- What each round of a loop leaves, the loop leaves. -/
theorem forEach_proj {α β : Type} {g : State → β} {f : α → State → State} (h : ∀ a s, g (f a s) = g s) (l : List α) (s : State) :
    g (forEach l s f) = g s := by
  rw [forEach]
  induction l generalizing s with
  | nil => rfl
  | cons a l ih => rw [List.foldl_cons, ih, h]

section
variable {s : State} {n : Nat}

/-- The unit of a cycle that is due `off` after the start of cycle `n` (R188). -/
def TrigUnit.cyclic (x : TrigUnit) (c : CycleCfg) (n off : Nat) : TrigUnit :=
  { x with
    held := true, mode := 2, sec := (c.base + n * c.t + off) / 1000000000, ns := (c.base + n * c.t + off) % 1000000000, period := c.t
    pending := true, next := c.base + n * c.t + off }

theorem armCycle_eq (s : State) (n : Nat) : armCycle s n =
    let c := s.cycle.cfg
    (((s.setTrig 63 ((s.trig 63).cyclic c n 0)).setTrig 62 ((s.trig 62).cyclic c n c.pubOff)).setTrig 61
      ((s.trig 61).cyclic c n c.dlOff)).setTrig 60 ((s.trig 60).cyclic c n c.apOff) := by
  simp [armCycle, cycleUnits, forEach, TrigUnit.cyclic]

theorem trig_armCycle (s : State) (n : Nat) : ∀ e ∈ cycleUnits s.cycle.cfg,
    (armCycle s n).trig e.1 = (s.trig e.1).cyclic s.cycle.cfg n e.2 := by
  rw [armCycle_eq]
  simp [cycleUnits]

/-- The first cycle not before an instant. -/
theorem firstAt_spec {c : Cycle} (ht : 0 < c.cfg.t) (w : Nat) : w ≤ c.cfg.base + c.firstAt w * c.cfg.t ∧
    (c.firstAt w = 0 ∨ c.cfg.base + c.firstAt w * c.cfg.t < w + c.cfg.t) := by
  unfold Cycle.firstAt
  split
  · next h =>
    refine ⟨?_, .inl rfl⟩
    rcases h with h | h <;> omega
  · next h =>
    have hdiv := Nat.div_add_mod' (w - c.cfg.base + c.cfg.t - 1) c.cfg.t
    have hmod := Nat.mod_lt (w - c.cfg.base + c.cfg.t - 1) ht
    exact ⟨by omega, .inr (by omega)⟩

theorem crushStart_proj {β : Type} {g : State → β} (h : ∀ m x s, g (s.setMap m x) = g s) (s : State) : g (crushStart s) = g s :=
  forEach_proj (fun m s => h m _ s) _ s

/-- The hub with its cycle running from cycle `n` (R188). -/
def startedCycle (s : State) (x : CycleCfg) (n : Nat) : State :=
  crushStart (s.setCycle { s.cycle with
    cfg := x, running := true, begun := false, startN := some n, first := n, stopAt := none, last := n - 1, toPublish := []
    toDeadline := [], toApply := []
    image := { s.cycle.image with pendMaps := s.cycle.image.pendMaps.map (fun m => (m.1, m.2.1, 0)) } })

theorem cycle_startedCycle (s : State) (x : CycleCfg) (n : Nat) : (startedCycle s x n).cycle.cfg = x ∧
    (startedCycle s x n).cycle.running = true ∧ (startedCycle s x n).cycle.startN = some n := by
  rw [startedCycle, crushStart_proj (g := State.cycle) fun _ _ _ => rfl]
  exact ⟨rfl, rfl, rfl⟩

theorem time_startedCycle (s : State) (x : CycleCfg) (n : Nat) : (startedCycle s x n).time = s.time :=
  crushStart_proj (g := State.time) (fun _ _ _ => rfl) _

theorem queues_startedCycle (s : State) (x : CycleCfg) (n : Nat) : (startedCycle s x n).queues = s.queues :=
  crushStart_proj (g := State.queues) (fun _ _ _ => rfl) _

theorem armCycle_proj {β : Type} {g : State → β} (h : ∀ t x s, g (s.setTrig t x) = g s) (s : State) (n : Nat) : g (armCycle s n) = g s :=
  forEach_proj (α := Nat × Nat) (fun e s => h e.1 _ s) _ s

theorem okArmed_of_valid {t : State} (ht : t.time = s.time) (hv : s.time.valid = true) (r : CmdRes) :
    (let u := if t.time.valid then armCycle t n else holdUnits t
     if u.time.valid then CmdRes.ok (leBytes 8 n) [] u else r) = .ok (leBytes 8 n) [] (armCycle t n) := by
  have hval : t.time.valid = true := (congrArg Time.valid ht).trans hv
  have harm : (armCycle t n).time.valid = true := (armCycle_proj (g := fun s => s.time.valid) (fun _ _ _ => rfl) t n).trans hval
  dsimp only
  rw [if_pos hval, if_pos harm]

/-- CYCLE_START, its checks passed, while the working clock is valid. -/
theorem bodyCycleStart_ok {c : Cmd} (hok : (cycleCfgOf c).ok = true) (hns : c.u 12 4 < 1000000000) (hsec : c.u 16 8 < 2 ^ 48)
    (hrun : s.cycle.running = false) (hall : (cycleUnits (cycleCfgOf c)).all (fun e => s.mayTake e.1) = true) (hvalid : s.time.valid = true)
    (hn : ({ s.cycle with cfg := cycleCfgOf c } : Cycle).firstAt (s.work + 1000000) = n) :
    bodyCycleStart c s = .ok (leBytes 8 n) [] (armCycle (startedCycle s (cycleCfgOf c) n) n) := by
  subst hn
  unfold bodyCycleStart
  rw [chk_of (by rw [hok, decide_eq_true hns, decide_eq_true hsec]; rfl), chk_of (by simp [hrun]), chk_of hall]
  exact okArmed_of_valid (time_startedCycle ..) hvalid _

theorem period_of_ok {x : CycleCfg} (h : x.ok = true) : 0 < x.t := by
  simp only [CycleCfg.ok, within, Bool.and_eq_true, decide_eq_true_eq] at h
  omega

end

/-- Settles O25, row by row. -/
theorem cycleAndImageCommands : Obligations.CycleAndImageCommands := by
  unfold Obligations.CycleAndImageCommands
  intro d s t c
  have own (hq : t.owns d.part 5 (c.u 8 2) = true) (hfw : (t.queue (c.u 8 2)).fwUse = 0) (r : CmdRes) : ownRes t c 5 (c.u 8 2) r = r :=
    ownRes_of_owns (c := c) hq (fwHeld_of_free_queue hfw)
  refine ⟨fun h hok hns hsec hrun htake hvalid => ?start, fun h hok hns hsec hrun => ?running, fun h hrun hstop => ?stop, fun h hrun => ?idle,
    fun l h hsz hn hlen hown hl hent hdis hrun => ?map, fun h hk hp => ?seg, fun h hq ho hfw hsegs hfree hpair => ?sub,
    fun h hq ho hfw hsegs hbound hother hpair => ?bound⟩
  case start =>
    let x := cycleCfgOf c
    have hx : 0 < x.t := period_of_ok hok
    obtain ⟨hlo, hhi⟩ := firstAt_spec (c := { t.cycle with cfg := x }) hx (t.work + 1000000)
    generalize hn : ({ t.cycle with cfg := x } : Cycle).firstAt (t.work + 1000000) = n at hlo hhi
    have hall : (cycleUnits x).all (fun e => t.mayTake e.1) = true := by
      simp [cycleUnits, htake]
    obtain ⟨hcfg, hrunning, hstart⟩ := cycle_startedCycle t x n
    have hunits := trig_armCycle (startedCycle t x n) n
    rw [hcfg] at hunits
    have harmed := armCycle_proj (g := State.cycle) (fun _ _ _ => rfl) (startedCycle t x n) n
    have htime := armCycle_proj (g := fun s => s.time.work) (fun _ _ _ => rfl) (startedCycle t x n) n
    have hqueues := armCycle_proj (g := State.queues) (fun _ _ _ => rfl) (startedCycle t x n) n
    refine ⟨armCycle (startedCycle t x n) n, n, cmdRow_ok bodyCycleStart h (bodyCycleStart_ok hok hns hsec hrun hall hvalid hn), hlo, hhi, ?_,
      ?_, ?_, ?_, ?_, fun k hlo hhi => ?_, fun e he => ?_⟩
    · rw [harmed, hrunning]
    · rw [harmed, hcfg]
    · rw [harmed, hstart]
    · exact htime.trans (congrArg Time.work (time_startedCycle ..))
    · rw [hqueues, queues_startedCycle]
    · obtain ⟨off, he⟩ : ∃ off, (k, off) ∈ cycleUnits x := by
        rcases (by omega : k = 60 ∨ k = 61 ∨ k = 62 ∨ k = 63) with rfl | rfl | rfl | rfl
        · exact ⟨_, .tail _ (.tail _ (.tail _ (.head _)))⟩
        · exact ⟨_, .tail _ (.tail _ (.head _))⟩
        · exact ⟨_, .tail _ (.head _)⟩
        · exact ⟨_, .head _⟩
      rw [hunits _ he]
      exact ⟨rfl, rfl, rfl, rfl⟩
    · rw [hunits e he]
      rfl
  case running =>
    refine cmdRow_fail bodyCycleStart h (?_ : bodyCycleStart c t = _)
    simp only [bodyCycleStart, hok, decide_eq_true hns, decide_eq_true hsec, hrun]
    rfl
  case stop =>
    refine cmdRow_ok bodyCycleStop h (?_ : bodyCycleStop c t = _)
    simp only [bodyCycleStop, hrun, hstop]
    rfl
  case idle =>
    refine cmdRow_fail bodyCycleStop h (?_ : bodyCycleStop c t = _)
    simp only [bodyCycleStop, hrun]
    rfl
  case map =>
    refine cmdRow_ok bodyImageMapSet h (?_ : bodyImageMapSet c t = _)
    have hlen' : (c.len == 8 * c.u 10 2) = true := beq_iff_eq.mpr hlen
    have hent' : l.all (MapEnt.ok t c.p (c.u 8 2)) = true := hent
    simp only [bodyImageMapSet, decide_eq_true hsz, decide_eq_true hn, hlen', ← hl, hent', hdis, hown, hrun]
    have hnone (m : List (List MapEnt × Nat × Nat)) : m.filter (fun _ => false) = [] := List.filter_eq_nil_iff.mpr fun _ _ => Bool.false_ne_true
    simp [hnone]
  case seg =>
    refine cmdRow_ok bodySegCfg h (?_ : bodySegCfg c t = _)
    simp only [bodySegCfg, decide_eq_true hk, decide_eq_true hp]
    rfl
  case sub =>
    have hmine : ((t.queue (c.u 8 2)).prod == .image c.p) = false := by
      rw [hfree]
      rfl
    have hst : prodBindStatus t (c.u 8 2) (.image c.p) = stOk := by
      have hpair' : pairOk (.image c.p) (t.queue (c.u 8 2)).cons = true := hpair
      simp [prodBindStatus, hpair', hfree]
    have hboth : ¬(c.u 10 2 = 0 ∧ c.u 16 32 = 0) := fun h => hsegs h.1
    have hbody : bodyImageSub c t = okS ((bindProd t (c.u 8 2) (.image c.p)).setCycle { t.cycle with
        image := { t.cycle.image with subs := t.cycle.image.subs.filter (fun e => e.queue != c.u 8 2)
          ++ [{ part := c.p, queue := c.u 8 2, nodes := c.u 16 32, segs := c.u 10 2 }] } }) := by
      simp only [bodyImageSub, decide_eq_true hq, own ho hfw, hmine, if_neg hboth, hst]
      rfl
    exact ⟨_, cmdRow_ok bodyImageSub h hbody, State.setQueue_queue_same .., rfl⟩
  case bound =>
    refine cmdRow_fail bodyImageSub h (?_ : bodyImageSub c t = _)
    have hmine : ((t.queue (c.u 8 2)).prod == .image c.p) = false := beq_false_of_ne hother
    have hst : prodBindStatus t (c.u 8 2) (.image c.p) = stBusy := by
      have hpair' : pairOk (.image c.p) (t.queue (c.u 8 2)).cons = true := hpair
      simp [prodBindStatus, hpair', hbound]
    have hboth : ¬(c.u 10 2 = 0 ∧ c.u 16 32 = 0) := fun h => hsegs h.1
    simp only [bodyImageSub, decide_eq_true hq, own ho hfw, hmine, if_neg hboth, hst]
    rfl

end Sys2Proof.Machine

/-! O26 (R197, R198, R204, R212). -/
namespace Sys2Proof.Machine

/-- Settles O26, row by row. -/
theorem outputGroupCommands : Obligations.OutputGroupCommands := by
  unfold Obligations.OutputGroupCommands
  intro d s g t c b x
  refine ⟨fun items h hl ho hown hitems hn hn' hlen hlb hlb' hk hk' hph hlease hctrl hok hclash hall hwr hsame => ?set,
    fun h hl ho hon hen hclash hitems => ?start, fun h hl ho hon => ?stop, fun h hl ho hown hlen0 hlen => ?safe,
    fun h hl hread hlen hown => ?status⟩
  case set =>
    have hent : entriesOf (c.bulk.drop 32) 8 (leAt c.bulk 1 1) _ = items := hitems.symm
    have hlen' : (c.len == 32 + 8 * leAt b 1 1) = true := beq_iff_eq.mpr hlen
    have hlease0 : leAt b 8 1 ≠ 0 := by omega
    have hbody : bodyGroupSet c t = chk (!x.enable) stWrongState (okS (t.setGroup g { x with
        shadowExpect := false, holdEn := false, k := leAt b 4 2, phase := leAt b 6 2, lease := leAt b 8 1
        holdCycles := leAt b 10 2, writers := leAt b 12 2, items := items })) := by
      simp only [bodyGroupSet, handle_of_localRes hl]
      rw [hent, if_neg hlease0, if_neg hwr, hctrl, chk_of, ownRes_of_free_class (c := c) ho, chk_of, if_pos hsame.symm]
      · rw [show leAt c.bulk 2 2 = (t.group g).len from hsame.symm]
        rfl
      · rw [hown]
        exact hall
      · rw [within_of hn hn', hlen', within_of hlb hlb', within_of hk hk', decide_eq_true hph, decide_eq_true hlease, hclash, Bool.not_false,
          Bool.and_true]
        exact hok
    refine ⟨fun hen => cmdRow_ok bodyGroupSet h (hbody.trans ?_), fun hen => cmdRow_fail bodyGroupSet h (hbody.trans ?_)⟩
    · rw [hen]
      rfl
    · rw [hen]
      rfl
  case start =>
    refine cmdRow_ok bodyGroupEnable h (?_ : bodyGroupEnable c t = _)
    simp only [bodyGroupEnable, handle_of_localRes hl]
    have hne : (!(t.group g).items.isEmpty) = true := by simpa [x] using hitems
    rw [hon, show (t.group g).enable = false from hen, hclash, ownRes_of_free_class (c := c) ho, hne]
    rfl
  case stop =>
    refine cmdRow_ok bodyGroupEnable h (?_ : bodyGroupEnable c t = _)
    simp only [bodyGroupEnable, handle_of_localRes hl]
    rw [hon, ownRes_of_free_class (c := c) ho]
    rfl
  case safe =>
    refine cmdRow_ok bodyGroupSafeSet h (?_ : bodyGroupSafeSet c t = _)
    have hlen' : (c.len == (t.group g).len) = true := beq_iff_eq.mpr hlen
    simp only [bodyGroupSafeSet, handle_of_localRes hl]
    rw [show ((t.group g).len != 0) = true from bne_iff_ne.mpr hlen0, hlen', ownRes_of_free_class (c := c) ho, hown]
    rfl
  case status =>
    refine cmdRow_ok bodyGroupStatus h (?_ : bodyGroupStatus c t = _)
    have hlen' : c.len = 0 := hlen
    have hread' : t.mayRead c.p 7 g = true := hread
    simp only [bodyGroupStatus, handle_of_localRes hl, hlen', hown, readRes, hread']
    rfl

end Sys2Proof.Machine

/-!
SUPPORT and O27 (R206 to R215).
-/
namespace Sys2Proof.Machine

section
variable {s : State} {c : Cmd} {f : Nat → CmdRes}

/-- A row of a twin set of the issuer's (R206). -/
theorem ownSet_of (h16 : c.u 8 1 < 16) (hd : (s.twin (c.u 8 1)).defined = true) (ho : (s.twin (c.u 8 1)).owner = c.p) :
    ownSet s c f = f (c.u 8 1) := by
  simp [ownSet, h16, hd, ho]

@[simp] theorem markMaps_nil (v : Option Nat) : markMaps s [] v = s := rfl

@[simp] theorem entriesOf_zero {α : Type} (b : List Byte) (k : Nat) (f : List Byte → α) : entriesOf b k 0 f = [] := rfl

theorem becomeActive_in_range {t : Nat} (h : (s.twin t).heardTally < 0xFFFF) : becomeActive s t = s.setTwin t { s.twin t with
    role := 2, useTally := (s.twin t).heardTally + 1, silent := 0, nextRole := none } := by
  have hlt : ¬0xFFFF < (s.twin t).heardTally + 1 := Nat.not_lt.mpr h
  simp [becomeActive, hlt, Nat.not_le.mpr h, raiseIf]

/-- TWIN_SET with no group for a set of the issuer's or a free one that is not enabled. -/
theorem bodyTwinSet_delete (h16 : c.u 8 1 < 16) (hl : c.len = 0) (hg : c.u 18 2 = 0) (hm : c.u 20 2 = 0)
    (ho : (s.twin (c.u 8 1)).defined = false ∨ (s.twin (c.u 8 1)).owner = c.p) (he : (s.twin (c.u 8 1)).enable = false)
    (hmaps : (s.twin (c.u 8 1)).maps = []) : bodyTwinSet c s = .ok (leBytes 4 0) [] (s.setTwin (c.u 8 1) {}) := by
  have hfree : (!(s.twin (c.u 8 1)).defined || (s.twin (c.u 8 1)).owner == c.p) = true := by
    rcases ho with h | h <;> simp [h]
  unfold bodyTwinSet
  dsimp only
  rw [if_neg (by rw [hl, hg, hm]; omega), if_pos hg, chk_of (by simp [hm]), chk_of hfree, chk_of (by simp [he]), hmaps, markMaps_nil]

/-- TWIN_SET with a group list and no map. -/
theorem bodyTwinSet_define {l : List (Nat × Nat)} {y : TwinSet} (h16 : c.u 8 1 < 16) (hl : c.len = 4 * c.u 18 2) (hg : 1 ≤ c.u 18 2)
    (hg' : c.u 18 2 ≤ 512) (hm : c.u 20 2 = 0) (hent : entriesOf c.bulk 4 (c.u 18 2) (fun b => (leAt b 0 1, leAt b 2 2)) = l)
    (hpar : (within 1 250 (c.u 9 1) && decide (c.u 10 1 ≤ 1) && within 2 255 (c.u 11 1) && within 1 65534 (c.u 12 2)
      && within 1 1024 (c.u 14 2) && decide (c.u 16 2 < c.u 14 2)) = true)
    (hfits : l.all (pairFits s (c.u 14 2) (c.u 16 2)) = true)
    (ho : (s.twin (c.u 8 1)).defined = false ∨ (s.twin (c.u 8 1)).owner = c.p) (hown : c.owned = true)
    (hlocal : l.all (fun e => !s.isLocal e.1 || s.owns c.p 7 e.2) = true) (he : (s.twin (c.u 8 1)).enable = false)
    (hmaps : (s.twin (c.u 8 1)).maps = [])
    (hy : y = { defined := true, partner := c.u 9 1, prefActive := c.u 10 1 == 0, lease := c.u 11 1, tally := c.u 12 2, k := c.u 14 2
                phase := c.u 16 2, groups := l, owner := c.p }) :
    bodyTwinSet c s = .ok (leBytes 4 (s.setDigest y)) [] (s.setTwin (c.u 8 1) y) := by
  have hfree : (!(s.twin (c.u 8 1)).defined || (s.twin (c.u 8 1)).owner == c.p) = true := by
    rcases ho with h | h <;> simp [h]
  unfold bodyTwinSet
  dsimp only
  rw [if_neg (by rw [hl, hm]; omega), if_neg (by omega), hent, hm, entriesOf_zero, chk_of (by rw [hpar, hfits]; rfl), chk_of hfree,
    chk_of (by rw [hown, hlocal]; rfl), chk_of (by simp [he]), hmaps, markMaps_nil, markMaps_nil, hy]

/-- Setting a domain's or set's rest aside: the sets other than the one that listens again keep their roles (R214). -/
theorem bodyTwinRearm_one (h16 : c.u 8 1 < 16) (hp : c.p = 0) (hn : s.cycle.needRearm = true) (hr : (s.twin (c.u 8 1)).role = 4)
    (hrest : ∀ k, k < 16 → k ≠ c.u 8 1 → (s.twin k).role ≠ 4) :
    let u := s.setTwin (c.u 8 1) { s.twin (c.u 8 1) with role := 1, silent := 0, listen := 0, partnerSeen := false, nextRole := none }
    bodyTwinRearm c s = okS (u.setCycle { u.cycle with needRearm := false }) := by
  intro u
  have hff : c.u 8 1 ≠ 0xFF := by omega
  have hleft : ((List.range 16).any fun k => (u.twin k).role == 4) = false := by
    rw [List.any_eq_false]
    intro k hk
    by_cases he : k = c.u 8 1
    · subst he
      simp [u]
    · simp [u, he, hrest k (List.mem_range.mp hk) he]
  unfold bodyTwinRearm
  dsimp only
  rw [chk_of (by simp [h16]), chk_of (by simp [hp]), chk_of hn, if_neg hff, forEach, List.foldl_cons, List.foldl_nil, if_pos hr, hleft]

/-- DRILL at a cycle of the set at least one full set cycle ahead (R215). -/
theorem bodyDrill_starts (h16 : c.u 8 1 < 16) (hd : (s.twin (c.u 8 1)).defined = true) (ho : (s.twin (c.u 8 1)).owner = c.p)
    (hr : (s.twin (c.u 8 1)).role = 2) (hof : ofCycle (s.twin (c.u 8 1)).k (s.twin (c.u 8 1)).phase (c.u 16 8) = true)
    (hfirst : firstOf (s.twin (c.u 8 1)).k (s.twin (c.u 8 1)).phase (s.cycleNow + 1) + (s.twin (c.u 8 1)).k ≤ c.u 16 8)
    (huse : (s.twin (c.u 8 1)).inUse < 0xFFFF) : bodyDrill c s = .later (sendHandoff (s.setTwin (c.u 8 1) { s.twin (c.u 8 1) with
      drillAt := some (c.u 16 8), drillTally := (s.twin (c.u 8 1)).inUse + 1, drillTag := some (c.p, c.d.tag), drillFrom := false
      drillSent := s.lt }) (c.u 8 1) ((s.twin (c.u 8 1)).inUse + 1) (c.u 16 8) false) := by
  have hin : (s.twin (c.u 8 1)).inUse + 1 ≤ 0xFFFF := huse
  unfold bodyDrill
  dsimp only
  rw [chk_of (by simp [hof, hfirst]), ownSet_of h16 hd ho, hr, if_pos hin]
  rfl

end

/-- Settles O27, row by row. -/
theorem twinCommands : Obligations.TwinCommands := by
  unfold Obligations.TwinCommands
  intro d s t c x
  refine ⟨fun h h16 hl hg hm ho he hmaps => cmdRow_ok bodyTwinSet h (bodyTwinSet_delete h16 hl hg hm ho he hmaps),
    fun l h h16 hlen hg hg' hm hpar hpar' hpr hls hls' htl htl' hk hk' hph hl hfits ho hown hlocal he hmaps => ?define,
    fun h h16 hd ho hoff => ?disable, fun h h16 hd ho hon he => ?enable, fun h h16 hp hn hr hrest => ?rearm,
    fun h h16 hd ho hr ht => ?takeover, fun h h16 hd ho hr => ?notStandby, fun h h16 hd ho hr hof hfirst huse => ?drill,
    fun h h16 hd ho => ?status, fun h hn hact hg ht hlen => ?add, fun h hn hact hg ht hnone => ?remove⟩
  case define =>
    exact cmdRow_ok bodyTwinSet h (bodyTwinSet_define h16 hlen hg hg' hm hl.symm
      (by rw [within_of hpar hpar', decide_eq_true hpr, within_of hls hls', within_of htl htl', within_of hk hk', decide_eq_true hph]; rfl)
      hfits ho hown hlocal he hmaps rfl)
  case disable =>
    refine cmdRow_ok bodyTwinEnable h (?_ : bodyTwinEnable c t = _)
    rw [bodyTwinEnable, ownSet_of h16 hd ho, hoff]
    rfl
  case enable =>
    refine cmdRow_ok bodyTwinEnable h (?_ : bodyTwinEnable c t = _)
    rw [bodyTwinEnable, ownSet_of h16 hd ho, hon]
    simp only [show (t.twin (c.u 8 1)).enable = false from he]
    rfl
  case rearm =>
    exact ⟨_, cmdRow_ok bodyTwinRearm h (bodyTwinRearm_one h16 hp hn hr hrest), State.setTwin_twin_same .., rfl,
      fun k hk => State.setTwin_twin_ne _ _ _ hk⟩
  case takeover =>
    refine cmdRow_ok bodyTwinTakeover h (?_ : bodyTwinTakeover c t = _)
    rw [bodyTwinTakeover, ownSet_of h16 hd ho, show (t.twin (c.u 8 1)).role = 3 from hr, becomeActive_in_range ht]
    rfl
  case notStandby =>
    refine cmdRow_fail bodyTwinTakeover h (?_ : bodyTwinTakeover c t = _)
    rw [bodyTwinTakeover, ownSet_of h16 hd ho, show ((t.twin (c.u 8 1)).role == 3) = false from beq_false_of_ne hr]
    rfl
  case drill =>
    exact cmdRow_later bodyDrill h (bodyDrill_starts h16 hd ho hr hof hfirst huse)
  case status =>
    refine cmdRow_ok bodyTwinStatus h (?_ : bodyTwinStatus c t = _)
    rw [bodyTwinStatus, ownSet_of h16 hd ho]
  case add =>
    refine cmdRow_ok bodyTallyRegister h (?_ : bodyTallyRegister c t = _)
    have hrest (f : TallyReg → Bool) : (t.cycle.regs.filter f).length < 512 := Nat.lt_of_le_of_lt (List.length_filter_le ..) hlen
    simp only [bodyTallyRegister, decide_eq_true hn, hact, decide_eq_true hg, decide_eq_true ht, decide_eq_true (hrest _)]
    rfl
  case remove =>
    refine cmdRow_fail bodyTallyRegister h (?_ : bodyTallyRegister c t = _)
    simp only [bodyTallyRegister, decide_eq_true hn, hact, decide_eq_true hg, decide_eq_true ht, hnone]
    rfl

end Sys2Proof.Machine

/-!
SUPPORT and O28 (R185 to R195, R202 to R205).
-/
namespace Sys2Proof.Machine

section
variable {s : State} {g n : Nat}

/-! No drill waits and no set is defined. -/

theorem drillTimeouts_of_none (h : ∀ k, (s.twin k).drillTag = none) : drillTimeouts s = s := by
  refine forEach_of_fixed_mem fun k _ => ?_
  unfold drillTimeout
  simp only [h k]

theorem twinSnapshot_of_undefined (h : ∀ k, (s.twin k).defined = false) : twinSnapshot s n = s :=
  forEach_of_fixed_mem fun k _ => if_pos (by simp [h k])

theorem twinDeadline_of_undefined (h : ∀ k, (s.twin k).defined = false) : twinDeadline s n = s :=
  forEach_of_fixed_mem fun k _ => if_pos (by simp [h k])

theorem crushDeadline_of_empty (h : s.crush.maps = []) : crushDeadline s n = s := by
  rw [crushDeadline, h]
  rfl

theorem crushSnapshot_of_empty (h : s.crush.maps = []) :
    crushSnapshot s n = { s with crush := { s.crush with snapSeq := s.pool.commits } } := by
  simp [crushSnapshot, latchMaps, h, forEach]

theorem takeMaps_of_none (h : s.cycle.image.pendMaps = []) : takeMaps s n = s := by
  simp [takeMaps, h]

theorem crushAssembled_of_empty (h : s.crush.maps = []) : crushAssembled s n = s := by
  rw [crushAssembled, h]
  rfl

/-! A group at its deadline and at APPLY. -/

theorem group_skipped (h : (s.group g).enable = false) : groupDeadline s g n = s ∧ groupApply s g n = s := by
  have hlive : s.groupLive g = false := by simp [State.groupLive, h]
  exact ⟨if_pos (by simp [hlive]), if_pos (by simp [hlive])⟩

theorem group_acts (hl : s.groupLive g = true) (hof : ofCycle (s.group g).k (s.group g).phase n = true) (hb : (s.group g).beginAt ≤ s.cycle.dl n) :
    ¬(!s.groupLive g || !ofCycle (s.group g).k (s.group g).phase n || decide (s.cycle.dl n < (s.group g).beginAt)) = true := by
  simp [hl, hof, hb]

theorem compareShadows_of_none (h : (s.group g).pending = []) : compareShadows s g n = s := by
  simp [compareShadows, h]

theorem kept_offerFrame {q cls : Nat} {f : Frame} {e : Option Nat} : (offerFrame s q f cls e).1.kept = s.kept := kept_putFrame

/-- Publishing firmware's frames marks segments as built, and leaves the image itself and the crusher's work (R194). -/
theorem commitImage_keeps (w : ImageBuf) : (commitImage s w).cycle.image.view = s.cycle.image.view ∧
    (commitImage s w).cycle.image.work = s.cycle.image.work ∧ (commitImage s w).crush = s.crush := by
  let view (s : State) := (s.cycle.image.view, s.cycle.image.work, s.crush)
  have hview : view (commitImage s w) = view s := by
    unfold commitImage
    split
    · rfl
    · refine forEach_proj (g := view) (fun k u => ?_) _ _
      split
      next v ok hoffer =>
      have hkept : v.kept = u.kept := kept_of_fst hoffer kept_offerFrame
      have hcyc : v.cycle = u.cycle := congrArg (fun k : Kept => k.rest.cycle) hkept
      have hcr : v.crush = u.crush := congrArg (fun k : Kept => k.rest.crush) hkept
      cases ok
      · simp [view, hcyc, hcr]
      · simp [view, State.setCycle, hcyc, hcr]
  simpa [view] using hview

theorem crushAdd_each (f : Nat → CrushWork) (l : List Nat) : (forEach l s fun k s => crushAdd s (f k)).cycle = s.cycle ∧
    (forEach l s fun k s => crushAdd s (f k)).crush.work.length = s.crush.work.length + l.length := by
  rw [forEach]
  induction l generalizing s with
  | nil => exact ⟨rfl, rfl⟩
  | cons k l ih =>
    obtain ⟨hc, hl⟩ := ih (s := crushAdd s (f k))
    refine ⟨hc, hl.trans ?_⟩
    simp [crushAdd]
    omega

/-! What firmware takes from its queue (R51). -/

theorem kept_readCells (q : Nat) (l : List Nat) : (readCells s q l).kept = s.kept := by
  have hmoves (m : List Nat) : (forEach m s fun _ s => extMove s).kept = s.kept := kept_forEach (f := fun _ s => extMove s) fun _ _ => rfl
  unfold readCells
  dsimp only
  split
  · exact hmoves _
  · rw [kept_setQueue, kept_count, hmoves]

theorem kept_wmEval (q : Nat) : (wmEval s q).kept = s.kept := by
  simp [wmEval]

theorem kept_releaseHead (q : Nat) : (releaseHead s q).kept = s.kept := by
  unfold releaseHead dropPacket
  split
  · rfl
  · split <;> simp

theorem kept_takeFromQueue (use : Nat) (f : GrtFrame) : (takeFromQueue s use f).kept = s.kept := by
  unfold takeFromQueue
  split
  · rfl
  · split
    · dsimp only
      split
      · rw [kept_wmEval, kept_releaseHead, kept_readCells]
      · rfl
    · rfl

theorem fromNode_takeFromQueue (use : Nat) (f h : GrtFrame) : (takeFromQueue s use f).fromNode h = s.fromNode h := by
  have hid : (takeFromQueue s use f).ring.ringId = s.ring.ringId := congrArg (fun k : Kept => k.rest.ring.ringId) (kept_takeFromQueue use f)
  simp [State.fromNode, hid]

/-! IMAGE_IN (R195). -/

theorem grtServe_queue8 {f : GrtFrame} {t : Nat} {b : State → State} (hp : s.passThrough = false) (hv : bitsAt f.hdr.flags 6 2 = 1)
    (ht : f.hdr.typ = t) (hl : grtLenOk f = true) (hn : s.fromNode f = true)
    (ho : 0x20 ≤ t ∧ t ≤ 0x23) : grtServe s t f b = b (takeFromQueue s 8 f) := by
  simp [grtServe, hp, hv, ht, hl, ho, fromNode_takeFromQueue, hn]

section
variable {f : GrtFrame} (h16 : 16 ≤ f.payload.length) (hseg : infoAt f.hdr 20 2 < 16) (hrun : s.cycle.running = true)
include h16 hseg hrun

theorem imageInBody_offCycle (hoff : fullCycle s.cycleNow (infoAt f.hdr 16 4) + 16 < s.cycleNow ∨
      s.cycleNow + 1 < fullCycle s.cycleNow (infoAt f.hdr 16 4))
    (hraised : s.cycle.image.offRaised.contains f.hdr.srcNode = true) : imageInBody f s = s.count cImageOffCycle 0 := by
  unfold imageInBody
  dsimp only
  rw [if_neg (by omega), if_pos hrun, if_pos (by simpa [hrun] using hoff), if_pos hraised, hraised]
  rfl

/-- A segment on its cycle that no subscriber takes goes to the crusher alone (R195, R248). -/
theorem imageInBody_alone (hlo : s.cycleNow ≤ fullCycle s.cycleNow (infoAt f.hdr 16 4) + 16)
    (hhi : fullCycle s.cycleNow (infoAt f.hdr 16 4) ≤ s.cycleNow + 1) (hsubs : s.cycle.image.subs = []) : imageInBody f s =
      crushAdd (s.setCycle { s.cycle with image := { s.cycle.image with offRaised := s.cycle.image.offRaised.filter (· != f.hdr.srcNode) } })
        { kind := 2, unit := f.hdr.srcNode, segment := infoAt f.hdr 20 2, cycle := fullCycle s.cycleNow (infoAt f.hdr 16 4) + 1
          payload := f.payload.drop 16 } := by
  have hon : ¬(s.cycle.running && (decide (fullCycle s.cycleNow (infoAt f.hdr 16 4) + 16 < s.cycleNow) ||
      decide (s.cycleNow + 1 < fullCycle s.cycleNow (infoAt f.hdr 16 4)))) = true := by
    simp
    omega
  unfold imageInBody
  dsimp only
  rw [if_neg (by omega), if_pos hrun, if_neg hon, hsubs]
  rfl

end

end

/-- Settles O28, clause by clause. -/
theorem cycleInstants : Obligations.CycleInstants := by
  unfold Obligations.CycleInstants
  refine ⟨fun s hrun => ⟨if_pos (by simp [hrun]), ?pubIdle, ?dlIdle, ?apIdle⟩,
    fun s hrun => ⟨fun hlt => if_pos (by simp [hlt]), fun k hdue hstop hk => ?ended, fun hdue hstop hv => ?invalid,
      fun hdue hstop hv hpend hmaps htwin => ?latched, fun k r hk hlt => ?pubEarly, fun k r hk hdue hv => ?pubInvalid,
      fun k r hk hdue hv hnot => ?notBuilt, fun k r hk hdue hv hwork hview => ?published, fun n => rfl, fun k r hk hlt => ?dlEarly,
      fun k r hk hdue hg hmaps htwin => ?deadline, fun k r hk hlt => ?apEarly, fun k r hk hdue hv => ?apInvalid,
      fun k r hk hdue hv hg => ?apply⟩,
    fun s hw => ?unassembled, fun s w hw hmaps hmap => ?assembled, fun s g n he => group_skipped he,
    fun s g n hl hof hb hp hr ht => ?groupDl, fun s g n hl hof hb hdec hp hh => ?groupAp,
    fun f r hp hv ht hl hn h16 hseg => ⟨fun hrun hoff hraised => ?offCycle, fun hrun hlo hhi hsubs => ?imageIn⟩⟩
  case pubIdle =>
    show execPublish s = _
    unfold execPublish
    dsimp only
    split
    · exact if_pos (by simp [hrun])
    · rfl
  case dlIdle =>
    show execDeadline s = _
    unfold execDeadline
    dsimp only
    split
    · exact if_pos (by simp [hrun])
    · rfl
  case apIdle =>
    show execApply s = _
    unfold execApply
    dsimp only
    split
    · exact if_pos (by simp [hrun])
    · rfl
  case ended =>
    exact (if_neg (by simp [hrun, hdue])).trans (if_pos (by simp [hstop, hk]))
  case invalid =>
    exact (if_neg (by simp [hrun, hdue])).trans ((if_neg (by simp [hstop])).trans (if_pos (by simp [hv])))
  case latched =>
    refine ⟨_, (if_neg (by simp [hrun, hdue])).trans ((if_neg (by simp [hstop])).trans (if_neg (by simp [hv]))), ?_⟩
    rw [drillTimeouts_of_none fun k => (htwin k).2]
    unfold snapshotAt
    dsimp only
    rw [takeMaps_of_none (by exact hpend), twinSnapshot_of_undefined (by exact fun k => (htwin k).1), crushSnapshot_of_empty (by exact hmaps)]
    exact ⟨rfl, rfl, rfl, rfl, rfl, rfl, rfl, rfl⟩
  case pubEarly =>
    show execPublish s = _
    simp only [execPublish, hk]
    exact if_pos (by simp [hlt])
  case pubInvalid =>
    show execPublish s = _
    simp only [execPublish, hk]
    refine (if_neg (by simp [hrun, hdue])).trans (congrArg _ (if_neg ?_))
    simp [State.setCycle, hv]
  case notBuilt =>
    show execPublish s = _
    simp only [execPublish, hk]
    refine (if_neg (by simp [hrun, hdue])).trans (congrArg _ ((if_pos hv).trans ?_))
    have hready : (s.cycle.image.view.cycle == k && s.cycle.image.work.isNone) = false := by
      rcases hnot with h | h
      · simp [Option.isNone_eq_false_iff.mpr h]
      · simp [h]
    unfold publishAt
    dsimp only [State.setCycle]
    rw [hready]
    rfl
  case published =>
    show execPublish s = _
    simp only [execPublish, hk]
    refine (if_neg (by simp [hrun, hdue])).trans (congrArg _ ((if_pos hv).trans ?_))
    have hready : (s.cycle.image.view.cycle == k && s.cycle.image.work.isNone) = true := by simp [hview, hwork]
    unfold publishAt
    dsimp only [State.setCycle]
    rw [hready]
    rfl
  case dlEarly =>
    show execDeadline s = _
    simp only [execDeadline, hk]
    exact if_pos (by simp [hlt])
  case deadline =>
    show execDeadline s = _
    simp only [execDeadline, hk]
    refine (if_neg (by simp [hrun, hdue])).trans (congrArg _ ?_)
    have hgroups : (s.setCycle { s.cycle with toDeadline := r }).cycle.groups = [] := hg
    rw [hgroups, drillTimeouts_of_none (by exact fun k => (htwin k).2), crushDeadline_of_empty (by exact hmaps)]
    exact twinDeadline_of_undefined fun k => (htwin k).1
  case apEarly =>
    show execApply s = _
    simp only [execApply, hk]
    exact if_pos (by simp [hlt])
  case apInvalid =>
    show execApply s = _
    simp only [execApply, hk]
    refine (if_neg (by simp [hrun, hdue])).trans (if_neg ?_)
    simp [State.setCycle, hv]
  case apply =>
    show execApply s = _
    simp only [execApply, hk]
    refine (if_neg (by simp [hrun, hdue])).trans ((if_pos hv).trans (congrArg _ ?_))
    have hgroups : (s.setCycle { s.cycle with toApply := r }).cycle.groups = [] := hg
    rw [hgroups]
    rfl
  case unassembled =>
    show execImageAssembled s = _
    simp only [execImageAssembled, hw]
  case assembled =>
    let w' : ImageBuf := { w with data := latchInto s s.cycle.image.map (fun e => e.kind == 6 || e.kind == 7) w.data }
    have hw' : w' = w := by simp [w', hmap, latchInto]
    let u := s.setCycle { s.cycle with image := { s.cycle.image with view := w', work := none, built := 0 } }
    obtain ⟨hview, hwork, hcrush⟩ := commitImage_keeps (s := u) w'
    obtain ⟨hcyc, hlen⟩ := crushAdd_each (s := commitImage u w')
      (fun k => { kind := 2, unit := 0, segment := k, cycle := w'.cycle + 1, payload := (w'.data.drop (k * 1008)).take 1008 })
      (List.range (segCount w'.size))
    refine ⟨_, ?_, (congrArg (fun c => c.image.view) hcyc).trans (hview.trans hw'), (congrArg (fun c => c.image.work) hcyc).trans hwork, ?_⟩
    · show execImageAssembled s = _
      simp only [execImageAssembled, hw, crushAssembled_of_empty hmaps]
      rfl
    · rw [hlen, hcrush, List.length_range, hw']
      rfl
  case groupDl =>
    unfold groupDeadline
    dsimp only
    rw [if_neg (group_acts hl hof hb), hp, compareShadows_of_none (by simp)]
    have hr' : n ∉ (s.group g).resigns := by simpa using hr
    simp [hr', ht]
  case groupAp =>
    unfold groupApply
    dsimp only
    rw [if_neg (group_acts hl hof hb), hdec, hp, hh]
    simp
  case offCycle =>
    exact congrArg Host.Outcome.next ((grtServe_queue8 hp hv ht hl hn (by decide)).trans (imageInBody_offCycle h16 hseg hrun hoff hraised))
  case imageIn =>
    refine ⟨_, congrArg Host.Outcome.next ((grtServe_queue8 hp hv ht hl hn (by decide)).trans (imageInBody_alone h16 hseg hrun hlo hhi hsubs)),
      rfl, rfl, rfl⟩

end Sys2Proof.Machine

/-!
SUPPORT and O29 (R199 to R215).
-/
namespace Sys2Proof.Machine

section
variable {s : State} {g node part tally n : Nat} {data : List Byte} {cells : List Nat}

/-! What staged cells and completions leave. -/

theorem kept_of_stageCells {t : State} {have_ l : List Nat} (h : stageCells s have_ n = some (l, t)) : t.kept = s.kept := by
  unfold stageCells at h
  refine List.foldlRecOn (motive := fun a => ∀ l t, a = some (l, t) → t.kept = s.kept) _ _ ?start ?round l t h
  case start =>
    intro l t h
    cases h
    rfl
  case round =>
    intro a ha _ _ l t h
    split at h
    · cases h
    · next l0 u =>
      split at h
      · next hc =>
        cases h
        rw [kept_pool, kept_of_grantCell hc, ha _ _ rfl]
      · cases h

theorem cycle_of_stageCells {t : State} {have_ l : List Nat} (h : stageCells s have_ n = some (l, t)) : t.cycle = s.cycle :=
  congrArg (fun k : Kept => k.rest.cycle) (kept_of_stageCells h)

theorem time_of_stageCells {t : State} {have_ l : List Nat} (h : stageCells s have_ n = some (l, t)) : t.time = s.time :=
  time_of_kept (kept_of_stageCells h)

theorem cycle_finalCpl (d : Desc) (st : Nat) (res : List Byte) : (finalCpl s d st res).cycle = s.cycle :=
  congrArg (fun k : Kept => k.rest.cycle) (kept_raiseIf (s := writeCpl s d.part d.tag st res) ..)

theorem cycle_finishBegun (p op tag st : Nat) (res : List Byte) : (finishBegun s p op tag st res).cycle = s.cycle := by
  unfold finishBegun
  split
  · exact cycle_finalCpl ..
  · rfl

/-! The tally rules (R202). -/

/-- A record as it waits for its cycle (R201). -/
def OutGroup.put (x : OutGroup) (r : Rec) : OutGroup := { x with pending := (x.pending.filter (fun k => k.n != r.n)) ++ [r] }

theorem takeData_mine (hn : node ≠ 0) (hnode : (s.group g).accNode = node) (hpart : (s.group g).accPart = part) :
    takeData s g node part tally n data cells =
      if tally = 0 then s.setGroup g { s.group g with resigns := ((s.group g).resigns.filter (· != n)) ++ [n] }
      else if tally < (s.group g).accTally then s.count cTallyLow g
      else s.setGroup g (({ s.group g with accTally := tally } : OutGroup).put { n := n, node := node, part := part, data := data, cells := cells }) := by
  have hmine : ((s.group g).accNode == node && (s.group g).accPart == part && ((s.group g).accNode != 0 || (s.group g).epoch != 0)) = true := by
    simp [hnode, hpart, hn]
  unfold takeData
  dsimp only
  rw [hmine]
  rfl

theorem takeData_other (h : (s.group g).accNode ≠ node ∨ (s.group g).accPart ≠ part) : takeData s g node part tally n data cells =
      if tally = 0 then s
      else if tally > (s.group g).accTally then
        raise ((s.setGroup g (({ s.group g with
          accNode := node, accPart := part, accTally := tally, epoch := ((s.group g).epoch + 1) % 4294967296 } : OutGroup).put
            { n := n, node := node, part := part, data := data, cells := cells })).count cTakeovers g) (srcGroup g) 1 0
      else s.count cTallyRefused g := by
  have hmine : ((s.group g).accNode == node && (s.group g).accPart == part && ((s.group g).accNode != 0 || (s.group g).epoch != 0)) = false := by
    rcases h with h | h <;> simp [h]
  unfold takeData
  dsimp only
  rw [hmine]
  rfl

/-! What a group refuses (R201). -/

theorem offer_refused {f : State → State} {c : CtrId} (h : groupCheck s g part n = some c) : offer s g part n f = s.count c g := by
  simp [offer, h]

theorem offer_congr {f k : State → State} (h : f s = k s) : offer s g part n f = offer s g part n k := by
  unfold offer
  split
  · rfl
  · exact h

theorem groupCheck_writer (h : bitAt (s.group g).writers part = false) : groupCheck s g part n = some cGroupRefused := if_pos (by simp [h])

theorem groupCheck_cycle (hw : bitAt (s.group g).writers part = true)
    (h : (s.group g).enable = false ∨ s.cycle.running = false ∨ n < s.cycle.first ∨ s.cycleNow + 16 < n) :
    groupCheck s g part n = some cBadCycle := by
  refine (if_neg (by simp [hw])).trans (if_pos ?_)
  rcases h with h | h | h | h <;> simp [h]

theorem groupCheck_late (hw : bitAt (s.group g).writers part = true) (he : (s.group g).enable = true) (hr : s.cycle.running = true)
    (hf : s.cycle.first ≤ n) (hn : n ≤ s.cycleNow + 16) (hof : ofCycle (s.group g).k (s.group g).phase n = true)
    (hb : (s.group g).beginAt ≤ s.cycle.dl n) (hl : s.cycle.dl n ≤ s.work) : groupCheck s g part n = some cLateData :=
  (if_neg (by simp [hw])).trans ((if_neg (by simp [he, hr, hf, hn, hof, hb])).trans (if_pos hl))

/-! Staged records (R200). -/

/-- A stage record of this writer and group. -/
def StageRec.isOf (r : StageRec) (node part g : Nat) : Bool := r.node == node && r.part == part && r.group == g

theorem stageData_first {off : Nat} (h : s.cycle.stages.any (StageRec.isOf · node part g) = false) (hlen : s.cycle.stages.length < 1024) :
    (∀ l v, stageCells s [] (off + data.length) = some (l, v) → stageData s node part g off data =
      v.setCycle { v.cycle with stages := s.cycle.stages ++
        [{ node := node, part := part, group := g, openedAt := s.lt, data := memWrite [] off data, cells := l }] }) ∧
    (stageCells s [] (off + data.length) = none → stageData s node part g off data = s.count cStageFull 0) := by
  have hnone : s.cycle.stages.find? (fun r => r.node == node && r.part == part && r.group == g) = none := by
    rw [List.find?_eq_none]
    exact List.any_eq_false.mp h
  unfold stageData
  dsimp only
  rw [hnone]
  dsimp only
  rw [if_neg (Nat.not_le.mpr hlen)]
  constructor
  · intro l v hc
    rw [hc]
    dsimp only
    have hlt : v.lt = s.lt := by rw [State.lt, time_of_stageCells hc, State.lt]
    rw [hlt, cycle_of_stageCells hc]
    rfl
  · intro hc
    rw [hc]

theorem stageData_full {off : Nat} (h : s.cycle.stages.any (StageRec.isOf · node part g) = false) (hlen : 1024 ≤ s.cycle.stages.length) :
    stageData s node part g off data = s.count cStageFull 0 := by
  have hnone : s.cycle.stages.find? (fun r => r.node == node && r.part == part && r.group == g) = none := by
    rw [List.find?_eq_none]
    exact List.any_eq_false.mp h
  unfold stageData
  dsimp only
  rw [hnone]
  exact if_pos hlen

theorem stageData_again {off : Nat} {r : StageRec} {l : List Nat} {v : State} (hs : s.cycle.stages = [r]) (hr : r.isOf node part g = true)
    (hc : stageCells s r.cells (off + data.length) = some (l, v)) :
    stageData s node part g off data = v.setCycle { v.cycle with stages := [{ r with data := memWrite r.data off data, cells := l }] } := by
  have hr' : (r.node == node && r.part == part && r.group == g) = true := hr
  have hfind : s.cycle.stages.find? (fun r => r.node == node && r.part == part && r.group == g) = some r := by
    rw [hs, List.find?_cons, hr']
  unfold stageData
  dsimp only
  rw [hfind]
  dsimp only
  rw [hc]
  dsimp only
  rw [cycle_of_stageCells hc, hs, List.map_cons, List.map_nil, if_pos hr']
  rfl

theorem takeStage_one {r : StageRec} (hs : s.cycle.stages = [r]) (hr : r.isOf node part g = true) :
    takeStage s node part g = (some r, s.setCycle { s.cycle with stages := [] }) := by
  have hr' : (r.node == node && r.part == part && r.group == g) = true := hr
  simp only [takeStage, hs, takeFirst, if_pos hr']
  rfl

/-- STAGE_COMMIT of the one open record. -/
theorem stageCommit_one {r : StageRec} {v : Nat} (hs : s.cycle.stages = [r]) (hr : r.isOf node part g = true) :
    stageCommit s node part g v =
      let t := s.setCycle { s.cycle with stages := [] }
      let n := fullCycle s.cycleNow (bitsAt v 0 32)
      if bitAt v 63 then t
      else if bitsAt v 32 16 = 0 ∧ !bitAt v 62 then offer t g part n (fun s => onData s g node part 0 n [])
      else if bitsAt v 48 9 ≠ (s.group g).len then t.count cBadLen g
      else offer t g part n (fun s =>
        if bitAt v 62 then onShadow s g node part n (crc32 (memRead r.data 0 (bitsAt v 48 9))) (bitsAt v 48 9)
        else match stageCells s r.cells (bitsAt v 48 9) with
          | some (l, s) => takeData s g node part (bitsAt v 32 16) n (memRead r.data 0 (bitsAt v 48 9)) l
          | none => s.count cDropPool 0) := by
  unfold stageCommit
  rw [takeStage_one hs hr]
  rfl

/-! Frames (R199, R203, R206). -/

theorem twinHear_of_stranger {typ target : Nat} (h : s.partnerSets node = []) : twinHear s node g target typ tally n = s := by
  rw [twinHear, h]
  rfl

theorem addressed_iff (f : GrtFrame) : s.addressed f = true ↔ f.hdr.addr.node = s.ring.node ∧ s.ring.node ≠ 0 := by
  simp [State.addressed]

/-! The end of a listening period and the drill (R206, R215). -/

theorem listenEnd_listening (h : (s.twin n).role ≠ 1 ∨ (s.twin n).listen < (s.twin n).lease) : listenEnd s n = s := by
  refine if_neg ?_
  rcases h with h | h <;> simp [h]

theorem listenEnd_due (hd : (s.twin n).defined = true) (he : (s.twin n).enable = true) (hr : (s.twin n).role = 1)
    (hl : (s.twin n).lease ≤ (s.twin n).listen) : listenEnd s n =
      if (s.twin n).nextRole = some 3 ∨ !(s.twin n).prefActive then
        s.setTwin n { s.twin n with role := 3, silent := 0, nextRole := none }
      else s.setTwin n { s.twin n with role := 2, useTally := (s.twin n).tally, nextRole := none } :=
  if_pos (by simp [hd, he, hr, hl])

theorem drillTimeout_of_untagged (h : (s.twin n).drillTag = none) : drillTimeout s n = s := by
  unfold drillTimeout
  simp only [h]

theorem drillTimeout_of_tagged {p tag : Nat} (h : (s.twin n).drillTag = some (p, tag)) : drillTimeout s n =
    if s.lt ≥ (s.twin n).drillSent + s.ring.cplTimeout * 100000 then
      finishBegun (s.setTwin n { s.twin n with drillTag := none, drillAt := none, drillFrom := false }) p 0x080D tag stTimeout []
    else s := by
  unfold drillTimeout
  simp only [h]

/-- A hand-over message, with the completion timeout of the drill looked at first. -/
theorem exec_handoff {k : Nat} (hk : k < 16) (t : State) (ack : Bool) (ht : drillTimeout s k = t) : exec (.drillHandoff k tally n ack) s =
    .next (if ack then match (t.twin k).drillTag with
        | some (p, tag) =>
          if (t.twin k).drillAt = some n ∧ (t.twin k).drillTally = tally then
            finishBegun (t.setTwin k { t.twin k with drillTag := none, drillFrom := true }) p 0x080D tag stOk []
          else t
        | none => t
      else if (t.twin k).defined && (t.twin k).enable && (t.twin k).role == 3 then
        sendHandoff (t.setTwin k { t.twin k with drillAt := some n, drillTally := tally, drillFrom := false, drillTag := none }) k tally n true
      else t) := by
  subst ht
  exact if_pos hk

end

/-- Settles O29, clause by clause. -/
theorem outputDataArrives : Obligations.OutputDataArrives := by
  unfold Obligations.OutputDataArrives
  refine ⟨fun s g node part tally n data => ⟨fun l v hc => by rw [onData, hc], fun hc => by rw [onData, hc]⟩,
    fun s g node part tally n data cells hn => ⟨fun h1 h2 h3 h4 => ?low, fun h1 h2 h3 h4 => ?kept, fun h1 h3 h4 => ?refused, fun h1 h4 => ?takeover,
      fun h1 h3 => ?stranger, fun h1 h2 h3 => ?resigned⟩,
    fun s g part n f => ⟨fun hw => offer_refused (groupCheck_writer hw), fun hw h => offer_refused (groupCheck_cycle hw h),
      fun hw he hr hf hn hof hb hl => offer_refused (groupCheck_late hw he hr hf hn hof hb hl)⟩,
    fun a p g o hg hr hw ho hk => ?stages, fun s node part g r hs h1 h2 h3 => ⟨fun hl => ?young, fun hl => ?expired⟩,
    fun f r hp hv hl hn hnone => ⟨fun hnot => ?notHere, fun hhere h0 hg => ?here⟩,
    fun s k hk => ⟨fun h => (if_pos hk).trans (congrArg _ (listenEnd_listening h)), fun hd he hr hl h3 => ?standby, fun hd he hr hl h3 hpref => ?active,
      fun tally n hd he hr ht => ?given, fun tally n hr ht => ?notStandby, fun tally n ht => ?noDrill, fun tally n p tag ht hlt => ?acked,
      fun tally n p tag ht hlt => ?timedOut⟩⟩
  case low => exact (takeData_mine hn h1 h2).trans ((if_neg (Nat.ne_of_gt h3)).trans (if_pos h4))
  case kept =>
    refine (takeData_mine hn h1 h2).trans ((if_neg (Nat.ne_of_gt h3)).trans ((if_neg (Nat.not_lt.mpr h4)).trans ?_))
    simp [OutGroup.put]
  case refused => exact (takeData_other h1).trans ((if_neg (Nat.ne_of_gt h3)).trans (if_neg (Nat.not_lt.mpr h4)))
  case takeover =>
    refine ⟨_, (takeData_other h1).trans ((if_neg (by omega)).trans (if_pos h4)), ctr_count_same .., ?_⟩
    exact State.setGroup_group_same ..
  case stranger => exact (takeData_other h1).trans (if_pos h3)
  case resigned => exact (takeData_mine hn h1 h2).trans (if_pos h3)
  case stages =>
    have hk' : ((o.arrived a cAttWrites).part p).ktx22 = false := (congrArg Partition.ktx22 (State.arrived_part ..)).trans hk
    have write (off : Nat) (d : List Byte) (hlen : off + d.length ≤ 256) : exec (.stageDataWrite a g off d) o =
        .next (stageData (o.arrived a cAttWrites) (srcNode (o.arrived a cAttWrites) a) p g off d) := by
      refine (if_pos hg).trans (congrArg _ ?_)
      rw [accessIn_open _ hr hw ho, if_pos ⟨hlen, by rw [hk']; rfl⟩]
      rfl
    have commit (v : Nat) : exec (.stageCommit a g v) o =
        .next (stageCommit (o.arrived a cAttWrites) (srcNode (o.arrived a cAttWrites) a) p g v) := by
      refine (if_pos hg).trans (congrArg _ ?_)
      rw [accessIn_open _ hr hw ho, hk']
      rfl
    have abort : exec (.stageAbort a g) o =
        .next (takeStage (o.arrived a cAttWrites) (srcNode (o.arrived a cAttWrites) a) p g).2 := by
      refine (if_pos hg).trans (congrArg _ ?_)
      rw [accessIn_open _ hr hw ho, hk']
      rfl
    refine ⟨fun off d hlen hnone hroom => ?_, fun r off d hlen hs hmine l v hc => ?_, fun off d hlen hnone hfull => ?_,
      fun r v hs hmine h63 => ?_, fun r v hs hmine h63 h62 ht hne => ?_, fun r v hs hmine h63 h62 ht he => ?_,
      fun r v hs hmine h63 h62 he => ?_, fun r hs hmine => ?_⟩
    · obtain ⟨hsome, hno⟩ := stageData_first (data := d) hnone hroom
      exact ⟨fun l v hc => (write off d hlen).trans (congrArg _ (hsome l v hc)), fun hc => (write off d hlen).trans (congrArg _ (hno hc))⟩
    · exact (write off d hlen).trans (congrArg _ (stageData_again hs hmine hc))
    · exact (write off d hlen).trans (congrArg _ (stageData_full hnone hfull))
    · exact (commit v).trans (congrArg _ ((stageCommit_one hs hmine).trans (if_pos h63)))
    · exact (commit v).trans (congrArg _ ((stageCommit_one hs hmine).trans ((if_neg (by simp [h63])).trans ((if_neg fun h => ht h.1).trans (if_pos hne)))))
    · refine (commit v).trans (congrArg _ ((stageCommit_one hs hmine).trans ((if_neg (by simp [h63])).trans ((if_neg fun h => ht h.1).trans
        ((if_neg (not_not_intro he)).trans (offer_congr ?_))))))
      rw [h62, he]
      rfl
    · refine (commit v).trans (congrArg _ ((stageCommit_one hs hmine).trans ((if_neg (by simp [h63])).trans ((if_neg (by simp [h62])).trans
        ((if_neg (not_not_intro he)).trans (offer_congr ?_))))))
      rw [h62, he]
      rfl
    · rw [abort, takeStage_one hs hmine]
  case young =>
    have hkeep : s.cycle.stages.filter (fun r => !(r.node == node && r.part == part && r.group == g && decide (s.lt ≥ r.openedAt + 1000000)))
        = s.cycle.stages := by
      simp [hs, hl]
    show execStageRecordExpiry node part g s = _
    rw [execStageRecordExpiry, hkeep]
  case expired =>
    have hgone : s.cycle.stages.filter (fun r => !(r.node == node && r.part == part && r.group == g && decide (s.lt ≥ r.openedAt + 1000000)))
        = [] := by
      simp [hs, h1, h2, h3, hl]
    show execStageRecordExpiry node part g s = _
    rw [execStageRecordExpiry, hgone]
    rfl
  case notHere =>
    have hno : ¬(takeFromQueue r 8 f).addressed f = true := fun h => hnot ((addressed_iff f).mp h).1
    refine ⟨fun ht => congrArg Host.Outcome.next ((grtServe_queue8 hp hv ht hl hn (by decide)).trans ?_),
      fun ht => congrArg Host.Outcome.next ((grtServe_queue8 hp hv ht hl hn (by decide)).trans ?_),
      fun ht => congrArg Host.Outcome.next ((grtServe_queue8 hp hv ht hl hn (by decide)).trans ?_)⟩
    · dsimp only
      rw [twinHear_of_stranger hnone]
      exact if_neg fun h => hno h.1
    · dsimp only
      rw [twinHear_of_stranger hnone]
      exact if_neg fun h => hno h.1
    · dsimp only
      rw [forEach_of_fixed fun g => twinHear_of_stranger hnone]
      exact if_neg hno
  case here =>
    have hyes : (takeFromQueue r 8 f).addressed f = true := (addressed_iff f).mpr ⟨hhere, h0⟩
    refine ⟨fun ht hlen => congrArg Host.Outcome.next ((grtServe_queue8 hp hv ht hl hn (by decide)).trans ?_),
      fun ht => congrArg Host.Outcome.next ((grtServe_queue8 hp hv ht hl hn (by decide)).trans ?_),
      fun ht => congrArg Host.Outcome.next ((grtServe_queue8 hp hv ht hl hn (by decide)).trans ?_)⟩
    · dsimp only
      rw [twinHear_of_stranger hnone]
      refine (if_pos ⟨hyes, hg⟩).trans (offer_congr ?_)
      exact if_neg fun h => h.2 hlen
    · dsimp only
      rw [twinHear_of_stranger hnone]
      exact if_pos ⟨hyes, hg⟩
    · have hone : resignGroups f = [infoAt f.hdr 20 2] := if_neg (by omega)
      dsimp only
      rw [forEach_of_fixed fun g => twinHear_of_stranger hnone, hone]
      exact (if_pos hyes).trans (if_pos hg)
  case standby =>
    refine (if_pos hk).trans (congrArg _ ((listenEnd_due hd he hr hl).trans (if_pos ?_)))
    simpa using h3
  case active =>
    refine (if_pos hk).trans (congrArg _ ((listenEnd_due hd he hr hl).trans (if_neg ?_)))
    simp [h3, hpref]
  case given =>
    refine (exec_handoff hk s false (drillTimeout_of_untagged ht)).trans (congrArg _ ((if_neg Bool.false_ne_true).trans (if_pos ?_)))
    simp [hd, he, hr]
  case notStandby =>
    refine (exec_handoff hk s false (drillTimeout_of_untagged ht)).trans (congrArg _ ((if_neg Bool.false_ne_true).trans (if_neg ?_)))
    simp [hr]
  case noDrill =>
    refine (exec_handoff hk s true (drillTimeout_of_untagged ht)).trans (congrArg _ ?_)
    simp only [ht]
    rfl
  case acked =>
    have hrun := exec_handoff (tally := tally) (n := n) hk s true ((drillTimeout_of_tagged ht).trans (if_neg (Nat.not_le.mpr hlt)))
    simp only [ht, if_true] at hrun
    exact ⟨fun hat htally => hrun.trans (congrArg _ (if_pos ⟨hat, htally⟩)),
      fun h => hrun.trans (congrArg _ (if_neg fun hb => h.elim (· hb.1) (· hb.2)))⟩
  case timedOut =>
    have hrun := exec_handoff (tally := tally) (n := n) hk _ true ((drillTimeout_of_tagged ht).trans (if_pos hlt))
    have hgone (x : TwinSet) (op tag st : Nat) (res : List Byte) : (finishBegun (s.setTwin k x) p op tag st res).twin k = x := by
      rw [State.twin, cycle_finishBegun]
      exact State.setTwin_twin_same ..
    simp only [hgone, if_true] at hrun
    exact hrun

end Sys2Proof.Machine

/-!
SUPPORT and O30 (R217 to R242).
-/
namespace Sys2Proof.Machine

section

theorem fitBytes_of_length {n : Nat} {l : List Byte} (h : l.length = n) : fitBytes n l = l := by
  simp [fitBytes, zeros, ← h]

theorem resOf_one (n v : Nat) : resOf [(0, n, v)] = leBytes n v := by
  simp [resOf, putBytes, fitBytes, zeros]

theorem resOf_two (n v m w : Nat) : resOf [(0, n, v), (n, m, w)] = leBytes n v ++ leBytes m w := by
  have h := resOf_one n v
  have hlen : (leBytes n v).length = n := length_leBytes ..
  rw [resOf, List.foldl_cons, List.foldl_nil] at h
  rw [resOf, List.foldl_cons, List.foldl_cons, List.foldl_nil, h, putBytes, fitBytes_of_length hlen, List.drop_of_length_le (by omega),
    List.append_nil]

/-- A byte of a field of zeros is zero. -/
theorem leAt_one_of_zero {b : List Byte} {k n : Nat} (h : leAt b k (n + 1) = 0) : leAt b k 1 = 0 := by
  unfold leAt bytesAt at *
  cases hl : b.drop k with
  | nil => simp [fitBytes, zeros, leNat]
  | cons a r =>
    rw [hl] at h
    simp [fitBytes, zeros, leNat] at h ⊢
    exact h.1

theorem xl_of_descClean {b data : List Byte} (h : descClean b = true) : (frameOfDesc b data).xl = false := by
  simp only [descClean, Bool.and_eq_true, beq_iff_eq] at h
  have hbit : bitAt (leAt b 5 1) 0 = false := by
    rw [leAt_one_of_zero h.2]
    rfl
  unfold frameOfDesc
  dsimp only
  rw [hbit]
  rfl

variable {s : State} {c : Cmd} {ch : Nat}

theorem errEvents_same {a b : CanChan} (ht : b.tec = a.tec) (hr : b.recv = a.recv) : errEvents s ch a b = s := by
  have hp : b.passive = a.passive := by simp [CanChan.passive, ht, hr]
  have hcross (n : Nat) : (decide (n < 96) && decide (n ≥ 96)) = false := by simp
  simp only [errEvents, ht, hr, hp, hcross]
  cases a.passive <;> simp [raiseIf]

theorem tpAbortAll_of_none (h : s.sessions ch = []) : tpAbortAll s ch = s := by
  rw [tpAbortAll, h]
  rfl

/-- A mode that is entered from bus operation leaves the error counters (R222). -/
theorem modeEffect_on {m : Nat} (hm : m ≠ 0) (hb : (s.chan ch).busOff = false) :
    let x := s.chan ch
    let y := { x with
      mode := m, pendMode := none, integrating := true
      tec := if x.mode = 0 then 0 else x.tec, recv := if x.mode = 0 then 0 else x.recv }
    modeEffect s ch m = errEvents (s.putChan ch y) ch x y := by
  have hm' : (m != 0) = true := bne_iff_ne.mpr hm
  simp only [modeEffect, hm', hb, if_neg hm, Bool.and_true, Bool.not_false, beq_iff_eq]

theorem modeEffect_off (hs : s.sessions ch = []) :
    modeEffect s ch 0 = s.putChan ch { s.chan ch with mode := 0, pendMode := none, integrating := false } := by
  have hsess (x : CanChan) : (s.putChan ch x).sessions ch = [] := hs
  have hfrom : ((s.chan ch).mode == 0 && ((0 : Nat) != 0) && !(s.chan ch).busOff) = false := by simp
  unfold modeEffect
  dsimp only
  rw [hfrom, if_pos rfl]
  exact (congrArg (tpAbortAll · ch) (errEvents_same (by rfl) (by rfl))).trans (tpAbortAll_of_none (hsess _))

/-- CAN_MODE, its checks of the mode passed (R222). -/
theorem bodyCanMode_owned (hl : localRes s c.p (c.u 8 4) = some (1, ch)) (ho : s.owns c.p 1 ch = true) (hi : c.u 12 1 ≤ 5)
    (hk : c.u 12 1 = 5 → (s.part c.p).ktx22 = true) : bodyCanMode c s =
      chk (!(s.chan ch).busOff || c.u 12 1 == 0) stWrongState (okS (
        if (s.chan ch).busy then s.setChan ch { s.chan ch with pendMode := some (c.u 12 1) }
        else if c.u 12 1 = (s.chan ch).mode then s else modeEffect s ch (c.u 12 1))) := by
  have h5 : (c.u 12 1 != 5 || (s.part c.p).ktx22) = true := by
    by_cases h5 : c.u 12 1 = 5
    · rw [hk h5, Bool.or_true]
    · simp [h5]
  rw [bodyCanMode, handle_of_localRes hl]
  dsimp only
  rw [chk_of (decide_eq_true hi), ownRes_of_free_class ho, chk_of h5]

/-! Binding a queue to a channel (R228). -/

/-- The checks of CAN_QUEUE_BIND that a queue of the view passes. -/
theorem bodyCanQueueBind_queue {q w : Nat} (hl : localRes s c.p (c.u 8 4) = some (1, ch)) (hw : c.u 12 1 = w) (hw1 : w ≤ 1) (hslot : c.u 13 1 = 0)
    (hv : c.u 14 2 < 4096) (hq : s.viewQueue c.p (c.u 14 2) = some q) (ho : s.owns c.p 5 q = true) (hf : (s.queue q).fwUse = 0)
    (hmay : (if w = 1 then s.mayRead c.p 1 ch else s.owns c.p 1 ch) = true) : bodyCanQueueBind c s =
      if w = 1 then chkSt (canBindStatus s ch 1 q) (match (s.chan ch).freeSlot with
        | none => .fail stNoResource
        | some i => .ok (leBytes 1 i) [] (canBindEnd (s.setChan ch { s.chan ch with slots := listSet (s.chan ch).slots i (some q) }) ch 1 q true))
      else if (s.chan ch).bound w = some q then okS s
      else chkSt (canBindStatus s ch w q) (
        let s := match (s.chan ch).bound w with | some o => canBindEnd s ch w o false | none => s
        okS (canBindEnd (s.setChan ch ((s.chan ch).setBound w (some q))) ch w q true)) := by
  subst hw
  have hff : c.u 14 2 ≠ 0xFFFF := by omega
  have hbnd : (c.u 14 2 == 0xFFFF) = false := beq_false_of_ne hff
  rw [bodyCanQueueBind, handle_of_localRes hl]
  dsimp only
  rw [chk_of (by rw [hbnd, hslot, decide_eq_true hv, decide_eq_true (Nat.le_trans hw1 (by decide))]; simp), if_neg hff, hq]
  dsimp only
  rw [chk_of (by rw [hmay, ho]; rfl), chk_of (by rw [fwHeld_of_free_queue hf]; rfl)]
  simp only [resOf_one] <;> rfl

theorem canBindStatus_free {w q : Nat} (hw : w ≤ 1) (hp : (s.queue q).prod = .none) (hpair : pairOk (.can ch) (s.queue q).cons = true) :
    canBindStatus s ch w q = stOk := by
  simp [canBindStatus, hw, prodBindStatus, hp, hpair]

/-! Address claim (R240). -/

/-- A claim that begins with buffer 30 free puts its frame there (R240; log 21). -/
theorem claimStart_free {a : Nat} (hfree : (tblGetD (s.chan ch).bufs 30 {}).frame = none) (hq : (s.chan ch).fwq = []) :
    claimStart s ch a = s.setChan ch { s.chan ch with
      bufs := tblSet (s.chan ch).bufs 30 { frame := some (svcFrame 6 0xEE 0xFF a (leBytes 8 (s.chan ch).claim.name)), since := s.lt }
      claim := { (s.chan ch).claim with
        st := 1, addr := a, claimAt := s.lt, bus := tblSet (s.chan ch).claim.bus a (s.chan ch).claim.name } } := by
  have hlt (x : CanChan) : (s.setChan ch x).lt = s.lt := rfl
  simp [claimStart, claimSend, fwFrame, hfree, hq, hlt]

end

/-- Settles O30, row by row. -/
theorem canChannelCommands : Obligations.CanChannelCommands := by
  unfold Obligations.CanChannelCommands
  intro d s ch t c x b i hl ho
  have own (r : CmdRes) : ownRes t c 1 ch r = r := ownRes_of_free_class (c := c) ho
  refine ⟨fun h hok hx => ?cfg, fun h hok hm hd => ?cfgBusy, fun h hok => ?cfgBad, fun h hi hk hbo hb => ?modeWaits,
    fun h hi hk hbo hb hne h0 => ?mode, fun h hi hb hm hs => ?off, fun h hi h0 hbo => ?busOff, fun h hi hk => ?denied,
    fun q h hi hs hv hq hoq hf hrx hp hpair => ?bindRx, fun q j h hi hs hv hq hoq hf hfree hp hpair hread => ?bindSlot,
    fun q h hi hs hv hq hoq hf hfree hp hpair hread => ?noSlot,
    fun h hi hclean hacc hrep hn hz hlen hown => ?txBuf, fun k e h hbufs he hfw hbit => ?abort, fun h hread => ?status,
    fun h hp hen => ?tpCfg, fun h hp hen hin => ?tpBusy, fun h hp hname hen => ?claimOff, fun h hp hname hen hin hfree hfwq => ?claim,
    fun h hread hlen hown => ?aclStatus, fun h hn hc hd hb j => ?tunnel⟩
  case cfg =>
    refine cmdRow_ok bodyCanCfg h (?_ : bodyCanCfg c t = _)
    have hx' : ((t.chan ch).mode == 0 || canCfgOf c == (t.chan ch).cfg.daggered (canCfgOf c)) = true := by
      simpa using hx
    simp only [bodyCanCfg, handle_of_localRes hl, hok, own, hx']
    rfl
  case cfgBusy =>
    refine cmdRow_fail bodyCanCfg h (?_ : bodyCanCfg c t = _)
    have hx' : ((t.chan ch).mode == 0 || canCfgOf c == (t.chan ch).cfg.daggered (canCfgOf c)) = false := by
      simpa using ⟨hm, hd⟩
    simp only [bodyCanCfg, handle_of_localRes hl, hok, own, hx']
    rfl
  case cfgBad =>
    refine cmdRow_fail bodyCanCfg h (?_ : bodyCanCfg c t = _)
    simp only [bodyCanCfg, handle_of_localRes hl, hok]
    rfl
  case modeWaits =>
    refine cmdRow_ok bodyCanMode h ((bodyCanMode_owned (c := c) hl ho hi hk).trans ?_)
    rw [chk_of (by rw [show (t.chan ch).busOff = false from hbo]; rfl), if_pos hb]
    rfl
  case mode =>
    refine cmdRow_ok bodyCanMode h ((bodyCanMode_owned (c := c) hl ho hi hk).trans ?_)
    rw [chk_of (by rw [show (t.chan ch).busOff = false from hbo]; rfl), if_neg (Bool.eq_false_iff.mp hb), if_neg hne, modeEffect_on h0 hbo]
    rfl
  case off =>
    have hi' : c.u 12 1 = 0 := hi
    refine cmdRow_ok bodyCanMode h ((bodyCanMode_owned (c := c) hl ho (by omega) (by omega)).trans ?_)
    rw [chk_of (by simp [hi']), if_neg (Bool.eq_false_iff.mp hb), hi', if_neg hm.symm, modeEffect_off hs]
    rfl
  case busOff =>
    refine cmdRow_fail bodyCanMode h ((bodyCanMode_owned (c := c) hl ho (by omega) (by omega)).trans ?_)
    rw [show (t.chan ch).busOff = true from hbo, show (c.u 12 1 == 0) = false from beq_false_of_ne h0]
    rfl
  case denied =>
    refine cmdRow_fail bodyCanMode h (?_ : bodyCanMode c t = _)
    have hi' : c.u 12 1 = 5 := hi
    have hk' : (t.part c.p).ktx22 = false := hk
    simp only [bodyCanMode, handle_of_localRes hl, hi', own, hk']
    rfl
  case bindRx =>
    refine cmdRow_ok bodyCanQueueBind h ((bodyCanQueueBind_queue hl hi (by decide) hs hv hq hoq hf ?_).trans ?_)
    · exact ho
    · have hst : canBindStatus t ch 0 q = stOk := canBindStatus_free (by decide) hp hpair
      have hbound : (t.chan ch).bound 0 = none := hrx
      rw [if_neg (by decide), hbound, if_neg nofun, hst]
      rfl
  case bindSlot =>
    refine cmdRow_ok bodyCanQueueBind h ((bodyCanQueueBind_queue hl hi (by decide) hs hv hq hoq hf ?_).trans ?_)
    · exact hread
    · rw [canBindStatus_free (by decide) hp hpair, show (t.chan ch).freeSlot = some j from hfree]
      rfl
  case noSlot =>
    refine cmdRow_fail bodyCanQueueBind h ((bodyCanQueueBind_queue hl hi (by decide) hs hv hq hoq hf ?_).trans ?_)
    · exact hread
    · rw [canBindStatus_free (by decide) hp hpair, show (t.chan ch).freeSlot = none from hfree]
      rfl
  case txBuf =>
    let e := tblGetD (t.chan ch).bufs (c.u 12 1) {}
    have hlen' : (c.len == 0) = true := beq_iff_eq.mpr hlen
    have hbody : bodyCanTxBuf c t = chk (!(t.chan ch).fwBuf (c.u 12 1) && (e.frame.isNone || c.u 13 1 == 1)) stBusy (
        okS (t.setChan ch { t.chan ch with bufs := tblSet (t.chan ch).bufs (c.u 12 1) (if e.onBus then
          { e with next := some (frameOfDesc b (c.bytes 32 24), bitAt d.flags 1, t.lt), abort := false }
          else { frame := some (frameOfDesc b (c.bytes 32 24)), notify := bitAt d.flags 1, since := t.lt }) })) := by
      rw [bodyCanTxBuf, handle_of_localRes hl]
      dsimp only
      rw [if_pos hn, if_pos hn, if_pos hn, chk_of, own, chk_of hown]
      · rfl
      · rw [show decide (c.u 12 1 < 32) = true from decide_eq_true hi, decide_eq_true (Nat.lt_succ_of_le hrep), hclean, hacc,
          xl_of_descClean hclean, hlen', hz]
        rfl
    refine ⟨fun hfw => cmdRow_fail bodyCanTxBuf h (hbody.trans ?_), fun hf h0 => cmdRow_fail bodyCanTxBuf h (hbody.trans ?_),
      fun hfw hbus hfree => cmdRow_ok bodyCanTxBuf h (hbody.trans ?_), fun hfw hbus h1 => cmdRow_ok bodyCanTxBuf h (hbody.trans ?_)⟩
    · rw [show (t.chan ch).fwBuf (c.u 12 1) = true from hfw]
      rfl
    · have hnone : e.frame.isNone = false := Option.isNone_eq_false_iff.mpr hf
      rw [hnone, h0, show (false || (0 : Nat) == 1) = false from rfl, Bool.and_false]
      rfl
    · have hfree' : (e.frame.isNone || c.u 13 1 == 1) = true := by
        rcases hfree with h | h
        · rw [show e.frame = none from h]
          rfl
        · simp [h]
      rw [show (t.chan ch).fwBuf (c.u 12 1) = false from hfw, hfree', show e.onBus = false from hbus]
      rfl
    · rw [show (t.chan ch).fwBuf (c.u 12 1) = false from hfw, h1, show e.onBus = true from hbus, show ((1 : Nat) == 1) = true from rfl,
        Bool.or_true]
      rfl
  case abort =>
    have hhit : (bitAt (c.u 12 4) k && !(t.chan ch).fwBuf k && e.frame.isSome) = true := by
      rw [hbit, show (t.chan ch).fwBuf k = false from hfw, he]
      rfl
    have hbufs' : (t.chan ch).bufs = [(k, e)] := hbufs
    refine ⟨fun hbus => cmdRow_ok bodyCanTxAbort h (?_ : bodyCanTxAbort c t = _),
      fun hbus => cmdRow_ok bodyCanTxAbort h (?_ : bodyCanTxAbort c t = _)⟩
    · rw [bodyCanTxAbort, handle_of_localRes hl]
      dsimp only
      rw [own, resOf_two]
      simp only [hbufs', List.filter_cons, List.filter_nil, List.filterMap_cons, List.filterMap_nil, hhit, hbus]
      rfl
    · rw [bodyCanTxAbort, handle_of_localRes hl]
      dsimp only
      rw [own, resOf_two]
      simp only [hbufs', List.filter_cons, List.filter_nil, List.filterMap_cons, List.filterMap_nil, hhit, hbus]
      rfl
  case status =>
    refine cmdRow_ok bodyCanStatus h (?_ : bodyCanStatus c t = _)
    have hread' : t.mayRead c.p 1 ch = true := hread
    simp only [bodyCanStatus, handle_of_localRes hl, readRes, hread']
    rfl
  case tpCfg =>
    refine cmdRow_ok bodyTpCfg h (?_ : bodyTpCfg c t = _)
    rcases hen with ⟨hen, hin⟩ | ⟨hen, hs⟩
    · have hen' : c.u 12 1 = 1 := hen
      simp only [bodyTpCfg, handle_of_localRes hl, hen', decide_eq_true hp, own, show (t.chan ch).hostIn30 = false from hin]
      rw [show i = 1 from hen]
      rfl
    · have hen' : c.u 12 1 = 0 := hen
      have hs' (y : CanChan) : (t.setChan ch y).sessions ch = [] := hs
      simp only [bodyTpCfg, handle_of_localRes hl, hen', decide_eq_true hp, own, hs']
      rw [show i = 0 from hen]
      rfl
  case tpBusy =>
    refine cmdRow_fail bodyTpCfg h (?_ : bodyTpCfg c t = _)
    have hen' : c.u 12 1 = 1 := hen
    simp only [bodyTpCfg, handle_of_localRes hl, hen', decide_eq_true hp, own, show (t.chan ch).hostIn30 = true from hin]
    rfl
  case claimOff =>
    refine cmdRow_ok bodyAclCfg h (?_ : bodyAclCfg c t = _)
    have hen' : c.u 12 1 = 0 := hen
    simp only [bodyAclCfg, handle_of_localRes hl, hen', decide_eq_true hp, own, hname]
    rfl
  case claim =>
    refine cmdRow_ok bodyAclCfg h (?_ : bodyAclCfg c t = _)
    have hen' : c.u 12 1 = 1 := hen
    have hname' : (!bitAt (c.u 16 8) 63 || (decide (c.u 14 1 ≤ c.u 15 1) && decide (c.u 15 1 ≤ 253))) = true := by
      cases hb : bitAt (c.u 16 8) 63
      · rfl
      · simpa using hname hb
    simp only [bodyAclCfg, handle_of_localRes hl, hen', decide_eq_true hp, own, hname', show (t.chan ch).hostIn30 = false from hin]
    have hstart (n : Claim) (a : Nat) := claimStart_free (s := t.setChan ch { t.chan ch with claim := n }) (ch := ch) (a := a)
      (by rw [State.setChan_chan_same]; exact hfree) (by rw [State.setChan_chan_same]; exact hfwq)
    rw [hstart, State.setChan_setChan, State.setChan_chan_same]
    rfl
  case aclStatus =>
    refine cmdRow_ok bodyAclStatus h (?_ : bodyAclStatus c t = _)
    have hread' : t.mayRead c.p 1 ch = true := hread
    have hlen' : c.len = 0 := hlen
    simp only [bodyAclStatus, handle_of_localRes hl, readRes, hread', hlen', hown, resOf_two]
    rfl
  case tunnel =>
    have hbody : bodyTunnelSet c t = if c.u 12 1 = 0 then
        okS (t.setChan ch { t.chan ch with tunnel := none, slots := (t.chan ch).slots.map (fun v => if v = some 4097 then none else v) })
      else chk (t.chan ch).tunnel.isNone stBusy (match (t.chan ch).freeSlot with
        | none => .fail stNoResource
        | some i => okS (t.setChan ch { t.chan ch with
            slots := listSet (t.chan ch).slots i (some 4097)
            tunnel := some { remote := c.u 12 1, rchan := c.u 13 1, delay := c.u 16 4, batch := c.u 20 4 } })) := by
      rw [bodyTunnelSet, handle_of_localRes hl]
      dsimp only
      rw [chk_of (by rw [decide_eq_true hn, decide_eq_true hc, decide_eq_true hd, decide_eq_true hb]; rfl), own] <;> rfl
    refine ⟨fun h0 => cmdRow_ok bodyTunnelSet h (hbody.trans (if_pos h0)),
      fun h0 ht => cmdRow_fail bodyTunnelSet h (hbody.trans ((if_neg h0).trans ?_)),
      fun h0 ht hfree => cmdRow_fail bodyTunnelSet h (hbody.trans ((if_neg h0).trans ?_)),
      fun h0 ht hfree => cmdRow_ok bodyTunnelSet h (hbody.trans ((if_neg h0).trans ?_))⟩
    · obtain ⟨v, hv⟩ := Option.isSome_iff_exists.mp ht
      rw [show (t.chan ch).tunnel = some v from hv]
      rfl
    · rw [show (t.chan ch).tunnel = none from ht, show (t.chan ch).freeSlot = none from hfree]
      rfl
    · rw [show (t.chan ch).tunnel = none from ht, show (t.chan ch).freeSlot = some j from hfree]
      rfl

end Sys2Proof.Machine

/-!
SUPPORT and O31 (R219 to R235).
-/
namespace Sys2Proof.Machine

section
variable {s t : State} {ch : Nat}

theorem can_of_kept (h : t.kept = s.kept) : t.can = s.can := congrArg (fun k : Kept => k.rest.can) h

theorem chan_of_kept (h : t.kept = s.kept) (c : Nat) : t.chan c = s.chan c := by
  rw [State.chan, can_of_kept h, State.chan]

@[simp] theorem chan_raise (src cause data c : Nat) : (raise s src cause data).chan c = s.chan c := chan_of_kept (kept_raise ..) c

@[simp] theorem chan_raiseIf (b : Bool) (src cause data c : Nat) : (raiseIf s b src cause data).chan c = s.chan c :=
  chan_of_kept (kept_raiseIf ..) c

theorem kept_errEvents (a b : CanChan) : (errEvents s ch a b).kept = s.kept := by
  simp [errEvents]

theorem kept_abortRecords : (abortRecords s ch).kept = s.kept := kept_forEach (f := fun q s => abortOpen s q) fun _ _ => kept_abortOpen _

theorem chan_abortRecords (c : Nat) : (abortRecords s ch).chan c = s.chan c := chan_of_kept kept_abortRecords c

@[simp] theorem putChan_chan_same (x : CanChan) : (s.putChan ch x).chan ch = { x with modeBall := x.modeLevel } := State.setChan_chan_same ..

theorem putChan_setChan (x y : CanChan) : (s.setChan ch x).putChan ch y = s.putChan ch y := State.setChan_setChan ..

/-- The counters of a channel that stays below its limits raise nothing (R234). -/
theorem errEvents_quiet {a b : CanChan} (htec : a.tec < 96 → b.tec < 96) (hrecv : a.recv < 96 → b.recv < 96) (ha : a.passive = false)
    (hb : b.passive = false) : errEvents s ch a b = s := by
  have h1 : (decide (a.tec < 96) && decide (b.tec ≥ 96)) = false := by
    simp only [Bool.and_eq_false_iff, decide_eq_false_iff_not]
    omega
  have h2 : (decide (a.recv < 96) && decide (b.recv ≥ 96)) = false := by
    simp only [Bool.and_eq_false_iff, decide_eq_false_iff_not]
    omega
  simp [errEvents, h1, h2, ha, hb, raiseIf]

theorem not_passive_iff {x : CanChan} : x.passive = false ↔ x.tec ≤ 127 ∧ x.recv ≤ 127 := by
  simp [CanChan.passive]

/-! A frame of another node (R223 to R228). -/

/-- A channel without subscribers and services gives its record to the receive queue alone. -/
def CanChan.plain (x : CanChan) : Prop := x.slots = [none, none, none, none] ∧ x.tpEn = false ∧ x.claim.enable = false

theorem serviceFrame_of_plain {f : CanFrame} {stamp : Nat} (h : (s.chan ch).plain) : serviceFrame s ch f stamp = s := by
  obtain ⟨-, htp, hcl⟩ := h
  unfold serviceFrame
  dsimp only
  rw [htp, hcl]
  split
  · rfl
  · simp

/-- What the receive queue makes of a record (R228). -/
def rxRecord (s : State) (ch : Nat) (f : CanFrame) (q : Nat) (b : Bool → List Byte) : State :=
  match recordTo s ch q cRxLostRx b with
  | (s, true) => (s.count cCanRxFrames ch).count cCanRxBytes ch (canLen f)
  | (s, false) => s

theorem rxRecord_taken {f : CanFrame} {q : Nat} {b : Bool → List Byte} {v : State}
    (h : putPacket s q (b (s.queue q).lostBefore) 0 false = (v, true)) :
    rxRecord s ch f q b = (v.count cCanRxFrames ch).count cCanRxBytes ch (canLen f) := by
  simp [rxRecord, recordTo, h]

theorem rxRecord_lost {f : CanFrame} {q : Nat} {b : Bool → List Byte} {v : State}
    (h : putPacket s q (b (s.queue q).lostBefore) 0 false = (v, false)) (hl : (s.queue q).lostBefore = true) :
    rxRecord s ch f q b = (v.setQueue q { v.queue q with lostBefore := true }).count cRxLostRx ch := by
  rw [hl] at h
  simp [rxRecord, recordTo, h, hl, raiseIf]

theorem kept_rxRecord (f : CanFrame) (q : Nat) (b : Bool → List Byte) : (rxRecord s ch f q b).kept = s.kept := by
  unfold rxRecord recordTo
  dsimp only
  split
  · next h =>
    split at h
    · next hp =>
      cases h
      rw [kept_count, kept_count]
      exact kept_of_fst hp kept_putPacket
    · cases h
  · next h =>
    split at h
    · cases h
    · next hp =>
      cases h
      rw [kept_raiseIf, kept_count, kept_setQueue]
      exact kept_of_fst hp kept_putPacket

theorem chanRecord_of_plain {f : CanFrame} {stamp : Nat} {passive : Bool} (h : (s.chan ch).plain) : chanRecord s ch f false false stamp passive =
    let t := s.setChan ch { s.chan ch with lec := 0 }
    match (s.chan ch).rxq with
    | none => t
    | some q => rxRecord t ch f q (fun lost => canRecord false f stamp false false lost passive (s.chan ch).lec) := by
  obtain ⟨hs, -, -⟩ := h
  unfold chanRecord
  dsimp only
  rw [hs]
  cases (s.chan ch).rxq <;> rfl

/-- What a valid frame of another node makes of its channel (R223, R234). -/
def CanChan.heard (x : CanChan) : CanChan :=
  { x with recv := if x.counting then x.recv - 1 else x.recv, busy := false, sof := none, rxXl := false, lec := 0 }

/-- A frame that a plain channel receives. -/
theorem frameReceived_plain {f : CanFrame} {stamp : Nat} (htp : (s.chan ch).takesPart = true) (hm : (s.chan ch).mode ≠ 3)
    (hown : (s.chan ch).ownOnBus = false) (hh : (s.chan ch).cfg.handles f = true) (hlen : f.data.length ≤ 2048)
    (hxl : f.xl = true → f.data ≠ []) (hpas : (s.chan ch).passive = false) (hplain : (s.chan ch).plain) (hsof : (s.chan ch).sof = some stamp) :
    frameReceived s ch f = match (s.chan ch).rxq with
      | none => s.putChan ch (s.chan ch).heard
      | some q => rxRecord (s.putChan ch (s.chan ch).heard) ch f q
          (fun lost => canRecord false f stamp false false lost false (s.chan ch).lec) := by
  let x := s.chan ch
  let y : CanChan := { x with
    recv := if !x.counting then x.recv else if x.recv > 127 then 127 else x.recv - 1, busy := false, sof := none, rxXl := false }
  obtain ⟨htec, hrecv⟩ := not_passive_iff.mp hpas
  have hyr : y.recv = if x.counting then x.recv - 1 else x.recv := by
    have hle : ¬x.recv > 127 := Nat.not_lt.mpr hrecv
    cases hc : x.counting <;> simp [y, hc, hle]
  have hyle : y.recv ≤ x.recv := by
    rw [hyr]
    split <;> omega
  have hquiet : errEvents (s.putChan ch y) ch x y = s.putChan ch y :=
    errEvents_quiet (fun h => h) (fun h => Nat.lt_of_le_of_lt hyle h) hpas (not_passive_iff.mpr ⟨htec, Nat.le_trans hyle hrecv⟩)
  have hheard : (s.putChan ch y).setChan ch { (s.putChan ch y).chan ch with lec := 0 } = s.putChan ch x.heard := by
    rw [putChan_chan_same, State.putChan, State.setChan_setChan, hyr]
    rfl
  have hrx : ¬(!x.takesPart || x.mode == 3 || x.ownOnBus || !x.cfg.handles f || (f.xl && f.data.isEmpty) || decide (f.data.length > 2048))
      = true := by
    have hne : (f.xl && f.data.isEmpty) = false := by
      cases hf : f.xl
      · rfl
      · simpa using hxl hf
    simp [x, htp, hm, hown, hh, hne, hlen]
  have hstamp : rxStamp s ch = (stamp, s) := by
    unfold rxStamp
    rw [hsof]
  have hplain' : ((s.putChan ch y).chan ch).plain := by
    rw [putChan_chan_same]
    exact hplain
  have hserve (t : State) (ht : t.can = (s.putChan ch x.heard).can) : serviceFrame t ch f stamp = t := by
    refine serviceFrame_of_plain ?_
    rw [State.chan, ht]
    show ((s.putChan ch x.heard).chan ch).plain
    rw [putChan_chan_same]
    exact hplain
  have hrec : frameReceived s ch f = serviceFrame (chanRecord (s.putChan ch y) ch f false false stamp x.passive) ch f stamp := by
    unfold frameReceived
    dsimp only
    rw [if_neg hrx, hstamp]
    dsimp only
    rw [hquiet]
  rw [hrec, chanRecord_of_plain hplain', hheard, hpas, putChan_chan_same]
  dsimp only
  cases (s.chan ch).rxq with
  | none => exact hserve _ rfl
  | some q => exact hserve _ (can_of_kept (kept_rxRecord ..))

/-! Errors (R223, R234, R235). -/

/-- A table whose entries keep their keys: what becomes of the entry that a key reads. -/
theorem tblGet_filterMap {α : Type} {g : Nat × α → Option (Nat × α)} (hg : ∀ e v, g e = some v → v.1 = e.1) {l : Tbl α} {i : Nat} {a b : α}
    (h : tblGet l i = some a) (hb : g (i, a) = some (i, b)) : tblGet (l.filterMap g) i = some b := by
  induction l with
  | nil => cases h
  | cons e l ih =>
    obtain ⟨k, v⟩ := e
    by_cases hk : k = i
    · subst hk
      rw [tblGet, if_pos rfl] at h
      cases h
      rw [List.filterMap_cons_some hb, tblGet, if_pos rfl]
    · rw [tblGet, if_neg hk] at h
      cases hgv : g (k, v) with
      | none =>
        rw [List.filterMap_cons_none hgv]
        exact ih h
      | some w =>
        obtain ⟨k', v'⟩ := w
        have hkk : k' = k := hg _ _ hgv
        rw [List.filterMap_cons_some hgv, tblGet, if_neg (by rw [hkk]; exact hk)]
        exact ih h

theorem errCount_receiver {x : CanChan} {step : Nat} (hm : x.mode = 1) (h : x.recv + (if step ≥ 8 then 8 else 1) ≤ 255) :
    errCount x false step = { x with recv := x.recv + (if step ≥ 8 then 8 else 1) } := by
  have hc : x.counting = true := by simp [CanChan.counting, hm]
  simp only [errCount, hc, Bool.not_true, Bool.false_eq_true, if_false, Nat.min_eq_right h]

theorem errCount_sender {x : CanChan} {step : Nat} (hm : x.mode = 1) (hs : step ≠ 0) (h : x.tec ≤ 255) :
    errCount x true step = { x with tec := x.tec + 8 } := by
  have hc : x.counting = true := by simp [CanChan.counting, hm]
  have hmin : min 263 (x.tec + 8) = x.tec + 8 := Nat.min_eq_right (by omega)
  simp only [errCount, hc, Bool.not_true, Bool.false_eq_true, if_false, if_true, if_neg hs, hmin]

/-- A channel that has nothing to send discards nothing (R233). -/
theorem checkAll_of_idle (ht : (s.chan ch).timed = []) (hb : (s.chan ch).bufs = []) (hc : (s.chan ch).crush = []) : checkAll s ch = s := by
  simp [checkAll, CanChan.offers, timedNext, ht, hb, hc, forEach]

theorem modeEffect_on_bus {m : Nat} (hm : m ≠ 0) (hx : (s.chan ch).mode ≠ 0) :
    modeEffect s ch m = s.putChan ch { s.chan ch with mode := m, pendMode := none, integrating := true } := by
  have hfrom : ((s.chan ch).mode == 0 && m != 0 && !(s.chan ch).busOff) = false := by simp [hx]
  unfold modeEffect
  dsimp only
  rw [hfrom, if_neg hm, bne_iff_ne.mpr hm]
  exact errEvents_same (by rfl) (by rfl)

theorem canModeEffect_pending {m : Nat} (hp : (s.chan ch).pendMode = some m) : canModeEffect s ch =
    if (s.chan ch).ownOnBus then s
    else modeEffect (abortRecords (s.setChan ch { s.chan ch with busy := false, sof := none, rxXl := false }) ch) ch m := by
  unfold canModeEffect
  split
  · next k hk => rw [Option.some.inj (hp.symm.trans hk)]
  · next hk => exact absurd (hp.symm.trans hk) nofun

/-- A bus error of a channel in NORMAL mode, seen by a receiver or a transmitter (R234). -/
theorem canErr_normal {kind step : Nat} {tx : Bool} (htp : (s.chan ch).takesPart = true) (hm : (s.chan ch).mode = 1) (h1 : 1 ≤ kind) (h6 : kind ≤ 6)
    (hown : (s.chan ch).ownOnBus = tx) : canErr s ch kind tx step =
      let u := abortRecords (s.count (cErrOf kind) ch) ch
      let u := if tx then (attemptFailed u ch).count cTxRetries ch
        else u.setChan ch { s.chan ch with busy := false, sof := none, rxXl := false }
      let y := errCount { u.chan ch with rxXl := false, lec := kind, integrating := false } tx step
      if y.tec > 255 then
        tpAbortAll (raise ((errEvents (u.putChan ch { y with busOff := true, recovery := 0 }) ch (s.chan ch) { y with busOff := true }).count
          cBusOffCount ch) (srcCan ch 3) 1 0) ch
      else errEvents (u.putChan ch y) ch (s.chan ch) y := by
  have hrun : ¬(!(s.chan ch).takesPart || (s.chan ch).mode == 3 || kind == 0 || decide (kind > 6) || tx != (s.chan ch).ownOnBus ||
      ((s.chan ch).mode == 4 && kind == 3)) = true := by
    have h0 : kind ≠ 0 := by omega
    simp [htp, hm, hown, h0, h6]
  unfold canErr
  dsimp only
  rw [if_neg hrun, hm]
  rfl

/-- A receiver's error below every limit (R234). -/
theorem canErr_receiver {kind step : Nat} (htp : (s.chan ch).takesPart = true) (hm : (s.chan ch).mode = 1) (h1 : 1 ≤ kind) (h6 : kind ≤ 6)
    (hown : (s.chan ch).ownOnBus = false) (hrecv : (s.chan ch).recv + (if step ≥ 8 then 8 else 1) < 96) (htec : (s.chan ch).tec < 96) :
    canErr s ch kind false step = (abortRecords (s.count (cErrOf kind) ch) ch).putChan ch { s.chan ch with
      busy := false, sof := none, rxXl := false, lec := kind, recv := (s.chan ch).recv + (if step ≥ 8 then 8 else 1) } := by
  have hint : (s.chan ch).integrating = false := by
    simp only [CanChan.takesPart, Bool.and_eq_true, Bool.not_eq_true'] at htp
    exact htp.2
  have hy : errCount { s.chan ch with busy := false, sof := none, rxXl := false, lec := kind, integrating := false } false step =
      { s.chan ch with busy := false, sof := none, rxXl := false, lec := kind, recv := (s.chan ch).recv + (if step ≥ 8 then 8 else 1) } := by
    refine Eq.trans (errCount_receiver (x := { s.chan ch with busy := false, sof := none, rxXl := false, lec := kind, integrating := false })
      hm ?_) ?_
    · dsimp only
      omega
    · simp [hint]
  rw [canErr_normal htp hm h1 h6 hown]
  dsimp only
  rw [if_neg Bool.false_ne_true, State.setChan_chan_same]
  dsimp only at hy ⊢
  rw [hy, if_neg (by dsimp only; omega), putChan_setChan]
  exact errEvents_quiet (fun _ => htec) (fun _ => hrecv) (not_passive_iff.mpr ⟨by omega, by omega⟩)
    (not_passive_iff.mpr ⟨by dsimp only; omega, by dsimp only; omega⟩)

/-- What a failed attempt leaves of a channel: what was on the bus is pending again, unless it was replaced or aborted (R230). -/
def CanChan.failed (x : CanChan) : CanChan :=
  { x with
    bufs := x.bufs.filterMap (fun e =>
      if !e.2.onBus then some e
      else if e.2.abort then none
      else match e.2.next with
        | some (f, n, t) => some (e.1, { frame := some f, notify := n, since := t })
        | none => some (e.1, { e.2 with onBus := false }))
    crush := x.crush.map (fun e =>
      if !e.onBus then e
      else match e.next with
        | some (f, t) => { e with frame := f, since := t, onBus := false, next := none }
        | none => { e with onBus := false })
    timed := x.timed.map (fun e => { e with onBus := false }), busy := false, sof := none }

theorem chan_attemptFailed : (attemptFailed s ch).chan ch = (s.chan ch).failed := State.setChan_chan_same ..

/-- A pending buffer stays pending through an error (R234). -/
theorem tblGet_failed {x : CanChan} {i : Nat} {e : TxBuf} (h : tblGet x.bufs i = some e) (ha : e.abort = false) (hn : e.next = none) :
    tblGet x.failed.bufs i = some { e with onBus := false } := by
  refine tblGet_filterMap ?_ h ?_
  · intro e v hv
    split at hv
    · cases hv
      rfl
    · split at hv
      · cases hv
      · split at hv <;> cases hv <;> rfl
  · cases hb : e.onBus
    · have he : e = { e with onBus := false } := by rw [← hb]
      simp [← he]
    · simp [ha, hn]

/-- A transmitter's error that drives TEC past 255 (R234, R235). -/
theorem canErr_busOff {kind step : Nat} (htp : (s.chan ch).takesPart = true) (hm : (s.chan ch).mode = 1) (h1 : 1 ≤ kind) (h6 : kind ≤ 6)
    (hown : (s.chan ch).ownOnBus = true) (hstep : step ≠ 0) (hlo : 248 ≤ (s.chan ch).tec) (hhi : (s.chan ch).tec ≤ 255)
    (hsess : s.sessions ch = []) :
    let y : CanChan := { (s.chan ch).failed with
      rxXl := false, lec := kind, integrating := false, tec := (s.chan ch).tec + 8, busOff := true, recovery := 0 }
    (canErr s ch kind true step).chan ch = { y with modeBall := y.modeLevel } := by
  have hu : (attemptFailed (abortRecords (s.count (cErrOf kind) ch) ch) ch).chan ch = (s.chan ch).failed := by
    rw [chan_attemptFailed, chan_abortRecords]
    rfl
  have hy : errCount { (s.chan ch).failed with rxXl := false, lec := kind, integrating := false } true step =
      { (s.chan ch).failed with rxXl := false, lec := kind, integrating := false, tec := (s.chan ch).tec + 8 } := errCount_sender hm hstep hhi
  have habort (t : State) (ht : t.can.sessions = s.can.sessions) : tpAbortAll t ch = t := by
    refine tpAbortAll_of_none ?_
    rw [State.sessions, ht]
    exact hsess
  rw [canErr_normal htp hm h1 h6 hown]
  dsimp only
  rw [if_pos rfl, State.count_chan, hu, hy, if_pos (by dsimp only; omega), habort]
  · rw [chan_raise, State.count_chan, chan_of_kept (kept_errEvents ..), putChan_chan_same]
  · rw [congrArg Can.sessions (can_of_kept (kept_raise ..))]
    show (errEvents _ _ _ _).can.sessions = _
    rw [congrArg Can.sessions (can_of_kept (kept_errEvents ..))]
    show (abortRecords _ _).can.sessions = _
    rw [congrArg Can.sessions (can_of_kept kept_abortRecords)]
    rfl

end

/-- Settles O31, clause by clause. -/
theorem canBusEvents : Obligations.CanBusEvents := by
  unfold Obligations.CanBusEvents
  refine ⟨fun ch f s stamp hch => ?frame, fun ch kind step s hch => ?errors, fun ch n s hch => ?busReturn, fun ch xl s hch => ?exception,
    fun ch s => rfl, fun ch s hch => ?modes⟩
  case frame =>
    intro x t htp hm hown hh hlen hxl hpas hslots htpEn hcl hsof
    have hrun := frameReceived_plain htp hm hown hh hlen hxl hpas ⟨hslots, htpEn, hcl⟩ hsof
    refine ⟨fun hq => ?_, fun q v hq hp => ?_, fun q v hq hp hl => ?_⟩
    · rw [show (s.chan ch).rxq = none from hq] at hrun
      exact (if_pos hch).trans (congrArg _ hrun)
    · rw [show (s.chan ch).rxq = some q from hq] at hrun
      exact (if_pos hch).trans (congrArg _ (hrun.trans (rxRecord_taken hp)))
    · rw [show (s.chan ch).rxq = some q from hq] at hrun
      exact (if_pos hch).trans (congrArg _ (hrun.trans (rxRecord_lost hp hl)))
  case errors =>
    intro x htp hm h1 h6
    refine ⟨fun hown hrecv htec => (if_pos hch).trans (congrArg _ (canErr_receiver htp hm h1 h6 hown hrecv htec)),
      fun hown hstep hlo hhi hsess => ⟨_, if_pos hch, ?_⟩⟩
    rw [canErr_busOff htp hm h1 h6 hown hstep hlo hhi hsess]
    exact ⟨rfl, rfl, rfl, rfl, rfl, fun i e he hab hnext => tblGet_failed he hab hnext⟩
  case busReturn =>
    intro x
    refine ⟨fun hoff => (if_pos hch).trans (congrArg _ (if_pos (by simpa using hoff))), fun hoff hlt => ?_, fun hoff hle => ?_,
      fun hoff hle ht hb hc => ?_⟩
    · exact (if_pos hch).trans (congrArg _ ((if_neg (by simpa using hoff)).trans (if_pos hlt)))
    · exact (if_pos hch).trans (congrArg _ ((if_neg (by simpa using hoff)).trans (if_neg (Nat.not_lt.mpr hle))))
    · refine (if_pos hch).trans (congrArg _ ((if_neg (by simpa using hoff)).trans ((if_neg (Nat.not_lt.mpr hle)).trans ?_)))
      have hx : ((s.putChan ch { x with busOff := false, recovery := 0, tec := 0, recv := 0, integrating := false }).chan ch).timed = [] ∧
          ((s.putChan ch { x with busOff := false, recovery := 0, tec := 0, recv := 0, integrating := false }).chan ch).bufs = [] ∧
          ((s.putChan ch { x with busOff := false, recovery := 0, tec := 0, recv := 0, integrating := false }).chan ch).crush = [] := by
        rw [putChan_chan_same]
        exact ⟨ht, hb, hc⟩
      refine checkAll_of_idle ?_ ?_ ?_
      · rw [chan_raise]; exact hx.1
      · rw [chan_raise]; exact hx.2.1
      · rw [chan_raise]; exact hx.2.2
  case exception =>
    intro x htp hm hown
    refine ⟨fun hen => (if_pos hch).trans (congrArg _ (if_pos ?_)), fun hen hpex => (if_pos hch).trans (congrArg _ ((if_neg ?_).trans (if_pos hpex)))⟩
    · simp only [Bool.or_eq_true]
      exact .inr hen
    · simp only [Bool.or_eq_true, not_or, Bool.not_eq_true, Bool.not_eq_false', beq_eq_false_iff_ne]
      exact ⟨⟨⟨htp, hm⟩, hown⟩, hen⟩
  case modes =>
    intro x
    refine ⟨fun hm hoff => (if_pos hch).trans (congrArg _ (if_pos ⟨hm, by simpa using hoff⟩)), fun hnone => ?_, fun m hp hown => ?_,
      fun m hp hown hm hx => ?_⟩
    · refine (if_pos hch).trans (congrArg _ ?_)
      unfold canModeEffect
      rw [show (s.chan ch).pendMode = none from hnone]
    · exact (if_pos hch).trans (congrArg _ ((canModeEffect_pending hp).trans (if_pos hown)))
    · refine (if_pos hch).trans (congrArg _ ((canModeEffect_pending hp).trans ((if_neg (Bool.eq_false_iff.mp hown)).trans ?_)))
      rw [modeEffect_on_bus hm (by rw [chan_abortRecords, State.setChan_chan_same]; exact hx), chan_abortRecords, State.setChan_chan_same]

end Sys2Proof.Machine

/-!
SUPPORT and O32 (R227 to R234).
-/
namespace Sys2Proof.Machine

section
variable {s t : State} {ch : Nat}

/-! The offered frame (R232). -/

/-- The better of the best offer so far and the next one. -/
def betterOffer (o : Option (TxSrc × CanFrame)) (e : TxSrc × CanFrame) : Option (TxSrc × CanFrame) :=
  match o with
  | none => some e
  | some b => if canRank e.2 < canRank b.2 then some e else some b

theorem foldl_betterOffer_some {l : List (TxSrc × CanFrame)} : ∀ {b : TxSrc × CanFrame}, ∃ r, l.foldl betterOffer (some b) = some r ∧
    (r = b ∨ r ∈ l) ∧ canRank r.2 ≤ canRank b.2 ∧ ∀ e ∈ l, canRank r.2 ≤ canRank e.2 := by
  induction l with
  | nil => exact fun {b} => ⟨b, rfl, .inl rfl, Nat.le_refl _, nofun⟩
  | cons a l ih =>
    intro b
    by_cases hlt : canRank a.2 < canRank b.2
    · obtain ⟨r, hr, hmem, hle, hall⟩ := ih (b := a)
      refine ⟨r, ?_, .inr (by rcases hmem with rfl | hm <;> simp [*]), by omega, List.forall_mem_cons.mpr ⟨hle, hall⟩⟩
      rw [List.foldl_cons, betterOffer, if_pos hlt, hr]
    · obtain ⟨r, hr, hmem, hle, hall⟩ := ih (b := b)
      refine ⟨r, ?_, by rcases hmem with rfl | hm <;> simp [*], hle, List.forall_mem_cons.mpr ⟨by omega, hall⟩⟩
      rw [List.foldl_cons, betterOffer, if_neg hlt, hr]

theorem bestOffer_spec {l : List (TxSrc × CanFrame)} {r : TxSrc × CanFrame} (h : bestOffer l = some r) :
    r ∈ l ∧ ∀ e ∈ l, canRank r.2 ≤ canRank e.2 := by
  cases l with
  | nil => cases h
  | cons a l =>
    obtain ⟨q, hq, hmem, hle, hall⟩ := foldl_betterOffer_some (l := l) (b := a)
    have hrq : q = r := Option.some.inj (hq.symm.trans h)
    subst hrq
    exact ⟨List.mem_cons.mpr hmem, List.forall_mem_cons.mpr ⟨hle, hall⟩⟩

/-! The start of a frame (R227). -/

theorem can_openRecords : (openRecords s ch).can = s.can := by
  refine forEach_proj (g := State.can) (fun q s => ?_) _ _
  split <;> rfl

theorem chan_openRecords (c : Nat) : (openRecords s ch).chan c = s.chan c := by
  rw [State.chan, can_openRecords, State.chan]

theorem chan_foreignSof (xl : Bool) :
    let y : CanChan := { s.chan ch with busy := true, sof := some (s.sofStamp ch), rxXl := xl && (s.chan ch).cfg.xlEn }
    (foreignSof s ch xl).chan ch = { y with modeBall := y.modeLevel } := by
  unfold foreignSof
  dsimp only
  rw [chan_openRecords, putChan_chan_same]

theorem chan_ownSof_buf (i : Nat) :
    let y : CanChan := { s.chan ch with
      busy := true, sof := some (s.sofStamp ch), bufs := tblSet (s.chan ch).bufs i { tblGetD (s.chan ch).bufs i {} with onBus := true } }
    (ownSof s ch (.buf i)).chan ch = { y with modeBall := y.modeLevel } := by
  unfold ownSof
  dsimp only
  split
  · rw [chan_openRecords, putChan_chan_same]
    rfl
  · rw [putChan_chan_same]
    rfl

theorem canArbitrate_idle (h : (s.chan ch).takesPart = false ∨ (s.chan ch).busy = true ∨ (s.chan ch).pendMode.isSome = true)
    (lost : Option Bool) : canArbitrate s ch lost = s :=
  if_pos (by rcases h with h | h | h <;> simp [h])

/-- What an arbitration comes to: a node's frame that wins, the offered frame, or silence (R232). -/
def arbitrated (v : State) (ch : Nat) (lost : Option Bool) (o : Option (TxSrc × CanFrame)) : State :=
  match lost, o with
  | some xl, o => (foreignSof v ch xl).countIf o.isSome cTxArbLost ch
  | none, none => v
  | none, some (src, _) => ownSof v ch src

/-- An arbitration the channel takes part in (R232). -/
theorem canArbitrate_joined (ht : (s.chan ch).takesPart = true) (hb : (s.chan ch).busy = false) (hp : (s.chan ch).pendMode = none)
    {lost : Option Bool} {v : State} {o : Option (TxSrc × CanFrame)}
    (ho : (if (s.chan ch).sends then offerBest s ch 4096 else (s, none)) = (v, o)) :
    canArbitrate s ch lost = arbitrated v ch (if (s.chan ch).mode = 3 then none else lost) o := by
  unfold canArbitrate
  dsimp only
  rw [if_neg (by simp [ht, hb, hp]), ho]
  rfl

/-! A frame sent (R230, R234). -/

@[simp] theorem recv_sent (x : CanChan) (src : TxSrc) : (x.sent src).recv = x.recv := by
  cases src with
  | buf i =>
    unfold CanChan.sent
    dsimp only
    split <;> rfl
  | timed o => rfl
  | crush t => rfl

/-- A frame of a host's buffer, the timed queue or the crusher that goes out in NORMAL mode. -/
theorem txComplete_normal {src : TxSrc} {f : CanFrame} (hf : (s.chan ch).onBusFrame = some (src, f, false)) (hm : (s.chan ch).mode = 1)
    (hown : (s.chan ch).cfg.rxOwn = false) (hpas : (s.chan ch).passive = false)
    (hbuf : ∀ i, src = .buf i → i < 30 ∧ (tblGetD (s.chan ch).bufs i {}).notify = false) :
    txComplete s ch = ((s.putChan ch { (s.chan ch).sent src with
      tec := (s.chan ch).tec - 1, busy := false, sof := none, ageRaised := false
      tunnel := (s.chan ch).tunnel.map (fun t => { t with lateRaised := false }) }).emit (.can ch f)).count cCanTxFrames ch := by
  let x := s.chan ch
  let y : CanChan := { x.sent src with
    tec := x.tec - 1, busy := false, sof := none, ageRaised := false
    tunnel := x.tunnel.map (fun t => { t with lateRaised := false }) }
  obtain ⟨htec, hrecv⟩ := not_passive_iff.mp hpas
  have hyr : y.recv = x.recv := recv_sent x src
  have hquiet : errEvents (s.putChan ch y) ch x y = s.putChan ch y := by
    refine errEvents_quiet (fun h => ?_) (fun h => hyr ▸ h) hpas (not_passive_iff.mpr ⟨?_, hyr ▸ hrecv⟩)
    · exact Nat.lt_of_le_of_lt (Nat.sub_le x.tec 1) h
    · exact Nat.le_trans (Nat.sub_le x.tec 1) htec
  have hcount : x.counting = true := by simp [x, CanChan.counting, hm]
  have hesi : { f with esi := f.esi || ((canFd f || f.xl) && x.passive) } = f := by simp [x, hpas]
  have hnote : (match src with | .buf i => (tblGetD x.bufs i {}).notify | _ => false) = false := by
    cases src with
    | buf i => exact (hbuf i rfl).2
    | timed o => rfl
    | crush t => rfl
  unfold txComplete
  dsimp only
  rw [hf]
  dsimp only
  simp only [show (s.chan ch).counting = true from hcount, if_true, hown, hm]
  rw [show errEvents (s.putChan ch _) ch (s.chan ch) _ = s.putChan ch y from hquiet, hesi]
  cases src with
  | buf i =>
    have hi : ¬i ≥ 30 := Nat.not_le.mpr (hbuf i rfl).1
    simp [hi, raiseIf, (hbuf i rfl).2, y, x]
  | timed o => simp [raiseIf, y, x]
  | crush t => simp [raiseIf, y, x]

/-! The feeder's head packet (R231). -/

/-- The head packet of an enabled feeder queue without a launch time of its own. -/
theorem feederMove_head {q : Nat} {k : Packet} {r : List Packet} (hq : (s.chan ch).feeder = some q) (he : (s.queue q).enable = true)
    (hl : (s.queue q).launchSrc = 0) (hp : (s.queue q).packets = k :: r) : feederMove s ch =
      let f := frameOfDesc k.bytes (k.bytes.drop 16)
      if decide (k.bytes.length < 16) || decide (k.bytes.length < 16 + descLen k.bytes) || !(s.chan ch).cfg.accepts f then feederBad s ch q
      else match timedPut s ch f s.work false with
        | (s, true) => let s := readCells s q k.cells; wmEval (releaseHead s q) q
        | (s, false) => s := by
  unfold feederMove
  rw [hq]
  dsimp only
  rw [hp]
  dsimp only
  rw [he, hl]
  rfl

end

/-- Settles O32, clause by clause. -/
theorem canTransmission : Obligations.CanTransmission := by
  unfold Obligations.CanTransmission
  refine ⟨fun l r h => bestOffer_spec h, fun ch s hch => ?_⟩
  intro x
  refine ⟨fun hidle lost => (if_pos hch).trans (congrArg _ (canArbitrate_idle hidle lost)), fun ht hb hp xl => ?arbitration, fun xl => ?foreign,
    fun i => ?own, fun src f tun hf hm hown htun hpas hbuf => ?sent, fun hf => ?nothingSent, fun hq => ?noFeeder,
    fun q k r hq he hl hp => ?feeder⟩
  case arbitration =>
    have hrun {lost : Option Bool} {v : State} {o : Option (TxSrc × CanFrame)}
        (ho : (if (s.chan ch).sends then offerBest s ch 4096 else (s, none)) = (v, o)) := canArbitrate_joined (lost := lost) ht hb hp ho
    refine ⟨fun hs => ?_, fun hs hm => ?_, fun v hs ho => ⟨?_, fun hm => ?_⟩, fun v src f hs ho => ⟨?_, fun hm => ?_⟩⟩
    · refine (if_pos hch).trans (congrArg _ ((hrun (if_neg (Bool.eq_false_iff.mp hs))).trans ?_))
      rw [ite_self]
      rfl
    · refine (if_pos hch).trans (congrArg _ ((hrun (if_neg (Bool.eq_false_iff.mp hs))).trans ?_))
      rw [if_neg hm]
      rfl
    · refine (if_pos hch).trans (congrArg _ ((hrun ((if_pos hs).trans ho)).trans ?_))
      rw [ite_self]
      rfl
    · refine (if_pos hch).trans (congrArg _ ((hrun ((if_pos hs).trans ho)).trans ?_))
      rw [if_neg hm]
      rfl
    · refine (if_pos hch).trans (congrArg _ ((hrun ((if_pos hs).trans ho)).trans ?_))
      rw [ite_self]
      rfl
    · refine (if_pos hch).trans (congrArg _ ((hrun ((if_pos hs).trans ho)).trans ?_))
      rw [if_neg hm]
      rfl
  case foreign =>
    rw [chan_foreignSof]
    exact ⟨rfl, rfl, rfl, rfl⟩
  case own =>
    rw [chan_ownSof_buf]
    exact ⟨rfl, rfl, tblGet_tblSet_same ..⟩
  case sent =>
    subst htun
    exact (if_pos hch).trans (congrArg _ (txComplete_normal hf hm hown hpas hbuf))
  case nothingSent =>
    refine (if_pos hch).trans (congrArg _ ?_)
    unfold txComplete
    dsimp only
    rw [show (s.chan ch).onBusFrame = none from hf]
  case noFeeder =>
    refine (if_pos hch).trans (congrArg _ ?_)
    unfold feederMove
    rw [show (s.chan ch).feeder = none from hq]
  case feeder =>
    intro f
    have hhead := feederMove_head hq he hl hp
    have hgood (hlen : 16 + descLen k.bytes ≤ k.bytes.length) (hacc : x.cfg.accepts f = true) :
        ¬(decide (k.bytes.length < 16) || decide (k.bytes.length < 16 + descLen k.bytes) || !(s.chan ch).cfg.accepts f) = true := by
      have h16 : 16 ≤ k.bytes.length := Nat.le_trans (Nat.le_add_right ..) hlen
      simpa [hlen, h16] using hacc
    refine ⟨fun hbad => (if_pos hch).trans (congrArg _ (hhead.trans ((if_pos ?_).trans ?_))),
      fun hlen hacc hfull => (if_pos hch).trans (congrArg _ (hhead.trans ((if_neg (hgood hlen hacc)).trans ?_))),
      fun hlen hacc hroom => (if_pos hch).trans (congrArg _ (hhead.trans ((if_neg (hgood hlen hacc)).trans ?_)))⟩
    · have hnot : ¬(s.chan ch).cfg.accepts f = true ↔ x.cfg.accepts f = false := by simp [x]
      simp only [Bool.or_eq_true, decide_eq_true_eq, Bool.not_eq_true', or_assoc]
      exact hbad
    · unfold feederBad
      rw [hp]
      rfl
    · have hput : timedPut s ch f s.work false = (s, false) := if_neg (Nat.not_lt.mpr hfull)
      rw [hput]
    · have hput : timedPut s ch f s.work false = (s.setChan ch { x with
          timed := x.timed ++ [{ frame := f, atNs := s.work, order := x.order, tunnel := false }], order := x.order + 1 }, true) := if_pos hroom
      rw [hput]

end Sys2Proof.Machine

/-!
SUPPORT and O33 (R237 to R244).
-/
namespace Sys2Proof.Machine

section
variable {s : State} {ch : Nat}

theorem grtServe_queue2 {f : GrtFrame} {t : Nat} {b : State → State} (hp : s.passThrough = false) (hv : bitsAt f.hdr.flags 6 2 = 1)
    (ht : f.hdr.typ = t) (hl : grtLenOk f = true) (hn : s.fromNode f = true) (ho : ¬(0x20 ≤ t ∧ t ≤ 0x23)) :
    grtServe s t f b = b (takeFromQueue s 2 f) := by
  simp [grtServe, hp, hv, ht, hl, ho, fromNode_takeFromQueue, hn]

/-- A channel's only session belongs to it. -/
theorem chan_of_sessions {t : TpSession} (h : s.sessions ch = [t]) : t.chan = ch := by
  have hmem : t ∈ s.sessions ch := by simp [h]
  simpa using (List.mem_filter.mp hmem).2

/-- A broadcast that is received and times out sends no frame (R238). -/
theorem tpAbort_received {t : TpSession} (c : CtrId) (r : Option Nat) (hk : t.kind = 0) (ht : t.transmit = false) :
    tpAbort s t c r = raise ((abortOpen {
      s with can := { s.can with sessions := s.can.sessions.filter (fun a => !a.same t) } } t.stage).count c t.chan) (srcCan t.chan 9) 1 0 := by
  have hd : dropSession s t = abortOpen {
      s with can := { s.can with sessions := s.can.sessions.filter (fun a => !a.same t) } } t.stage :=
    if_neg (Bool.eq_false_iff.mp ht)
  unfold tpAbort
  rw [hd]
  cases r with
  | none => rfl
  | some r => exact if_neg (fun h => h.1 hk)

theorem tpTimeout_one {t : TpSession} {sa da : Nat} (h : s.sessions ch = [t]) (hsa : t.sa = sa) (hda : t.da = da) (hph : t.phase ≠ 4)
    (hdue : t.due ≤ s.lt) : tpTimeout s ch sa da = tpAbort s t cTpAbortTimeout (some 3) := by
  have hf : ([t].filter fun t => t.sa == sa && t.da == da && t.phase != 4 && decide (s.lt ≥ t.due)) = [t] := by simp [hsa, hda, hph, hdue]
  rw [tpTimeout, h, hf]
  rfl

/-- A message that is complete in a queue's hands (R238). -/
theorem tpComplete_done {t : TpSession} {q sa da : Nat} (h : sessionOf s ch sa da false = some t) (hph : t.phase = 4)
    (hq : ((dropSession s t).chan ch).tpq = some q) : tpComplete s ch sa da =
      match putPacket (dropSession s t) q t.packet 0 false with
      | (s, true) => s.count cTpDone ch
      | (s, false) => s.count cRxLostTp ch := by
  have hf : (sessionOf s ch sa da false).filter (fun t => t.phase == 4) = some t := by simp [h, hph]
  unfold tpComplete
  rw [hf]
  dsimp only
  rw [hq] <;> rfl

/-- The next TP.DT of a broadcast (R239). -/
theorem tpTransmit_bam {t : TpSession} (hen : (s.chan ch).tpEn = true) (hrun : s.firmwareRuns = true) (h : s.sessions ch = [t])
    (htx : t.transmit = true) (hph : t.phase = 0) (hk : t.kind = 0) (hw : t.seq ≤ t.window)
    (hfree : (tblGetD (s.chan ch).bufs 31 {}).frame = none) (hgap : t.sentAt + 50000000 ≤ s.lt) :
    tpTransmit s ch = (s.setChan ch {
      s.chan ch with
      bufs := tblSet (s.chan ch).bufs 31
        { frame := some (svcFrame t.prio 0xEB t.da t.sa (leBytes 1 t.seq ++ bytesAt (t.data ++ List.replicate 7 0xFF) (7 * (t.seq - 1)) 7))
          since := s.lt } }).setSession { t with seq := t.seq + 1, sentAt := s.lt, due := s.lt + 1250 * 1000000 } := by
  have hfind : (s.sessions ch).find? (fun t => t.transmit) = some t := by simp [h, htx]
  have hgo : ¬(t.phase ≠ 0 ∨ t.seq > t.window ∨ (tblGetD (s.chan ch).bufs 31 {}).frame.isSome ∨ (t.kind = 0 ∧ s.lt < t.sentAt + 50000000)) := by
    simp [hph, hw, hfree, hgap]
  unfold tpTransmit
  dsimp only
  rw [hen, hrun, if_neg (by decide), hfind]
  dsimp only
  rw [if_neg hgo, hk]
  rfl

/-- One record from the partner of a channel's tunnel, in order (R242). -/
theorem tunnelIn_one {f : GrtFrame} {stamp : Nat} {fr : CanFrame} (hch : infoAt f.hdr 17 1 < 24) (hn : infoAt f.hdr 20 1 = 1)
    (hrec : tunnelRecords 1 f.payload = some [(stamp, fr)]) : tunnelIn s f =
      let ch := infoAt f.hdr 17 1
      let sq := infoAt f.hdr 18 2
      match (s.chan ch).tunnel with
      | none => s.count cTunnelRefused ch
      | some t =>
        if s.owner 1 ch ≠ f.hdr.addr.part ∨ t.remote ≠ f.hdr.srcNode ∨ t.rchan ≠ infoAt f.hdr 16 1 then s.count cTunnelRefused ch
        else
          let gap := match t.rxSeq with | some e => e != sq | none => false
          let s := s.setChan ch { s.chan ch with tunnel := some { t with rxSeq := some ((sq + 1) % 65536) } }
          tunnelFrameIn (raiseIf (s.countIf gap cTunnelLoss ch) gap (srcCan ch 13) 1 0) ch t stamp fr := by
  unfold tunnelIn
  dsimp only
  rw [hn, hrec]
  dsimp only
  rw [if_neg (by omega)]
  rfl

theorem tunnelIn_refused {f : GrtFrame} {stamp : Nat} {fr : CanFrame} (hch : infoAt f.hdr 17 1 < 24) (hn : infoAt f.hdr 20 1 = 1)
    (hrec : tunnelRecords 1 f.payload = some [(stamp, fr)])
    (hno : ∀ t, (s.chan (infoAt f.hdr 17 1)).tunnel = some t → s.owner 1 (infoAt f.hdr 17 1) ≠ f.hdr.addr.part) :
    tunnelIn s f = s.count cTunnelRefused (infoAt f.hdr 17 1) := by
  rw [tunnelIn_one hch hn hrec]
  dsimp only
  split
  · rfl
  · next t ht => exact if_pos (.inl (hno t ht))

theorem tunnelIn_taken {f : GrtFrame} {stamp : Nat} {fr : CanFrame} {t : Tunnel} (hch : infoAt f.hdr 17 1 < 24) (hn : infoAt f.hdr 20 1 = 1)
    (hrec : tunnelRecords 1 f.payload = some [(stamp, fr)]) (ht : (s.chan (infoAt f.hdr 17 1)).tunnel = some t)
    (hown : s.owner 1 (infoAt f.hdr 17 1) = f.hdr.addr.part) (hrem : t.remote = f.hdr.srcNode) (hrch : t.rchan = infoAt f.hdr 16 1)
    (hseq : t.rxSeq = some (infoAt f.hdr 18 2)) :
    tunnelIn s f = tunnelFrameIn (s.setChan (infoAt f.hdr 17 1) { s.chan (infoAt f.hdr 17 1) with
      tunnel := some { t with rxSeq := some ((infoAt f.hdr 18 2 + 1) % 65536) } }) (infoAt f.hdr 17 1) t stamp fr := by
  rw [tunnelIn_one hch hn hrec]
  dsimp only
  rw [ht]
  dsimp only
  rw [if_neg (by simp [hown, hrem, hrch]), hseq]
  simp [raiseIf, State.countIf]

/-- What becomes of an acceptable frame that a tunnel delivers (R244). -/
theorem tunnelFrameIn_accepted {t : Tunnel} {stamp : Nat} {fr : CanFrame} (hacc : (s.chan ch).cfg.accepts fr = true) (hd : t.delay ≠ 0) :
    tunnelFrameIn s ch t stamp fr =
      if (s.chan ch).timed.length < 64 then s.setChan ch { s.chan ch with
        timed := (s.chan ch).timed ++ [{ frame := fr, atNs := stamp + t.delay * 1000, order := (s.chan ch).order, tunnel := true }]
        order := (s.chan ch).order + 1 }
      else s.count cTunnelDrop ch := by
  unfold tunnelFrameIn
  rw [hacc, if_neg (by decide), if_neg hd]
  by_cases hroom : (s.chan ch).timed.length < 64
  · rw [if_pos hroom, timedPut, if_pos hroom]
  · rw [if_neg hroom, timedPut, if_neg hroom]

end

/-- Settles O33, clause by clause. -/
theorem canServiceEvents : Obligations.CanServiceEvents := by
  unfold Obligations.CanServiceEvents
  refine ⟨fun ch sa da s hch => ?_, fun f r hp hv ht hl hn => ?_⟩
  · intro x
    refine ⟨fun t h hsa hda hph hdue hk htx => ?_, fun h => ?_, fun h => ?_,
      fun t q v h hph hq => ⟨fun hput => ?_, fun hput => ?_⟩, fun h => ?_,
      fun t hen hrun h htx hph hk hw hfree hgap => (if_pos hch).trans (congrArg _ (tpTransmit_bam hen hrun h htx hph hk hw hfree hgap)),
      fun hen hst hdue => ?_, fun hlt => ?_, fun t ht => ⟨fun h => ?_, fun hdue hheld => ?_⟩⟩
    · refine (if_pos hch).trans (congrArg _ ?_)
      rw [tpTimeout_one h hsa hda hph hdue, tpAbort_received _ _ hk htx, chan_of_sessions h]
    · refine (if_pos hch).trans (congrArg _ ?_)
      rw [tpTimeout, h]
      rfl
    · refine (if_pos hch).trans (congrArg _ ?_)
      rw [tpComplete, h]
      rfl
    · exact (if_pos hch).trans (congrArg _ ((tpComplete_done h hph hq).trans (by rw [hput])))
    · exact (if_pos hch).trans (congrArg _ ((tpComplete_done h hph hq).trans (by rw [hput])))
    · exact (if_pos hch).trans (congrArg _ (if_pos (by simpa using .inl h)))
    · exact (if_pos hch).trans (congrArg _ (if_pos (by simpa using ⟨⟨hen, hst⟩, hdue⟩)))
    · exact (if_pos hch).trans (congrArg _ (if_neg (by simpa using fun _ _ => hlt)))
    · refine (if_pos hch).trans (congrArg _ ?_)
      rw [show (s.chan ch).tunnel = some t from ht]
      dsimp only
      split
      · next hdue =>
        have hnil : t.held = [] := h.resolve_left (Nat.not_lt.mpr hdue)
        unfold tunnelFlush
        rw [show (s.chan ch).tunnel = some t from ht]
        exact if_pos (by simp [hnil])
      · rfl
    · refine (if_pos hch).trans (congrArg _ ?_)
      rw [show (s.chan ch).tunnel = some t from ht]
      refine (if_pos hdue).trans ?_
      unfold tunnelFlush
      rw [show (s.chan ch).tunnel = some t from ht]
      exact if_neg (by simpa using hheld)
  · intro s ch x hch stamp fr h1 hrec
    have hserve : exec (.canTunnel f) r = .next (tunnelIn s f) := congrArg Host.Outcome.next (grtServe_queue2 hp hv ht hl hn (by decide))
    refine ⟨fun hnone => hserve.trans (congrArg _ (tunnelIn_refused hch h1 hrec fun t hs => absurd (hnone.symm.trans hs) nofun)),
      fun t hs hown => hserve.trans (congrArg _ (tunnelIn_refused hch h1 hrec fun _ _ => hown)), fun t hs hown hrem hrch hseq hacc hd => ?_⟩
    intro y
    have htaken := tunnelIn_taken hch h1 hrec hs hown hrem hrch hseq
    have hin : tunnelIn s f = if x.timed.length < 64 then s.setChan ch { y with
          timed := x.timed ++ [{ frame := fr, atNs := stamp + t.delay * 1000, order := x.order, tunnel := true }], order := x.order + 1 }
        else (s.setChan ch y).count cTunnelDrop ch := by
      have hchan : (s.setChan ch y).chan ch = y := State.setChan_chan_same ..
      rw [htaken]
      refine (tunnelFrameIn_accepted (s := s.setChan ch y) (by rw [hchan]; exact hacc) hd).trans ?_
      rw [hchan, State.setChan_setChan]
    exact ⟨fun hroom => hserve.trans (congrArg _ (hin.trans (if_pos hroom))),
      fun hfull => hserve.trans (congrArg _ (hin.trans (if_neg (Nat.not_lt.mpr hfull))))⟩

end Sys2Proof.Machine

/-!
SUPPORT and O34 (R253).
-/
namespace Sys2Proof.Machine

/-! Bits. -/

theorem bitAt_eq_testBit (v k : Nat) : bitAt v k = v.testBit k := by
  rw [bitAt, Nat.testBit_eq_decide_div_mod_eq]
  rfl

theorem testBit_add_two_pow {v k : Nat} (h : v.testBit k = false) (j : Nat) :
    (v + 2 ^ k).testBit j = if j = k then true else v.testBit j := by
  rcases Nat.lt_trichotomy j k with hlt | rfl | hlt
  · rw [if_neg (by omega), Nat.add_comm, Nat.testBit_two_pow_add_gt hlt]
  · rw [if_pos rfl, Nat.add_comm, Nat.testBit_two_pow_add_eq, h, Bool.not_false]
  · have hk : v / 2 ^ k % 2 = 0 := by
      rw [Nat.testBit_eq_decide_div_mod_eq, decide_eq_false_iff_not] at h
      omega
    have hdiv : (v + 2 ^ k) / 2 ^ (k + 1) = v / 2 ^ (k + 1) := by
      rw [Nat.pow_succ, ← Nat.div_div_eq_div_mul, ← Nat.div_div_eq_div_mul, Nat.add_div_right v (Nat.two_pow_pos k)]
      omega
    obtain ⟨i, rfl⟩ : ∃ i, j = i + (k + 1) := ⟨j - (k + 1), by omega⟩
    rw [if_neg (by omega), ← Nat.testBit_div_two_pow, hdiv, Nat.testBit_div_two_pow]

theorem bitAt_orBit (v k j : Nat) : bitAt (orBit v k) j = if j = k then true else bitAt v j := by
  simp only [orBit, bitAt_eq_testBit]
  split
  · next h => split <;> simp [*]
  · next h => exact testBit_add_two_pow (Bool.eq_false_iff.mpr h) j

theorem bitAt_clrBit (v k j : Nat) : bitAt (clrBit v k) j = if j = k then false else bitAt v j := by
  simp only [clrBit, bitAt_eq_testBit]
  split
  · next h =>
    have hle : 2 ^ k ≤ v := Nat.ge_two_pow_of_testBit h
    have hsum : v - 2 ^ k + 2 ^ k = v := Nat.sub_add_cancel hle
    have hoff : (v - 2 ^ k).testBit k = false := by
      have hk := Nat.testBit_two_pow_add_eq (v - 2 ^ k) k
      rw [Nat.add_comm, hsum, h] at hk
      simpa using hk.symm
    have hadd := testBit_add_two_pow hoff j
    rw [hsum] at hadd
    split
    · next hj => rw [hj, hoff]
    · next hj => rw [hadd, if_neg hj]
  · next h => split <;> simp [*]

theorem bitAt_putBit (v k j : Nat) (b : Bool) : bitAt (putBit v k b) j = if j = k then b else bitAt v j := by
  cases b with
  | false => exact bitAt_clrBit v k j
  | true => exact bitAt_orBit v k j

/-! The positions of a field. -/

/-- Placing bits at the listed positions, bit `n` of the value at the first. -/
def placeAt (raw : Nat) (l : List Nat) (n m : Nat) : Nat := (l.zipIdx n).foldl (fun a e => putBit a e.1 (bitAt raw e.2)) m

theorem placeAt_cons (raw x n m : Nat) (l : List Nat) : placeAt raw (x :: l) n m = placeAt raw l (n + 1) (putBit m x (bitAt raw n)) := rfl

theorem bitAt_placeAt_of_notMem {raw k : Nat} {l : List Nat} (h : k ∉ l) : ∀ {n m : Nat}, bitAt (placeAt raw l n m) k = bitAt m k := by
  induction l with
  | nil => exact rfl
  | cons x l ih =>
    intro n m
    obtain ⟨hx, hl⟩ := not_or.mp (mt List.mem_cons.mpr h)
    rw [placeAt_cons, ih hl, bitAt_putBit, if_neg hx]

theorem bitAt_placeAt_of_mem {raw : Nat} {l : List Nat} (h : l.Nodup) : ∀ {n m : Nat}, ∀ e ∈ l.zipIdx n,
    bitAt (placeAt raw l n m) e.1 = bitAt raw e.2 := by
  induction l with
  | nil => exact nofun
  | cons x l ih =>
    intro n m e he
    obtain ⟨hx, hl⟩ := List.nodup_cons.mp h
    rw [placeAt_cons]
    rcases List.mem_cons.mp he with rfl | he
    · rw [bitAt_placeAt_of_notMem hx, bitAt_putBit, if_pos rfl]
    · exact ih hl e he

/-- Reading bits from the positions that hold the bits of a value reads that value. -/
theorem extract_of_placed {p raw : Nat} {l : List Nat} : ∀ {n a : Nat}, (∀ e ∈ l.zipIdx n, bitAt p e.1 = bitAt raw e.2) →
    (l.zipIdx n).foldl (fun a e => a + b2n (bitAt p e.1) * 2 ^ e.2) a = a + 2 ^ n * (raw / 2 ^ n % 2 ^ l.length) := by
  induction l with
  | nil => simp [Nat.mod_one]
  | cons x l ih =>
    intro n a h
    rw [List.zipIdx_cons] at h ⊢
    have hx : b2n (bitAt p x) = raw / 2 ^ n % 2 := by
      rw [h (x, n) List.mem_cons_self, bitAt]
      rcases Nat.mod_two_eq_zero_or_one (raw / 2 ^ n) with hb | hb <;> rw [hb] <;> rfl
    have hsplit : raw / 2 ^ n % 2 ^ (l.length + 1) = raw / 2 ^ n % 2 + 2 * (raw / 2 ^ (n + 1) % 2 ^ l.length) := by
      rw [Nat.pow_succ' (n := l.length), Nat.mod_mul, Nat.div_div_eq_div_mul, ← Nat.pow_succ]
    rw [List.foldl_cons, ih fun e he => h e (List.mem_cons_of_mem _ he), hx, List.length_cons, hsplit, Nat.pow_succ]
    dsimp only
    rw [Nat.mul_add, Nat.mul_comm (raw / 2 ^ n % 2), ← Nat.mul_assoc, ← Nat.add_assoc]

/-- The place of a bit when the bytes are read from the first and each from its most significant bit. -/
def sawtooth (pos : Nat) : Nat := pos / 8 * 8 + (7 - pos % 8)

theorem walkFrom_intel {len : Nat} : ∀ {pos : Nat}, walkFrom false len pos = List.range' pos len := by
  induction len with
  | zero => exact rfl
  | succ n ih =>
    intro pos
    exact congrArg (pos :: ·) ih

theorem sawtooth_walkFrom_motorola {len : Nat} : ∀ {pos : Nat}, (walkFrom true len pos).map sawtooth = List.range' (sawtooth pos) len := by
  induction len with
  | zero => exact rfl
  | succ n ih =>
    intro pos
    have hnext : sawtooth (if pos % 8 = 0 then pos + 15 else pos - 1) = sawtooth pos + 1 := by
      unfold sawtooth
      split <;> omega
    rw [List.range'_succ, ← hnext, ← ih]
    rfl

theorem walk_nodup (start len : Nat) (mot : Bool) : (walk start len mot).Nodup := by
  cases mot with
  | false =>
    show (walkFrom false len start).Nodup
    rw [walkFrom_intel]
    exact List.nodup_range'
  | true =>
    show (walkFrom true len start).reverse.Nodup
    rw [List.Nodup, List.pairwise_reverse]
    refine List.Pairwise.of_map sawtooth (fun x y h => fun he => h (congrArg sawtooth he.symm)) (S := (· ≠ ·)) ?_
    rw [sawtooth_walkFrom_motorola]
    exact List.nodup_range'

theorem length_walkFrom (mot : Bool) (len : Nat) : ∀ {pos : Nat}, (walkFrom mot len pos).length = len := by
  induction len with
  | zero => exact rfl
  | succ n ih => exact congrArg (· + 1) ih

theorem length_walk (start len : Nat) (mot : Bool) : (walk start len mot).length = len := by
  cases mot with
  | false => exact length_walkFrom ..
  | true => exact (List.length_reverse ..).trans (length_walkFrom ..)

/-- Settles O34: a walk names each position once, so the bits placed are the bits read. -/
theorem bitFieldRoundTrip : Obligations.BitFieldRoundTrip := by
  unfold Obligations.BitFieldRoundTrip
  refine fun m raw start len mot => ⟨?_, fun k hk => bitAt_placeAt_of_notMem hk, length_walk .., fun hmot k => ?_, fun hmot hlen => ?_⟩
  · have h := extract_of_placed (p := placeRaw m raw start len mot) (a := 0) (bitAt_placeAt_of_mem (walk_nodup start len mot))
    rw [length_walk, Nat.pow_zero, Nat.div_one, Nat.zero_add, Nat.one_mul] at h
    exact h
  · subst hmot
    show k ∈ walkFrom false len start ↔ _
    rw [walkFrom_intel, List.mem_range'_1]
  · subst hmot
    obtain ⟨n, rfl⟩ : ∃ n, len = n + 1 := ⟨len - 1, by omega⟩
    exact List.getLast?_reverse

end Sys2Proof.Machine

/-!
SUPPORT and O36 (R247 to R264).
-/
namespace Sys2Proof.Machine

section
variable {s t : State} {c : Cmd} {m : Nat}

theorem takeCrusherSlot_proj {β : Type} {g : State → β} (h : ∀ (s : State) ch x, g (s.setChan ch x) = g s) (ch : Nat) (s : State) :
    g (takeCrusherSlot s ch) = g s := by
  unfold takeCrusherSlot
  dsimp only
  split
  · rfl
  · split
    · exact h ..
    · rfl

theorem chan_takeCrusherSlot_ne {ch c : Nat} (h : c ≠ ch) (s : State) : (takeCrusherSlot s ch).chan c = s.chan c := by
  unfold takeCrusherSlot
  dsimp only
  split
  · rfl
  · split
    · exact State.setChan_chan_ne _ _ _ h
    · rfl

/-- Taking slots of the listed channels leaves every other channel alone (R249). -/
theorem chan_takeCrusherSlots {l : List Nat} {ch : Nat} (h : ch ∉ l) : ∀ s : State, (forEach l s fun k s => takeCrusherSlot s k).chan ch = s.chan ch := by
  induction l with
  | nil => exact fun _ => rfl
  | cons a l ih =>
    intro s
    obtain ⟨ha, hl⟩ := not_or.mp (mt List.mem_cons.mpr h)
    exact (ih hl _).trans (chan_takeCrusherSlot_ne ha s)

/-- The rows of a map that the issuer owns. -/
theorem bodyMapEnable_owned (hl : localRes s c.p (c.u 8 4) = some (11, m)) (ho : s.owns c.p 11 m = true) (hv : c.u 12 1 ≤ 1) :
    bodyMapEnable c s =
      if !(c.u 12 1 == 1) then okS (if (s.map m).enable then disableMap s m else s)
      else chk (s.map m).written stWrongState (
        if (s.map m).enable then okS s
        else chk ((s.map m).channels.all (fun ch => (s.chan ch).crusherSlot || (s.chan ch).freeSlot.isSome)) stNoResource (
          okS ((forEach (s.map m).channels s (fun ch s => takeCrusherSlot s ch)).setMap m ((s.map m).fresh s.lt s.work s.pool.commits)))) := by
  rw [bodyMapEnable, handle_of_localRes hl]
  dsimp only
  rw [chk_of (decide_eq_true hv), ownRes_of_free_class ho]

theorem disableMap_of_no_channels (h : (s.map m).channels = []) : disableMap s m = s.setMap m { s.map m with enable := false } := by
  unfold disableMap
  dsimp only
  rw [h]
  rfl

theorem bodyMapStatus_read (hl : localRes s c.p (c.u 8 4) = some (11, m)) (hr : s.mayRead c.p 11 m = true) (ho : c.owned = true)
    (hlen : c.len = 0 ∨ c.len = 8 * (s.map m).signals.length) :
    bodyMapStatus c s = .ok
      (resOf [(0, 1, b2n (s.map m).enable), (2, 2, listMask (((s.map m).sources.zipIdx.filter (fun e => e.1.stale)).map Prod.snd))])
      (if c.len = 0 then [] else (s.map m).signals.flatMap (fun g => leBytes 8 ((s.map m).recordNow g))) s := by
  rw [bodyMapStatus, handle_of_localRes hl]
  dsimp only
  rw [chk_of (by simpa using hlen), readRes, if_pos hr, chk_of ho]

end

/-- Settles O36, row by row. -/
theorem crusherCommands : Obligations.CrusherCommands := by
  unfold Obligations.CrusherCommands
  intro d s m t c b x nsrc nsig sigAt srcs sigs cuts tpls u hl ho
  refine ⟨fun h hs1 hs16 hg1 hg256 ht16 hflag hlen hsrc hsig htpl htwin hown hread hcan => ?mapSet, fun h h0 hen => ?off, fun h h0 hen hch => ?disable,
    fun h h1 hen hw hslots => ?enable, fun h h1 hen hw hslots => ?noSlot, fun h hr hown hlen => ?status⟩
  case mapSet =>
    have hbody : bodyMapSet c t = chk (!x.enable) stWrongState (
        chk (decide (u.1 + nsrc ≤ 4096) && decide (u.2.1 + nsig ≤ 8192) && decide (u.2.2.1 + leAt b 4 1 ≤ 1024)
          && decide (u.2.2.2 + sumNat (tpls.map (fun t => t.fields.length)) ≤ 4096)) stNoResource
        (okS ((forEach (srcs.filter (fun e => e.kind == 3)) t (fun e s =>
          match s.hewerRxq e.unit with | some q => bindCons s q .firmware | none => s)).setMap m
          { written := true, twin := x.twin, owner := d.part, sources := srcs, signals := sigs, tpls := tpls }))) := by
      have hw1 : within 1 16 nsrc = true := by simp [within, hs1, hs16]
      have hw2 : within 1 256 nsig = true := by simp [within, hg1, hg256]
      have hlen' : (c.len == cuts.2) = true := beq_iff_eq.mpr hlen
      rw [bodyMapSet, handle_of_localRes hl]
      dsimp only
      rw [chk_of (b := _ && _) (by
        rw [show within 1 16 (leAt c.bulk 1 1) = true from hw1, show within 1 256 (leAt c.bulk 2 2) = true from hw2,
          show decide (leAt c.bulk 4 1 ≤ 16) = true from decide_eq_true ht16, show bitAt (leAt c.bulk 0 1) 0 = false from hflag]
        simp only [Bool.and_eq_true]
        exact ⟨⟨⟨⟨⟨by decide, hlen'⟩, hsrc⟩, hsig⟩, htpl⟩, htwin⟩), ownRes_of_free_class (c := c) ho, chk_of (b := _ && _) (by
        simp only [Bool.and_eq_true]
        exact ⟨⟨hown, hread⟩, hcan⟩)]
      rfl
    refine ⟨fun hen => ?_, fun hen hu1 hu2 hu3 hu4 => ?_, fun hen hfull => ?_⟩
    · exact cmdRow_fail bodyMapSet h (hbody.trans (by rw [hen]; rfl))
    · exact cmdRow_ok bodyMapSet h (hbody.trans (by rw [hen, Bool.not_false, chk_true, chk_of (by simp [hu1, hu2, hu3, hu4])]; rfl))
    · have hno : ¬u.1 + nsrc ≤ 4096 := Nat.not_le.mpr hfull
      exact cmdRow_fail bodyMapSet h (hbody.trans (by rw [hen, Bool.not_false, chk_true, decide_eq_false hno]; rfl))
  case off =>
    have h0' : c.u 12 1 = 0 := h0
    refine cmdRow_ok bodyMapEnable h ((bodyMapEnable_owned hl ho (by omega)).trans ?_)
    rw [h0', show (t.map m).enable = false from hen]
    rfl
  case disable =>
    have h0' : c.u 12 1 = 0 := h0
    refine cmdRow_ok bodyMapEnable h ((bodyMapEnable_owned hl ho (by omega)).trans ?_)
    rw [h0', show (t.map m).enable = true from hen, disableMap_of_no_channels hch]
    rfl
  case enable =>
    have h1' : c.u 12 1 = 1 := h1
    refine ⟨(forEach x.channels t (fun ch s => takeCrusherSlot s ch)).setMap m (x.fresh t.lt t.work t.pool.commits),
      cmdRow_ok bodyMapEnable h ((bodyMapEnable_owned hl ho (by omega)).trans ?_), ?_⟩
    · rw [h1', show (t.map m).enable = false from hen, chk_of (show (t.map m).written = true from hw)]
      exact (if_neg Bool.false_ne_true).trans ((if_neg Bool.false_ne_true).trans (chk_of hslots))
    · rw [State.setMap_map_same]
      refine ⟨rfl, rfl, rfl, fun k hk => ?_, fun ch hch => chan_takeCrusherSlots hch t, ?_, ?_⟩
      · rw [State.setMap_map_ne _ _ _ hk]
        exact forEach_proj (g := fun s => s.map k) (takeCrusherSlot_proj (g := fun s => s.map k) fun _ _ _ => rfl) _ _
      · exact forEach_proj (g := State.queues) (takeCrusherSlot_proj fun _ _ _ => rfl) _ _
      · exact forEach_proj (g := State.counters) (takeCrusherSlot_proj fun _ _ _ => rfl) _ _
  case noSlot =>
    have h1' : c.u 12 1 = 1 := h1
    refine cmdRow_fail bodyMapEnable h ((bodyMapEnable_owned hl ho (by omega)).trans ?_)
    rw [h1', show (t.map m).enable = false from hen, chk_of (show (t.map m).written = true from hw)]
    refine (if_neg Bool.false_ne_true).trans ((if_neg Bool.false_ne_true).trans ?_)
    rw [show (t.map m).channels.all (fun ch => (t.chan ch).crusherSlot || (t.chan ch).freeSlot.isSome) = false from hslots]
    rfl
  case status =>
    exact cmdRow_ok bodyMapStatus h (bodyMapStatus_read hl hr hown hlen)

end Sys2Proof.Machine

/-!
SUPPORT and O37 (R248 to R265).
-/
namespace Sys2Proof.Machine

section
variable {α : Type}

theorem listSet_eq_set (l : List α) (k : Nat) (v : α) : listSet l k v = l.set k v := by
  induction l generalizing k with
  | nil => rfl
  | cons a l ih =>
    cases k with
    | zero => rfl
    | succ k => exact congrArg (a :: ·) (ih k)

theorem listSet_listSet (l : List α) (k : Nat) (v w : α) : listSet (listSet l k v) k w = listSet l k w := by
  simp [listSet_eq_set]

theorem length_listSet (l : List α) (k : Nat) (v : α) : (listSet l k v).length = l.length := by
  simp [listSet_eq_set]

theorem getD_listSet_same {l : List α} {k : Nat} (h : k < l.length) (v d : α) : (listSet l k v).getD k d = v := by
  simp [listSet_eq_set, h]

end

section
variable {s : State}

/-! The next message (R248). -/

theorem earliest_head {e : CrushNext} {l : List CrushNext} (h : ∀ v ∈ l, e.work.seq < v.work.seq) : earliest (e :: l) = some e := by
  have hfold : ∀ l : List CrushNext, (∀ v ∈ l, e.work.seq < v.work.seq) → l.foldl (fun o v => match o with
      | none => some v
      | some b => if v.work.seq < b.work.seq then some v else some b) (some e) = some e := by
    intro l
    induction l with
    | nil => exact fun _ => rfl
    | cons v l ih =>
      intro h
      obtain ⟨hv, hl⟩ := List.forall_mem_cons.mp h
      rw [List.foldl_cons]
      dsimp only
      rw [if_neg (by omega)]
      exact ih hl
  exact hfold l h

theorem nextMessage_listed {w : CrushWork} {r : List CrushWork} (hw : s.crush.work = w :: r) (hr : ∀ v ∈ r, w.seq < v.seq)
    (hh : s.hewerHeads = []) : s.nextMessage = some (.listed w) := by
  rw [State.nextMessage, State.waiting, hw, hh, List.append_nil, List.map_cons]
  refine earliest_head fun v hv => ?_
  obtain ⟨u, hu, rfl⟩ := List.mem_map.mp hv
  exact hr u hu

theorem dropMessage_image {w : CrushWork} {r : List CrushWork} (hw : s.crush.work = w :: r) (hr : ∀ v ∈ r, w.seq < v.seq) (hk : w.kind = 2) :
    dropMessage s (.listed w) = { s with crush := { s.crush with work := r } } := by
  have hf : s.crush.work.filter (fun v => v.seq != w.seq) = r := by
    rw [hw, List.filter_cons_of_neg (by simp), List.filter_eq_self]
    exact fun v hv => by simpa using Nat.ne_of_gt (hr v hv)
  unfold dropMessage
  dsimp only
  rw [hf, hk]
  rfl

theorem setTpls_of_no_twin {m : Nat} (h : (s.map m).twin = none) (b : Option Nat) : setTpls s m b = s :=
  if_pos (by simp [h])

/-- The only signal of a map, of a source whose message came (R251, R255). -/
theorem decodeOne_only {m i : Nat} {w : CrushWork} {g : Signal} (h : (s.map m).signals = [g]) (hg : g.source = i) (p : Nat) :
    decodeOne s m i 0 w p false =
      if g.fits w.payload.length then
        (((s.setMap m { s.map m with signals := [(g.decode p).1] }).count cDecodes m).countIf (g.decode p).2 cSat (satSignal m 0), false)
      else (s, true) := by
  unfold decodeOne
  dsimp only
  rw [h, List.getD_cons_zero, if_neg (not_not_intro hg)]
  cases g.fits w.payload.length <;> rfl

/-- What a message of an image segment leaves of a map of one signal without templates (R251). -/
theorem takeMessage_image {m i : Nat} {w : CrushWork} {g : Signal} (hk : w.kind = 2) (hg : g.source = i)
    (hs : (s.map m).signals = [g]) (ht : (s.map m).tpls = []) (htw : (s.map m).twin = none) :
    let x1 := { s.map m with
      sources := listSet (s.map m).sources i { (s.map m).sources.getD i {} with lastAt := s.lt, stale := false, img := w.cycle }
      overRaised := false, staleRaised := false }
    takeMessage s m i w false =
      if g.fits w.payload.length then
        ((s.setMap m { x1 with signals := [(g.decode (leNat w.payload)).1] }).count cDecodes m).countIf (g.decode (leNat w.payload)).2 cSat (satSignal m 0)
      else (s.setMap m x1).count cShortMsg m := by
  intro x1
  have hone := decodeOne_only (s := s.setMap m x1) (m := m) (i := i) (w := w) (g := g) (by rw [State.setMap_map_same]; exact hs) hg
    (leNat w.payload)
  rw [State.setMap_map_same, State.setMap_setMap] at hone
  have hrange : List.range (s.map m).signals.length = [0] := by rw [hs]; rfl
  have hnone : List.range (s.map m).tpls.length = [] := by rw [ht]; rfl
  unfold takeMessage
  dsimp only
  rw [if_pos hk, setTpls_of_no_twin htw, ite_self, hrange, hnone, List.foldl_cons, List.foldl_nil]
  dsimp only [forEach, List.foldl_nil]
  refine Eq.trans (congrArg (fun a : State × Bool => setTpls (a.1.countIf (false || a.2) cShortMsg m) m none) hone) ?_
  split
  · exact setTpls_of_no_twin (by rw [State.countIf_map, State.countIf_map, State.count_map, State.setMap_map_same]; exact htw) _
  · exact setTpls_of_no_twin (by rw [State.countIf_map, State.setMap_map_same]; exact htw) _

theorem crushReceive_next {e : CrushNext} (hcyc : s.cycleWork = []) (hper : s.periodicDue = []) (hnext : s.nextMessage = some e) :
    crushReceive s = serveMessage s e := by
  unfold crushReceive
  rw [hcyc, hper]
  dsimp only [earliest, forEach, List.foldl_nil]
  rw [hnext]

/-- Serving a message that one source of one map takes, while no image is assembled (R248, R263). -/
theorem crushReceive_one {w : CrushWork} {r : List CrushWork} {m i : Nat} (hw : s.crush.work = w :: r) (hr : ∀ v ∈ r, w.seq < v.seq)
    (hh : s.hewerHeads = []) (ht : s.takers w = [(m, i)]) (hk : w.kind = 2) (hin : s.lt < w.atLt + 10000000)
    (him : s.cycle.image.work = none) (hper : s.periodicDue = [])
    (hkeep : (takeMessage { s with crush := { s.crush with work := r } } m i w false).cycle = s.cycle) :
    crushReceive s = takeMessage { s with crush := { s.crush with work := r } } m i w false := by
  have hno {t : State} (h : t.cycle = s.cycle) : t.assembling = none := by rw [State.assembling, h, him]; rfl
  have hcyc : s.cycleWork = [] := if_pos (by rw [hno rfl]; rfl)
  have hout : ¬s.waitedOut w = true := by simpa [State.waitedOut] using hin
  rw [crushReceive_next hcyc hper (nextMessage_listed hw hr hh)]
  refine (if_neg hout).trans ?_
  dsimp only [CrushNext.work]
  rw [ht, dropMessage_image hw hr hk]
  dsimp only [forEach, List.foldl_cons, List.foldl_nil]
  rw [hno (t := { s with crush := { s.crush with work := r } }) rfl]
  rw [Option.isSome_none, Bool.false_and, hno hkeep]

/-- The message is given up by the one map that takes it (R248). -/
theorem crushOverrun_one {w : CrushWork} {r : List CrushWork} {m i : Nat} (hw : s.crush.work = w :: r) (hr : ∀ v ∈ r, w.seq < v.seq)
    (hh : s.hewerHeads = []) (hk : w.kind = 2) (hout : w.atLt + 10000000 ≤ s.lt) (ht : s.takers w = [(m, i)])
    (hraised : (s.map m).overRaised = true) :
    crushOverrun s = ({ s with crush := { s.crush with work := r } }.setMap m (s.map m)).count cMapOverrun m := by
  have hx : { s.map m with overRaised := true } = s.map m := by rw [← hraised]
  have hgone : s.waitedOut w = true := decide_eq_true hout
  unfold crushOverrun
  rw [nextMessage_listed hw hr hh]
  refine (if_pos hgone).trans ?_
  unfold overrunMessage
  dsimp only [CrushNext.work]
  rw [ht, dropMessage_image hw hr hk]
  show raiseIf ((State.setMap _ m { s.map m with overRaised := true }).count cMapOverrun m) (!(s.map m).overRaised) (srcDiag m) 2 0 = _
  rw [hx, hraised]
  rfl

/-! Templates (R260). -/

section
variable {m k : Nat} {t : Template}

theorem hasTpl_of (hen : (s.map m).enable = true) (hk : k < (s.map m).tpls.length) : (s.map m).hasTpl k = true := by
  simp [SigMap.hasTpl, hen, hk]

/-- A template whose time has come, of a map that holds it as `t`. -/
theorem trigTpl_of {n : Nat} {force : Bool} (ht : (s.map m).tpls.getD k {} = t) :
    trigTpl s m k n force = if t.tooSoon s.lt then
        s.setMap m { s.map m with
          tpls := listSet (s.map m).tpls k { t with heldBack := true, heldForce := (t.heldBack && t.heldForce) || force, heldN := n } }
      else emitTpl s m k n force := by
  unfold trigTpl
  dsimp only
  rw [ht]

theorem periodicTpl_due (ht : (s.map m).tpls.getD k {} = t) (hen : (s.map m).enable = true) (hk : k < (s.map m).tpls.length)
    (hrun : s.firmwareRuns = true) (htr : t.trigger = 2) (hp : t.period ≠ 0) (hdue : t.lastPer < s.work / (t.period * 1000)) :
    periodicTpl s m k = trigTpl (s.setMap m { s.map m with
      tpls := listSet (s.map m).tpls k { t with lastPer := s.work / (t.period * 1000) } }) m k s.cycle.last false := by
  unfold periodicTpl
  dsimp only
  rw [ht, hrun, hasTpl_of hen hk]
  exact if_pos (by simp [htr, hp, hdue])

theorem periodicTpl_idle (ht : (s.map m).tpls.getD k {} = t) (h : t.trigger ≠ 2 ∨ s.work / (t.period * 1000) ≤ t.lastPer) :
    periodicTpl s m k = s := by
  unfold periodicTpl
  dsimp only
  rw [ht]
  refine if_neg ?_
  simp only [Bool.and_eq_true, beq_iff_eq, decide_eq_true_eq, not_and, Nat.not_lt]
  exact fun h2 => h.resolve_left (not_not_intro h2.1.2)

theorem onChangePeriod_due {a : Nat} {l : List Byte} (ht : (s.map m).tpls.getD k {} = t) (hen : (s.map m).enable = true)
    (hk : k < (s.map m).tpls.length) (hrun : s.firmwareRuns = true) (htr : t.trigger = 3) (hp : t.period ≠ 0)
    (hl : t.lastSent = some (a, l)) (hdue : a + t.period * 1000 ≤ s.lt) :
    onChangePeriodTpl s m k = trigTpl s m k s.cycle.last true := by
  unfold onChangePeriodTpl
  dsimp only
  rw [ht, hrun, hasTpl_of hen hk, hl]
  exact if_pos (by simp [htr, hp, hdue])

theorem onChangePeriod_idle (ht : (s.map m).tpls.getD k {} = t) (h : t.trigger ≠ 3 ∨ t.period = 0 ∨ t.lastSent = none) :
    onChangePeriodTpl s m k = s := by
  unfold onChangePeriodTpl
  dsimp only
  rw [ht]
  refine if_neg ?_
  rcases h with h | h | h <;> simp [h]

theorem sendTpl_frame {n : Nat} {b : List Byte} (hkind : t.kind = 1) (htw : (s.map m).twin = none)
    (hacc : (s.chan (t.handle % 65536)).cfg.accepts (tplFrame t b) = true)
    (hfree : (s.chan (t.handle % 65536)).crush.find? (fun e => e.tpl == 16 * m + k) = none) :
    sendTpl s m k n t b = (true, s.setChan (t.handle % 65536) { s.chan (t.handle % 65536) with
      crush := (s.chan (t.handle % 65536)).crush ++ [{ tpl := 16 * m + k, frame := tplFrame t b, since := s.lt }] }) := by
  unfold sendTpl
  dsimp only
  rw [htw]
  dsimp only
  rw [if_pos hkind, if_pos hacc, crushPut, hfree]

/-- What a template that was sent leaves in its map (R260). -/
def sentTpl (s : State) (m k n : Nat) (t : Template) (b : List Byte) : State :=
  lateTpl ((s.setMap m { s.map m with tpls := listSet (s.map m).tpls k { t with lastSent := some (s.lt, b) } }).count cEmitted (16 * m + k)) m k n t

/-- What an emission makes of the answer of its destination (R260). -/
def tplAnswered (m k n : Nat) (t : Template) (b : List Byte) : Bool × State → State
  | (false, s) => s
  | (true, s) => sentTpl s m k n t b

/-- An emission of a template whose fields saturate nowhere (R260). -/
theorem emitTpl_unsaturated {n : Nat} {force : Bool} (ht : (s.map m).tpls.getD k {} = t) (hsat : (buildTpl (s.map m) t).2.2 = [])
    (htw : (s.map m).twin = none) (htr : t.trigger ≠ 3) :
    let b := (buildTpl (s.map m) t).1
    let t1 : Template := { (buildTpl (s.map m) t).2.1 with heldBack := false, heldForce := false }
    emitTpl s m k n force = tplAnswered m k n t1 b (sendTpl ((s.count cEncodes m (encodedIn (s.map m) t1)).setMap m {
      s.map m with tpls := listSet (s.map m).tpls k t1 }) m k n t1 b) := by
  intro b t1
  have hfor : (s.map m).forTpl t n = s.map m := by simp [SigMap.forTpl, htw]
  unfold emitTpl
  dsimp only
  rw [ht, hfor, hsat]
  refine (if_neg ?_).trans rfl
  simp only [Bool.and_eq_true, beq_iff_eq]
  exact fun h => htr h.1.1

/-- A template that reaches the crusher path of its channel for the first time (R261). -/
theorem emitTpl_frame {n : Nat} {force : Bool} (ht : (s.map m).tpls.getD k {} = t) (hsat : (buildTpl (s.map m) t).2.2 = [])
    (hkind : t.kind = 1) (htw : (s.map m).twin = none) (htr : t.trigger ≠ 3)
    (hacc : (s.chan (t.handle % 65536)).cfg.accepts (tplFrame t (buildTpl (s.map m) t).1) = true)
    (hfree : (s.chan (t.handle % 65536)).crush.find? (fun e => e.tpl == 16 * m + k) = none) :
    emitTpl s m k n force = (((s.count cEncodes m (encodedIn (s.map m) (buildTpl (s.map m) t).2.1)).setMap m {
      s.map m with
      tpls := listSet (s.map m).tpls k { (buildTpl (s.map m) t).2.1 with
        heldBack := false, heldForce := false, lastSent := some (s.lt, (buildTpl (s.map m) t).1) } }).count cEmitted (16 * m + k)).setChan
          (t.handle % 65536) { s.chan (t.handle % 65536) with
            crush := (s.chan (t.handle % 65536)).crush ++ [{ tpl := 16 * m + k, frame := tplFrame t (buildTpl (s.map m) t).1, since := s.lt }] } := by
  let b := (buildTpl (s.map m) t).1
  let t1 : Template := { (buildTpl (s.map m) t).2.1 with heldBack := false, heldForce := false }
  let s1 := s.count cEncodes m (encodedIn (s.map m) t1)
  let s2 := s1.setMap m { s.map m with tpls := listSet (s.map m).tpls k t1 }
  have hmap : s2.map m = { s.map m with tpls := listSet (s.map m).tpls k t1 } := State.setMap_map_same ..
  have hsend := sendTpl_frame (s := s2) (m := m) (k := k) (n := n) (t := t1) (b := b) hkind (by rw [hmap]; exact htw) hacc hfree
  rw [emitTpl_unsaturated ht hsat htw htr]
  refine (congrArg (tplAnswered m k n t1 b) hsend).trans ?_
  show sentTpl _ m k n t1 b = _
  rw [sentTpl, State.setChan_map, hmap, listSet_listSet, lateTpl]
  refine (if_neg ?_).trans ?_
  · exact fun h => absurd (h.1.symm.trans hkind) (by decide)
  · exact congrArg (fun v : State => (v.count cEmitted (16 * m + k)).setChan (t.handle % 65536) { s.chan (t.handle % 65536) with
      crush := (s.chan (t.handle % 65536)).crush ++ [{ tpl := 16 * m + k, frame := tplFrame t b, since := s.lt }] }) (State.setMap_setMap ..)

end

end

/-- Settles O37, clause by clause. -/
theorem crusherEvents : Obligations.CrusherEvents := by
  unfold Obligations.CrusherEvents
  refine ⟨fun s hstop => ?stopped, fun s w r m i g => ?served, fun s w r hw hr hh hk => ?overrun, fun s m i hm => ?stale,
    fun s m k t hm => ?templates⟩
  case stopped => exact congrArg _ (if_neg (by rw [hstop]; decide))
  case served =>
    intro x e y u x1 hrun hw hr hh ht hk hin him hper hsig hg htpl htw
    have htake := takeMessage_image (s := u) (m := m) hk hg hsig htpl htw
    dsimp only at htake
    have hkeep : (takeMessage u m i w false).cycle = s.cycle := by
      rw [htake]
      split
      · rw [State.countIf_cycle]
        rfl
      · rfl
    have hserve : exec .crushReception s = .next (takeMessage u m i w false) :=
      congrArg _ ((if_pos hrun).trans (crushReceive_one hw hr hh ht hk hin him hper hkeep))
    exact ⟨fun hf => hserve.trans (congrArg _ (htake.trans (if_pos hf))),
      fun hf => hserve.trans (congrArg _ (htake.trans (if_neg (Bool.eq_false_iff.mp hf))))⟩
  case overrun =>
    refine ⟨fun hin => congrArg Host.Outcome.next ?_, fun m i hout ht hraised => congrArg _ (crushOverrun_one hw hr hh hk hout ht hraised)⟩
    have hwait : ¬s.waitedOut w = true := by simpa [State.waitedOut] using hin
    unfold crushOverrun
    rw [nextMessage_listed hw hr hh]
    exact if_neg hwait
  case stale =>
    intro x e u
    refine ⟨fun hen hi hto hst hdue => ?_, fun h => (if_pos hm).trans (congrArg _ (if_neg ?_))⟩
    · have hrun : exec (.crushStale m i) s = .next (raiseIf u (!x.staleRaised) (srcDiag m) 1 0) :=
        (if_pos hm).trans (congrArg _ (if_pos (by
          simp only [Bool.and_eq_true, decide_eq_true_eq, bne_iff_ne, Bool.not_eq_true']
          exact ⟨⟨⟨⟨hen, hi⟩, hto⟩, hst⟩, hdue⟩)))
      exact ⟨fun h => hrun.trans (by rw [h]; rfl), fun h => hrun.trans (by rw [h]; rfl)⟩
    · simp only [Bool.and_eq_true, decide_eq_true_eq, bne_iff_ne, Bool.not_eq_true']
      rintro ⟨⟨⟨⟨hen, -⟩, hto⟩, hst⟩, hdue⟩
      rcases h with h | h | h | h
      · exact absurd (hen.symm.trans h) (by decide)
      · exact hto h
      · exact absurd (hst.symm.trans h) (by decide)
      · exact absurd hdue (Nat.not_le.mpr h)
  case templates =>
    intro x n u ht hen hk hrun
    have hu : (u.map m) = { x with tpls := listSet x.tpls k { t with lastPer := n } } := State.setMap_map_same ..
    have hut : (u.map m).tpls.getD k {} = { t with lastPer := n } := by
      rw [hu]
      exact getD_listSet_same hk _ _
    refine ⟨fun htr hp hdue hsoon => ?_, fun htr hp hdue hsoon => ?_, fun h => (if_pos hm).trans (congrArg _ (periodicTpl_idle ht h)),
      fun hb hsoon => ?_, fun h => ?_, fun a l htr hp hl hdue => ⟨fun hsoon => ?_, fun hsoon => ?_⟩,
      fun h => (if_pos hm).trans (congrArg _ (onChangePeriod_idle ht h)),
      fun n' force hsat hkind htw htr hacc hfree => emitTpl_frame ht hsat hkind htw htr hacc hfree⟩
    · exact (if_pos hm).trans (congrArg _ ((periodicTpl_due ht hen hk hrun htr hp hdue).trans
        ((trigTpl_of hut).trans (if_neg (Bool.eq_false_iff.mp hsoon)))))
    · refine (if_pos hm).trans (congrArg _ ((periodicTpl_due ht hen hk hrun htr hp hdue).trans ((trigTpl_of hut).trans ((if_pos hsoon).trans ?_))))
      rw [hu, State.setMap_setMap, listSet_listSet, Bool.or_false]
    · refine (if_pos hm).trans (congrArg _ ?_)
      unfold minGapTpl
      dsimp only
      rw [show (s.map m).tpls.getD k {} = t from ht, hrun, hasTpl_of hen hk, hb, hsoon]
      rfl
    · refine (if_pos hm).trans (congrArg _ ?_)
      unfold minGapTpl
      dsimp only
      rw [show (s.map m).tpls.getD k {} = t from ht]
      refine if_neg ?_
      rcases h with h | h <;> simp [h]
    · exact (if_pos hm).trans (congrArg _ ((onChangePeriod_due ht hen hk hrun htr hp hl hdue).trans
        ((trigTpl_of ht).trans (if_neg (Bool.eq_false_iff.mp hsoon)))))
    · refine (if_pos hm).trans (congrArg _ ((onChangePeriod_due ht hen hk hrun htr hp hl hdue).trans
        ((trigTpl_of ht).trans ((if_pos hsoon).trans ?_))))
      rw [Bool.or_true]

end Sys2Proof.Machine

/-!
SUPPORT and O38 (R267 to R273, R298).
-/
namespace Sys2Proof.Machine

section
variable {s : State} {p : Nat}

/-! Pads (R267, R272). -/

theorem padDriven_eq : s.padDriven p =
    if (s.pin p).out = true ∧ (s.bank (p / 16)).present = true ∧ ¬((s.pin p).cfg.od = true ∧ (s.pin p).level = true) then some (s.pin p).level
    else none := by
  unfold State.padDriven
  refine ite_congr (propext ?_) (fun _ => rfl) (fun _ => rfl)
  rw [Bool.and_eq_true, Bool.and_eq_true, Bool.not_eq_true', ← Bool.not_eq_true, Bool.and_eq_true, and_assoc]

theorem showPad_eq (s : State) (p : Nat) : showPad s p =
    if (s.pin p).out = true ∧ (s.bank (p / 16)).present = true ∧ ¬((s.pin p).cfg.od = true ∧ (s.pin p).level = true) ∧
        (s.pin p).raw ≠ (s.pin p).level then
      s.setPin p { s.pin p with raw := (s.pin p).level, selfAt := some s.edgeNext }
    else s := by
  unfold showPad
  rw [padDriven_eq]
  by_cases hd : (s.pin p).out = true ∧ (s.bank (p / 16)).present = true ∧ ¬((s.pin p).cfg.od = true ∧ (s.pin p).level = true)
  · rw [if_pos hd]
    by_cases hr : (s.pin p).raw = (s.pin p).level
    · rw [if_neg (fun h => h.2.2.2 hr)]
      exact if_pos hr
    · rw [if_pos ⟨hd.1, hd.2.1, hd.2.2, hr⟩]
      exact if_neg hr
  · rw [if_neg hd, if_neg (fun h => hd ⟨h.1, h.2.1, h.2.2.1⟩)]

theorem putLevel_eq (s : State) (p : Nat) (l dir : Bool) :
    let x := { s.pin p with level := l, out := dir }
    putLevel s p l dir = s.setPin p (if dir = true ∧ (s.bank (p / 16)).present = true ∧ ¬(x.cfg.od = true ∧ l = true) ∧ x.raw ≠ l
      then { x with raw := l, selfAt := some s.edgeNext } else x) := by
  intro x
  rw [putLevel, showPad_eq, State.setPin_pin_same, State.setPin_setPin]
  exact (apply_ite (s.setPin p) _ _ _).symm

theorem drivePin_first {kind : Nat} {l dir : Bool} (h : (s.pin p).lastAct = none) :
    drivePin s kind p l dir = putLevel (s.setPin p { s.pin p with lastAct := some (s.work, kind) }) p l dir := by
  unfold drivePin
  rw [h]

/-! The input path (R269, R271). -/

theorem filtChange_same {lvl : Bool} (h : (s.pin p).filt = lvl) : filtChange s p lvl = s := if_pos h

theorem padEdge_long {lvl : Bool} {width : Nat} (hpres : (s.bank (p / 16)).present = true) (hw : ((s.pin p).cfg.glitch + 1) * 25 ≤ width) :
    padEdge s p lvl width = filtChange (s.setPin p { s.pin p with raw := lvl, selfAt := none }) p lvl := by
  unfold padEdge
  dsimp only
  rw [hpres, Bool.and_true, State.setPin_pin_same]
  exact if_pos hw

theorem padEdge_short {lvl : Bool} {width : Nat} (hpres : (s.bank (p / 16)).present = true) (hg : 1 ≤ (s.pin p).cfg.glitch)
    (hw : width ≤ (s.pin p).cfg.glitch * 25) : padEdge s p lvl width = s.setPin p { s.pin p with raw := lvl, selfAt := none } := by
  have hno : ¬width ≥ ((s.pin p).cfg.glitch + 1) * 25 := by omega
  unfold padEdge
  dsimp only
  rw [hpres, Bool.and_true, State.setPin_pin_same]
  exact (if_neg hno).trans (if_pos ⟨hg, hw⟩)

theorem actTimed_onTime {i : Nat} {l dir : Bool} (h : (s.pin p).timed = some (i, l, dir)) : actTimed s p false =
    if s.hewerHeld p then (s.setPin p { s.pin p with timed := none }).count cPinConflict p
    else drivePin (s.setPin p { s.pin p with timed := none }) 1 p l dir := by
  unfold actTimed
  rw [h]
  rfl

theorem debChange_quiet {lvl : Bool} (h : (s.pin p).filt = lvl) (hd : (s.pin p).filt ≠ (s.pin p).deb)
    (hev : edgeSel (s.pin p).cfg.edgeEv lvl = false) (hn : (s.pin p).count < 0xFFFFFFFE) (hlow : lvl = (s.pin p).cfg.activeLow) :
    debChange s p lvl = s.setPin p { s.pin p with
      deb := lvl, count := if edgeSel (s.pin p).cfg.countEdge lvl then (s.pin p).count + 1 else (s.pin p).count, stuckArmed := true } := by
  have hne : ¬(s.pin p).deb = lvl := fun hb => hd (h.trans hb.symm)
  have hcnt : (edgeSel (s.pin p).cfg.countEdge lvl && decide ((s.pin p).count < 0xFFFFFFFF)) = edgeSel (s.pin p).cfg.countEdge lvl := by
    rw [decide_eq_true (by omega), Bool.and_true]
  have hsat : (edgeSel (s.pin p).cfg.countEdge lvl &&
      (if edgeSel (s.pin p).cfg.countEdge lvl then (s.pin p).count + 1 else (s.pin p).count) == 0xFFFFFFFF && (s.pin p).satArmed) = false := by
    have hlt : (if edgeSel (s.pin p).cfg.countEdge lvl then (s.pin p).count + 1 else (s.pin p).count) ≠ 0xFFFFFFFF := by split <;> omega
    rw [beq_false_of_ne hlt, Bool.and_false, Bool.false_and]
  have hact : ¬({ s.pin p with
      deb := lvl, count := if edgeSel (s.pin p).cfg.countEdge lvl then (s.pin p).count + 1 else (s.pin p).count } : Pin).active = true := by
    simp [Pin.active, hlow]
  unfold debChange
  dsimp only
  rw [if_neg hne, hcnt, hsat, Bool.not_false, Bool.and_true, if_neg hact]
  dsimp only
  rw [hev]
  rfl

/-! The bank supply (R267). -/

/-- What the pads show: of each pin its level on the ball, the level and the direction driven, and of each bank its supply. -/
def State.padView (s : State) : (Nat → Bool × Bool × Bool) × (Nat → Bank) :=
  (fun p => ((s.pin p).raw, (s.pin p).level, (s.pin p).out), s.bank)

theorem padView_of_kept {t : State} (h : t.kept = s.kept) : t.padView = s.padView := by
  have hf : t.field = s.field := congrArg (fun k : Kept => k.rest.field) h
  have hb : t.boot = s.boot := congrArg (fun k : Kept => k.rest.boot) h
  exact Prod.ext (funext fun p => by simp only [State.padView, State.pin, hf, hb]) (funext fun b => by simp only [State.padView, State.bank, hf])

theorem padView_setPin {x : Pin} (h : (x.raw, x.level, x.out) = ((s.pin p).raw, (s.pin p).level, (s.pin p).out)) :
    (s.setPin p x).padView = s.padView := by
  refine Prod.ext (funext fun q => ?_) rfl
  by_cases hq : q = p
  · subst hq
    simpa [State.padView] using h
  · simp [State.padView, hq]

theorem padView_debChange (lvl : Bool) : (debChange s p lvl).padView = s.padView := by
  unfold debChange
  dsimp only
  split
  · rfl
  · rw [padView_of_kept (kept_raiseIf ..), padView_of_kept (kept_raiseIf ..)]
    refine padView_setPin ?_
    repeat' split
    all_goals rfl

theorem padView_filtChange (lvl : Bool) : (filtChange s p lvl).padView = s.padView := by
  unfold filtChange
  dsimp only
  split
  · rfl
  · split
    · rw [padView_debChange]
      exact padView_setPin rfl
    · exact padView_setPin rfl

/-- One pin whose bank loses its supply (R267). -/
def pinFloats (p : Nat) (s : State) : State := filtChange (s.setPin p { s.pin p with raw := false, selfAt := none }) p false

theorem padView_pinFloats (q : Nat) : (pinFloats p s).padView.1 q = (if q = p then false else (s.pin q).raw, (s.pin q).level, (s.pin q).out) ∧
    (pinFloats p s).padView.2 = s.bank := by
  rw [pinFloats, padView_filtChange]
  refine ⟨?_, rfl⟩
  by_cases hq : q = p
  · subst hq
    simp [State.padView]
  · simp [State.padView, hq]

theorem forEach_pinFloats (l : List Nat) (q : Nat) : ∀ s : State, (forEach l s pinFloats).padView.1 q =
    (if q ∈ l then false else (s.pin q).raw, (s.pin q).level, (s.pin q).out) ∧ (forEach l s pinFloats).padView.2 = s.bank := by
  induction l with
  | nil => exact fun s => ⟨rfl, rfl⟩
  | cons p l ih =>
    intro s
    obtain ⟨hpin, hbank⟩ := padView_pinFloats (s := s) (p := p) q
    obtain ⟨hpins, hbanks⟩ := ih (pinFloats p s)
    simp only [State.padView, Prod.mk.injEq] at hpin hpins hbank hbanks
    refine ⟨?_, hbanks.trans hbank⟩
    show ((forEach l (pinFloats p s) pinFloats).padView).1 q = _
    simp only [State.padView, Prod.mk.injEq, hpins, hpin, List.mem_cons]
    refine ⟨?_, trivial⟩
    by_cases hq : q = p <;> by_cases hl : q ∈ l <;> simp [hq, hl]

theorem mem_bankPins {b : Nat} (h : p / 16 = b) : p ∈ bankPins b :=
  List.mem_map.mpr ⟨p % 16, List.mem_range.mpr (Nat.mod_lt _ (by decide)), by omega⟩

theorem bankPins_nodup (b : Nat) : (bankPins b).Nodup :=
  List.pairwise_map.mpr (List.nodup_range.imp fun hne he => hne (Nat.add_left_cancel he))

theorem showPad_proj {β : Type} {g : State → β} (h : ∀ (s : State) p x, g (s.setPin p x) = g s) (p : Nat) (s : State) :
    g (showPad s p) = g s := by
  rw [showPad_eq]
  split
  · exact h ..
  · rfl

theorem pin_showPad_ne {q : Nat} (h : q ≠ p) (s : State) : (showPad s p).pin q = s.pin q := by
  rw [showPad_eq]
  split
  · exact State.setPin_pin_ne _ _ _ h
  · rfl

theorem pin_showPad_same (s : State) (p : Nat) : (showPad s p).pin p =
    if (s.pin p).out = true ∧ (s.bank (p / 16)).present = true ∧ ¬((s.pin p).cfg.od = true ∧ (s.pin p).level = true) ∧
        (s.pin p).raw ≠ (s.pin p).level then
      { s.pin p with raw := (s.pin p).level, selfAt := some s.edgeNext }
    else s.pin p := by
  rw [showPad_eq]
  split
  · exact State.setPin_pin_same ..
  · rfl

/-- Showing each pad of a list once shows each by what it was before. -/
theorem pin_forEach_showPad {l : List Nat} {q : Nat} : ∀ s : State, l.Nodup → q ∈ l →
    (forEach l s fun p s => showPad s p).pin q = (showPad s q).pin q := by
  induction l with
  | nil => exact fun _ _ h => absurd h List.not_mem_nil
  | cons p l ih =>
    intro s hnd hq
    obtain ⟨hp, hl⟩ := List.nodup_cons.mp hnd
    have hstep : (forEach (p :: l) s fun p s => showPad s p) = forEach l (showPad s p) fun p s => showPad s p := rfl
    rw [hstep]
    rcases List.mem_cons.mp hq with rfl | hmem
    · have hrest : ∀ (l : List Nat) (s : State), q ∉ l → (forEach l s fun p s => showPad s p).pin q = s.pin q := by
        intro l
        induction l with
        | nil => exact fun _ _ => rfl
        | cons a l ih =>
          intro s h
          obtain ⟨ha, hl⟩ := not_or.mp (mt List.mem_cons.mpr h)
          exact (ih (showPad s a) hl).trans (pin_showPad_ne ha s)
      exact hrest l _ hp
    · have hne : q ≠ p := fun h => hp (h ▸ hmem)
      rw [ih _ hl hmem, pin_showPad_same, pin_showPad_same, pin_showPad_ne hne, showPad_proj (g := fun s => s.bank (q / 16)) fun _ _ _ => rfl,
        showPad_proj (g := State.edgeNext) fun _ _ _ => rfl]

end

section
variable {b mv src : Nat}

/-- A bank without supply, its pins floating (R267). -/
def bankLost (s : State) (b src : Nat) : State :=
  raise (forEach (bankPins b) (s.setBank b { s.bank b with present := false, mv := 0 }) pinFloats) src 1 0

theorem padView_bankLost (q : Nat) : (bankLost s b src).padView.1 q =
    (if q ∈ bankPins b then false else (s.pin q).raw, (s.pin q).level, (s.pin q).out) ∧
    (bankLost s b src).padView.2 = (s.setBank b { s.bank b with present := false, mv := 0 }).bank := by
  rw [show (bankLost s b src).padView = _ from padView_of_kept (kept_raise ..)]
  exact forEach_pinFloats (bankPins b) q _

theorem bank_bankLost : ((bankLost s b src).bank b).present = false := by
  rw [show (bankLost s b src).bank = _ from (padView_bankLost 0).2, State.setBank_bank_same]

theorem pin_bankLost (h : p / 16 = b) : ((bankLost s b src).pin p).raw = false ∧ ((bankLost s b src).pin p).level = (s.pin p).level ∧
    ((bankLost s b src).pin p).out = (s.pin p).out := by
  have hpin := (padView_bankLost (s := s) (b := b) (src := src) p).1
  rw [if_pos (mem_bankPins h)] at hpin
  exact ⟨congrArg Prod.fst hpin, congrArg (fun v => v.2.1) hpin, congrArg (fun v => v.2.2) hpin⟩

theorem padDriven_bankLost (h : p / 16 = b) : (bankLost s b src).padDriven p = none := by
  rw [padDriven_eq, h, bank_bankLost]
  exact if_neg fun h => absurd h.2.1 Bool.false_ne_true

/-- A bank with its supply back, its pads showing what they drive (R267). -/
def bankReturned (s : State) (b mv : Nat) : State :=
  forEach (bankPins b) (s.setBank b { s.bank b with present := true, mv := mv }) (fun p s => showPad s p)

theorem bank_bankReturned : (bankReturned s b mv).bank b = { s.bank b with present := true, mv := mv } :=
  (forEach_proj (g := fun s => s.bank b) (showPad_proj (g := fun s => s.bank b) fun _ _ _ => rfl) _ _).trans (State.setBank_bank_same ..)

theorem hewers_showPad (p : Nat) (s : State) : (showPad s p).field.hewers = s.field.hewers := by
  rw [showPad_eq]
  split <;> rfl

theorem hewers_bankReturned : (bankReturned s b mv).field.hewers = s.field.hewers := by
  have h (s : State) := forEach_proj (g := fun s : State => s.field.hewers) (f := fun p s => showPad s p) hewers_showPad (bankPins b) s
  rw [bankReturned]
  exact (h _).trans rfl

theorem pin_bankReturned (h : p / 16 = b) (hout : (s.pin p).out = true) (hod : (s.pin p).cfg.od = false) : (bankReturned s b mv).pin p =
    if (s.pin p).raw ≠ (s.pin p).level then { s.pin p with raw := (s.pin p).level, selfAt := some s.edgeNext } else s.pin p := by
  rw [bankReturned, pin_forEach_showPad _ (bankPins_nodup b) (mem_bankPins h), pin_showPad_same, h, State.setBank_bank_same, State.setBank_pin,
    show (s.setBank b { s.bank b with present := true, mv := mv }).edgeNext = s.edgeNext from rfl]
  by_cases hr : (s.pin p).raw = (s.pin p).level
  · rw [if_neg (fun h => h.2.2.2 hr), if_neg (not_not_intro hr)]
  · rw [if_pos ⟨hout, rfl, by simp [hod], hr⟩, if_pos hr]

end

theorem bankReading_eq (k : Bank) : (if !k.present then 0 else bankReading k.mv) =
    if k.present = false ∨ k.mv ≤ 1550 then 0 else if k.mv ≥ 2500 then 2 else 1 := by
  cases hp : k.present
  · rfl
  · by_cases hlo : k.mv ≤ 1550
    · simp [bankReading, hlo]
    · by_cases hhi : k.mv < 2500
      · simp [bankReading, hlo, hhi]
      · simp [bankReading, hlo, hhi]

/-- Settles O38, clause by clause. -/
theorem pinCommandsAndEvents : Obligations.PinCommandsAndEvents := by
  unfold Obligations.PinCommandsAndEvents
  refine ⟨fun d s p => ?commands, fun p s lvl width hp => ?events, fun p s l dir => putLevel_eq s p l dir, fun p s g => ?restart,
    fun s w hw => ?reach, fun b mv s hb => ?supply⟩
  case commands =>
    intro t c x hl ho
    refine ⟨fun n h hn hpull h7 h21 hms => ?cfg, fun h h3 => ?badCfg, fun h h16 hr => ?read, fun h h16 hmask hheld => ?write, fun h h16 hmask hheld => ?held,
      fun h hb hsec hns => ?timed, fun h => ?clear⟩
    case cfg =>
      intro y
      have hok : (n.pull != 3 && !bitAt (c.u 16 8) 7 && bitsAt (c.u 16 8) 21 11 == 0 && n.stuckMs != 0) = true := by
        simp [hpull, h7, h21, hms]
      have hact : (n.stuckEn && !x.cfg.stuckEn) = decide (n.stuckEn = true ∧ x.cfg.stuckEn = false) := by
        cases n.stuckEn <;> cases x.cfg.stuckEn <;> rfl
      have hbody : bodyPinCfg c t = okS (if n.glitch ≠ x.cfg.glitch then restartInput y p true
          else if n.debounce ≠ x.cfg.debounce then restartInput y p false else y) := by
        rw [bodyPinCfg, handle_of_localRes hl]
        dsimp only
        rw [← hn, chk_of hok, ownRes_of_free_class ho, show (n.stuckEn && !(t.pin p).cfg.stuckEn) = _ from hact]
        simp only [decide_eq_true_eq] <;> rfl
      refine ⟨fun hg hdb => cmdRow_ok bodyPinCfg h (hbody.trans ?_), fun hg => cmdRow_ok bodyPinCfg h (hbody.trans ?_),
        fun hg hdb => cmdRow_ok bodyPinCfg h (hbody.trans ?_)⟩
      · rw [if_neg (not_not_intro hg), if_neg (not_not_intro hdb)]; rfl
      · rw [if_pos hg]; rfl
      · rw [if_neg (not_not_intro hg), if_pos hdb]; rfl
    case badCfg =>
      refine cmdRow_fail bodyPinCfg h ?_
      rw [bodyPinCfg, handle_of_localRes hl]
      have hpull : ((pinCfgOf (c.u 16 8)).pull != 3) = false := by simp [pinCfgOf, h3]
      show chk ((pinCfgOf (c.u 16 8)).pull != 3 && _ && _ && _) stBadParam _ = _
      rw [hpull]
      rfl
    case read =>
      refine cmdRow_ok bodyPinRead h (?_ : bodyPinRead c t = _)
      rw [bodyPinRead, handle_of_localRes hl]
      dsimp only
      rw [chk_of (beq_iff_eq.mpr h16), readRes, if_pos (show t.mayRead c.p 3 p = true from hr), bankReading_eq]
    case write =>
      refine cmdRow_ok bodyPinWrite h (?_ : bodyPinWrite c t = _)
      have hmask' : maskList 16 (c.u 12 2) = [0] := hmask
      have ho' : t.owns c.p 3 (p + 0) = true := ho
      have hheld' : t.hewerHeld (p + 0) = false := hheld
      rw [bodyPinWrite, handle_of_localRes hl]
      dsimp only
      rw [hmask', chk_of (beq_iff_eq.mpr h16), List.map_singleton, List.all_cons, List.all_nil, ho', Bool.and_true, chk_true,
        List.all_cons, List.all_nil, hheld']
      dsimp only [forEach, List.foldl_cons, List.foldl_nil, Nat.add_zero]
      rw [h16]
      rfl
    case held =>
      refine cmdRow_fail bodyPinWrite h (?_ : bodyPinWrite c t = _)
      have hmask' : maskList 16 (c.u 12 2) = [0] := hmask
      have ho' : t.owns c.p 3 (p + 0) = true := ho
      have hheld' : t.hewerHeld (p + 0) = true := hheld
      rw [bodyPinWrite, handle_of_localRes hl]
      dsimp only
      rw [hmask', chk_of (beq_iff_eq.mpr h16), List.map_singleton, List.all_cons, List.all_nil, ho', Bool.and_true, chk_true,
        List.all_cons, List.all_nil, hheld']
      rfl
    case timed =>
      have hbody : bodyPinTimed c t = if bitAt (c.u 12 1) 7 then okS (t.setPin p { x with timed := none })
          else
            let v := t.setPin p { x with timed := some (c.u 16 8 * 1000000000 + c.u 24 4, bitAt (c.u 12 1) 0, bitAt (c.u 12 1) 1) }
            okS (if c.u 16 8 * 1000000000 + c.u 24 4 < v.work + 50 then actTimed (v.count cTimedLate p) p true else v) := by
        rw [bodyPinTimed, handle_of_localRes hl]
        dsimp only
        rw [chk_of (by rw [show bitsAt (c.u 12 1) 2 5 = 0 from hb, decide_eq_true (show c.u 16 8 < 2 ^ 48 from hsec),
          decide_eq_true (show c.u 24 4 < 1000000000 from hns)]; rfl), ownRes_of_free_class ho]
      refine ⟨fun h7 => cmdRow_ok bodyPinTimed h (hbody.trans (if_pos h7)), fun h7 hlate => cmdRow_ok bodyPinTimed h (hbody.trans
        ((if_neg (Bool.eq_false_iff.mp h7)).trans (congrArg okS (if_neg (Nat.not_lt.mpr hlate)))))⟩
    case clear =>
      refine cmdRow_ok bodyPinCountClear h (?_ : bodyPinCountClear c t = _)
      rw [bodyPinCountClear, handle_of_localRes hl, ownRes_of_free_class ho]
  case events =>
    intro x hpres
    have hfall : exec (.pinInputEdge p lvl width) s = .next (padEdge s p lvl width) := if_pos hp
    refine ⟨fun hg hwid => hfall.trans ?_, fun hwid hf => hfall.trans ?_, fun hwid hf hdb => hfall.trans ?_, fun hne hdue hev hn hlow => ?_, fun h => ?_,
      fun hen hact harm hdue => ?_, fun h => ?_, fun i l dir ht => ⟨fun hlt => ?_, fun hle hheld => ?_, fun hle hheld hlast => ?_⟩⟩
    · exact congrArg _ (padEdge_short hpres hg hwid)
    · exact congrArg _ ((padEdge_long hpres hwid).trans (filtChange_same (by rw [State.setPin_pin_same]; exact hf)))
    · refine congrArg _ ((padEdge_long hpres hwid).trans ?_)
      unfold filtChange
      dsimp only
      rw [State.setPin_pin_same, State.setPin_setPin]
      exact (if_neg hf).trans (if_neg hdb)
    · refine (if_pos hp).trans (congrArg _ ((if_pos ?_).trans (debChange_quiet rfl hne hev hn hlow)))
      simpa using ⟨hne, hdue⟩
    · refine (if_pos hp).trans (congrArg _ (if_neg ?_))
      rcases h with h | h
      · simp [show (s.pin p).filt = (s.pin p).deb from h]
      · simpa using fun _ => h
    · refine (if_pos hp).trans (congrArg _ (if_pos ?_))
      have hact' : x.active = true := by simpa [Pin.active] using hact
      show (x.cfg.stuckEn && x.active && x.stuckArmed && decide (x.activeAt + x.cfg.stuckMs * 1000000 ≤ s.lt)) = true
      rw [hen, hact', harm, decide_eq_true hdue]
      rfl
    · refine (if_pos hp).trans (congrArg _ (if_neg ?_))
      show ¬(x.cfg.stuckEn && x.active && x.stuckArmed && decide (x.activeAt + x.cfg.stuckMs * 1000000 ≤ s.lt)) = true
      rcases h with h | h | h
      · rw [h]
        exact Bool.false_ne_true
      · have hact' : x.active = false := by simpa [Pin.active] using h
        rw [hact', Bool.and_false]
        exact Bool.false_ne_true
      · rw [h, Bool.and_false]
        exact Bool.false_ne_true
    · refine (if_pos hp).trans (congrArg _ ?_)
      rw [show (s.pin p).timed = some (i, l, dir) from ht]
      exact if_neg (Nat.not_le.mpr hlt)
    · refine (if_pos hp).trans (congrArg _ ?_)
      rw [show (s.pin p).timed = some (i, l, dir) from ht]
      exact (if_pos hle).trans ((actTimed_onTime ht).trans (if_pos hheld))
    · refine (if_pos hp).trans (congrArg _ ?_)
      rw [show (s.pin p).timed = some (i, l, dir) from ht]
      refine (if_pos hle).trans ((actTimed_onTime ht).trans ((if_neg (Bool.eq_false_iff.mp hheld)).trans
        ((drivePin_first (by rw [State.setPin_pin_same]; exact hlast)).trans ?_)))
      rw [State.setPin_pin_same, State.setPin_setPin]
      rfl
  case restart =>
    intro x y
    have hy : y = (restartInput s p g).pin p := rfl
    unfold restartInput at hy
    dsimp only at hy
    rw [State.setPin_pin_same] at hy
    rw [hy]
    cases g
    · exact ⟨nofun, fun _ => rfl, rfl, rfl, rfl, rfl, rfl, rfl, rfl⟩
    · exact ⟨fun _ => rfl, nofun, rfl, rfl, rfl, rfl, rfl, rfl, rfl⟩
  case reach =>
    refine ⟨fun hheld => (if_pos hw).trans (if_pos hheld), fun l dir hheld hlast hl hdir => (if_pos hw).trans
      ((if_neg (Bool.eq_false_iff.mp hheld)).trans ((drivePin_first hlast).trans ?_))⟩
    rw [hl, hdir]
    rfl
  case supply =>
    refine ⟨fun habs => (if_pos hb).trans (congrArg _ (if_pos (by simp [habs]))),
      fun hpres => ⟨bankLost s b (srcDiag (316 + b)), (if_pos hb).trans (congrArg _ (if_neg (by simp [hpres]))), bank_bankLost,
        fun p hp => ⟨padDriven_bankLost hp, pin_bankLost hp⟩⟩,
      fun hlo => (if_pos hb).trans (congrArg _ (if_pos (if_pos hlo))),
      fun hhi => ⟨bankReturned s b mv, (if_pos hb).trans (congrArg _ (if_neg ?_)), bank_bankReturned, hewers_bankReturned, fun p hp hout hod => ?_⟩⟩
    · rw [bankReading, if_neg (Nat.not_le.mpr hhi)]
      split <;> decide
    · have hpin := pin_bankReturned (mv := mv) hp hout hod
      by_cases hr : (s.pin p).raw = (s.pin p).level
      · rw [if_neg (not_not_intro hr)] at hpin
        exact ⟨by rw [hpin, hr], fun h => absurd hr h, fun _ => hpin⟩
      · rw [if_pos hr] at hpin
        exact ⟨by rw [hpin], fun _ => hpin, fun h => absurd h hr⟩

end Sys2Proof.Machine

/-!
SUPPORT and O39 (R276 to R300).
-/
namespace Sys2Proof.Machine

section
variable {s t : State} {c : Cmd} {h : Nat}

theorem bodyHewerCfg_checked {n : HewerCfg} (hl : localRes s c.p (c.u 8 4) = some (2, h)) (ho : s.owns c.p 2 h = true)
    (hv : viewCfg (s.part c.p) (hewerCfgOf (c.bytes 16 32)) = some n) (hok : hewerCfgOk (c.bytes 16 32) = true)
    (hown : cfgOwned s c.p h n = true) (hrx : n.rxQueue ≠ 0xFFFF → (s.queue n.rxQueue).fwUse = 0)
    (htx : n.txQueue ≠ 0xFFFF → (s.queue n.txQueue).fwUse = 0) :
    bodyHewerCfg c s = chk ((s.hewer h).st == 0) stWrongState (chkSt (cfgBindStatus s h n) (okS (cfgBind s h n))) := by
  have hfree {q : Nat} (hq : q ≠ 0xFFFF → (s.queue q).fwUse = 0) : (q != 0xFFFF && s.fwHeld 5 q) = false := by
    by_cases h : q = 0xFFFF
    · simp [h]
    · simp [State.fwHeld, hq h]
  rw [bodyHewerCfg, handle_of_localRes hl]
  dsimp only
  rw [hv]
  dsimp only
  rw [chk_of hok, ownRes_of_free_class ho, chk_of hown, hfree hrx, hfree htx]
  rfl

theorem cfgBindStatus_same {n : HewerCfg} (hrx : n.rxQueue = (s.hewer h).cfg.rxQueue) (htx : n.txQueue = (s.hewer h).cfg.txQueue)
    (hne : n.rxQueue ≠ n.txQueue ∨ n.rxQueue = 0xFFFF) : cfgBindStatus s h n = stOk := by
  have hno : ¬(n.rxQueue ≠ 0xFFFF ∧ n.rxQueue = n.txQueue) := fun hh => hne.elim (fun hd => hd hh.2) hh.1
  have ha : (if n.rxQueue = 0xFFFF ∨ n.rxQueue = (s.hewer h).cfg.rxQueue then stOk else prodBindStatus s n.rxQueue (.hewer h)) = stOk :=
    if_pos (.inr hrx)
  have hb : (if n.txQueue = 0xFFFF ∨ n.txQueue = (s.hewer h).cfg.txQueue then stOk else consBindStatus s n.txQueue (.hewer h)) = stOk :=
    if_pos (.inr htx)
  unfold cfgBindStatus
  dsimp only
  rw [if_neg hno, ha, hb]
  rfl

theorem cfgBind_same {n : HewerCfg} (hrx : n.rxQueue = (s.hewer h).cfg.rxQueue) (htx : n.txQueue = (s.hewer h).cfg.txQueue) :
    cfgBind s h n = s.setHewer h { s.hewer h with cfg := n } := by
  unfold cfgBind
  dsimp only
  rw [hrx, htx]
  simp [State.ifDo]

theorem hewer_of_kept (hk : t.kept = s.kept) (k : Nat) : t.hewer k = s.hewer k := by
  have hf : t.field = s.field := congrArg (fun v : Kept => v.rest.field) hk
  rw [State.hewer, hf, State.hewer]

/-- A hewer with a new program (R293). -/
def Hewer.loaded (x : Hewer) (l : List Word) (entry loopTo : Nat) (u v : Word) : Hewer :=
  { x with
    prog := l, entry := entry, loopTo := loopTo, lib := none, libParams := [], pc := entry, u := u, v := v, g := 0, gCnt := 0, s := 0, sCnt := 0
    lastWord := 0, lastMark := false, dropToEop := false, tlatch := false, pktOpen := false, pktCnt := 0, stall := 0, began := false }

/-- What a load does first: an open packet is broken off and reported (R293). -/
def beforeLoad (s : State) (h : Nat) : State :=
  if (s.hewer h).pktOpen then raise ((breakPacket s h).count cHewerAborts h) (srcHewer h 3) 1 0 else s

theorem loadProgram_eq {l : List Word} {e a : Nat} {u v : Word} :
    loadProgram s h l e a u v = (beforeLoad s h).setHewer h (((beforeLoad s h).hewer h).loaded l e a u v) := rfl

theorem beforeLoad_closed (hp : (s.hewer h).pktOpen = false) : beforeLoad s h = s := if_neg (Bool.eq_false_iff.mp hp)

theorem hewer_breakPacket_same : ((breakPacket s h).hewer h).cfg = (s.hewer h).cfg ∧ ((breakPacket s h).hewer h).st = (s.hewer h).st := by
  unfold breakPacket
  dsimp only
  split
  · rw [hewer_of_kept (kept_abortOpen ..), State.setHewer_hewer_same]
    exact ⟨rfl, rfl⟩
  · rw [State.setHewer_hewer_same]
    exact ⟨rfl, rfl⟩

theorem hewer_breakPacket_ne {k : Nat} (hk : k ≠ h) : (breakPacket s h).hewer k = s.hewer k := by
  unfold breakPacket
  dsimp only
  split
  · rw [hewer_of_kept (kept_abortOpen ..), State.setHewer_hewer_ne _ _ _ hk]
  · rw [State.setHewer_hewer_ne _ _ _ hk]

theorem hewer_reported (k : Nat) : (raise ((breakPacket s h).count cHewerAborts h) (srcHewer h 3) 1 0).hewer k = (breakPacket s h).hewer k :=
  hewer_of_kept ((kept_raise ..).trans (kept_count ..)) k

theorem hewer_beforeLoad_same : ((beforeLoad s h).hewer h).cfg = (s.hewer h).cfg ∧ ((beforeLoad s h).hewer h).st = (s.hewer h).st := by
  unfold beforeLoad
  split
  · rw [hewer_reported]
    exact hewer_breakPacket_same
  · exact ⟨rfl, rfl⟩

theorem hewer_beforeLoad_ne {k : Nat} (hk : k ≠ h) : (beforeLoad s h).hewer k = s.hewer k := by
  unfold beforeLoad
  split
  · rw [hewer_reported]
    exact hewer_breakPacket_ne hk
  · rfl

theorem bodyHewerLoad_checked {n : Nat} (hl : localRes s c.p (c.u 8 4) = some (2, h)) (ho : s.owns c.p 2 h = true) (hn : n = c.u 12 1)
    (h1 : 1 ≤ n) (h64 : n ≤ 64) (he : c.u 13 1 < n) (ha : c.u 14 1 < n) (hlen : c.len = 4 * n)
    (hw : ((wordsOf c.bulk n).map (viewWord (s.part c.p))).all (wordOk n (s.hewer h).cfg.sideCount) = true)
    (hin : (wordsOf c.bulk n).all (fun w => !outsideView (s.part c.p) w) = true) (hown : c.owned = true)
    (hpins : ((wordsOf c.bulk n).map (viewWord (s.part c.p))).all (wordOwned s c.p h) = true) :
    bodyHewerLoad c s = chk ((s.hewer h).st == 0) stWrongState (
      okS (loadProgram s h (((wordsOf c.bulk n).map (viewWord (s.part c.p))).map w32) (c.u 13 1) (c.u 14 1) (w32 (c.u 16 4)) (w32 (c.u 20 4)))) := by
  subst hn
  rw [bodyHewerLoad, handle_of_localRes hl]
  dsimp only
  rw [decide_eq_true h1, decide_eq_true h64, decide_eq_true he, decide_eq_true ha, beq_iff_eq.mpr hlen, hw, hin, ownRes_of_free_class ho, hown, hpins]
  rfl

/-- A hewer with a program of the library, for the pins from its own first one (R297). -/
def libEntered (s : State) (h id : Nat) (b : List Byte) : State :=
  let prog := (Config.libProgram id (4 * (h % 8)) b).take 64
  let (e, a) := Config.libEntry id (4 * (h % 8)) b
  let v := loadProgram s h prog (if e < prog.length then e else 0) (if a < prog.length then a else 0) 0 0
  v.setHewer h { v.hewer h with cfg := libConfig (v.hewer h).cfg id (4 * (h % 8)) b, lib := some id, libParams := b.map BitVec.toNat }

theorem hewer_libEntered_same (id : Nat) (b : List Byte) :
    let y := (libEntered s h id b).hewer h
    y.prog = (Config.libProgram id (4 * (h % 8)) b).take 64 ∧ y.lib = some id ∧ y.u = 0 ∧ y.v = 0 ∧
      y.cfg.rxQueue = (s.hewer h).cfg.rxQueue ∧ y.cfg.txQueue = (s.hewer h).cfg.txQueue ∧ y.st = (s.hewer h).st := by
  obtain ⟨hcfg, hst⟩ := hewer_beforeLoad_same (s := s) (h := h)
  have hrx : ((beforeLoad s h).hewer h).cfg.rxQueue = (s.hewer h).cfg.rxQueue := congrArg HewerCfg.rxQueue hcfg
  have htx : ((beforeLoad s h).hewer h).cfg.txQueue = (s.hewer h).cfg.txQueue := congrArg HewerCfg.txQueue hcfg
  unfold libEntered
  dsimp only
  rw [State.setHewer_hewer_same, loadProgram_eq, State.setHewer_hewer_same]
  exact ⟨rfl, rfl, rfl, rfl, hrx, htx, hst⟩

theorem hewer_libEntered_ne {k : Nat} (hk : k ≠ h) (id : Nat) (b : List Byte) : (libEntered s h id b).hewer k = s.hewer k := by
  unfold libEntered
  dsimp only
  rw [State.setHewer_hewer_ne _ _ _ hk, loadProgram_eq, State.setHewer_hewer_ne _ _ _ hk, hewer_beforeLoad_ne hk]

/-- The library's program as R297 enters it. -/
theorem bodyHewerLoadLib_checked {id : Nat} (hl : localRes s c.p (c.u 8 4) = some (2, h)) (ho : s.owns c.p 2 h = true) (hid : id = c.u 12 1)
    (h1 : 1 ≤ id) (h11 : id ≤ 11) (hv : c.u 13 1 = 0xFF) (hlist : libListed c id = true) (hparam : libParamOk c id = true)
    (hrate : Config.libRateOk id (c.bytes 16 32) = true)
    (hpins : (libPins id).zipIdx.all (fun e => if e.1 then s.owns c.p 3 (32 * (h / 8) + (4 * (h % 8) + e.2) % 32)
      else s.mayRead c.p 3 (32 * (h / 8) + (4 * (h % 8) + e.2) % 32)) = true)
    (hunit : ∀ u, libUnit c id = some u → s.mayBind c.p u = true) (hst : (s.hewer h).st = 0) :
    bodyHewerLoadLib c s = okS (libEntered s h id (c.bytes 16 32)) := by
  subst hid
  have hbind : (match libUnit c (c.u 12 1) with | some u => s.mayBind c.p u | none => true) = true := by
    split
    · next u hu => exact hunit u hu
    · rfl
  rw [bodyHewerLoadLib, handle_of_localRes hl]
  dsimp only
  rw [hv, if_pos rfl, inRange_of h1 h11, hlist, hparam, hrate]
  refine (chk_of rfl).trans ((ownRes_of_free_class ho).trans ((chk_of (Bool.and_eq_true_iff.mpr ⟨hpins, hbind⟩)).trans ((chk_of (beq_iff_eq.mpr hst)).trans ?_)))
  rfl

end

/-! Masks of hewers and flags (R290, R294, R296). -/

section
variable {s : State} {c : Cmd} {h : Nat}

theorem bodyHewerStart_mask {l : List Nat} (hm : maskHewers (s.part c.p) (c.u 8 8) = some l) (hf : c.u 16 1 < 4) (hu : c.u 17 1 < 64) :
    bodyHewerStart c s = chk (l.all (fun h => s.owns c.p 2 h) && (!bitAt (c.u 16 1) 1 || s.mayBind c.p (c.u 17 1))) stNotOwner (
      chk (l.all (fun h => (s.hewer h).canStart)) stWrongState (
        okS (forEach l s (fun h s =>
          if bitAt (c.u 16 1) 1 then s.setHewer h { s.hewer h with
            st := 2, armUnit := c.u 17 1, armCount := (s.trig (c.u 17 1)).fireCount, armRestart := bitAt (c.u 16 1) 0 }
          else s.setHewer h (startEdge (s.hewer h) (bitAt (c.u 16 1) 0) s.edgeNext))))) := by
  have hz : (c.u 16 1 / 4 == 0) = true := beq_iff_eq.mpr (Nat.div_eq_of_lt hf)
  unfold bodyHewerStart
  rw [hm]
  dsimp only
  rw [hz, decide_eq_true hu]
  rfl

/-- One hewer that the issuer owns. -/
theorem bodyHewerStart_one (hm : maskHewers (s.part c.p) (c.u 8 8) = some [h]) (hf : c.u 16 1 < 4) (hu : c.u 17 1 < 64)
    (ho : s.owns c.p 2 h = true) (hb : bitAt (c.u 16 1) 1 = true → s.mayBind c.p (c.u 17 1) = true) :
    bodyHewerStart c s = chk (s.hewer h).canStart stWrongState (
      okS (if bitAt (c.u 16 1) 1 then s.setHewer h { s.hewer h with
            st := 2, armUnit := c.u 17 1, armCount := (s.trig (c.u 17 1)).fireCount, armRestart := bitAt (c.u 16 1) 0 }
          else s.setHewer h (startEdge (s.hewer h) (bitAt (c.u 16 1) 0) s.edgeNext))) := by
  have hbind : (!bitAt (c.u 16 1) 1 || s.mayBind c.p (c.u 17 1)) = true := by
    cases h1 : bitAt (c.u 16 1) 1
    · rfl
    · rw [hb h1]; rfl
  rw [bodyHewerStart_mask hm hf hu, hbind, List.all_cons, ho, List.all_cons, List.all_nil, List.all_nil, Bool.and_true, Bool.and_true,
    Bool.and_true]
  rfl

/-- A host's write of a flag that nothing has acted on at this edge (R290). -/
theorem flagOp_set {f : Nat} (h : ∀ a k, (s.flag f).act = some (a, k) → a < s.edgeNext) : flagOp s 64 f 0 =
    s.setFlag f { s.flag f with val := true, act := some (s.edgeNext, 64), was := (s.flag f).val, hist := [] } := by
  unfold flagOp
  dsimp only
  rw [if_pos rfl]
  cases ha : (s.flag f).act with
  | none => rfl
  | some v =>
    obtain ⟨a, k⟩ := v
    have hlt := h a k ha
    have hrank : ¬outranked s.edgeNext 64 (some (a, k)) = true := by
      have hno : ¬s.edgeNext < a := by omega
      have hne : (a == s.edgeNext) = false := beq_false_of_ne (Nat.ne_of_lt hlt)
      simp [outranked, hno, hne]
    dsimp only
    rw [if_neg hrank]
    simp [(Nat.ne_of_lt hlt)]

theorem maskList_one : (List.range 32).filter (fun i => bitAt 1 i || bitAt 0 i) = [0] := by decide

theorem bodyFlagWrite_low (hk : c.u 8 1 < 8) : bodyFlagWrite c s =
    let l := (List.range 32).filter (fun i => bitAt (c.u 12 4) i || bitAt (c.u 16 4) i)
    chk (l.all (fun i => (s.flag (32 * c.u 8 1 + i)).owner == c.p)) stNotOwner (
      okS (forEach l s (fun i s => flagOp s 64 (32 * c.u 8 1 + i)
        (if bitAt (c.u 12 4) i && bitAt (c.u 16 4) i then 2 else if bitAt (c.u 12 4) i then 0 else 1)))) := by
  have h8 : c.u 8 1 ≠ 8 := (Nat.ne_of_lt hk)
  unfold bodyFlagWrite
  dsimp only
  rw [chk_of (by rw [decide_eq_true (Nat.le_of_lt hk), bne_iff_ne.mpr h8]; rfl), if_neg h8]

end

/-- Settles O39, row by row. -/
theorem hewerCommands : Obligations.HewerCommands := by
  unfold Obligations.HewerCommands
  refine ⟨fun d s h => ?rows, fun d s => ?masks⟩
  case rows =>
    intro t c x hl ho
    refine ⟨fun n hr hv hok hown hrx htx => ?cfg, ?load, ?lib, fun hr hw => ?regWrite, fun hr hw => ?irqSet, fun hr hread => ?status⟩
    case cfg =>
      have hbody := bodyHewerCfg_checked hl ho hv hok hown hrx htx
      refine ⟨fun hst hrxs htxs hne => cmdRow_ok bodyHewerCfg hr (hbody.trans ?_), fun hst hb => cmdRow_ok bodyHewerCfg hr (hbody.trans ?_),
        fun hst => cmdRow_fail bodyHewerCfg hr (hbody.trans ?_)⟩
      · exact (chk_of (beq_iff_eq.mpr hst)).trans ((if_pos (cfgBindStatus_same hrxs htxs hne)).trans (congrArg okS (cfgBind_same hrxs htxs)))
      · exact (chk_of (beq_iff_eq.mpr hst)).trans (if_pos hb)
      · exact if_neg (by simpa using hst)
    case load =>
      intro n l hr h1 h64 he ha hlen hw hin hown hpins
      have hbody := bodyHewerLoad_checked (n := n) hl ho rfl h1 h64 he ha hlen hw hin hown hpins
      refine ⟨fun hst hp => cmdRow_ok bodyHewerLoad hr (hbody.trans ?_), fun hst => cmdRow_fail bodyHewerLoad hr (hbody.trans ?_)⟩
      · refine (chk_of (beq_iff_eq.mpr hst)).trans (congrArg okS ?_)
        rw [loadProgram_eq, beforeLoad_closed hp]
        rfl
      · exact if_neg (by simpa using hst)
    case lib =>
      intro id base b hr h1 h11 hv hlist hparam hrate hpins hunit hst
      have hbody := bodyHewerLoadLib_checked (id := id) hl ho rfl h1 h11 hv hlist hparam hrate hpins hunit hst
      obtain ⟨hprog, hlib, hu, hv, hrx, htx, hst'⟩ := hewer_libEntered_same (s := t) (h := h) id b
      exact ⟨libEntered t h id b, cmdRow_ok bodyHewerLoadLib hr hbody, hprog, hlib, hu, hv, hrx, htx, hst'.trans hst,
        fun k hk => hewer_libEntered_ne hk id b⟩
    case regWrite =>
      refine cmdRow_ok bodyHewerRegWrite hr (?_ : bodyHewerRegWrite c t = _)
      rw [bodyHewerRegWrite, handle_of_localRes hl, chk_of (decide_eq_true hw), ownRes_of_free_class ho]
      by_cases h1 : c.u 12 1 = 1
      · rw [if_pos h1, h1]; rfl
      · rw [if_neg h1, beq_false_of_ne h1]; rfl
    case irqSet =>
      refine cmdRow_ok bodyHewerIrqSet hr (?_ : bodyHewerIrqSet c t = _)
      rw [bodyHewerIrqSet, handle_of_localRes hl, chk_of (decide_eq_true hw), ownRes_of_free_class ho]
      rfl
    case status =>
      refine cmdRow_ok bodyHewerStatus hr (?_ : bodyHewerStatus c t = _)
      rw [bodyHewerStatus, handle_of_localRes hl]
      exact if_pos hread
  case masks =>
    intro t c f u
    refine ⟨fun h hr hm hf hu ho hb => ?start, fun h hr hm ho => ?stop, fun l hr hm hf hu hno => ?notOwner, fun hr hlt h16 hst => ?assign, fun hr hlt => ?read,
      fun hr hlt ha hb ho hact => ?write, fun i hr hlt hi hbit ho => ?foreign⟩
    case start =>
      have hbody := bodyHewerStart_one hm hf hu ho hb
      refine ⟨fun hc => cmdRow_fail bodyHewerStart hr (hbody.trans ?_), fun hc h1 => cmdRow_ok bodyHewerStart hr (hbody.trans ?_),
        fun hc h0 => cmdRow_ok bodyHewerStart hr (hbody.trans ?_), fun hc h1 => cmdRow_ok bodyHewerStart hr (hbody.trans ?_)⟩
      · rw [hc]; rfl
      · exact (chk_of hc).trans (congrArg okS (if_pos h1))
      · rw [show c.u 16 1 = 0 from h0]
        exact (chk_of hc).trans rfl
      · rw [show c.u 16 1 = 1 from h1]
        exact (chk_of hc).trans rfl
    case stop =>
      refine cmdRow_ok bodyHewerStop hr (?_ : bodyHewerStop c t = _)
      unfold bodyHewerStop
      rw [show maskHewers (t.part c.p) (c.u 8 8) = some [h] from hm]
      dsimp only
      rw [List.all_cons, show t.owns c.p 2 h = true from ho]
      rfl
    case notOwner =>
      refine cmdRow_fail bodyHewerStart hr ((bodyHewerStart_mask hm hf hu).trans ?_)
      have hall : (l.all fun h => t.owns c.p 2 h) = false := by
        obtain ⟨h, hmem, hh⟩ := List.any_eq_true.mp hno
        exact List.all_eq_false.mpr ⟨h, hmem, by simpa using (show (!t.owns c.p 2 h) = true from hh)⟩
      rw [hall]
      rfl
    case assign =>
      have hok : (decide (c.u 8 2 < 272) && decide (c.u 10 1 < 16) && (t.part (c.u 10 1)).st != 0) = true := by
        simpa using ⟨⟨hlt, h16⟩, hst⟩
      refine ⟨fun hu => cmdRow_fail bodyFlagAssign hr ((chk_of hok).trans ?_), fun hu => cmdRow_ok bodyFlagAssign hr ((chk_of hok).trans ?_)⟩
      · rw [show t.flagInUse ((cmdOf (begins s d.part) d).u 8 2) = true from hu]; rfl
      · rw [show t.flagInUse ((cmdOf (begins s d.part) d).u 8 2) = false from hu]; rfl
    case read => exact cmdRow_ok bodyFlagRead hr (chk_of (decide_eq_true hlt))
    case write =>
      refine cmdRow_ok bodyFlagWrite hr ((bodyFlagWrite_low hlt).trans ?_)
      have ho' : ((t.flag (32 * c.u 8 1 + 0)).owner == c.p) = true := beq_iff_eq.mpr ho
      rw [show c.u 12 4 = 1 from ha, show c.u 16 4 = 0 from hb, maskList_one]
      dsimp only
      rw [List.all_cons, List.all_nil, ho']
      exact (chk_of rfl).trans (congrArg okS (flagOp_set hact))
    case foreign =>
      refine cmdRow_fail bodyFlagWrite hr ((bodyFlagWrite_low hlt).trans ?_)
      have hall : (((List.range 32).filter fun i => bitAt (c.u 12 4) i || bitAt (c.u 16 4) i).all
          fun i => (t.flag (32 * c.u 8 1 + i)).owner == c.p) = false :=
        List.all_eq_false.mpr ⟨i, List.mem_filter.mpr ⟨List.mem_range.mpr hi, by rw [hbit]; rfl⟩,
          by simpa using (show (t.flag (32 * c.u 8 1 + i)).owner ≠ c.p from ho)⟩
      dsimp only
      rw [hall]
      rfl

end Sys2Proof.Machine

/-!
SUPPORT and O40 (R278 to R296).
-/
namespace Sys2Proof.Machine

section
variable {s t : State} {h w : Nat}

/-! A tick (R278, R279). -/

theorem opc_of_hwStarts {opc : Nat} (hs : s.hwStarts h opc = true) : opcOf (s.hewer h).word = opc := by
  simp only [State.hwStarts, Bool.and_eq_true, beq_iff_eq] at hs
  exact hs.2

/-- What a tick makes of the end of its instruction. -/
def ticked (h w : Nat) (f : State → State) : HwEnd → State
  | .fin j s => completeHw (f s) h w j
  | .stall k s => stallHw (f s) h k

theorem startHw_eq {opc : Nat} {act : Nat → State → HwEnd} (hs : s.hwStarts h opc = true) :
    startHw h opc act s = ticked h (s.hewer h).word (fun s' => sideAct s' h (s.hewer h).word) (act (s.hewer h).word s) := by
  rw [startHw, if_pos hs]
  dsimp only
  split <;> next h => rw [h]; rfl

theorem startHw_idle {opc : Nat} {act : Nat → State → HwEnd} (hs : s.hwStarts h opc = false) : startHw h opc act s = s :=
  if_neg (Bool.eq_false_iff.mp hs)

theorem stallRetry_due (hd : s.tickDue h = true) (hst : (s.hewer h).stall ≠ 0) :
    stallRetry s h = ticked h (s.hewer h).word id (hwAct h (s.hewer h).word s) := by
  unfold stallRetry
  dsimp only
  rw [if_pos ⟨hd, hst⟩]
  split <;> next h => rw [h]; rfl

theorem stallRetry_idle (hi : (s.hewer h).stall = 0 ∨ s.tickDue h = false) : stallRetry s h = s := by
  refine if_neg ?_
  rintro ⟨hd, hst⟩
  exact hi.elim hst fun hn => absurd (hd.symm.trans hn) (by decide)

/-- Each instruction's row and its opcode (R284). -/
theorem exec_hwRow {e : Instr × Nat} (he : e ∈ [(Instr.hwSet h, 0x01), (.hwMov h, 0x02), (.hwJmp h, 0x04), (.hwDjnz h, 0x05), (.hwWait h, 0x06),
    (.hwIn h, 0x08), (.hwOut h, 0x09), (.hwPush h, 0x0A), (.hwPull h, 0x0B), (.hwTstamp h, 0x0C), (.hwAbort h, 0x0D), (.hwFlag h, 0x10), (.hwIrq h, 0x11)])
    (hh : h < 64) : ∃ act : Nat → State → HwEnd, exec e.1 s = .next (startHw h e.2 act s) ∧
      (opcOf (s.hewer h).word = e.2 → hwAct h (s.hewer h).word s = act (s.hewer h).word s) := by
  have hu {act : Nat → State → HwEnd} {opc : Nat} : unit h 64 (startHw h opc act s) = .next (startHw h opc act s) := if_pos hh
  simp only [List.mem_cons, List.not_mem_nil, or_false] at he
  rcases he with rfl | rfl | rfl | rfl | rfl | rfl | rfl | rfl | rfl | rfl | rfl | rfl | rfl
  all_goals exact ⟨_, hu, fun ho => by rw [hwAct, ho] <;> rfl⟩

theorem unit_startHw_fin {opc : Nat} {act : Nat → State → HwEnd} {j : Option Nat} (hh : h < 64) (hs : s.hwStarts h opc = true)
    (ha : act (s.hewer h).word s = .fin j t) :
    unit h 64 (startHw h opc act s) = .next (completeHw (sideAct t h (s.hewer h).word) h (s.hewer h).word j) :=
  (if_pos hh).trans (congrArg _ ((startHw_eq hs).trans (by rw [ha]; rfl)))

theorem unit_startHw_stall {opc k : Nat} {act : Nat → State → HwEnd} (hh : h < 64) (hs : s.hwStarts h opc = true)
    (ha : act (s.hewer h).word s = .stall k t) :
    unit h 64 (startHw h opc act s) = .next (stallHw (sideAct t h (s.hewer h).word) h k) :=
  (if_pos hh).trans (congrArg _ ((startHw_eq hs).trans (by rw [ha]; rfl)))

/-! What each instruction computes (R284 to R290). -/

/-- A write of U or V by an instruction (R280). -/
theorem setUV_u (a : Word) : setUV s h false a =
    if (s.hewer h).extU = some (s.hewer h).edge then s.count cRegOverride h else s.setHewer h { s.hewer h with u := a } := rfl

theorem setUV_v (a : Word) : setUV s h true a =
    if (s.hewer h).extV = some (s.hewer h).edge then s.count cRegOverride h else s.setHewer h { s.hewer h with v := a } := rfl

theorem w32_toNat (v : Word) : w32 v.toNat = v := by
  simp [w32]

theorem hwDjnz_u (hv : bitAt w 18 = false) : hwDjnz h w s =
    .fin (if (s.hewer h).u - 1 ≠ 0 then some (bitsAt w 0 6) else none) (setUV s h false ((s.hewer h).u - 1)) := by
  rw [hwDjnz, hv]
  rfl

theorem hwDjnz_v (hv : bitAt w 18 = true) : hwDjnz h w s =
    .fin (if (s.hewer h).v - 1 ≠ 0 then some (bitsAt w 0 6) else none) (setUV s h true ((s.hewer h).v - 1)) := by
  rw [hwDjnz, hv]
  rfl

theorem hwWait_first (hb : (s.hewer h).began = false) : hwWait h w s =
    let s := s.setHewer h { s.hewer h with waitFrom := (s.hewer h).edge }
    if waitLevel s h (bitsAt w 15 3) (bitsAt w 9 6) = bitAt w 18 then .fin none (waitClear s h (bitsAt w 15 3) (bitsAt w 9 6) (bitAt w 8))
    else .stall 3 s := by
  unfold hwWait
  dsimp only
  rw [hb]
  rfl

theorem hwWait_latch (hb : (s.hewer h).began = false) (hsrc : bitsAt w 15 3 = 0) (hp : bitAt w 18 = true) : hwWait h w s =
    if (s.hewer h).tlatch then .fin none (s.setHewer h { s.hewer h with waitFrom := (s.hewer h).edge, tlatch := false })
    else .stall 3 (s.setHewer h { s.hewer h with waitFrom := (s.hewer h).edge }) := by
  rw [hwWait_first hb, hsrc, hp]
  dsimp only
  rw [waitLevel, if_pos rfl, waitClear, if_pos rfl, State.setHewer_hewer_same, State.setHewer_setHewer]

/-- A wait for a firing of a trigger unit: only one at the wait's own first edge counts so far (R285). -/
theorem hwWait_unit (hb : (s.hewer h).began = false) (hsrc : bitsAt w 15 3 = 1) (hp : bitAt w 18 = true) : hwWait h w s =
    if 0 < (s.trig (bitsAt w 9 6)).fireCount ∧ (s.trig (bitsAt w 9 6)).firedEdge = (s.hewer h).edge then
      .fin none (s.setHewer h { s.hewer h with waitFrom := (s.hewer h).edge })
    else .stall 3 (s.setHewer h { s.hewer h with waitFrom := (s.hewer h).edge }) := by
  have hlevel : waitLevel (s.setHewer h { s.hewer h with waitFrom := (s.hewer h).edge }) h 1 (bitsAt w 9 6) =
      decide (0 < (s.trig (bitsAt w 9 6)).fireCount ∧ (s.trig (bitsAt w 9 6)).firedEdge = (s.hewer h).edge) := by
    unfold waitLevel
    dsimp only
    rw [if_neg (by decide), if_pos rfl, State.setHewer_hewer_same, State.setHewer_trig]
    simp only [Bool.decide_and, Bool.and_assoc]
    refine congrArg _ ?_
    rw [← Bool.decide_and]
    exact decide_eq_decide.mpr ⟨fun hx => Nat.le_antisymm hx.2 hx.1, fun hx => ⟨Nat.le_of_eq hx.symm, Nat.le_of_eq hx⟩⟩
  have hclear (s : State) : waitClear s h 1 (bitsAt w 9 6) (bitAt w 8) = s := by
    unfold waitClear
    dsimp only
    cases bitAt w 8 <;> rfl
  rw [hwWait_first hb, hsrc, hp]
  dsimp only
  rw [hlevel, hclear]
  simp only [decide_eq_true_eq]

/-- The words of an IN: the bits gathered (R286). -/
theorem hwIn_gathered (hb : (s.hewer h).began = false) (hd : bitsAt w 16 3 ≠ 6) : hwIn h w s =
    let x := { s.hewer h with
      g := gather (s.hewer h).cfg.inDir (s.hewer h).g (inSrc s h (bitsAt w 16 3)) (bitsAt w 0 6), gCnt := min 32 ((s.hewer h).gCnt + bitsAt w 0 6) }
    if x.cfg.autoStore = true ∧ x.gCnt ≥ x.cfg.inWidth then
      match pushWords (s.setHewer h x) h [x.g] false true with
      | some s => .fin none (s.setHewer h { s.hewer h with g := 0, gCnt := 0 })
      | none => .stall 1 (s.setHewer h x)
    else .fin none (s.setHewer h x) := by
  unfold hwIn
  dsimp only
  rw [hb, if_neg Bool.false_ne_true, if_neg hd, State.setHewer_hewer_same] <;> rfl

theorem pushWords_full {l : List Word} {eop : Bool} (hd : (s.hewer h).dropToEop = false) (hl : 8 < (s.hewer h).rx.length + l.length) :
    pushWords s h l eop true = none := by
  unfold pushWords
  dsimp only
  rw [hd, if_neg Bool.false_ne_true, if_pos hl]
  rfl

theorem pushWords_one {a : Word} {eop block : Bool} (hd : (s.hewer h).dropToEop = false) (hl : (s.hewer h).rx.length < 8) :
    pushWords s h [a] eop block = some (s.setHewer h ((s.hewer h).pushWord a eop)) := by
  unfold pushWords
  dsimp only
  rw [hd, if_neg Bool.false_ne_true, if_neg (show ¬(s.hewer h).rx.length + [a].length > 8 from Nat.not_lt.mpr (Nat.succ_le_of_lt hl))]
  rfl

theorem hwOut_shifted (hf : (s.hewer h).cfg.autoFetch = false) (hc : (s.hewer h).sCnt < 32) : hwOut h w s = outBits h w s := by
  unfold hwOut
  dsimp only
  rw [hf, if_neg (fun hx => Bool.false_ne_true hx.1), if_neg (Nat.not_le.mpr hc)]

theorem hwOut_empty (hf : (s.hewer h).cfg.autoFetch = true) (hc : (s.hewer h).cfg.outWidth ≤ (s.hewer h).sCnt) (ht : (s.hewer h).tx = []) :
    hwOut h w s = .stall 2 s := by
  have hnone : pullWord s h = none := by rw [pullWord, ht]
  unfold hwOut
  dsimp only
  rw [if_pos ⟨hf, hc⟩, hnone]

theorem outBits_jump (hd : bitsAt w 16 3 = 5) : outBits h w s = .fin (some (spread (s.hewer h).cfg.outDir (s.hewer h).s (bitsAt w 0 6)).1)
    (s.setHewer h { s.hewer h with
      s := (spread (s.hewer h).cfg.outDir (s.hewer h).s (bitsAt w 0 6)).2, sCnt := min 32 ((s.hewer h).sCnt + bitsAt w 0 6) }) :=
  if_pos hd

theorem outBits_gather (hd : bitsAt w 16 3 = 6) : outBits h w s = .fin none (s.setHewer h { s.hewer h with
    s := (spread (s.hewer h).cfg.outDir (s.hewer h).s (bitsAt w 0 6)).2, sCnt := min 32 ((s.hewer h).sCnt + bitsAt w 0 6)
    g := w32 (spread (s.hewer h).cfg.outDir (s.hewer h).s (bitsAt w 0 6)).1, gCnt := bitsAt w 0 6 }) := by
  unfold outBits
  dsimp only
  rw [if_neg (by rw [hd]; decide), if_pos hd, State.setHewer_hewer_same, State.setHewer_setHewer]

theorem hwPush_eq (hw : bitAt w 16 = false ∨ (s.hewer h).cfg.inWidth ≤ (s.hewer h).gCnt) : hwPush h w s =
    match pushWords s h [(s.hewer h).g] (bitAt w 18) (bitAt w 17) with
    | some s => .fin none (s.setHewer h { s.hewer h with g := 0, gCnt := 0 })
    | none => .stall 1 s := by
  refine if_neg ?_
  rintro ⟨hb, hlt⟩
  exact hw.elim (fun hn => absurd (hb.symm.trans hn) (by decide)) (Nat.not_le.mpr hlt)

theorem hwPull_eq (hw : bitAt w 16 = false ∨ (s.hewer h).cfg.outWidth ≤ (s.hewer h).sCnt) : hwPull h w s =
    match pullWord s h with
    | some s => .fin none s
    | none => if bitAt w 17 then .stall 2 s else .fin none (s.setHewer h { s.hewer h with s := (s.hewer h).lastWord, sCnt := 0 }) := by
  refine if_neg ?_
  rintro ⟨hb, hlt⟩
  exact hw.elim (fun hn => absurd (hb.symm.trans hn) (by decide)) (Nat.not_le.mpr hlt)

theorem hwPull_empty (hw : bitAt w 16 = false ∨ (s.hewer h).cfg.outWidth ≤ (s.hewer h).sCnt) (ht : (s.hewer h).tx = []) : hwPull h w s =
    if bitAt w 17 then .stall 2 s else .fin none (s.setHewer h { s.hewer h with s := (s.hewer h).lastWord, sCnt := 0 }) := by
  have hnone : pullWord s h = none := by rw [pullWord, ht]
  rw [hwPull_eq hw, hnone]

theorem hwTstamp_one (hb : bitAt w 18 = false) (hd : (s.hewer h).dropToEop = false) (hl : (s.hewer h).rx.length < 8) :
    ∃ t, edgeWork s h ≤ t + 2 ∧ t ≤ edgeWork s h + 2 ∧ hwTstamp h w s =
      .fin none ({ s with fresh := s.fresh + 1 }.setHewer h ((s.hewer h).pushWord (w32 (t % 1000000000)) false)) := by
  let r := (Config.free s.fresh).toNat % 5
  have hr : r < 5 := Nat.mod_lt _ (by decide)
  have hpush := pushWords_one (s := { s with fresh := s.fresh + 1 }) (h := h) (a := w32 (((edgeWork s h : Int) + (r : Nat) - 2).toNat % 1000000000))
    (eop := false) (block := bitAt w 17) hd hl
  refine ⟨((edgeWork s h : Int) + (r : Nat) - 2).toNat, by omega, by omega, ?_⟩
  unfold hwTstamp
  rw [hb]
  show (match pushWords { s with fresh := s.fresh + 1 } h [w32 (((edgeWork s h : Int) + (r : Nat) - 2).toNat % 1000000000)] false (bitAt w 17) with
    | some s => HwEnd.fin none s
    | none => HwEnd.stall 1 _) = _
  rw [hpush]
  rfl

theorem ctr_setQueue (q : Nat) (x : Queue) (c : CtrId) (j : Nat) : (s.setQueue q x).ctr c j = s.ctr c j := rfl

theorem ctr_flushNow {k : CtrId} (hk : k.pos % 64 ≠ 8) (q j : Nat) : (flushNow s q).ctr k j = s.ctr k j := by
  have hfree : (forEach ((if (s.queue q).presented then (s.queue q).packets.drop 1 else (s.queue q).packets) ++ (s.queue q).fresh) s
      fun k s => freePacket s k).counters = s.counters := forEach_proj (g := State.counters) (fun _ _ => counters_freePacket ..) _ _
  unfold flushNow
  dsimp only
  rw [ctr_setQueue, ctr_count_ne_pos (c := cFlushDrop) hk, ctr_of_counters hfree]

theorem ctr_abortOpen {k : CtrId} (h4 : k.pos % 64 ≠ 4) (h8 : k.pos % 64 ≠ 8) (q j : Nat) : (abortOpen s q).ctr k j = s.ctr k j := by
  unfold abortOpen
  split
  · rfl
  · dsimp only [flushIfPending]
    split
    · rw [ctr_flushNow h8, ctr_setQueue, ctr_count_ne_pos (c := cAborts) h4, ctr_of_counters (counters_freePacket ..)]
    · rw [ctr_setQueue, ctr_count_ne_pos (c := cAborts) h4, ctr_of_counters (counters_freePacket ..)]

/-- What breaking off a packet leaves in the FIFO (R289). -/
theorem breakPacket_fifo : ((breakPacket s h).hewer h).rx = keepEnded (s.hewer h).rx ∧ ((breakPacket s h).hewer h).pktOpen = false ∧
    (breakPacket s h).ctr cHewerAborts h = s.ctr cHewerAborts h := by
  unfold breakPacket
  dsimp only
  split
  · rw [hewer_of_kept (kept_abortOpen ..), State.setHewer_hewer_same, ctr_abortOpen (by decide) (by decide)]
    exact ⟨rfl, rfl, rfl⟩
  · rw [State.setHewer_hewer_same]
    exact ⟨rfl, rfl, rfl⟩

theorem hwAbort_closed (hp : (s.hewer h).pktOpen = false) : hwAbort h w s = .fin none (s.setHewer h { s.hewer h with g := 0, gCnt := 0 }) := by
  unfold hwAbort
  rw [hp]
  rfl

theorem hwAbort_open (hp : (s.hewer h).pktOpen = true) : hwAbort h w s =
    let t := (breakPacket s h).count cHewerAborts h
    .fin none (t.setHewer h { t.hewer h with g := 0, gCnt := 0, pktCnt := 0 }) := by
  unfold hwAbort
  rw [hp]
  rfl

/-- A hewer's action on a flag that no other acts on at its edge (R290). -/
theorem flagOp_alone {f op : Nat} (hh : h < 64)
    (ha : ∀ a k, (s.flag f).act = some (a, k) → a < (s.hewer h).edge ∨ (a = (s.hewer h).edge ∧ k = h)) : flagOp s h f op =
    s.setFlag f { s.flag f with
      val := if op = 0 then true else if op = 1 then false else !(s.flag f).val, act := some ((s.hewer h).edge, h), was := (s.flag f).val
      hist := notedChange (s.flag f).hist (s.hewer h).edge (s.flag f).val } := by
  have h64 : h ≠ 64 := (Nat.ne_of_lt hh)
  unfold flagOp
  dsimp only
  rw [if_neg h64]
  cases hact : (s.flag f).act with
  | none =>
    dsimp only
    rw [if_neg h64]
    rfl
  | some v =>
    obtain ⟨a, k⟩ := v
    have hno : ¬(a = (s.hewer h).edge ∧ k ≠ h) := by
      rintro ⟨he, hk⟩
      rcases ha a k hact with hlt | hsame
      · exact absurd he (Nat.ne_of_lt hlt)
      · exact hk hsame.2
    have hrank : ¬outranked (s.hewer h).edge h (some (a, k)) = true := by
      simp only [outranked, Bool.or_eq_true, decide_eq_true_eq, Bool.and_eq_true, beq_iff_eq]
      rcases ha a k hact with hlt | ⟨he, hk⟩ <;> omega
    dsimp only
    rw [if_neg hrank]
    simp [hno, h64]

/-- A hewer's action on a flag that another with a higher number has acted on at its edge (R280, R290). -/
theorem flagOp_outranked {f op k : Nat} (hh : h < 64) (ha : (s.flag f).act = some ((s.hewer h).edge, k)) (hk : h < k) :
    flagOp s h f op = if k = 64 then s.count cRegOverride h else s := by
  have h64 : h ≠ 64 := (Nat.ne_of_lt hh)
  have hrank : outranked (s.hewer h).edge h (some ((s.hewer h).edge, k)) = true := by simp [outranked, hk]
  unfold flagOp
  dsimp only
  rw [if_neg h64, ha]
  dsimp only
  rw [if_pos hrank, if_pos ⟨rfl, (Nat.ne_of_gt hk)⟩]
  by_cases hkk : k = 64 <;> simp [hkk, h64, State.countIf]

/-! FIFOs, start edges and the state after a tick (R278, R287, R288, R296). -/

theorem drainRx_last {v : Word} (hr : (s.hewer h).rx = [(v, true)]) (hq : (s.hewer h).cfg.rxQueue < 4096)
    (ha : appendOpen s (s.hewer h).cfg.rxQueue (leBytes 4 v.toNat) 0 false = (t, true)) :
    drainRx s h 1 = commitOpen (t.setHewer h { t.hewer h with rx := [], inQueue := 0 }) (s.hewer h).cfg.rxQueue none := by
  unfold drainRx
  dsimp only
  rw [hr]
  dsimp only
  refine (if_neg ?_).trans ?_
  · simp [Nat.not_le.mpr hq]
  · rw [ha]
    rfl

theorem fillTx_one {k : Packet} {r : List Packet} (hst : (s.hewer h).st = 1) (hl : (s.hewer h).tx.length < 8) (hq : (s.hewer h).cfg.txQueue < 4096)
    (he : (s.queue (s.hewer h).cfg.txQueue).enable = true) (hp : (s.queue (s.hewer h).cfg.txQueue).packets = k :: r) :
    let q := (s.hewer h).cfg.txQueue
    let o := (s.queue q).popped
    fillTx s h 1 =
      let t := s.setHewer h { s.hewer h with tx := (s.hewer h).tx ++ [(w32 (leAt k.bytes o 4), decide (o + 4 ≥ k.bytes.length))] }
      if decide (o + 4 ≥ k.bytes.length) then wmEval (releaseHead (readCells t q k.cells) q) q else t.setQueue q { t.queue q with popped := o + 4 } := by
  intro q o
  have hgo : ¬(decide (q ≥ 4096) || decide ((s.hewer h).tx.length ≥ 8) || !(s.queue q).enable || (s.hewer h).st != 1) = true := by
    simp [q, hst, he, hl, hq]
  unfold fillTx
  dsimp only
  rw [hp]
  dsimp only
  rw [if_neg hgo]
  rfl

theorem startEdges_one {u : Nat} {x : Hewer} (hx : s.field.hewers = [(h, x)]) (hu : u < 64) : exec (.hewerStartEdge u) s = .next
    (if x.st = 2 ∧ x.armUnit = u ∧ x.armCount < (s.trig u).fireCount then s.setHewer h (startEdge x x.armRestart (s.trig u).firedEdge) else s) := by
  refine (if_pos hu).trans (congrArg _ ?_)
  rw [hx]
  simp only [forEach, List.foldl_cons, List.foldl_nil, Bool.and_eq_true, beq_iff_eq, decide_eq_true_eq, and_assoc]

theorem ticks_one (x : Hewer) : x.ticks 1 =
    { x with rem := (x.rem + x.cfg.divFrac) % 256, edge := x.edge + x.cfg.divInt + (x.rem + x.cfg.divFrac) / 256 } := by
  simp [Hewer.ticks]

end

section
variable {s : State} {h w : Nat}

/-- A hewer after an instruction that completes: its next instruction and its next tick (R278, R279). -/
theorem hewer_completeHw (j : Option Nat) : (completeHw s h w j).hewer h = { s.hewer h with
    pc := match j with
      | some a => if a % 64 < (s.hewer h).prog.length then a % 64 else (s.hewer h).loopTo
      | none => if (s.hewer h).pc + 1 < (s.hewer h).prog.length then (s.hewer h).pc + 1 else (s.hewer h).loopTo
    stall := 0, began := false, extU := none, extV := none, delay := delayOf w
    rem := ((s.hewer h).rem + (s.hewer h).cfg.divFrac) % 256
    edge := (s.hewer h).edge + (s.hewer h).cfg.divInt + ((s.hewer h).rem + (s.hewer h).cfg.divFrac) / 256 } := by
  unfold completeHw
  dsimp only
  rw [State.count_hewer, State.setHewer_hewer_same, ticks_one]
  cases j <;> rfl

end

/-- Settles O40, clause by clause. -/
theorem hewerInstructions : Obligations.HewerInstructions := by
  unfold Obligations.HewerInstructions
  refine ⟨fun h s hh => ?rows, fun s h u x hu hx => ?start, fun s h w j => ?after⟩
  case rows =>
    intro x w c ops n d done putU putV stop
    refine ⟨fun e he => ?each, fun hs => unit_startHw_fin hh hs rfl, fun v hs hv => ?mov, fun hs => ?jmp, fun hs => ?djnz, fun hs hsrc hp hb => ?latch,
      fun hs hsrc hp hb => ?unit, fun hs hb hauto hd => ?inFree, fun hs hb hauto hfull hdrop hl hd => ?inFull, fun hs hf hc => ?out,
      fun hs hf hc ht => unit_startHw_stall hh hs (hwOut_empty hf hc ht), fun hs hw hdrop => ?push, fun hs hw => ?pull, fun hs hb hdrop hl => ?tstamp,
      fun hs hp => unit_startHw_fin hh hs (hwAbort_closed hp), fun hs hp hq => ?abort,
      fun hs ha => unit_startHw_fin hh hs (congrArg (HwEnd.fin none) (flagOp_alone hh ha)), fun hs ha => ?flagHost, fun k hs ha hk h64 => ?flagHewer,
      fun hs => unit_startHw_fin hh hs rfl, fun hd hst => ?retry, fun hi => (if_pos hh).trans (congrArg _ (stallRetry_idle hi)), fun hr => ?drained,
      fun v t hr hq ha => ?drain, fun hl => ?filled, fun k r hst hl hq he hp => ?fill⟩
    case each =>
      obtain ⟨act, hexec, hact⟩ := exec_hwRow (s := s) he hh
      refine ⟨fun hs => hexec.trans (congrArg _ (startHw_idle hs)), fun j t hs ha => ?_, fun k t hs ha => ?_⟩
      · exact (hexec.trans (if_pos hh).symm).trans (unit_startHw_fin hh hs ((hact (opc_of_hwStarts hs)).symm.trans ha))
      · exact (hexec.trans (if_pos hh).symm).trans (unit_startHw_stall hh hs ((hact (opc_of_hwStarts hs)).symm.trans ha))
    case mov =>
      have hrun : hwMov h w s = if d = 4 then .fin none (s.setHewer h { x with g := v, gCnt := 0 })
          else if d = 5 then .fin none (s.setHewer h { x with s := v, sCnt := 0 })
          else if d = 6 then .fin (some v.toNat) s
          else .fin none (destCommon s h d v.toNat c.outBase c.outCount) := by
        subst hv
        rfl
      have hu (a : Nat) (hd : d = a) : hwMov h w s = if a = 4 then .fin none (s.setHewer h { x with g := v, gCnt := 0 })
          else if a = 5 then .fin none (s.setHewer h { x with s := v, sCnt := 0 })
          else if a = 6 then .fin (some v.toNat) s
          else .fin none (destCommon s h a v.toNat c.outBase c.outCount) := by
        rw [← hd]
        exact hrun
      refine ⟨fun hd => unit_startHw_fin hh hs (hu 0 hd), fun hd => unit_startHw_fin hh hs ((hu 2 hd).trans ?_),
        fun hd => unit_startHw_fin hh hs ((hu 3 hd).trans ?_), fun hd => unit_startHw_fin hh hs (hu 4 hd), fun hd => unit_startHw_fin hh hs (hu 5 hd),
        fun hd => unit_startHw_fin hh hs (hu 6 hd)⟩
      · show HwEnd.fin none (setUV s h false (w32 v.toNat)) = _
        rw [w32_toNat]
        rfl
      · show HwEnd.fin none (setUV s h true (w32 v.toNat)) = _
        rw [w32_toNat]
        rfl
    case jmp =>
      have hjump (ht : jmpCond s h w = true) : hwJmp h w s =
          .fin (some n) (if bitsAt w 15 4 = 9 then s.setHewer h { x with tlatch := false } else s) := if_pos ht
      have hstay (ht : jmpCond s h w = false) : hwJmp h w s = .fin none s := if_neg (Bool.eq_false_iff.mp ht)
      refine ⟨fun hc => unit_startHw_fin hh hs ((hjump ?_).trans ?_), fun hc => ?_, fun hc => ?_, fun hc ht => unit_startHw_fin hh hs ((hjump ?_).trans ?_)⟩
      · rw [jmpCond, hc]; rfl
      · rw [hc]; rfl
      · have hcond : jmpCond s h w = (x.u != x.v) := by rw [jmpCond, hc]; rfl
        by_cases huv : x.u = x.v
        · rw [if_pos huv]
          exact unit_startHw_fin hh hs (hstay (by rw [hcond, huv, bne_self_eq_false]))
        · rw [if_neg huv]
          exact unit_startHw_fin hh hs ((hjump (by rw [hcond, bne_iff_ne]; exact huv)).trans (by rw [hc]; rfl))
      · have hcond : jmpCond s h w = decide (x.u.toNat < x.v.toNat) := by rw [jmpCond, hc]; rfl
        by_cases huv : x.u.toNat < x.v.toNat
        · rw [if_pos huv]
          exact unit_startHw_fin hh hs ((hjump (by rw [hcond, decide_eq_true huv])).trans (by rw [hc]; rfl))
        · rw [if_neg huv]
          exact unit_startHw_fin hh hs (hstay (by rw [hcond, decide_eq_false huv]))
      · rw [jmpCond, hc]; exact ht
      · rw [hc]; rfl
    case djnz =>
      exact ⟨fun hb => unit_startHw_fin hh hs (hwDjnz_u hb), fun hb => unit_startHw_fin hh hs (hwDjnz_v hb)⟩
    case latch =>
      exact ⟨fun ht => unit_startHw_fin hh hs ((hwWait_latch hb hsrc hp).trans (if_pos ht)),
        fun ht => unit_startHw_stall hh hs ((hwWait_latch hb hsrc hp).trans (if_neg (Bool.eq_false_iff.mp ht)))⟩
    case unit =>
      refine ⟨fun hc he => unit_startHw_fin hh hs ((hwWait_unit hb hsrc hp).trans (if_pos ⟨hc, he⟩)),
        fun hno => unit_startHw_stall hh hs ((hwWait_unit hb hsrc hp).trans (if_neg ?_))⟩
      rintro ⟨hc, he⟩
      exact hno.elim (Nat.ne_of_gt hc) fun hlt => absurd he (Nat.ne_of_lt hlt)
    case inFree =>
      exact unit_startHw_fin hh hs ((hwIn_gathered hb hd).trans (if_neg fun hx => absurd (hx.1.symm.trans hauto) (by decide)))
    case inFull =>
      refine unit_startHw_stall hh hs ((hwIn_gathered hb hd).trans ((if_pos ⟨hauto, hfull⟩).trans ?_))
      rw [pushWords_full]
      · rw [State.setHewer_hewer_same]; exact hdrop
      · rw [State.setHewer_hewer_same]; exact Nat.lt_succ_of_le hl
    case out =>
      exact ⟨fun hd => unit_startHw_fin hh hs ((hwOut_shifted hf hc).trans (outBits_jump hd)),
        fun hd => unit_startHw_fin hh hs ((hwOut_shifted hf hc).trans (outBits_gather hd))⟩
    case push =>
      refine ⟨fun hl => unit_startHw_fin hh hs ((hwPush_eq hw).trans ?_), fun hl hb => unit_startHw_stall hh hs ((hwPush_eq hw).trans ?_)⟩
      · rw [pushWords_one hdrop hl]
        dsimp only
        rw [State.setHewer_hewer_same, State.setHewer_setHewer]
      · rw [show bitAt (s.hewer h).word 17 = true from hb, pushWords_full (l := [(s.hewer h).g]) hdrop (Nat.lt_succ_of_le hl)]
    case pull =>
      refine ⟨fun v l r ht => unit_startHw_fin hh hs ((hwPull_eq hw).trans ?_), fun ht hb => unit_startHw_stall hh hs ((hwPull_empty hw ht).trans (if_pos hb)),
        fun ht hb => unit_startHw_fin hh hs ((hwPull_empty hw ht).trans (if_neg (Bool.eq_false_iff.mp hb)))⟩
      rw [pullWord, show (s.hewer h).tx = (v, l) :: r from ht]
    case tstamp =>
      obtain ⟨t, hlo, hhi, ht⟩ := hwTstamp_one (w := w) hb hdrop hl
      exact ⟨t, hlo, hhi, unit_startHw_fin hh hs ht⟩
    case abort =>
      obtain ⟨hrx, hpkt, hctr⟩ := breakPacket_fifo (s := s) (h := h)
      refine ⟨_, unit_startHw_fin hh hs (hwAbort_open hp), ?_⟩
      rw [State.setHewer_hewer_same, State.count_hewer]
      refine ⟨rfl, rfl, hpkt, hrx, ?_⟩
      show ((breakPacket s h).count cHewerAborts h).ctr cHewerAborts h = _
      rw [ctr_count_same, hctr]
    case flagHost => exact unit_startHw_fin hh hs (congrArg (HwEnd.fin none) ((flagOp_outranked hh ha hh).trans (if_pos rfl)))
    case flagHewer => exact unit_startHw_fin hh hs (congrArg (HwEnd.fin none) ((flagOp_outranked hh ha hk).trans (if_neg (Nat.ne_of_lt h64))))
    case retry =>
      have hrun := stallRetry_due hd hst
      exact ⟨fun j t ha => (if_pos hh).trans (congrArg _ (hrun.trans (by rw [show hwAct h (s.hewer h).word s = _ from ha]; rfl))),
        fun k t ha => (if_pos hh).trans (congrArg _ (hrun.trans (by rw [show hwAct h (s.hewer h).word s = _ from ha]; rfl)))⟩
    case drained =>
      refine (if_pos hh).trans (congrArg _ ?_)
      rw [show (s.hewer h).rx = [] from hr]
      rfl
    case drain =>
      refine (if_pos hh).trans (congrArg _ ?_)
      rw [show (s.hewer h).rx.length = 1 from congrArg List.length hr]
      exact drainRx_last hr hq ha
    case filled =>
      refine (if_pos hh).trans (congrArg _ ?_)
      rw [show 8 - (s.hewer h).tx.length = 0 from Nat.sub_eq_zero_of_le hl]
      rfl
    case fill =>
      intro o
      have hone := fillTx_one hst (Nat.lt_of_le_of_lt (Nat.le_of_eq hl) (by decide)) hq he hp
      have hrun : exec (.txFifoFill h) s = .next (fillTx s h 1) := by
        refine (if_pos hh).trans (congrArg _ ?_)
        rw [show (s.hewer h).tx.length = 7 from hl]
      refine ⟨fun hlt => hrun.trans (congrArg _ (hone.trans ?_)), fun hle => hrun.trans (congrArg _ (hone.trans ?_))⟩
      · dsimp only
        rw [decide_eq_false (Nat.not_le.mpr hlt)]
        rfl
      · dsimp only
        rw [decide_eq_true hle]
        rfl
  case start =>
    refine ⟨fun hst ha hc hr => (startEdges_one hx hu).trans (congrArg _ ((if_pos ⟨hst, ha, hc⟩).trans
        (congrArg (fun b => s.setHewer h (startEdge x b (s.trig u).firedEdge)) hr))),
      fun hno => (startEdges_one hx hu).trans (congrArg _ (if_neg ?_))⟩
    rintro ⟨hst, ha, hc⟩
    exact hno.elim (fun h => h hst) fun hno => hno.elim (fun h => h ha) (Nat.not_le.mpr hc)
  case after =>
    intro x t
    refine ⟨?_, ?_, ?_, ?_, ctr_count_same .., fun hno => if_neg ?_, fun hd hdel => ?_⟩
    · cases j <;> rw [hewer_completeHw] <;> rfl
    · rw [hewer_completeHw]
    · rw [hewer_completeHw]
    · rw [hewer_completeHw]
    · rw [Bool.and_eq_true, bne_iff_ne]
      rintro ⟨hd, hdel⟩
      exact hno.elim (fun hn => absurd (hd.symm.trans hn) (by decide)) hdel
    · refine (if_pos (by rw [hd, bne_iff_ne.mpr hdel]; rfl)).trans ?_
      rw [ticks_one]
      rfl

end Sys2Proof.Machine

/-!
SUPPORT and O41 (R304 to R327).
-/
namespace Sys2Proof.Machine

section
variable {s t : State} {a : Nat}

/-! The PCIe link (R308, R327). -/

/-- A notice of an attachment that no partition is bound to changes nothing but its source. -/
theorem raise_unbound (ha : a < 28) (hb : (s.att a).bound = none) (cause data : Nat) :
    ∃ x, raise s (srcDiag (256 + a)) cause data = s.setSource (srcDiag (256 + a)) x := by
  have hown (x : EvSrc) (c f d : Nat) : deliverRecord (s.setSource (srcDiag (256 + a)) x) (srcDiag (256 + a)) c f d = s.setSource (srcDiag (256 + a)) x := by
    have hnone : (s.setSource (srcDiag (256 + a)) x).sourceOwner (srcDiag (256 + a)) = none := by
      have hlo : 6240 ≤ srcDiag (256 + a) := by unfold srcDiag; omega
      have hhi : srcDiag (256 + a) < 6268 := by unfold srcDiag; omega
      have hidx : srcDiag (256 + a) - 6240 = a := by unfold srcDiag; omega
      rw [State.sourceOwner, if_pos ⟨hlo, hhi⟩, hidx]
      exact hb
    unfold deliverRecord
    rw [hnone]
  unfold raise
  dsimp only
  simp only [hown]
  repeat' split
  all_goals exact ⟨_, rfl⟩

theorem pcieDown_bme : pcieDown s a 2 =
    let s1 := s.setAtt a { s.att a with bme := false }
    if (s.att a).pcieUp then attDown (cutAtt (recoverPop s1 a) a) a else s1 := by
  unfold pcieDown
  simp

theorem pcieDown_link (h : (s.att a).pcieUp = false) : pcieDown s a 0 = s.setAtt a { s.att a with
    linkUp := false, bme := false, mse := false, msix := [], msixPend := 0 } := by
  unfold pcieDown
  simp [h]

theorem loadRcv_notice {addr : RingAddr} {data : List Byte} {flags : Nat} (hfree : bitAt (s.att a).rcvStatus 0 = false) (hf : flags < 8) :
    loadRcv s a addr data flags false false true = raise ((s.setAtt a { s.att a with
      rcvStatus := 1 + flags * 8 + data.length * 256, rcvAddr := addrValue addr, rcvData := leNat data }).count cPopRecovered a)
      (srcDiag (256 + a)) 1 0 := by
  unfold loadRcv
  dsimp only
  rw [hfree, Nat.mod_eq_of_lt hf]
  simp [State.countIf, b2n]

/-- The state once the answer of a POP that the loss of the link cut off is taken back (R308). -/
def popTaken (s : State) (a : Nat) (k : PopReply) : State :=
  { s.setAtt a { s.att a with popReply := none } with out := (s.out.reverse.erase (.reply a 0 false k.data)).reverse }

theorem att_popTaken {k : PopReply} : (popTaken s a k).att a = { s.att a with popReply := none } := State.setAtt_att_same ..

/-- The state once the bytes of such a POP are kept (R327, log 44). -/
def popKept (s : State) (a : Nat) (k : PopReply) : State :=
  ((popTaken s a k).setAtt a { (popTaken s a k).att a with
    rcvStatus := 1 + k.flags * 8 + (k.data.take k.bytes).length * 256, rcvAddr := addrValue k.addr, rcvData := leNat (k.data.take k.bytes) }).count
      cPopRecovered a

theorem att_popKept {k : PopReply} : (popKept s a k).att a = { s.att a with
    popReply := none, rcvStatus := 1 + k.flags * 8 + (k.data.take k.bytes).length * 256, rcvAddr := addrValue k.addr
    rcvData := leNat (k.data.take k.bytes) } := by
  rw [popKept, State.count_att, State.setAtt_att_same, att_popTaken]

theorem recoverPop_now {k : PopReply} (ha : a < 28) (hb : (s.att a).bound = none) (hk : (s.att a).popReply = some k) (hnow : k.lt = s.lt)
    (hfree : bitAt (s.att a).rcvStatus 0 = false) (hflags : k.flags < 8) :
    ∃ y, recoverPop s a = (popKept s a k).setSource (srcDiag (256 + a)) y := by
  have hload := loadRcv_notice (s := popTaken s a k) (a := a) (addr := k.addr) (data := k.data.take k.bytes)
    (by rw [att_popTaken]; exact hfree) hflags
  obtain ⟨y, hy⟩ := raise_unbound (s := popKept s a k) ha (by rw [att_popKept]; exact hb) 1 0
  refine ⟨y, Eq.trans ?_ (hload.trans hy)⟩
  unfold recoverPop
  rw [hk]
  exact if_pos hnow

/-- A link that goes down with nothing outstanding leaves the kept bytes (R308, R327). -/
theorem pcieDown_pop {k : PopReply} (ha : a < 8) (hup : (s.att a).pcieUp = true) (hb : (s.att a).bound = none) (hk : (s.att a).popReply = some k)
    (hnow : k.lt = s.lt) (hfree : bitAt (s.att a).rcvStatus 0 = false) (hbytes : k.bytes ≤ k.data.length) (hflags : k.flags < 8) :
    ((pcieDown s a 2).att a).rcvStatus = 1 + k.flags * 8 + k.bytes * 256 ∧ ((pcieDown s a 2).att a).rcvData = leNat (k.data.take k.bytes) ∧
      ((pcieDown s a 2).att a).bme = false ∧ (pcieDown s a 2).ctr cPopRecovered a = s.ctr cPopRecovered a + 1 := by
  let s1 := s.setAtt a { s.att a with bme := false }
  have h1 : s1.att a = { s.att a with bme := false } := State.setAtt_att_same ..
  obtain ⟨y, hy⟩ := recoverPop_now (s := s1) (a := a) (k := k) (by omega) (by rw [h1]; exact hb) (by rw [h1]; exact hk) hnow
    (by rw [h1]; exact hfree) hflags
  have hdown : pcieDown s a 2 = attDown (cutAtt ((popKept s1 a k).setSource (srcDiag (256 + a)) y) a) a := by
    rw [pcieDown_bme]
    dsimp only
    rw [if_pos hup, hy]
  have hatt : (cutAtt ((popKept s1 a k).setSource (srcDiag (256 + a)) y) a).att a = { s.att a with
      bme := false, popReply := none, rcvStatus := 1 + k.flags * 8 + k.bytes * 256, rcvAddr := addrValue k.addr
      rcvData := leNat (k.data.take k.bytes) } := by
    show (popKept s1 a k).att a = _
    rw [att_popKept, h1, List.length_take, Nat.min_eq_left hbytes]
  have hstay : attDown (cutAtt ((popKept s1 a k).setSource (srcDiag (256 + a)) y) a) a = cutAtt ((popKept s1 a k).setSource (srcDiag (256 + a)) y) a := by
    unfold attDown
    rw [hatt]
    dsimp only
    rw [hb]
  rw [hdown, hstay, hatt]
  refine ⟨rfl, rfl, rfl, ?_⟩
  exact ctr_count_same ..

theorem sendHeld_none (h : (s.att a).msixPend = 0) : sendHeld s a = s := by
  have hnone : maskList 64 0 = [] := by decide
  unfold sendHeld
  dsimp only
  rw [h, hnone]
  split <;> rfl

/-! Accesses of a PCIe function (R304 to R307, R324). -/

theorem atomic_bar0 {p op off n o : Nat} {d : List Byte} (hb : bar0At off d.length = .space n o) (hop : op = 1 ∨ op = 2)
    (hd : d.length = 4 ∨ d.length = 8) : pcieAtomicRun s a p 0 off op d = accept s {
      tag := noTag, kind := tLockRead, addr := { part := p, space := n, off := o }, len := d.length, part := p, att := a, atomic := op, operand := d } := by
  have h3 : op ≠ 3 := by omega
  have hok : atomicOk op d.length 16 32 = true := by simp [atomicOk, hop, hd]
  unfold pcieAtomicRun
  dsimp only
  rw [hok, if_neg h3, if_neg (by decide), if_pos rfl, hb]
  dsimp only
  rw [atomicReq, if_neg h3]

theorem bar2Write_taken {p off : Nat} {d : List Byte} (h1 : 1 ≤ d.length) (h512 : d.length ≤ 512) (hoff : off + d.length ≤ 2 ^ 28) :
    bar2Write s a p off d = accept s { tag := noTag, kind := tWriteP, addr := winAddr s a off, len := d.length, data := d, part := p, att := a } := by
  have hne : d.isEmpty = false := by cases d <;> simp_all
  refine if_neg ?_
  rw [hne, decide_eq_false (Nat.not_lt.mpr h512), decide_eq_false (Nat.not_lt.mpr hoff)]
  decide

/-! SPI frames (R310 to R313). -/

section
variable {cs cmd len p : Nat} {addr : RingAddr} {spec cut : Bool} {d : List Byte}

theorem spiFrame_bad (hf : spiForm cmd len = false) : spiFrame s cs cmd addr len spec d false =
    if cmd = 2 then (spiUp s (8 + cs)).count cSpiPostedFail (8 + cs) else (spiUp s (8 + cs)).emit (.reply (8 + cs) 9 false []) := by
  unfold spiFrame
  dsimp only
  rw [hf]
  rfl

theorem spiFrame_taken (hf : spiForm cmd len = true) (ho : s.isOpen 0 = true) (hb : (s.att (8 + cs)).bound = some p) :
    spiFrame s cs cmd addr len spec d false = accept (spiUp s (8 + cs)) { spiReq (8 + cs) p cmd addr len spec d with cut := false } := by
  have ho' : (spiUp s (8 + cs)).isOpen 0 = true := ho
  have hb' : ((spiUp s (8 + cs)).att (8 + cs)).bound = some p := by
    rw [spiUp, State.setAtt_att_same]
    exact hb
  unfold spiFrame
  dsimp only
  rw [hf, ho', hb']
  rfl

theorem spiForm_plain (hc : cmd = 1 ∨ cmd = 2 ∨ cmd = 3) : spiForm cmd len = decide (1 ≤ len ∧ len ≤ 1024) := by
  rw [spiForm, if_pos hc, Bool.decide_and]

end

/-! The bridge (R51, R317, R323). -/

/-- A read that reaches its space has an answer (R51). -/
def Ans.answered (r : Ans) : Prop := r.st < 8

theorem answered_ansOk (d : List Byte) : (ansOk s d).answered := (show 0 < 8 by decide)
theorem answered_ansUr : (ansUr s).answered := (show 1 < 8 by decide)
theorem answered_ansCa : (ansCa s).answered := (show 2 < 8 by decide)
theorem answered_ite {c : Prop} [Decidable c] {x y : Ans} (hx : x.answered) (hy : y.answered) : (if c then x else y).answered := by
  split
  · exact hx
  · exact hy

theorem answered_memAns (space off len : Nat) (d : List Byte) : (memAns s space off len d).answered :=
  answered_ite ((show 5 < 8 by decide)) (answered_ansOk d)

theorem answered_ownQueue {p q : Nat} {f : Ans} (hf : f.answered) : (ownQueue s p q f).answered := answered_ite hf answered_ansCa

theorem answered_ctrlRead (p off len : Nat) : (ctrlRead s p off len).answered := by
  refine answered_ite answered_ansUr ?_
  split
  · exact answered_ite (answered_ansOk _) answered_ansCa
  · exact answered_ansOk _

theorem answered_mbxRead (p off len : Nat) : (mbxRead s p off len).answered :=
  answered_ite (answered_ansOk _) (answered_ite (answered_ansOk _) answered_ansUr)

theorem answered_cycleRead (p off len : Nat) : (cycleRead s p off len).answered :=
  answered_ite answered_ansUr (answered_ite (answered_ansOk _)
    (answered_ite (answered_ite (answered_ansOk _) answered_ansCa) answered_ansUr))

theorem answered_holdView (q off len : Nat) : (holdView s q off len).answered := by
  refine answered_ite (answered_ansOk _) ?_
  split
  · exact answered_ite (answered_ansOk _) (answered_ansOk _)
  · exact answered_ansOk _

theorem answered_consumerRead (a : Acc) (q r len : Nat) : (consumerRead s a q r len).answered :=
  answered_ite (answered_ansOk _) (answered_ite (answered_ansOk _) (answered_ite (answered_ansOk _) (answered_ite (answered_ansOk _)
    (answered_ite (answered_ansOk _) (answered_ite (answered_ansOk _) (answered_ansOk _))))))

theorem answered_queueRead (a : Acc) (p off len : Nat) : (queueRead a p off len s).answered := by
  refine answered_ite ?_ (answered_ite ?_ answered_ansUr)
  · dsimp only
    split
    · exact answered_ansUr
    · exact answered_ite (answered_ite (answered_ite (answered_ansOk _) answered_ansCa) answered_ansUr)
        (answered_ite (answered_ownQueue (answered_consumerRead ..)) answered_ansUr)
  · split
    · exact answered_ansUr
    · exact answered_ite (answered_ownQueue (answered_holdView ..)) answered_ansUr

theorem answered_assayRead (p off len : Nat) : (assayRead s p off len).answered := by
  have hgive (ok : Bool) (b : List Byte) (base : Nat) :
      (if !ok then ansCa s else if !s.assayReach then (⟨5, [], s⟩ : Ans) else ansOk s (bytesAt b (off - base) len)).answered :=
    answered_ite answered_ansCa (answered_ite ((show 5 < 8 by decide)) (answered_ansOk _))
  exact answered_ite answered_ansUr (answered_ite (hgive ..) (answered_ite (hgive ..) (answered_ite (hgive ..) (answered_ite (hgive ..) answered_ansUr))))

theorem answered_okUr {c : Prop} [Decidable c] {d : List Byte} : (if c then ansOk s d else ansUr s).answered :=
  answered_ite (answered_ansOk _) answered_ansUr

theorem answered_timeRead (p off len : Nat) : (timeRead s p off len).answered := by
  unfold timeRead
  exact answered_ite answered_ansUr (answered_ite answered_okUr (answered_ite answered_okUr (answered_ite answered_okUr
    (answered_ite answered_okUr (answered_ite answered_okUr (answered_ite answered_okUr (answered_ite answered_okUr (answered_ite answered_okUr
    (answered_ite answered_ansUr (answered_ite (answered_ite answered_ansUr (answered_ite (answered_ansOk _) answered_ansCa))
    (answered_ite answered_okUr (answered_ite (answered_ite answered_ansUr (answered_ite answered_okUr answered_ansCa))
      (answered_ite answered_ansUr (answered_ite (answered_ansOk _) answered_ansCa))))))))))))))

theorem answered_spaceRead (a : Acc) (p space off len : Nat) : (spaceRead s a p space off len).answered :=
  answered_ite (answered_ctrlRead ..) (answered_ite (answered_mbxRead ..) (answered_ite (answered_cycleRead ..) (answered_ite (answered_queueRead ..)
    (answered_ite (answered_ite (answered_memAns ..) answered_ansCa) (answered_ite (answered_assayRead ..) (answered_ite (answered_timeRead ..)
      (answered_ite (answered_memAns ..) answered_ansUr)))))))

/-- A read waits at a stopped island: it may be asked, and the island of its space is not reachable (R14). -/
def heldTx (s : State) (t : Tx) : Prop :=
  ¬ (s.boot.rescue = true ∧ (t.addr.node ≠ 0 ∨ (!([0, 1, 4].contains t.addr.space)) = true)) ∧ ¬ (!s.isOpen t.p || !s.isOpen t.addr.part) = true ∧
    ¬ (t.addr.off + t.len > s.spaceSize t.addr.space ∨ t.len = 0) ∧ s.crossable (spaceIsland t.addr.space) = false

theorem answered_serveRead (t : Tx) : (serveRead s t).answered :=
  answered_ite (show 3 < 8 by decide) (answered_ite answered_ansUr (answered_ite answered_ansCa (answered_spaceRead ..)))

/-- A read has no answer just when it waits at a stopped island (R14). -/
theorem serveTx_held_iff {t : Tx} (hk : t.kind = tRead) : (serveTx s t).st = 8 ↔ heldTx s t := by
  have hlock : (tRead == tLockRead || tRead == tWriteUnlock) = false := by decide
  have hno : ∀ {r : Ans}, r.answered → (r.st = 8 ↔ False) := fun h => iff_false_intro (Nat.ne_of_lt h)
  unfold serveTx heldTx
  dsimp only
  rw [hk, hlock]
  split
  case isTrue hr => exact (hno answered_ansUr).trans (iff_of_false not_false fun h => h.1 hr)
  case isFalse hr =>
    split
    case isTrue ho => exact (hno (r := ansNr s) (show 6 < 8 by decide)).trans (iff_of_false not_false fun h => h.2.1 ho)
    case isFalse ho =>
      split
      case isTrue hb =>
        refine (hno answered_ansUr).trans (iff_of_false not_false fun h => h.2.2.1 ?_)
        exact hb.imp_right fun hb => hb.elim (fun h => h.1) fun h => absurd h.1 (by decide)
      case isFalse hb =>
        have hb' : ¬ (t.addr.off + t.len > s.spaceSize t.addr.space ∨ t.len = 0) := fun h =>
          hb (h.imp_right fun h => .inl ⟨h, by decide⟩)
        cases hc : s.crossable (spaceIsland t.addr.space) with
        | false => exact iff_of_true rfl ⟨hr, ho, hb', rfl⟩
        | true =>
          refine (hno ?_).trans (iff_of_false not_false fun h => absurd h.2.2.2 nofun)
          exact answered_serveRead t

/-- A read that has an answer does not wait at the bridge. -/
theorem stalls_read {r : OutReq} {c : CtrId} {i : Nat} (k : Nat) (hl : s.isLocal r.addr.node = true) (hk : r.kind = tRead)
    (h : (serveTx (s.count c i) { r with tag := k }.tx).st ≠ 8) : stalls s r = false := by
  refine (if_pos hl).trans (Bool.eq_false_iff.mpr fun h8 => h ?_)
  obtain ⟨hr, ho, hb, hc⟩ := (serveTx_held_iff (t := r.tx) hk).mp (eq_of_beq h8)
  have hheld : heldTx (s.count c i) { r with tag := k }.tx := ⟨hr, ho, hb, hc⟩
  exact (serveTx_held_iff hk).mpr hheld

theorem isPop_tag (r : OutReq) (k : Nat) : ({ r with tag := k } : OutReq).isPop = r.isPop := by
  unfold OutReq.isPop
  dsimp only

/-- A read of a PCIe function that is served here (R51, R317, R323). -/
theorem accept_localRead {r : OutReq} (hpop : r.isPop = false) (hat : r.atomic = 0) (hres : s.boot.rescue = false)
    (hx : (s.part r.part).ktx22 = false) (hl : s.isLocal r.addr.node = true) (hn : s.ring.node < 251) (hk : r.kind = tRead)
    (htag : 1024 ≤ r.tag) (ha : r.att < 8)
    (hv : (serveTx (s.count cAttReads r.att) { r with tag := (s.count cAttReads r.att).freeKey }.tx).st ≠ 8) :
    accept s r = localTry (s.count cAttReads r.att) { r with tag := (s.count cAttReads r.att).freeKey } := by
  have hnode : r.addr.node < 251 := by
    rcases (Bool.or_eq_true _ _).mp hl with h | h
    · rw [eq_of_beq h]
      decide
    · rw [eq_of_beq h]
      exact hn
  have hcount : countAccess s r = s.count cAttReads r.att := by
    unfold countAccess
    rw [if_neg (not_not_intro hat), if_pos (.inl hk)]
  have hl' : (s.count cAttReads r.att).isLocal r.addr.node = true := hl
  unfold accept
  dsimp only
  rw [hpop, stalls_read _ hl hk hv, hcount, Bool.false_and, Bool.false_and, if_neg Bool.false_ne_true, if_neg Bool.false_ne_true, if_neg (fun h => h.1 hat)]
  unfold route
  dsimp only
  rw [if_neg (fun h => absurd (hres.symm.trans h.1) (by decide)), if_neg (by omega), if_neg (by omega),
    if_neg (fun h => absurd (hx.symm.trans h.1) (by decide)), if_pos hl', if_neg (by omega)]

theorem localTry_read {q : OutReq} (hpop : q.isPop = false) (hat : q.atomic = 0) (hk : q.kind = tRead) (ha : q.att < 8) (hcut : q.cut = false)
    (hr : q.read = false) :
    ((serveTx s q.tx).st = 0 → localTry s q = (serveTx s q.tx).s.emit (.reply q.att 0 false (serveTx s q.tx).data)) ∧
    ((serveTx s q.tx).st = 1 → localTry s q = (serveTx s q.tx).s.emit (.reply q.att 1 false [])) ∧
    ((serveTx s q.tx).st = 2 → localTry s q = (serveTx s q.tx).s.emit (.reply q.att 2 false [])) ∧
    ((serveTx s q.tx).st = 3 → localTry s q = waitRetry (serveTx s q.tx).s q) := by
  have hp : ¬ q.kind = tWriteP := by rw [hk]; decide
  have hend (st : Nat) (d : List Byte) (o : Option (Nat × Nat)) (t : State) : endReq t q st d o = portReply t q.att q.width st d := by
    unfold endReq keepPop replyTo
    dsimp only
    rw [hpop, hr, hcut, if_neg Bool.false_ne_true, if_neg Bool.false_ne_true, if_neg hp, if_neg (Nat.not_le.mpr (Nat.lt_trans ha (by decide)))]
    rfl
  unfold localTry
  dsimp only
  rw [if_neg hp, hend, portReply, if_pos ha]
  refine ⟨fun h => ?_, fun h => ?_, fun h => ?_, fun h => ?_⟩
  · rw [h, if_neg (by decide), if_neg (fun h => absurd h.1 (by decide)), if_neg (fun h => h.1 hat)]
    rfl
  · rw [h, if_neg (by decide), if_neg (fun h => absurd h.1 (by decide)), if_neg (fun h => h.1 hat)]
    rfl
  · rw [h, if_neg (by decide), if_neg (fun h => absurd h.1 (by decide)), if_neg (fun h => h.1 hat)]
    rfl
  · rw [h, if_neg (by decide), if_pos ⟨rfl, hp⟩]

end

/-- Settles O41. -/
theorem hostAccesses : Obligations.HostAccesses := by
  unfold Obligations.HostAccesses
  refine ⟨fun a bar off len op data s ha hbar => ?pcie, fun cs len addr spec d s hcs => ?spi, ?bridge⟩
  case bridge =>
    intro s r hpop hat hres hx hl hn hk htag ha hcut hr hrcv t q v
    have hlt : v.st ≠ 8 → accept s r = localTry t q := accept_localRead hpop hat hres hx hl hn hk htag ha
    obtain ⟨h0, h1, h2, h3⟩ := localTry_read (s := t) (q := q) ((isPop_tag ..).trans hpop) hat hk ha hcut hr
    exact ⟨fun h => (hlt (by rw [h]; decide)).trans (h0 h), fun h => (hlt (by rw [h]; decide)).trans (h1 h),
      fun h => (hlt (by rw [h]; decide)).trans (h2 h), fun h => (hlt (by rw [h]; decide)).trans (h3 h)⟩
  case pcie =>
    have hin : ¬ (8 ≤ a ∨ bar ≠ 0 ∧ bar ≠ 2) := by omega
    have h8 : ¬ 8 ≤ a := by omega
    refine ⟨fun hg => ⟨(if_neg hin).trans ?_, (if_neg hin).trans ?_, (if_neg hin).trans ?_⟩,
      fun hg => ⟨(if_neg hin).trans ?_, (if_neg hin).trans ?_, (if_neg hin).trans ?_⟩,
      fun p hg h0 => ⟨fun n o hb => (if_neg hin).trans ?_, fun o hb => (if_neg hin).trans ?_, fun hb => (if_neg hin).trans ?_,
        fun n o hb => (if_neg hin).trans ?_, fun n o hb hop hd => (if_neg hin).trans ?_⟩,
      fun p hg h2 h1 h512 hoff => (if_neg hin).trans ?_,
      fun hup => (if_neg h8).trans (congrArg _ ((if_pos (by decide)).trans ?_)),
      fun hup => (if_neg h8).trans (congrArg _ ((if_pos (by decide)).trans (pcieDown_link hup))),
      fun k hup hb hk hnow hfree hbytes hlen hfl _ _ _ => ⟨_, (if_neg h8).trans (congrArg _ (if_pos (by decide))),
        pcieDown_pop ha hup hb hk hnow hfree (by omega) hfl⟩,
      fun hp => (if_neg h8).trans (congrArg _ (sendHeld_none ?_))⟩
    iterate 6 · rw [hg]
    · rw [hg]
      dsimp only
      rw [h0, if_pos rfl, bar0Read, hb]
    · rw [hg]
      dsimp only
      rw [h0, if_pos rfl, bar0Read, hb]
    · rw [hg]
      dsimp only
      rw [h0, if_pos rfl, bar0Read, hb]
    · rw [hg]
      dsimp only
      rw [h0, if_pos rfl, bar0Write, hb]
    · rw [hg]
      dsimp only
      rw [h0]
      exact congrArg _ (atomic_bar0 hb hop hd)
    · rw [hg]
      dsimp only
      rw [h2, if_neg (by decide)]
      exact congrArg _ (bar2Write_taken h1 h512 hoff)
    · rw [pcieDown_bme, hup]
      rfl
    · rw [State.setAtt_att_same]
      exact hp
  case spi =>
    intro a t dest
    have hin : ¬ 4 ≤ cs := Nat.not_le.mpr hcs
    have hform {cmd n : Nat} (hc : cmd = 1 ∨ cmd = 2 ∨ cmd = 3) (h1 : 1 ≤ n) (h2 : n ≤ 1024) : spiForm cmd n = true :=
      (spiForm_plain hc).trans (decide_eq_true ⟨h1, h2⟩)
    have hbad {cmd n : Nat} (hc : cmd = 1 ∨ cmd = 2 ∨ cmd = 3) (h : n = 0 ∨ 1024 < n) : spiForm cmd n = false :=
      (spiForm_plain hc).trans (decide_eq_false (by omega))
    have hop {cmd n : Nat} (hc : cmd = 5 ∨ cmd = 6) (h : n = 4 ∨ n = 8) : spiForm cmd n = true := by
      rcases hc with rfl | rfl <;> rcases h with h | h <;> rw [h] <;> decide
    refine ⟨fun h => (if_neg hin).trans (congrArg _ ((spiFrame_bad (hbad (.inl rfl) h)).trans (if_neg (by decide)))),
      fun h => ⟨(if_neg hin).trans (congrArg _ ((spiFrame_bad (hbad (.inr (.inl rfl)) h)).trans (if_pos rfl))),
        (if_neg hin).trans (congrArg _ ((spiFrame_bad (hbad (.inr (.inr rfl)) h)).trans (if_neg (by decide))))⟩,
      fun p hb ho h1 h2 => (if_neg hin).trans (congrArg _ (spiFrame_taken (hform (.inl rfl) h1 h2) ho hb)),
      fun p hb ho h1 h2 => ⟨(if_neg hin).trans (congrArg _ (spiFrame_taken (hform (.inr (.inl rfl)) h1 h2) ho hb)),
        (if_neg hin).trans (congrArg _ (spiFrame_taken (hform (.inr (.inr rfl)) h1 h2) ho hb))⟩,
      fun p hb ho h => ⟨(if_neg hin).trans (congrArg _ (spiFrame_taken (hop (.inl rfl) h) ho hb)),
        (if_neg hin).trans (congrArg _ (spiFrame_taken (hop (.inr rfl) h) ho hb))⟩,
      fun p hb ho h => (if_neg hin).trans (congrArg _ (spiFrame_taken ?_ ho hb)),
      fun cmd => (if_neg hin).trans rfl, fun cmd hc hd => (if_neg hin).trans (congrArg _ (if_pos ⟨hc, hd⟩)),
      fun hup => (if_neg hin).trans (congrArg _ (if_neg (by rw [hup]; decide))), fun hup => (if_neg hin).trans (congrArg _ (if_pos hup))⟩
    rcases h with h | h <;> rw [h] <;> decide

end Sys2Proof.Machine

/-!
SUPPORT and O42 (R42, R51, R301 to R325, R340).
-/
namespace Sys2Proof.Machine

section
variable {s : State} {f : GrtFrame}

/-! Frames of the ring (R42, R51, R301). -/

theorem grtServe_request {t : Nat} {g : State → State} (hp : s.passThrough = false) (hv : bitsAt f.hdr.flags 6 2 = 1) (ht : f.hdr.typ = t)
    (hl : grtLenOk f = true) (hr : t < tCompletion) : grtServe s t f g = g (takeFromQueue s 2 f) := by
  have hc : tCompletion = 8 := rfl
  have he : tEvent = 16 := rfl
  have h8 : ¬ (0x20 ≤ t ∧ t ≤ 0x23) := by omega
  have hg : t ≠ tCompletion ∧ (t < tEvent ∨ tEnumWalk ≤ t) ∨ (takeFromQueue s 2 f).fromNode f = true :=
    .inl ⟨Nat.ne_of_lt hr, .inl (Nat.lt_trans hr (by decide))⟩
  unfold grtServe
  dsimp only
  rw [hp, if_neg Bool.false_ne_true, if_neg h8, if_neg (not_not_intro hv), if_neg (not_not_intro ht), hl, if_neg (by decide), if_pos hg]

theorem grtServe_stranger {g : State → State} (hp : s.passThrough = false) (hv : bitsAt f.hdr.flags 6 2 = 1) (ht : f.hdr.typ = tCompletion)
    (hl : grtLenOk f = true) (hn : s.fromNode f = false) : grtServe s tCompletion f g = (takeFromQueue s 2 f).count cHostUnknown 0 := by
  have hg : ¬ (tCompletion ≠ tCompletion ∧ (tCompletion < tEvent ∨ tEnumWalk ≤ tCompletion) ∨ (takeFromQueue s 2 f).fromNode f = true) := by
    rw [fromNode_takeFromQueue, hn]
    decide
  have h8 : ¬ (0x20 ≤ tCompletion ∧ tCompletion ≤ 0x23) := by decide
  unfold grtServe
  dsimp only
  rw [hp, if_neg Bool.false_ne_true, if_neg h8, if_neg (not_not_intro hv), if_neg (not_not_intro ht), hl, if_neg (by decide), if_neg hg]

/-- A request of a stranger is counted (R301, R315). -/
theorem requestIn_stranger {t : Nat} (hres : s.boot.rescue = false) (hp : s.passThrough = false) (hv : bitsAt f.hdr.flags 6 2 = 1)
    (hl : grtLenOk f = true) (hn : s.fromNode f = false) (hh : (takeFromQueue s 2 f).hostOf f = none) (ht : f.hdr.typ = t) (hr : t < tCompletion) :
    requestIn t f s = .next ((takeFromQueue s 2 f).count cHostUnknown 0) := by
  unfold requestIn
  rw [hres, hn, grtServe_request hp hv ht hl hr, fromNode_takeFromQueue, hn, hh]
  rfl

/-- A request of a ring node that no stopped island holds is served (R51). -/
theorem requestIn_node {t : Nat} (hres : s.boot.rescue = false) (hp : s.passThrough = false) (hv : bitsAt f.hdr.flags 6 2 = 1)
    (hl : grtLenOk f = true) (hn : s.fromNode f = true) (hs : (serveTx s (nodeTx f)).st ≠ 8) (ht : f.hdr.typ = t) (hr : t < tCompletion) :
    requestIn t f s = .next (serveNode (takeFromQueue s 2 f) f) := by
  unfold requestIn
  rw [hres, hn, beq_false_of_ne hs, grtServe_request hp hv ht hl hr, fromNode_takeFromQueue, hn, if_neg Bool.false_ne_true, Bool.and_false,
    if_neg Bool.false_ne_true, if_pos rfl]

/-- A request of a ring node for a stopped island waits (R14). -/
theorem requestIn_held {t : Nat} (hres : s.boot.rescue = false) (hp : s.passThrough = false) (hn : s.fromNode f = true)
    (hs : (serveTx s (nodeTx f)).st = 8) : requestIn t f s = .next (serveTx s (nodeTx f)).s := by
  unfold requestIn
  rw [hres, hn, hp, hs]
  rfl

/-- What a served request is answered with (R51). -/
def nodeCpl (s : State) (f : GrtFrame) (d : List Byte) : State :=
  sendCpl (serveTx s (nodeTx f)).s { mac := macOfNode s.ring.ringId f.hdr.srcNode, data := d
                                     hdr := cplHdr s f.hdr.srcPart f.hdr.addr f.hdr.tag d.length (serveTx s (nodeTx f)).st f.hdr.typ }

theorem serveNode_read (ht : f.hdr.typ = tRead ∨ f.hdr.typ = tLockRead) (hs : (serveTx s (nodeTx f)).st ≠ 8) :
    serveNode s f = nodeCpl s f (if (serveTx s (nodeTx f)).st = 0 then (serveTx s (nodeTx f)).data else []) := by
  have hw : ¬ f.hdr.typ = tWriteP := by rcases ht with h | h <;> rw [h] <;> decide
  unfold serveNode
  dsimp only
  rw [if_neg hw, if_neg hs]
  by_cases h0 : (serveTx s (nodeTx f)).st = 0
  · rw [if_pos ⟨h0, ht⟩, if_pos h0]
    rfl
  · rw [if_neg (fun h => h0 h.1), if_neg h0]
    rfl

theorem serveNode_write (ht : f.hdr.typ = tWriteNp ∨ f.hdr.typ = tWriteUnlock) (hs : (serveTx s (nodeTx f)).st ≠ 8) :
    serveNode s f = nodeCpl s f [] := by
  have hw : ¬ f.hdr.typ = tWriteP := by rcases ht with h | h <;> rw [h] <;> decide
  have hd : ¬ ((serveTx s (nodeTx f)).st = 0 ∧ (f.hdr.typ = tRead ∨ f.hdr.typ = tLockRead)) := by
    rcases ht with h | h <;> rw [h] <;> exact fun h => absurd h.2 (by decide)
  unfold serveNode
  dsimp only
  rw [if_neg hw, if_neg hs, if_neg hd]
  rfl

theorem serveNode_posted (ht : f.hdr.typ = tWriteP) (hb : bitAt f.hdr.flags 4 = false) (hs : (serveTx s (nodeTx f)).st ≠ 8) :
    serveNode s f = if (serveTx s (nodeTx f)).st = 0 then (serveTx s (nodeTx f)).s else (serveTx s (nodeTx f)).s.count cGrtPostedFail 0 := by
  unfold serveNode
  dsimp only
  rw [if_pos ht, hb, if_neg Bool.false_ne_true, countPosted, decide_eq_true hs, Bool.and_true]
  by_cases h0 : (serveTx s (nodeTx f)).st = 0
  · rw [if_pos h0, h0]
    rfl
  · rw [if_neg h0, decide_eq_true h0]
    rfl

/-! Completions (R53, R54, R317). -/

section
variable {q : OutReq} {h : GrtHdr} {d : List Byte}

theorem completionIn_one (ho : s.ring.outst = [q]) (ht : q.tag = h.tag) (hn : q.addr.node = h.srcNode) (hr : q.retryNow = false) (hc : 0 < q.cells)
    (hst : infoAt h 16 1 = 0) : completionIn s h d = answered (retire s q []) q 0 d := by
  unfold completionIn
  dsimp only
  rw [hst, ho, takeFirst, ht, hn, hr, decide_eq_true hc, beq_self_eq_true, beq_self_eq_true]
  rfl

theorem completionIn_none (ho : s.ring.outst = []) (hl : s.ring.late = []) : completionIn s h d = s.count cGrtUnexpCpl 0 := by
  unfold completionIn
  dsimp only
  rw [ho, takeFirst, hl, takeFirst]

/-- A read of a PCIe function that is no POP ends with its answer alone. -/
theorem endReq_read {st : Nat} {o : Option (Nat × Nat)} (hk : q.kind = tRead) (hpop : q.isPop = false) (hr : q.read = false) (hcut : q.cut = false)
    (ha : q.att < 8) : endReq s q st d o = portReply s q.att q.width st d := by
  have hp : ¬ q.kind = tWriteP := by rw [hk]; decide
  unfold endReq keepPop replyTo
  dsimp only
  rw [hpop, hr, hcut, if_neg Bool.false_ne_true, if_neg Bool.false_ne_true, if_neg hp, if_neg (Nat.not_le.mpr (Nat.lt_trans ha (by decide)))]
  rfl

theorem answered_read (hk : q.kind = tRead) (hat : q.atomic = 0) (hpop : q.isPop = false) (hr : q.read = false) (hcut : q.cut = false) (ha : q.att < 8) :
    answered s q 0 d = s.emit (.reply q.att 0 false d) := by
  have h12 : ¬ (q.att ≥ 12 ∧ q.kind = tLockRead ∧ (0 : Nat) = 0) := fun h => absurd h.1 (by omega)
  unfold answered
  dsimp only
  rw [hcut, hat, hpop, if_neg (fun h => absurd h.1 (by decide)), if_neg (by decide), if_neg (fun h => h.1 rfl), if_neg h12,
    if_neg (fun h => absurd h.1 Bool.false_ne_true), if_neg (not_not_intro rfl), endReq_read hk hpop hr hcut ha, portReply, if_pos ha, if_pos rfl]

/-- What a function that went down asked for is discarded (R308). -/
theorem answered_cut (hpop : q.isPop = false) (hcut : q.cut = true) (ha : q.att < 8) : answered s q 0 d = s := by
  unfold answered
  rw [hpop, if_pos ⟨hcut, ha, rfl⟩]

/-- The bytes of a POP that took effect are recovered (R308, R327). -/
theorem answered_cutPop (hat : q.atomic = 0) (hpop : q.isPop = true) (hr : q.read = false) (hcut : q.cut = true) (ha : q.att < 8) :
    answered s q 0 d = loadRcv (freeFlags s).2 q.att q.addr (d.take (min 8 d.length)) (freeFlags s).1 false false true := by
  have h12 : ¬ (q.att ≥ 12 ∧ q.kind = tLockRead ∧ (0 : Nat) = 0) := fun h => absurd h.1 (by omega)
  unfold answered
  dsimp only
  rw [hat, hpop, if_neg (fun h => absurd h.2.2 (by decide)), if_neg (by decide), if_neg (fun h => h.1 rfl), if_neg h12,
    if_pos ⟨rfl, rfl, .inl ha⟩, if_neg (not_not_intro rfl)]
  unfold endReq keepPop replyTo
  dsimp only
  have h7 : ¬ ((0 : Nat) = 7 ∧ q.att ≥ 8) := fun h => absurd h.1 (by decide)
  have hk : (0 : Nat) = 0 ∧ (q.att ≥ 12 ∨ true = true) := ⟨rfl, .inr rfl⟩
  rw [hpop, hr, hcut, decide_eq_true (Nat.lt_trans ha (by decide)), if_neg h7, if_pos hk]
  rfl

theorem freeFlags_lt : (freeFlags s).1 < 8 := Nat.mod_lt _ (by decide)

/-! Timeouts and retries (R53, R323). -/

theorem timeoutReq_due (ho : s.ring.outst = [q]) (hr : q.retryNow = false) (hc : 0 < q.cells) (hd : q.sentAt + s.ring.cplTimeout * 100000 ≤ s.lt) :
    timeoutReq s q.tag = endReq ((s.setRing { s.ring with outst := [], late := s.ring.late ++ [q] }).setBridge {
      s.bridge with
      cplIn := s.bridge.cplIn - q.cells }) q 7 [] none := by
  unfold timeoutReq
  rw [ho, takeFirst, beq_self_eq_true, hr, decide_eq_true hc, decide_eq_true hd]
  rfl

theorem timeoutReq_early (ho : s.ring.outst = [q]) (hd : s.lt < q.sentAt + s.ring.cplTimeout * 100000) : timeoutReq s q.tag = s := by
  unfold timeoutReq
  rw [ho, takeFirst, takeFirst, decide_eq_false (Nat.not_le.mpr hd), Bool.and_false]
  rfl

theorem timeoutBarriers_none (h : s.ring.barriers = []) : timeoutBarriers s = s := by
  have hs : s.setRing { s.ring with barriers := [] } = s := by rw [← h]; rfl
  unfold timeoutBarriers
  dsimp only
  rw [h]
  exact hs

theorem drillTimeouts_none (h : ∀ k, (s.twin k).drillTag = none) : drillTimeouts s = s :=
  forEach_of_fixed_mem fun k _ => by
    unfold drillTimeout
    dsimp only
    rw [h]

theorem retryReq_spent (ho : s.ring.outst = [q]) (hr : q.retryNow = true) (hd : q.sentAt + 1000 ≤ s.lt)
    (hs : q.retrySince + s.bridge.lockTimeout * 1000 + 10000 ≤ s.lt) : retryReq s q.tag = endReq (s.setRing { s.ring with outst := [] }) q 3 [] none := by
  unfold retryReq
  rw [ho, takeFirst, beq_self_eq_true, hr, decide_eq_true hd]
  exact if_pos hs

theorem retryReq_none (ho : s.ring.outst = [q]) (hr : q.retryNow = false) : retryReq s q.tag = s := by
  unfold retryReq
  rw [ho, takeFirst, takeFirst, hr, Bool.and_false]
  rfl

end

/-! Locks (R325). -/

theorem lockOf_filter {sp gran : Nat} {l : List Lock} (h : s.bridge.locks = l.filter (fun k => !(k.space == sp && k.gran == gran))) :
    s.lockOf sp gran = none := by
  refine List.find?_eq_none.mpr fun k hk hm => ?_
  rw [h] at hk
  exact absurd (List.mem_filter.mp hk).2 (by rw [hm]; decide)

/-! Memory (R340). -/

theorem memRead_memWrite {m : List Host.Cell} (a : Nat) (d : List Byte) (h : Memory.wf m = true) : memRead (memWrite m a d) a d.length = d := by
  induction d generalizing m a with
  | nil => rfl
  | cons b r ih =>
    have hb : memGet (memWrite (memSet m a b) (a + 1) r) a = b := by
      rw [memGet_memWrite_out r _ _ _ (.inl (Nat.lt_succ_self a))]
      exact memGet_memSet_same m a b 0 h
    exact congr (congrArg List.cons hb) (ih (a + 1) (memSet_wf m a b h))

theorem mendWords_none {sp off len : Nat} (h : s.island.badWords = []) : mendWords s sp off len = s := if_pos (by rw [h]; rfl)

theorem arrived_counters (a : Acc) (c : CtrId) : ∃ k, s.arrived a c = { s with counters := k } := by
  unfold State.arrived
  split
  · exact ⟨_, rfl⟩
  · exact ⟨s.counters, rfl⟩

/-- A write of space 4 that its region allows and no lock meets (R7, R340). -/
theorem serveTx_sram {x : Tx} (hres : s.boot.rescue = false) (hp : s.isOpen x.p = true) (hpart : x.addr.part = x.p) (hsp : x.addr.space = 4)
    (hk : x.kind = tWriteNp) (hlen : x.len = x.d.length) (h1 : 1 ≤ x.d.length) (hend : x.addr.off + x.d.length ≤ 1572864) (hc : s.crossable 2 = true)
    (hbad : s.island.badWords = []) (hktx : (s.part x.p).ktx22 = false) (hal : sramAllows s x.p x.addr.off x.d.length true = true)
    (hl : s.bridge.locks = []) :
    serveTx s x = ansOk { s with island := { s.island with sram := memWrite s.island.sram x.addr.off x.d } } := by
  have hsize : ¬ (x.addr.off + x.len > s.spaceSize 4 ∨ x.len = 0 ∧ tWriteNp ≠ tWriteUnlock ∨
      (tWriteNp == tLockRead || tWriteNp == tWriteUnlock) = true ∧ (4 : Nat) ≠ 4 ∧ (4 : Nat) ≠ 7) := by
    have hsz : s.spaceSize 4 = 1572864 := rfl
    rw [hsz, hlen]
    omega
  have hisl : spaceIsland 4 = 2 := rfl
  have hfor : foreign s x = false := by
    unfold foreign
    rw [hpart, hktx, bne_self_eq_false]
    rfl
  have hlocks : s.locksIn 4 x.addr.off x.len = [] := by
    unfold State.locksIn
    rw [hl]
    rfl
  unfold serveTx
  dsimp only
  rw [hpart, hp, hsp, hk, hisl, hc, if_neg (fun h => absurd (hres.symm.trans h.1) (by decide)), if_neg (by decide), if_neg hsize, if_neg (by decide),
    if_neg (by decide), if_neg (by decide), if_neg (by decide)]
  unfold serveWrite guard
  dsimp only
  have hw : spaceWrite s x.a x.p 4 x.addr.off x.d = ansOk { s with island := { s.island with sram := memWrite s.island.sram x.addr.off x.d } } :=
    (if_pos hal).trans (congrArg (ansOk ·) (mendWords_none hbad))
  rw [hsp, hw, hfor, hlocks]
  rfl

end

/-- Settles O42. -/
theorem bridgeAndMemory : Obligations.BridgeAndMemory := by
  unfold Obligations.BridgeAndMemory
  refine ⟨fun f r hres hp hv hl => ?frames, fun s q h d ho ht hn hr hc hat hread hcut ha hst => ?cut,
    fun s q ho hb hdr hk hpop hread hcut ha => ?timeouts, fun s hc => ?issue, fun s sp gran => ?lock, ?sram⟩
  case frames =>
    intro s h v cpl
    have hnode : s.fromNode f = r.fromNode f := fromNode_takeFromQueue 2 f f
    refine ⟨fun hn hh => ?stranger, fun hn hs hs' => ?node, fun hn hs => ?held, fun hn ht => ?unknown, fun hn ht ho hla => ?unexpected,
      fun q hn ht ho htag haddr hr hc hk hat hpop hread hcut ha hst => ?answer⟩
    case stranger =>
      have hin {t : Nat} (ht : h.typ = t) (hlt : t < tCompletion) : requestIn t f r = .next (s.count cHostUnknown 0) :=
        requestIn_stranger hres hp hv hl (hnode.symm.trans hn) hh ht hlt
      exact ⟨fun ht => hin ht (by decide), fun ht => hin ht (by decide), fun ht => hin ht (by decide), fun ht => hin ht (by decide),
        fun ht => hin ht (by decide)⟩
    case node =>
      have hin {t : Nat} (ht : h.typ = t) (hlt : t < tCompletion) : requestIn t f r = .next (serveNode s f) :=
        requestIn_node hres hp hv hl (hnode.symm.trans hn) hs' ht hlt
      exact ⟨fun ht => (hin ht (by decide)).trans (congrArg _ (serveNode_read (.inl ht) hs)),
        fun ht => (hin ht (by decide)).trans (congrArg _ (serveNode_read (.inr ht) hs)),
        fun ht => (hin ht (by decide)).trans (congrArg _ (serveNode_write (.inl ht) hs)),
        fun ht => (hin ht (by decide)).trans (congrArg _ (serveNode_write (.inr ht) hs)),
        fun ht hb => (hin ht (by decide)).trans (congrArg _ (serveNode_posted ht hb hs))⟩
    case held => exact ⟨fun _ => requestIn_held hres hp (hnode.symm.trans hn) hs, fun _ => requestIn_held hres hp (hnode.symm.trans hn) hs⟩
    case unknown => exact congrArg _ (grtServe_stranger hp hv ht hl (hnode.symm.trans hn))
    case unexpected =>
      exact congrArg _ ((grtServe_queue2 hp hv ht hl (hnode.symm.trans hn) (by decide)).trans (completionIn_none ho hla))
    case answer =>
      exact congrArg _ ((grtServe_queue2 hp hv ht hl (hnode.symm.trans hn) (by decide)).trans
        ((completionIn_one ho htag haddr hr hc hst).trans (answered_read hk hat hpop hread hcut ha)))
  case cut =>
    refine ⟨fun hpop => (completionIn_one ho ht hn hr hc hst).trans (answered_cut hpop hcut ha), fun hpop _ => ?_⟩
    exact ⟨_, freeFlags_lt, (completionIn_one ho ht hn hr hc hst).trans (answered_cutPop hat hpop hread hcut ha)⟩
  case timeouts =>
    have hend (t : State) (st : Nat) (hst : st = 7 ∨ st = 3) : endReq t q st [] none = t.emit (.reply q.att 2 false []) := by
      rw [endReq_read hk hpop hread hcut ha, portReply, if_pos ha]
      rcases hst with h | h <;> rw [h] <;> rfl
    have hquiet {t : State} (h1 : t.ring.barriers = []) (h2 : ∀ k, (t.twin k).drillTag = none) : drillTimeouts (timeoutBarriers t) = t := by
      rw [timeoutBarriers_none h1, drillTimeouts_none h2]
    refine ⟨fun hr hc hd => congrArg Host.Outcome.next ?_, fun hd => congrArg Host.Outcome.next ?_, fun hr hd hs => congrArg _ ((retryReq_spent ho hr hd hs).trans (hend _ 3 (.inr rfl))),
      fun hr => congrArg _ (retryReq_none ho hr)⟩
    · rw [timeoutReq_due ho hr hc hd, hend _ 7 (.inl rfl)]
      exact hquiet hb hdr
    · rw [timeoutReq_early ho hd]
      exact hquiet hb hdr
  case issue =>
    have hdrain : drainCpl s.bridge.outC.length s = s := by rw [hc]; rfl
    have hnp : exec .npRequestIssue s = .next (npRun s) := congrArg (fun t => Host.Outcome.next (npRun t)) hdrain
    have hpo : exec .postedWriteIssue s = .next (postedRun s) := congrArg (fun t => Host.Outcome.next (postedRun t)) hdrain
    refine ⟨fun h => hnp.trans (congrArg Host.Outcome.next ?_), fun q t h hm ht => hnp.trans (congrArg Host.Outcome.next ?_), fun h => hpo.trans (congrArg Host.Outcome.next ?_),
      fun w r h hr => hpo.trans (congrArg Host.Outcome.next ?_), fun w r h hr => hpo.trans (congrArg Host.Outcome.next ?_)⟩
    · rw [npRun, h, firstIssuable] <;> rfl
    · unfold npRun
      rw [h, firstIssuable, if_pos hm]
      dsimp only
      rw [ht]
      rfl
    · rw [postedRun, h] <;> rfl
    · unfold postedRun
      rw [h]
      exact if_pos hr
    · unfold postedRun
      rw [h]
      exact if_neg (by rw [hr]; decide)
  case lock =>
    refine ⟨fun h => congrArg Host.Outcome.next ?_, fun l h hd => congrArg Host.Outcome.next ?_, fun l h hd => ⟨(s.setLocks (s.bridge.locks.filter (fun k =>
      !(k.space == sp && k.gran == gran)))).count cLockBrokenCount 0, congrArg Host.Outcome.next ?_, lockOf_filter rfl, ctr_count_same .., rfl, fun k => ?_⟩⟩
    · rw [h]
    · rw [h]
      exact if_neg (Nat.not_le.mpr hd)
    · rw [h]
      exact if_pos hd
    · refine List.mem_filter.trans (and_congr_right fun _ => ?_)
      rw [Bool.not_eq_true', Bool.eq_false_iff, Ne, Bool.and_eq_true, beq_iff_eq, beq_iff_eq]
  case sram =>
    intro a addr data s p hwf hwho hopen hres hlocal hcross hbad hpart hsp hktx h1 hend hal hlocks
    refine ⟨memWrite s.island.sram addr.off data, ?_, memWrite_wf _ _ _ hwf.1, memRead_memWrite _ _ hwf.1, fun k hk => memGet_memWrite_out _ _ _ _ hk⟩
    have hreg : exec (.registerWrite a addr data) s = .next (registerWrite a p addr data s (s.arrived a cAttWrites)).s := by
      show Host.Outcome.next (accessAs a s (fun t p => registerWrite a p addr data s t)).s = _
      rw [accessAs, hwho]
      dsimp only
      rw [if_pos hopen]
    refine hreg.trans (congrArg Host.Outcome.next ?_)
    obtain ⟨k, hk⟩ := arrived_counters (s := s) a cAttWrites
    have hserve : serveTx (s.arrived a cAttWrites) { a := a, p := p, kind := tWriteNp, addr := addr, len := data.length, d := data, tag := 0 } =
        ansOk { s.arrived a cAttWrites with island := { s.island with sram := memWrite s.island.sram addr.off data } } := by
      rw [hk]
      exact serveTx_sram (s := { s with counters := k }) hres hopen hpart hsp rfl rfl h1 hend hcross hbad hktx hal hlocks
    rw [registerWrite, if_pos hlocal, hserve]
    rfl

end Sys2Proof.Machine

/-!
O43 and O44 (R329, R348 to R355). The doorbells and the order in which commands are taken.
-/
namespace Sys2Proof.Machine

/-- Settles O43. -/
theorem doorbellsMoveForwardOnly : Obligations.DoorbellsMoveForwardOnly := by
  unfold Obligations.DoorbellsMoveForwardOnly
  intro a p v o hw ho hv s x
  have htail : exec (.mbxSqTailWrite a v) o = .next (sqTailReg s p v) := by
    show Host.Outcome.next (accessAs a o (fun s p => ansOk (sqTailReg s p v))).s = _
    rw [accessAs_open _ hw ho]
    rfl
  have hhead : exec (.mbxCqHeadWrite a v) o = .next (cqHeadReg s p v) := by
    show Host.Outcome.next (accessAs a o (fun s p => ansOk (cqHeadReg s p v))).s = _
    rw [accessAs_open _ hw ho]
    rfl
  have hmod : v % 65536 = v := Nat.mod_eq_of_lt hv
  have htail_iff : sqTailReg s p v = if (v + 65536 - x.sqHead) % 65536 > 256 ∨ (v + 65536 - x.sqHead) % 65536 < (x.sqTail + 65536 - x.sqHead) % 65536 then
      raise ((s.setPart p { x with doorbellErr := true }).count cMbxBadDoorbell p) (srcDiag (284 + p)) 2 0
      else s.setPart p { x with sqTail := v } := by
    unfold sqTailReg
    dsimp only
    rw [hmod]
  have hhead_iff : cqHeadReg s p v = if (x.cqTail + 65536 - v) % 65536 > (x.cqTail + 65536 - x.cqHead) % 65536 then
      raise ((s.setPart p { x with doorbellErr := true }).count cMbxBadDoorbell p) (srcDiag (284 + p)) 2 0
      else s.setPart p { x with cqHead := v } := by
    unfold cqHeadReg
    dsimp only
    rw [hmod]
  rw [htail, hhead, htail_iff, hhead_iff]
  exact ⟨fun h1 h2 => congrArg _ (if_neg (by omega)), fun h => congrArg _ (if_pos h),
    fun h => congrArg _ (if_neg (Nat.not_lt.mpr h)), fun h => congrArg _ (if_pos h)⟩

section
variable {s : State} {p : Nat}

/-- A partition with a descriptor to take (R348). -/
def State.submits (s : State) (p : Nat) : Prop :=
  p < 16 ∧ (!s.mbxReady p || (s.part p).blocked || (s.pair 0).halted || (s.part p).sqHead == (s.part p).sqTail) = false

theorem submits_of (hp : p < 16) (hr : s.mbxReady p = true) (hb : (s.part p).blocked = false) (hh : (s.pair 0).halted = false)
    (hne : (s.part p).sqHead ≠ (s.part p).sqTail) : s.submits p := by
  refine ⟨hp, ?_⟩
  rw [hr, hb, hh, beq_false_of_ne hne]
  rfl

/-- The opcode and the descriptor at MBX_SQ_HEAD. -/
def State.front (s : State) (p : Nat) : Nat × Desc := slotDesc s p ((s.part p).sqHead % 256)

/-- The state once the descriptor at MBX_SQ_HEAD is taken (R348). -/
def State.taken (s : State) (p : Nat) : State := s.setPart p { s.part p with cqWait := false, sqHead := ((s.part p).sqHead + 1) % 65536 }

theorem commandStart_noRoom (h : s.submits p) (hroom : (s.part p).cqRoom = 0) :
    exec (.commandStart p) s = .next (s.setPart p { s.part p with cqWait := true }) := by
  have hlow : (s.part p).cqRoom < (if bitAt (s.front p).2.flags 0 then 2 else 1) := by rw [hroom]; split <;> decide
  show execCommandStart p s = _
  unfold execCommandStart unit
  dsimp only
  rw [if_pos h.1, h.2, if_neg Bool.false_ne_true]
  exact congrArg Host.Outcome.next (if_pos hlow)

theorem commandStart_room (h : s.submits p) (hroom : 2 ≤ (s.part p).cqRoom) :
    (rowOf (s.front p).1 = none → exec (.commandStart p) s = .next (finalCpl (s.taken p) (s.front p).2 stBadOpcode [])) ∧
    (∀ r, rowOf (s.front p).1 = some r → exec (.commandStart p) s = .next (startOf r (s.front p).2 (s.taken p))) := by
  have hhigh : ¬ (s.part p).cqRoom < (if bitAt (s.front p).2.flags 0 then 2 else 1) := by split <;> omega
  have hrun : exec (.commandStart p) s = .next (match rowOf (s.front p).1 with
      | none => finalCpl (s.taken p) (s.front p).2 stBadOpcode []
      | some r => startOf r (s.front p).2 (s.taken p)) := by
    show execCommandStart p s = _
    unfold execCommandStart unit
    dsimp only
    rw [if_pos h.1, h.2, if_neg Bool.false_ne_true]
    exact congrArg Host.Outcome.next (if_neg hhigh)
  constructor
  · intro hn
    rw [hrun, hn]
  · intro r hn
    rw [hrun, hn]

/-- The oldest accepted command of a tag ends as its own checks say (R351). -/
theorem asyncComplete_runs {tag : Nat} {a : Async} {rest : List Async} {r : CmdRow} (hp : p < 16)
    (htake : takeFirst (fun (x : Async) => !x.begun && x.desc.tag == tag) (s.part p).cmds = some (a, rest)) (hst : s.serviceStalled = false)
    (hsp : a.stalled = false ∨ s.pairHalted = false) (hh : (s.pair 0).halted = false) (hr : s.mbxReady p = true) (hrow : rowOf a.opcode = some r)
    (hop : a.opcode ≠ 0x0310) : exec (.asyncComplete p tag) s = .next (finishAsync s p r.info r.body a rest) := by
  have hgo : (a.service && (s.serviceStalled || (a.stalled && s.pairHalted)) || (s.pair 0).halted || !s.mbxReady p) = false := by
    have hpair : (a.stalled && s.pairHalted) = false := by
      rcases hsp with h | h
      · rw [h, Bool.false_and]
      · rw [h, Bool.and_false]
    rw [hst, hpair, hh, hr, Bool.or_false, Bool.or_false, Bool.and_false]
    rfl
  show execAsyncComplete p tag s = _
  unfold execAsyncComplete unit
  dsimp only
  rw [if_pos hp, htake]
  dsimp only
  rw [hgo, if_neg Bool.false_ne_true, hrow]
  exact congrArg Host.Outcome.next (if_neg hop)

/-- A service command that has begun and is past its bound ends with FIRMWARE_FAULT (R378). -/
theorem commandOverrun_begun {a : Async} {rest : List Async} (hp : p < 16) (hh : (s.pair 0).halted = false)
    (htake : takeFirst (fun (x : Async) => x.service && decide (x.due + overrunNs s x ≤ s.lt)) (s.part p).cmds = some (a, rest)) (hb : a.begun = true) :
    exec (.commandOverrun p) s = .next (detectCode (finalCpl { s.setPart p { s.part p with cmds := rest } with fresh := s.fresh + 1 } a.desc
      stFwFault []) 0x0A a.opcode) := by
  show execCommandOverrun p s = _
  unfold execCommandOverrun unit State.draw
  dsimp only
  rw [if_pos hp, htake]
  dsimp only
  rw [hh, hb, if_neg Bool.false_ne_true]
  cases rowOf a.opcode <;> rfl

end

/-- Settles O44. -/
theorem submissionOrderAndOverrun : Obligations.SubmissionOrderAndOverrun := by
  unfold Obligations.SubmissionOrderAndOverrun
  refine ⟨fun p s hp hr hb hh hne => ?start, fun p tag a rest r s hp htake hst hsp hh hr hrow hop => asyncComplete_runs hp htake hst hsp hh hr hrow hop,
    fun p a rest s hp hh htake hbeg => commandOverrun_begun hp hh htake hbeg⟩
  case start =>
    have hs : s.submits p := submits_of hp hr hb hh hne
    intro op d t
    refine ⟨commandStart_noRoom hs, fun hroom hn => (commandStart_room hs hroom).1 hn, fun r hroom hn hop => ?_⟩
    refine ((commandStart_room hs hroom).2 r hn).trans (congrArg Host.Outcome.next (if_neg fun h => hop ?_))
    exact (eq_of_beq (List.find?_some (p := fun x : CmdRow => x.info.op == op) hn)).symm.trans h

end Sys2Proof.Machine

/-!
SUPPORT and O45, O46 (R332 to R336, R340, R351). What an attachment that goes down leaves: partitions, bindings, host table.
-/
namespace Sys2Proof.Machine

section
variable {s t : State} {p : Nat}

/-- The view of a state that an attachment going down leaves (R336): the partitions without their event delivery, the bindings and
the host table. -/
def State.links (s : State) : (Nat → Partition) × (Nat → Option Nat) × (Nat → HostEnt) := (s.kept.parts, s.kept.bounds, s.host)

theorem links_of_kept (h : t.kept = s.kept) : t.links = s.links := by
  have hhost : t.host = s.host := congrArg (fun k : Kept => k.rest.host) h
  unfold State.links
  rw [h, hhost]

theorem links_setGroup (g : Nat) (x : OutGroup) : (s.setGroup g x).links = s.links := rfl

theorem links_takeData (g node part tally n : Nat) (d : List Byte) (l : List Nat) : (takeData s g node part tally n d l).links = s.links := by
  unfold takeData
  dsimp only
  split
  · split <;> rfl
  · split
    · split <;> rfl
    · split
      · exact (links_of_kept (kept_raise ..)).trans rfl
      · rfl

theorem links_offer_resign (g part n : Nat) : (offer s g part n (fun s => onData s g s.me part 0 n [])).links = s.links := by
  unfold offer
  split
  · rfl
  · unfold onData
    dsimp only
    split
    · next h => exact (links_takeData ..).trans (links_of_kept (kept_of_stageCells h))
    · rfl

theorem links_resignPairs (p : Nat) (l : List (Nat × Nat)) : (resignPairs s p l).links = s.links := by
  refine forEach_proj (g := State.links) (fun e u => ?_) _ _
  split
  · exact forEach_proj (g := State.links) (fun g v => links_offer_resign ..) _ _
  · exact links_of_kept (kept_sendVia ..)

theorem links_attDown (a : Nat) : (attDown s a).links = s.links := by
  unfold attDown
  split
  · exact links_resignPairs ..
  · rfl

theorem links_intSettle : (intSettle s p).links = s.links := by
  unfold intSettle
  exact forEach_proj (g := State.links) (f := fun a u => u.setAtt a { u.att a with intLow := (s.part p).fired && (s.part p).target == 2 })
    (fun a u => links_of_kept (kept_setAtt rfl)) _ _

theorem parts_of_links (h : t.links = s.links) (q : Nat) : (t.part q).unsignalled = (s.part q).unsignalled :=
  congrFun (congrArg Prod.fst h) q

theorem cmds_of_links (h : t.links = s.links) (q : Nat) : (t.part q).cmds = (s.part q).cmds := by
  show (t.part q).unsignalled.cmds = _
  rw [parts_of_links h]
  rfl

theorem bound_of_links (h : t.links = s.links) (a : Nat) : (t.att a).bound = (s.att a).bound :=
  congrFun (congrArg (fun k : (Nat → Partition) × (Nat → Option Nat) × (Nat → HostEnt) => k.2.1) h) a

theorem host_of_links (h : t.links = s.links) (e : Nat) : t.host e = s.host e :=
  congrFun (congrArg (fun k : (Nat → Partition) × (Nat → Option Nat) × (Nat → HostEnt) => k.2.2) h) e

/-! An attachment changes hands (R305, R336). -/

theorem rebind_bound (a : Nat) (dst : Option Nat) (k : Nat) : ((rebind s a dst).att k).bound = if k = a then dst else (s.att k).bound := by
  unfold rebind
  split
  · next h =>
    split
    · next hk => rw [hk, h]
    · rfl
  · dsimp only
    have hset (x : Att) (hx : x.bound = dst) :
        (((attDown s a).setAtt a x).att k).bound = if k = a then dst else (s.att k).bound := by
      by_cases hk : k = a
      · rw [if_pos hk, hk, State.setAtt_att_same, hx]
      · rw [if_neg hk, State.setAtt_att_ne _ _ _ hk]
        exact bound_of_links (links_attDown a) k
    cases dst with
    | none => exact hset _ rfl
    | some p => exact (bound_of_links links_intSettle k).trans (hset _ rfl)

theorem rebind_part (a : Nat) (dst : Option Nat) (k : Nat) : ((rebind s a dst).part k).unsignalled = (s.part k).unsignalled := by
  unfold rebind
  split
  · rfl
  · dsimp only
    cases dst with
    | none => exact parts_of_links (links_attDown a) k
    | some p => exact (parts_of_links links_intSettle k).trans (parts_of_links (links_attDown a) k)

theorem rebind_host (a : Nat) (dst : Option Nat) (k : Nat) : (rebind s a dst).host k = s.host k := by
  unfold rebind
  split
  · rfl
  · dsimp only
    cases dst with
    | none => exact host_of_links (links_attDown a) k
    | some p => exact (host_of_links links_intSettle k).trans (host_of_links (links_attDown a) k)

/-! The removal of a partition (R332). -/

theorem unbindAll (l : List Nat) (s : State) (k : Nat) :
    ((forEach l s (fun a s => rebind s a none)).att k).bound = if k ∈ l then none else (s.att k).bound := by
  induction l generalizing s with
  | nil => rfl
  | cons a l ih =>
    refine (ih _).trans ?_
    rw [rebind_bound]
    by_cases hl : k ∈ l
    · rw [if_pos hl, if_pos (List.mem_cons_of_mem _ hl)]
    · by_cases hk : k = a
      · rw [if_neg hl, if_pos hk, if_pos (hk ▸ List.mem_cons_self)]
      · rw [if_neg hl, if_neg hk, if_neg (fun h => (List.mem_cons.mp h).elim hk hl)]

theorem links_clearScope (kind lo n : Nat) : (clearScope s kind lo n).links = s.links := by
  unfold clearScope
  rfl

theorem links_setOwner (cls i q : Nat) : (setOwner s cls i q).links = s.links := by
  unfold setOwner
  rfl

theorem links_moveRes (cls i q : Nat) : (moveRes s cls i q).links = s.links := by
  have hclear (e : Nat × Nat × Nat) (u : State) : (clearScope u e.1 e.2.1 e.2.2).links = u.links := links_clearScope ..
  unfold moveRes
  generalize hu : setOwner s cls i q = u
  exact (forEach_proj (g := State.links) hclear _ u).trans (hu ▸ links_setOwner ..)

theorem links_moveSource (e q : Nat) : (moveSource s e q).links = s.links := rfl

theorem links_returnAll : (returnAll s p).links = s.links := by
  unfold returnAll
  refine (forEach_proj (g := State.links) (fun e u => links_moveSource ..) _ _).trans ?_
  exact forEach_proj (g := State.links) (fun e u => links_moveRes ..) _ s

/-- The state once the attachments of a partition are unbound. -/
def State.unbound (s : State) (p : Nat) : State := forEach ((List.range 28).filter fun a => (s.att a).bound == some p) s fun a s => rebind s a none

theorem unbound_part (k : Nat) : ((s.unbound p).part k).unsignalled = (s.part k).unsignalled :=
  forEach_proj (g := fun u : State => (u.part k).unsignalled) (f := fun a u => rebind u a none) (fun a _ => rebind_part a none k) _ s

theorem unbound_bound {k : Nat} (hk : k < 28) : ((s.unbound p).att k).bound ≠ some p := by
  unfold State.unbound
  have hmem : k ∈ (List.range 28).filter (fun a => (s.att a).bound == some p) ↔ (s.att k).bound = some p := by simp [hk]
  rw [unbindAll]
  by_cases hs : (s.att k).bound = some p
  · rw [if_pos (hmem.mpr hs)]
    nofun
  · rw [if_neg (mt hmem.mp hs)]
    exact hs

/-- What its attachments and its event queue leave of a partition's removal. -/
def State.returned (s : State) (p : Nat) : State :=
  returnAll (match ((s.unbound p).part p).evq with
    | some q => (s.unbound p).setQueue q { (s.unbound p).queue q with prod := .none }
    | none => s.unbound p) p

theorem links_returned : (s.returned p).links = (s.unbound p).links := by
  unfold State.returned
  cases ((s.unbound p).part p).evq <;> exact links_returnAll

theorem removePart_eq : removePart s p = (s.returned p).setPart p {} := rfl

theorem removePart_leaves (hp : p ≠ 0) : (removePart s p).part p = {} ∧ ((removePart s p).part 0).cmds = (s.part 0).cmds ∧
    ∀ k, k < 28 → ((removePart s p).att k).bound ≠ some p := by
  rw [removePart_eq]
  refine ⟨State.setPart_part_same .., ?_, fun k hk => ?_⟩
  · rw [State.setPart_part_ne _ _ _ hp.symm, cmds_of_links links_returned]
    have h := congrArg Partition.cmds (unbound_part (s := s) (p := p) 0)
    exact h
  · have hb : (((s.returned p).setPart p {}).att k).bound = ((s.unbound p).att k).bound := bound_of_links links_returned k
    rw [hb]
    exact unbound_bound hk

end

section
variable {d : Desc} {s : State}

/-! Partition resets (R332, R333). -/

theorem beginReset_part (t : State) (p : Nat) : ((beginReset t p).part p).st = 2 ∧ (beginReset t p).lt ≤ ((beginReset t p).part p).resetEnd ∧
    ((beginReset t p).part p).resetEnd ≤ (beginReset t p).lt + 2000000 := by
  have hst : ((resetPartition t p).part p).st = 2 := by rw [resetPartition, State.setPart_part_same]
  unfold beginReset State.draw
  generalize resetPartition t p = u at hst ⊢
  dsimp only
  rw [State.setPart_part_same]
  refine ⟨hst, Nat.le_add_right .., ?_⟩
  generalize (Config.free u.fresh).toNat = n
  have hn : n % 2000001 ≤ 2000000 := by omega
  exact Nat.add_le_add_left hn _

/-- The end of a reset, without what the partition's removal adds. -/
theorem endReset_one {p : Nat} {a : Async} (hc : (s.part 0).cmds = [a]) (hw : waitsReset p a = true) :
    let v := s.setPart p { s.part p with st := 1 }
    let u := if a.opcode = 0x0102 then removePart v p else v
    endReset s p = finalCpl (u.setPart 0 { u.part 0 with cmds := (u.part 0).cmds.filter (fun a => !waitsReset p a) }) a.desc stOk [] := by
  have hdone : (s.part 0).cmds.filter (waitsReset p) = [a] := by rw [hc, List.filter_cons, hw]; rfl
  unfold endReset
  dsimp only
  rw [hdone, State.ifDo, List.any_cons, List.any_nil, Bool.or_false]
  by_cases h : a.opcode = 0x0102
  · rw [if_pos (beq_iff_eq.mpr h), if_pos h]
    rfl
  · rw [if_neg (mt beq_iff_eq.mp h), if_neg h]
    rfl

/-- A command that waits does so in its partition (R351). -/
theorem endCmd_later {op : Nat} {bulk : List Byte} {v : State} (hp : d.part = 0) : endCmd s d op bulk false (.later v) = v.setPart 0 {
    v.part 0 with
    cmds := (v.part 0).cmds ++ [{ part := 0, opcode := op, desc := d, bulk := bulk, async := false, gone := true
                                  service := op / 256 != 0x0E && op != 0x0102 && op != 0x0103, begun := true, due := v.lt }] } := by
  rw [endCmd, hp]

/-- A partition 0 command that runs is partition 0's (R350). -/
theorem part_of_p0 {i : CmdInfo} (hi : i.p0 = true) (h : runs i d s = true) : d.part = 0 := by
  simp only [runs, starts, Bool.and_eq_true, Option.isNone_iff_eq_none] at h
  have hpre := h.1.1.1.1.2
  refine Classical.byContradiction fun hne => ?_
  have hp0 : i.p0 = true ∧ d.part ≠ 0 := ⟨hi, hne⟩
  unfold precheck at hpre
  dsimp only at hpre
  rw [if_pos hp0] at hpre
  exact nomatch else_of_ite (else_of_ite (else_of_ite hpre nofun) nofun) nofun

theorem filter_waits {p : Nat} {a : Async} {l : List Async} (hl : l = [a]) (hw : waitsReset p a = true) : l.filter (fun a => !waitsReset p a) = [] := by
  rw [hl, List.filter_cons, hw]
  rfl

end

/-- Settles O45. -/
theorem partitionLifeCommands : Obligations.PartitionLifeCommands := by
  unfold Obligations.PartitionLifeCommands
  intro d s t c
  refine ⟨fun h => cmdRow_ok bodyDevInfo h rfl, fun h h1 h15 h9 h10 h12 h16 hst => ?bare, fun h h1 h15 h9 h10 hch hq hq' hown hfw hst => ?view,
    fun h hex hne h0 => ?reset, fun h hex hne hself => ?own, fun p a hp hc hw hop => ?ended, fun h hex hne => ?destroy, fun p a hp hc hw hop => ?removed⟩
  case bare =>
    refine cmdRow_ok bodyPartCreate h (?_ : bodyPartCreate c t = _)
    rw [bodyPartCreate]
    dsimp only
    rw [h9, h10, h12, h16, hst, chk_of (by simp [h1, h15]), if_neg (by decide), chk_of (List.all_nil), chk_of (List.all_nil), chk_of (beq_self_eq_true 0)]
    rfl
  case view =>
    refine cmdRow_ok bodyPartCreate h (?_ : bodyPartCreate c t = _)
    rw [bodyPartCreate]
    dsimp only
    rw [h9, hst, hch, chk_of (by simp [h1, h15, h10, hq, hq']), if_pos rfl, if_pos rfl, chk_of hown, chk_of hfw, chk_of (beq_self_eq_true 0)]
    rfl
  case reset =>
    intro v
    obtain ⟨hst, hlo, hhi⟩ := beginReset_part t (c.u 8 1)
    have hself : ¬ c.p = c.u 8 1 := fun e => hne (e.symm.trans h0)
    have hmay : (c.u 8 1 != 0 && (c.p == 0 || c.p == c.u 8 1)) = true := by
      rw [bne_iff_ne.mpr hne, beq_iff_eq.mpr (show c.p = 0 from h0)]
      rfl
    refine ⟨hst, hlo, hhi, (cmdRow_later bodyPartReset h (t := v) (?_ : bodyPartReset c t = _)).trans ?_⟩
    · rw [bodyPartReset, hex, Bool.true_or, chk_true, chk_of hmay, if_neg hself]
    · exact congrArg Host.Outcome.next (endCmd_later h0)
  case own =>
    have hself : c.p = c.u 8 1 := hself
    have hmay : (c.u 8 1 != 0 && (c.p == 0 || c.p == c.u 8 1)) = true := by
      rw [bne_iff_ne.mpr hne, beq_iff_eq.mpr hself, Bool.or_true]
      rfl
    refine cmdRow_body bodyPartReset h (r := .silent (beginReset t (c.u 8 1))) (?_ : bodyPartReset c t = _)
    rw [bodyPartReset, hex, Bool.true_or, chk_true, chk_of hmay, if_pos hself]
  case ended =>
    have h102 : ¬ a.opcode = 0x0102 := by rw [hop]; decide
    refine (endReset_one hc hw).trans ?_
    have hzero : (s.setPart p { s.part p with st := 1 }).part 0 = s.part 0 := State.setPart_part_ne _ _ _ hp.symm
    dsimp only
    rw [if_neg h102, hzero, filter_waits hc hw]
  case destroy =>
    intro v
    obtain ⟨hst, hlo, hhi⟩ := beginReset_part t (c.u 8 1)
    refine ⟨hst, hlo, hhi, (cmdRow_later bodyPartDestroy h (t := v) (?_ : bodyPartDestroy c t = _)).trans ?_⟩
    · rw [bodyPartDestroy, hex, Bool.true_or, chk_true, chk_of (bne_iff_ne.mpr hne)]
    · exact congrArg Host.Outcome.next (endCmd_later (part_of_p0 rfl h))
  case removed =>
    obtain ⟨hpart, hcmds, hbound⟩ := removePart_leaves (s := s.setPart p { s.part p with st := 1 }) hp
    have hzero : (s.setPart p { s.part p with st := 1 }).part 0 = s.part 0 := State.setPart_part_ne _ _ _ hp.symm
    rw [hzero] at hcmds
    have hend := endReset_one hc hw
    dsimp only at hend
    rw [if_pos hop, hcmds, filter_waits hc hw] at hend
    generalize removePart (s.setPart p { s.part p with st := 1 }) p = v at hpart hcmds hbound hend
    refine ⟨_, hend, (State.setPart_part_ne _ _ _ hp).trans hpart, congrArg Partition.cmds (State.setPart_part_same ..), hbound⟩

end Sys2Proof.Machine

/-!
O46 (R305, R336, R340, R351). Bindings, host table entries, regions of the shared window, aborted commands.
-/
namespace Sys2Proof.Machine

section
variable {s : State}

theorem host_setHost (e : Nat) (h : HostEnt) :
    ({ s with bridge := { s.bridge with hosts := tblSet s.bridge.hosts e h } } : State).host e = h ∧
    ∀ k, k ≠ e → ({ s with bridge := { s.bridge with hosts := tblSet s.bridge.hosts e h } } : State).host k = s.host k :=
  ⟨tblGetD_tblSet_same .., fun _ hk => tblGetD_tblSet_ne _ _ _ hk⟩

/-- Regions that do not meet (R340). -/
theorem region_apart {r base size : Nat}
    (h : ∀ k, k < 16 → k ≠ r → (s.region k).size ≠ 0 → size ≠ 0 → base ≥ (s.region k).base + (s.region k).size ∨ (s.region k).base ≥ base + size) :
    (size != 0 && (List.range 16).any (fun k =>
      k != r && (s.region k).size != 0 && decide (base < (s.region k).base + (s.region k).size) && decide ((s.region k).base < base + size))) = false := by
  rw [Bool.and_eq_false_iff]
  by_cases h0 : size = 0
  · exact .inl (by rw [h0]; rfl)
  · refine .inr (List.any_eq_false.mpr fun k hk hm => ?_)
    simp only [Bool.and_eq_true, bne_iff_ne, decide_eq_true_eq] at hm
    obtain ⟨⟨⟨hne, hsz⟩, hlo⟩, hhi⟩ := hm
    have hapart := h k (List.mem_range.mp hk) hne hsz h0
    omega

end

/-- Settles O46. -/
theorem bindingAndRegionCommands : Obligations.BindingAndRegionCommands := by
  unfold Obligations.BindingAndRegionCommands
  intro d s t c
  refine ⟨fun h h27 hex hff hz hb => ?bind, fun h h27 hff hz hb => ?unbind, fun h h15 h22 h23 h24 h26 h27 hex hb hz => ?host,
    fun h h15 hex hbase hsize hend hapart hl => ?region, fun a rest h htake hlate hgone => ?aborted, fun a rest h htake hpast => ?past⟩
  case bind =>
    refine cmdRow_ok bodyPartBind h (?_ : bodyPartBind c t = _)
    rw [bodyPartBind, if_neg hff, hex, Bool.or_true, hz, hb, chk_of (by simp [h27]), chk_true, chk_of Bool.not_false]
    rfl
  case unbind =>
    refine cmdRow_ok bodyPartBind h (?_ : bodyPartBind c t = _)
    rw [bodyPartBind, if_pos hff, hz, hb, chk_of (by simp [h27]), chk_true, chk_of Bool.not_false]
    rfl
  case host =>
    let dst := if bitAt (c.u 23 1) 0 then some (c.u 26 1) else none
    let x : HostEnt := { mac := c.u 16 6, port := c.u 22 1, valid := bitAt (c.u 23 1) 0, macsecReq := bitAt (c.u 23 1) 1
                         vlan := c.u 24 2, part := c.u 26 1 }
    let v := rebind t (12 + c.u 8 1) dst
    obtain ⟨hsame, hother⟩ := host_setHost (s := v) (c.u 8 1) x
    refine ⟨{ v with bridge := { v.bridge with hosts := tblSet v.bridge.hosts (c.u 8 1) x } }, cmdRow_ok bodyHostSet h (?_ : bodyHostSet c t = _), hsame,
      (rebind_bound _ dst _).trans (if_pos rfl), fun e he => (hother e he).trans (rebind_host ..)⟩
    rw [bodyHostSet]
    dsimp only
    rw [chk_of (by simp [h15, h22, h23, h24, h26, h27, hex]), hz, hb, chk_true, chk_of Bool.not_false]
    rfl
  case region =>
    refine cmdRow_ok bodySramRegionSet h (?_ : bodySramRegionSet c t = _)
    rw [bodySramRegionSet]
    dsimp only
    rw [region_apart hapart, hex, hl, chk_of (by simp [h15, hbase, hsize, hend]), chk_of List.all_nil]
    rfl
  case aborted =>
    refine cmdRow_ok bodyCmdAbort h (?_ : bodyCmdAbort c t = _)
    have htake' : takeFirst (fun (x : Async) => x.async && x.desc.tag == c.u 8 4) (t.part c.p).cmds = some (a, rest) := htake
    rw [bodyCmdAbort, htake']
    dsimp only
    rw [hlate, hgone]
    rfl
  case past =>
    refine cmdRow_ok bodyCmdAbort h (?_ : bodyCmdAbort c t = _)
    have htake' : takeFirst (fun (x : Async) => x.async && x.desc.tag == c.u 8 4) (t.part c.p).cmds = some (a, rest) := htake
    rw [bodyCmdAbort, htake']
    dsimp only
    rw [if_neg]
    · rfl
    · rcases hpast with h | h <;> rw [h]
      · rw [Bool.false_and]
        decide
      · rw [Bool.not_true, Bool.and_false]
        decide

end Sys2Proof.Machine

/-!
O47 (R337 to R339). Resources moved, shared and listed.
-/
namespace Sys2Proof.Machine

theorem anyHandle_of_localRes {s : State} {c : Cmd} {f : Nat → Nat → CmdRes} {cls i : Nat} (h : localRes s c.p (c.u 8 4) = some (cls, i)) :
    anyHandle s c f = f cls i := by
  unfold anyHandle
  rw [h]

theorem idle_source (s : State) (i : Nat) : s.idle 6 i = true := rfl

/-- Settles O47. -/
theorem ownershipCommands : Obligations.OwnershipCommands := by
  unfold Obligations.OwnershipCommands
  intro d s t c
  refine ⟨fun cls i h hl hex hfw h6 hidle => ?assign, fun i h hl hex hfw hfix => ?source, fun cls i h hl hex hown hlen hno => ?subscribe,
    fun cls i h hl hex hin => ?unsubscribe, fun cls i h hl => cmdRow_ok bodyResQuery h (anyHandle_of_localRes hl), fun l h hcls h9 hlen hown hl hroom => ?list⟩
  case assign =>
    refine cmdRow_ok bodyResAssign h (?_ : bodyResAssign c t = _)
    rw [bodyResAssign, anyHandle_of_localRes hl, chk_of hex, hfw, beq_false_of_ne h6, chk_of (by rfl), chk_of hidle, if_neg h6]
    rfl
  case source =>
    refine cmdRow_ok bodyResAssign h (?_ : bodyResAssign c t = _)
    rw [bodyResAssign, anyHandle_of_localRes hl, chk_of hex, hfw, hfix, chk_of (by rfl), chk_of (idle_source t i), if_pos rfl]
    rfl
  case subscribe =>
    refine cmdRow_ok bodyResSubscribe h (?_ : bodyResSubscribe c t = _)
    rw [bodyResSubscribe, anyHandle_of_localRes hl]
    dsimp only
    rw [hex, bne_iff_ne.mpr hown, chk_of (by rfl), hno, if_neg Bool.false_ne_true, chk_of (decide_eq_true hlen)]
    rfl
  case unsubscribe =>
    refine cmdRow_ok bodyResUnsubscribe h (?_ : bodyResUnsubscribe c t = _)
    rw [bodyResUnsubscribe, anyHandle_of_localRes hl, chk_of hex, chk_of hin]
    rfl
  case list =>
    refine cmdRow_ok bodyResList h (?_ : bodyResList c t = _)
    have hl' : (List.range (classSize (c.u 8 1))).filter (fun i => t.resOwner (c.u 8 1) i == c.p || (c.u 9 1 == 1 && (t.subsOf (c.u 8 1) i).contains c.p)) = l :=
      hl.symm
    have hlen' : c.len % 8 = 0 := hlen
    rw [bodyResList]
    rw [hl', hlen', bne_iff_ne.mpr hcls, decide_eq_true h9, chk_of (by rfl), chk_of hown, chk_of (decide_eq_true (show 4 * l.length ≤ c.len from hroom))]

end Sys2Proof.Machine

/-!
SUPPORT and O48 (R327, R365 to R376). Event queues, sources and the event registers.
-/
namespace Sys2Proof.Machine

section
variable {s : State} {p : Nat}

theorem intSettle_none (h : s.boundAtts p 8 12 = []) : intSettle s p = s := by
  unfold intSettle
  dsimp only
  rw [h]
  rfl

theorem intSettle_setPart {x : Partition} (h : s.boundAtts p 8 12 = []) : intSettle (s.setPart p x) p = s.setPart p x := intSettle_none h

theorem testNotify_fired (h : (s.part p).fired = true) : testNotify s p = s := by
  unfold testNotify
  dsimp only
  rw [h]
  rfl

/-- Nothing is due while no record waits (R367). -/
theorem testNotify_none (hp : (s.part p).pendingRecs = 0) (hc : 1 ≤ (s.part p).countMod) : testNotify s p = s := by
  have hdue (lt tm o h : Nat) : notifyDue lt 0 (s.part p).countMod tm o h = false := by
    unfold notifyDue
    rw [decide_eq_false (by omega), decide_eq_false (by decide)]
    rfl
  unfold testNotify
  dsimp only
  rw [hp, hdue, Bool.and_false]
  rfl

theorem ownRes_queue {c : Cmd} {q : Nat} {r : CmdRes} (ho : s.owns c.p 5 q = true) (hf : (s.queue q).fwUse = 0) : ownRes s c 5 q r = r := by
  refine ownRes_of_owns ho ?_
  rw [State.fwHeld, hf]
  rfl

/-- Where EVQ_SET finds its queue (R365). -/
theorem bodyEvqSet_queue {c : Cmd} {q : Nat} (h8 : c.u 8 2 < 4096) (hv : s.viewQueue c.p (c.u 8 2) = some q) (h10 : c.u 10 1 ≤ 1)
    (hf : (s.queue q).fwUse = 0) (ho : s.owns c.p 5 q = true) :
    ((s.part c.p).evq = some q → bodyEvqSet c s = .ok [] [] s) ∧
    ((s.part c.p).evq ≠ some q → (s.queue q).enable = true → bodyEvqSet c s = .fail stBusy) ∧
    ((s.part c.p).evq = none → (s.queue q).enable = false → (s.queue q).prod = .none → (s.queue q).cons = .none → s.boundAtts c.p 8 12 = [] →
      bodyEvqSet c s = .ok [] [] ((s.setQueue q { s.queue q with prod := .event c.p, cons := .host, hold := c.u 10 1 == 1, pin := true }).setPart
        c.p { s.part c.p with evq := some q, evqHead := 0, evqTail := 0, evqTimes := [], fired := false })) := by
  have h10' : decide (c.u 10 1 ≤ 1) = true := decide_eq_true h10
  refine ⟨fun he => ?_, fun hne hen => ?_, fun hnone hen hp hc hb => ?_⟩
  · rw [bodyEvqSet, if_pos h8, hv]
    dsimp only
    rw [chk_of h10', ownRes_queue ho hf, if_pos he]
    rfl
  · rw [bodyEvqSet, if_pos h8, hv]
    dsimp only
    rw [chk_of h10', ownRes_queue ho hf, if_neg hne, hen]
    rfl
  · have hbound (x : Queue) (y : Partition) : ((s.setQueue q x).setPart c.p y).boundAtts c.p 8 12 = [] := hb
    rw [bodyEvqSet, if_pos h8, hv]
    dsimp only
    rw [chk_of h10', ownRes_queue ho hf, hnone, if_neg nofun, hen, hp, hc, chk_of (by rfl)]
    exact congrArg okS (intSettle_none (hbound ..))

end

/-- Settles O48. -/
theorem eventQueueAndSources : Obligations.EventQueueAndSources := by
  unfold Obligations.EventQueueAndSources
  refine ⟨fun d s => ?commands, fun a p v o hw ho => ?registers⟩
  case commands =>
    intro t c
    refine ⟨fun q h h8 hv h10 hf how he hen hp hc hb => cmdRow_ok bodyEvqSet h ((bodyEvqSet_queue h8 hv h10 hf how).2.2 he hen hp hc hb),
      fun q h h8 hv h10 hf how he => cmdRow_ok bodyEvqSet h ((bodyEvqSet_queue h8 hv h10 hf how).1 he),
      fun q h h8 hv h10 hf how he hen => cmdRow_fail bodyEvqSet h ((bodyEvqSet_queue h8 hv h10 hf how).2.1 he hen),
      fun e h hl h14 h16 h18 hown => ?cfg, fun e h hl h14 h16 h18 hown => ?foreign, fun e h hl hown => ?status⟩
    case cfg =>
      refine cmdRow_ok bodyEvtCfg h (?_ : bodyEvtCfg c t = _)
      have hown' : (t.sourceOwner e == some c.p) = true := beq_iff_eq.mpr hown
      rw [bodyEvtCfg, handle_of_localRes hl, bne_iff_ne.mpr h14, bne_iff_ne.mpr h16, decide_eq_true h18, chk_of (by rfl), chk_of hown']
      rfl
    case foreign =>
      refine cmdRow_fail bodyEvtCfg h (?_ : bodyEvtCfg c t = _)
      have hown' : (t.sourceOwner e == some c.p) = false := beq_false_of_ne hown
      rw [bodyEvtCfg, handle_of_localRes hl, bne_iff_ne.mpr h14, bne_iff_ne.mpr h16, decide_eq_true h18, chk_of (by rfl), hown']
      rfl
    case status =>
      refine cmdRow_ok bodyEvtStatus h (?_ : bodyEvtStatus c t = _)
      have hown' : (t.sourceOwner e == some c.p || (t.subsOf 6 e).contains c.p) = true := by
        rw [beq_iff_eq.mpr (show t.sourceOwner e = some c.p from hown), Bool.true_or]
      rw [bodyEvtStatus, handle_of_localRes hl, chk_of hown']
  case registers =>
    intro s x
    have hrun (f : State → Nat → Ans) : (accessAs a o f).s = (f s p).s := by rw [accessAs_open f hw ho]
    refine ⟨fun h => congrArg _ ((hrun _).trans (if_pos h)), fun ht hh hv hb hc => congrArg Host.Outcome.next ((hrun _).trans ?_),
      fun h => congrArg _ ((hrun _).trans (if_pos h)), fun h hb hf => congrArg Host.Outcome.next ((hrun _).trans ?_), congrArg _ (hrun _),
      fun att hatt hb => (if_pos hatt).trans (congrArg Host.Outcome.next ((hrun _).trans ?_)),
      fun att hatt hb => (if_pos hatt).trans (congrArg Host.Outcome.next ((hrun _).trans ?_))⟩
    · have hmod : v % 4294967296 = v := Nat.mod_eq_of_lt (hv ▸ ht)
      have hadv : (v + 4294967296 - x.evqHead) % 4294967296 = x.pendingRecs := by rw [hv]; rfl
      have hset : evqHeadReg s p v = testNotify (intSettle (s.setPart p { x with
          evqHead := v, evqTimes := x.evqTimes.drop x.pendingRecs, fired := false, headAt := s.lt }) p) p := by
        unfold evqHeadReg
        dsimp only
        rw [hmod, hadv]
        exact if_neg (Nat.lt_irrefl _)
      have hpart := State.setPart_part_same s p { x with evqHead := v, evqTimes := x.evqTimes.drop x.pendingRecs, fired := false, headAt := s.lt }
      refine hset.trans ?_
      rw [intSettle_setPart hb, testNotify_none]
      · rw [hpart, Partition.pendingRecs, hv]
        dsimp only
        omega
      · rw [hpart]
        exact hc
    · have hset : evqCtrlReg s p v = testNotify (intSettle (s.setPart p { x with
          target := bitsAt v 16 2, vector := bitsAt v 18 6, countMod := bitsAt v 32 11, timeMod := bitsAt v 48 16 }) p) p :=
        if_neg (by rw [h]; decide)
      refine hset.trans ?_
      rw [intSettle_setPart hb, testNotify_fired]
      rw [State.setPart_part_same]
      exact hf
    · rw [if_pos hb]
      rfl
    · rw [if_neg hb]
      rfl

end Sys2Proof.Machine

/-!
SUPPORT and O49 (R364 to R373). How a notice becomes a record.
-/
namespace Sys2Proof.Machine

section
variable {s : State} {p q : Nat}

/-! A record in its event queue (R366). -/

theorem takeOn_pool : (takeOn s).2 = { s with pool := (takeOn s).2.pool } ∧ (takeOn s).2.pool.commits = s.pool.commits := by
  unfold takeOn
  split <;> exact ⟨rfl, rfl⟩

/-- A pinned queue takes an on-chip cell for a record, from the reserve too (R89, R102). -/
theorem grantForQueue_event (hlim : (s.queue q).charged < (s.queue q).limit) (hpin : (s.queue q).pin = true) (hon : 0 < s.onFree) :
    ∃ b, grantForQueue s q 0 true none = .ok (takeOn s).1 ((takeOn s).2.countIf b cReserveUsed 0) := by
  have hpinned : (s.queue q).pinned = true := by rw [Queue.pinned, hpin, Bool.true_or]
  have hfree : 0 < s.freeCells := Nat.lt_of_lt_of_le hon (Nat.le_add_right ..)
  have hroom : (s.freeCells > s.pool.reserve || (s.freeCells > 0 && (decide (0 ≥ s.pool.reserveMinClass) || true))) = true := by
    simp [hfree]
  have htake : takeCell s true = .ok (takeOn s).1 (takeOn s).2 := by
    unfold takeCell
    rw [if_pos rfl, if_pos hon]
  refine ⟨decide (s.freeCells ≤ (takeOn s).2.pool.reserve), ?_⟩
  simp only [grantForQueue, Bool.false_eq_true, if_false, if_pos hlim, grantCell, if_pos hroom, hpinned, htake]

/-- What a record leaves in its queue before it is committed. -/
def State.recorded (s : State) (q : Nat) (d : List Byte) (c : Nat) (l : Pool) (k : Tbl Nat) : State :=
  { s with pool := l, counters := k }.setQueue q { s.queue q with opn := some { bytes := d, cells := [c] }, lastWrite := d.length }

theorem appendOpen_record {d : List Byte} (he : (s.queue q).enable = true) (ho : (s.queue q).opn = none) (hd : 0 < d.length)
    (hd' : d.length ≤ 128) (hlim : (s.queue q).charged < (s.queue q).limit) (hpin : (s.queue q).pin = true) (hon : 0 < s.onFree) :
    ∃ c l k b, appendOpen s q d 0 true = (s.recorded q d c l k, true) ∧ l.commits = s.pool.commits ∧ k = (s.countIf b cReserveUsed 0).counters := by
  let u := s.setQueue q { s.queue q with opn := some {} }
  have hcells : cellsFor ((s.queue q).openBytes + d.length) - ((s.queue q).opn.getD {}).cells.length = 1 := by
    simp only [Queue.openBytes, ho, cellsFor, Option.getD_none, List.length_nil]
    omega
  obtain ⟨b, hgrant⟩ : ∃ b, grantForQueue u q 0 true none = .ok (takeOn u).1 ((takeOn u).2.countIf b cReserveUsed 0) := by
    refine grantForQueue_event ?_ ?_ hon
    · simpa [u, Queue.charged, Queue.openCells, Queue.depth, ho] using hlim
    · simpa [u] using hpin
  obtain ⟨hframe, hcommits⟩ := takeOn_pool (s := u)
  let w := (takeOn u).2.countIf b cReserveUsed 0
  have hw : w.queue q = { s.queue q with opn := some {} } := by
    have hsame : w.queue q = u.queue q := by
      show ((takeOn u).2.countIf b cReserveUsed 0).queue q = _
      rw [hframe]
      cases b <;> rfl
    rw [hsame]
    exact State.setQueue_queue_same ..
  have hgrow : growOpen (s.setQueue q { s.queue q with opn := some ((s.queue q).opn.getD {}) }) q 0 true
      (cellsFor ((s.queue q).openBytes + d.length) - ((s.queue q).opn.getD {}).cells.length)
      = (w.setQueue q { s.queue q with opn := some { cells := [(takeOn u).1] } }, none) := by
    rw [hcells, ho]
    show growOpen u q 0 true 1 = _
    simp only [growOpen, hgrant]
    rw [show ((takeOn u).2.countIf b cReserveUsed 0).queue q = _ from hw]
    rfl
  have hlen : (s.queue q).openBytes + d.length ≤ 2097152 := by
    simp only [Queue.openBytes, ho]
    omega
  refine ⟨(takeOn u).1, (takeOn u).2.pool, w.counters, b, (appendOpen_grown he hlen hgrow).trans ?_, hcommits, ?_⟩
  · rw [State.setQueue_queue_same, State.setQueue_setQueue]
    have hw' : w = ({ s with pool := (takeOn u).2.pool, counters := w.counters } : State).setQueue q { s.queue q with opn := some {} } := by
      show (takeOn u).2.countIf b cReserveUsed 0 = { u with pool := (takeOn u).2.pool, counters := ((takeOn u).2.countIf b cReserveUsed 0).counters }
      rw [hframe]
      cases b <;> rfl
    refine Prod.ext (Eq.trans (congrArg (fun v : State => v.setQueue q _) hw') (State.setQueue_setQueue ..)) rfl
  · show ((takeOn u).2.countIf b cReserveUsed 0).counters = _
    rw [hframe]
    cases b <;> rfl

theorem length_recordBytes {src node cause flags data time : Nat} : (recordBytes src node cause flags data time).length = 16 := by
  simp [recordBytes, length_leBytes]

/-- The state once a record is committed to its queue (R106, R366). -/
def State.recordedIn (s : State) (q : Nat) (d : List Byte) (c : Nat) (l : Pool) (k : Tbl Nat) : State :=
  (((s.recorded q d c l k).counting.setQueue q {
    s.queue q with
    opn := none, lastWrite := 0, lostBefore := false
    fresh := (s.queue q).fresh ++ [{ bytes := d, cells := [c], committedAt := s.work, seq := l.commits, atLt := s.lt }] }).count
      cEnqPackets q).count cEnqBytes q d.length

theorem putPacket_record {d : List Byte} (he : (s.queue q).enable = true) (ho : (s.queue q).opn = none) (hd : 0 < d.length)
    (hd' : d.length ≤ 128) (hlim : (s.queue q).charged < (s.queue q).limit) (hpin : (s.queue q).pin = true) (hon : 0 < s.onFree)
    (hf : (s.queue q).flushPending = false) (hl : (s.queue q).lostBefore = false) :
    ∃ c l k b, putPacket s q d 0 true = (s.recordedIn q d c l k, true) ∧ l.commits = s.pool.commits ∧ k = (s.countIf b cReserveUsed 0).counters := by
  obtain ⟨c, l, k, b, happ, hc, hk⟩ := appendOpen_record he ho hd hd' hlim hpin hon
  have hq : (s.recorded q d c l k).queue q = { s.queue q with opn := some { bytes := d, cells := [c] }, lastWrite := d.length } :=
    State.setQueue_queue_same ..
  have hcommit : commitOpen (s.recorded q d c l k) q none = s.recordedIn q d c l k := by
    rw [commitOpen_open (k := { bytes := d, cells := [c] })]
    · rw [hq]
      dsimp only
      rw [hl]
      rfl
    · rw [hq]
      exact he
    · rw [hq]
    · exact List.length_pos_iff.mp hd
    · rw [hq]
      exact hf
  refine ⟨c, l, k, b, ?_, hc, hk⟩
  unfold putPacket
  rw [happ]
  exact congrArg (·, true) hcommit

/-- The record of a partition whose notification is already set (R366, R371). -/
theorem commitRecord_fired {src node cause flags data time : Nat} {t : State} (hst : (s.part p).st = 1) (hevq : (s.part p).evq = some q)
    (hl : (s.queue q).lostBefore = false) (hput : putPacket s q (recordBytes src node cause flags data time) 0 true = (t, true))
    (hf : (t.part p).fired = true) :
    ∃ m, commitRecord s p src node cause flags data time = t.setPart p {
      t.part p with
      evqTail := ((t.part p).evqTail + 1) % 4294967296, evqTimes := (t.part p).evqTimes ++ [t.lt], summary := m } ∧
      (node ≠ 0 → m = (t.part p).summary) := by
  let m := if (node == 0 && t.sourceOwner src == some p) = true then
    listSet (t.part p).summary (src / 512) (orBit ((t.part p).summary.getD (src / 512) 0) (src / 8 % 64)) else (t.part p).summary
  refine ⟨m, ?_, fun hn => if_neg ?_⟩
  · unfold commitRecord
    dsimp only
    rw [if_neg (not_not_intro hst), hevq]
    dsimp only
    rw [hl, if_neg Bool.false_ne_true, Nat.add_zero, hput]
    dsimp only
    rw [testNotify_fired]
    rw [State.setPart_part_same]
    exact hf
  · rw [beq_false_of_ne hn, Bool.false_and]
    exact Bool.false_ne_true

/-! Notices (R368, R373). -/

section
variable {src cause data : Nat}

theorem settle_calm {x : EvSrc} {now : Nat} (h : x.storm = false) : x.settle now = x := by
  unfold EvSrc.settle
  rw [h]
  rfl

theorem settle_storm {x : EvSrc} {now : Nat} (h : now < x.lastAt + x.stormWin * 1000000) : x.settle now = x := by
  unfold EvSrc.settle
  rw [decide_eq_false (Nat.not_le.mpr h), Bool.and_false]
  rfl

theorem settle_over {x : EvSrc} {now : Nat} (hs : x.storm = true) (h : x.lastAt + x.stormWin * 1000000 ≤ now) :
    x.settle now = { x with storm := false, after := true, winAt := none } := by
  unfold EvSrc.settle
  rw [decide_eq_true h, hs]
  rfl

theorem masks_low {x : EvSrc} (h1 : 1 ≤ cause) (h16 : cause ≤ 16) : x.masks cause = !bitAt x.mask (cause - 1) := if_pos ⟨h1, h16⟩

theorem masks_high {x : EvSrc} (h1 : 17 ≤ cause) (h32 : cause ≤ 32) : x.masks cause = bitAt x.offHi (cause - 17) :=
  (if_neg (by omega)).trans (if_pos ⟨h1, h32⟩)

theorem raise_masked (hs : ((s.source src).settle s.lt).masks cause = true) : raise s src cause data =
    s.setSource src { (s.source src).settle s.lt with masked := ((s.source src).settle s.lt).masked + 1 } := if_pos hs

theorem raise_suppressed (hm : ((s.source src).settle s.lt).masks cause = false) (hs : ((s.source src).settle s.lt).storm = true) :
    raise s src cause data = s.setSource src {
      (s.source src).settle s.lt with
      suppressed := ((s.source src).settle s.lt).suppressed + 1, stormSup := ((s.source src).settle s.lt).stormSup + 1, lastAt := s.lt } :=
  (if_neg (by rw [hm]; exact Bool.false_ne_true)).trans (if_pos hs)

/-- A notice inside a running window (R373). -/
theorem raise_window {w : Nat} (hc : (s.source src).storm = false) (hm : (s.source src).masks cause = false) (hw : (s.source src).winAt = some w)
    (hlt : s.lt < w + (s.source src).stormWin * 1000000) :
    let x := s.source src
    (x.stormN < x.winCnt + 1 → raise s src cause data = deliverRecord (s.setSource src {
      x with
      winCnt := x.winCnt + 1, lastAt := s.lt, storm := true, suppressed := x.suppressed + 1, stormSup := 1 }) src 0xFF 1 x.stormN) ∧
    (x.winCnt + 1 ≤ x.stormN → x.after = false → raise s src cause data =
      deliverRecord (s.setSource src { x with winCnt := x.winCnt + 1, lastAt := s.lt }) src cause 0 (data % 16777216)) := by
  intro x
  refine ⟨fun hn => ?_, fun hn ha => ?_⟩
  · unfold raise
    dsimp only
    rw [settle_calm hc, hm, hc, if_neg Bool.false_ne_true, if_neg Bool.false_ne_true, hw]
    dsimp only
    simp only [hlt, decide_true, ↓reduceIte]
    exact if_pos hn
  · unfold raise
    dsimp only
    rw [settle_calm hc, hm, hc, if_neg Bool.false_ne_true, if_neg Bool.false_ne_true, hw]
    dsimp only
    simp only [hlt, decide_true, ↓reduceIte]
    exact (if_neg (Nat.not_lt.mpr hn)).trans (if_neg (by rw [show (s.source src).after = false from ha]; decide))

end

/-! Notifications (R367). -/

theorem testRing_none (h : (s.queue q).ring = none) : testRing s q = s := by
  unfold testRing
  dsimp only
  rw [h]

theorem testNotify_due (hf : (s.part p).fired = false) (hp : 1 ≤ (s.part p).pendingRecs) (ht : (s.part p).timeMod ≠ 0)
    (hd : max ((s.part p).evqTimes.headD 0) (s.part p).headAt + (s.part p).timeMod * 1000 ≤ s.lt) (h0 : (s.part p).target = 0) :
    testNotify s p = s.setPart p { s.part p with fired := true } := by
  have hdue : notifyDue s.lt (s.part p).pendingRecs (s.part p).countMod (s.part p).timeMod ((s.part p).evqTimes.headD 0) (s.part p).headAt = true := by
    unfold notifyDue
    rw [decide_eq_true hp, decide_eq_true ht, decide_eq_true hd, Bool.or_eq_true]
    exact .inr rfl
  unfold testNotify
  dsimp only
  rw [hf, hdue, if_pos (by decide), signalTarget, State.setPart_part_same, if_neg (by rw [h0]; decide), if_neg (by rw [h0]; decide)]

end

/-- The packets of a queue and the cells taken from the reserve are counted apart. -/
theorem ctr_enqPackets_reserve (q : Nat) (u : State) : (u.count cReserveUsed 0).ctr cEnqPackets q = u.ctr cEnqPackets q := by
  refine tblGetD_tblSet_ne _ _ _ ?_
  dsimp only [ctrKey, cReserveUsed, cEnqPackets]
  omega

/-- Settles O49. -/
theorem eventRecords : Obligations.EventRecords := by
  unfold Obligations.EventRecords
  refine ⟨fun s src cause data hs => ?calm, fun s src cause data hs hlt h1 h16 hm => ?storm, fun s p src node cause flags data time => ?commit,
    fun f r hp hv ht hl => ?frame, fun s src hsrc => ?stormEnd, fun s p hp hq hring => ?notify⟩
  case calm =>
    intro x
    have hset : (s.source src).settle s.lt = s.source src := settle_calm hs
    refine ⟨fun h1 h16 hm => ?_, fun h17 h32 hm => ?_, fun w h1 h16 hm hw hlt => raise_window hs ?_ hw hlt⟩
    · rw [raise_masked (by rw [hset, masks_low h1 h16, hm]; rfl), hset]
    · rw [raise_masked (by rw [hset, masks_high h17 h32, hm]), hset]
    · rw [masks_low h1 h16, hm]
      rfl
  case storm =>
    intro x
    have hset : (s.source src).settle s.lt = s.source src := settle_storm hlt
    rw [raise_suppressed (by rw [hset, masks_low h1 h16, hm]; rfl) (by rw [hset, hs]), hset]
  case commit =>
    refine ⟨fun hst => if_pos hst, fun hst he => ?_, fun q hst hevq hen ho hf hl hlim hpin hon hfired => ?_⟩
    · unfold commitRecord
      dsimp only
      rw [if_neg (not_not_intro hst), he]
    · intro t
      let d := recordBytes src node cause flags data time
      have hlen : d.length = 16 := length_recordBytes
      obtain ⟨c, l, k, b, hput, hcommits, hk⟩ := putPacket_record (d := d) hen ho (by omega) (by omega) hlim hpin hon hf hl
      have hpart : (s.recordedIn q d c l k).part p = s.part p := rfl
      obtain ⟨m, ht, hm⟩ := commitRecord_fired hst hevq hl hput (by rw [hpart]; exact hfired)
      have hctr {e : CtrId} {i : Nat} (h1 : ∀ u : State, (u.count cReserveUsed 0).ctr e i = u.ctr e i) :
          (s.recorded q d c l k).ctr e i = s.ctr e i := by
        refine (ctr_of_counters (s := s.countIf b cReserveUsed 0) hk e i).trans ?_
        cases b
        · rfl
        · exact h1 s
      have hqueue : (s.recordedIn q d c l k).queue q = { s.queue q with
          opn := none, lastWrite := 0, lostBefore := false
          fresh := (s.queue q).fresh ++ [{ bytes := d, cells := [c], committedAt := s.work, seq := l.commits, atLt := s.lt }] } :=
        State.setQueue_queue_same ..
      have ht' : t = _ := ht
      refine ⟨c, ?_, ?_, ?_, ?_, fun hn => ?_⟩
      · rw [ht', State.setPart_part_same]
        rfl
      · rw [ht', State.setPart_queue, hqueue, hcommits]
      · rw [ht']
        refine (ctr_count_ne_pos (by decide) ..).trans ((ctr_count_ne_pos (by decide) ..).trans (hctr fun _ => ctr_count_ne_pos (by decide) ..))
      · rw [ht']
        refine (ctr_count_ne_pos (by decide) ..).trans ((ctr_count_same ..).trans (congrArg (· + 1) ?_))
        exact hctr (ctr_enqPackets_reserve q)
      · rw [ht', State.setPart_part_same]
        exact hm hn
  case frame =>
    intro s d hn hsrc
    have h1 : ¬ (beAt d 0 2 = srcPort 0 0 ∨ beAt d 0 2 = srcPort 1 0) := by
      unfold srcPort at hsrc ⊢
      omega
    have h2 : ¬ (beAt d 0 2 = srcPort 0 1 ∨ beAt d 0 2 = srcPort 1 1) := by
      unfold srcPort at hsrc ⊢
      omega
    have hnode : r.fromNode f = true := (fromNode_takeFromQueue 2 f f).symm.trans hn
    exact congrArg Host.Outcome.next ((grtServe_queue2 hp hv ht hl hnode (by decide)).trans ((if_neg h1).trans (if_neg h2)))
  case stormEnd =>
    intro x
    refine ⟨fun hs hd => (if_pos hsrc).trans ?_, fun h => (if_pos hsrc).trans ?_⟩
    · rw [settle_over hs hd]
    · rw [h.elim settle_calm settle_storm]
  case notify =>
    intro x
    have hrun (t : State) (ht : testNotify s p = t) (hr : ∀ q, (t.queue q).ring = none) : exec (.notificationTimeout p) s = .next t := by
      refine (if_pos hp).trans (congrArg Host.Outcome.next ?_)
      rw [ht]
      exact forEach_of_fixed_mem fun e _ => testRing_none (hr e.1)
    refine ⟨fun h => hrun s ?_ hring, fun hf h1 htm hd h0 => hrun _ (testNotify_due hf h1 htm hd h0) hring⟩
    rcases h with h | ⟨h0, hc⟩
    · exact testNotify_fired h
    · exact testNotify_none h0 hc

end Sys2Proof.Machine

/-!
O50 (R374 to R378). The fault ladder.
-/
namespace Sys2Proof.Machine

section
variable {s : State} {f g : Flt} {r : List Flt}

/-- A fault found while the hub neither restarts nor rests (R378). -/
theorem detect_calm (hs : s.faults.safeHalt = false) (hr : s.faults.resetting = false) (hh : (s.pair 0).halted = false) :
    let u := s.count cFaults f.code
    (s.faults.handling = [] → f.level = 3 → detect s f = goFatal (faultRegs u f) f) ∧
    (s.faults.handling = [] → f.level ≠ 3 → detect s f = beginFault (faultRegs u f) f) ∧
    (s.faults.handling = g :: r → g.level = 2 → f.level = 2 → detect s f = goFatal (faultRegs u { f with level := 3 }) { f with level := 3 }) ∧
    (s.faults.handling = g :: r → g.level ≤ 2 → f.level ≤ 1 → detect s f = queueFault u f) := by
  intro u
  have hsafe : u.faults.safeHalt = false := hs
  have hres : u.faults.resetting = false := hr
  have hhalt : ¬ (u.pair 0).halted = true := fun h => absurd (hh.symm.trans h) (by decide)
  have hhand : u.faults.handling = s.faults.handling := rfl
  unfold detect
  dsimp only
  show _ ∧ _
  rw [show s.count cFaults f.code = u from rfl, hsafe, hres, hhand, if_neg Bool.false_ne_true, if_neg Bool.false_ne_true]
  refine ⟨fun hn hl => ?_, fun hn hl => ?_, fun hn hg hl => ?_, fun hn hg hl => ?_⟩
  · rw [if_pos hl, hn]
  · rw [if_neg hl, hn]
    exact if_neg hhalt
  · rw [if_neg (by omega), hn]
    exact (if_neg (by omega)).trans ((if_neg (by omega)).trans (if_pos hg))
  · rw [if_neg (by omega), hn]
    exact (if_neg (by omega)).trans (if_pos hl)

theorem detectCode_of {code detail l : Nat} (h : faultLevel s code detail = some l) : detectCode s code detail =
    detect s { code := code, level := l, detail := detail, atNs := s.work, parts := faultParts s code detail } := by
  unfold detectCode
  rw [h]

theorem detectCode_none {code detail : Nat} (h : faultLevel s code detail = none) : detectCode s code detail = s := by
  unfold detectCode
  rw [h]

theorem goFatal_faults : (goFatal s f).faults.fatal = some f ∧ (goFatal s f).faults.handling = [f] ∧ (goFatal s f).faults.queued = [] ∧
    (goFatal s f).faults.faultN = false ∧ (goFatal s f).boot.resetAt = some ((lastGasp s).lt + 10000, 5) := by
  unfold goFatal
  generalize lastGasp s = u
  exact ⟨rfl, rfl, rfl, rfl, rfl⟩

theorem queueFault_first (h : s.faults.queued = []) : queueFault s f = faultRegs (s.setFaults { s.faults with queued := [f] }) f := by
  unfold queueFault
  dsimp only
  rw [h]
  rfl

/-- A handled fault ends (R378). -/
theorem faultQueuedHandle_calm (hh : (s.pair 0).halted = false) (hs : s.faults.safeHalt = false) (hr : s.faults.resetting = false)
    (hn : s.faults.handling = g :: r) (hg : g.level ≤ 2) :
    let v := s.setFaults { s.faults with handling := r, faultN := s.faults.faultN || (s.boot.running && !r.any (fun h => decide (2 ≤ h.level))) }
    (s.faults.queued = [] → exec .faultQueuedHandle s = .next v) ∧
    (∀ q, r = [] → s.faults.queued = f :: q → exec .faultQueuedHandle s = .next (beginFault (v.setFaults { v.faults with queued := q }) f)) := by
  intro v
  have hlevel : ¬ (g.level == 3) = true := fun h => absurd (eq_of_beq h) (by omega)
  show (_ → execFaultQueuedHandle s = _) ∧ ∀ q, _ → _ → execFaultQueuedHandle s = _
  unfold execFaultQueuedHandle
  dsimp only
  have hgate : ¬ ((s.pair 0).halted || s.faults.safeHalt || s.faults.resetting) = true := by
    rw [hh, hs, hr]
    decide
  rw [if_neg hgate, hn, if_neg hlevel]
  refine ⟨fun hq => ?_, fun q hr hq => ?_⟩
  · dsimp only [v]
    rw [hq]
    cases r <;> rfl
  · dsimp only [v]
    rw [hq, hr]
    rfl

theorem poisonQueue_queues (q : Nat) : (poisonQueue s q).queues = s.queues := by
  unfold poisonQueue State.draw
  dsimp only
  split <;> rfl

theorem mismatch_runs {p : Nat} (hok : (s.pair p).ok = true) (hc : (s.pair p).closed = false) :
    mismatch s p = detectCode (s.setPair p { s.pair p with closed := true }) (if p = 0 then 0x08 else 0x07) p := by
  unfold mismatch
  dsimp only
  rw [hok, hc, if_neg (by decide)]
  by_cases h : p = 0
  · rw [if_pos h, if_pos h, h]
  · rw [if_neg h, if_neg h]

/-- A fault of level 0 is recorded for partition 0 alone (R376). -/
theorem beginFault_note (h : f.level = 0) : beginFault (faultRegs s f) f = faultRecord s 0 f := by
  rw [faultRegs, if_pos h, beginFault, if_pos h]

theorem watchdogExpiry_idle (h : s.ctl.wdRun = false ∨ (s.pair 0).halted = true ∨ s.lt < s.ctl.wdAt + 50000000) :
    exec .watchdogExpiry s = .next s := by
  refine if_neg fun hd => ?_
  rw [Bool.and_eq_true, Bool.and_eq_true, Bool.not_eq_true', decide_eq_true_eq] at hd
  obtain ⟨⟨hrun, hhalt⟩, hdue⟩ := hd
  rcases h with h | h | h
  · exact absurd (h.symm.trans hrun) (by decide)
  · exact absurd (h.symm.trans hhalt) (by decide)
  · omega

end

/-- Settles O50. -/
theorem faultLadder : Obligations.FaultLadder := by
  unfold Obligations.FaultLadder
  refine ⟨fun s code detail h1 h13 h2 => ?detected, fun s q => ⟨rfl, ?poison⟩, fun s f => goFatal_faults,
    fun s p f => State.setPart_part_same .., fun s hh hs hr => ?handle, fun s p hp => ?pairs, fun s => ⟨watchdogExpiry_idle, fun hrun hhalt hdue => ?watchdog⟩⟩
  case detected =>
    have hrun : exec (.faultDetected code detail) s = .next (detectCode s code detail) :=
      (if_neg (by omega)).trans (congrArg (fun t => Host.Outcome.next (detectCode t code detail)) (if_neg h2))
    refine ⟨fun l hs hl => hrun.trans (congrArg _ ((detectCode_of hl).trans (if_pos hs))), fun hl => hrun.trans (congrArg _ (detectCode_none hl)),
      fun l hl hs hr hh => ?_⟩
    intro u f
    have hd : exec (.faultDetected code detail) s = .next (detect s f) := hrun.trans (congrArg _ (detectCode_of hl))
    refine ⟨fun hn h3 => ?_, fun hn h0 => ?_, fun hn h12 => ?_, fun g r hn hg h2 => ?_, fun g r hn hg h1 hq => ?_⟩
    · exact hd.trans (congrArg _ ((detect_calm (g := f) (r := []) hs hr hh).1 hn h3))
    · refine hd.trans (congrArg _ (((detect_calm (g := f) (r := []) hs hr hh).2.1 hn ?_).trans (beginFault_note h0)))
      exact fun h3 => absurd (h0.symm.trans h3) (by decide)
    · refine hd.trans (congrArg _ ((detect_calm (g := f) (r := []) hs hr hh).2.1 hn ?_))
      show l ≠ 3
      omega
    · exact hd.trans (congrArg _ ((detect_calm hs hr hh).2.2.1 hn hg h2))
    · refine hd.trans (congrArg Host.Outcome.next (((detect_calm hs hr hh).2.2.2 hn hg h1).trans ?_))
      exact queueFault_first hq
  case poison => exact poisonQueue_queues q
  case handle =>
    refine ⟨fun g r hn hg hq => (faultQueuedHandle_calm (f := g) hh hs hr hn hg).1 hq,
      fun g f q hn hg hq => ((faultQueuedHandle_calm hh hs hr hn hg).2 q rfl hq).trans (congrArg Host.Outcome.next ?_)⟩
    have hrun : (s.boot.running && !([] : List Flt).any (fun h => decide (2 ≤ h.level))) = s.boot.running := Bool.and_true _
    rw [hrun]
    rfl
  case pairs =>
    refine ⟨fun h => ?_, fun hok hc => ⟨(if_pos hp).trans (congrArg _ (mismatch_runs hok hc)), (if_pos hp).trans (congrArg _ (if_neg ?_))⟩⟩
    · have hidle : (!(s.pair p).ok || (s.pair p).closed) = true := by
        rcases h with h | h <;> rw [h]
        · rfl
        · exact Bool.or_true _
      exact ⟨(if_pos hp).trans (congrArg _ (if_pos hidle)), (if_pos hp).trans (congrArg _ (if_pos hidle))⟩
    · rw [hok, hc]
      decide
  case watchdog =>
    exact if_pos (by rw [hrun, hhalt, decide_eq_true hdue]; rfl)

end Sys2Proof.Machine

/-!
O51 (R9, R375 to R381, R422 to R431, R537). Clocks, rails, temperatures, memory errors, die links and the debugger.
-/
namespace Sys2Proof.Machine

section
variable {s : State}

/-! Temperatures (R537). -/

theorem all_listSet {f : Int → Bool} {l : List Int} {k : Nat} {r : Int} (hl : l.all f = true) (hr : f r = true) : (listSet l k r).all f = true := by
  induction l generalizing k with
  | nil => rfl
  | cons a l ih =>
    rw [List.all_cons, Bool.and_eq_true] at hl
    obtain ⟨ha, hl⟩ := hl
    cases k with
    | zero => rw [listSet, List.all_cons, hr, hl, Bool.true_and]
    | succ k => rw [listSet, List.all_cons, ha, ih hl, Bool.true_and]

theorem not_all_listSet {f : Int → Bool} {l : List Int} {k : Nat} {r : Int} (hk : k < l.length) (hr : f r = false) : (listSet l k r).all f = false := by
  refine List.all_eq_false.mpr ⟨r, ?_, by rw [hr]; decide⟩
  rw [listSet_eq_set]
  exact List.mem_set hk r

theorem tempSettle_cool {l : List Int} (h : l.all (fun t => decide (t < 440)) = true) (hl : s.ctl.temps = l) :
    tempSettle s = s.setCtl { s.ctl with tempRaised := s.ctl.tempRaised.map (fun _ => 0) } :=
  if_pos (hl ▸ h)

theorem tempSettle_hot {k : Nat} {r : Int} (hk : k < s.ctl.temps.length) (hr : 540 ≤ r) :
    tempSettle (s.setCtl { s.ctl with temps := listSet s.ctl.temps k r }) = s.setCtl { s.ctl with temps := listSet s.ctl.temps k r } := by
  have hall (m : Int) (hm : m ≤ 540) : (listSet s.ctl.temps k r).all (fun t => decide (t < m)) = false :=
    not_all_listSet hk (decide_eq_false (by omega))
  refine (if_neg ?_).trans (if_neg ?_)
  · exact fun h => absurd ((hall 440 (by decide)).symm.trans h) (by decide)
  · exact fun h => absurd ((hall 480 (by decide)).symm.trans h) (by decide)

theorem tempLevel_cool {r : Int} (h : r < 440) : tempLevel r = 0 := by
  have h1 : ¬ (460 : Int) ≤ r := by omega
  have h2 : ¬ (500 : Int) ≤ r := by omega
  have h3 : ¬ (540 : Int) ≤ r := by omega
  simp [tempLevel, tempLevels, h1, h2, h3]

theorem tempLevel_hot {r : Int} (h : 540 ≤ r) : tempLevel r = 3 := by
  have h1 : (460 : Int) ≤ r := by omega
  have h2 : (500 : Int) ≤ r := by omega
  simp [tempLevel, tempLevels, h1, h2, h]

/-- The state with the reading of one sensor (R537). -/
def State.reading (s : State) (k : Nat) (r : Int) : State := s.setCtl { s.ctl with temps := listSet s.ctl.temps k r }

/-- The thresholds that a reading crosses upward (R537). -/
theorem tempThreshold_raises {k w n : Nat} {r : Int} {t : State} (hk : k < 5) (ht : tempSettle (s.reading k r) = t)
    (hw : t.ctl.tempRaised.getD k 0 = w) (hn : tempLevel r = n) :
    exec (.tempThreshold k r) s = .next (forEach ((List.range 3).filter (fun i => decide (w ≤ i) && decide (i < n)))
      (t.setCtl { t.ctl with tempRaised := listSet t.ctl.tempRaised k (max w n) }) (fun i s => detectCode s (0x0E + i) k)) := by
  rw [← ht] at hw ⊢
  rw [← hw, ← hn]
  exact if_pos hk

theorem getD_map_zero (l : List Nat) (k : Nat) : (l.map (fun _ => 0)).getD k 0 = 0 := by
  rw [List.getD_eq_getElem?_getD, List.getElem?_map]
  cases l[k]? <;> rfl

/-! Memory errors (R375, R381). -/

theorem dataBad_markBad (space addr : Nat) : (markBad s space addr).dataBad space addr 1 = true := by
  refine List.any_eq_true.mpr ⟨(space, addr / 8), List.mem_cons_self, ?_⟩
  simp only [Bool.and_eq_true, beq_self_eq_true, decide_eq_true_eq, true_and]
  omega

/-- An error in code closes the pair that runs it (R381). -/
theorem codeError_service {addr : Nat} (h : addr < 3145728) : ∃ p, (p = 1 ∨ p = 2) ∧ codeError s addr = mismatch { s with fresh := s.fresh + 1 } p := by
  let p := 1 + (Config.free s.fresh).toNat % 2
  have hp : p = 1 ∨ p = 2 := by omega
  refine ⟨if (s.pair p).ok && !(s.pair p).closed then p else 3 - p, ?_, if_neg (Nat.not_le.mpr h)⟩
  split <;> omega

theorem eccError_code {addr : Nat} (h : addr < 3178496) : execEccError 4 { loc := 1, addr := addr } s = .next (codeError s addr) := by
  simp [execEccError, h]

/-! The debugger (R423 to R431). -/

theorem drawBytes_frame (n : Nat) (s : State) : (State.drawBytes n s).2.island = s.island ∧ (State.drawBytes n s).2.counters = s.counters := by
  induction n generalizing s with
  | zero => exact ⟨rfl, rfl⟩
  | succ n ih => exact ih { s with fresh := s.fresh + 1 }

/-- Hart 0 goes on with no fault waiting: the watchdog goes on too (R431). -/
theorem debugHalt_go (hr : s.debugReach 0 = true) (hh : (s.pair 0).halted = true) (hq : s.faults.queued = []) :
    execDebugHalt 0 false s = .next ((s.setPair 0 { s.pair 0 with halted := false }).setCtl {
      (s.setPair 0 { s.pair 0 with halted := false }).ctl with
      wdAt := s.ctl.wdAt + (s.lt - s.ctl.wdHalt) }) := by
  generalize hv : (s.setPair 0 { s.pair 0 with halted := false }).setCtl {
      (s.setPair 0 { s.pair 0 with halted := false }).ctl with
      wdAt := s.ctl.wdAt + (s.lt - s.ctl.wdHalt) } = v
  have hqv : v.faults.queued = [] := by rw [← hv]; exact hq
  have hrun : execDebugHalt 0 false s = .next (match v.faults.handling, v.faults.queued with
      | [], f :: q => if v.faults.safeHalt || v.faults.resetting then v else beginFault (v.setFaults { v.faults with queued := q }) f
      | _, _ => v) := by
    rw [← hv]
    unfold execDebugHalt unit
    rw [hr, hh, if_pos (by decide), if_neg (by decide)] <;> rfl
  rw [hrun, hqv]
  cases v.faults.handling <;> rfl

theorem debugMay_on {level reg : Nat} {w : Bool} (h : debugMay level reg w = true) : level ≠ 0 := by
  rintro rfl
  exact absurd (show false = true from h) (by decide)

end

/-- Settles O51. -/
theorem hardwareMonitors : Obligations.HardwareMonitors := by
  unfold Obligations.HardwareMonitors
  refine ⟨fun s n => ?alarms, fun s k r hk htemps hraised => ?temps, fun s loc addr => ?ecc, fun s => ?links, fun s h b hh => ?halt,
    fun s reg off len d hreg => ?access⟩
  case alarms =>
    refine ⟨fun h1 h8 => (if_pos (by omega)).trans (congrArg Host.Outcome.next ((if_neg (by omega)).trans (if_pos h8))),
      fun h => (if_pos (by omega)).trans (congrArg Host.Outcome.next ((if_neg (by omega)).trans (if_neg (by omega)))),
      fun h => (if_pos (by omega)).trans (congrArg Host.Outcome.next (if_pos h)), fun r hr h => ?_, fun r hr hres hst hsafe => ?_, fun hr => ?_⟩
    · have hno : ¬ (r.reset.isNone && (s.part 0).st != 1 && !s.faults.safeHalt) = true := by
        rcases h with h | h | h
        · rw [← Option.not_isSome, h]
          simp
        · rw [h]
          simp
        · rw [h]
          simp
      show execSupplyAlarm n s = _
      unfold execSupplyAlarm
      rw [hr]
      exact if_neg hno
    · have hyes : (r.reset.isNone && (s.part 0).st != 1 && !s.faults.safeHalt) = true := by
        rw [hres, bne_iff_ne.mpr hst, hsafe]
        rfl
      show execSupplyAlarm n s = _
      unfold execSupplyAlarm
      rw [hr]
      exact if_pos hyes
    · show execSupplyAlarm n s = _
      unfold execSupplyAlarm
      rw [hr]
  case temps =>
    have hlen : k < s.ctl.temps.length := by omega
    have hlen' : k < s.ctl.tempRaised.length := by omega
    have hcool (hr : r < 440) (hall : ∀ x ∈ s.ctl.temps, x < 440) : tempSettle (s.reading k r) = s.setCtl {
        s.ctl with temps := listSet s.ctl.temps k r, tempRaised := s.ctl.tempRaised.map (fun _ => 0) } :=
      tempSettle_cool (all_listSet (List.all_eq_true.mpr fun x hx => decide_eq_true (hall x hx)) (decide_eq_true hr)) rfl
    have hrange0 : (List.range 3).filter (fun i => decide (0 ≤ i) && decide (i < 0)) = [] := by decide
    have hrange3 : (List.range 3).filter (fun i => decide (3 ≤ i) && decide (i < 3)) = [] := by decide
    have hrange : (List.range 3).filter (fun i => decide (0 ≤ i) && decide (i < 3)) = [0, 1, 2] := by decide
    refine ⟨fun hr hall => (tempThreshold_raises hk (hcool hr hall) (getD_map_zero ..) (tempLevel_cool hr)).trans ?_, fun hr h0 => ?_, fun hr h3 => ?_,
      fun hr hall => (if_pos hk).trans (congrArg _ (hcool hr hall))⟩
    · rw [hrange0]
      rfl
    · refine ⟨s.setCtl { s.ctl with temps := listSet s.ctl.temps k r, tempRaised := listSet s.ctl.tempRaised k 3 }, getD_listSet_same hlen' .., getD_listSet_same hlen .., rfl,
        (tempThreshold_raises hk (tempSettle_hot hlen hr) h0 (tempLevel_hot hr)).trans ?_⟩
      have hset : State.setCtl _ _ = s.setCtl { s.ctl with temps := listSet s.ctl.temps k r, tempRaised := listSet s.ctl.tempRaised k 3 } :=
        rfl (a := (s.reading k r).setCtl { (s.reading k r).ctl with tempRaised := listSet (s.reading k r).ctl.tempRaised k 3 })
      rw [hrange, show max 0 3 = 3 from rfl, show s.setCtl { s.ctl with temps := listSet s.ctl.temps k r } = s.reading k r from rfl, hset]
      simp only [forEach, List.foldl_cons, List.foldl_nil, Nat.add_zero, Nat.reduceAdd]
    · refine (tempThreshold_raises hk (tempSettle_hot hlen hr) h3 (tempLevel_hot hr)).trans ?_
      rw [hrange3]
      rfl
  case ecc =>
    intro at_
    have hrun (kind : Nat) : exec (.eccError kind at_) s = execEccError kind at_ s := rfl
    simp only [hrun]
    refine ⟨rfl, rfl, fun hloc => ⟨?_, fun q hq => ?_, fun hq hc => ?_, fun hq hc => ?_⟩, fun h1 h4 => ?_,
      fun h1 hlo hhi => ?_, fun h1 h => ?_, fun h4 h => ⟨?_, dataBad_markBad 4 addr⟩, ?_, rfl, rfl⟩
    · simp [execEccError, at_, hloc]
    · simp [execEccError, at_, hloc, hq]
    · simp [execEccError, at_, hloc, hq, hc]
    · simp [execEccError, at_, hloc, hq, hc]
    · have hcode : ¬ (loc = 1 ∧ addr < 3178496) := by omega
      have hsram : ¬ (loc = 4 ∧ addr < 1572864) := by omega
      simp [execEccError, at_, hcode, hsram]
    · rw [show at_ = { loc := 1, addr := addr } by rw [← h1], eccError_code hhi, codeError, if_pos hlo]
      rfl
    · obtain ⟨p, hp, hmis⟩ := codeError_service (s := s) h
      refine ⟨p, hp, ?_⟩
      rw [show at_ = { loc := 1, addr := addr } by rw [← h1], eccError_code (by omega), hmis]
      exact (if_pos (by omega)).symm
    · simp [execEccError, at_, h4, h]
    · have hdraw : (Config.free s.fresh).toNat % 1000001 ≤ 1000000 := by omega
      refine ⟨s.lt + (Config.free s.fresh).toNat % 1000001, Nat.le_add_right .., Nat.add_le_add_left hdraw _, ?_⟩
      have hlose : execEccError 5 at_ s = .next (detectCode (loseEntry s loc addr) 5 loc) := by simp [execEccError, at_]
      exact hlose
  case links =>
    have hrun (die : Nat) (up : Bool) (h : die < 2) : exec (.dieLink die up) s = .next (
        let t := s.setCtl { s.ctl with dieUp := listSet s.ctl.dieUp die up }
        if up then (if die = 0 then powerLinkUp t else t) else detectCode (if die = 0 then startHold t else dropAssayWaits t) 0x11 die) := if_pos h
    exact ⟨(hrun 0 true (by decide)).trans (congrArg _ ((if_pos rfl).trans (if_pos rfl))),
      (hrun 1 true (by decide)).trans (congrArg _ ((if_pos rfl).trans (if_neg (by decide)))),
      (hrun 0 false (by decide)).trans (congrArg _ ((if_neg (by decide)).trans (congrArg (detectCode · 0x11 0) (if_pos rfl)))),
      (hrun 1 false (by decide)).trans (congrArg _ ((if_neg (by decide)).trans (congrArg (detectCode · 0x11 1) (if_neg (by decide)))))⟩
  case halt =>
    have hrun : exec (.debugHalt h b) s = execDebugHalt h b s := rfl
    have hrun' (v : Bool) : exec (.debugHalt h v) s = execDebugHalt h v s := rfl
    have hrun0 (v : Bool) : exec (.debugHalt 0 v) s = execDebugHalt 0 v s := rfl
    simp only [hrun, hrun', hrun0]
    refine ⟨fun hno => ?_, fun heq => ?_, fun hr hh1 h1 => ?_, fun hr hh1 => ?_, fun hr h1 hh1 => ?_, fun hr hh1 hq => ?_⟩
    · have hreach : s.debugReach h = false := by
        rcases hno with h0 | ⟨h1, h0⟩
        · simp [State.debugReach, h0]
        · simp [State.debugReach, h1, h0]
      simp [execDebugHalt, unit, hh, hreach]
    · simp [execDebugHalt, unit, hh, heq]
    · simp [execDebugHalt, unit, hh, hr, hh1, Nat.ne_of_gt h1]
    · simp [execDebugHalt, unit, hr, hh1, show ∀ x, (s.setPair 0 x).lt = s.lt from fun _ => rfl]
    · simp [execDebugHalt, unit, hh, hr, hh1, Nat.ne_of_gt h1]
    · exact debugHalt_go hr hh1 hq
  case access =>
    intro at_
    have hrun (w : Option (List Byte)) : exec (.debuggerAccess at_ w) s = execDebuggerAccess at_ w s := rfl
    simp only [hrun]
    refine ⟨fun h0 w => (if_pos hreg).trans (congrArg _ (if_pos h0)), fun w h0 hm => (if_pos hreg).trans (congrArg _ ((if_neg h0).trans (if_pos ?_))),
      fun hm => (if_pos hreg).trans (congrArg _ ((if_neg (debugMay_on hm)).trans (if_neg ?_))), fun b hm hb => (if_pos hreg).trans (congrArg _
        ((if_neg (debugMay_on hm)).trans ((if_neg ?_).trans ?_))), fun hm hb => ?_⟩
    · rw [hm]
      rfl
    · rw [show debugMay s.ctl.debug at_.region (some d).isSome = true from hm]
      decide
    · rw [show debugMay s.ctl.debug at_.region (none : Option (List Byte)).isSome = true from hm]
      decide
    · rw [show s.debugBytes at_.region at_.off at_.len = some b from hb]
    · have hdone : exec (.debuggerAccess at_ none) s = .next (
          if [0, 1, 3, 8, 10, 11].contains reg then (State.drawBytes len s).2.emit (.debug false (State.drawBytes len s).1) else s) := by
        have hmay : ¬ (!debugMay s.ctl.debug reg (none : Option (List Byte)).isSome) = true := by
          rw [show debugMay s.ctl.debug reg (none : Option (List Byte)).isSome = true from hm]
          decide
        show execDebuggerAccess at_ none s = _
        unfold execDebuggerAccess unit
        dsimp only [at_]
        rw [if_pos hreg, if_neg (debugMay_on hm), if_neg hmay, hb]
      refine ⟨_, hdone, ?_⟩
      split
      · exact drawBytes_frame len s
      · exact ⟨rfl, rfl⟩

end Sys2Proof.Machine

/-!
SUPPORT and O52 (R406, R435 to R451). Power branches by command.
-/
namespace Sys2Proof.Machine

section
variable {s : State} {b : Nat}

/-- A branch configuration out of one of its bounds is refused (R435). -/
theorem brCfg_refused {x : BrCfg} (h : x.shortI * 100 ≤ x.iNom * 10 ∨ x.shortI * 100 ≤ x.rampIlim * 10 ∨ x.tempTrip ≤ x.tempReentry ∨ x.duty = 0 ∨
    100 < x.duty) : x.ok = false := by
  refine Classical.byContradiction fun hok => ?_
  rw [Bool.not_eq_false] at hok
  simp only [BrCfg.ok, within, Bool.and_eq_true, decide_eq_true_eq] at hok
  omega

/-- The requests of the inrush arbiter replaced. -/
def State.setRequests (s : State) (l : List Nat) : State := { s with power := { s.power with requests := l } }

theorem setBranch_setRequests (x : Branch) (l : List Nat) : (s.setRequests l).setBranch b x = (s.setBranch b x).setRequests l := rfl

theorem branch_setRequests (l : List Nat) : (s.setRequests l).branch b = s.branch b := rfl

/-- A branch is turned off (R436). -/
theorem branchOff_eq : branchOff s b = (s.setBranch b {
    s.branch b with
    st := 0, startWait := false, isRetry := false, supplyHold := false, inLimit := false, retriesLeft := (s.branch b).cfg.retries
    offCyc := if (s.branch b).st = 1 ∨ (s.branch b).st = 2 then some s.powerCycle else none }).setRequests
      (s.power.requests.filter (· != b)) := by
  have hopen : openBranch s b = (s.setBranch b { s.branch b with
      st := 0, startWait := false, isRetry := false, supplyHold := false, inLimit := false }).setRequests (s.power.requests.filter (· != b)) := rfl
  have hrun : (if (s.branch b).running then some s.powerCycle else none) =
      if (s.branch b).st = 1 ∨ (s.branch b).st = 2 then some s.powerCycle else none := by
    simp only [Branch.running, Bool.or_eq_true, beq_iff_eq]
  unfold branchOff
  dsimp only
  rw [hopen, setBranch_setRequests, branch_setRequests, State.setBranch_branch_same, State.setBranch_setBranch, hrun]

theorem startReq_new {retry : Bool} (h : (s.branch b).startWait = false) : startReq s b retry =
    (s.setBranch b { s.branch b with startWait := true, isRetry := retry, reqCyc := s.powerCycle }).setRequests (putRequest s b s.power.requests) :=
  if_neg (by rw [h]; decide)

theorem startReq_waits {retry : Bool} (h : (s.branch b).startWait = true) : startReq s b retry = s := if_pos h

theorem length_record (x : Branch) : x.record.length = 32 := by simp [Branch.record, length_leBytes]

/-- A unit taken for a periodic instant is held in mode 2 (R447). -/
theorem takeUnit_periodic {u at_ period : Nat} : ((takeUnit s u at_ period).trig u).held = true ∧ ((takeUnit s u at_ period).trig u).mode = 2 := by
  let v := armUnit s u 2 (at_ / 1000000000) (at_ % 1000000000) period
  have htake : takeUnit s u at_ period = v.setTrig u { v.trig u with held := true } := rfl
  have hmode : (v.trig u).mode = 2 := by
    by_cases h : s.work + 50 ≤ at_ / 1000000000 * 1000000000 + at_ % 1000000000
    · simp only [v, armUnit_ahead (.inr rfl) h, State.setTrig_trig_same]
    · simp only [v, armUnit_grid rfl (Nat.not_le.mp h), State.setTrig_trig_same]
  rw [htake, State.setTrig_trig_same]
  exact ⟨rfl, hmode⟩

end

/-- Settles O52. -/
theorem powerCommands : Obligations.PowerCommands := by
  unfold Obligations.PowerCommands
  intro d s t c
  refine ⟨fun b h hl h15 hlen hown ho => ?cfg, fun b h hl ho => ?set, fun b h hl ho => ?retry, fun b h hl hr hown => ?status,
    fun h h1 h8 h100 hmax hcount hidx => ?inrush, fun b h hl ho => ?energy⟩
  case cfg =>
    have hbody : bodyBranchCfg c t = chk ((brCfgOf c).ok) stBadParam (chk ((t.branch b).st == 0) stWrongState (okS (t.setBranch b {
        t.branch b with
        cfg := brCfgOf c, accepted := true, retriesLeft := (brCfgOf c).retries }))) := by
      rw [bodyBranchCfg, handle_of_localRes hl, hown, hlen, decide_eq_true h15, ownRes_of_free_class ho, chk_true]
      rfl
    refine ⟨fun hok hst => cmdRow_ok bodyBranchCfg h (hbody.trans ?_), fun hok hst => cmdRow_fail bodyBranchCfg h (hbody.trans ?_),
      fun hno => cmdRow_fail bodyBranchCfg h (hbody.trans ?_)⟩
    · rw [hok, hst]
      rfl
    · rw [hok, beq_false_of_ne hst]
      rfl
    · rw [brCfg_refused hno]
      rfl
  case set =>
    intro r x
    have hx : x.st = (t.branch b).st ∧ x.accepted = (t.branch b).accepted := by
      have hkeep : x.st = ((t.setBranch b { t.branch b with cmdCyc := some (t.powerCycle, c.u 12 1 == 1) }).branch b).st ∧
          x.accepted = ((t.setBranch b { t.branch b with cmdCyc := some (t.powerCycle, c.u 12 1 == 1) }).branch b).accepted := by
        simp only [x, r, branchRewritten]
        split
        · rw [State.setBranch_branch_same]
          exact ⟨rfl, rfl⟩
        · exact ⟨rfl, rfl⟩
      rw [State.setBranch_branch_same] at hkeep
      exact hkeep
    have hbody (h1 : c.u 12 1 ≤ 1) : bodyBranchSet c t = chk (c.u 12 1 == 0 || (x.st != 4 && x.accepted)) stWrongState (
        okS (if c.u 12 1 = 0 then branchOff r b else if x.st = 0 then startReq r b false else r)) := by
      rw [bodyBranchSet, handle_of_localRes hl, hx.1, hx.2]
      dsimp only
      rw [decide_eq_true h1, ownRes_of_free_class ho, chk_true]
    refine ⟨fun h0 => ?_, fun h1 hst hacc hw => ?_, fun h1 hlo hhi hacc => ?_, fun h1 hno => ?_⟩
    · refine cmdRow_ok bodyBranchSet h ((hbody (by omega)).trans ?_)
      rw [h0, if_pos rfl, branchOff_eq]
      rfl
    · refine cmdRow_ok bodyBranchSet h ((hbody (by omega)).trans ?_)
      have hgo : (c.u 12 1 == 0 || (x.st != 4 && x.accepted)) = true := by
        rw [h1, hst, hacc]
        rfl
      rw [chk_of hgo, h1, if_neg (by decide), if_pos hst, startReq_new hw]
      rfl
    · refine cmdRow_ok bodyBranchSet h ((hbody (by omega)).trans ?_)
      rw [h1, if_neg (by decide), if_neg (by omega), hacc, bne_iff_ne.mpr (by omega : x.st ≠ 4)]
      rfl
    · refine cmdRow_fail bodyBranchSet h ((hbody (by omega)).trans ?_)
      have hno' : (x.st != 4 && x.accepted) = false := by
        rcases hno with h | h <;> rw [h]
        · rfl
        · exact Bool.and_false _
      rw [h1, hno']
      rfl
  case retry =>
    intro x
    have hbody : bodyRetryNow c t = chk (x.st == 3 && decide (x.tModel ≤ x.cfg.tempReentry)) stWrongState (okS (startReq t b true)) := by
      rw [bodyRetryNow, handle_of_localRes hl]
      exact ownRes_of_free_class ho
    have hgo (hst : x.st = 3) (htm : x.tModel ≤ x.cfg.tempReentry) : (x.st == 3 && decide (x.tModel ≤ x.cfg.tempReentry)) = true := by
      rw [hst, decide_eq_true htm]
      rfl
    refine ⟨fun hst htm hw => cmdRow_ok bodyRetryNow h (hbody.trans ?_), fun hst htm hw => cmdRow_ok bodyRetryNow h (hbody.trans ?_),
      fun hno => cmdRow_fail bodyRetryNow h (hbody.trans ?_)⟩
    · rw [chk_of (hgo hst htm), startReq_new hw]
      rfl
    · rw [chk_of (hgo hst htm), startReq_waits hw]
      rfl
    · have hno' : (x.st == 3 && decide (x.tModel ≤ x.cfg.tempReentry)) = false := by
        rcases hno with h | h
        · rw [beq_false_of_ne h, Bool.false_and]
        · rw [decide_eq_false (Int.not_le.mpr h), Bool.and_false]
      rw [hno']
      rfl
  case status =>
    intro x res
    have hbody : bodyBranchStatus c t = chk (c.len == 0 || c.len == 32) stBadParam (.ok res (if c.len = 0 then [] else x.record) t) := by
      rw [bodyBranchStatus, handle_of_localRes hl]
      dsimp only
      rw [readRes, if_pos (show t.mayRead c.p 4 b = true from hr), hown]
      rfl
    refine ⟨fun h0 => cmdRow_ok bodyBranchStatus h (hbody.trans ?_), fun h32 => cmdRow_ok bodyBranchStatus h (hbody.trans ?_),
      fun h0 h32 => cmdRow_fail bodyBranchStatus h (hbody.trans ?_), length_record x⟩
    · rw [h0]
      rfl
    · rw [h32]
      rfl
    · rw [beq_false_of_ne h0, beq_false_of_ne h32]
      rfl
  case inrush =>
    intro u
    have hbody (h24 : c.u 24 1 ≤ 1) : bodyInrushCfg c t = chk (!(c.u 24 1 == 1) || t.mayTake 59) stBusy (
        okS (if (c.u 24 1 == 1) = true then takeUnit u 59 0 (c.u 16 4 * 1000) else if (u.trig 59).held then returnUnit u 59 else u)) :=
      if_pos (by simp [within, h1, h8, h100, hmax, hcount, hidx, h24]; omega)
    refine ⟨fun hen hmay => ⟨cmdRow_ok bodyInrushCfg h ((hbody (by omega)).trans ?_), takeUnit_periodic⟩,
      fun hen hheld hno => cmdRow_fail bodyInrushCfg h ((hbody (by omega)).trans ?_),
      fun hen hheld => cmdRow_ok bodyInrushCfg h ((hbody (by omega)).trans ?_), fun hen hheld => cmdRow_ok bodyInrushCfg h ((hbody (by omega)).trans ?_)⟩
    · have htake : t.mayTake 59 = true := by
        rcases hmay with hm | ⟨ho, hm⟩
        · rw [State.mayTake, hm, Bool.true_or]
        · rw [State.mayTake, ho, hm]
          exact Bool.or_true _
      rw [htake, hen]
      rfl
    · have htake : t.mayTake 59 = false := by
        rcases hno with hm | hm
        · rw [State.mayTake, hheld, hm]
          rfl
        · rw [State.mayTake, hheld, beq_false_of_ne hm, Bool.and_false]
          rfl
      rw [htake, hen]
      rfl
    · rw [hen]
      exact congrArg okS (if_pos hheld)
    · rw [hen]
      have hno : ¬ (u.trig 59).held = true := fun ht => absurd (hheld.symm.trans ht) (by decide)
      exact congrArg okS (if_neg hno)
  case energy =>
    refine cmdRow_ok bodyEnergyClear h (?_ : bodyEnergyClear c t = _)
    rw [bodyEnergyClear, handle_of_localRes hl]
    exact ownRes_of_free_class ho

end Sys2Proof.Machine

/-!
SUPPORT and O53 (R9, R433 to R451). What happens at a power branch.
-/
namespace Sys2Proof.Machine

section
variable {s : State} {b : Nat}

/-! Samples (R433, R438, R443). -/

/-- The state once the power die has sampled a branch (R433). -/
def State.sampled (s : State) (b : Nat) (m : BrSample) : State := crossRecord (s.setBranch b ((s.branch b).take m s.sensor4 s.lt)) b

theorem crossRecord_off (h : s.crossable 9 = false) : crossRecord s b = s := if_neg (by rw [h]; decide)

theorem crossRecord_on (h : s.crossable 9 = true) : ∃ r, crossRecord s b = s.setBranch b { s.branch b with latest := (s.branch b).record, snapRec := r } :=
  ⟨_, if_pos h⟩

theorem sampled_branch (m : BrSample) :
    let y := (s.branch b).take m s.sensor4 s.lt
    let z := (s.sampled b m).branch b
    z = { y with latest := z.latest, snapRec := z.snapRec } ∧ (s.crossable 9 = true → z.latest = y.record) := by
  intro y z
  have hcross : (s.setBranch b y).crossable 9 = s.crossable 9 := rfl
  have hy : (s.setBranch b y).branch b = y := State.setBranch_branch_same ..
  cases hc : s.crossable 9 with
  | false =>
    have hz : z = y := (congrArg (State.branch · b) (crossRecord_off (hcross.trans hc))).trans hy
    rw [hz]
    exact ⟨rfl, nofun⟩
  | true =>
    obtain ⟨r, hr⟩ := crossRecord_on (b := b) (hcross.trans hc)
    have hz : z = { y with latest := y.record, snapRec := r } := by
      refine (congrArg (State.branch · b) hr).trans ?_
      rw [hy]
      exact State.setBranch_branch_same ..
    rw [hz]
    exact ⟨rfl, fun _ => rfl⟩

theorem warnStep_calm {x : Branch} (hx : s.branch b = x) (hw : x.warned = false) (h : x.tModel < x.cfg.tempTrip - 40) : warnStep s b = s := by
  unfold warnStep
  dsimp only
  rw [hx, hw, decide_eq_false (Int.not_le.mpr h)]
  rfl

theorem warnStep_warns {x : Branch} (hx : s.branch b = x) (hw : x.warned = false) (h : x.cfg.tempTrip - 40 ≤ x.tModel) :
    warnStep s b = raise (s.setBranch b { x with warned := true }) (srcBranch b 8) 1 (unsignedOf 24 x.tModel) := by
  subst hx
  exact if_pos (by rw [hw, decide_eq_true h]; rfl)

theorem warnStep_ends {x : Branch} (hx : s.branch b = x) (hw : x.warned = true) (h : x.tModel < x.cfg.tempTrip - 60) :
    warnStep s b = s.setBranch b { x with warned := false } := by
  subst hx
  exact (if_neg (by rw [hw]; exact Bool.false_ne_true)).trans (if_pos (by rw [hw, decide_eq_true h]; rfl))

/-- The energy counts positive power (R438). -/
theorem take_energy {x : Branch} {m : BrSample} {ref : Int} {lt : Nat}
    (h : x.energy * 100000000 + x.energyRem + m.vOut * m.i.toNat < 2 ^ 64 * 100000000) :
    (x.take m ref lt).energy * 100000000 + (x.take m ref lt).energyRem = x.energy * 100000000 + x.energyRem + m.vOut * m.i.toNat := by
  show (x.energy + (x.energyRem + m.vOut * m.i.toNat) / 100000000) % 2 ^ 64 * 100000000 + (x.energyRem + m.vOut * m.i.toNat) % 100000000 = _
  generalize m.vOut * m.i.toNat = w at h ⊢
  omega

/-- The breaker content (R443). -/
theorem take_content {x : Branch} {m : BrSample} {ref : Int} {lt : Nat} :
    ((x.take m ref lt).e : Int) = max 0 ((x.e : Int) + (if 0 ≤ m.i then m.i ^ 2 else 0) - ((x.cfg.iNom * 10) ^ 2 : Nat)) := by
  show (((x.e : Int) + (m.i.natAbs * m.i.natAbs : Nat) * (if 0 ≤ m.i then 1 else 0) - ((x.cfg.iNom * 10) ^ 2 : Nat)).toNat : Int) = _
  rw [Int.toNat_eq_max, Int.max_comm]
  split
  · have hsq : m.i ^ 2 = m.i * m.i := by rw [Int.pow_succ, Int.pow_succ, Int.pow_zero, Int.one_mul]
    rw [Int.mul_one, Int.natCast_mul, Int.natAbs_mul_self', hsq]
  · rw [Int.mul_zero]

/-! Trips (R443 to R445, R451). -/

theorem running_iff {x : Branch} : x.running = true ↔ x.st = 1 ∨ x.st = 2 := by
  rw [Branch.running, Bool.or_eq_true, beq_iff_eq, beq_iff_eq]

theorem not_running {x : Branch} (h1 : x.st ≠ 1) (h2 : x.st ≠ 2) : x.running = false := by
  rw [Branch.running, beq_false_of_ne h1, beq_false_of_ne h2]
  rfl

/-- What a trip leaves of a branch that runs (R443). -/
def Branch.tripped (x : Branch) (kind lt : Nat) : Branch :=
  { x with st := if x.retriesLeft == 0 then 4 else 3, lastTrip := kind, tripAt := lt, inLimit := false, e := if kind = 1 then 0 else x.e }

/-- The counter of a kind of trip. -/
def tripCtr (kind : Nat) : CtrId := if kind = 1 then cTripsBreaker else if kind = 2 then cTripsShort else cTripsThermal

theorem tripBranch_running {x : Branch} {kind : Nat} (hx : s.branch b = x) (h : x.st = 1 ∨ x.st = 2) :
    tripBranch s b kind = raiseIf (raise ((s.setBranch b (x.tripped kind s.lt)).count (tripCtr kind) b) (srcBranch b 1) 1 kind)
      (x.retriesLeft == 0) (srcBranch b 3) 1 0 := by
  subst hx
  refine (if_neg ?_).trans rfl
  rw [running_iff.mpr h]
  decide

theorem tripBranch_off {x : Branch} {kind : Nat} (hx : s.branch b = x) (h1 : x.st ≠ 1) (h2 : x.st ≠ 2) :
    tripBranch s b kind = if x.offCyc = some s.powerCycle then
      raise ((s.setBranch b { x with offCyc := none, lastTrip := kind }).count (tripCtr kind) b) (srcBranch b 1) 1 kind else s := by
  subst hx
  exact if_pos (by rw [not_running h1 h2]; decide)

/-! Retries and starts (R445 to R447). -/

/-- A retry whose interval and duty have passed is due (R445). -/
theorem retryAfter_le {x : Branch} {lt : Nat} (hint : x.tripAt + x.cfg.retryInt * 500000000 ≤ lt) (h1 : 1 ≤ x.cfg.duty)
    (hduty : (x.tripAt - x.grantAt) * (1000 - x.cfg.duty) ≤ (lt - x.tripAt) * x.cfg.duty) : x.tripAt + x.retryAfter ≤ lt := by
  have hceil : ((x.tripAt - x.grantAt) * (1000 - x.cfg.duty) + x.cfg.duty - 1) / x.cfg.duty ≤ lt - x.tripAt := by
    refine Nat.lt_succ_iff.mp ((Nat.div_lt_iff_lt_mul h1).mpr ?_)
    rw [Nat.succ_mul]
    omega
  have hmax : x.retryAfter ≤ lt - x.tripAt := Nat.max_le.mpr ⟨by omega, hceil⟩
  omega

theorem retryAfter_ge {x : Branch} : x.cfg.retryInt * 500000000 ≤ x.retryAfter := Nat.le_max_left ..

theorem mayGrant_free (hk : (s.power.br.filter (fun e => e.2.st == 1)).length < s.power.k) (hb : s.power.budget = 0) (hs : s.power.slotsEn = false)
    (hh : s.faults.safeHalt = false) (hr : s.boot.rescue = false) : mayGrant s = true := by
  unfold mayGrant slotOpen
  rw [decide_eq_true hk, hb, hs, hh, hr]
  rfl

theorem mayGrant_none (h : s.power.k ≤ (s.power.br.filter (fun e => e.2.st == 1)).length ∨ (s.power.slotsEn = true ∧ s.time.valid = false)) :
    mayGrant s = false := by
  unfold mayGrant slotOpen
  rcases h with h | ⟨h1, h2⟩
  · rw [decide_eq_false (Nat.not_lt.mpr h)]
    rfl
  · rw [h1, h2]
    simp

theorem startGrant_first {rest : List Nat} (hq : s.power.requests = b :: rest) (hm : mayGrant s = true) :
    exec .startGrant s = .next (grantStart { s with power := { s.power with requests := rest } } b) := by
  show execStartGrant s = _
  unfold execStartGrant
  rw [hq]
  exact if_pos hm

theorem startGrant_none (hm : mayGrant s = false) : exec .startGrant s = .next s := by
  show execStartGrant s = _
  unfold execStartGrant
  split
  · exact if_neg (by rw [hm]; decide)
  · rfl

theorem grantStart_first (h : (s.branch b).isRetry = false) : grantStart s b =
    (s.setBranch b { s.branch b with st := 1, startWait := false, supplyHold := false, grantAt := s.lt }).count cStarts b := by
  have hx : ({ s.branch b with st := 1, startWait := false, supplyHold := false, grantAt := s.lt } : Branch) =
      { s.branch b with st := 1, startWait := false, isRetry := false, supplyHold := false, grantAt := s.lt, retriesLeft := (s.branch b).retriesLeft } := by
    rw [← h]
  unfold grantStart
  dsimp only
  rw [hx, h]
  rfl

theorem grantStart_retry (h : (s.branch b).isRetry = true) (hl : (s.branch b).retriesLeft ≠ 255) : grantStart s b =
    raise (((s.setBranch b { s.branch b with
      st := 1, startWait := false, isRetry := false, supplyHold := false, grantAt := s.lt, retriesLeft := (s.branch b).retriesLeft - 1 }).count
        cStarts b).count cRetriesMade b) (srcBranch b 2) 1 ((s.branch b).retriesLeft - 1) := by
  have hleft : (if (s.branch b).isRetry && (s.branch b).retriesLeft != 255 then (s.branch b).retriesLeft - 1 else (s.branch b).retriesLeft) =
      (s.branch b).retriesLeft - 1 := if_pos (by rw [h, bne_iff_ne.mpr hl]; rfl)
  unfold grantStart
  dsimp only
  rw [hleft, h]
  rfl

/-! Holds (R448, R450). -/

/-- A branch that a hold opens (R450). -/
def Branch.held (x : Branch) : Branch := if x.running && !x.rewritten then { x with st := 0, inLimit := false, isRetry := false } else x

theorem held_open {x : Branch} (h : x.running = true) (hw : x.rewritten = false) : x.held = { x with st := 0, inLimit := false, isRetry := false } :=
  if_pos (by rw [h, hw]; rfl)

theorem held_kept {x : Branch} (h : x.running = false ∨ x.rewritten = true) : x.held = x := by
  refine if_neg ?_
  rcases h with h | h <;> rw [h]
  · rw [Bool.false_and]
    decide
  · rw [Bool.not_true, Bool.and_false]
    decide

theorem held_held (x : Branch) : x.held.held = x.held := by
  by_cases h : (x.running && !x.rewritten) = true
  · rw [Bool.and_eq_true, Bool.not_eq_true'] at h
    obtain ⟨h1, h2⟩ := h
    rw [held_open h1 h2]
    exact held_kept (.inl rfl)
  · rw [show x.held = x from if_neg h, show x.held = x from if_neg h]

theorem holdOpen_branch (j : Nat) : (holdOpen j s).branch b = if j = b then (s.branch b).held else s.branch b := by
  unfold holdOpen
  dsimp only
  by_cases hj : j = b
  · subst hj
    rw [if_pos rfl, Branch.held]
    split
    · exact State.setBranch_branch_same ..
    · rfl
  · rw [if_neg hj]
    split
    · exact State.setBranch_branch_ne _ _ _ (Ne.symm hj)
    · rfl

theorem holdAll_branch (l : List Nat) (s : State) : (forEach l s holdOpen).branch b = if b ∈ l then (s.branch b).held else s.branch b := by
  induction l generalizing s with
  | nil => rfl
  | cons j l ih =>
    refine (ih _).trans ?_
    rw [holdOpen_branch]
    by_cases hj : j = b
    · rw [if_pos hj, held_held, ite_self, if_pos (hj ▸ List.mem_cons_self)]
    · rw [if_neg hj]
      exact ite_congr (propext (by rw [List.mem_cons, or_iff_right (Ne.symm hj)])) (fun _ => rfl) (fun _ => rfl)

theorem power_of_kept {t : State} (h : t.kept = s.kept) : t.power = s.power := congrArg (fun k : Kept => k.rest.power) h

theorem reportHold_power : ((reportHold s).power.br = s.power.br) ∧ (reportHold s).power.holdAt = s.power.holdAt := by
  unfold reportHold
  split
  · have hraise : (forEach s.power.holdOpened { s with power := { s.power with holdOpened := [] } } (fun b s => raise s (srcBranch b 10) 1 0)).power =
        { s.power with holdOpened := [] } := power_of_kept (kept_forEach fun b s => kept_raise ..)
    dsimp only
    rw [hraise]
    exact ⟨rfl, rfl⟩
  · exact ⟨rfl, rfl⟩

/-- A branch that the supply of the power die opens (R448). -/
def Branch.opened (x : Branch) : Branch := { x with st := 0, startWait := false, isRetry := false, supplyHold := false, inLimit := false }

theorem openBranch_branch (j : Nat) : (openBranch s j).branch b = if j = b then (s.branch b).opened else s.branch b := by
  by_cases hj : j = b
  · subst hj
    rw [if_pos rfl]
    exact State.setBranch_branch_same ..
  · rw [if_neg hj]
    exact State.setBranch_branch_ne _ _ _ (Ne.symm hj)

theorem openAll_branch (l : List Nat) (s : State) :
    (forEach l s (fun b s => openBranch s b)).branch b = if b ∈ l then (s.branch b).opened else s.branch b := by
  induction l generalizing s with
  | nil => rfl
  | cons j l ih =>
    refine (ih _).trans ?_
    rw [openBranch_branch]
    by_cases hj : j = b
    · rw [if_pos hj, if_pos (show b ∈ j :: l from hj ▸ List.mem_cons_self)]
      exact ite_self _
    · rw [if_neg hj]
      exact ite_congr (propext (by rw [List.mem_cons, or_iff_right (Ne.symm hj)])) (fun _ => rfl) (fun _ => rfl)

theorem openAll_requests (l : List Nat) (s : State) (h : b ∈ l ∨ b ∉ s.power.requests) :
    b ∉ (forEach l s (fun b s => openBranch s b)).power.requests := by
  induction l generalizing s with
  | nil => exact h.resolve_left List.not_mem_nil
  | cons j l ih =>
    have hreq : (openBranch s j).power.requests = s.power.requests.filter (· != j) := rfl
    refine ih _ ?_
    rw [hreq, List.mem_filter]
    by_cases hj : b = j
    · exact .inr fun hm => absurd hj (bne_iff_ne.mp hm.2)
    · exact h.imp (fun hm => (List.mem_cons.mp hm).resolve_left hj) fun hm hf => hm hf.1

/-- The supply of the power die fails: every branch opens (R448). -/
theorem allBranchesOff_leaves (hb : b < 8) : (allBranchesOff s).branch b = (s.branch b).opened ∧ b ∉ (allBranchesOff s).power.requests := by
  have hmem : b ∈ List.range 8 := List.mem_range.mpr hb
  unfold allBranchesOff
  refine ⟨?_, openAll_requests _ _ (.inl hmem)⟩
  rw [openAll_branch, if_pos hmem]

end

section
variable {s : State} {b : Nat} {x : Branch}

/-! Each instant at one branch. -/

theorem sample_warns {m : BrSample} (hb : b < 8) :
    let y := (s.branch b).take m s.sensor4 s.lt
    let v := s.sampled b m
    let z := v.branch b
    ((s.branch b).accepted = false → exec (.branchSample b m) s = .next v) ∧
    ((s.branch b).accepted = true → y.warned = false → (s.branch b).cfg.tempTrip - 40 ≤ y.tModel →
      exec (.branchSample b m) s = .next (raise (v.setBranch b { z with warned := true }) (srcBranch b 8) 1 (unsignedOf 24 y.tModel))) ∧
    ((s.branch b).accepted = true → y.warned = false → y.tModel < (s.branch b).cfg.tempTrip - 40 → exec (.branchSample b m) s = .next v) ∧
    ((s.branch b).accepted = true → y.warned = true → y.tModel < (s.branch b).cfg.tempTrip - 60 →
      exec (.branchSample b m) s = .next (v.setBranch b { z with warned := false })) := by
  intro y v z
  have hz : z = { y with latest := z.latest, snapRec := z.snapRec } := (sampled_branch m).1
  have hacc : z.accepted = (s.branch b).accepted := by rw [hz]; rfl
  have hcfg : z.cfg = (s.branch b).cfg := by rw [hz]; rfl
  have hwarn : z.warned = y.warned := by rw [hz]
  have htemp : z.tModel = y.tModel := by rw [hz]
  have hrun (ha : (s.branch b).accepted = true) : exec (.branchSample b m) s = .next (warnStep v b) :=
    (if_pos hb).trans (congrArg _ (if_pos (hacc.trans ha)))
  rw [← hcfg, ← hwarn, ← htemp]
  refine ⟨fun ha => (if_pos hb).trans (congrArg _ (if_neg ?_)), fun ha hw ht => (hrun ha).trans (congrArg _ (warnStep_warns rfl hw ht)),
    fun ha hw ht => (hrun ha).trans (congrArg _ (warnStep_calm rfl hw ht)), fun ha hw ht => (hrun ha).trans (congrArg _ (warnStep_ends rfl hw ht))⟩
  exact fun h => absurd ((hacc.trans ha).symm.trans h) (by decide)

theorem breakerTrip_due (hb : b < 8) (hx : s.branch b = x) (he : x.cfg.i2t * 100000000 ≤ x.e) : exec (.breakerTrip b) s = .next (tripBranch s b 1) := by
  subst hx
  exact (if_pos hb).trans (congrArg _ (if_pos (decide_eq_true he)))

theorem breakerTrip_calm (hb : b < 8) (hx : s.branch b = x) (he : x.e < x.cfg.i2t * 100000000) : exec (.breakerTrip b) s = .next s := by
  subst hx
  exact (if_pos hb).trans (congrArg _ (if_neg fun h => absurd he (Nat.not_lt.mpr (of_decide_eq_true h))))

theorem thermalTrip_due (hb : b < 8) (hx : s.branch b = x) (ht : x.cfg.tempTrip ≤ x.tModel) : exec (.thermalTrip b) s = .next (tripBranch s b 3) := by
  subst hx
  exact (if_pos hb).trans (congrArg _ (if_pos (decide_eq_true ht)))

/-- The limit that a current passes at a short circuit (R444). -/
def Branch.limitFor (x : Branch) (i : Int) : Nat := if i < 0 then x.cfg.shortI * 100 else x.shortLimit

theorem shortTrip_due {i : Int} (hb : b < 8) (hx : s.branch b = x) (hrun : x.st = 1 ∨ x.st = 2) (hi : x.shorted i = true) :
    exec (.shortTrip b i) s = .next (tripBranch (s.setBranch b { x with heat := x.heat + x.vIn * x.limitFor i * 100000000000 }) b 2) := by
  subst hx
  refine (if_pos hb).trans (congrArg _ (if_pos ?_))
  rw [running_iff.mpr hrun, hi]
  rfl

theorem shortTrip_calm {i : Int} (hb : b < 8) (hx : s.branch b = x) (hi : x.shorted i = false) : exec (.shortTrip b i) s = .next s := by
  subst hx
  exact (if_pos hb).trans (congrArg _ (if_neg (by rw [hi, Bool.and_false]; decide)))

/-- A trip with retries left (R443 to R445). -/
theorem tripBranch_retry {kind : Nat} (hx : s.branch b = x) (hrun : x.st = 1 ∨ x.st = 2) (hl : x.retriesLeft ≠ 0) : tripBranch s b kind =
    raise ((s.setBranch b { x with st := 3, lastTrip := kind, tripAt := s.lt, inLimit := false, e := if kind = 1 then 0 else x.e }).count
      (tripCtr kind) b) (srcBranch b 1) 1 kind := by
  rw [tripBranch_running hx hrun, Branch.tripped, beq_false_of_ne hl]
  rfl

/-- The last trip locks the branch out (R445). -/
theorem tripBranch_locks {kind : Nat} (hx : s.branch b = x) (hrun : x.st = 1 ∨ x.st = 2) (hl : x.retriesLeft = 0) : tripBranch s b kind =
    raise (raise ((s.setBranch b { x with st := 4, lastTrip := kind, tripAt := s.lt, inLimit := false, e := if kind = 1 then 0 else x.e }).count
      (tripCtr kind) b) (srcBranch b 1) 1 kind) (srcBranch b 3) 1 0 := by
  rw [tripBranch_running hx hrun, Branch.tripped, hl]
  rfl

theorem shortTrip_retry {i : Int} (hb : b < 8) (hx : s.branch b = x) (hrun : x.st = 1 ∨ x.st = 2) (hi : x.shorted i = true) (hl : x.retriesLeft ≠ 0) :
    exec (.shortTrip b i) s = .next (raise ((s.setBranch b { x with
      st := 3, lastTrip := 2, tripAt := s.lt, inLimit := false, heat := x.heat + x.vIn * x.limitFor i * 100000000000 }).count cTripsShort b)
      (srcBranch b 1) 1 2) := by
  have htrip := tripBranch_retry (kind := 2)
    (State.setBranch_branch_same s b { x with heat := x.heat + x.vIn * x.limitFor i * 100000000000 }) hrun hl
  rw [State.setBranch_setBranch] at htrip
  exact (shortTrip_due hb hx hrun hi).trans (congrArg _ htrip)

/-- What trips a branch that runs (R443, R444, R448). -/
theorem trips_running (hb : b < 8) (hx : s.branch b = x) (hrun : x.st = 1 ∨ x.st = 2) :
    (∀ i : Int, ((x.shortLimit : Int) < i → x.shorted i = true ∧ x.limitFor i = x.shortLimit) ∧
      (i < -((x.cfg.shortI * 100 : Nat) : Int) → x.shorted i = true ∧ x.limitFor i = x.cfg.shortI * 100) ∧
      (i ≤ (x.shortLimit : Int) → -((x.cfg.shortI * 100 : Nat) : Int) ≤ i → x.shorted i = false)) ∧
    (∀ v us, v < 6000 ∧ 100 ≤ us ∨ 60000 < v ∧ 50 ≤ us → exec (.supplyHold b v us) s =
      .next (raise ((s.setBranch b { x with st := 3, supplyHold := true, inLimit := false, vIn := v }).count cSupplyHolds b) (srcBranch b 6) 1 v)) ∧
    (∀ v us, 6000 ≤ v → v ≤ 60000 → exec (.supplyHold b v us) s = .next s) := by
  subst hx
  refine ⟨fun i => ⟨fun hi => ⟨?_, if_neg (by omega)⟩, fun hi => ⟨?_, if_pos (by omega)⟩, fun h1 h2 => ?_⟩,
    fun v us h => (if_pos hb).trans (congrArg _ (if_pos ?_)), fun v us h1 h2 => (if_pos hb).trans (congrArg _ (if_neg ?_))⟩
  · rw [Branch.shorted, decide_eq_true hi, Bool.true_or]
  · rw [Branch.shorted, decide_eq_true hi, Bool.or_true]
  · rw [Branch.shorted, decide_eq_false (Int.not_lt.mpr h1), decide_eq_false (Int.not_lt.mpr h2), Bool.or_false]
  · simpa only [running_iff.mpr hrun, Bool.true_and, Bool.or_eq_true, Bool.and_eq_true, decide_eq_true_eq] using h
  · simp only [Bool.and_eq_true, Bool.or_eq_true, decide_eq_true_eq]
    omega

theorem retryDue_runs (hb : b < 8) (hx : s.branch b = x) (hst : x.st = 3) (hh : x.supplyHold = false) (hw : x.startWait = false)
    (htm : x.tModel ≤ x.cfg.tempReentry) (hdue : x.tripAt + x.retryAfter ≤ s.lt) : exec (.retryDue b) s = .next (startReq s b true) := by
  subst hx
  refine (if_pos hb).trans (congrArg _ (if_pos ?_))
  rw [hst, hh, decide_eq_true hdue, decide_eq_true htm]
  rfl

theorem supplyRestored_req {v us : Nat} (hb : b < 8) (hx : s.branch b = x) (hh : x.supplyHold = true) (h1 : 8500 ≤ v) (h2 : v ≤ 58000)
    (h3 : 10000 ≤ us) : exec (.supplyRestored b v us) s =
      .next (raise (startReq (s.setBranch b { x with supplyLow := false, supplyHold := false, vIn := v }) b false) (srcBranch b 7) 1 v) := by
  subst hx
  refine (if_pos hb).trans (congrArg Host.Outcome.next ((if_pos ?_).trans ?_))
  · rw [hh, decide_eq_true h1, decide_eq_true h2, decide_eq_true h3, Bool.or_true]
    rfl
  · exact congrArg (fun t => raise t (srcBranch b 7) 1 v) (if_pos hh)

/-- The end of a hold, once its branches are open (R450). -/
def holdEnded (s : State) : State := reportHold { s with power := { s.power with holdAt := none } }

theorem holdEnded_branch : (holdEnded s).branch b = s.branch b ∧ (holdEnded s).power.holdAt = none := by
  obtain ⟨hbr, hhold⟩ := reportHold_power (s := { s with power := { s.power with holdAt := none } })
  exact ⟨congrArg (fun t : Tbl Branch => tblGetD t b {}) hbr, hhold⟩

theorem branchHoldExpiry_ends {t : Nat} (hb : b < 8) (hx : s.branch b = x) (hat : s.power.holdAt = some t) (hdue : t + 50000000 ≤ s.lt) :
    ∃ u, exec .branchHoldExpiry s = .next u ∧ u.power.holdAt = none ∧ u.branch b = x.held := by
  have hv : (forEach (List.range 8) s holdOpen).branch b = x.held := by
    subst hx
    exact (holdAll_branch ..).trans (if_pos (List.mem_range.mpr hb))
  have hrun : exec .branchHoldExpiry s = .next (holdEnded (forEach (List.range 8) s holdOpen)) := by
    show execBranchHoldExpiry s = _
    unfold execBranchHoldExpiry
    rw [hat]
    exact if_pos hdue
  generalize forEach (List.range 8) s holdOpen = v at hv hrun
  obtain ⟨hbranch, hhold⟩ := holdEnded_branch (s := v) (b := b)
  exact ⟨holdEnded v, hrun, hhold, hbranch.trans hv⟩

theorem vddPwrFail_leaves (hb : b < 8) (hx : s.branch b = x) :
    ∃ u, exec .vddPwrFail s = .next u ∧ u.branch b = x.opened ∧ b ∉ u.power.requests := by
  subst hx
  have hrun : exec .vddPwrFail s = execVddPwrFail s := rfl
  exact ⟨allBranchesOff s, hrun.trans (execVddPwrFail.eq_1 s), allBranchesOff_leaves hb⟩

theorem shortTrip_off {i : Int} (hb : b < 8) (hx : s.branch b = x) (h1 : x.st ≠ 1) (h2 : x.st ≠ 2) (hoff : x.offCyc ≠ some s.powerCycle) :
    exec (.shortTrip b i) s = .next s := by
  subst hx
  refine (if_pos hb).trans (congrArg _ (if_neg ?_))
  rw [not_running h1 h2, show ((s.branch b).offCyc == some s.powerCycle) = false from beq_false_of_ne hoff]
  simp

theorem supplyHold_off {v us : Nat} (hb : b < 8) (hx : s.branch b = x) (h1 : x.st ≠ 1) (h2 : x.st ≠ 2) : exec (.supplyHold b v us) s = .next s := by
  subst hx
  refine (if_pos hb).trans (congrArg _ (if_neg ?_))
  rw [not_running h1 h2]
  simp

end

/-- Settles O53, one lemma for each instant. -/
theorem powerEvents : Obligations.PowerEvents := by
  unfold Obligations.PowerEvents
  intro s b hb x
  have hx : s.branch b = x := rfl
  refine ⟨fun m => ?sample, fun hrun => ?running, fun h1 h2 hoff he => (breakerTrip_due hb hx he).trans (congrArg _ ((tripBranch_off hx h1 h2).trans (if_pos hoff))),
    fun h1 h2 hoff => ?off, fun hst hlo hhi => (if_pos hb).trans (congrArg _ (if_pos ?rampDone)),
    fun h => (if_pos hb).trans (congrArg _ (if_neg ?rampNot)), fun hst hh hw htm hint h1 _ hduty => ?retry, fun h => (if_pos hb).trans (congrArg _ (if_neg ?retryNot)),
    fun rest hq hk hbud hs hsafe hres => ?grant, fun h => startGrant_none (mayGrant_none h), fun hst hon => (if_pos hb).trans (congrArg _ (if_pos ?restore)),
    fun h => (if_pos hb).trans (congrArg _ (if_neg ?restoreNot)), fun v us h => (if_pos hb).trans (congrArg _ (if_neg ?lowNot)),
    fun v us hl hv hus => (if_pos hb).trans (congrArg _ (if_pos ?low)), fun v us hh hw h1 h2 h3 => ?restored,
    fun v us hh hl => (if_pos hb).trans (congrArg _ (if_neg ?restoredNot)), fun v us h1 h2 hf hv hus => (if_pos hb).trans (congrArg _ (if_pos ?backfeed)),
    fun v us hf hv hus => (if_pos hb).trans (congrArg _ ((if_neg ?backfeedOn).trans (if_pos ?backfeedEnd))),
    fun hfit hno => (if_pos hb).trans (congrArg _ (if_pos ?ntc)), (if_pos hb).trans rfl, fun h hat hdue => ?expiry, fun h hat hearly => ?expiryNot, ?fail⟩
  case rampDone => rw [hx, hst, decide_eq_true hlo, decide_eq_true hhi]; rfl
  case rampNot =>
    simp only [hx, Bool.and_eq_true, beq_iff_eq, decide_eq_true_eq]
    omega
  case retryNot =>
    have hmax := retryAfter_ge (x := x)
    simp only [hx, Bool.and_eq_true, beq_iff_eq, decide_eq_true_eq]
    omega
  case restore => rw [hx, hst, decide_eq_true hon]; rfl
  case restoreNot =>
    simp only [hx, Bool.and_eq_true, beq_iff_eq, decide_eq_true_eq]
    omega
  case lowNot =>
    simp only [hx, Bool.and_eq_true, Bool.not_eq_true', decide_eq_true_eq]
    rintro ⟨⟨hl, hv⟩, hus⟩
    rcases h with h | h
    · exact absurd (hl.symm.trans h) (by decide)
    · omega
  case low => rw [hx, hl, decide_eq_true hv, decide_eq_true hus]; rfl
  case restoredNot => rw [hx, hh, hl]; simp
  case backfeed => rw [hx, not_running h1 h2, hf, decide_eq_true hv, decide_eq_true hus]; rfl
  case backfeedOn => rw [hx, hf]; simp
  case backfeedEnd => rw [hx, hf, decide_eq_true hv, decide_eq_true hus]; rfl
  case ntc => rw [hx, hfit, hno]; rfl
  case expiryNot =>
    show execBranchHoldExpiry s = _
    unfold execBranchHoldExpiry
    rw [hat]
    exact if_neg (Nat.not_le.mpr hearly)
  case expiry =>
    obtain ⟨u, hrun, hhold, hbranch⟩ := branchHoldExpiry_ends hb hx hat hdue
    refine ⟨u, hrun, hhold, fun hst hw => ?_, fun h => hbranch.trans (held_kept ?_)⟩
    · rw [hbranch, held_open (running_iff.mpr hst) hw]
    · rcases h with h | h | h
      · exact .inl (not_running (by omega) (by omega))
      · exact .inl (not_running (by omega) (by omega))
      · exact .inr h
  case fail =>
    obtain ⟨u, hrun, hbranch, hreq⟩ := vddPwrFail_leaves hb hx
    exact ⟨u, hrun, congrArg Branch.st hbranch, (congrArg Branch.cfg hbranch).trans rfl, (congrArg Branch.energy hbranch).trans rfl, hreq⟩
  case retry => exact (retryDue_runs hb hx hst hh hw htm (retryAfter_le hint h1 hduty)).trans (congrArg _ (startReq_new hw))
  case restored =>
    intro w u
    have hw' : (w.branch b).startWait = false := (congrArg Branch.startWait (State.setBranch_branch_same ..)).trans hw
    have hreq := startReq_new (retry := false) hw'
    rw [show w.branch b = { x with supplyLow := false, supplyHold := false, vIn := v } from State.setBranch_branch_same ..,
      State.setBranch_setBranch] at hreq
    exact (supplyRestored_req hb hx hh h1 h2 h3).trans (congrArg (fun t => Host.Outcome.next (raise t (srcBranch b 7) 1 v)) hreq)
  case grant =>
    intro r
    have hm := mayGrant_free hk hbud hs hsafe hres
    exact ⟨fun hno => (startGrant_first hq hm).trans (congrArg Host.Outcome.next (grantStart_first (s := r) hno)),
      fun hyes hleft => (startGrant_first hq hm).trans (congrArg Host.Outcome.next (grantStart_retry (s := r) hyes hleft))⟩
  case off =>
    have htrip (kind : Nat) : tripBranch s b kind = s := (tripBranch_off hx h1 h2).trans (if_neg hoff)
    refine ⟨(if_pos hb).trans (congrArg Host.Outcome.next ?_), fun i => shortTrip_off hb hx h1 h2 hoff,
      (if_pos hb).trans (congrArg Host.Outcome.next ?_), fun v us => supplyHold_off hb hx h1 h2⟩
    · rw [htrip, ite_self]
    · rw [htrip, ite_self]
  case running =>
    obtain ⟨hshort, hhold, hcalm⟩ := trips_running hb hx hrun
    refine ⟨fun he hl => (breakerTrip_due hb hx he).trans (congrArg _ (tripBranch_retry hx hrun hl)),
      fun he hl => (breakerTrip_due hb hx he).trans (congrArg _ (tripBranch_locks hx hrun hl)), breakerTrip_calm hb hx, fun i => ?_,
      fun ht hl => (thermalTrip_due hb hx ht).trans (congrArg _ (tripBranch_retry hx hrun hl)), hhold, hcalm⟩
    obtain ⟨hover, hunder, hin⟩ := hshort i
    refine ⟨fun hi hl => ?_, fun hi hl => ?_, fun h1 h2 => shortTrip_calm hb hx (hin h1 h2)⟩
    · obtain ⟨h, hlim⟩ := hover hi
      have htrip := shortTrip_retry hb hx hrun h hl
      rw [hlim] at htrip
      exact htrip
    · obtain ⟨h, hlim⟩ := hunder hi
      have htrip := shortTrip_retry hb hx hrun h hl
      rw [hlim] at htrip
      exact htrip
  case sample =>
    intro y v z
    obtain ⟨hno, hwarn, hcalm, hend⟩ := sample_warns (m := m) hb
    obtain ⟨hz, hlatest⟩ := sampled_branch (s := s) (b := b) m
    have hcontent : (y.e : Int) = _ := take_content
    refine ⟨hno, hwarn, hcalm, hend, fun h => crossRecord_off h, hlatest, hz, rfl, rfl, rfl, rfl, rfl, rfl, rfl, rfl, take_energy, fun hi => ?_, fun hi => ?_⟩
    · rw [hcontent, if_pos hi]
    · rw [hcontent, if_neg (Int.not_le.mpr hi), Int.add_zero]

end Sys2Proof.Machine

/-!
SUPPORT and O54 (R2, R407, R455, R459 to R475). Commands to the assay die.
-/
namespace Sys2Proof.Machine

section
variable {s t : State} {d : Desc} {c : Cmd} {k : CmdRes}

/-! Where the assay die answers. -/

theorem assayCmd_fitted (h : s.assay.fitted = true) : assayCmd s k = k := if_pos h

theorem assayRuns_of (hr : s.assayReach = true) (hst : s.assay.st = 1) : assayRuns s k = k := chk_of (by rw [hr, hst]; rfl)

theorem assayAnswers_of (hr : s.assayReach = true) (hst : s.assay.st = 1 ∨ s.assay.st = 3) : assayAnswers s k = k := by
  refine chk_of ?_
  rcases hst with h | h <;> rw [hr, h] <;> rfl

theorem assayAnswers_unreached (hr : s.assayReach = false) : assayAnswers s k = .fail stWrongState := if_neg (by rw [hr]; exact Bool.false_ne_true)

/-- Without the assay die its commands are NOT_PRESENT (R2). -/
theorem cmdRow_notFitted {i : CmdInfo} (body : Cmd → State → CmdRes) (hi : i.op / 256 = 0x0E) (hf : (begins s d.part).assay.fitted = false)
    (h : starts i d s = true) : cmdRow i d body s = .next (ends (begins s d.part) d stNotPresent) := by
  refine (cmdRow_starts body h).trans ?_
  rw [runBody, if_pos ⟨hi, by rw [hf]; rfl⟩]
  rfl

/-- A command of the assay die that waits (R351, R459). -/
theorem endCmd_waits {op : Nat} {bulk : List Byte} (hop : op / 256 = 0x0E) : endCmd s d op bulk false (.later t) = t.setPart d.part {
    t.part d.part with
    cmds := (t.part d.part).cmds ++ [{ part := d.part, opcode := op, desc := d, bulk := bulk, async := false, gone := true, begun := true
                                       service := false, due := t.lt }] } := by
  rw [endCmd, hop]
  rfl

/-! Measurements (R459, R470). -/

/-- The measurement that a command starts on a channel (R460). -/
def Cmd.meas (c : Cmd) (a : Assay) (ch kind samples : Nat) : Meas :=
  { kind := kind, part := c.p, samples := samples, tag := c.d.tag, startAt := a.time, startCount := tblGetD a.pulses ch 0 }

/-- The state with a measurement running on a channel (R470). -/
def State.measures (s : State) (c : Cmd) (ch kind samples : Nat) : State :=
  s.setAssay { s.assay with running := tblSet s.assay.running ch (c.meas s.assay ch kind samples) }

theorem startMeas_free {ch kind samples : Nat} (hr : s.assayReach = true) (hst : s.assay.st = 1) (hm : 4 ≤ ch ∨ s.assay.masked ch = false)
    (hk : (tblGetD s.assay.running ch {}).kind = 0) : startMeas c s ch kind samples = .later (s.measures c ch kind samples) := by
  have hmask : (decide (4 ≤ ch) || !s.assay.masked ch) = true := by
    rcases hm with h | h
    · rw [decide_eq_true h, Bool.true_or]
    · rw [h]
      exact Bool.or_true _
  refine (assayRuns_of hr hst).trans ?_
  rw [hmask, hk]
  rfl

theorem startMeas_taken {ch kind samples : Nat} (hr : s.assayReach = true) (hst : s.assay.st = 1)
    (h : (ch < 4 ∧ s.assay.masked ch = true) ∨ (tblGetD s.assay.running ch {}).kind ≠ 0) :
    startMeas c s ch kind samples = .fail stWrongState := by
  refine (assayRuns_of hr hst).trans ?_
  rcases h with ⟨hc, hm⟩ | hk
  · rw [decide_eq_false (Nat.not_le.mpr hc), hm]
    rfl
  · rw [beq_false_of_ne hk]
    exact ite_self _

/-! Parameters and the audit log (R461 to R465). -/

theorem assay_of_kept (h : t.kept = s.kept) : t.assay = s.assay := congrArg (fun k : Kept => k.rest.assay) h

theorem assay_raise {src cause data : Nat} : (raise s src cause data).assay = s.assay := assay_of_kept (kept_raise ..)

theorem assay_raiseIf {b : Bool} {src cause data : Nat} : (raiseIf s b src cause data).assay = s.assay := assay_of_kept (kept_raiseIf ..)

theorem auditAdd_assay {param origin old new : Nat} : ∃ e : Audit, (auditAdd s param origin old new).assay =
    { s.assay with eventCounter := (s.assay.eventCounter + 1) % 4294967296, audit := s.assay.audit ++ [e] } :=
  ⟨_, assay_raiseIf.trans assay_raiseIf⟩

theorem commitParam_assay {p ch v : Nat} : ∃ e : Audit, (commitParam s p ch v).assay =
    { s.assay with
      eventCounter := (s.assay.eventCounter + 1) % 4294967296, audit := s.assay.audit ++ [e], params := tblSet s.assay.params (pid p ch) v } := by
  obtain ⟨e, he⟩ := auditAdd_assay (s := s) (param := pid p ch) (origin := 0) (old := s.assay.param p ch) (new := v)
  refine ⟨e, assay_raise.trans ?_⟩
  exact congrArg (fun a : Assay => { a with params := tblSet a.params (pid p ch) v }) he

/-! Transfers (R475). -/

theorem examine_copies (mine : Nat → Bool) (n : Nat) (l : List ARec) :
    (examine mine n l).1.length ≤ n ∧ ∀ r ∈ (examine mine n l).1, r ∈ l ∧ mine r.channel = true := by
  induction l generalizing n with
  | nil => cases n <;> exact ⟨Nat.zero_le _, nofun⟩
  | cons e l ih =>
    cases n with
    | zero => exact ⟨Nat.zero_le _, nofun⟩
    | succ n =>
      have htail {m : Nat} {r : ARec} (hr : r ∈ (examine mine m l).1) : r ∈ e :: l ∧ mine r.channel = true :=
        have h := (ih m).2 r hr
        ⟨List.mem_cons_of_mem _ h.1, h.2⟩
      by_cases he : mine e.channel = true
      · have hgot : (examine mine (n + 1) (e :: l)).1 = e :: (examine mine n l).1 := by
          rw [examine, if_pos he]
        rw [hgot]
        refine ⟨Nat.succ_le_succ (ih n).1, fun r hr => ?_⟩
        rcases List.mem_cons.mp hr with rfl | hr
        · exact ⟨List.mem_cons_self, he⟩
        · exact htail hr
      · have hgot : (examine mine (n + 1) (e :: l)).1 = (examine mine (n + 1) l).1 := by
          rw [examine, if_neg he]
        rw [hgot]
        exact ⟨(ih _).1, fun r hr => htail hr⟩

end

/-- Settles O54. -/
theorem assayCommands : Obligations.AssayCommands := by
  unfold Obligations.AssayCommands
  refine ⟨fun d s => ?_, fun s k ch v => ?_, examine_copies⟩
  · intro t c a waits
    refine ⟨fun hf => ⟨cmdRow_notFitted _ rfl hf, cmdRow_notFitted _ rfl hf, cmdRow_notFitted _ rfl hf, cmdRow_notFitted _ rfl hf,
        cmdRow_notFitted _ rfl hf, cmdRow_notFitted _ rfl hf, cmdRow_notFitted _ rfl hf⟩,
      fun h => ⟨fun hf hr hst => cmdRow_ok bodyAssayInfo h ((assayCmd_fitted hf).trans (assayAnswers_of hr hst)),
        fun hf hr => cmdRow_fail bodyAssayInfo h ((assayCmd_fitted hf).trans (assayAnswers_unreached hr))⟩,
      fun ch hf hl ho hr hst => ?measure, fun h hf h1 h2 ho hr hst => ?transfer, fun h hf ho hr hst => ?param, fun h hf hn hlen ho hr hst => ?audit⟩
    case measure =>
      have hmeasure (hs : 1 ≤ c.u 12 2) : bodyAssayMeasure c t = startMeas c t ch 1 (c.u 12 2) := by
        rw [bodyAssayMeasure, assayCmd_fitted hf, handle_of_localRes hl, chk_of (decide_eq_true hs), ownRes_of_free_class ho]
      have hzero (hc : ch < 4) : bodyAssayZero c t = startMeas c t ch 2 0 := by
        rw [bodyAssayZero, assayCmd_fitted hf, handle_of_localRes hl, chk_of (decide_eq_true hc), ownRes_of_free_class ho]
      have htare (hc : ch < 4) (hm : c.u 12 1 ≤ 1) : bodyAssayTare c t = startMeas c t ch (3 + c.u 12 1) 0 := by
        rw [bodyAssayTare, assayCmd_fitted hf, handle_of_localRes hl, chk_of (by rw [decide_eq_true hc, decide_eq_true hm]; rfl), ownRes_of_free_class ho]
      refine ⟨fun hm hk => ⟨fun h hs => ?_, fun h hc => ?_, fun h hc h1 => ?_⟩, fun hno => ⟨fun h hs => ?_, fun h hc => ?_, fun h hc h1 => ?_⟩,
        fun h hs => ?_⟩
      · exact (cmdRow_later bodyAssayMeasure h ((hmeasure hs).trans (startMeas_free hr hst hm hk))).trans (congrArg _ (endCmd_waits rfl))
      · exact (cmdRow_later bodyAssayZero h ((hzero hc).trans (startMeas_free hr hst hm hk))).trans (congrArg _ (endCmd_waits rfl))
      · exact (cmdRow_later bodyAssayTare h ((htare hc h1).trans (startMeas_free hr hst hm hk))).trans (congrArg _ (endCmd_waits rfl))
      · exact cmdRow_fail bodyAssayMeasure h ((hmeasure hs).trans (startMeas_taken hr hst hno))
      · exact cmdRow_fail bodyAssayZero h ((hzero hc).trans (startMeas_taken hr hst hno))
      · exact cmdRow_fail bodyAssayTare h ((htare hc h1).trans (startMeas_taken hr hst hno))
      · refine cmdRow_fail bodyAssayMeasure h (?_ : bodyAssayMeasure c t = _)
        rw [bodyAssayMeasure, assayCmd_fitted hf, handle_of_localRes hl, hs]
        rfl
    case transfer =>
      refine ⟨fun hlen => cmdRow_fail bodyAssayTransfer h (?_ : bodyAssayTransfer c t = _), fun r l hlen hstore => ?_⟩
      · rw [bodyAssayTransfer, assayCmd_fitted hf]
        dsimp only
        rw [beq_false_of_ne hlen, Bool.and_false]
        rfl
      · intro first g
        refine cmdRow_ok bodyAssayTransfer h (?_ : bodyAssayTransfer c t = _)
        have hsize : (within 1 512 (c.u 16 2) && c.len == 128 * c.u 16 2) = true := by
          rw [hlen, beq_self_eq_true, within, decide_eq_true h1, decide_eq_true h2]
          rfl
        rw [bodyAssayTransfer, assayCmd_fitted hf]
        dsimp only
        rw [chk_of hsize, chk_of ho, assayRuns_of hr hst, show t.assay.store = r :: l from hstore]
        rfl
    case param =>
      intro k ch v
      refine ⟨fun hno => cmdRow_fail bodyAssayParamSet h (?_ : bodyAssayParamSet c t = _), fun hlen happ hok => ?_⟩
      · have hbad : (c.len == 8 && paramApplies k ch && a.paramOk k ch v) = false := by
          rcases hno with h | h | h
          · rw [beq_false_of_ne h]
            rfl
          · rw [h, Bool.and_false]
            rfl
          · rw [h, Bool.and_false]
        rw [bodyAssayParamSet, assayCmd_fitted hf]
        dsimp only
        rw [hbad]
        rfl
      · have hgood : (c.len == 8 && paramApplies k ch && a.paramOk k ch v) = true := by rw [hlen, happ, hok]; rfl
        have hbody : bodyAssayParamSet c t = chk a.logOpen stWrongState (chk a.sealLevel stSealed (
            if a.uses ch || a.waiting.any (fun w => w.pid == c.u 8 2) then
              .later (t.setAssay { a with waiting := a.waiting ++ [{ pid := c.u 8 2, value := v, part := c.p, tag := c.d.tag }] })
            else okS (commitParam t k ch v))) := by
          rw [bodyAssayParamSet, assayCmd_fitted hf]
          dsimp only
          rw [chk_of hgood, chk_of ho, assayRuns_of hr hst]
        have hopen (hl : a.audit.length < 1024) : a.logOpen = true := decide_eq_true hl
        refine ⟨fun hl => cmdRow_fail bodyAssayParamSet h (hbody.trans ?_), fun hl hs => cmdRow_fail bodyAssayParamSet h (hbody.trans ?_),
          fun hl hs hu hw => cmdRow_ok bodyAssayParamSet h (hbody.trans ?_), fun hl hs hw => ?_⟩
        · exact if_neg fun h => absurd (of_decide_eq_true h) (Nat.not_lt.mpr hl)
        · rw [chk_of (hopen hl), hs]
          rfl
        · have hnone : a.waiting.any (fun w => w.pid == c.u 8 2) = false :=
            List.any_eq_false.mpr fun w hm h => Bool.false_ne_true ((beq_false_of_ne (hw w hm)).symm.trans h)
          rw [chk_of (hopen hl), chk_of hs, hu, hnone]
          rfl
        · intro u
          have hsome : (a.uses ch || a.waiting.any (fun w => w.pid == c.u 8 2)) = true := by
            rcases hw with hu | ⟨w, hm, he⟩
            · rw [hu, Bool.true_or]
            · have hany : a.waiting.any (fun w => w.pid == c.u 8 2) = true := List.any_eq_true.mpr ⟨w, hm, beq_iff_eq.mpr he⟩
              rw [hany, Bool.or_true]
          refine (cmdRow_later bodyAssayParamSet h (hbody.trans ?_)).trans (congrArg _ (endCmd_waits rfl))
          rw [chk_of (hopen hl), chk_of hs]
          exact if_pos hsome
    case audit =>
      intro l
      refine cmdRow_ok bodyAuditRead h (?_ : bodyAuditRead c t = _)
      rw [bodyAuditRead, assayCmd_fitted hf]
      dsimp only
      rw [chk_of (by rw [decide_eq_true hn, hlen]; rfl), chk_of ho, assayAnswers_of hr hst]
  · intro u
    obtain ⟨e, he⟩ := commitParam_assay (s := s) (p := k) (ch := ch) (v := v)
    have hu : u.assay = _ := he
    rw [hu]
    exact ⟨tblGetD_tblSet_same .., rfl, List.length_append, rfl, rfl⟩

end Sys2Proof.Machine

/-!
SUPPORT and O55 (R455 to R477). What happens at the assay die.
-/
namespace Sys2Proof.Machine

section
variable {s t : State}

/-! Completions leave the die alone. -/

theorem assay_finalCpl {d : Desc} {st : Nat} {res : List Byte} : (finalCpl s d st res).assay = s.assay := assay_raiseIf.trans rfl

theorem assay_finishBegun {p op tag st : Nat} {res : List Byte} : (finishBegun s p op tag st res).assay = s.assay := by
  unfold finishBegun
  split
  · exact assay_finalCpl.trans rfl
  · rfl

theorem assay_finishMeas {m : Meas} {st : Nat} {res : List Byte} : (finishMeas s m st res).assay = s.assay := assay_finishBegun

theorem assay_forEach {α : Type} {l : List α} {f : α → State → State} (h : ∀ e s, (f e s).assay = s.assay) : (forEach l s f).assay = s.assay := by
  induction l generalizing s with
  | nil => rfl
  | cons e l ih => exact ih.trans (h e s)

theorem dropMeasurements_assay : (dropMeasurements s).assay = { s.assay with running := [], waiting := [] } := by
  unfold dropMeasurements
  exact (assay_forEach fun w s => assay_finishBegun).trans (assay_forEach fun e s => assay_finishMeas)

/-- With nothing under way nothing is dropped. -/
theorem dropMeasurements_idle (hr : s.assay.running = []) (hw : s.assay.waiting = []) : dropMeasurements s = s := by
  unfold dropMeasurements
  dsimp only
  rw [hr, hw]
  have hself : ({ s.assay with running := [], waiting := [] } : Assay) = s.assay := by rw [← hr, ← hw]
  exact congrArg s.setAssay hself

/-! Records (R472, R475). -/

/-- The record that the die commits next (R472). -/
def Assay.record (a : Assay) (c kind status samples : Nat) (gross tare net pulses : Int) : ARec :=
  let b := leBytes 8 a.nextSeq ++ leBytes 1 c ++ leBytes 1 kind ++ leBytes 2 status ++ leBytes 4 a.eventCounter
    ++ leBytes 4 (unsignedOf 32 gross) ++ leBytes 4 (unsignedOf 32 tare) ++ leBytes 4 (unsignedOf 32 net) ++ leBytes 4 samples
    ++ leBytes 8 (unsignedOf 64 pulses) ++ leBytes 8 (a.time / 1000) ++ leBytes 8 a.hubNow ++ leBytes 4 (idDigest a.fw) ++ leBytes 4 a.powerCount
  { seq := a.nextSeq, channel := c, bytes := b ++ fitBytes 64 (Config.recordSig b) }

/-- What a commit leaves of the die: the store's newest record, the next number, the pulses kept; the rest but the readings stays. -/
structure Commits (a u : Assay) (r : ARec) : Prop where
  newest : u.store.getLast? = some r
  next : u.nextSeq = a.nextSeq + 1
  kept : u.pulsesKept = a.pulses
  rest : ∃ l n w, u = { a with nextSeq := u.nextSeq, store := u.store, pulsesKept := u.pulsesKept, latest := l, sinceXfer := n, storeWarned := w }

/-- The store with one more record, the oldest of a full one gone (R475). -/
def addRecord (l : List ARec) (r : ARec) : List ARec := if (l ++ [r]).length > 4096 then (l ++ [r]).drop 1 else l ++ [r]

theorem getLast?_addRecord (l : List ARec) (r : ARec) : (addRecord l r).getLast? = some r := by
  unfold addRecord
  split
  case isTrue h =>
    cases l with
    | nil => exact absurd h (by simp)
    | cons e l => exact List.getLast?_concat ..
  case isFalse h => exact List.getLast?_concat ..

theorem commitRec_commits {c kind status samples : Nat} {gross tare net pulses : Int} :
    Commits s.assay (commitRec s c kind status samples gross tare net pulses).assay (s.assay.record c kind status samples gross tare net pulses) := by
  obtain ⟨l, n, w, h⟩ : ∃ l n w, (commitRec s c kind status samples gross tare net pulses).assay = { s.assay with
      nextSeq := s.assay.nextSeq + 1, store := addRecord s.assay.store (s.assay.record c kind status samples gross tare net pulses)
      pulsesKept := s.assay.pulses, latest := l, sinceXfer := n, storeWarned := w } := ⟨_, _, _, assay_raiseIf⟩
  rw [h]
  exact ⟨getLast?_addRecord .., rfl, rfl, l, n, w, rfl⟩

theorem record_length {a : Assay} {c kind status samples : Nat} {gross tare net pulses : Int} :
    (a.record c kind status samples gross tare net pulses).bytes.length = 128 := by
  simp [Assay.record, length_leBytes, length_fitBytes]

theorem record_kind {a : Assay} {c kind status samples : Nat} {gross tare net pulses : Int} :
    leAt (a.record c kind status samples gross tare net pulses).bytes 9 1 = kind % 256 := by
  simp only [Assay.record, List.append_assoc]
  rw [← List.append_assoc, leAt_append_right _ _ _ (by simp [length_leBytes])]
  exact leAt_leBytes_append ..

theorem record_gross {a : Assay} {c kind status samples : Nat} {gross tare net pulses : Int} :
    leAt (a.record c kind status samples gross tare net pulses).bytes 16 4 = unsignedOf 32 gross := by
  have hlt : unsignedOf 32 gross < 256 ^ 4 := by
    unfold unsignedOf
    omega
  simp only [Assay.record, List.append_assoc]
  rw [← List.append_assoc, ← List.append_assoc, ← List.append_assoc, ← List.append_assoc, leAt_append_right _ _ _ (by simp [length_leBytes])]
  exact (leAt_leBytes_append ..).trans (Nat.mod_eq_of_lt hlt)

/-! Measurements (R458 to R460). -/

/-- Whether a measurement on a bridge channel fails (R460). -/
theorem bridgeEnd_fails {c : Nat} {m : Meas} {outs : List (List Int)} (hk : m.kind = 2) (hs : s.assay.stable c outs = false) :
    bridgeEnd s c m outs = finishMeas s m stWrongState [] := by
  refine if_pos (.inl ⟨hk, ?_⟩)
  rw [hs]
  rfl

/-- The gross weight that a measurement shows (R459, R460). -/
def Assay.grossOf (a : Assay) (c : Nat) (m : Meas) (outs : List (List Int)) : Int :=
  a.rounded c (a.weight c (a.zeroOf c) (meanOf ((lastN m.samples outs).map (a.signal c))))

/-- A load measurement ends with its record (R460, R472). -/
theorem bridgeEnd_measures {c : Nat} {m : Meas} {outs : List (List Int)} (hk : m.kind = 1) : ∃ a status n tare net o,
    a.nextSeq = s.assay.nextSeq ∧ (bridgeEnd s c m outs).assay =
      { (commitRec (s.setAssay a) c 1 status n (s.assay.grossOf c m outs) tare net 0).assay with overUp := o } := by
  obtain ⟨kind, part, samples, tag, startAt, startCount⟩ := m
  obtain rfl : kind = 1 := hk
  refine ⟨_, _, _, _, _, _, ?_, (congrArg State.assay (if_neg ?_)).trans (assay_finishMeas.trans assay_raiseIf)⟩
  · rfl
  · rintro (⟨h, _⟩ | ⟨h, _⟩)
    · exact Nat.succ_ne_succ_iff.mpr (by decide : 0 ≠ 1) h
    · exact Nat.succ_ne_succ_iff.mpr (by decide : 0 ≠ 2) h

/-- A tare that is cleared ends with its record (R460, R472). -/
theorem bridgeEnd_clears {c : Nat} {m : Meas} {outs : List (List Int)} (hk : m.kind = 4) : ∃ on status n gross tare net o,
    (bridgeEnd s c m outs).assay = { (commitRec (s.setAssay { s.assay with
      zero := s.assay.zero, tare := tblSet s.assay.tare c 0, tareOn := tblSet s.assay.tareOn c on }) c 4 status n gross tare net 0).assay with
      overUp := o } ∧ on = false := by
  obtain ⟨kind, part, samples, tag, startAt, startCount⟩ := m
  obtain rfl : kind = 4 := hk
  refine ⟨_, _, _, _, _, _, _, (congrArg State.assay (if_neg ?_)).trans (assay_finishMeas.trans assay_raiseIf), rfl⟩
  rintro (⟨h, _⟩ | ⟨h, _⟩)
  · exact Nat.succ_ne_succ_iff.mpr (by decide : 3 ≠ 1) h
  · exact Nat.succ_ne_succ_iff.mpr (by decide : 3 ≠ 2) h

theorem pulseEnd_assay {c : Nat} {m : Meas} : ∃ status tare net pulses, (pulseEnd s c m).assay =
    (commitRec s c m.kind status m.samples (roundHalfEven ((tblGetD s.assay.pulses c 0 - m.startCount) * 1000000) m.samples) tare net pulses).assay :=
  ⟨_, _, _, _, assay_finishMeas⟩

/-- A measurement whose time is over ends (R460). -/
theorem measurementComplete_ends {c : Nat} {m : AssaySample} {r : Meas} (hc : c < 6) (hst : s.assay.st = 1)
    (hr : tblGetD s.assay.running c {} = r) (hk : r.kind ≠ 0) (ht : r.startAt + s.assay.duration c r ≤ s.assay.time)
    (hn : r.need c ≤ m.outs.length) : exec (.measurementComplete c m) s = .next (
      if c < 4 then bridgeEnd (s.setAssay { s.assay with running := tblDel s.assay.running c }) c r m.outs
      else pulseEnd (s.setAssay { s.assay with running := tblDel s.assay.running c }) c r) := by
  subst hr
  refine (if_pos hc).trans (congrArg Host.Outcome.next (if_neg ?_))
  rw [hst, beq_false_of_ne hk, decide_eq_false (Nat.not_lt.mpr ht), decide_eq_false (Nat.not_lt.mpr hn)]
  decide

theorem measurementComplete_waits {c : Nat} {m : AssaySample} {r : Meas} (hc : c < 6) (hr : tblGetD s.assay.running c {} = r)
    (h : r.kind = 0 ∨ s.assay.time < r.startAt + s.assay.duration c r) : exec (.measurementComplete c m) s = .next s := by
  subst hr
  refine (if_pos hc).trans (congrArg Host.Outcome.next (if_pos ?_))
  rcases h with h | h
  · simp only [h, beq_self_eq_true, Bool.or_true, Bool.true_or]
  · simp only [decide_eq_true h, Bool.or_true, Bool.true_or]

theorem paramCommit_takes {w : ParamWait} (hst : s.assay.st = 1) (hw : s.assay.waiting = [w]) (hu : s.assay.uses (w.pid % 16) = false) :
    exec .paramCommit s = .next (paramCommitOne (s.setAssay { s.assay with waiting := [] }) w) := by
  have htake : takeFirst (fun w : ParamWait => !s.assay.uses (w.pid % 16)) s.assay.waiting = some (w, []) := by
    rw [hw]
    exact if_pos ((congrArg (!·) hu).trans rfl)
  show execParamCommit s = _
  unfold execParamCommit
  dsimp only
  rw [if_neg (not_not_intro hst), htake]

/-! Power and faults (R455, R456). -/

/-- A self-test that a power-on is due for commits its START record (R455). -/
theorem selfTest_commits (hd : s.assay.startDue = true) (ht : s.assay.trial = none) :
    let a := { s.assay with st := 1, selfFails := 0, startDue := false, faultKind := 0, trial := none }
    ∃ status, Commits a (assaySelfTest s true).assay (a.record 0xFF 5 status 0 0 0 0 0) := by
  intro a
  have hrun : (assaySelfTest s true).assay = (commitRec (s.setAssay a) 0xFF 5 a.commonStatus 0 0 0 0 0).assay := by
    unfold assaySelfTest
    dsimp only
    rw [hd, ht]
    exact assay_raiseIf.trans assay_raise
  rw [hrun]
  exact ⟨_, commitRec_commits (s := s.setAssay a)⟩

/-- A self-test after a fault (R456). -/
theorem selfTest_fault (hd : s.assay.startDue = false) (ht : s.assay.trial = none) (hk : s.assay.faultKind ≠ 0) : assaySelfTest s true =
    raise (s.setAssay { s.assay with st := 1, selfFails := 0, startDue := false, faultKind := 0, trial := none }) (srcAssay 5) 1 s.assay.faultKind := by
  unfold assaySelfTest
  dsimp only
  rw [hd, ht]
  exact if_pos (bne_iff_ne.mpr hk)

/-- A self-test that fails (R456). -/
theorem selfTest_fails {n : Nat} (hn : s.assay.selfFails = n) (ht : s.assay.trial = none) : assaySelfTest s false =
    if n + 1 ≥ 3 then raise (s.setAssay { s.assay with selfFails := n + 1, st := 3 }) (srcAssay 5) 1 4
    else s.setAssay { s.assay with selfFails := n + 1, st := 0 } := by
  unfold assaySelfTest
  dsimp only
  rw [ht, hn]
  rfl

theorem powerOn_starts {pass : Bool} (hf : s.assay.fitted = true) (hp : s.assay.powered = false) :
    exec (.assayPowerOn pass) s = .next (assaySelfTest (assayStart (assayClock s)) pass) := by
  refine (if_neg ?_).trans (if_pos ?_)
  · rw [hf]
    decide
  · rw [hp]
    rfl

theorem powerOn_tests {pass : Bool} (hf : s.assay.fitted = true) (hp : s.assay.powered = true) (hst : s.assay.st = 0) :
    exec (.assayPowerOn pass) s = .next (assaySelfTest s pass) := by
  refine (if_neg ?_).trans ((if_neg ?_).trans (if_pos hst))
  · rw [hf]
    decide
  · rw [hp, hst]
    decide

theorem powerOn_runs {pass : Bool} (hp : s.assay.powered = true) (hst : s.assay.st = 1 ∨ s.assay.st = 3) : exec (.assayPowerOn pass) s = .next s := by
  refine (congrArg (ite _ _) ((if_neg ?_).trans (if_neg (by omega)))).trans (ite_self _)
  rw [hp]
  rcases hst with h | h <;> rw [h] <;> decide

theorem assayFault_tests {kind : Nat} (h1 : 1 ≤ kind) (h3 : kind ≤ 3) (hf : s.assay.fitted = true) (hp : s.assay.powered = true)
    (hst : s.assay.st = 1) (hr : s.assay.running = []) (hw : s.assay.waiting = []) : exec (.assayFault kind true) s =
      .next (assaySelfTest ((assayClock s).setAssay { s.assay with st := 0, faultKind := kind }) true) := by
  refine (if_neg (by omega)).trans ((if_neg ?_).trans (congrArg Host.Outcome.next ?_))
  · rw [hf, hp, hst]
    decide
  · exact congrArg (fun t : State => assaySelfTest (t.setAssay { t.assay with st := 0, faultKind := kind }) true)
      (dropMeasurements_idle (s := assayClock s) hr hw)

end

/-- Settles O55. -/
theorem assayEvents : Obligations.AssayEvents := by
  unfold Obligations.AssayEvents
  intro s a
  refine ⟨fun hf hp ht => ?on, fun hp hst pass => powerOn_runs hp hst, fun hf pass => if_pos (by rw [show s.assay.fitted = false from hf]; rfl),
    fun hf hp hst ht => ?test, fun kind h1 h3 hf hp => ?fault, ?absent, fun lvl ms => ?release, fun hr => if_pos hr, fun h hat => ?loss,
    fun c down us => ?pulse, fun c bad hc => ?exc, fun w hst hw => ?commit, fun c m hc hst => ?measured, fun p off len hf hr h1 h2 => ?ident,
    fun p c hf hc hno => ?latest⟩
  case on =>
    obtain ⟨status, hnew, hnext, -, l, n, w, hrest⟩ := selfTest_commits (s := assayStart (assayClock s)) rfl ht
    refine ⟨_, powerOn_starts hf hp, ?_, ?_, ?_, hnext, ⟨_, hnew, rfl, rfl, record_length, record_kind⟩, ?_, ?_, ?_, ?_, ?_⟩ <;> rw [hrest] <;> rfl
  case test =>
    exact ⟨fun hn => (powerOn_tests hf hp hst).trans (congrArg _ ((selfTest_fails hn ht).trans (if_neg (by decide)))),
      fun hn => (powerOn_tests hf hp hst).trans (congrArg _ ((selfTest_fails hn ht).trans (if_pos (by decide))))⟩
  case fault =>
    refine ⟨fun hst pass => (if_neg (by omega)).trans (if_pos ?_), fun hst hd ht hr hw => (assayFault_tests h1 h3 hf hp hst hr hw).trans (congrArg _ ?_)⟩
    · rw [show s.assay.st = 3 from hst]
      simp
    · exact selfTest_fault (s := (assayClock s).setAssay { s.assay with st := 0, faultKind := kind }) hd ht (Nat.ne_of_gt h1)
  case absent =>
    have hdrop := dropMeasurements_assay (s := s)
    exact ⟨_, rfl, rfl, rfl, (congrArg Assay.running hdrop :), (congrArg Assay.nextSeq hdrop :), (congrArg Assay.store hdrop :),
      (congrArg Assay.params hdrop :), (congrArg Assay.audit hdrop :)⟩
  case release =>
    refine ⟨fun h => if_pos ?_, fun hms hne hp hst hu => (if_neg ?_).trans (congrArg Host.Outcome.next ?_)⟩
    · rcases h with h | h
      · simp only [decide_eq_true h, Bool.or_true, Bool.true_or]
      · simp only [show (s.assay.sealLevel == lvl) = true from beq_iff_eq.mpr h, Bool.or_true]
    · rw [show s.assay.powered = true from hp, beq_false_of_ne (show s.assay.st ≠ 0 from hst), decide_eq_false (Nat.not_lt.mpr hms),
        show (s.assay.sealLevel == lvl) = false from beq_false_of_ne hne]
      decide
    · have hdrop : dropAssayUpdate (s.setAssay { a with sealLevel := lvl }) = s.setAssay { a with sealLevel := lvl } := by
        unfold dropAssayUpdate
        rw [show (s.setAssay { a with sealLevel := lvl }).boot.upd = none from hu]
      rw [hdrop, ite_self]
  case loss =>
    have hrun : exec .hubTimeLoss s = if s.assay.time ≥ h + 10000000 then .next (s.setAssay { s.assay with hubValid := false }) else .next s := by
      show execHubTimeLoss s = _
      unfold execHubTimeLoss
      rw [show s.assay.hubAt = some h from hat]
    exact ⟨fun ht => hrun.trans (if_pos ht), fun ht => hrun.trans (if_neg (Nat.not_le.mpr ht))⟩
  case pulse =>
    refine ⟨fun hc hst hus => ⟨_, (if_neg (by omega)).trans (if_neg ?_), ?_⟩, fun hc hus => (if_neg (by omega)).trans (if_pos (.inr hus)),
      fun h4 h5 => if_pos ⟨h4, h5⟩⟩
    · exact not_or.mpr ⟨not_not_intro hst, Nat.not_lt.mpr hus⟩
    · exact ⟨tblGetD_tblSet_same .., rfl⟩
  case exc =>
    refine ⟨fun hb => (if_pos hc).trans (congrArg _ (if_pos (.inr hb))), fun hst hb => (if_pos hc).trans (congrArg _ (if_neg ?_))⟩
    exact not_or.mpr ⟨hst, hb⟩
  case commit =>
    intro t
    have closedLog (hl : 1024 ≤ a.audit.length) : (!t.assay.logOpen) = true :=
      (congrArg (!·) (decide_eq_false (Nat.not_lt.mpr hl))).trans rfl
    have openLog (hl : a.audit.length < 1024) : ¬(!t.assay.logOpen) = true := fun h =>
      absurd (h.symm.trans ((congrArg (!·) (decide_eq_true hl)).trans rfl)) (by decide)
    refine ⟨fun hu => ?_, fun hu hl => (paramCommit_takes hst hw hu).trans (congrArg _ (if_pos ?_)),
      fun hu hl hs => (paramCommit_takes hst hw hu).trans (congrArg _ ((if_neg ?_).trans (if_pos ?_))),
      fun hu hl hs => (paramCommit_takes hst hw hu).trans (congrArg _ ((if_neg ?_).trans (if_neg ?_)))⟩
    · have htake : takeFirst (fun w : ParamWait => !s.assay.uses (w.pid % 16)) s.assay.waiting = none := by
        rw [show s.assay.waiting = [w] from hw]
        exact if_neg fun h => absurd (h.symm.trans ((congrArg (!·) hu).trans rfl)) (by decide)
      show execParamCommit s = _
      unfold execParamCommit
      dsimp only
      rw [if_neg (not_not_intro hst), htake]
    · exact closedLog hl
    · exact openLog hl
    · exact (congrArg (!·) hs).trans rfl
    · exact openLog hl
    · exact fun h => absurd (h.symm.trans ((congrArg (!·) hs).trans rfl)) (by decide)
  case measured =>
    intro r t
    have hr : tblGetD s.assay.running c {} = r := rfl
    refine ⟨fun h => measurementComplete_waits hc hr h, fun hk h4 ht hn => ?_, fun hk h4 ht hn hs => ?_, fun hk h4 ht hn => ?_, fun hk h4 ht => ?_⟩
    · have hdur : a.duration c r = r.samples * 1000000000 / a.param 2 c := (if_neg (Nat.not_le.mpr h4)).trans (if_pos hk)
      have hneed : r.need c = r.samples := (if_neg (Nat.not_le.mpr h4)).trans (if_pos hk)
      obtain ⟨b, status, n, tare, net, o, hseq, hend⟩ := bridgeEnd_measures (s := t) (c := c) (m := r) (outs := m.outs) hk
      obtain ⟨hnew, hnext, -, -⟩ := commitRec_commits (s := t.setAssay b) (c := c) (kind := 1) (status := status) (samples := n)
        (gross := t.assay.grossOf c r m.outs) (tare := tare) (net := net) (pulses := 0)
      have hrun := measurementComplete_ends hc hst hr (by omega) (hdur ▸ ht) (hneed ▸ hn)
      rw [if_pos h4] at hrun
      refine ⟨_, hrun, ?_⟩
      rw [hend]
      exact ⟨hnext.trans (congrArg (· + 1) hseq), _, hnew, hseq, rfl, record_gross⟩
    · have hdur : a.duration c r = a.motionMs c * 1000000 := (if_neg (Nat.not_le.mpr h4)).trans ((if_neg (by omega)).trans (if_neg (by omega)))
      have hneed : r.need c = 1 := (if_neg (Nat.not_le.mpr h4)).trans (if_neg (by omega))
      refine (measurementComplete_ends hc hst hr (by omega) (hdur ▸ ht) (hneed ▸ hn)).trans (congrArg Host.Outcome.next ?_)
      rw [if_pos h4]
      refine (bridgeEnd_fails (s := t) hk hs).trans ?_
      rw [finishMeas, hk]
      rfl
    · have hdur : a.duration c r = 0 := (if_neg (Nat.not_le.mpr h4)).trans ((if_neg (by omega)).trans (if_pos hk))
      have hneed : r.need c = 1 := (if_neg (Nat.not_le.mpr h4)).trans (if_neg (by omega))
      obtain ⟨on, status, n, gross, tare, net, o, hend, hon⟩ := bridgeEnd_clears (s := t) (c := c) (m := r) (outs := m.outs) hk
      obtain ⟨-, hnext, -, l, x, w, hrest⟩ := commitRec_commits
        (s := t.setAssay { t.assay with zero := t.assay.zero, tare := tblSet t.assay.tare c 0, tareOn := tblSet t.assay.tareOn c on })
        (c := c) (kind := 4) (status := status) (samples := n) (gross := gross) (tare := tare) (net := net) (pulses := 0)
      have hrun := measurementComplete_ends hc hst hr (by omega) (by rw [hdur]; exact ht) (hneed ▸ hn)
      rw [if_pos h4] at hrun
      refine ⟨_, hrun, ?_⟩
      rw [hend]
      refine ⟨hnext, ?_, ?_, ?_⟩
      · dsimp only
        rw [hrest]
        exact (tblGetD_tblSet_same ..).trans hon
      · dsimp only
        rw [hrest]
        exact tblGetD_tblSet_same ..
      · dsimp only
        rw [hrest]
        rfl
    · have hdur : a.duration c r = r.samples * 1000000 := if_pos h4
      have hneed : r.need c = 0 := if_pos h4
      obtain ⟨status, tare, net, pulses, hend⟩ := pulseEnd_assay (s := t) (c := c) (m := r)
      obtain ⟨hnew, hnext, hkept, -⟩ := commitRec_commits (s := t) (c := c) (kind := r.kind) (status := status) (samples := r.samples)
        (gross := roundHalfEven ((tblGetD t.assay.pulses c 0 - r.startCount) * 1000000) r.samples) (tare := tare) (net := net) (pulses := pulses)
      have hrun := measurementComplete_ends (m := m) hc hst hr (by omega) (hdur ▸ ht) (hneed ▸ Nat.zero_le m.outs.length)
      rw [if_neg (Nat.not_lt.mpr h4)] at hrun
      refine ⟨_, hrun, ?_⟩
      rw [hend]
      exact ⟨hnext, hkept, _, hnew, rfl, record_gross⟩
  case ident =>
    have hout : ¬(((!s.assay.fitted) = true) ∨ len = 0 ∨ 1024 < len) := by
      rw [show s.assay.fitted = true from hf]
      rintro (h | h | h)
      · exact Bool.false_ne_true h
      · omega
      · omega
    refine (if_neg hout).trans ((if_pos h2).trans ((if_neg (by decide)).trans (if_pos ?_)))
    rw [hr]
    rfl
  case latest =>
    have hout : ¬(((!s.assay.fitted) = true) ∨ 128 = 0 ∨ 1024 < 128) := by
      rw [show s.assay.fitted = true from hf]
      decide
    have hread : (List.range 6).all (fun k => decide (0x400 + c * 0x80 + 128 ≤ 0x400 + k * 0x80) || decide (0x400 + (k + 1) * 0x80 ≤ 0x400 + c * 0x80)
        || s.mayRead p 12 k) = false := by
      refine List.all_eq_false.mpr ⟨c, List.mem_range.mpr hc, ?_⟩
      rw [hno, decide_eq_false (by omega), decide_eq_false (by omega)]
      decide
    refine (if_neg hout).trans ((if_neg (by omega)).trans ((if_pos (by omega)).trans (if_pos ?_)))
    rw [hread]
    rfl

end Sys2Proof.Machine

/-!
SUPPORT and O56 (R408, R462, R476, R486 to R503). Updates.
-/
namespace Sys2Proof.Machine

section
variable {s t : State} {c : Cmd} {op : Nat} {x : Update} {k : CmdRes}

theorem updEnd_ok {res out : List Byte} (h : t.boot.upd = some x) : updEnd op s (.ok res out t) = .ok res out (logAdd t 2 (updDetail op x.typ x.slot stOk)) := by
  unfold updEnd
  dsimp only
  rw [h]
  rfl

/-- A step that ends the update names what it ended (R503). -/
theorem updEnd_ended {res out : List Byte} (h : t.boot.upd = none) (hs : s.boot.upd = some x) :
    updEnd op s (.ok res out t) = .ok res out (logAdd t 2 (updDetail op x.typ x.slot stOk)) := by
  unfold updEnd
  dsimp only
  rw [h, hs]
  rfl

theorem updEnd_fail {st : Nat} (hs : s.boot.upd = some x) : updEnd op s (.fail st) = .ends st [] (logAdd s 2 (updDetail op x.typ x.slot st)) := by
  unfold updEnd
  dsimp only
  rw [hs]
  cases x
  rfl

theorem sealedUpd_of (h : x.typ = 3 → s.assayReach = true ∧ s.assay.st = 1 ∧ s.assay.sealLevel = true) : sealedUpd s x k = k := by
  unfold sealedUpd
  split
  case isTrue ht =>
    obtain ⟨hr, hst, hseal⟩ := h ht
    rw [hr, hst, hseal]
    rfl
  case isFalse => rfl

/-- A new boot-control record touches the boot-control records alone (R486). -/
theorem writeRecord_boot {r : BootRec} : ∃ p q, (writeRecord s r).boot = { s.boot with rec0 := p, rec1 := q } := by
  unfold writeRecord
  dsimp only
  split
  · exact ⟨_, _, rfl⟩
  · by_cases h : (s.boot.current.seq + 1) % 4294967296 % 2 = 0
    · rw [if_pos h]
      exact ⟨_, _, rfl⟩
    · rw [if_neg h]
      exact ⟨_, _, rfl⟩

end

/-- Settles O56. -/
theorem updateCommands : Obligations.UpdateCommands := by
  unfold Obligations.UpdateCommands
  intro d s t c
  refine ⟨fun k h htyp hsize hf hno htrial hk => ?begins, fun x h h8 hmax ho hu ha hgot hlen hseal => ?data, fun x h hu hgot ha hseal => ?verify,
    fun x h h0 hu hv ha htyp => ?activate, fun h htrial => ?confirm, fun x h hu ha => ?abort⟩
  case begins =>
    intro u
    subst hk
    refine cmdRow_ok bodyUpdBegin h (?_ : bodyUpdBegin c t = _)
    have hrange : (decide (1 ≤ c.u 8 1) && decide (c.u 8 1 ≤ 3) && decide (c.u 12 4 ≤ slotSize (c.u 8 1))) = true := by
      rw [decide_eq_true (by omega), decide_eq_true (by omega), decide_eq_true hsize]
      rfl
    have hnone : t.boot.upd.isNone = true := by rw [hno]; rfl
    have hconf : (!(c.u 8 1 == 1 && t.boot.current.trial)) = true := by
      rcases htyp with h1 | h2
      · rw [htrial h1, Bool.and_false]
        rfl
      · rw [h2]
        rfl
    rw [bodyUpdBegin]
    dsimp only
    rw [chk_of hrange, if_neg (by omega), chk_of hf, chk_of hnone, chk_of hconf]
    exact updEnd_ok (x := { typ := c.u 8 1, slot := t.otherSlot (c.u 8 1), length := c.u 12 4 }) rfl
  case data =>
    intro u
    refine cmdRow_ok bodyUpdData h (?_ : bodyUpdData c t = _)
    have hrange : (decide (8 ≤ c.len) && decide (c.len ≤ 65536)) = true := by
      rw [decide_eq_true (show 8 ≤ c.len from h8), decide_eq_true (show c.len ≤ 65536 from hmax)]
      rfl
    have hplace : (c.u 8 4 == x.got && decide (x.got + c.len ≤ x.length)) = true := by
      rw [hgot, beq_self_eq_true, decide_eq_true (show x.got + c.len ≤ x.length from hlen)]
      rfl
    rw [bodyUpdData, chk_of hrange, chk_of ho, hu]
    dsimp only
    rw [chk_of (show (!x.activated) = true by rw [ha]; rfl), chk_of hplace, sealedUpd_of hseal]
    exact updEnd_ok (x := { x with got := x.got + c.len }) rfl
  case verify =>
    have hbody : bodyUpdVerify c t = updEnd 0x0F02 t (chk (verifyImage t x.typ (t.slot x.typ x.slot).bytes == stOk)
        (verifyImage t x.typ (t.slot x.typ x.slot).bytes) (
          .ok (leBytes 4 (hdrField (t.slot x.typ x.slot).bytes 8 4) ++ leBytes 2 (hdrField (t.slot x.typ x.slot).bytes 12 2)) []
            ((setSlot t x.typ x.slot { t.slot x.typ x.slot with marked := true }).setBoot
              { (setSlot t x.typ x.slot { t.slot x.typ x.slot with marked := true }).boot with upd := some { x with verified := true } }))) := by
      have hdone : (x.got == x.length && !x.activated) = true := by
        rw [hgot, beq_self_eq_true, ha]
        rfl
      rw [bodyUpdVerify, hu]
      dsimp only
      rw [chk_of hdone, sealedUpd_of hseal]
    by_cases hv : verifyImage t x.typ (t.slot x.typ x.slot).bytes = stOk
    · rw [if_pos hv]
      refine cmdRow_ok bodyUpdVerify h (hbody.trans ?_)
      rw [chk_of (beq_iff_eq.mpr hv)]
      exact updEnd_ok (x := { x with verified := true }) rfl
    · rw [if_neg hv]
      rw [beq_false_of_ne hv] at hbody
      exact (cmdRow_body bodyUpdVerify h (hbody.trans (updEnd_fail hu))).trans rfl
  case activate =>
    intro u
    refine cmdRow_ok bodyUpdActivate h (?_ : bodyUpdActivate c t = _)
    have hready : (x.verified && !x.activated) = true := by rw [hv, ha]; rfl
    rw [bodyUpdActivate, chk_of (decide_eq_true (by omega)), hu]
    dsimp only
    rw [chk_of hready, if_neg (by omega), if_pos htyp, if_neg (by omega)]
    refine (updEnd_ok (x := { x with activated := true }) rfl).trans ?_
    rw [htyp]
  case confirm =>
    intro u v
    refine cmdRow_ok bodyUpdConfirm h (?_ : bodyUpdConfirm c t = _)
    obtain ⟨p, q, hboot⟩ := writeRecord_boot (s := t) (r := { t.boot.current with trial := false, boots := 0 })
    have hv : max u.boot.thermo (hdrField (u.boot.image 1 t.boot.current.active) 12 2) = v := by
      rw [show u.boot = _ from hboot]
      rfl
    rw [bodyUpdConfirm]
    dsimp only
    rw [chk_of htrial, ← hv]
    rfl
  case abort =>
    intro u
    refine cmdRow_ok bodyUpdAbort h (?_ : bodyUpdAbort c t = _)
    rw [bodyUpdAbort, hu]
    dsimp only
    rw [ha, chk_of Bool.not_false]
    exact updEnd_ended rfl hu

end Sys2Proof.Machine

/-!
SUPPORT and O57 (R408, R409, R428, R503). What the hub says of its start, warm reset, and what only partition 0 reads.
-/
namespace Sys2Proof.Machine

section
variable {d : Desc} {s t : State} {c : Cmd}

/-- The log read from its oldest entry (R503). -/
theorem bodyLogRead_oldest (hc : c.len ≠ 0) (hm : c.len % 64 = 0) (ho : c.owned = true) (hf : c.u 8 4 = 0xFFFFFFFF)
    (hl : t.boot.log.length ≤ c.len / 64) :
    ∃ first next, bodyLogRead c t = .ok (resOf [(0, 2, t.boot.log.length), (4, 4, next), (8, 4, first)]) (t.boot.log.flatMap LogEnt.bytes) t ∧
      (t.boot.log = [] → first = t.boot.logSeq ∧ next = first) := by
  have hback (n : Nat) : (signedOf 32 ((n + 4294967296 - n) % 4294967296)) = 0 := by
    rw [Nat.add_sub_cancel_left]
    rfl
  have hsize : (decide (c.len ≠ 0) && c.len % 64 == 0) = true := by
    rw [decide_eq_true hc, hm]
    rfl
  unfold bodyLogRead
  simp only [hf, if_true, hback, Int.le_refl, Int.toNat_zero, List.drop_zero, List.take_of_length_le hl]
  rw [chk_of hsize, chk_of ho]
  refine ⟨_, _, rfl, fun hnil => ?_⟩
  rw [hnil]
  exact ⟨rfl, rfl⟩

/-- A word of a cell's header (R409). -/
theorem bodyCellHeaderRead_word (h1 : c.u 8 4 < 4194304) (h2 : c.u 8 4 < 65536 + t.pool.extCells) :
    ∃ w, bodyCellHeaderRead c t = .ok (leBytes 4 (w + b2n (oddOnes w 31) * 2 ^ 31)) [] { t with fresh := t.fresh + 1 } := by
  unfold bodyCellHeaderRead
  dsimp only
  rw [chk_of (decide_eq_true h1), chk_of (decide_eq_true h2)]
  exact ⟨_, rfl⟩

end

/-- Settles O57. -/
theorem bootInfoAndWarmResetCommands : Obligations.BootInfoAndWarmResetCommands := by
  unfold Obligations.BootInfoAndWarmResetCommands
  intro d s t c
  refine ⟨fun h => cmdRow_ok bodyBootInfo h rfl, fun h => cmdRow_ok bodyWarmReset h rfl, fun h => cmdRow_ok bodyTempRead h rfl,
    fun h h0 hm ho hf hl => ?log, fun h h1 h2 => ?cell, fun h hreq hlen ho htwin => ?request, fun x n h hans hlen ho htwin hch hin hoem hven => ?answer⟩
  case log =>
    obtain ⟨first, next, hbody, hnil⟩ := bodyLogRead_oldest (c := c) (t := t) h0 hm ho hf hl
    exact ⟨first, next, cmdRow_ok bodyLogRead h hbody, hnil⟩
  case cell =>
    obtain ⟨w, hbody⟩ := bodyCellHeaderRead_word (c := c) (t := t) h1 h2
    exact ⟨w, cmdRow_ok bodyCellHeaderRead h hbody⟩
  case request =>
    intro x
    refine cmdRow_ok bodyDebugUnlock h (?_ : bodyDebugUnlock c t = _)
    have hform : (decide (c.u 8 1 ≤ 1) && c.len == (if c.u 8 1 = 1 then 64 else 0)) = true := by
      rw [hreq, show c.len = 0 from hlen]
      rfl
    rw [bodyDebugUnlock]
    dsimp only
    rw [chk_of hform, chk_of ho, htwin, if_pos hreq]
    rfl
  case answer =>
    have hform : (decide (c.u 8 1 ≤ 1) && c.len == (if c.u 8 1 = 1 then 64 else 0)) = true := by
      rw [hans, show c.len = 64 from hlen]
      rfl
    have hbody : bodyDebugUnlock c t = chk (decide (t.lt ≤ n + 60000000000) && (if Config.sigOk 1 x (c.bulk.take 64) = true then 1 else 0) != 0) stDenied
        (okS (logAdd (t.setCtl { t.ctl with debug := if Config.sigOk 1 x (c.bulk.take 64) = true then 1 else 0, challenge := none }) 5
          (leBytes 1 (if Config.sigOk 1 x (c.bulk.take 64) = true then 1 else 0)))) := by
      rw [bodyDebugUnlock]
      dsimp only
      rw [chk_of hform, chk_of ho, htwin, if_neg (by omega), hch]
      dsimp only
      rw [hoem, hven]
      rfl
    cases hsig : Config.sigOk 1 x (c.bulk.take 64) with
    | true =>
      rw [hsig] at hbody
      refine cmdRow_ok bodyDebugUnlock h (hbody.trans ?_)
      rw [decide_eq_true hin]
      rfl
    | false =>
      rw [hsig] at hbody
      refine cmdRow_fail bodyDebugUnlock h (hbody.trans ?_)
      rw [decide_eq_true hin]
      rfl

end Sys2Proof.Machine

/-!
SUPPORT and O58 (R97, R410). Counters read and cleared.
-/
namespace Sys2Proof.Machine

section
variable {s : State} {c : Cmd} {cls i : Nat} {l : List (CtrId × Nat)} {f : State → State}

/-- The counters of a scope fit the buffer that the command names (R410). -/
theorem readCtrs_of (hl : 8 * l.length ≤ c.len) : readCtrs c s (l.map (fun e => s.ctr e.1 e.2)) f =
    .ok (leBytes 2 l.length) (l.flatMap (fun e => leBytes 8 (s.ctr e.1 e.2))) (if c.u 10 1 = 1 then f s else s) := by
  unfold readCtrs
  rw [List.length_map, List.flatMap_map, chk_of (decide_eq_true hl)]

/-- COUNTERS_READ of a resource that keeps its counters in its own table (R97). -/
theorem countersRead_resource (hscope : c.u 8 1 = 0) (hclear : c.u 10 1 ≤ 1) (hlen : c.len % 8 = 0)
    (hres : localRes s c.p (c.u 12 4) = some (cls, i)) (hcls : cls ≠ 6) (ho : c.owned = true) :
    bodyCountersRead c s =
      let go := readCtrs c s ((resCtrs s cls i).map (fun e => s.ctr e.1 e.2)) (fun t => forEach (resCtrs s cls i) t (fun e t => t.clearCtr e.1 e.2))
      if c.u 10 1 == 1 then ownRes s c cls i go else readRes s c cls i go := by
  have hform : (decide (c.u 8 1 ≤ 4) && decide (c.u 10 1 ≤ 1) && c.len % 8 == 0) = true := by
    rw [hscope, decide_eq_true hclear, hlen]
    rfl
  unfold bodyCountersRead
  dsimp only
  rw [chk_of hform, if_pos hscope, hres]
  dsimp only
  rw [chk_of ho, if_neg hcls]

end

/-- Settles O58. -/
theorem counterReads : Obligations.CounterReads := by
  unfold Obligations.CounterReads
  intro d s t c
  refine ⟨fun cls i l h hscope hclear hlen hres hcls ho hr hl hfit => ?_, fun cls i l h hscope hclear hlen hres hcls ho hown hfw hl hfit => ?_,
    fun h hscope hclear hlen ho hp hfit => ?_⟩
  · subst hl
    refine cmdRow_ok bodyCountersRead h ((countersRead_resource hscope (by omega) hlen hres hcls ho).trans ?_)
    dsimp only
    rw [if_neg (by rw [show c.u 10 1 = 0 from hclear]; decide), show ∀ k, readRes t c cls i k = k from fun k => chk_of hr, readCtrs_of hfit, if_neg (by omega)]
  · subst hl
    refine cmdRow_ok bodyCountersRead h ((countersRead_resource hscope (by omega) hlen hres hcls ho).trans ?_)
    dsimp only
    rw [if_pos (by rw [show c.u 10 1 = 1 from hclear]; decide), ownRes_of_owns hown hfw, readCtrs_of hfit, if_pos hclear]
  · refine cmdRow_ok bodyCountersRead h (?_ : bodyCountersRead c t = _)
    have hform : (decide (c.u 8 1 ≤ 4) && decide (c.u 10 1 ≤ 1) && c.len % 8 == 0) = true := by
      rw [hscope, hclear, show c.len % 8 = 0 from hlen]
      rfl
    unfold bodyCountersRead
    dsimp only
    rw [chk_of hform, if_neg (by omega), if_neg (by omega), chk_of ho, if_neg (by omega), if_neg (by omega),
      chk_of (beq_iff_eq.mpr (show c.p = 0 from hp)), readCtrs_of hfit, if_neg (by omega)]

end Sys2Proof.Machine

/-!
SUPPORT and O59 (R479 to R501, R532). Resets and how the hub comes up.
-/
namespace Sys2Proof.Machine

section
variable {s t : State} {f : Flt}

/-! A last gasp and the handling of a fault leave the start-up state alone. -/

theorem boot_of_kept (h : t.kept = s.kept) : t.boot = s.boot := congrArg (fun k : Kept => k.rest.boot) h

theorem boot_forEach {α : Type} {l : List α} {g : α → State → State} (h : ∀ e s, (g e s).boot = s.boot) : (forEach l s g).boot = s.boot := by
  induction l generalizing s with
  | nil => rfl
  | cons e l ih => exact ih.trans (h e s)

theorem boot_sendBuilt {h : GrtHdr} {d : List Byte} : (sendBuilt s h d).boot = s.boot :=
  (boot_forEach fun _ _ => boot_of_kept (kept_pushCopy _)).trans rfl

theorem boot_takeData {g node part tally n : Nat} {data : List Byte} {cells : List Nat} :
    (takeData s g node part tally n data cells).boot = s.boot := by
  unfold takeData
  dsimp only
  split
  · split <;> rfl
  · split
    · split <;> rfl
    · split
      · exact (boot_of_kept (kept_raise ..)).trans rfl
      · rfl

theorem boot_onData {g node part tally n : Nat} {data : List Byte} : (onData s g node part tally n data).boot = s.boot := by
  unfold onData
  split
  case _ l u h => exact boot_takeData.trans (boot_of_kept (kept_of_stageCells h))
  case _ => rfl

theorem boot_offer {g part n : Nat} {k : State → State} (h : (k s).boot = s.boot) : (offer s g part n k).boot = s.boot := by
  unfold offer
  split
  · rfl
  · exact h

theorem boot_restTwin {j : Nat} : (restTwin s j).boot = s.boot := by
  unfold restTwin
  dsimp only
  split <;> rfl

theorem boot_lastGasp : (lastGasp s).boot = s.boot := by
  have hrest (u : State) : (forEach (List.range 16) u (fun t s => restTwin s t)).boot = u.boot := boot_forEach fun _ _ => boot_restTwin
  have hresign (u : State) (n : Nat) : (forEach (List.range 16) u
      (fun p s => resignLocal s p n (((s.gaspPairs p).filter (fun e => s.isLocal e.1)).map Prod.snd))).boot = u.boot :=
    boot_forEach fun _ _ => boot_forEach fun _ _ => boot_offer boot_onData
  have hsend (u : State) (n : Nat) (l : List Gasp) : (forEach l u
      (fun a s => sendBuilt s (resignHdr s a.part a.node n a.groups).1 (resignHdr s a.part a.node n a.groups).2)).boot = u.boot :=
    boot_forEach fun _ _ => boot_sendBuilt
  unfold lastGasp
  dsimp only
  rw [hrest, hresign]
  exact hsend ..

theorem boot_faultReg {p : Nat} : (faultReg s p f).boot = s.boot := rfl

theorem boot_faultRegs : (faultRegs s f).boot = s.boot := by
  unfold faultRegs
  split
  · rfl
  · exact boot_forEach fun _ _ => boot_faultReg

theorem boot_faultRecord {p : Nat} : (faultRecord s p f).boot = s.boot := boot_of_kept (kept_raise ..)

/-- What start-up has applied: whether the configuration stands, and from which slot (R490). -/
def State.applied (s : State) : Bool × Nat := (s.boot.configured, s.boot.cfgSlot)

theorem applied_of_boot (h : t.boot = s.boot) : t.applied = s.applied := by rw [State.applied, State.applied, h]

theorem applied_goFatal : (goFatal s f).applied = s.applied := by
  have h := applied_of_boot (boot_lastGasp (s := s))
  unfold goFatal
  generalize lastGasp s = u at h ⊢
  exact h

theorem applied_queueFault : (queueFault s f).applied = s.applied := by
  unfold queueFault
  dsimp only
  split
  · exact applied_of_boot (boot_faultRegs.trans rfl)
  · split
    · exact applied_of_boot (boot_faultRegs.trans rfl)
    · exact applied_goFatal.trans (applied_of_boot boot_faultRegs)

theorem boot_openBranches {l : List Nat} : (forEach l s (fun b s => openBranch s b)).boot = s.boot := boot_forEach fun _ _ => rfl

theorem applied_enterSafeHalt : (enterSafeHalt s).applied = s.applied := by
  have h : (forEach (List.range 256) (allBranchesOff s)
      (fun p s => if (s.pin p).out then s.setPin p { s.pin p with out := false, timed := none } else s)).applied = s.applied := by
    refine applied_of_boot ((boot_forEach fun _ _ => ?_).trans boot_openBranches)
    split <;> rfl
  unfold enterSafeHalt
  dsimp only
  generalize forEach (List.range 256) (allBranchesOff s) _ = u at h ⊢
  exact h

/-- A rail fault takes no local action (R375). -/
theorem applied_beginRail (hc : f.code = 0x0D) : (beginFault s f).applied = s.applied := by
  have hlocal (t : State) : localAction t f = t := (if_neg (by omega)).trans (if_neg (by omega))
  unfold beginFault
  split
  · exact applied_of_boot boot_faultRecord
  · split
    · have h : (forEach f.parts (localAction s f) (fun p s => faultRecord s p f)).boot = s.boot := by
        rw [hlocal]
        exact boot_forEach fun _ _ => boot_faultRecord
      exact applied_of_boot h
    · have h := applied_of_boot (boot_lastGasp (s := s))
      generalize lastGasp s = u at h ⊢
      dsimp only
      rw [hlocal]
      exact (applied_of_boot (boot_forEach fun _ _ => boot_faultRecord)).trans h

theorem applied_detectRail (hc : f.code = 0x0D) : (detect s f).applied = s.applied := by
  have hreg {t : State} {p : Nat} : (faultReg t p f).applied = t.applied := rfl
  have hregs {t : State} {g : Flt} : (faultRegs t g).applied = t.applied := applied_of_boot boot_faultRegs
  have hgasp {t : State} : ((lastGasp t).setFaults { (lastGasp t).faults with faultN := false }).applied = t.applied := by
    have h := applied_of_boot (boot_lastGasp (s := t))
    generalize lastGasp t = u at h ⊢
    exact h
  have hbegin {t : State} : (beginFault (faultRegs t f) f).applied = t.applied := (applied_beginRail hc).trans hregs
  have hfatal {t : State} {g : Flt} : (goFatal (faultRegs t g) g).applied = t.applied := applied_goFatal.trans hregs
  have hcount : (s.count cFaults f.code).applied = s.applied := rfl
  rw [← hcount]
  unfold detect
  dsimp only
  generalize s.count cFaults f.code = u
  split
  · rfl
  split
  · split
    · split
      · rfl
      · exact hreg
    · split
      · exact applied_enterSafeHalt.trans hreg
      · exact hreg
  split
  · split
    · split
      · exact hreg
      · exact hfatal
    · exact hfatal
  split
  · split
    · refine applied_queueFault.trans ?_
      split
      · exact hgasp
      · rfl
    · exact hbegin
  split
  · split
    · rfl
    · exact hreg
  split
  · exact applied_queueFault
  split
  · exact hfatal
  split
  · exact applied_queueFault.trans hgasp
  · exact hbegin

theorem applied_detectCode {r : Nat} : (detectCode s 0x0D r).applied = s.applied := by
  rw [detectCode_of (show faultLevel s 0x0D r = some 2 from rfl)]
  exact applied_detectRail rfl

theorem applied_forEach {α : Type} {l : List α} {g : α → State → State} (h : ∀ e s, (g e s).applied = s.applied) :
    (forEach l s g).applied = s.applied := by
  induction l generalizing s with
  | nil => rfl
  | cons e l ih => exact ih.trans (h e s)

theorem boot_raiseIf {b : Bool} {src cause data : Nat} : (raiseIf s b src cause data).boot = s.boot := boot_of_kept (kept_raiseIf ..)

theorem boot_reportHold : (reportHold s).boot = s.boot := by
  unfold reportHold
  split
  · exact (boot_forEach fun _ _ => boot_of_kept (kept_raise ..)).trans rfl
  · rfl

theorem applied_configReports {short : Bool} : (configReports s short).applied = s.applied := by
  unfold configReports
  dsimp only
  refine (applied_forEach fun _ _ => applied_detectCode).trans (applied_of_boot (?_ : State.boot _ = s.boot))
  refine boot_raiseIf.trans (boot_raiseIf.trans ((boot_forEach fun _ _ => boot_raiseIf).trans ?_))
  split
  · exact (boot_forEach fun _ _ => boot_faultRecord).trans boot_reportHold
  · exact boot_reportHold

/-! Configuration at start-up (R490, R491). -/

/-- Without a flash no configuration slot is valid. -/
theorem configSlot_noFlash {k : Nat} (h : s.boot.flashOk = false) : configSlot s k = (none, s) := if_pos (by rw [h]; rfl)

/-- Without a flash CONFIG_APPLY takes the queues, opens partition 0 and applies nothing (R491). -/
theorem configApply_noFlash (hr : s.boot.running = true) (hc : s.boot.configured = false) (hf : s.boot.flashOk = false) :
    ∃ t, exec .configApply s = .next t ∧ t.applied = (true, s.boot.cfgSlot) := by
  have hq : (takeQueues (s.setPart 0 { s.part 0 with st := 1 })).boot = s.boot := boot_forEach fun _ _ => rfl
  have hunits (u : State) : (if u.cycle.running then u
      else forEach [60, 61, 62, 63] u (fun k t => if (t.trig k).held then returnUnit t k else t)).boot = u.boot := by
    split
    · rfl
    · refine boot_forEach fun k t => ?_
      split <;> rfl
  have hunit (u : State) : (if u.power.slotsEn || !(u.trig 59).held then u else returnUnit u 59).boot = u.boot := by
    split <;> rfl
  refine ⟨_, if_neg (by rw [hr, hc]; decide), ?_⟩
  dsimp only
  generalize takeQueues (s.setPart 0 { s.part 0 with st := 1 }) = q at hq ⊢
  have hslot (k : Nat) : configSlot q k = (none, q) := configSlot_noFlash (by rw [hq]; exact hf)
  simp only [hslot]
  refine applied_configReports.trans ((applied_of_boot ((hunit _).trans (hunits _))).trans ?_)
  have hslots : (true, q.boot.cfgSlot) = (true, s.boot.cfgSlot) := by rw [hq]
  exact hslots

/-! Rescue station mode (R499 to R501). -/

theorem logAdd_boot {kind : Nat} {d : List Byte} : ∃ l n, logAdd s kind d = s.setBoot { s.boot with log := l, logSeq := n } := by
  unfold logAdd
  dsimp only
  split
  · exact ⟨s.boot.log, s.boot.logSeq, rfl⟩
  · exact ⟨_, _, rfl⟩

theorem boot_allBranchesOff : (allBranchesOff s).boot = s.boot := by
  unfold allBranchesOff
  exact boot_openBranches

theorem ring_allBranchesOff : (allBranchesOff s).ring = s.ring := by
  unfold allBranchesOff
  exact forEach_proj (g := State.ring) (f := fun b s => openBranch s b) (fun _ _ => rfl) ..

/-- Rescue station mode once pins and branches stand (R499). -/
def rescueOf (s : State) : State :=
  let s := s.setPart 0 { s.part 0 with st := 1 }
  let s := s.setBoot { s.boot with rescue := true }
  logAdd ((s.setCtl { s.ctl with wdRun := true, wdAt := s.lt }).setFaults { s.faults with resetting := false, restarts := 0, handling := [] }) 1
    (leBytes 1 0xFF ++ leBytes 1 s.boot.cause)

theorem rescueOf_leaves : (rescueOf s).boot.rescue = true ∧ (rescueOf s).boot.running = s.boot.running ∧ ((rescueOf s).part 0).st = 1 ∧
    (rescueOf s).ring = s.ring := by
  have hopen : ((s.setPart 0 { s.part 0 with st := 1 }).part 0).st = 1 := congrArg Partition.st (State.setPart_part_same ..)
  unfold rescueOf
  dsimp only
  obtain ⟨l, n, hlog⟩ := logAdd_boot (kind := 1) (d := leBytes 1 0xFF ++ leBytes 1 s.boot.cause) (s :=
    (((s.setPart 0 { s.part 0 with st := 1 }).setBoot { s.boot with rescue := true }).setCtl { s.ctl with wdRun := true, wdAt := s.lt }).setFaults
      { s.faults with resetting := false, restarts := 0, handling := [] })
  exact ⟨(congrArg (fun t => t.boot.rescue) hlog :), (congrArg (fun t => t.boot.running) hlog :), (congrArg (fun t => (t.part 0).st) hlog :).trans hopen,
    (congrArg State.ring hlog :)⟩

/-- Pins and branches as from power-on (R450, R483). -/
def restPins (s : State) : State :=
  forEach (List.range 256) (allBranchesOff s) (fun p s => restartInput (s.setPin p (warmPin s false p (s.pin p))) p true)

theorem restPins_boot : (restPins s).boot = s.boot := by
  have hall (u : State) (l : List Nat) : (forEach l u (fun p s => restartInput (s.setPin p (warmPin s false p (s.pin p))) p true)).boot = u.boot :=
    boot_forEach fun _ _ => rfl
  unfold restPins
  exact (hall ..).trans boot_allBranchesOff

theorem restPins_ring : (restPins s).ring = s.ring := by
  have hall (u : State) (l : List Nat) : (forEach l u (fun p s => restartInput (s.setPin p (warmPin s false p (s.pin p))) p true)).ring = u.ring :=
    forEach_proj (g := State.ring) (f := fun p s => restartInput (s.setPin p (warmPin s false p (s.pin p))) p true) (fun _ _ => rfl) ..
  unfold restPins
  exact (hall ..).trans ring_allBranchesOff

theorem enterRescue_eq : enterRescue s = rescueOf (restPins s) := by
  unfold enterRescue rescueOf restPins
  rfl

theorem enterRescue_leaves : (enterRescue s).boot.rescue = true ∧ (enterRescue s).boot.running = s.boot.running ∧
    ((enterRescue s).part 0).st = 1 ∧ (enterRescue s).ring = s.ring := by
  obtain ⟨hin, hrun, hopen, hring⟩ := rescueOf_leaves (s := restPins s)
  rw [enterRescue_eq]
  exact ⟨hin, hrun.trans (congrArg Boot.running restPins_boot), hopen, hring.trans restPins_ring⟩

/-- With RESCUE_N low or without a flash ROM enters rescue station mode (R499). -/
theorem romBoot_rescue (h : s.boot.rescueN = false ∨ s.boot.flashOk = false) : romBoot s = enterRescue s := by
  rcases h with h | h
  · exact if_pos (by rw [h]; rfl)
  · have hcur : s.boot.current = {} := by
      unfold Boot.current Boot.record
      rw [h]
      rfl
    have hbad (k : Nat) : s.slotGood k = false := by rw [State.slotGood, h, Bool.false_and]
    unfold romBoot
    dsimp only
    rw [hcur]
    simp only [hbad, Bool.false_eq_true, if_false, ite_self]

/-- A hub without a manager that comes up in rescue station mode reports to no one (R58, R499). -/
theorem boot_rescue (hr : s.boot.running = false) (hres : s.boot.rescue = false) (hsafe : s.faults.safeHalt = false) (hhot : s.hotHold = false)
    (hat : s.boot.resetAt = none) (hmgr : s.ring.mgrNode = 0) (h : s.boot.rescueN = false ∨ s.boot.flashOk = false) :
    ∃ v, v.boot = s.boot ∧ v.ring = s.ring ∧ exec (.boot []) s = .next (enterRescue v) := by
  let v := forEach [0, 1, 2] s (fun p s => s.setPair p { s.pair p with ok := !([] : List Nat).contains p, closed := ([] : List Nat).contains p })
  have hdue : dueReset s = s := by
    unfold dueReset
    rw [hat]
  have hidle : (s.boot.running || s.boot.rescue || s.faults.safeHalt || s.hotHold) = false := by rw [hr, hres, hsafe, hhot]; rfl
  have hrom : romBoot v = enterRescue v := romBoot_rescue h
  have hquiet : (enterRescue v).ring.mgrNode = 0 := (congrArg RingNode.mgrNode enterRescue_leaves.2.2.2).trans hmgr
  refine ⟨v, rfl, rfl, ?_⟩
  show execBoot [] s = _
  unfold execBoot
  dsimp only
  rw [hdue, if_neg (by rw [hidle]; exact Bool.false_ne_true)]
  refine (if_neg (by decide)).trans (congrArg Host.Outcome.next ?_)
  refine (congrArg (fun t : State => t.ifDo (t.ring.mgrNode != 0 && !t.ring.actingMgr) (fun s => sendReport s s.ring.mgrNode)) hrom).trans ?_
  exact if_neg (by rw [hquiet]; exact Bool.false_ne_true)

end

/-- Settles O59. -/
theorem resetsAndStartUp : Obligations.ResetsAndStartUp := by
  unfold Obligations.ResetsAndStartUp
  refine ⟨fun s cause i h => ?power, fun s ns h => ?short, fun s ns h1 h2 => ?between, fun s us h => congrArg Host.Outcome.next (if_pos h),
    fun s hr hres hsafe hhot hat hmgr h => ?boot, fun s ht hdue => congrArg Host.Outcome.next (if_pos ?trial), fun s hr hc hf => ?config⟩
  case power =>
    have hrun : exec i s = .next (powerOn s cause) := by
      rcases h with ⟨rfl, rfl⟩ | ⟨⟨ns, hns, rfl⟩, rfl⟩ | ⟨⟨us, hus, rfl⟩, rfl⟩
      · rfl
      · have hpulse : resetPulse ns = some true := if_pos hns
        show execResetN ns s = _
        unfold execResetN
        rw [hpulse]
      · exact congrArg Host.Outcome.next (if_neg (Nat.not_lt.mpr hus))
    exact ⟨_, hrun, rfl, rfl, rfl, rfl, rfl, rfl, rfl, rfl, rfl, rfl, rfl, rfl, rfl, rfl, rfl, rfl, rfl, rfl, rfl, rfl, rfl, rfl, rfl, rfl, rfl, rfl,
      rfl, rfl, rfl⟩
  case short =>
    have hpulse : resetPulse ns = some false := (if_neg (by omega)).trans (if_pos h)
    show execResetN ns s = _
    unfold execResetN
    rw [hpulse]
  case between =>
    intro u
    have hpulse : resetPulse ns = none := (if_neg (by omega)).trans (if_neg (by omega))
    have hrun : exec (.resetN ns) s = .next (if s.draw.1.getLsbD 0 then powerOn u 1 else u) := by
      show execResetN ns s = _
      unfold execResetN
      rw [hpulse]
      rfl
    rw [hrun]
    split
    · exact .inr rfl
    · exact .inl rfl
  case boot =>
    obtain ⟨v, hboot, _, hrun⟩ := boot_rescue hr hres hsafe hhot hat hmgr h
    obtain ⟨hin, hrunning, hopen, _⟩ := enterRescue_leaves (s := v)
    exact ⟨_, hrun, hin, hrunning.trans ((congrArg Boot.running hboot).trans hr), hopen⟩
  case trial => rw [ht, decide_eq_true hdue]; rfl
  case config =>
    obtain ⟨t, hrun, happ⟩ := configApply_noFlash hr hc hf
    obtain ⟨h1, h2⟩ := Prod.mk.inj happ
    exact ⟨t, hrun, h1, h2⟩

end Sys2Proof.Machine

/-!
SUPPORT and O60 (R14, R174, R376, R480). What a warm reset clears and keeps.
-/
namespace Sys2Proof.Machine

section
variable {s : State}

/-- The pins written. -/
def State.setPins (s : State) (pins : Tbl Pin) : State := { s with field := { s.field with pins := pins } }

/-- Restarting the input paths of pins touches the pins alone. -/
theorem restartInputs_field (l : List Nat) (s : State) :
    ∃ pins, forEach l s (fun p t => restartInput t p true) = s.setPins pins := by
  induction l generalizing s with
  | nil => exact ⟨s.field.pins, rfl⟩
  | cons p l ih =>
    obtain ⟨pins, h⟩ := ih (restartInput s p true)
    exact ⟨pins, h⟩

/-- The hub as a warm reset leaves it, but for the input paths of its pins (R480). -/
def warmBase (s : State) (cause : Nat) : State :=
  let keepPins := !s.boot.warmPin
  let ports := [0, 1, 2, 3, 4, 5].map (fun p => (p, warmPort s p))
  let f := s.faults
  let faults : Faults := { resetting := true, restarts := f.restarts, fatal := f.fatal, handling := if cause = 5 then f.fatal.toList else [] }
  let ctl : Ctl := { temps := s.ctl.temps, tempRaised := s.ctl.tempRaised, dieUp := s.ctl.dieUp,
                     islands := (List.range 11).map (fun i => decide (i < 9) || s.ctl.islands.getD i true)
                     held := s.ctl.held.filter (fun e => decide (9 ≤ e.2)) }
  let t : State := {
    ring := warmRing s, sw := { ports := ports }, pool := { fittedMiB := s.pool.fittedMiB }, time := s.time
    cycle := { needRearm := s.cycle.needRearm }
    field := { pins := s.field.pins.map (fun e => (e.1, warmPin s keepPins e.1 e.2)), banks := s.field.banks }
    bridge := { atts := s.bridge.atts.map (fun e => (e.1, warmAtt e.1 e.2)) }
    parts := s.parts.map (fun e => (e.1, warmPart e.2)), faults := faults
    boot := { s.boot.atReset cause ((s.boot.bootCount + 1) % 256) with window := 10, warmPin := false }
    ctl := ctl, power := s.power, assay := s.assay, island := { ddr := s.island.ddr }, out := s.out, fresh := s.fresh, pending := s.pending }
  t.count cHandshakeDiscard 0 (s.ctl.held.filter (fun e => decide (e.2 ≤ 8))).length

theorem warmClear_eq (cause : Nat) : ∃ pins, warmClear s cause = (warmBase s cause).setPins pins :=
  restartInputs_field (List.range 256) (warmBase s cause)

theorem tblGetD_map_warm (l : Tbl Partition) (p : Nat) : tblGetD (l.map (fun e => (e.1, warmPart e.2))) p {} = warmPart (tblGetD l p {}) := by
  unfold tblGetD
  induction l with
  | nil => rfl
  | cons e l ih =>
    obtain ⟨k, x⟩ := e
    by_cases hk : k = p
    · simp [tblGet, hk]
    · simpa [tblGet, hk] using ih

end

/-- Settles O60. -/
theorem warmResetKeeps : Obligations.WarmResetKeeps := by
  unfold Obligations.WarmResetKeeps
  intro s cause
  obtain ⟨pins, ht⟩ := warmClear_eq (s := s) cause
  rw [ht]
  intro t
  have htab (id : CtrId) (k : Nat) : t.ctr id k = (warmBase s cause).ctr id k := rfl
  have hpart (p : Nat) : t.part p = warmPart (s.part p) := tblGetD_map_warm ..
  refine ⟨rfl, rfl, rfl, rfl, rfl, rfl, rfl, rfl, rfl, rfl, rfl, rfl, rfl, rfl, rfl, rfl, rfl, rfl, rfl, rfl, fun id k hne => ?other, ?handshake,
    rfl, rfl, rfl, rfl, fun p => ?parts⟩
  case other => exact (htab id k).trans (tblGetD_tblSet_ne _ _ _ hne)
  case handshake => exact (htab _ _).trans ((tblGetD_tblSet_same ..).trans (Nat.zero_add _))
  case parts =>
    rw [hpart]
    exact ⟨rfl, rfl, rfl, rfl, rfl⟩

end Sys2Proof.Machine

/-!
O1 and O2 (R35, R53, R76, R103, R221, R337, R368, R436, R446). What a step runs, and the state after reset.
-/
namespace Sys2Proof.Machine

/-- Settles O1, by the two branches of a step; no row of the table has bits. -/
theorem stepTakesFront : Obligations.StepTakesFront := by
  unfold Obligations.StepTakesFront
  refine ⟨fun c rest s => rfl, fun s h => ?_, fun nbits w s => ⟨rfl, rfl⟩⟩
  rw [step, h]

/-- Settles O2: at reset every table is empty, so each read gives its reset value. -/
theorem resetState : Obligations.ResetState := by
  unfold Obligations.ResetState
  have hrecords : RecordsWf State.reset := by decide
  have hmemories : MemoriesWf State.reset := ⟨rfl, rfl⟩
  exact ⟨rfl, rfl, rfl, hmemories, hrecords, fun _ _ => rfl, fun _ => ⟨rfl, rfl, rfl⟩, fun _ => rfl, fun _ => ⟨rfl, rfl⟩, rfl, rfl, rfl,
    fun _ => ⟨rfl, rfl, rfl, rfl⟩, fun _ _ => rfl, rfl, rfl, rfl⟩

end Sys2Proof.Machine

/-!
SUPPORT for O23. The switch, the tub queues, the field pins, the hewers and the crusher leave the time island as it is: what a step of
the working clock sets going there moves no clock, domain or PPS state.
-/
namespace Sys2Proof.Machine

section
variable {s t : State}

@[simp] theorem time_ite {c : Prop} [Decidable c] : (if c then s else t).time = if c then s.time else t.time := apply_ite State.time c s t

@[simp] theorem time_fst_ite {α : Type} {c : Prop} [Decidable c] {a b : State × α} :
    (if c then a else b).1.time = if c then a.1.time else b.1.time := apply_ite (fun a => a.1.time) c a b

@[simp] theorem time_snd_ite {α : Type} {c : Prop} [Decidable c] {a b : α × State} :
    (if c then a else b).2.time = if c then a.2.time else b.2.time := apply_ite (fun a => a.2.time) c a b

theorem time_of_fst {α : Type} {p : State × α} {a : α} {v : Time} (h : p = (t, a)) (e : p.1.time = v) : t.time = v := by
  rw [← e, h]

theorem time_of_snd {α : Type} {p : α × State} {a : α} {v : Time} (h : p = (a, t)) (e : p.2.time = v) : t.time = v := by
  rw [← e, h]

/-- A loop leaves the time island where each of its rounds does. -/
@[simp] theorem time_forEach {α : Type} {l : List α} {f : α → State → State} (h : ∀ a (s : State), (f a s).time = s.time) :
    (forEach l s f).time = s.time := by
  rw [forEach]
  induction l generalizing s with
  | nil => rfl
  | cons a l ih => rw [List.foldl_cons, ih, h]

/-- So does one that carries a value along with the state. -/
theorem time_foldl_fst {α β : Type} {l : List α} {x : State × β} {f : State × β → α → State × β}
    (h : ∀ x a, (f x a).1.time = x.1.time) : (l.foldl f x).1.time = x.1.time := by
  induction l generalizing x with
  | nil => rfl
  | cons a l ih => rw [List.foldl_cons, ih, h]

theorem time_foldl_snd {α β : Type} {l : List α} {x : β × State} {f : β × State → α → β × State}
    (h : ∀ x a, (f x a).2.time = x.2.time) : (l.foldl f x).2.time = x.2.time := by
  induction l generalizing x with
  | nil => rfl
  | cons a l ih => rw [List.foldl_cons, ih, h]

end

/-! The pool and the queues. -/

section
variable {s t : State}

@[simp] theorem time_freeAll (l : List Nat) : (freeAll s l).time = s.time := time_of_kept (kept_freeAll l)
@[simp] theorem time_freePacket (k : Packet) : (freePacket s k).time = s.time := time_of_kept (kept_freePacket k)
@[simp] theorem time_countRefused (q : Nat) (w : Refused) : (countRefused s q w).time = s.time := time_of_kept (kept_countRefused q w)
@[simp] theorem time_flushIfPending (q : Nat) : (flushIfPending s q).time = s.time := time_of_kept (kept_flushIfPending q)
@[simp] theorem time_commitPacket (q : Nat) (k : Packet) (l : Option Nat) : (commitPacket s q k l).time = s.time :=
  time_of_kept (kept_commitPacket q k l)
@[simp] theorem time_putPacket (q : Nat) (d : List Byte) (cls : Nat) (ev : Bool) : (putPacket s q d cls ev).1.time = s.time :=
  time_of_kept kept_putPacket
@[simp] theorem time_grantCopy (i o c n : Nat) (l : List Nat) : (grantCopy s i o c n l).1.time = s.time := time_of_kept kept_grantCopy
@[simp] theorem time_countCopyRefused (i o c : Nat) (w : Refused) : (countCopyRefused s i o c w).time = s.time :=
  time_of_kept (kept_countCopyRefused ..)
@[simp] theorem time_nextSeq (mac : Nat) : (nextSeq s mac).2.time = s.time := rfl
@[simp] theorem time_readCells (q : Nat) (l : List Nat) : (readCells s q l).time = s.time := time_of_kept (kept_readCells q l)
@[simp] theorem time_wmEval (q : Nat) : (wmEval s q).time = s.time := time_of_kept (kept_wmEval q)
@[simp] theorem time_releaseHead (q : Nat) : (releaseHead s q).time = s.time := time_of_kept (kept_releaseHead q)
@[simp] theorem time_pushCopy (k : Copy) : (s.pushCopy k).time = s.time := rfl
@[simp] theorem time_freeCopy (k : Copy) : (freeCopy s k).time = s.time := time_freeAll _

@[simp] theorem time_abortArrival (s : State) (q i place : Nat) : (abortArrival s q i place).time = s.time := by
  unfold abortArrival
  split <;> simp

@[simp] theorem time_growArrival (s : State) (q i place cls n : Nat) : (growArrival s q i place cls n).1.time = s.time := by
  induction n generalizing s with
  | zero => rfl
  | succ n ih =>
    rw [growArrival]
    split
    · rfl
    · next hc => simp [ih, time_of_kept (kept_of_grantForQueue hc), State.chargeIng]

@[simp] theorem time_arriveInQueue (s : State) (q i place cls : Nat) (b : List Byte) : (arriveInQueue s q i place cls b).1.time = s.time := by
  unfold arriveInQueue
  split
  · simp
  · dsimp only
    split
    · next h => simp [time_of_fst h (time_growArrival ..)]
    · next h => simp [time_of_fst h (time_growArrival ..)]

@[simp] theorem time_commitArrival (s : State) (q i place : Nat) : (commitArrival s q i place).1.time = s.time := by
  unfold commitArrival
  split <;> simp

theorem time_of_inboundFull {k : Copy} (h : inboundFull s k = some t) : t.time = s.time := by
  unfold inboundFull at h
  split at h
  · cases h
  · dsimp only at h
    (repeat' split at h) <;> cases h <;> simp

@[simp] theorem time_keepInQueue (s : State) (k : Copy) : (keepInQueue s k).1.time = s.time := by
  unfold keepInQueue
  split
  · rfl
  · split
    · next h => simp [time_of_inboundFull h]
    · simp

end

/-! Selection and the start of a transmission (R91, R127). -/

@[simp] theorem time_dropHead (s : State) (p c : Nat) (ctr : CtrId) : (dropHead s p c ctr).time = s.time := by
  unfold dropHead
  split <;> simp

@[simp] theorem time_newHead (s : State) (p c n : Nat) : (newHead s p c n).time = s.time := by
  fun_induction newHead s p c n <;> simp [*]

@[simp] theorem time_dropStopped (s : State) (p : Nat) : (dropStopped s p).time = s.time := by simp [dropStopped]

@[simp] theorem time_selectWrr (s : State) (p n : Nat) : (selectWrr s p n).2.time = s.time := by
  fun_induction selectWrr s p n <;> simp [*]

@[simp] theorem time_selectClass (s : State) (p : Nat) : (selectClass s p).2.time = s.time := by
  simp only [selectClass]
  split <;> simp

@[simp] theorem time_protectTx (s : State) (p : Nat) (f : Frame) : (protectTx s p f).2.time = s.time := by
  simp only [protectTx]
  split <;> simp

@[simp] theorem time_startTx (s : State) (p c : Nat) : (startTx s p c).time = s.time := by
  unfold startTx
  split <;> simp

@[simp] theorem time_selectStart (s : State) (p n : Nat) : (selectStart s p n).time = s.time := by
  induction n generalizing s with
  | zero => rfl
  | succ n ih =>
    rw [selectStart]
    split
    · next h => exact time_of_snd h (time_selectClass ..)
    · next h =>
      have hc := time_of_snd h (time_selectClass ..)
      split
      · exact hc
      · simp [ih, hc]

@[simp] theorem time_trySelect (s : State) (p : Nat) : (trySelect s p).time = s.time := by simp [trySelect]

@[simp] theorem time_gateStep (s : State) (p : Nat) : (gateStep s p).time = s.time := by simp [gateStep]

@[simp] theorem time_portStep (s : State) (p : Nat) : (portStep s p).time = s.time := by
  unfold portStep
  dsimp only
  rw [time_gateStep, time_forEach fun c s => ?late, State.setPort_time]
  split
  · simp
  · rfl

/-! Copies of a frame (R82 to R86). -/

@[simp] theorem time_stompCopy (s : State) (i o : Nat) (n : Option Nat) (b : Bool) : (stompCopy s i o n b).time = s.time := by
  unfold stompCopy
  split <;> simp

@[simp] theorem time_killCopy (s : State) (n : Option Nat) (b : Bool) (k : Copy) : (killCopy s n b k).time = s.time := by simp [killCopy]

@[simp] theorem time_growCopy (s : State) (k : Copy) (b : Nat) : (growCopy s k b).2.time = s.time := by
  unfold growCopy
  split
  · split
    · rfl
    · dsimp only
      split <;> simp
  · split
    · next h => simp [time_of_fst h (time_grantCopy ..)]
    · next h => simp [time_of_fst h (time_grantCopy ..)]

@[simp] theorem time_arriveCopy (i n : Nat) (x : RxFrame × State) (k : Copy) : (arriveCopy i n x k).2.time = x.2.time := by
  simp [arriveCopy]

@[simp] theorem time_arriveTo (s : State) (i n : Nat) : (arriveTo s i n).time = s.time := by
  unfold arriveTo
  split
  · rfl
  · simp [time_foldl_snd]

@[simp] theorem time_copyToPort (s : State) (i o : Nat) (f : Frame) (r : RxFrame) (l : Option Nat) (b : Bool) :
    (copyToPort s i o f r l b).2.time = s.time := by
  rw [copyToPort]
  split
  · simp
  · dsimp only
    split
    · next h => simp [time_of_fst h (time_grantCopy ..)]
    · next h => simp [time_of_fst h (time_grantCopy ..)]

@[simp] theorem time_copyToQueue (s : State) (i q : Nat) (f : Frame) (r : RxFrame) : (copyToQueue s i q f r).2.time = s.time := by
  simp [copyToQueue]

@[simp] theorem time_makeCopies (s : State) (i : Nat) (f : Frame) (rt : Route) (fwd : Option Nat) (r : RxFrame) (l : Option Nat) (b : Bool) :
    (makeCopies s i f rt fwd r l b).2.time = s.time := by
  simp only [makeCopies]
  rw [time_foldl_snd fun x q => by simp, time_foldl_snd fun x o => by simp]
  cases fwd <;> simp

@[simp] theorem time_joinClass (s : State) (k : Copy) : (joinClass s k).time = s.time := by simp [joinClass]

@[simp] theorem time_keepCopy (s : State) (f : Frame) (len : Nat) (k : Copy) : (keepCopy s f len k).1.time = s.time := by
  simp only [keepCopy]
  repeat' split
  all_goals simp

@[simp] theorem time_keepAll (s : State) (f : Frame) (len : Nat) (l : List Copy) : (keepAll s f len l).1.time = s.time :=
  time_foldl_fst fun x k => by simp

/-! The head and the end of a frame (R66 to R86, R94). -/

@[simp] theorem time_ddPut (s : State) (e : DdEntry) : (ddPut s e).time = s.time := rfl

@[simp] theorem time_ddRoom (s : State) : (ddRoom s).time = s.time := by
  simp only [ddRoom]
  repeat' split
  all_goals simp

@[simp] theorem time_ddArrive (s : State) (mac sn : Nat) : (ddArrive s mac sn).2.time = s.time := by
  unfold ddArrive
  split <;> simp

@[simp] theorem time_hsrArrive (s : State) (i : Nat) (f : Frame) : (hsrArrive s i f).2.time = s.time := by
  unfold hsrArrive
  split
  · simp
  · split
    · simp
    · split
      · next h => simp [time_of_snd h (time_ddArrive ..)]
      · next h => simp [time_of_snd h (time_ddArrive ..)]

@[simp] theorem time_police (s : State) (i len e : Nat) : (police s i len e).2.time = s.time := by simp [police]

@[simp] theorem time_headRing (s : State) (i : Nat) (f : Frame) (r : RxFrame) : (headRing s i f r).2.time = s.time := by simp [headRing]

@[simp] theorem time_headInternal (s : State) (f : Frame) (e : Option Nat) (r : RxFrame) (l : Option Nat) (b : Bool) :
    (headInternal s f e r l b).2.time = s.time := by
  have hp : (match r.stream with | some e => police s 14 f.len e | none => (none, s)).2.time = s.time := by
    cases r.stream <;> simp
  unfold headInternal
  split
  · next h => simp [time_of_snd h hp]
  · next h => simp [time_of_snd h hp]

@[simp] theorem time_learnProxy (s : State) (mac : Nat) : (learnProxy s mac).2.time = s.time := by simp [learnProxy]

@[simp] theorem time_headLocal (s : State) (i : Nat) (f : Frame) (r : RxFrame) : (headLocal s i f r).2.time = s.time := by simp [headLocal]

@[simp] theorem time_headCore (s : State) (i : Nat) (f : Frame) (since : Nat) (e l : Option Nat) (b : Bool) :
    (headCore s i f since e l b).time = s.time := by
  simp only [headCore]
  repeat' split
  all_goals simp

@[simp] theorem time_setDelivered (s : State) (mac sn : Nat) : (setDelivered s mac sn).time = s.time := by
  unfold setDelivered
  split <;> simp

@[simp] theorem time_endGood (s : State) (i : Nat) (r : RxFrame) (len : Nat) : (endGood s i r len).time = s.time := by
  unfold endGood
  split <;> simp

@[simp] theorem time_macsecTake (s : State) (i : Nat) (f : Frame) : (macsecTake s i f).time = s.time := by
  simp only [macsecTake]
  repeat' split
  all_goals simp

@[simp] theorem time_learn (s : State) (i mac vlan : Nat) : (learn s i mac vlan).time = s.time := by
  simp only [learn]
  repeat' split
  all_goals simp [fdbPut]

@[simp] theorem time_endWhole (s : State) (i : Nat) (r : RxFrame) (len : Nat) : (endWhole s i r len).2.time = s.time := by
  simp only [endWhole, learnFrom]
  repeat' split
  all_goals simp

@[simp] theorem time_canarySample (s : State) (r cls since : Nat) (bad stomped cut : Bool) (f : Frame) (fcs : List Byte) :
    (canarySample s r cls since bad stomped cut f fcs).time = s.time := by
  simp only [canarySample]
  split
  · simp
  · split
    · next h => simp [time_of_fst h (time_putPacket ..)]
    · next h => simp [time_of_fst h (time_putPacket ..)]

@[simp] theorem time_canaryTap (s : State) (dir port cls since : Nat) (bad stomped cut : Bool) (f : Frame) (fcs : List Byte) :
    (canaryTap s dir port cls since bad stomped cut f fcs).time = s.time := by simp [canaryTap]

@[simp] theorem time_endCore (s : State) (i bad len : Nat) : (endCore s i bad len).time = s.time := by
  simp only [endCore, rxFcs, State.draw]
  split <;> simp

@[simp] theorem time_forwardAll (s : State) (q n : Nat) : (forwardAll s q n).time = s.time := by
  have hhead (s : State) : (forwardHead s q).time = s.time := by
    simp only [forwardHead]
    split <;> simp
  fun_induction forwardAll s q n <;> simp [*]

/-! Pins, hewers and the crusher (R260, R273, R282). -/

@[simp] theorem time_drivePin (s : State) (kind p : Nat) (lvl dir : Bool) : (drivePin s kind p lvl dir).time = s.time := by
  have hput (s : State) : (putLevel s p lvl dir).time = s.time := by
    simp only [putLevel, showPad]
    split <;> simp
  unfold drivePin
  split <;> simp [hput]

@[simp] theorem time_actTimed (s : State) (p : Nat) (late : Bool) : (actTimed s p late).time = s.time := by
  unfold actTimed
  split <;> simp

@[simp] theorem time_timedStep (s : State) : (timedStep s).time = s.time := by
  refine time_forEach fun e s => ?_
  split <;> simp

@[simp] theorem time_hewersSee (s : State) (t : Nat) : (hewersSee s t).time = s.time := by simp [hewersSee]

@[simp] theorem time_periodStep (s : State) : (periodStep s).time = s.time := time_forEach fun _ _ => rfl

@[simp] theorem time_resample (s : State) : (resample s).time = s.time := rfl

end Sys2Proof.Machine

/-!
SUPPORT and O23 (R153 to R157, R171 to R173). A grandmaster's Syncs, peer delay exchanges, and the PPS wires.
-/
namespace Sys2Proof.Machine

/-! What PPS_IN alone moves (R172): neither an election nor a step of the working clock does. -/

/-- The last accepted edge and PPS_IN_OK. -/
def Time.ppsIn (t : Time) : Option Nat × Bool := (t.ppsLast, t.ppsOk)

section
variable {s t : State}

@[simp] theorem Time.ppsIn_mk (t : Time) {lt work : Clock} {domA domB : Domain} {source follow lastFollow stepCount lossCount holdLimit slewMax ppsRun
    outClock outWidth ppsOutSec : Nat} {converging valid stepArmed autoQuality bEnable ppsFalling ppsOut : Bool} {syncLog : Int}
    {switchAt : Option (Nat × Nat)} {trigs : Tbl TrigUnit} {capts : Tbl CaptUnit} :
    (Time.mk lt work domA domB source follow lastFollow converging valid stepCount stepArmed syncLog lossCount holdLimit slewMax autoQuality
      bEnable switchAt ppsFalling t.ppsLast ppsRun t.ppsOk outClock outWidth ppsOut ppsOutSec trigs capts).ppsIn = t.ppsIn := rfl

@[simp] theorem Time.ppsIn_ite {c : Prop} [Decidable c] {x y : Time} : (if c then x else y).ppsIn = if c then x.ppsIn else y.ppsIn :=
  apply_ite Time.ppsIn c x y

@[simp] theorem ppsIn_forEach {α : Type} {l : List α} {f : α → State → State} (h : ∀ a (s : State), (f a s).time.ppsIn = s.time.ppsIn) :
    (forEach l s f).time.ppsIn = s.time.ppsIn := by
  rw [forEach]
  induction l generalizing s with
  | nil => rfl
  | cons a l ih => rw [List.foldl_cons, ih, h]

end

@[simp] theorem ppsIn_setDom (s : State) (d : Nat) (x : Domain) : (s.setDom d x).time.ppsIn = s.time.ppsIn := by
  unfold State.setDom
  split <;> rfl

@[simp] theorem ppsIn_setTrig (s : State) (t : Nat) (x : TrigUnit) : (s.setTrig t x).time.ppsIn = s.time.ppsIn := rfl

@[simp] theorem ppsIn_markSecond (s : State) : (markSecond s).time.ppsIn = s.time.ppsIn := rfl

@[simp] theorem ppsIn_fireUnit (s : State) (t : Nat) (late : Bool) : (fireUnit s t late).time.ppsIn = s.time.ppsIn := by simp [fireUnit]

@[simp] theorem ppsIn_trigStep (s : State) : (trigStep s).time.ppsIn = s.time.ppsIn := by simp [trigStep]

@[simp] theorem ppsIn_armCycle (s : State) (n : Nat) : (armCycle s n).time.ppsIn = s.time.ppsIn := ppsIn_forEach fun _ _ => rfl

@[simp] theorem ppsIn_cyclesStep (s : State) (b : Bool) : (cyclesStep s b).time.ppsIn = s.time.ppsIn := by
  simp only [cyclesStep, time_ite, Time.ppsIn_ite, ppsIn_armCycle, time_raise, State.count_time]
  rw [ppsIn_forEach]
  · simp only [ite_self]
  · exact fun _ _ => rfl

@[simp] theorem ppsIn_stepWork (s : State) (d : Nat) : (stepWork s d).time.ppsIn = s.time.ppsIn := by simp [stepWork]

@[simp] theorem ppsIn_followDom (s : State) (d : Nat) : (followDom s d).time.ppsIn = s.time.ppsIn := by simp [followDom]

@[simp] theorem ppsIn_leaveHoldover (s : State) : (leaveHoldover s).time.ppsIn = s.time.ppsIn := by simp [leaveHoldover]

@[simp] theorem ppsIn_loseFollowed (s : State) (d : Nat) : (loseFollowed s d).time.ppsIn = s.time.ppsIn := by simp [loseFollowed, holdover]

@[simp] theorem ppsIn_enterLocked (s : State) (d : Nat) : (enterLocked s d).time.ppsIn = s.time.ppsIn := by simp [enterLocked]

@[simp] theorem ppsIn_holdGm (s : State) (d : Nat) : (holdGm s d).time.ppsIn = s.time.ppsIn := by simp [holdGm]

@[simp] theorem ppsIn_gmIs (s : State) (d id : Nat) : (gmIs s d id).time.ppsIn = s.time.ppsIn := by simp [gmIs]

@[simp] theorem ppsIn_noMaster (s : State) (d : Nat) : (noMaster s d).time.ppsIn = s.time.ppsIn := by simp [noMaster]

@[simp] theorem ppsIn_elect (s : State) (d : Nat) : (elect s d).time.ppsIn = s.time.ppsIn := by
  simp only [elect]
  repeat' split
  all_goals simp

@[simp] theorem ppsIn_ppsMeasure (s : State) (d : Nat) (dt : Option Nat) : (ppsMeasure s d dt).time.ppsIn = s.time.ppsIn := by
  simp only [ppsMeasure]
  split <;> simp [stepDom]

section
variable {s : State} {d p : Nat}

/-! A grandmaster's Syncs (R157, R171). -/

theorem syncSend_idle (h : (s.dom d).isGm = false ∨ (s.dom d).st = 0 ∨ s.passThrough = true) : syncSend s d = s := by
  refine if_pos ?_
  rcases h with h | h | h <;> simp [h]

theorem syncSend_waits (h0 : (s.dom d).sentAt ≠ 0) (h : s.lt < (s.dom d).sentAt + logNs s.time.syncLog) : syncSend s d = s :=
  if_pos (by simp [h0, h])

theorem syncLog_setDom (s : State) (d : Nat) (x : Domain) : (s.setDom d x).time.syncLog = s.time.syncLog := by
  unfold State.setDom
  split <;> rfl

theorem time_lt_setDom (s : State) (d : Nat) (x : Domain) : (s.setDom d x).time.lt = s.time.lt := by
  unfold State.setDom
  split <;> rfl

/-- A domain's clock depends on its CLK and on what it serves. -/
theorem domClock_setDom {x : Domain} (hc : x.clk = (s.dom d).clk) (hg : x.isGm = (s.dom d).isGm) (hs : x.gmSource = (s.dom d).gmSource) :
    (s.setDom d x).domClock d = s.domClock d := by
  simp only [State.domClock, dom_setDom_same, (time_setDom s d x).1, time_lt_setDom, hc, hg, hs]

/-- What a domain notes when its grandmaster sends a Sync. -/
def syncNoted (s : State) (d : Nat) : Domain := { s.dom d with sentAt := s.lt, interval := logNs s.time.syncLog, offset := s.delta d }

theorem holdGm_of_locked (h : (s.dom d).st = 3) : holdGm s d = s := if_neg (by simp [h])

theorem announceOwn_waits {an : Nat} (ha : (s.dom d).annAt = some an) (hlt : s.lt < an + 1000000000) : announceOwn s d = s := by
  simp [announceOwn, ha, hlt]

/-- A Sync of a LOCKED domain that is due when no Announce is, and that the working clock does not follow (R171). -/
theorem syncSend_due {an : Nat} (hg : (s.dom d).isGm = true) (hst : (s.dom d).st = 3) (hp : s.passThrough = false) (h0 : (s.dom d).sentAt = 0)
    (ha : (s.dom d).annAt = some an) (hlt : s.lt < an + 1000000000) (hf : s.time.follow ≠ d) (hsrc : s.time.source ≠ 3) :
    syncSend s d = sendSync (s.setDom d (syncNoted s d)) d s.time.syncLog (s.domClock d).rate (fun p =>
      (((((s.domClock d).ns : Nat) : Int) + (txCorr s p : Nat) + (s.port p).txAdj).toNat, ((s.domClock d).t % nsUnit / 4294967296 : Nat))) := by
  have hdue : ¬(!(s.dom d).isGm || (s.dom d).st == 0 || s.passThrough ||
      ((s.dom d).sentAt != 0 && decide (s.lt < (s.dom d).sentAt + logNs s.time.syncLog))) = true := by simp [hg, hst, hp, h0]
  let y : Domain := { s.dom d with sentAt := s.lt, interval := logNs s.time.syncLog }
  have hhold : holdGm (s.setDom d y) d = s.setDom d y := holdGm_of_locked (by rw [dom_setDom_same]; exact hst)
  have hdelta : (s.setDom d y).delta d = s.delta d := by
    rw [State.delta, State.delta, domClock_setDom (by rfl) (by rfl) (by rfl), (time_setDom s d y).1]
  have hfollow : followSync (s.setDom d y) d = s.setDom d (syncNoted s d) := by
    rw [followSync_unfollowed (by rw [(time_setDom s d y).2.1]; exact hf) (by rw [(time_setDom s d y).2.2]; exact hsrc), setDom_setDom,
      dom_setDom_same, hdelta]
    rfl
  have hlt' : (s.setDom d (syncNoted s d)).lt < an + 1000000000 := by
    rw [State.lt, time_lt_setDom]
    exact hlt
  have hann : announceOwn (s.setDom d (syncNoted s d)) d = s.setDom d (syncNoted s d) :=
    announceOwn_waits (by rw [dom_setDom_same]; exact ha) hlt'
  have hclk : (s.setDom d (syncNoted s d)).domClock d = s.domClock d := domClock_setDom (by rfl) (by rfl) (by rfl)
  refine (if_neg hdue).trans ?_
  rw [hhold, hfollow, hann, hclk, syncLog_setDom]
  rfl

/-- Without canary rules, a gPTP frame that leaves moves its port's sequence number and two counters (R93, R157). -/
theorem sendPtp_untapped {f : Frame} (h : s.sw.canaries = []) : sendPtp s p f = (((s.count cTxFrames p).count cTxBytes p f.len).setPort p
    { s.port p with ptpSeq := ((s.port p).ptpSeq + 1) % 65536 }).emit (.frame p f false) := by
  have hnone : (((((s.count cTxFrames p).count cTxBytes p f.len).setPort p
    { s.port p with ptpSeq := ((s.port p).ptpSeq + 1) % 65536 }).emit (.frame p f false))).sw.canaries = [] := h
  simp only [sendPtp, canaryTap, hnone]
  rfl

theorem carries_sendPtp {f : Frame} (h : s.sw.canaries = []) (q : Nat) : (sendPtp s p f).carries q = s.carries q := by
  rw [sendPtp_untapped h]
  by_cases hq : q = p <;> simp [State.carries, State.ptpOn, State.passThrough, hq]

/-- The Sync that this hub sends for a domain (R157; log 13). -/
def syncFrame (s : State) (d p : Nat) (log rate : Int) (o : Nat) (c : Int) : Frame :=
  ptpFrame s p 0 (s.dom d).num (s.port p).ptpSeq c log (beBytes 6 (o / 1000000000) ++ beBytes 4 (o % 1000000000) ++
    if (s.port p).ptpProfile = 1 then
      beBytes 2 3 ++ beBytes 2 28 ++ beBytes 3 0x0080C2 ++ beBytes 3 1 ++ beBytes 4 (unsignedOf 32 (rate / 128)) ++ zeros 18 else [])

/-- A loop in which one round alone acts gives what that round gives. -/
theorem forEach_of_single {α : Type} {l m : List α} {a : α} {f : α → State → State} {t : State} (hl : ∀ b ∈ l, f b s = s) (ha : f a s = t)
    (hm : ∀ b ∈ m, f b t = t) : forEach (l ++ a :: m) s f = t := by
  have hbefore := forEach_of_fixed_mem hl
  have hafter := forEach_of_fixed_mem hm
  rw [forEach] at hbefore hafter ⊢
  rw [List.foldl_append, hbefore, List.foldl_cons, ha, hafter]

/-- Where port 1 alone is a master port, a Sync leaves there alone (R154, R157). -/
theorem sendSync_port1 {log rate : Int} {f : Nat → Nat × Int} (h1 : s.masterPort d 1 = true) (ho : ∀ p, p < 6 → p ≠ 1 → s.carries p = false)
    (hc : s.sw.canaries = []) : sendSync s d log rate f = sendPtp s 1 (syncFrame s d 1 log rate (f 1).1 (f 1).2) := by
  have hsent (p : Nat) (h6 : p < 6) (hp : p ≠ 1) :
      (sendPtp s 1 (syncFrame s d 1 log rate (f 1).1 (f 1).2)).carries p = false := (carries_sendPtp hc p).trans (ho p h6 hp)
  refine forEach_of_single (l := [0]) (a := 1) (m := [2, 3, 4, 5]) (fun p hp => ?_) (if_pos h1) fun p hp => ?_
  · rw [List.mem_singleton.mp hp, masterPort_of_not_carries (ho 0 (by decide) (by decide))]
    rfl
  · have hrange : p < 6 ∧ p ≠ 1 := by
      simp only [List.mem_cons, List.not_mem_nil, or_false] at hp
      omega
    rw [masterPort_of_not_carries (hsent p hrange.1 hrange.2)]
    rfl

/-- A grandmaster's Sync on port 1 (R157, R171): its bytes, and what stands after it. -/
theorem syncSend_port1 {an : Nat} (hg : (s.dom d).isGm = true) (hst : (s.dom d).st = 3) (hp : s.passThrough = false)
    (h0 : (s.dom d).sentAt = 0) (ha : (s.dom d).annAt = some an) (hlt : s.lt < an + 1000000000) (hf : s.time.follow ≠ d)
    (hsrc : s.time.source ≠ 3) (ho : ∀ p, p < 6 → p ≠ 1 → s.carries p = false) (hr : (s.port 1).oneStepRefused = false)
    (h1 : s.carries 1 = true) (hc : s.sw.canaries = []) :
    let o := (((s.domClock d).ns : Int) + (txCorr s 1 : Nat) + (s.port 1).txAdj).toNat
    ((syncSend s d).dom d).sentAt = s.lt ∧ (syncSend s d).time.work = s.time.work ∧
    (syncSend s d).out = s.out ++
      [.frame 1 (syncFrame s d 1 s.time.syncLog (s.domClock d).rate o ((s.domClock d).t % nsUnit / 4294967296 : Nat)) false] := by
  intro o
  let t := s.setDom d (syncNoted s d)
  have hnum : (t.dom d).num = (s.dom d).num := by rw [dom_setDom_same]; rfl
  have hmaster : t.masterPort d 1 = true := by
    simp [State.masterPort, t, carries_setDom, h1, dom_setDom_same, syncNoted, hg, hr]
  have hframe (log rate : Int) (o : Nat) (c : Int) : syncFrame t d 1 log rate o c = syncFrame s d 1 log rate o c := by
    rw [syncFrame, syncFrame, hnum]
    rfl
  rw [syncSend_due hg hst hp h0 ha hlt hf hsrc, sendSync_port1 hmaster ho hc, hframe, sendPtp_untapped (s := t) hc]
  refine ⟨?_, (time_setDom s d _).1, rfl⟩
  exact congrArg Domain.sentAt (dom_setDom_same s d (syncNoted s d))

/-! Peer delay (R153 to R155). -/

theorem ptpOff_quiet (h6 : p < 6) (h : (s.port p).ptpProfile ≠ 0) : ptpOff s p = s := by
  simp [ptpOff, h, Nat.not_le.mpr h6, State.countIf]

theorem exec_pdelayExchange_idle {trip : Option Int} (h : p < 16)
    (hi : s.ptpOn p = false ∨ ∃ t, (s.port p).pdelayAt = some t ∧ s.lt < t + (s.port p).pdelayNs) : exec (.pdelayExchange p trip) s = .next s := by
  refine (if_pos h).trans (congrArg _ (if_pos ?_))
  rcases hi with h | ⟨t, ht, hlt⟩
  · simp [h]
  · simp [ht, hlt]

/-- A Pdelay_Req leaves, and the exchange's outcome is noted (R153 to R155). -/
theorem exec_pdelayExchange_due {trip : Option Int} (h : p < 16) (hon : s.ptpOn p = true)
    (hd : (s.port p).pdelayAt = none ∨ ∃ t, (s.port p).pdelayAt = some t ∧ t + (s.port p).pdelayNs ≤ s.lt) :
    let u := sendPtp s p (ptpFrame s p 2 0 (s.port p).ptpSeq 0 (if (s.port p).pdelays < 4 then -5 else (s.port p).pdelayLog) (zeros 20))
    exec (.pdelayExchange p trip) s = .next (elects (capCheck (u.setPort p { u.port p with
      pdelayAt := some u.lt, pdelays := (s.port p).pdelays + 1, asCapable := trip.isSome
      meanDelay := (trip.map (linkDelay u p)).getD (s.port p).meanDelay }) p)) := by
  refine (if_pos h).trans (congrArg _ (if_neg ?_))
  rcases hd with h | ⟨t, ht, hle⟩
  · simp [hon, h]
  · simp [hon, ht, hle]

/-! PPS_IN and PPS_OUT (R172, R173). -/

theorem ppsMeasure_of_none {dt : Option Nat} (h : (s.dom d).todSec = none) : ppsMeasure s d dt = s := by
  simp [ppsMeasure, h]

/-- An edge 1 s ± 1 ms after the last accepted one (R172). -/
theorem ppsInEdge_accepted {r : Bool} {l : Nat} (hr : r ≠ s.time.ppsFalling) (hl : s.time.ppsLast = some l)
    (hlo : l + 1000000000 ≤ s.lt + 1000000) (hhi : s.lt ≤ l + 1001000000) :
    let up := !s.time.ppsOk && decide (s.time.ppsRun + 1 ≥ 3)
    let u := raiseIf (s.setTime { s.time with
      ppsLast := some s.lt, ppsRun := s.time.ppsRun + 1, ppsOk := s.time.ppsOk || up }) up (srcTime 10) 1 0
    ppsInEdge s r = ppsMeasure (ppsMeasure u 1 (some (s.lt - l))) 2 (some (s.lt - l)) := by
  simp [ppsInEdge, hr, hl, hlo, hhi]

/-- One that comes too early or too late is counted alone (R172). -/
theorem ppsInEdge_off {r : Bool} {l : Nat} (hr : r ≠ s.time.ppsFalling) (hl : s.time.ppsLast = some l)
    (h : s.lt + 1000000 < l + 1000000000 ∨ l + 1001000000 < s.lt) : ppsInEdge s r = s.count cPpsInBad 0 := by
  have hout : (decide (s.lt + 1000000 ≥ l + 1000000000) && decide (s.lt ≤ l + 1001000000)) = false := by
    rcases h with h | h
    · rw [decide_eq_false (Nat.not_le.mpr h), Bool.false_and]
    · rw [decide_eq_false (Nat.not_le.mpr h), Bool.and_false]
  simp only [ppsInEdge, beq_eq_false_iff_ne.mpr hr, hl, hout]
  rfl

/-- A domain whose PPS_IN is lost: the seconds given are taken back, a valid time of day goes on relayed (R171, R172). -/
def Domain.withoutPps (x : Domain) : Domain := { x with relayed := x.relayed || x.todValid, todSec := none }

theorem exec_ppsInLost_early {l : Nat} (hl : s.time.ppsLast = some l) (h : s.lt ≤ l + 3001000000) : exec .ppsInLost s = .next s := by
  show execPpsInLost s = _
  simp only [execPpsInLost, hl, if_pos h]

/-- Three missing edges end the sequence (R172). -/
theorem exec_ppsInLost_due {l : Nat} (hl : s.time.ppsLast = some l) (h : l + 3001000000 < s.lt) :
    exec .ppsInLost s = .next (raiseIf (s.setTime { s.time with
      ppsOk := false, ppsRun := 0, ppsLast := none, domA := s.time.domA.withoutPps, domB := s.time.domB.withoutPps })
      s.time.ppsOk (srcTime 9) 1 0) := by
  show execPpsInLost s = _
  simp only [execPpsInLost, hl, if_neg (Nat.not_le.mpr h)]
  rfl

end

/-- Settles O23, clause by clause. -/
theorem clockSending : Obligations.ClockSending := by
  unfold Obligations.ClockSending
  refine ⟨fun s d hd => ⟨fun h => ?idle, fun h0 hlt => ?waits, fun an hg hst hp h0 ha hlt hf hsrc ho hr h1 hc => ?sends⟩,
    fun s p hp => ⟨fun trip hoff => ?off, fun trip t ht hlt => ?early, fun trip hon hd => ?exchange, fun v => rfl,
      fun m hm hon => ?answered, fun m hm h => ?counted, fun m hm h6 hprof hoff => ?quiet, fun h6 h => ?refusedBefore, fun h6 h => ?refused⟩,
    fun s => ⟨fun r hr => ?otherEdge, fun r l hr hl h => ?badEdge, fun r l hr hl hlo hhi ha hb h => ?goodEdge,
      fun r l hr hl hlo hhi hok hrun => ?thirdEdge, fun hl => ?neverSeen, fun l hl h => ?notLost, fun l hl h => ?lost,
      fun hc hv => ?held, fun hc => ?pulse⟩⟩
  case idle => exact (if_pos hd).trans (congrArg _ (syncSend_idle h))
  case waits => exact (if_pos hd).trans (congrArg _ (syncSend_waits h0 hlt))
  case sends =>
    have hother : s.time.follow ≠ d := by
      rw [hf, other]
      split <;> omega
    exact ⟨syncSend s d, if_pos hd, syncSend_port1 hg hst hp h0 ha hlt hother hsrc ho hr h1 hc⟩
  case off => exact exec_pdelayExchange_idle hp (.inl hoff)
  case early => exact exec_pdelayExchange_idle hp (.inr ⟨t, ht, hlt⟩)
  case exchange =>
    refine (exec_pdelayExchange_due hp hon hd).trans ?_
    cases trip <;> rfl
  case answered =>
    subst hm
    exact (if_pos hp).trans (congrArg _ (if_neg (by simp [hon])))
  case counted =>
    subst hm
    exact (if_pos hp).trans (congrArg _ ((if_pos (by simp [ptpOn_of_off h])).trans (ptpOff_of_off h)))
  case quiet =>
    subst hm
    exact (if_pos hp).trans (congrArg _ ((if_pos (by simp [hoff])).trans (ptpOff_quiet h6 hprof)))
  case refusedBefore => exact (if_pos h6).trans (congrArg _ (if_pos h))
  case refused => exact (if_pos h6).trans (congrArg _ (if_neg (by simp [h])))
  case otherEdge => exact congrArg _ (if_pos (beq_iff_eq.mpr hr))
  case badEdge => exact congrArg _ (ppsInEdge_off hr hl h)
  case goodEdge =>
    have hup : (!s.time.ppsOk && decide (s.time.ppsRun + 1 ≥ 3)) = false := by
      rcases h with h | h
      · simp [h]
      · simp [show ¬3 ≤ s.time.ppsRun + 1 by omega]
    refine congrArg _ ((ppsInEdge_accepted hr hl hlo hhi).trans ?_)
    rw [hup, Bool.or_false]
    refine (congrArg (ppsMeasure · 2 _) (ppsMeasure_of_none ?_)).trans (ppsMeasure_of_none ?_)
    · exact ha
    · exact hb
  case thirdEdge =>
    have hin : (ppsInEdge s r).time.ppsIn = (some s.lt, true) := by
      rw [ppsInEdge_accepted hr hl hlo hhi, ppsIn_ppsMeasure, ppsIn_ppsMeasure, time_raiseIf, State.setTime_time]
      simp [Time.ppsIn, hok, hrun]
    exact ⟨ppsInEdge s r, rfl, congrArg Prod.snd hin, congrArg Prod.fst hin⟩
  case neverSeen =>
    show execPpsInLost s = _
    simp only [execPpsInLost, hl]
  case notLost => exact exec_ppsInLost_early hl h
  case lost =>
    refine ⟨_, exec_ppsInLost_due hl h, ?_⟩
    rw [time_raiseIf]
    exact ⟨rfl, rfl, rfl, rfl⟩
  case held =>
    show execPpsOutPulse s = _
    simp [execPpsOutPulse, State.outClk, State.work, hc, hv]
  case pulse =>
    show execPpsOutPulse s = _
    have hclk : s.outClk = s.time.lt := by simp [State.outClk, hc]
    simp only [execPpsOutPulse, hclk, hc]
    rfl

end Sys2Proof.Machine
